-- ==== Sys2Proof/Word.lean ====
section
/-! DEFINITION. The plain types every other file names: words, bytes and the sparse table that holds
numbered state. Little-endian order is R12; the helpers over these types stand in Machine/Ops.lean. -/

namespace Sys2Proof

/-- A 32-bit register or packet word. -/
abbrev Word := BitVec 32

/-- A byte of host memory, package memory or an activation buffer. -/
abbrev Byte := BitVec 8

/-- A 64-bit Funnel or counter word. -/
abbrev DWord := BitVec 64

/-- A string of bytes in address order. -/
abbrev Bytes := List Byte

/-- A sparse table: entries by number, numbers rising. An unlisted number reads as the default its
reader names. -/
abbrev Tbl (α : Type) := List (Nat × α)

end Sys2Proof
end

