-- ==== Sys2Proof/Syntax.lean ====
section
/-! DEFINITION. The commands of the block: one constructor for each row of the table of operations and
events, with what the row carries from outside. A unit is named by a Fin of its range (Table 0.3); an
analogue measurement enters as an operand (log 15). -/

namespace Sys2Proof

/-- The request header of Table 10.2 with the place the request came from (R272, R284). -/
structure Hdr where
  fn : Fin 32
  lane : Fin 16
  level : BitVec 4
  fence : Bool
  irq : Bool
  tag : Word
  partition : BitVec 8
  queue : BitVec 8
  atTick : BitVec 64
deriving DecidableEq, Repr

/-- The node message header of Table 11.12 as received on a port (R336). -/
structure MsgHdr where
  port : Fin 2
  magic : BitVec 16
  level : BitVec 8
  type : BitVec 8
  srcNode : BitVec 16
  seq : Word
  ack : Word
  partition : BitVec 8
deriving DecidableEq, Repr

/-- One reading of a known-sum vector (R144, R145): type (0 D, 1 R, 2 X, 3 T), sub-block, group or index,
column, and the mean code in 1/16 step. A column not listed read exactly its expected sum. -/
structure KatReading where
  type : Fin 4
  index : Nat
  column : Nat
  mean16 : Int
deriving DecidableEq, Repr

/-- What a converter calibration measured (R138): the trims it needs that are not 0 (column, then 1/16
step; column, gain index, then units of 2^-12) and the residual baselines that are not 0 (block, then 1/16
step). -/
structure CalReading where
  offsets : List (Nat × Int)
  gains : List (Nat × Nat × Int)
  baselines : List (Nat × Int)
deriving DecidableEq, Repr

/-- A reference sample (R78, R141): the mean codes of columns 528, 529, 530, 531 and 535 in 1/16 step and
the die temperature in 0.1 °C. -/
structure RefReading where
  m528 : Int
  m529 : Int
  m530 : Int
  m531 : Int
  m535 : Int
  temp : Int
deriving DecidableEq, Repr

/-- How the flits of one Ladle message fared (R174): corrected single-bit errors, and the number of failed
transfers of the flit that failed most. -/
structure FlitFate where
  corrected : Nat
  failures : Nat
deriving DecidableEq, Repr

/-- The commands (opcode_table.json, one constructor a row). -/
inductive Instr where
  | coldPowerOn
  | resetNAssert
  | resetNRelease
  | startupReady
  | fwFallback (readyNotReached : Bool)
  | pwrFailNAssert
  | crockSaveDone
  | pciePerstNAssert
  | flrVf (vf : Fin 32)
  | flrPf
  | refclkLost
  | refclkRestored
  | powerMeasure (tenMilliwatt : BitVec 16)
  | fastLimiter (tenMilliwatt : BitVec 16)
  | thermalSample (tj : BitVec 16)
  | powerTargetActive (fn : Fin 32)
  | powerTargetIdle (fn : Fin 32)
  | powerTargetArrayRetain (fn : Fin 32)
  | powerTargetStandby (fn : Fin 32)
  | coreQuiesce (fn : Fin 32) (core : Fin 32)
  | coreUnquiesce (fn : Fin 32) (core : Fin 32)
  | tbArm (fn : Fin 32)
  | tbStop (fn : Fin 32)
  | sysrefEdge (marginal : Bool)
  | tbTickLoRead (fn : Fin 32)
  | trigInEdge (pin : Fin 8) (rising : Bool) (short : Bool) (ps : Fin 4000)
  | trigOutAssert (pin : Fin 8)
  | tickPtpCapture
  | laneSyncLock (lane : Fin 16)
  | laneLockLoss (lane : Fin 16)
  | sampleArrival (link : Fin 4) (k0 : Nat) (crcBad : BitVec 16) (frames : List (List (BitVec 16 × BitVec 3)))
  | linkDownDrop (flow : Fin 16384)
  | pushWindowWrite (fn : Fin 32) (offset : BitVec 20) (data : List Word)
  | pullRingPoll (fn : Fin 32) (lane : Fin 16)
  | packetTake (fn : Fin 32) (lane : Fin 16)
  | atTickDue
  | fenceRelease (fn : Fin 32) (lane : Fin 16)
  | replyWrite (fn : Fin 32) (ring : Fin 16)
  | msixHoldoffEnd (fn : Fin 32) (vector : Fin 64)
  | laneEnable (fn : Fin 32) (lane : Fin 16)
  | laneDisable (fn : Fin 32) (lane : Fin 16)
  | replyEnable (fn : Fin 32) (ring : Fin 16)
  | ptReplyRead (fn : Fin 32) (ring : Fin 16) (value : Word)
  | registerWrite (fn : Fin 32) (offset : BitVec 20) (wide : Bool) (value : BitVec 64)
  | nop (h : Hdr) (w : List Word)
  | getCaps (h : Hdr) (w : List Word)
  | setLevel (h : Hdr) (w : List Word)
  | commit (h : Hdr) (w : List Word)
  | commitTick (part : Fin 8)
  | cmdCancel (h : Hdr) (w : List Word)
  | stageDiscard (h : Hdr) (w : List Word)
  | modelLoad (h : Hdr) (w : List Word)
  | tileProgram (h : Hdr) (w : List Word)
  | tileVerify (h : Hdr) (w : List Word)
  | modelCommit (h : Hdr) (w : List Word)
  | modelRetire (h : Hdr) (w : List Word)
  | tileConfig (h : Hdr) (w : List Word)
  | flowOpen (h : Hdr) (w : List Word)
  | flowBind (h : Hdr) (w : List Word)
  | flowClose (h : Hdr) (w : List Word)
  | flowClosed (flow : Fin 16384)
  | flowSnapshot (h : Hdr) (w : List Word)
  | krnSubmit (h : Hdr) (w : List Word)
  | krnDefine (h : Hdr) (w : List Word)
  | krnRelease (h : Hdr) (w : List Word)
  | syncRead (h : Hdr) (w : List Word)
  | syncSet (h : Hdr) (w : List Word)
  | trigPulse (h : Hdr) (w : List Word)
  | ruleSet (h : Hdr) (w : List Word)
  | ruleClear (h : Hdr) (w : List Word)
  | tickRead (h : Hdr) (w : List Word)
  | igChanSet (h : Hdr) (w : List Word)
  | igDecSet (h : Hdr) (w : List Word)
  | igCoefLoad (h : Hdr) (w : List Word)
  | maintStart (h : Hdr) (w : List Word)
  | selftest (h : Hdr) (w : List Word)
  | recal (h : Hdr) (w : List Word)
  | hkSeq (h : Hdr) (w : List Word)
  | hkCalZero (h : Hdr) (w : List Word)
  | hkCalFull (h : Hdr) (w : List Word)
  | attest (h : Hdr) (w : List Word)
  | fwStage (h : Hdr) (w : List Word)
  | fwActivate (h : Hdr) (w : List Word)
  | faultRead (h : Hdr) (w : List Word)
  | faultExport (h : Hdr) (w : List Word)
  | unitRetire (h : Hdr) (w : List Word)
  | unitRestore (h : Hdr) (w : List Word)
  | netPortSet (h : Hdr) (w : List Word)
  | netPeerSet (h : Hdr) (w : List Word)
  | netStatus (h : Hdr) (w : List Word)
  | slicerCycle (part : Fin 8)
  | overloadClear (part : Fin 8)
  | flowEntryWatchdog (part : Fin 8) (line : Fin 16384)
  | layer (core : Fin 32) (queue : Fin 4)
  | signal (core : Fin 32) (queue : Fin 4)
  | wait (core : Fin 32) (queue : Fin 4)
  | lidArrive (core : Fin 32) (queue : Fin 4)
  | fence (core : Fin 32) (queue : Fin 4)
  | workReset (core : Fin 32) (queue : Fin 4)
  | signalArrival (src : Fin 32) (dst : Fin 32) (fate : FlitFate)
  | stockpotSignalApply (core : Fin 32)
  | lidEdge (line : Fin 16)
  | fenceAck (core : Fin 32) (queue : Fin 4)
  | workClaim (core : Fin 32) (queue : Fin 4)
  | workClaimReply (core : Fin 32) (queue : Fin 4)
  | queueWatchdog (core : Fin 32) (queue : Fin 4)
  | scoopCodes (core : Fin 32) (queue : Fin 4)
  | tileOpAdmit (core : Fin 32) (queue : Fin 4)
  | phaseStart (core : Fin 32) (tile : Fin 33)
  | phaseLatch (core : Fin 32) (tile : Fin 33) (deviation : List (Nat × Int))
  | tongsDone (core : Fin 32) (first : List KatReading) (second : List KatReading)
  | skilletStep (core : Fin 32) (queue : Fin 4)
  | psumArrival (src : Fin 32) (dst : Fin 32) (fate : FlitFate)
  | activationArrival (src : Fin 32) (dst : Fin 32) (fate : FlitFate)
  | sieveBatchEnd (core : Fin 32) (tile : Fin 33) (block : Fin 16)
  | blockScan (core : Fin 32) (tile : Fin 33) (readings : List (Nat × Nat × Int))
  | checksDone (part : Fin 8)
  | funnelReserve (part : Fin 8)
  | funnelDmaBurst (part : Fin 8)
  | ptFnRead (fn : Fin 32) (part : Fin 8) (value : Word)
  | ptFnPio (fn : Fin 32) (part : Fin 8) (first : Fin 64) (bytes : Nat)
  | refSampleDue (core : Fin 32) (tile : Fin 33)
  | refSampleDone (core : Fin 32) (tile : Fin 33) (r : RefReading)
  | gainFeedforward (core : Fin 32) (temp : Int)
  | calWithhold (core : Fin 32) (tile : Fin 33)
  | convCalDue (core : Fin 32) (tile : Fin 33)
  | convCalDone (core : Fin 32) (tile : Fin 33) (r : CalReading) (again : CalReading) (temp : Int)
  | tileTestDue (core : Fin 32) (tile : Fin 33)
  | tileTestDone (core : Fin 32) (tile : Fin 33) (first : List KatReading) (second : List KatReading)
  | coreSelftestSlice (core : Fin 32) (failed : Option (BitVec 16)) (last : Bool)
  | maintArbiterRun
  | programmingStart (core : Fin 32) (tile : Fin 33)
  | programmingDone (core : Fin 32) (tile : Fin 33) (unverified : List (Nat × Nat)) (known : List KatReading)
      (cal : CalReading) (r : RefReading)
  | modelEraseStart (core : Fin 32) (tile : Fin 33)
  | tileEraseDone (core : Fin 32) (tile : Fin 33)
  | patrolScrub (line : Nat) (corrected : Bool)
  | memUncorrectable (line : Nat) (bothCopies : Bool)
  | stockpotUncorr (line : Fin 16384)
  | portLinkUp (port : Fin 2)
  | helloTimer
  | hello (m : MsgHdr) (levels : BitVec 8) (highest : BitVec 8) (fw : Word) (format : BitVec 16) (serial : BitVec 64)
  | record (m : MsgHdr) (payload : List Byte)
  | ack (m : MsgHdr)
  | ringCredit (m : MsgHdr) (offset : BitVec 64)
  | traceRead (m : MsgHdr) (offset : Word) (count : Word)
  | recordResend (part : Fin 8) (peer : Fin 64)
  | arpRequest (port : Fin 2) (target : Word)
  | neighbourSolicitation (port : Fin 2) (target : BitVec 128)
  | netRxDrop (port : Fin 2)
  | ptpSync (port : Fin 2) (domain : BitVec 8) (twoStep : Bool) (offset : Int)
  | ptpSyncTimeout
  | roceAck (part : Fin 8) (peer : Fin 64) (psn : BitVec 24)
  | roceNak (part : Fin 8) (peer : Fin 64) (psn : BitVec 24) (remoteAccess : Bool)
  | roceCnp (part : Fin 8) (peer : Fin 64)
  | roceTimeout (part : Fin 8) (peer : Fin 64)
  | roceRateRecover (part : Fin 8) (peer : Fin 64)
  | probeConversion (level16 : Int)
  | hkAlertClear (fn : Fin 32) (value : Word)
  | tracePinSend
  | smbReadDevice
  | smbReadStatus
  | smbReadTjNow
  | smbReadTjPeak
  | smbReadPkgPower
  | smbReadStepping
  | smbReadPartSerial
  | smbReadFwVersion
  | smbReadHkEntry (entry : Fin 16)
  | smbReadHkAlert
  | smbusTimeout
  | bypass
  | idcode
  | samplePreload (chain : List Bool)
  | extest
  | clamp
  | highz
  | vddAonFall
  | pwrFailNDeassert
  | pciePerstNRelease
  | portLinkDown (port : Fin 2)
  | coreSram (core : Fin 32) (queue : Fin 4) (array : BitVec 4) (address : BitVec 24)
  | mirrorUncorrectable
  | powerState
  | vfEnable (count : Fin 32)
  | busMasterEnable (fn : Fin 32) (on : Bool)
  | announce (port : Fin 2) (domain : BitVec 8) (rank : Nat) (master : BitVec 64)
  | followUp (port : Fin 2) (domain : BitVec 8) (offset : Int)
  | delayResp (port : Fin 2) (domain : BitVec 8) (delay : Int)
  | pfc (port : Fin 2) (prio : Fin 8) (quanta : BitVec 16)
deriving DecidableEq, Repr

end Sys2Proof
end

