-- ==== Sys2Proof/Machine/State.lean ====
section
/-! DEFINITION. The state of the device as plain data, and State.reset: the part as shipped, right after
cold power-on has recovered the Crock and RESET_N has been released, before start-up completes (R392,
R397, R460; log 2). Every register of a register table starts at the table's Reset column; what the manual
gives no reset value for is named in log 4. -/

namespace Sys2Proof.Machine

/-- The machine stops with a fault only on a command that no bus or pin could carry. -/
inductive Fault where
  /-- Raised by a meaning whose operands fail WellFormed.check: the command has no form on any interface
  of the device. Safe: nothing is claimed of such a command. -/
  | illFormed
deriving DecidableEq, Repr

/-- The machine refuses a command. -/
inductive Refusal where
  /-- Raised by an arm of exec whose command has no meaning yet. Safe: nothing is claimed of it. -/
  | notModelled (mnemonic : String)
deriving DecidableEq, Repr

/-! ## Records of the Crock -/

/-- Table 12.7: one fault record. -/
structure FaultRec where
  index : Nat
  kind : Nat
  outcome : Nat
  unitKind : Nat
  partition : Nat
  core : Nat
  tile : Nat
  column : Nat
  lane : Nat
  opcode : Nat
  flow : Nat
  tag : Nat
  powerS : Nat
  tick : Nat
  ptpSec : Nat
  ptpLocked : Bool
  ptpNs : Nat
  temp : Int
  vcore : Nat
  detail : Nat
  address : Nat
deriving DecidableEq, Repr

/-- Table 5.6: one stuck-map entry. -/
structure StuckEntry where
  core : Nat
  tile : Nat
  row : Nat
  column : Nat
  cause : Nat
deriving DecidableEq, Repr

/-- R389: one valid retirement-list entry; kind 0 data column, 1 checksum column, 2 core, 3 ingest lane. -/
structure RetireEntry where
  core : Nat
  tile : Nat
  column : Nat
  lane : Nat
  kind : Nat
deriving DecidableEq, Repr

/-- Table 5.5: the calibration record of a tile. state: 0 Blank, 1 Held, 2 Ready, 3 Suspect, 4 Retired,
5 Interrupted. -/
structure CalRec where
  state : Nat
  age : Nat
  eqAge : Nat
  digest : Bytes
  e528 : Int
  e529 : Int
  e530 : Int
  e531 : Int
  e535 : Int
  b528 : Int
  b529 : Int
  b530 : Int
  b531 : Int
deriving DecidableEq, Repr

/-- Table 14.3: the calibration of one AUX_IN pin. -/
structure ProbeCal where
  state : Nat
  z16 : Int
  gain : Nat
  vfs : Nat
  powerS : Nat
deriving DecidableEq, Repr

/-- Table 13.1 and Table 13.3: the Crock journal. -/
structure Journal where
  format : Nat
  bootCount : Nat
  powerS : Nat
  lastHalt : Nat
  tickReached : Bool
  tickMax : Nat
  coreState : Tbl Nat
  cal : Tbl CalRec
  retired : List RetireEntry
  stuck : List StuckEntry
  faults : List FaultRec
  nextFault : Nat
  probe : Tbl ProbeCal
deriving DecidableEq, Repr

/-- Table 13.2: one copy in the non-volatile array with its header. -/
structure CrockCopy where
  magicOk : Bool
  formatOk : Bool
  complete : Nat
  seq : Nat
  crcOk : Bool
  journal : Journal
deriving DecidableEq, Repr

/-- A save under way (R390): target copy (0 A, 1 B), the LAST_HALT it writes, the frozen journal and the
command that asked for it. -/
structure SaveJob where
  target : Nat
  lastHalt : Nat
  frozen : Journal
  cmd : Option Nat
deriving DecidableEq, Repr

/-- The Crock: mirrors and copies (R388). foldClk is the clk up to which POWER_S and the tile ages stand
folded into the mirrors (Table 13.4). -/
structure Crock where
  foldClk : Nat
  mirror : Journal
  copyA : CrockCopy
  copyB : CrockCopy
  save : Option SaveJob
  dirty : Bool
  newest : Nat
  recovered : Bool
deriving DecidableEq, Repr

/-! ## Power and start-up -/

/-- What start-up is under way (R397, R399). -/
inductive Startup where
  | none
  | cold
  | reset
  | standby
deriving DecidableEq, Repr

/-- An event waiting for the Funnels to run (R392, R400). -/
structure EventRec where
  code : Nat
  severity : Nat
  fault : Nat
  p0 : Nat
  p1 : Nat
  p2 : Nat
  p3 : Nat
deriving DecidableEq, Repr

/-- Pins, power state, clock step and temperature (R392 to R410, Table 13.11). -/
structure Power where
  resetN : Bool
  pwrFailN : Bool
  perstN : Bool
  aonOk : Bool
  startup : Startup
  ready : Bool
  halted : Bool
  fatal : Bool
  thermTrip : Bool
  state : Nat
  transition : Option Nat
  refused : Bool
  step : Nat
  pkgPower : Nat
  coolPower : Nat
  throttlePower : Bool
  throttleTherm : Bool
  reduced : Bool
  coolTherm : Nat
  low : Bool
  limiter : Bool
  tjNow : Int
  tjPeak : Int
  refclkLost : Bool
  rollback : Bool
  crockTie : Bool
  crockLost : Bool
  fwFallback : Bool
  cellClamp : Bool
  pendingEvents : List EventRec
deriving DecidableEq, Repr

/-! ## Firmware, keys, identity -/

/-- A firmware slot (Table 13.9). -/
structure FwSlot where
  bootable : Bool
  version : Nat
  keySlot : Nat
  commitSvn : Bool
  revokeMask : Nat
  installMask : Nat
  svn : List Nat
  digest : Bytes
  keys : List Bytes
deriving DecidableEq, Repr

/-- A key-hash slot in fuses (R411). -/
structure KeySlot where
  programmed : Bool
  revoked : Bool
  hash : Bytes
deriving DecidableEq, Repr

/-- Table 3.3: the noise card. Q4.12 fields are held as their 16-bit values. -/
structure NoiseCard where
  format : Nat
  testDate : Nat
  serial : Nat
  grade : Nat
  stepping : Nat
  testTemp : Nat
  progSigma : Nat
  progMean : Int
  readNoiseConv : Nat
  readNoiseCell : Nat
  readNoiseG128 : Nat
  offsetSigma : Nat
  dnlMax : Nat
  driftNu : Nat
  driftNuSigma : Nat
  driftLevelSlope : Nat
  driftEa : Nat
  driftT0 : Nat
  tcCell : Int
  tcCellSigma : Nat
  tcRefrow : Int
  tcRefrowSigma : Nat
  readStress : Nat
  gainEstSigma : Nat
  coreNoise : List Nat
deriving DecidableEq, Repr

/-- Fuses, firmware slots, card and chain (R74, R411 to R417). -/
structure Security where
  slotA : FwSlot
  slotB : FwSlot
  active : Nat
  staged : Bool
  stagedVersion : Nat
  activatePending : Bool
  tried : Option Nat
  keySlots : List KeySlot
  svn : List Nat
  sigForce : Bool
  card : NoiseCard
  chain : Bytes
deriving DecidableEq, Repr

/-! ## Host side and intake -/

/-- A push-window slot (R273, R274): the words written so far, and whether its packet has committed. -/
structure Slot64 where
  words : Tbl Word
  committed : Bool
deriving DecidableEq, Repr

/-- A reply waiting for room in its ring (R281, R282): its words, whether it raises the vector, the lane its
request came from and whether it is the final one (R279). -/
structure Reply where
  words : List Word
  irq : Bool
  lane : Nat
  final : Bool
deriving DecidableEq, Repr

/-- A command lane and the reply ring of the same number (Table 10.3); replyUsed counts the slots written and
not yet reported read. -/
structure Lane where
  enable : Bool
  mode : Bool
  replyEnable : Bool
  vector : Nat
  holdoff : Nat
  periodTk : Nat
  pullBase : Nat
  pullLog2 : Nat
  prodAddr : Nat
  consAddr : Nat
  replyBase : Nat
  replyLog2 : Nat
  replyRead : Nat
  replyWrite : Nat
  replyUsed : Nat
  replyPhase : Bool
  slots : Tbl Slot64
  order : List Nat
  consumer : Nat
  pulled : List (List Word)
  held : List Reply
  fenceWait : Option Nat
deriving DecidableEq, Repr

/-- An MSI-X vector's HOLDOFF (R282): the clk at which it ends, its length, and whether replies were written
in it. -/
structure Holdoff where
  until_ : Nat
  span : Nat
  pending : Bool
deriving DecidableEq, Repr

/-- What leaves the device on its outward interfaces, in order (log 8). -/
inductive Out where
  | msix (fn : Nat) (vector : Nat)
  | frame (port : Nat) (kind : Nat) (dest : Nat) (data : Bytes)
  | smbus (data : Bytes)
  | busRead (fn : Nat) (data : Nat)
  | pio (data : Bytes)
  | traceRecord (data : Bytes)
  | trigOut (pin : Nat) (active : Bool) (at125ps : Nat)
  | aerUncorrectable
  | tdo (bits : List Bool)
  | pins (bits : List Bool)
deriving DecidableEq, Repr

/-- The host interface: functions, MSI-X, host memory, what has left (R308 to R314). -/
structure HostSide where
  mem : List Host.Cell
  numVfs : Nat
  busMaster : Nat
  speed : Nat
  width : Nat
  linkUp : Bool
  configServed : Bool
  lanes : Tbl Lane
  msix : Tbl Word
  pba : Tbl Bool
  holdoffs : Tbl Holdoff
  level : Tbl Nat
  out : List Out
deriving DecidableEq, Repr

/-! ## Preoft: commands, staging, models, kernels -/

/-- Why a taken command is not finished (R277 to R279, R385). -/
inductive CmdWait where
  | atTick
  | fence
  | deferred
  | running
  | staged
  | parked
deriving DecidableEq, Repr

/-- A command taken and not yet answered with its final reply. -/
structure Cmd where
  id : Nat
  h : Hdr
  op : Nat
  w : List Word
  wait : CmdWait
  takenTick : Nat
deriving DecidableEq, Repr

/-- A staged command (R291). -/
structure Staged where
  h : Hdr
  op : Nat
  w : List Word
  cmd : Option Nat
deriving DecidableEq, Repr

/-- An open staging set (R291, R292): commands and register writes (offset, mask, value). -/
structure OpenSet where
  cmds : List Staged
  regs : List (Nat × Word × Word)
deriving DecidableEq, Repr

/-- A closed set waiting for its commit tick (R293). -/
structure Pending where
  part : Nat
  tick : Nat
  cmd : Nat
  set : OpenSet
  globalSet : Option OpenSet
deriving DecidableEq, Repr

/-- A tile record of a loaded model (Table 5.4); its weights are non-zero bytes by offset. -/
structure TileRecord where
  core : Nat
  tile : Nat
  role : Nat
  pair : Nat
  config : List Word
  weights : List Host.Cell
  digest : Bytes
deriving DecidableEq, Repr

/-- A model loaded in a partition (R127, R300). state: 0 held, 1 staged, 2 committed. status: what its load
has come to, a status code of Table 10.5. -/
structure Model where
  part : Nat
  id : Nat
  digest : Bytes
  bytes : Nat
  state : Nat
  records : List TileRecord
  kept : Nat
  fresh : List Nat
  programmed : Nat
  latched : Nat
  status : Nat
  loading : Option Nat
deriving DecidableEq, Repr

/-- A tile operation block (Table 6.2). -/
structure Templ where
  tile : Nat
  pair : Bool
  rowMask : Bool
  colMask : Bool
  part : Nat
  rowFirst : Nat
  rowCount : Nat
  inOffset : Nat
  maskIndex : Nat
  colFirst : Nat
  colCount : Nat
deriving DecidableEq, Repr

/-- A Skillet step (Table 6.8). -/
structure SkStep where
  func : Nat
  outFormat : Nat
  perColumn : Bool
  kM1 : Nat
  imm : Nat
  param : Nat
deriving DecidableEq, Repr

/-- A layer: batch loop block (Table 6.4), quantisation block (Table 4.3), chain and templates. -/
structure Layer where
  loopOrder : Nat
  inSource : Nat
  outTarget : Nat
  inFormat : Nat
  useWork : Bool
  workCounter : Nat
  golden : Bool
  batch : Nat
  nBlocks : Nat
  kParts : Nat
  inStride : Nat
  outStride : Nat
  slotBase : Nat
  slotCount : Nat
  accShift : Int
  homeCore : Nat
  inBase : Nat
  claimSize : Nat
  outBase : Nat
  partTotal : Nat
  actBits8 : Bool
  zpMode : Nat
  scaleSource : Nat
  rerun : Bool
  staticZp : Nat
  staticScale : Nat
  missSatFrac : Nat
  underusePeak : Nat
  satThreshold : Nat
  marginOrRow : Nat
  toFunnel : Bool
  chain : List SkStep
  templates : List Templ
deriving DecidableEq, Repr

/-- The steps of Table 10.14. -/
inductive Step where
  | layer (l : Layer)
  | signal (core counter inc : Nat)
  | wait (counter : Nat) (relative shared : Bool) (value : Nat)
  | lid (line : Nat) (mask : Nat)
  | fence
  | workReset (counter value : Nat)
deriving DecidableEq, Repr

/-- A part of a kernel (Table 10.13); queue is fixed only for a level-1 kernel (Table 10.11). -/
structure Part where
  core : Nat
  entryAtDispatch : Bool
  banked : Bool
  entryCounter : Nat
  entryValue : Nat
  counters : Nat
  actBase : Nat
  actBytes : Nat
  maskBase : Nat
  consts : Bytes
  constDest : Nat
  inboxBase : Nat
  inboxBytes : Nat
  queue : Option Nat
  steps : List Step
deriving DecidableEq, Repr

/-- A defined kernel (R303); level-1 kernels carry no descriptor bytes. -/
structure Kernel where
  part : Nat
  id : Nat
  level1 : Bool
  bytes : Bytes
  parts : List Part
deriving DecidableEq, Repr

/-- A trigger rule (R240) in force from a commit tick on; a cleared rule has word list []. -/
structure Rule where
  since : Nat
  words : List Word
deriving DecidableEq, Repr

/-- An epoch pair in force from a tick on (R295, R296). -/
structure Epochs where
  since : Nat
  model : Word
  config : Word
deriving DecidableEq, Repr

/-- PT_CHECK_CTRL in force from a tick on (R354). -/
structure CheckCtrl where
  since : Nat
  value : Word
deriving DecidableEq, Repr

/-- The command processor's state (R272 to R307). -/
structure Preoft where
  cmds : List Cmd
  nextCmd : Nat
  sets : Tbl OpenSet
  pending : List Pending
  epochs : Tbl (List Epochs)
  checks : Tbl (List CheckCtrl)
  models : List Model
  kernels : List Kernel
  rules : Tbl (List Rule)
  regs : Tbl Word
deriving DecidableEq, Repr

/-! ## Tiles -/

/-- A group scale word (Table 4.1): MANT and EXP. -/
structure Scale where
  mant : Nat
  exp : Int
deriving DecidableEq, Repr

/-- Tile configuration words 0 to 4 in force from a tick on (Table 2.9, R56). -/
structure TileCfg where
  since : Nat
  words : List Word
deriving DecidableEq, Repr

/-- The live state of a tile (Table 2.12, with R147's wait for attach). -/
inductive TileState where
  | blank
  | programming
  | held
  | ready
  | suspect
  | retired
  | awaiting
deriving DecidableEq, Repr

/-- The identity of an operation: kernel run, item, block, part, and how often it has been issued
(R154). -/
structure OpTag where
  run : Nat
  item : Nat
  block : Nat
  part : Nat
  attempt : Nat
deriving DecidableEq, Repr

/-- An admitted tile operation, or one tile's half of a W8 pair or one copy of an assured operation
(R150, R70, R355): half is 0 for a whole operation, 1 and 2 for the lower and upper tile of a pair; early commits without
waiting (R364); rerun holds the fault detail of the first run in a dispute (R358). -/
structure TileOp where
  tag : OpTag
  queue : Nat
  ctx : Nat
  part : Nat
  copy : Nat
  half : Nat
  rows : List (Nat × Int)
  scales : List (Scale × Nat)
  cols : List Nat
  a8 : Bool
  expMax : Int
  accShift : Int
  slot : Nat
  step : Nat
  cfg : List Word
  early : Bool
  rerun : Option Nat
deriving DecidableEq, Repr

/-- One phase to run (R38, R42, R71): group, pass, its rows' codes, half (0 whole, 1 lower, 2 upper) and
whether it is a retry. -/
structure Phase where
  group : Nat
  pass : Nat
  rows : List (Nat × Int)
  half : Nat
  retry : Bool
deriving DecidableEq, Repr

/-- The operation a tile is running, its fixed gain correction (R80), the phase under way and those still
to come. -/
structure Running where
  op : TileOp
  gain : Nat
  phase : Option Phase
  rest : List Phase
  failed : List Nat
deriving DecidableEq, Repr

/-- What Whisk is doing with a tile: programming of a record for a command, refresh, erase, attach or
block scan (R121, R130, R132, R148, R360). -/
inductive WhiskJob where
  | program (record : TileRecord) (model : Nat) (part : Nat) (cmd : Option Nat)
  | refresh (back : TileState) (cmd : Option Nat)
  | erase
  | attach (record : TileRecord) (back : TileState) (model : Nat) (part : Nat) (cmd : Option Nat)
  | scan (block : Nat) (mean16 : Int)
  | restoreColumn (column : Nat) (back : TileState) (cmd : Option Nat)
  | restoreTile (cmd : Option Nat)
deriving DecidableEq, Repr

/-- A batch of residuals of one block (R359): phases judged, the sum of deviations in 1/16 step and the sum
of σ_ρ² as numerators over the common denominator that the noise card fixes (R73, R357). -/
structure Batch where
  count : Nat
  sum16 : Int
  var : Nat
deriving DecidableEq, Repr

/-- A retract-list entry (R366): partition, context, sequence number, the columns used and the blocks whose
clean batch is still awaited. -/
structure RetractEntry where
  part : Nat
  ctx : Nat
  seq : Nat
  cols : List Nat
  waiting : List Nat
deriving DecidableEq, Repr

/-- One tile (R26, R57, R58, R80, R134). retractLost lists the blocks whose clean batch would clear
RETRACT_LOST, which is set while the list is not empty (R366). -/
structure Tile where
  state : TileState
  owner : Option (Nat × Nat)
  role : Nat
  pair : Nat
  weights : List Host.Cell
  shadow : Bool
  cfgs : List TileCfg
  gainCorr : Nat
  gammaS : Nat
  tempS : Int
  settled : Bool
  driftRes : Nat
  offsetTrim : Tbl Int
  gainTrim : Tbl Int
  beta : Tbl Int
  calTemp : Int
  refDue : Bool
  calDue : Bool
  testDue : Bool
  withheld : Bool
  refreshRaised : Bool
  cleanTests : Nat
  batches : Tbl Batch
  retractList : List RetractEntry
  retractLost : List Nat
  inFlight : List TileOp
  running : Option Running
  lastCfg : List Word
  outReg : Tbl Nat
  status : Nat
  job : Option WhiskJob
deriving DecidableEq, Repr

/-! ## Cores -/

/-- An accumulator slot with its metadata (Table 6.3): state 0 Free, 1 Open, 2 Complete. far holds what partial
sums of other cores brought, kept apart so that a discarded attempt (R111) can be taken out again. -/
structure Slot where
  state : Nat
  expMax : Int
  accShift : Int
  partTotal : Nat
  ledger : List Nat
  item : Nat
  block : Nat
  run : Nat
  flow : Nat
  lanes : Tbl Int
  far : Tbl Int
deriving DecidableEq, Repr

/-- A number of an input or of Skillet (R86, R176): a sign with m × 2^e, an infinity or NaN. -/
inductive Fp where
  | nan
  | inf (neg : Bool)
  | fin (neg : Bool) (m : Nat) (e : Int)
deriving DecidableEq, Repr

/-- The row codes and scales Scoop formed for one item (R93, R96): for each template its rows' codes and its
groups' scales and zero points, and for each output block EXP_MAX (R155). -/
structure Codes where
  item : Nat
  templ : List (List (Nat × Int))
  scales : List (List (Scale × Nat))
  expMax : List Int
deriving DecidableEq, Repr

/-- A read-out row passing through the Skillet chain (R176), in FP32 words, none where a lane is absent; the next
step; and the golden answer with its EXP_min (R186). -/
structure Readout where
  item : Nat
  row : List (Option Word)
  index : Nat
  golden : Option (Int × Tbl Int)
deriving DecidableEq, Repr

/-- A batch loop under way (R161, R162, R166): the items held (of the present claim where items are claimed), the
operations of them issued, the codes formed, the (b, n) opened and not read out, the items read out, whether a claim is under
way or has ended the loop. fresh and judged say how the carried scales stand (R109 to R111); sat and marks hold back what the
attempt adds to its window until it is judged; groupSat and peaks (saturations and elements; peak) and extremes follow each
group, by 16 × template + group; attempt counts the runs of the layer. -/
structure Loop where
  items : List Nat
  issued : Nat
  codes : List Codes
  opened : List (Nat × Nat)
  out : List Nat
  claiming : Bool
  ended : Bool
  fresh : Bool
  judged : Bool
  sat : Nat
  marks : List Nat
  groupSat : Tbl (Nat × Nat)
  peaks : Tbl Nat
  extremes : Tbl (Fp × Fp)
  attempt : Nat
deriving DecidableEq, Repr

/-- Why a queue is stalled (R196). -/
inductive Stall where
  | none
  | wait (counter expected : Nat) (shared : Bool)
  | lid (line : Nat) (arrived : Bool)
  | fence (number : Nat)
  | work
  | tongs
deriving DecidableEq, Repr

/-- A part resident on a queue (R193, R208, R247), with the clk of its last progress, of its entry and of the
start of its stall. -/
structure Queue where
  ctx : Nat
  run : Nat
  part : Nat
  step : Nat
  stall : Stall
  loop : Option Loop
  readout : Option Readout
  progressClk : Nat
  resumptions : Nat
  entryClk : Nat
  stallClk : Nat
deriving DecidableEq, Repr

/-- One operation while its tiles run it (R153, R361): the tiles that take part, by copy, half and tile; their registers
with the zero-point correction taken off, by 4 × copy + half; those finished; the copy committed early (R364);
and the halves settled, each with its lanes. -/
structure Join where
  op : TileOp
  units : List (Nat × Nat × Nat)
  regs : Tbl (Tbl Int)
  done : List Nat
  committed : Option Nat
  settled : Tbl (Tbl Int)
deriving DecidableEq, Repr

/-- A request to Tongs (R185): for a dispute or an assured disagreement of one half of an operation, or for a golden
item. -/
inductive TongsReq where
  | dispute (op : TileOp) (tile : Nat) (blocks : List Nat)
  | assured (op : TileOp) (lanes : List Nat)
  | golden (queue : Nat) (item : Nat)
deriving DecidableEq, Repr

/-- One core (Table 6.1); busyClk is the clk at which its last admitted operation left a tile (R20). -/
structure Core where
  slots : Tbl Slot
  act : List Host.Cell
  queues : Tbl Queue
  joins : List Join
  tongs : List TongsReq
  arrivals : Nat
  lfsr : Word
  prefetch : List Nat
  fenceNext : Nat
  testSlices : Nat
  testFails : Nat
  firstFail : Nat
  firstFault : Option Nat
  repeatCode : Option Nat
  testCmd : Option Nat
  testStart : Nat
  cleanSlices : Nat
  marginClock : Bool
  busyClk : Nat
  runs : Tbl (List (Nat × Nat))
deriving DecidableEq, Repr

/-- A message on the Ladle (Table 6.6, R171). -/
inductive LadleBody where
  | psum (run item block slot : Nat) (parts : List Nat) (lanes : Tbl Int) (expMax : Int) (accShift : Int)
      (partTotal : Nat)
  | act (ctx : Nat) (part : Nat) (offset : Nat) (data : Bytes)
  | signal (ctx : Nat) (counter : Nat) (inc : Nat)
deriving DecidableEq, Repr

/-- A Ladle message with its route and the queue that sent it. -/
structure LadleMsg where
  src : Nat
  dst : Nat
  queue : Nat
  body : LadleBody
deriving DecidableEq, Repr

/-- A claim or reset on its way to the counter node, or its reply on its way back (R165 to R167). -/
structure ClaimMsg where
  core : Nat
  queue : Nat
  seq : Nat
  counter : Nat
  amount : Nat
  reset : Option Nat
  reply : Option Nat
deriving DecidableEq, Repr

/-- A signal to be applied by the Stockpot to a saved copy (R195). -/
structure PotSignal where
  core : Nat
  ctx : Nat
  counter : Nat
  inc : Nat
deriving DecidableEq, Repr

/-- The counter node (R165 to R167): counters, and the last sequence number and reply of each queue. -/
structure WorkNode where
  counters : Tbl Nat
  last : Tbl (Nat × Nat)
  nextSeq : Tbl Nat
deriving DecidableEq, Repr

/-! ## Flows and runs -/

/-- A window (R229): grid index, first and last stamp in 1/256 tick, where its samples lie, its marks, and the
kernel and scheduling block of its binding (R252). -/
structure Window where
  k : Nat
  kernel : Kernel
  sched : List Word
  first256 : Nat
  last256 : Nat
  stream : Nat
  start : Nat
  len : Nat
  padLead : Nat
  padTo : Nat
  iq : Bool
  marks : List Nat
  readyClk : Nat
deriving DecidableEq, Repr

/-- A binding in force for windows from a commit tick on (R252): window block, scheduling block, kernel,
where its windows begin (the sample index of its first window, if known, and that window's number), and how many it has
formed. -/
structure Binding where
  since : Nat
  kernel : Kernel
  window : List Word
  sched : List Word
  gridTick : Nat
  origin : Option Nat
  firstK : Nat
  formed : Nat
deriving DecidableEq, Repr

/-- The save record of a part (R247). -/
structure SaveRec where
  core : Nat
  queue : Nat
  entered : Bool
  left : Bool
  step : Nat
  wdog : Nat
  eEntry : Nat
  started : Bool
deriving DecidableEq, Repr

/-- A closing in progress (R253). -/
structure Closing where
  cmd : Option Nat
  drain : Bool
  tick : Nat
  cancelled : Nat
  silent : Bool
deriving DecidableEq, Repr

/-- A flow's context or a command context (Table 9.1, R249). state: Table 9.3. -/
structure Ctx where
  isCmd : Bool
  part : Nat
  state : Nat
  carryValid : Bool
  missLast : Bool
  nextWindow : Nat
  resultSeq : Nat
  modelEpoch : Word
  configEpoch : Word
  coldBytes : Nat
  coldBase : Nat
  bindings : List Binding
  ready : List Window
  run : Option Nat
  saves : Tbl SaveRec
  sync : Tbl (Word × Word)
  persist : Bytes
  carried : Tbl (List (Scale × Nat))
  carryEpochs : Word × Word
  satArmed : Bool
  inbox : Tbl (List Host.Cell)
  closing : Option Closing
  cmd : Option Nat
  tag : Word
  deadline : Nat
  kernel : Option Kernel
  order : Nat
deriving DecidableEq, Repr

/-- A kernel run (R161, R246, R322, R354): what its records will carry and what is still open. deadline is in
1/256 tick. tiles lists the tiles used (33 × core + tile) with their columns; parked its spilled slots (core, slot
number, slot; R163, R164); readDone the LAYER steps (part, step) that have read the window (R227). -/
structure Run where
  ctx : Nat
  window : Option Window
  first256 : Nat
  last256 : Nat
  kernel : Kernel
  modelEpoch : Word
  configEpoch : Word
  check : Word
  marks : List Nat
  sat : Nat
  left : List Nat
  deadline : Nat
  deadlineTk : Bool
  dispatchClk : Nat
  openChecks : Nat
  failCause : Option Nat
  tiles : List (Nat × List Nat)
  records : Nat
  status : Option Nat
  abandoned : Bool
  consumed : Bool
  dropped : Bool
  satOver : Bool
  readDone : List (Nat × Nat)
  parked : List (Nat × Nat × Slot)
deriving DecidableEq, Repr

/-- Flows, contexts, runs and the messages between cores (R190 to R263). -/
structure Flows where
  ctxs : Tbl Ctx
  spillLines : List (Nat × Nat)
  spillMem : Tbl Nat
  runs : Tbl Run
  nextRun : Nat
  nextOrder : Nat
  overload : Tbl Nat
  ladle : List LadleMsg
  claims : List ClaimMsg
  pot : List PotSignal
  node : WorkNode
deriving DecidableEq, Repr

/-! ## Ingest and timebase -/

/-- A link (Table 8.7). state 0 Disabled, 1 Locking, 2 Up, 3 Fault. -/
structure Link where
  state : Nat
  laneLock : Nat
  nextK : Nat
  disabledAt : List (Nat × Option Nat)
  chan : List Word
  chanMap : List Word
deriving DecidableEq, Repr

/-- A sub-ring (R226): capacity in samples, the index after the last sample written, the samples kept, the
index ranges never received (first, end) and the marked samples, by stream sample index. Entry 3 × 4,096 of a
link holds the channeliser's input, the eight after it what the decimators' inputs lacked or were marked with. -/
structure Ring where
  cap : Nat
  next : Nat
  data : Tbl (Int × Int)
  lost : List (Nat × Nat)
  bad : List Nat
  ovr : List Nat
deriving DecidableEq, Repr

/-- An assertion in a TRIG_OUT schedule (R239): target tick, instant in 125 ps units, and the record that
asked for it (partition, context, sequence number) or none. -/
structure Assertion where
  tick : Nat
  at_ : Int
  source : Option (Nat × Nat × Nat)
deriving DecidableEq, Repr

/-- A TRIG_OUT pin (R239): schedule, and the end of the active interval last driven. -/
structure TrigOut where
  schedule : List Assertion
  activeUntil : Option Int
  fired : List (Nat × Nat × Nat)
deriving DecidableEq, Repr

/-- A captured tick-to-PTP pair (Table 14.8). -/
structure PtpPair where
  tick256 : Nat
  locked : Bool
  sec : Nat
  ns : Nat
deriving DecidableEq, Repr

/-- The timebase (R232 to R241). state 0 Stopped, 1 Armed, 2 Running, 3 Lost. -/
structure Timebase where
  state : Nat
  armRefused : Bool
  tick : Nat
  tickHi : Word
  loadTick : Nat
  s : Nat
  r : Nat
  f : Nat
  e : Nat
  armRef : Nat
  ptpSec : Nat
  ptpNs : Nat
  pairs : List PtpPair
  trigLast : Tbl Nat
  trigOut : Tbl TrigOut
deriving DecidableEq, Repr

/-- Sample ingest (R215 to R231); provisional names restored lanes that have not locked again (R378). -/
structure Ingest where
  links : Tbl Link
  rings : Tbl Ring
  decs : Tbl (List Word)
  coefs : Tbl Int
  provisional : List Nat
deriving DecidableEq, Repr

/-! ## Funnel and records -/

/-- A Funnel packet (Table 11.5, Table 11.7): header fields and the words from word 8 on. top1 holds the index and the
FP32 value that trigger rules test (R240). -/
structure Pkt where
  kind : Nat
  flow : Nat
  isCtx : Bool
  part : Nat
  cls : Bool
  prov : Bool
  lost : Bool
  marks : List Nat
  sat : Nat
  seq : Nat
  first256 : Nat
  last256 : Nat
  modelEpoch : Word
  configEpoch : Word
  ptpSec : Nat
  ptpNs : Nat
  ptpLocked : Bool
  body : List DWord
  run : Option Nat
  final : Bool
  top1 : Option (Nat × Word)
deriving DecidableEq, Repr

/-- A packet in the FIFO: the destinations it goes to once it has been taken (1 host, 2 net, 0 not yet taken), and the
words each has read (R328). -/
structure FifoPkt where
  pkt : Pkt
  route : Nat
  hostRead : Nat
  netRead : Nat
deriving DecidableEq, Repr

/-- A record that a CONFIRM or RETRACT may still follow (R325, R366, R381): the record as formed, the
destinations it reached (1 host, 2 net), the verdict formed (none while its checks are open; 0 confirmed with
no packet due; kind + 256 × cause for a packet) and the destinations that took that packet. -/
structure Outstanding where
  pkt : Pkt
  dests : Nat
  verdict : Option Nat
  taken : Nat
deriving DecidableEq, Repr

/-- A partition's Funnel (R319 to R331): the FIFO, the packets waiting for their reservation, the host ring's write
offset, the clk from which DMA has waited for ring space, and the bytes in use of the snippet region. -/
structure Funnel where
  fifo : List FifoPkt
  waiting : List Pkt
  lost : Bool
  timelineSeq : Nat
  writeOff : Nat
  outstanding : List Outstanding
  stallClk : Option Nat
  snipUsed : Nat
deriving DecidableEq, Repr

/-! ## Maintenance, network, housekeeping, trace -/

/-- A maintenance activity (Table 12.9): code, sort (what exactly), core, tile, partition, command. sort: for
code 1, 0 tile test, 1 core slice; for code 3, 0 programming, 1 erase, 2 scan, 3 attach, 4 retirement. -/
structure Activity where
  code : Nat
  sort : Nat
  core : Nat
  tile : Nat
  part : Nat
  cmd : Option Nat
deriving DecidableEq, Repr

/-- A RECORD or other sequenced message awaiting acknowledgement (R338). -/
structure Unacked where
  seq : Nat
  data : Bytes
  resends : Nat
deriving DecidableEq, Repr

/-- A peer (Table 11.11) and its protocol state (R338 to R341). rate is in 1/1,000 of the line rate. -/
structure Peer where
  words : List Word
  level : Nat
  seqOut : Nat
  seqIn : Nat
  unacked : List Unacked
  down : Bool
  inbox : List DWord
  psn : Nat
  sent : List (Nat × Bytes)
  retries : Nat
  rate : Nat
  writeOff : Nat
  readOff : Nat
deriving DecidableEq, Repr

/-- A port (Table 11.10). link 0 down, 1 training, 2 up; paused is the clk up to which PFC holds its priority back (R332). -/
structure Port where
  words : List Word
  link : Nat
  fecCorr : Nat
  fecUncorr : Nat
  paused : Nat
deriving DecidableEq, Repr

/-- Network and PTP (R332 to R345): consecutive good Syncs, lock, last offset and steering, path delay, a two-step Sync's offset held
for its Follow_Up, and the master selected (port, rank, identity). -/
structure Net where
  ports : Tbl Port
  peers : Tbl Peer
  ptpGood : Nat
  ptpLocked : Bool
  ptpOffset : Int
  ptpRate : Int
  ptpDelay : Int
  ptpHeld : Option Int
  master : Option (Nat × Nat × Nat)
deriving DecidableEq, Repr

/-- A sequence entry's results (Table 14.13). -/
structure HkResult where
  code : Nat
  ovr : Bool
  under : Bool
  outOfBand : Bool
  valid : Bool
  count : Nat
  value : Int
deriving DecidableEq, Repr

/-- An HK_CAL capture in progress (R426): pin, kind (true full-scale), full-scale value, conversions, sum, spoiled, command. -/
structure Capture where
  pin : Nat
  full : Bool
  vfs : Nat
  n : Nat
  sum : Nat
  spoiled : Bool
  cmd : Nat
deriving DecidableEq, Repr

/-- The Probe converter (R421 to R428). -/
structure Probe where
  entries : Tbl Word
  results : Tbl HkResult
  alert : Nat
  current : Nat
  n : Nat
  sum : Nat
  anyOvr : Bool
  anyUnder : Bool
  capture : Option Capture
  zero : Tbl Int
  band : Tbl Bool
deriving DecidableEq, Repr

/-- A trace record (Table 14.10). -/
structure TraceRec where
  tick : Nat
  type : Nat
  cls : Nat
  part : Nat
  unit : Nat
  p0 : Nat
  p1 : Nat
  p2 : Nat
  p3 : Nat
deriving DecidableEq, Repr

/-- The trace buffer and pins (R433 to R436). The ring holds the newest 131,072 records, newest first. -/
structure Trace where
  ring : List TraceRec
  writeIndex : Nat
  drop : Nat
  pinDrop : Nat
  frozen : Bool
  pinQueue : List TraceRec
  fill : Nat
  fillClk : Nat
deriving DecidableEq, Repr

/-- SMBus straps, and the TAP (R456, R457): the instruction (0 BYPASS, 1 IDCODE, 2 SAMPLE/PRELOAD, 3 EXTEST, 4 CLAMP,
5 HIGHZ), the boundary chain as loaded, and what drives the pins (0 their functions, 1 the chain, 2 nothing). -/
structure Mgmt where
  strap0 : Bool
  strap1 : Bool
  tapIr : Nat
  chain : List Bool
  chainDrives : Nat
deriving DecidableEq, Repr

/-- Package memory beside what its owners hold (R346 to R352): poisoned lines, training, scrub position. -/
structure PkgMem where
  trained : Bool
  selfRefresh : Bool
  poison : List Nat
  scrubNext : Nat
deriving DecidableEq, Repr

/-- The whole device and the queue of commands waiting in front of it. -/
structure State where
  pending : List Instr
  clk : Nat
  draw : Nat
  power : Power
  crock : Crock
  sec : Security
  host : HostSide
  pre : Preoft
  tiles : Tbl Tile
  cores : Tbl Core
  flows : Flows
  ingest : Ingest
  tb : Timebase
  funnels : Tbl Funnel
  running : List Activity
  waiting : List Activity
  net : Net
  probe : Probe
  trace : Trace
  counters : Tbl Nat
  mgmt : Mgmt
  pkg : PkgMem
deriving DecidableEq, Repr

/-! ## Reset values -/

/-- A calibration record of a blank tile (Table 5.5); the readings are the ideal ones of R141 in 1/16 step. -/
def CalRec.blank : CalRec :=
  { state := 0, age := 0, eqAge := 0, digest := [], e528 := 896, e529 := -896, e530 := 384, e531 := -384,
    e535 := 128, b528 := 0, b529 := 0, b530 := 0, b531 := 0 }

/-- The calibration record a tile number starts from: compute tiles Blank, TX Ready (R460). -/
def CalRec.start (tile : Nat) : CalRec :=
  if tile % 33 = 32 then { CalRec.blank with state := 2 } else CalRec.blank

/-- An uncalibrated AUX_IN pin (R421): zero offset, 292.97 µV per LSB in units of 2^-16 µV. -/
def ProbeCal.nominal : ProbeCal :=
  { state := 0, z16 := 0, gain := 19200000, vfs := 0, powerS := 0 }

/-- The journal with FORMAT set and nothing recorded (R392 case 1, R460). -/
def Journal.empty (halt : Nat) : Journal :=
  { format := 1, bootCount := 0, powerS := 0, lastHalt := halt, tickReached := false, tickMax := 0,
    coreState := [], cal := [], retired := [], stuck := [], faults := [], nextFault := 0, probe := [] }

/-- The Crock as shipped (R460) and recovered by case 5 of R392. -/
def Crock.shipped : Crock :=
  { foldClk := 0, mirror := Journal.empty 4,
    copyA := { magicOk := true, formatOk := true, complete := 0x5A, seq := 1, crcOk := true,
               journal := Journal.empty 4 },
    copyB := { magicOk := false, formatOk := false, complete := 0, seq := 0, crcOk := false,
               journal := Journal.empty 4 },
    save := none, dirty := false, newest := 0, recovered := true }

/-- Power, start-up and thermal registers at the Reset column of Table 13.11, start-up under way. -/
def Power.start : Power :=
  { resetN := true, pwrFailN := true, perstN := true, aonOk := true, startup := .cold, ready := false,
    halted := false, fatal := false, thermTrip := false, state := 0, transition := none, refused := false,
    step := 6, pkgPower := 0, coolPower := 0, throttlePower := false, throttleTherm := false,
    reduced := false, coolTherm := 0, low := false, limiter := false, tjNow := 250, tjPeak := 250, refclkLost := false,
    rollback := false, crockTie := false, crockLost := false, fwFallback := false, cellClamp := false,
    pendingEvents := [] }

/-- The key entry of slot 0 as the part leaves manufacture, which the manual does not give (log 4): all modulus bytes 0xFF,
exponent 65,537. -/
def factoryKey : Bytes := List.replicate 512 0xFF ++ [1, 0, 1, 0] ++ List.replicate 12 0

/-- Its SHA-512. -/
def factoryHash : Bytes :=
  [0x78, 0x62, 0xF0, 0x96, 0x18, 0x3C, 0x04, 0x91, 0x72, 0xD9, 0x7D, 0x56, 0x54, 0x73, 0x17, 0x30,
   0x27, 0x56, 0x26, 0x63, 0x3D, 0x7B, 0xC4, 0xC2, 0x00, 0x46, 0x0D, 0x57, 0x7D, 0xA1, 0x8E, 0x63,
   0xB3, 0xB4, 0xFC, 0xFD, 0xDB, 0xE5, 0x51, 0xC1, 0xA5, 0x1A, 0x4C, 0xFF, 0x54, 0x4E, 0xCD, 0x7B,
   0x46, 0x46, 0x81, 0x1F, 0x46, 0x51, 0x33, 0x13, 0x96, 0xA5, 0x94, 0x02, 0xBC, 0xFA, 0x6B, 0xF6]

/-- A firmware slot that carries nothing further the spec states. -/
def FwSlot.blank (bootable : Bool) : FwSlot :=
  { bootable := bootable, version := 0, keySlot := 0, commitSvn := false, revokeMask := 0,
    installMask := 0, svn := [], digest := [], keys := if bootable then [factoryKey, [], [], []] else [] }

/-- The Typical column of Table 3.3. -/
def NoiseCard.typical : NoiseCard :=
  { format := 1, testDate := 0, serial := 0, grade := 0, stepping := 1, testTemp := 600, progSigma := 1434,
    progMean := 0, readNoiseConv := 1741, readNoiseCell := 1733, readNoiseG128 := 2458, offsetSigma := 410,
    dnlMax := 1229, driftNu := 4000, driftNuSigma := 1500, driftLevelSlope := 150, driftEa := 500,
    driftT0 := 10, tcCell := -1200, tcCellSigma := 60, tcRefrow := 25, tcRefrowSigma := 3,
    readStress := 300, gainEstSigma := 800, coreNoise := List.replicate 32 128 }

/-- Fuses and firmware as a part leaves manufacture (R411). -/
def Security.start : Security :=
  { slotA := FwSlot.blank true, slotB := FwSlot.blank false, active := 0, staged := false,
    stagedVersion := 0, activatePending := false, tried := none,
    keySlots := [{ programmed := true, revoked := false, hash := factoryHash },
                 { programmed := false, revoked := false, hash := [] },
                 { programmed := false, revoked := false, hash := [] },
                 { programmed := false, revoked := false, hash := [] }],
    svn := List.replicate 64 0, sigForce := false, card := NoiseCard.typical, chain := [] }

/-- The Reset column of Table 10.3. -/
def Lane.start : Lane :=
  { enable := false, mode := false, replyEnable := false, vector := 0, holdoff := 0, periodTk := 256,
    pullBase := 0, pullLog2 := 4, prodAddr := 0, consAddr := 0, replyBase := 0, replyLog2 := 4,
    replyRead := 0, replyWrite := 0, replyUsed := 0, replyPhase := true, slots := [], order := [], consumer := 0,
    pulled := [], held := [], fenceWait := none }

/-- The host side before the link is configured (Table 11.2, Table 11.3). -/
def HostSide.start : HostSide :=
  { mem := [], numVfs := 0, busMaster := 0, speed := 5, width := 8, linkUp := true, configServed := false,
    lanes := [], msix := [], pba := [], holdoffs := [], level := [], out := [] }

/-- The command processor with nothing taken, staged, loaded or defined. -/
def Preoft.start : Preoft :=
  { cmds := [], nextCmd := 0, sets := [], pending := [], epochs := [], checks := [], models := [],
    kernels := [], rules := [], regs := [] }

/-- A tile without weights in the given state, configuration at the defaults of Table 2.9. -/
def Tile.empty (st : TileState) : Tile :=
  { state := st, owner := none, role := 0, pair := 255, weights := [], shadow := false, cfgs := [],
    gainCorr := 0x8000, gammaS := 0x8000, tempS := 250, settled := false, driftRes := 0, offsetTrim := [],
    gainTrim := [], beta := [], calTemp := 250, refDue := false, calDue := false, testDue := false,
    withheld := false, refreshRaised := false, cleanTests := 0, batches := [], retractList := [],
    retractLost := [], inFlight := [], running := none, lastCfg := [], outReg := [], status := 0,
    job := none }

/-- The tile a number (33 × core + tile) starts as (R460). -/
def Tile.start (i : Nat) : Tile :=
  if i % 33 = 32 then Tile.empty .ready else Tile.empty .blank

/-- A core with Free slots, an empty buffer and the LFSR of R461. -/
def Core.start (core : Nat) : Core :=
  { slots := [], act := [], queues := [], joins := [], tongs := [], arrivals := 0,
    lfsr := BitVec.ofNat 32 (0x9E3779B9 + core), prefetch := [], fenceNext := 0, testSlices := 0,
    testFails := 0, firstFail := 0, firstFault := none, repeatCode := none, testCmd := none, testStart := 0, cleanSlices := 0,
    marginClock := false, busyClk := 0, runs := [] }

/-- A Free slot (Table 6.3). -/
def Slot.free : Slot :=
  { state := 0, expMax := 0, accShift := 0, partTotal := 0, ledger := [], item := 0, block := 0, run := 0,
    flow := 0, lanes := [], far := [] }

/-- No flow open, nothing in flight. -/
def Flows.start : Flows :=
  { ctxs := [], spillLines := [], spillMem := [], runs := [], nextRun := 1, nextOrder := 0, overload := [],
    ladle := [], claims := [], pot := [], node := { counters := [], last := [], nextSeq := [] } }

/-- A disabled link (Table 8.7). -/
def Link.start : Link :=
  { state := 0, laneLock := 0, nextK := 0, disabledAt := [(0, none)], chan := [], chanMap := [] }

/-- A stopped timebase (Table 8.6). -/
def Timebase.start : Timebase :=
  { state := 0, armRefused := false, tick := 0, tickHi := 0, loadTick := 0, s := 0, r := 0, f := 0, e := 0,
    armRef := 0, ptpSec := 0, ptpNs := 0, pairs := [], trigLast := [], trigOut := [] }

/-- An empty Funnel. -/
def Funnel.start : Funnel :=
  { fifo := [], waiting := [], lost := false, timelineSeq := 0, writeOff := 0, outstanding := [], stallClk := none,
    snipUsed := 0 }

/-- A port that is off (Table 11.10). -/
def Port.start : Port :=
  { words := [], link := 0, fecCorr := 0, fecUncorr := 0, paused := 0 }

/-- An unused peer (Table 11.11). -/
def Peer.start : Peer :=
  { words := [], level := 1, seqOut := 0, seqIn := 0, unacked := [], down := false, inbox := [], psn := 0,
    sent := [], retries := 0, rate := 1000, writeOff := 0, readOff := 0 }

/-- Ports off, PTP unlocked. -/
def Net.start : Net :=
  { ports := [], peers := [], ptpGood := 0, ptpLocked := false, ptpOffset := 0, ptpRate := 0, ptpDelay := 0,
    ptpHeld := none, master := none }

/-- The entry word a sequence entry resets to (Table 14.13). -/
def hkEntryReset (e : Nat) : Word :=
  if e < 8 then BitVec.ofNat 32 (0xFFF00090 + e) else 0

/-- An entry without a result. -/
def HkResult.none : HkResult :=
  { code := 0, ovr := false, under := false, outOfBand := false, valid := false, count := 0, value := 0 }

/-- Probe at reset (Table 14.13). -/
def Probe.start : Probe :=
  { entries := [], results := [], alert := 0, current := 0, n := 0, sum := 0, anyOvr := false,
    anyUnder := false, capture := none, zero := [], band := [] }

/-- An empty trace (Table 14.9). -/
def Trace.start : Trace :=
  { ring := [], writeIndex := 0, drop := 0, pinDrop := 0, frozen := false, pinQueue := [], fill := 0,
    fillClk := 0 }

/-- SMBus straps low, TAP at IDCODE (R456, R457). -/
def Mgmt.start : Mgmt :=
  { strap0 := false, strap1 := false, tapIr := 1, chain := [], chainDrives := 0 }

/-- Package memory before training (Table 11.16). -/
def PkgMem.start : PkgMem :=
  { trained := false, selfRefresh := false, poison := [], scrubNext := 0 }

/-- The device right after cold power-on (Table 13.7, column Cold power-on). -/
def State.reset : State :=
  { pending := [], clk := 0, draw := 0, power := Power.start, crock := Crock.shipped, sec := Security.start,
    host := HostSide.start, pre := Preoft.start, tiles := [], cores := [], flows := Flows.start,
    ingest := { links := [], rings := [], decs := [], coefs := [], provisional := [] }, tb := Timebase.start, funnels := [],
    running := [], waiting := [], net := Net.start, probe := Probe.start, trace := Trace.start,
    counters := [], mgmt := Mgmt.start, pkg := PkgMem.start }

end Sys2Proof.Machine
end

