-- ==== Sys2Proof/Machine/Ops.lean ====
section
/-! DEFINITION. The named operations over tables, memory, bit fields and the parts of State. Multi-byte
values are little-endian (R12). Memory is a list of (address, byte) cells in one canonical form: addresses
strictly rising and no cell equal to the byte an unlisted address reads as, which is 0 (log 6, log 7). -/

namespace Sys2Proof.Machine

/-! ## Tables -/

/-- The entry of a number, or the default. -/
def tget {α : Type} (t : Tbl α) (k : Nat) (d : α) : α :=
  match t with
  | [] => d
  | (j, v) :: r => if j = k then v else tget r k d

/-- The entry of a number, if one is listed. -/
def tget? {α : Type} (t : Tbl α) (k : Nat) : Option α :=
  match t with
  | [] => none
  | (j, v) :: r => if j = k then some v else tget? r k

/-- Set the entry of a number, numbers kept rising. -/
def tset {α : Type} (t : Tbl α) (k : Nat) (v : α) : Tbl α :=
  match t with
  | [] => [(k, v)]
  | (j, u) :: r => if k < j then (k, v) :: (j, u) :: r
                   else if k = j then (k, v) :: r
                   else (j, u) :: tset r k v

/-- Remove the entry of a number. -/
def tdel {α : Type} (t : Tbl α) (k : Nat) : Tbl α :=
  t.filter (fun e => e.1 ≠ k)

/-- Change the entry of a number. -/
def tmod {α : Type} (t : Tbl α) (k : Nat) (d : α) (f : α → α) : Tbl α :=
  tset t k (f (tget t k d))

/-- The numbers 0 to n - 1. -/
def upTo (n : Nat) : List Nat := List.range n

/-- Run a change once for every element, in order. -/
def each {α σ : Type} (l : List α) (f : α → σ → σ) (s : σ) : σ :=
  match l with
  | [] => s
  | x :: r => each r f (f x s)

/-- Put a value at the end of a list unless it is there. -/
def addOnce {α : Type} [DecidableEq α] (l : List α) (x : α) : List α :=
  if x ∈ l then l else l ++ [x]

/-- The elements of a list without repeats. -/
def dedup {α : Type} [DecidableEq α] (l : List α) : List α :=
  l.foldl addOnce []

/-- Insert a number into a rising list. -/
def insertNat (x : Nat) (l : List Nat) : List Nat :=
  match l with
  | [] => [x]
  | y :: r => if x < y then x :: y :: r else if x = y then y :: r else y :: insertNat x r

/-- A list of numbers in rising order without repeats. -/
def sortNat (l : List Nat) : List Nat := l.foldr insertNat []

/-- Insert by a key, after those whose key is not larger. -/
def insertBy {α : Type} (key : α → Int) (x : α) (l : List α) : List α :=
  match l with
  | [] => [x]
  | y :: r => if key x < key y then x :: y :: r else y :: insertBy key x r

/-- Stable sort by a rising key. -/
def sortBy {α : Type} (key : α → Int) (l : List α) : List α :=
  l.foldl (fun acc x => insertBy key x acc) []

/-! ## Bits and numbers -/

/-- Bits [lo + n - 1 : lo] of a number. -/
def bitsN (v lo n : Nat) : Nat := v / 2 ^ lo % 2 ^ n

/-- Bits [lo + n - 1 : lo] of a word. -/
def bits (w : Word) (lo n : Nat) : Nat := bitsN w.toNat lo n

/-- Bit i of a word. -/
def bit (w : Word) (i : Nat) : Bool := w.toNat / 2 ^ i % 2 = 1

/-- Bit i of a number. -/
def bitN (v i : Nat) : Bool := v / 2 ^ i % 2 = 1

/-- 1 for true. -/
def b2n (b : Bool) : Nat := if b then 1 else 0

/-- The signed value of an n-bit field. -/
def sx (n v : Nat) : Int := if v % 2 ^ n < 2 ^ (n - 1) then (v % 2 ^ n : Nat) else (v % 2 ^ n : Nat) - (2 ^ n : Nat)

/-- The n-bit two's complement field of an integer. -/
def field (n : Nat) (v : Int) : Nat := (v % (2 ^ n : Nat)).toNat

/-- A word from a number. -/
def w32 (v : Nat) : Word := BitVec.ofNat 32 v

/-- A Funnel word from a number. -/
def d64 (v : Nat) : DWord := BitVec.ofNat 64 v

/-- A number held in a range. -/
def clampN (v lo hi : Nat) : Nat := if v < lo then lo else if v > hi then hi else v

/-- An integer held in a range. -/
def clampI (v lo hi : Int) : Int := if v < lo then lo else if v > hi then hi else v

/-- n / d to nearest, ties to even, for d > 0. -/
def rneDiv (n : Int) (d : Nat) : Int :=
  let q := n / d
  let r := n % d
  if 2 * r < d then q else if 2 * r > d then q + 1 else if q % 2 = 0 then q else q + 1

/-- n × 2^e to nearest integer, ties to even. -/
def rneShift (n : Int) (e : Int) : Int :=
  if 0 ≤ e then n * (2 ^ e.toNat : Nat) else rneDiv n (2 ^ (-e).toNat)

/-- Upper end of a division. -/
def ceilDiv (a b : Nat) : Nat := (a + b - 1) / b

/-- Integer square root by bits: the largest r with r² ≤ n. fuel counts bits of the root. -/
def isqrtAux (n r : Nat) (fuel : Nat) : Nat :=
  match fuel with
  | 0 => r
  | k + 1 =>
    let t := r + 2 ^ k
    isqrtAux n (if t * t ≤ n then t else r) k

/-- The largest r with r² ≤ n, for n below 2^256. -/
def isqrt (n : Nat) : Nat := isqrtAux n 0 128

/-- The exponent of the leading bit of n, 0 for 0 and 1. -/
def log2 (n : Nat) : Nat := Nat.log2 n

/-- The number of bits set in the low n bits. -/
def popcount (v n : Nat) : Nat := ((upTo n).filter (fun i => bitN v i)).length

/-- The positions of the bits set in the low n bits, rising. -/
def bitsSet (v n : Nat) : List Nat := (upTo n).filter (fun i => bitN v i)

/-- Set bit i of a number. -/
def setBit (v i : Nat) : Nat := if bitN v i then v else v + 2 ^ i

/-- Clear bit i of a number. -/
def clrBit (v i : Nat) : Nat := if bitN v i then v - 2 ^ i else v

/-- A number from the positions of its bits. -/
def maskOf (l : List Nat) : Nat := (sortNat l).foldl (fun a i => a + 2 ^ i) 0

/-! ## Bytes -/

/-- A byte from a number. -/
def byte (v : Nat) : Byte := BitVec.ofNat 8 v

/-- n bytes of a number, low byte first (R12). -/
def leBytes (n v : Nat) : Bytes :=
  match n with
  | 0 => []
  | k + 1 => byte (v % 256) :: leBytes k (v / 256)

/-- The number of bytes low byte first. -/
def ofBytes (b : Bytes) : Nat :=
  match b with
  | [] => 0
  | x :: r => x.toNat + 256 * ofBytes r

/-- Words as bytes. -/
def wordBytes (ws : List Word) : Bytes := ws.flatMap (fun w => leBytes 4 w.toNat)

/-- 64-bit words as bytes. -/
def dwordBytes (ws : List DWord) : Bytes := ws.flatMap (fun w => leBytes 8 w.toNat)

/-- The first n words of bytes. -/
def toWords (n : Nat) (b : Bytes) : List Word :=
  match n with
  | 0 => []
  | k + 1 => w32 (ofBytes (b.take 4)) :: toWords k (b.drop 4)

/-- The first n 64-bit words of bytes. -/
def toDwords (n : Nat) (b : Bytes) : List DWord :=
  match n with
  | 0 => []
  | k + 1 => d64 (ofBytes (b.take 8)) :: toDwords k (b.drop 8)

/-- Bytes cut or zero-filled to a length. -/
def padTo (n : Nat) (b : Bytes) : Bytes := b.take n ++ List.replicate (n - b.length) 0

/-- n bytes of a byte string from an offset, zero beyond its end. -/
def sliceB (b : Bytes) (off n : Nat) : Bytes := padTo n ((b.drop off).take n)

/-- The little-endian number of n bytes at an offset. -/
def leAt (b : Bytes) (off n : Nat) : Nat := ofBytes (sliceB b off n)

/-! ## Memory -/

/-- The byte at an address; an unlisted address reads 0. -/
def Memory.read (m : List Host.Cell) (a : Nat) : Byte :=
  match m with
  | [] => 0
  | (k, b) :: r => if k = a then b else Memory.read r a

/-- Insert or replace a cell, addresses kept rising. -/
def Memory.put (m : List Host.Cell) (a : Nat) (b : Byte) : List Host.Cell :=
  match m with
  | [] => [(a, b)]
  | (k, v) :: r => if a < k then (a, b) :: (k, v) :: r
                   else if a = k then (a, b) :: r
                   else (k, v) :: Memory.put r a b

/-- Remove the cell of an address. -/
def Memory.drop (m : List Host.Cell) (a : Nat) : List Host.Cell :=
  match m with
  | [] => []
  | (k, v) :: r => if k = a then r else (k, v) :: Memory.drop r a

/-- Write a byte; writing 0 removes the cell, so that equal memories are equal lists. -/
def Memory.write (m : List Host.Cell) (a : Nat) (b : Byte) : List Host.Cell :=
  if b = 0 then Memory.drop m a else Memory.put m a b

/-- Whether every address is above a bound and they rise from it, and no byte is 0. -/
def Memory.above (lo : Nat) (m : List Host.Cell) : Bool :=
  match m with
  | [] => true
  | (k, v) :: r => decide (lo ≤ k) && decide (v ≠ 0) && Memory.above (k + 1) r

/-- The canonical form: addresses strictly rising, no cell holding 0. -/
def Memory.wf (m : List Host.Cell) : Bool := Memory.above 0 m

/-- Write bytes from an address upwards. -/
def Memory.writeBytes (m : List Host.Cell) (a : Nat) (b : Bytes) : List Host.Cell :=
  match b with
  | [] => m
  | x :: r => Memory.writeBytes (Memory.write m a x) (a + 1) r

/-- Read n bytes from an address upwards. -/
def Memory.readBytes (m : List Host.Cell) (a n : Nat) : Bytes :=
  match n with
  | 0 => []
  | k + 1 => Memory.read m a :: Memory.readBytes m (a + 1) k

/-- The n-byte number at an address. -/
def Memory.readNat (m : List Host.Cell) (a n : Nat) : Nat := ofBytes (Memory.readBytes m a n)

/-- Clear n bytes from an address upwards. -/
def Memory.clear (m : List Host.Cell) (a n : Nat) : List Host.Cell :=
  m.filter (fun c => c.1 < a || a + n ≤ c.1)

/-! ## Numbers of units -/

/-- The number of a tile: 33 × core + tile, tile 32 being TX. -/
def tileNo (core tile : Nat) : Nat := 33 * core + tile

/-- The number of a lane or reply ring: 16 × function + lane. -/
def laneNo (fn lane : Nat) : Nat := 16 * fn + lane

/-- The number of a queue of a core. -/
def queueNo (core queue : Nat) : Nat := 4 * core + queue

/-- The unit word of Table 12.7: core, tile (63 none), column (1,023 none), lane. -/
def unitWord (core tile column lane : Nat) : Nat :=
  core % 32 + 32 * (tile % 64) + 2048 * (column % 1024) + 2097152 * (lane % 16)

/-- The unit word of a tile. -/
def unitTile (core tile : Nat) : Nat := unitWord core tile 1023 0

/-- The unit word of a core. -/
def unitCore (core : Nat) : Nat := unitWord core 63 1023 0

/-! ## Parts of State -/

/-- A tile. -/
def State.tile (s : State) (core t : Nat) : Tile := tget s.tiles (tileNo core t) (Tile.start (tileNo core t))

/-- Put a tile. -/
def State.setTile (s : State) (core t : Nat) (v : Tile) : State :=
  { s with tiles := tset s.tiles (tileNo core t) v }

/-- Change a tile. -/
def State.modTile (s : State) (core t : Nat) (f : Tile → Tile) : State := s.setTile core t (f (s.tile core t))

/-- A core. -/
def State.core (s : State) (c : Nat) : Core := tget s.cores c (Core.start c)

/-- Put a core. -/
def State.setCore (s : State) (c : Nat) (v : Core) : State := { s with cores := tset s.cores c v }

/-- Change a core. -/
def State.modCore (s : State) (c : Nat) (f : Core → Core) : State := s.setCore c (f (s.core c))

/-- A lane with its reply ring. -/
def State.lane (s : State) (fn k : Nat) : Lane := tget s.host.lanes (laneNo fn k) Lane.start

/-- Change a lane. -/
def State.modLane (s : State) (fn k : Nat) (f : Lane → Lane) : State :=
  { s with host := { s.host with lanes := tset s.host.lanes (laneNo fn k) (f (s.lane fn k)) } }

/-- A Funnel. -/
def State.funnel (s : State) (p : Nat) : Funnel := tget s.funnels p Funnel.start

/-- Change a Funnel. -/
def State.modFunnel (s : State) (p : Nat) (f : Funnel → Funnel) : State :=
  { s with funnels := tset s.funnels p (f (s.funnel p)) }

/-- Change the power group. -/
def State.modPower (s : State) (f : Power → Power) : State := { s with power := f s.power }

/-- Change the Crock. -/
def State.modCrock (s : State) (f : Crock → Crock) : State := { s with crock := f s.crock }

/-- Change the security group. -/
def State.modSec (s : State) (f : Security → Security) : State := { s with sec := f s.sec }

/-- Change the host side. -/
def State.modHost (s : State) (f : HostSide → HostSide) : State := { s with host := f s.host }

/-- Change the command processor. -/
def State.modPre (s : State) (f : Preoft → Preoft) : State := { s with pre := f s.pre }

/-- Change the flows group. -/
def State.modFlows (s : State) (f : Flows → Flows) : State := { s with flows := f s.flows }

/-- Change the ingest group. -/
def State.modIngest (s : State) (f : Ingest → Ingest) : State := { s with ingest := f s.ingest }

/-- Change the timebase. -/
def State.modTb (s : State) (f : Timebase → Timebase) : State := { s with tb := f s.tb }

/-- Change the network group. -/
def State.modNet (s : State) (f : Net → Net) : State := { s with net := f s.net }

/-- Change Probe. -/
def State.modProbe (s : State) (f : Probe → Probe) : State := { s with probe := f s.probe }

/-- Change the trace. -/
def State.modTrace (s : State) (f : Trace → Trace) : State := { s with trace := f s.trace }

/-- Change the management group. -/
def State.modMgmt (s : State) (f : Mgmt → Mgmt) : State := { s with mgmt := f s.mgmt }

/-- Change the package-memory group. -/
def State.modPkg (s : State) (f : PkgMem → PkgMem) : State := { s with pkg := f s.pkg }

/-- Change the Crock mirrors; a change makes them dirty (Table 14.13). -/
def State.modMirror (s : State) (f : Journal → Journal) : State :=
  { s with crock := { s.crock with mirror := f s.crock.mirror, dirty := true } }

/-- The calibration record of a tile in the mirrors. -/
def State.calRec (s : State) (core t : Nat) : CalRec :=
  tget s.crock.mirror.cal (tileNo core t) (CalRec.start (tileNo core t))

/-- Change a calibration record. -/
def State.modCal (s : State) (core t : Nat) (f : CalRec → CalRec) : State :=
  s.modMirror (fun j => { j with cal := tset j.cal (tileNo core t) (f (s.calRec core t)) })

/-- A context, if it exists. -/
def State.ctx? (s : State) (n : Nat) : Option Ctx := tget? s.flows.ctxs n

/-- Put a context. -/
def State.setCtx (s : State) (n : Nat) (c : Ctx) : State :=
  s.modFlows (fun f => { f with ctxs := tset f.ctxs n c })

/-- Change a context that exists. -/
def State.modCtx (s : State) (n : Nat) (g : Ctx → Ctx) : State :=
  match s.ctx? n with
  | some c => s.setCtx n (g c)
  | none => s

/-- A run, if it exists. -/
def State.run? (s : State) (r : Nat) : Option Run := tget? s.flows.runs r

/-- Put a run. -/
def State.setRun (s : State) (r : Nat) (v : Run) : State :=
  s.modFlows (fun f => { f with runs := tset f.runs r v })

/-- Change a run that exists. -/
def State.modRun (s : State) (r : Nat) (g : Run → Run) : State :=
  match s.run? r with
  | some v => s.setRun r (g v)
  | none => s

/-- A queue of a core, if a part is resident on it. -/
def State.queue? (s : State) (c q : Nat) : Option Queue := tget? (s.core c).queues q

/-- Put a resident part. -/
def State.setQueue (s : State) (c q : Nat) (v : Queue) : State :=
  s.modCore c (fun k => { k with queues := tset k.queues q v })

/-- Change a resident part. -/
def State.modQueue (s : State) (c q : Nat) (g : Queue → Queue) : State :=
  match s.queue? c q with
  | some v => s.setQueue c q (g v)
  | none => s

/-- A link. -/
def State.link (s : State) (n : Nat) : Link := tget s.ingest.links n Link.start

/-- Change a link. -/
def State.modLink (s : State) (n : Nat) (g : Link → Link) : State :=
  s.modIngest (fun i => { i with links := tset i.links n (g (s.link n)) })

/-- A port. -/
def State.port (s : State) (n : Nat) : Port := tget s.net.ports n Port.start

/-- Change a port. -/
def State.modPort (s : State) (n : Nat) (g : Port → Port) : State :=
  s.modNet (fun t => { t with ports := tset t.ports n (g (s.port n)) })

/-- A peer of a partition. -/
def State.peer (s : State) (p n : Nat) : Peer := tget s.net.peers (64 * p + n) Peer.start

/-- Change a peer. -/
def State.modPeer (s : State) (p n : Nat) (g : Peer → Peer) : State :=
  s.modNet (fun t => { t with peers := tset t.peers (64 * p + n) (g (s.peer p n)) })

/-- Something leaves the device (log 8). -/
def State.emit (s : State) (o : Out) : State := { s with host := { s.host with out := s.host.out ++ [o] } }

/-- Take a fresh number for a free value (log 3). -/
def State.nextDraw (s : State) : State := { s with draw := s.draw + 1 }

/-- Host memory read by the device. -/
def State.hostRead (s : State) (a n : Nat) : Bytes := Memory.readBytes s.host.mem a n

/-- Host memory written by the device. -/
def State.hostWrite (s : State) (a : Nat) (b : Bytes) : State :=
  { s with host := { s.host with mem := Memory.writeBytes s.host.mem a b } }

/-! ## Outcomes -/

/-- What a meaning answers. -/
abbrev Answer := Host.Outcome State Fault Refusal

/-- An event that comes about only where its condition holds; elsewhere it changes nothing (log 16). -/
def ifDue (due : Bool) (f : State → State) (s : State) : Answer := .next (if due then f s else s)

/-- A command whose operands must have a form (Fault.illFormed). -/
def checked (wf : Bool) (f : State → State) (s : State) : Answer :=
  if wf then .next (f s) else .fault .illFormed

end Sys2Proof.Machine
end

