-- ==== Sys2Proof/Machine/Regs.lean ====
section
/-! DEFINITION. The stored register fields of BAR0 by their offset in the physical function's view: global
page at 0, partition page p at 0x1_0000 × (p + 1) (R310, R437). Intake blocks, MSI-X tables and read-only
fields stand elsewhere. -/

namespace Sys2Proof.Machine

/-- A stored field: place, width, range a written value is held to, reset value. -/
structure RwField where
  lo : Nat
  n : Nat
  min : Nat
  max : Nat
  reset : Nat

/-- A register with stored fields: whether its writes are staged (R291). -/
structure RegDesc where
  staged : Bool
  fields : List RwField

/-- A field without a range. -/
def fld (lo n reset : Nat) : RwField := { lo := lo, n := n, min := 0, max := 2 ^ n - 1, reset := reset }

/-- A field held to a range. -/
def fldR (lo n min max reset : Nat) : RwField := { lo := lo, n := n, min := min, max := max, reset := reset }

/-- A field whose low k bits are reserved for alignment. -/
def fldA (k n reset : Nat) : RwField := { lo := k, n := n - k, min := 0, max := 2 ^ (n - k) - 1, reset := reset }

/-- A register that acts on write. -/
def now (f : List RwField) : Option RegDesc := some { staged := false, fields := f }

/-- A register whose writes are staged. -/
def stg (f : List RwField) : Option RegDesc := some { staged := true, fields := f }

/-- 1 for partition 0. -/
def ifP0 (p v : Nat) : Nat := if p = 0 then v else 0

/-- The stored fields of the global page (Tables 5.8, 5.9, 7.2, 8.6, 8.7, 9.5, 11.3, 11.16, 12.11, 13.11,
14.13). -/
def globalReg (o : Nat) : Option RegDesc :=
  if o % 4 ≠ 0 then none
  else if o = 0x140 then stg [fldR 0 10 1 600 10, fldR 16 12 60 3600 600, fldR 28 4 1 15 10]
  else if o = 0x144 then stg [fldR 0 10 10 500 50, fldR 10 10 1 1000 90, fld 20 1 0]
  else if 0x200 ≤ o && o < 0x280 then
    if o % 8 = 0 then stg [fld 0 32 0] else stg [fld 0 1 0, fld 1 3 0]
  else if o = 0x300 then now [fld 0 2 0, fld 4 2 0]
  else if o = 0x308 || o = 0x30C then now [fld 0 32 0]
  else if o = 0x318 then now [fld 0 24 0]
  else if o = 0x31C || o = 0x320 then now [fld 0 20 0]
  else if 0x340 ≤ o && o < 0x360 then now [fld 0 1 0, fld 1 2 0, fld 3 3 0]
  else if 0x360 ≤ o && o < 0x380 then
    stg [fld 0 1 0, fld 1 1 0, fld 2 3 0, fld 5 1 0, fld 6 1 0, fld 8 16 25]
  else if 0x400 ≤ o && o < 0x480 then
    match o % 0x20 with
    | 0x00 => stg [fld 0 1 0, fld 1 4 0, fld 5 3 0, fld 8 3 0, fld 11 1 0, fld 12 1 0]
    | 0x04 => stg [fld 0 5 0, fld 5 4 15, fld 9 1 1, fld 10 2 0, fld 12 5 0, fld 17 6 1, fld 23 5 0]
    | 0x08 => stg [fld 0 16 32500, fld 16 10 0]
    | 0x0C => stg [fld 0 32 0]
    | 0x10 => stg [fld 0 24 0]
    | 0x14 => stg [fld 0 3 4]
    | _ => none
  else if 0x500 ≤ o && o < 0x540 then
    if o % 8 = 0 then stg [fld 0 14 0] else stg [fld 0 15 (ifP0 ((o - 0x500) / 8) 16384)]
  else if 0x600 ≤ o && o < 0x640 then
    if o % 8 = 0 then stg [fld 0 1 (ifP0 ((o - 0x600) / 8) 1), fld 1 5 0]
    else stg [fld 0 32 (ifP0 ((o - 0x600) / 8) 0xFFFFFFFF)]
  else if o = 0x640 || o = 0x644 then stg [fld 0 32 0]
  else if 0xC00 ≤ o && o < 0xC40 then
    if o % 8 = 0 then
      let p := (o - 0xC00) / 8
      stg [fld 0 8 (ifP0 p 16), fld 8 8 (ifP0 p 32), fld 16 8 (ifP0 p 4), fld 24 8 (ifP0 p 4)]
    else none
  else if o = 0xC40 then stg [fld 0 1 1, fld 1 8 24]
  else if o = 0xD00 then stg [fldR 0 8 3 32 6, fldR 8 8 3 32 6]
  else if o = 0xD04 then stg [fldR 0 8 10 255 60, fldR 8 4 1 15 1, fld 12 1 0, fldR 16 16 10 65535 1000]
  else if o = 0xD08 then stg [fldR 0 16 60 65535 600]
  else if o = 0xE00 then now [fld 0 2 0, fld 2 3 6, fldR 8 6 30 60 60]
  else if o = 0xE10 then now [fld 0 32 0]
  else if o = 0xF04 then stg [fld 0 8 0]
  else if o = 0x1000 then now [fld 0 1 1, fld 1 1 1]
  else if o = 0x1100 then now [fld 0 1 1, fld 1 1 1, fld 9 6 0x3F]
  else if o = 0x1104 then now [fld 0 1 0, fld 8 7 1]
  else none

/-- The stored fields of a partition page (Tables 7.4, 9.5, 11.8, 12.11). -/
def partReg (o : Nat) : Option RegDesc :=
  if o % 4 ≠ 0 then none
  else if 0x200 ≤ o && o < 0x210 then stg [fldR 0 24 1 10000000 10000]
  else if o = 0x300 then stg [fld 0 1 0, fld 8 8 0]
  else if o = 0x304 then stg [fld 0 32 65536]
  else if o = 0x400 then stg [fld 0 1 0, fld 1 1 0, fld 2 1 0, fld 3 6 0, fld 9 1 0, fld 16 6 0, fld 24 8 0]
  else if o = 0x404 then stg [fldA 12 32 0]
  else if o = 0x408 then stg [fld 0 32 0]
  else if o = 0x40C then stg [fldR 0 5 12 30 16]
  else if o = 0x410 then stg [fldA 3 32 0]
  else if o = 0x414 then stg [fld 0 32 0]
  else if o = 0x418 then now [fldA 6 32 0]
  else if o = 0x420 then stg [fldR 0 9 16 240 64]
  else if o = 0x500 then stg [fld 0 1 0, fld 1 1 0, fldR 8 8 2 64 8]
  else none

/-- The offset of a register of partition page p in the physical function's view. -/
def partOff (p o : Nat) : Nat := 0x10000 * (p + 1) + o

/-- The stored fields at an offset of the physical function's view. -/
def regDesc (off : Nat) : Option RegDesc :=
  if off < 0x10000 then globalReg off
  else if off < 0x90000 then partReg (off % 0x10000)
  else none

/-- The value with every field at its reset value. -/
def RegDesc.reset (d : RegDesc) : Nat := d.fields.foldl (fun a f => a + f.reset * 2 ^ f.lo) 0

/-- The mask of the stored fields. -/
def RegDesc.mask (d : RegDesc) : Nat := d.fields.foldl (fun a f => a + (2 ^ f.n - 1) * 2 ^ f.lo) 0

/-- A written value with every field held to its range; reserved and read-only bits read 0. -/
def RegDesc.held (d : RegDesc) (v : Nat) : Nat :=
  d.fields.foldl (fun a f => a + clampN (bitsN v f.lo f.n) f.min f.max * 2 ^ f.lo) 0

/-- What an unwritten register holds. -/
def regDefault (off : Nat) : Word :=
  match regDesc off with
  | some d => w32 d.reset
  | none => 0

/-- The value in force of the stored fields of a register. -/
def State.reg (s : State) (off : Nat) : Word :=
  match tget? s.pre.regs off with
  | some v => v
  | none => regDefault off

/-- A field of a register in force. -/
def State.regf (s : State) (off lo n : Nat) : Nat := bits (s.reg off) lo n

/-- Put a register's stored fields. -/
def State.setReg (s : State) (off : Nat) (v : Word) : State :=
  { s with pre := { s.pre with regs := tset s.pre.regs off v } }

/-- Put one field of a register. -/
def State.setRegf (s : State) (off lo n v : Nat) : State :=
  let old := (s.reg off).toNat
  s.setReg off (w32 (old - bitsN old lo n * 2 ^ lo + v % 2 ^ n * 2 ^ lo))

/-! ## Fields in force, by name -/

/-- GL_PART_BIND ENABLE of partition p (Table 11.3). -/
def State.partOn (s : State) (p : Nat) : Bool := s.regf (0x600 + 8 * p) 0 1 = 1

/-- GL_PART_BIND FUNCTION of partition p. -/
def State.partFn (s : State) (p : Nat) : Nat := s.regf (0x600 + 8 * p) 1 5

/-- GL_PART_CORES of partition p. -/
def State.partCores (s : State) (p : Nat) : Nat := s.regf (0x604 + 8 * p) 0 32

/-- The partition bound to a function (R315). -/
def State.fnPart? (s : State) (fn : Nat) : Option Nat :=
  (upTo 8).find? (fun p => s.partOn p && s.partFn p == fn)

/-- The partition a core lies in. -/
def State.corePart? (s : State) (c : Nat) : Option Nat :=
  (upTo 8).find? (fun p => s.partOn p && bitN (s.partCores p) c)

/-- The enabled partitions. -/
def State.partsOn (s : State) : List Nat := (upTo 8).filter s.partOn

/-- The partition's number in a unit's fault record, 255 for none. -/
def State.corePartNo (s : State) (c : Nat) : Nat := (s.corePart? c).getD 255

/-- First flow and count of a partition's share (Table 9.5). -/
def State.share (s : State) (p : Nat) : Nat × Nat := (s.regf (0x500 + 8 * p) 0 14, s.regf (0x504 + 8 * p) 0 15)

/-- Whether a flow number lies in a partition's share. -/
def State.inShare (s : State) (p f : Nat) : Bool :=
  decide ((s.share p).1 ≤ f) && decide (f < (s.share p).1 + (s.share p).2)

/-- The owner of a flow number. -/
def State.flowPart? (s : State) (f : Nat) : Option Nat := (upTo 8).find? (fun p => s.partOn p && s.inShare p f)

/-- A link register field (Table 8.7). -/
def State.linkf (s : State) (n o lo w : Nat) : Nat := s.regf (0x400 + 0x20 * n + o) lo w

/-- IG_LINK_CTRL ENABLE. -/
def State.linkOn (s : State) (n : Nat) : Bool := s.linkf n 0 0 1 = 1

/-- The owning partition of a link. -/
def State.linkPart (s : State) (n : Nat) : Nat := s.linkf n 0 8 3

/-- TB_TRIG_OUT_CFG fields of a pin. -/
def State.trigOutf (s : State) (p lo w : Nat) : Nat := s.regf (0x360 + 4 * p) lo w

/-- PT_FN_CTRL fields of a partition. -/
def State.fnCtrl (s : State) (p lo w : Nat) : Nat := s.regf (partOff p 0x400) lo w

/-- TARGET in GL_POWER_CTRL. -/
def State.target (s : State) : Nat := s.regf 0xE00 0 2

/-- Whether commands are served: READY and not halted (R398, Table 13.4). -/
def State.served (s : State) : Bool := s.power.ready && !s.power.halted

/-- Whether cores, tiles and the Ladle run (R380, R401, R410). -/
def State.coresRun (s : State) : Bool :=
  s.served && !s.power.fatal && !s.power.refclkLost && s.power.state == 0

/-- Whether a core is quiesced (R404). -/
def State.quiesced (s : State) (c : Nat) : Bool := bitN (tget s.crock.mirror.coreState c 0) 2

/-- Whether a core is retired (R389). -/
def State.coreRetired (s : State) (c : Nat) : Bool :=
  s.crock.mirror.retired.any (fun e => e.kind == 2 && e.core == c)

/-- Whether a lane is retired (R389). -/
def State.laneRetired (s : State) (l : Nat) : Bool :=
  s.crock.mirror.retired.any (fun e => e.kind == 3 && e.lane == l)

/-- Whether a data or checksum column of a tile is retired (R389). -/
def State.colRetired (s : State) (core tile col : Nat) : Bool :=
  s.crock.mirror.retired.any
    (fun e => (e.kind == 0 || e.kind == 1) && e.core == core && e.tile == tile && e.column == col)

/-- Whether a core takes work: in service and running (R377, R404). -/
def State.coreUp (s : State) (c : Nat) : Bool := s.coresRun && !s.quiesced c && !s.coreRetired c

/-- Whether a tile is out of service (Table 12.5). -/
def State.tileOut (s : State) (c t : Nat) : Bool :=
  s.coreRetired c || decide ((s.tile c t).state = TileState.retired)

/-- Grade E (Table 3.3 GRADE). -/
def State.gradeE (s : State) : Bool := s.sec.card.grade == 1

end Sys2Proof.Machine
end

