-- ==== Sys2Proof/Machine/Clock.lean ====
section
/-! DEFINITION. Time: the 4 ns periods of the analogue timing clock, the tick counter (R232, R237), sample
stamps (R234) and the PTP time of a tick (R241). Instants are in units of 125 ps from clk 0. -/

namespace Sys2Proof.Machine

/-- The periods of the analogue timing clock in 1 µs. -/
def usClk : Nat := 250

/-- The periods in 1 ms. -/
def msClk : Nat := 250000

/-- The periods in 1 s. -/
def secClk : Nat := 250000000

/-- Whether the timebase is Running. -/
def State.tbRunning (s : State) : Bool := s.tb.state == 2

/-- The present tick; the held one while not Running (R284). -/
def State.tick (s : State) : Nat := s.tb.tick

/-- The instant of the present period in 125 ps units. -/
def State.instNow (s : State) : Int := s.clk * 32

/-- E_0 in 125 ps units: REFCLK edges are 10 ns apart (R237). -/
def Timebase.e0 (tb : Timebase) : Int := tb.armRef * 80

/-- The numerator of the tick rate f_m, in ticks per 125 ps: S × R over rateDen (R232). -/
def Timebase.rateNum (tb : Timebase) : Nat := tb.s * tb.r

/-- The denominator of the tick rate per 125 ps: S × R × 4 / (33 F) ticks per µs over 8,000 units per µs. -/
def Timebase.rateDen (tb : Timebase) : Nat := 66000 * tb.f

/-- The tick, in 1/256, of an instant (125 ps units) after E_0, rounded down (log 18). -/
def Timebase.tick256At (tb : Timebase) (inst : Int) : Nat :=
  if inst < tb.e0 || tb.rateDen = 0 then tb.loadTick * 256
  else tb.loadTick * 256 + (inst - tb.e0).toNat * tb.rateNum * 256 / tb.rateDen

/-- The instant of a tick to the nearest 125 ps (R237, R239). -/
def Timebase.instOf (tb : Timebase) (t : Nat) : Int :=
  tb.e0 + rneDiv (((t : Int) - tb.loadTick) * tb.rateDen) (max tb.rateNum 1)

/-- The tick of the present period while Running. -/
def State.tickOf (s : State) : Nat := s.tb.tick256At s.instNow / 256

/-- One 4 ns period passes: the tick follows while Running (R232), and the device PTP clock runs from
REFCLK (R241). -/
def idlePeriod (s : State) : State :=
  let s1 := { s with clk := s.clk + 1 }
  let ns := s.tb.ptpNs + 4
  let tb := { s.tb with
    tick := if s.tbRunning then s1.tickOf else s.tb.tick,
    ptpNs := if s.power.refclkLost then s.tb.ptpNs else if ns < 1000000000 then ns else ns - 1000000000,
    ptpSec := if !s.power.refclkLost && 1000000000 ≤ ns then s.tb.ptpSec + 1 else s.tb.ptpSec }
  { s1 with tb := tb }

/-- The first REFCLK edge at or after the start of the present period: the edge that samples a SYSREF edge of it (R237). -/
def State.refIndex (s : State) : Nat := ceilDiv (s.clk * 2) 5

/-- A signed 20-bit offset register in 125 ps units. -/
def State.offset125 (s : State) (off : Nat) : Int := sx 20 (s.regf off 0 20)

/-! ## Link parameters (Table 8.7) -/

/-- L of a link, 0 for a reserved LANE_COUNT. -/
def State.linkL (s : State) (n : Nat) : Nat :=
  match s.linkf n 0 5 3 with
  | 0 => 1
  | 1 => 2
  | 2 => 4
  | 3 => 8
  | 4 => 16
  | _ => 0

/-- The lanes of a link. -/
def State.linkLanes (s : State) (n : Nat) : List Nat :=
  (upTo (s.linkL n)).map (fun i => s.linkf n 0 1 4 + i)

/-- M of a link. -/
def State.linkM (s : State) (n : Nat) : Nat := s.linkf n 4 0 5 + 1

/-- N of a link. -/
def State.linkN (s : State) (n : Nat) : Nat := s.linkf n 4 5 4 + 1

/-- N' of a link. -/
def State.linkNp (s : State) (n : Nat) : Nat := if s.linkf n 4 9 1 = 1 then 16 else 8

/-- CS of a link. -/
def State.linkCs (s : State) (n : Nat) : Nat := s.linkf n 4 10 2

/-- S of a link. -/
def State.linkS (s : State) (n : Nat) : Nat := s.linkf n 4 12 5 + 1

/-- F of a link. -/
def State.linkF (s : State) (n : Nat) : Nat := s.linkf n 4 17 6 + 1

/-- E of a link. -/
def State.linkE (s : State) (n : Nat) : Nat := s.linkf n 4 23 5 + 1

/-- LANE_RATE of a link in Mb/s. -/
def State.linkRate (s : State) (n : Nat) : Nat := s.linkf n 8 0 16

/-- Whether a link carries I/Q streams. -/
def State.linkIq (s : State) (n : Nat) : Bool := s.linkf n 0 11 1 = 1

/-- The rules of Table 8.1 and R216 for a single link. -/
def State.linkLegal (s : State) (n : Nat) : Bool :=
  let L := s.linkL n
  let first := s.linkf n 0 1 4
  let N := s.linkN n
  L ≠ 0 && first % (max L 1) == 0 && decide (first + L ≤ 16) &&
  (N == 8 || N == 12 || N == 14 || N == 16) && decide (N ≤ s.linkNp n) &&
  decide (s.linkF n ≤ 64) &&
  decide (6000 ≤ s.linkRate n) && decide (s.linkRate n ≤ 32500) &&
  decide (s.linkf n 8 16 10 ≤ 32 * s.linkE n - 1) &&
  decide (s.linkf n 0x14 0 3 ≤ 6) &&
  s.linkF n * L * 8 == s.linkM n * s.linkS n * s.linkNp n &&
  (256 * s.linkE n) % s.linkF n == 0 &&
  (!s.linkIq n || s.linkM n % 2 == 0)

/-- Samples per second of a converter of a link, as the fraction num / den per µs: S R 4 / (33 F). -/
def State.linkRateNum (s : State) (n : Nat) : Nat := s.linkS n * s.linkRate n * 4

/-- The denominator of linkRateNum. -/
def State.linkRateDen (s : State) (n : Nat) : Nat := 33 * s.linkF n

/-- The stamp of sample k of link n in 1/256 tick, ties to even (R234); half adds half-sample positions: the
position is k2 / 2 samples. -/
def State.stamp256 (s : State) (n : Nat) (k2 : Int) : Int :=
  let num := (s.tb.s * s.tb.r * s.linkF n : Nat)
  let den := 2 * s.linkS n * s.linkRate n * s.tb.f
  (s.tb.loadTick * 256 : Nat) + rneDiv (k2 * (num : Int) * 256) (max den 1)
    + sx 24 (s.linkf n 0x10 0 24)

/-! ## Ticks and network time -/

/-- The PTP time (seconds, nanoseconds, locked) of a tick in 1/256 (R241): linear from the two most recent
pairs, at the nominal rate from one, 0 from none; rounded down to whole ns (log 18). -/
def State.ptpOf (s : State) (t256 : Nat) : Nat × Nat × Bool :=
  let mk (ns : Int) (l : Bool) : Nat × Nat × Bool :=
    if ns < 0 then (0, 0, l) else (ns.toNat / 1000000000 % 2 ^ 48, ns.toNat % 1000000000, l)
  match s.tb.pairs with
  | [] => (0, 0, false)
  | [a] =>
    let d := ((t256 : Int) - a.tick256) * (s.tb.rateDen : Int)
    mk ((a.sec * 1000000000 + a.ns : Nat) + d / (max (s.tb.rateNum * 256 * 8) 1 : Nat)) a.locked
  | a :: b :: _ =>
    let na : Int := (a.sec * 1000000000 + a.ns : Nat)
    let nb : Int := (b.sec * 1000000000 + b.ns : Nat)
    let d := ((t256 : Int) - a.tick256) * (na - nb)
    mk (na + d / (max ((a.tick256 : Int) - b.tick256) 1)) (a.locked && b.locked)

/-- Whether the latest pair was captured under PTP lock (Table 8.6). -/
def State.pairLocked (s : State) : Bool :=
  match s.tb.pairs with
  | a :: _ => a.locked
  | [] => false

/-- POWER_S: what the mirrors hold and the seconds since they were folded (Table 13.3). -/
def State.powerS (s : State) : Nat := s.crock.mirror.powerS + (s.clk - s.crock.foldClk) / secClk

/-- Largest tick reached, for the ARM check (R233). -/
def State.tickMax (s : State) : Nat :=
  if s.crock.mirror.tickReached then max s.crock.mirror.tickMax s.tb.tick else 0

/-- Fold the tick reached into the mirrors. -/
def State.foldTick (s : State) : State :=
  if s.crock.mirror.tickReached && decide (s.crock.mirror.tickMax < s.tb.tick) then
    s.modMirror (fun j => { j with tickMax := s.tb.tick })
  else s

/-! ## Events due (R278, R293) -/

/-- Whether a tick has come. -/
def State.reached (s : State) (t : Nat) : Bool := decide (t ≤ s.tick)

end Sys2Proof.Machine
end

