-- ==== Sys2Proof/Config.lean ====
section
/-! DEFINITION. What the manual leaves open and the machine nevertheless goes on with: opaque values with
no body, so that no proof can see one. Each is marked in notes/assumptions. -/

namespace Sys2Proof.Config

/-- FREE VALUE (log 3). R34: the code of an input exactly on a decision level is not defined; true takes
the upper of the two neighbouring codes. The arguments are the draw counter and the column. -/
opaque converterTie : Nat → Nat → Bool

/-- FREE VALUE (log 3). R421: the Probe code of a level halfway between two codes. -/
opaque probeTie : Nat → Bool

/-- FREE VALUE (log 3). R421: the factory coefficients of inputs 0 to 7, measured at final test and held in fuses: the zero in
1/16 LSB and the gain in 2^-16 of the input's unit per LSB. -/
opaque probeFactory : Nat → Int × Nat

/-- FREE VALUE (log 3). R449: a SYSREF edge that breaks the setup or hold window is taken at one of two
neighbouring REFCLK edges; true takes the later one. -/
opaque sysrefLater : Nat → Bool

/-- FREE VALUE (log 3). R450: a TRIG_IN pulse shorter than 2 ns may be ignored; true ignores the edge. -/
opaque shortPulseIgnored : Nat → Bool

/-- FREE VALUE (log 9). R178, R179: the segment coefficients of GELU, SILU, TANH, SIGMOID and EXP are not
given. The arguments are the function number of Table 6.7 (0x40 for the exponential) and the FP32 bits of
the operand; the answer is the FP32 bits of the result before output rounding. A function of the operand
alone: the same input always gives the same output. -/
opaque skilletCurve : Nat → Word → Word

/-- FREE VALUE (log 9). R180: the root of a negative sum, which a negative IMM can bring about, is not stated; the argument
is the FP32 sum. -/
opaque rootNegative : Word → Word

/-- FREE VALUE (log 10). R222: the fixed-point channeliser output, before saturation, as a function of the
block words, the coefficients, the channel and the input samples it spans. -/
opaque channelOut : List Nat → Nat → List (Int × Int) → Int × Int

/-- FREE VALUE (log 10). R223: the decimator output, before saturation; the filter coefficients are not
given. Arguments: the block words and the draw counter. -/
opaque decimatorOut : List Nat → Nat → Int × Int

/-- FREE VALUE (log 10). R224: the group delay of the decimator cascade, in input sample intervals, for
LOG2_FACTOR; the half-band filters are linear-phase, so an output spans twice the delay and one sample. -/
opaque decimatorDelay : Nat → Nat

/-- FREE VALUE (log 11). R248: the package memory address the context region gives a cold part. -/
opaque coldAddress : Nat → Nat → Nat

/-- FREE VALUE (log 12). R417, R418: the signature made with the device's identity key, whose private half
is never readable, over the given bytes. 512 bytes. -/
opaque identitySign : Bytes → Bytes

/-- FREE VALUE (log 12). R411, R412, R416: RSASSA-PSS verification with the key entry (modulus and
exponent, 528 bytes) over a message and a 512-byte signature. -/
opaque sigVerifies : Bytes → Bytes → Bytes → Bool

/-- FREE VALUE (log 13). Table 12.7 VCORE: the rail voltage of a core at a moment, in 0.1 mV; the spec
gives nominal figures only. Arguments: draw counter and core. -/
opaque coreVoltage : Nat → Nat → Nat

/-- FREE VALUE (log 14). R343: how the servo steers the device PTP clock for a measured offset, in ns. -/
opaque servoStep : Int → Int

end Sys2Proof.Config
end

