-- ==== Sys2Proof/Machine/Frac.lean ====
section
/-! DEFINITION. Exact fractions for the limits that the manual states with roots and quotients: compared by
cross multiplication, never rounded. -/

namespace Sys2Proof.Machine

/-- A fraction with a denominator above 0. -/
structure Frac where
  n : Int
  d : Nat

/-- A whole number. -/
def fInt (n : Int) : Frac := { n := n, d := 1 }

/-- n / d. -/
def fDiv (n : Int) (d : Nat) : Frac := { n := n, d := max d 1 }

/-- Sum. -/
def Frac.plus (a b : Frac) : Frac := { n := a.n * b.d + b.n * a.d, d := a.d * b.d }

/-- Difference. -/
def Frac.minus (a b : Frac) : Frac := { n := a.n * b.d - b.n * a.d, d := a.d * b.d }

/-- Product. -/
def Frac.times (a b : Frac) : Frac := { n := a.n * b.n, d := a.d * b.d }

/-- Magnitude. -/
def Frac.mag (a : Frac) : Frac := { n := (a.n.natAbs : Nat), d := a.d }

/-- Whether a ≤ b. -/
def Frac.le (a b : Frac) : Bool := decide (a.n * b.d ≤ b.n * a.d)

/-- Whether a ≤ k × √q, for q at least 0. -/
def Frac.leRoot (a : Frac) (k : Nat) (q : Frac) : Bool :=
  decide (a.n ≤ 0) || (a.times a).le ((fInt ((k * k : Nat) : Int)).times q)

/-- To the nearest integer, ties to even. -/
def Frac.rne (a : Frac) : Int := rneDiv a.n a.d

/-- Rounded down. -/
def Frac.floor (a : Frac) : Int := a.n / a.d

/-- e^x for |x| ≤ 2^8 × scale, over 2^48: the Taylor series of 24 terms on x / 256, squared eight times. -/
def expTerms (x : Int) (k : Nat) (fuel : Nat) (term acc : Int) : Int :=
  match fuel with
  | 0 => acc
  | f + 1 =>
    let t := term * x / (2 ^ 48 * k : Nat)
    expTerms x (k + 1) f t (acc + t)

/-- Square a value over 2^48, n times. -/
def sqTimes (n : Nat) (v : Int) : Int :=
  match n with
  | 0 => v
  | k + 1 => sqTimes k (v * v / (2 ^ 48 : Nat))

/-- e^(n/d) over 2^48, rounded down. -/
def expQ48 (a : Frac) : Int :=
  let x := a.n * (2 ^ 40 : Nat) / a.d
  sqTimes 8 (expTerms x 1 24 (2 ^ 48 : Nat) (2 ^ 48 : Nat))

end Sys2Proof.Machine
end

