-- ==== Sys2Proof/Machine/Fp.lean ====
section
/-! DEFINITION. The numbers of inputs and of Skillet (R86, R176, R177): decoding of formats, exact values, and FP32 arithmetic
in which every operation is rounded once, to nearest with ties to even, and a result beyond the largest finite value becomes
that value (log 9). -/

namespace Sys2Proof.Machine

/-! ## Formats -/

/-- A binary format with n exponent bits and m fraction bits. -/
structure FpFmt where
  n : Nat
  m : Nat

/-- FP16. -/
def fp16 : FpFmt := { n := 5, m := 10 }
/-- BF16. -/
def bf16 : FpFmt := { n := 8, m := 7 }
/-- FP32. -/
def fp32 : FpFmt := { n := 8, m := 23 }

/-- Bits of a format. -/
def FpFmt.width (f : FpFmt) : Nat := 1 + f.n + f.m

/-- The exponent bias. -/
def FpFmt.bias (f : FpFmt) : Nat := 2 ^ (f.n - 1) - 1

/-- The value of a bit pattern. -/
def decFp (f : FpFmt) (w : Nat) : Fp :=
  let s := bitN w (f.n + f.m)
  let e := bitsN w f.m f.n
  let m := w % 2 ^ f.m
  if e = 2 ^ f.n - 1 then (if m = 0 then .inf s else .nan)
  else if e = 0 then .fin s m (1 - (f.bias : Int) - f.m)
  else .fin s (m + 2 ^ f.m) ((e : Int) - f.bias - f.m)

/-- m × 2^e rounded down to a natural number, with whether anything was lost, for a shift either way. -/
def shiftN (m : Nat) (e : Int) : Nat := if 0 ≤ e then m * 2 ^ e.toNat else m / 2 ^ (-e).toNat

/-- Whether m × 2^e is above n × 2^f. -/
def dyGt (m : Nat) (e : Int) (n : Nat) (f : Int) : Bool :=
  if e ≤ f then decide (n * 2 ^ (f - e).toNat < m) else decide (n < m * 2 ^ (e - f).toNat)

/-- The pattern of the largest finite value. -/
def FpFmt.top (f : FpFmt) : Nat := (2 ^ f.n - 1) * 2 ^ f.m - 1

/-- The quiet NaN. -/
def FpFmt.quiet (f : FpFmt) : Nat := (2 ^ f.n - 1) * 2 ^ f.m + 2 ^ (f.m - 1)

/-- The pattern of a value, and whether it saturated (R177). -/
def encFp (f : FpFmt) (v : Fp) : Nat × Bool :=
  match v with
  | .nan => (f.quiet, false)
  | .inf s => (b2n s * 2 ^ (f.n + f.m) + f.top, true)
  | .fin s m e =>
    let sign := b2n s * 2 ^ (f.n + f.m)
    if m = 0 then (sign, false)
    else
      let emin : Int := 1 - (f.bias : Int)
      let lead : Int := (log2 m : Int) + e
      let u : Int := max (lead - f.m) (emin - f.m)
      if dyGt m e (2 ^ (f.m + 1) - 1) ((f.bias : Int) - f.m) then (sign + f.top, true)
      else
        let q := (rneShift (m : Int) (e - u)).toNat
        (sign + q + ((u - (emin - f.m)).toNat) * 2 ^ f.m, false)

/-- An FP32 word from a value. -/
def toF32 (v : Fp) : Word := w32 (encFp fp32 v).1

/-- The value of an FP32 word. -/
def ofF32 (w : Word) : Fp := decFp fp32 w.toNat

/-- An integer as a value. -/
def fpInt (n : Int) : Fp := .fin (decide (n < 0)) n.natAbs 0

/-- n × 2^e as a value. -/
def fpDyadic (n : Int) (e : Int) : Fp := .fin (decide (n < 0)) n.natAbs e

/-- An element of an input format (R86): 0 INT8, 1 INT16, 2 INT32, 3 FP16, 4 BF16. -/
def element (fmt : Nat) (w : Nat) : Fp :=
  match fmt with
  | 0 => fpInt (sx 8 w)
  | 1 => fpInt (sx 16 w)
  | 2 => fpInt (sx 32 w)
  | 3 => decFp fp16 w
  | _ => decFp bf16 w

/-! ## Exact operations -/

/-- Whether a value is NaN. -/
def Fp.isNan (v : Fp) : Bool :=
  match v with
  | .nan => true
  | _ => false

/-- The negation. -/
def Fp.neg (v : Fp) : Fp :=
  match v with
  | .nan => .nan
  | .inf s => .inf (!s)
  | .fin s m e => .fin (!s) m e

/-- The signed integer of a finite value at an exponent not above its own. -/
def atExp (s : Bool) (m : Nat) (e f : Int) : Int :=
  let v : Int := (m * 2 ^ (e - f).toNat : Nat)
  if s then -v else v

/-- The exact sum; a zero sum is negative only where both terms are. -/
def Fp.sum (a b : Fp) : Fp :=
  match a, b with
  | .nan, _ => .nan
  | _, .nan => .nan
  | .inf s, .inf t => if s = t then .inf s else .nan
  | .inf s, _ => .inf s
  | _, .inf t => .inf t
  | .fin s m e, .fin t n f =>
    let g := min e f
    let v := atExp s m e g + atExp t n f g
    if v = 0 then .fin (s && t) 0 0 else fpDyadic v g

/-- The exact product. -/
def Fp.prod (a b : Fp) : Fp :=
  match a, b with
  | .nan, _ => .nan
  | _, .nan => .nan
  | .inf s, .inf t => .inf (s != t)
  | .inf s, .fin t n _ => if n = 0 then .nan else .inf (s != t)
  | .fin s m _, .inf t => if m = 0 then .nan else .inf (s != t)
  | .fin s m e, .fin t n f => .fin (s != t) (m * n) (e + f)

/-- The quotient, with enough bits and a sticky bit that one rounding to FP32 is exact; the divisor is a non-zero
finite number. -/
def Fp.quot (a b : Fp) : Fp :=
  match a, b with
  | .fin s m e, .fin t n f =>
    if n = 0 then .nan
    else
      let k := 30 + log2 n - log2 m
      let q := m * 2 ^ k / n
      let sticky := b2n (decide (m * 2 ^ k % n ≠ 0))
      .fin (s != t) (2 * q + sticky) (e - f - k - 1)
  | .inf s, .fin t _ _ => .inf (s != t)
  | .fin s _ _, .inf t => .fin (s != t) 0 0
  | _, _ => .nan

/-- The square root of a number that is not negative, with a sticky bit. -/
def Fp.root (a : Fp) : Fp :=
  match a with
  | .fin s m e =>
    if m = 0 then .fin s 0 0
    else
      let odd := e % 2
      let n := m * 2 ^ (64 + odd.toNat)
      let r := isqrt n
      .fin false (2 * r + b2n (decide (r * r ≠ n))) ((e - odd) / 2 - 32 - 1)
  | x => x

/-- Whether a < b, for numbers. -/
def Fp.lt (a b : Fp) : Bool :=
  match a, b with
  | .fin s m e, .fin t n f =>
    let g := min e f
    decide (atExp s m e g < atExp t n f g)
  | .inf s, .inf t => s && !t
  | .inf s, .fin _ _ _ => s
  | .fin _ _ _, .inf t => !t
  | _, _ => false

/-- Whether a number is zero. -/
def Fp.isZero (a : Fp) : Bool :=
  match a with
  | .fin _ m _ => m == 0
  | _ => false

/-- Round a value to an integer, ties to even, and saturate it to n bits (R177); NaN becomes 0 and counts as a
saturation. -/
def Fp.toInt (n : Nat) (v : Fp) : Int × Bool :=
  let hi : Int := (2 ^ (n - 1) : Nat) - 1
  match v with
  | .nan => (0, true)
  | .inf s => (if s then -hi - 1 else hi, true)
  | .fin s m e =>
    let q := rneShift (if s then -(m : Int) else m) e
    (clampI q (-hi - 1) hi, decide (q < -hi - 1 ∨ hi < q))

/-! ## FP32 operations: each rounded once; the answer tells whether it saturated -/

/-- Round to FP32. -/
def round32 (v : Fp) : Word × Bool :=
  let r := encFp fp32 v
  (w32 r.1, r.2)

/-- a + b. -/
def add32 (a b : Word) : Word × Bool := round32 ((ofF32 a).sum (ofF32 b))

/-- a − b. -/
def sub32 (a b : Word) : Word × Bool := round32 ((ofF32 a).sum (ofF32 b).neg)

/-- a × b. -/
def mul32 (a b : Word) : Word × Bool := round32 ((ofF32 a).prod (ofF32 b))

/-- a / b. -/
def div32 (a b : Word) : Word × Bool := round32 ((ofF32 a).quot (ofF32 b))

/-- √a. -/
def root32 (a : Word) : Word := (round32 (ofF32 a).root).1

/-- Write a value in an output format (Table 6.8): its little-endian field and whether it saturated. -/
def outField (fmt : Nat) (w : Word) : Nat × Bool :=
  let v := ofF32 w
  match fmt with
  | 0 => let r := v.toInt 8; (field 8 r.1, r.2)
  | 1 => let r := v.toInt 16; (field 16 r.1, r.2)
  | 2 => let r := v.toInt 32; (field 32 r.1, r.2)
  | 3 => encFp fp16 v
  | _ => encFp bf16 v

end Sys2Proof.Machine
end

