-- ==== Sys2Proof/Machine/Records.lean ====
section
/-! DEFINITION. Counters (R431), trace capture (R433 to R436), Funnel packets and events (R322 to R326, R382)
and replies (R281, R284): what every other family forms and reports through. -/

namespace Sys2Proof.Machine

/-! ## Counters -/

/-- The BAR4 offset of word i of a core's counters. -/
def coreCtr (c i : Nat) : Nat := 0x200 * c + 8 * i

/-- The BAR4 offset of word i of a partition's counters. -/
def partCtr (p i : Nat) : Nat := 0x4000 + 0x100 * p + 8 * i

/-- The BAR4 offset of word i of a link's counters. -/
def linkCtr (n i : Nat) : Nat := 0x4800 + 0x40 * n + 8 * i

/-- IG_LANE_CRC_ERR of a lane. -/
def laneCtr (l : Nat) : Nat := 0x4900 + 8 * l

/-- IG_DEC_SAT of a decimator. -/
def decCtr (d : Nat) : Nat := 0x4980 + 8 * d

/-- Word i of a TRIG_IN pin. -/
def trigInCtr (p i : Nat) : Nat := 0x4A00 + 32 * p + 8 * i

/-- Word i of a TRIG_OUT pin. -/
def trigOutCtr (p i : Nat) : Nat := 0x4B00 + 64 * p + 8 * i

/-- Word i of a port. -/
def portCtr (p i : Nat) : Nat := 0x4D00 + 64 * p + 8 * i

/-- Word i of the device. -/
def devCtr (i : Nat) : Nat := 0x4D80 + 8 * i

/-- Word i of a tile's statistics. -/
def tileCtr (c t i : Nat) : Nat := 0x10000 + 0x840 * c + 0x40 * t + 8 * i

/-- Where a counter holds (R431): 24 bits for the six that share, 64 for tile statistics, else 48. -/
def counterMax (off : Nat) : Nat :=
  if 0x10000 ≤ off then 2 ^ 64 - 1
  else if off < 0x4000 && [28, 29, 45, 46, 50, 51].contains (off % 0x200 / 8) then 2 ^ 24 - 1
  else 2 ^ 48 - 1

/-- A counter's value. -/
def State.counter (s : State) (off : Nat) : Nat := tget s.counters off 0

/-- Count n more, holding at the counter's maximum. -/
def count (off n : Nat) (s : State) : State :=
  if n = 0 then s
  else { s with counters := tset s.counters off (min (s.counter off + n) (counterMax off)) }

/-! ## Trace -/

/-- A field of TR_CTRL and TR_PIN_CTRL. CLASS_MASK bit 0 reads 1. -/
def State.traceClassOn (s : State) (c : Nat) : Bool := c == 0 || s.regf 0x1100 (8 + c) 1 == 1

/-- Records in the 64-record input buffer now: it drains one record each 4 ns (R434). -/
def State.traceFill (s : State) : Nat := s.trace.fill - (s.clk - s.trace.fillClk)

/-- Send a captured record on the pins too (R435, R436). -/
def tracePin (r : TraceRec) (s : State) : State :=
  if s.regf 0x1104 0 1 = 1 && s.regf 0x1104 (8 + r.cls) 1 = 1 then
    if s.trace.pinQueue.length < 256 then
      s.modTrace (fun t => { t with pinQueue := t.pinQueue ++ [r] })
    else s.modTrace (fun t => { t with pinDrop := t.pinDrop + 1 })
  else s

/-- Capture a trace record (R433, R434). -/
def trace (r : TraceRec) (s : State) : State :=
  if s.regf 0x1100 0 1 = 0 || s.trace.frozen || !s.traceClassOn r.cls then s
  else if s.traceFill ≥ 64 then s.modTrace (fun t => { t with drop := t.drop + 1 })
  else
    let fill := s.traceFill + 1
    tracePin r (s.modTrace (fun t =>
      { t with ring := (r :: t.ring).take 131072, writeIndex := t.writeIndex + 1, fill := fill,
               fillClk := s.clk, frozen := r.type == 0x29 && s.regf 0x1100 1 1 == 1 }))

/-- The unit word of a record that names no unit. -/
def noUnit : Nat := unitWord 0 63 1023 0

/-- Capture a trace-only record (Table 14.11). -/
def traceOnly (type cls part unit p0 p1 p2 p3 : Nat) (s : State) : State :=
  trace { tick := s.tick, type := type, cls := cls, part := part, unit := unit, p0 := p0 % 2 ^ 32,
          p1 := p1 % 2 ^ 32, p2 := p2 % 2 ^ 32, p3 := p3 % 2 ^ 32 } s

/-! ## Epochs -/

/-- The model and configuration epochs of partition p in force at a tick (R295, R296): the newest entry not
later than it. -/
def State.epochsAt (s : State) (p tick : Nat) : Word × Word :=
  match ((tget s.pre.epochs p []).filter (fun e => e.since ≤ tick)).getLast? with
  | some e => (e.model, e.config)
  | none => (0, 0)

/-- The epochs in force. -/
def State.epochs (s : State) (p : Nat) : Word × Word :=
  match (tget s.pre.epochs p []).getLast? with
  | some e => (e.model, e.config)
  | none => (0, 0)

/-! ## Packets -/

/-- A packet at the end of the partition's reservations (R319). -/
def form (p : Nat) (k : Pkt) (s : State) : State :=
  s.modFunnel p (fun f => { f with waiting := f.waiting ++ [k] })

/-- The packet of a timeline or event record (R322): flow 0, the partition's own sequence, one stamp. -/
def stampPkt (p kind t256 : Nat) (body : List DWord) (s : State) : Pkt :=
  let pt := s.ptpOf t256
  let e := s.epochs p
  { kind := kind, flow := 0, isCtx := false, part := p, cls := false, prov := false, lost := false,
    marks := [], sat := 0, seq := (s.funnel p).timelineSeq, first256 := t256, last256 := t256,
    modelEpoch := e.1, configEpoch := e.2, ptpSec := pt.1, ptpNs := pt.2.1, ptpLocked := pt.2.2,
    body := body, run := none, final := false, top1 := none }

/-- Form a timeline or event record and advance the partition's sequence. -/
def formStamped (p kind t256 : Nat) (body : List DWord) (s : State) : State :=
  let s1 := form p (stampPkt p kind t256 body s) s
  s1.modFunnel p (fun f => { f with timelineSeq := f.timelineSeq + 1 })

/-- The words of an EVENT packet from word 8 (R382). -/
def eventBody (e : EventRec) : List DWord :=
  [d64 (e.code + 2 ^ 16 * e.severity + 2 ^ 32 * (e.fault % 2 ^ 32)), d64 (e.p0 % 2 ^ 32), d64 (e.p1 % 2 ^ 32),
   d64 (e.p2 % 2 ^ 32), d64 (e.p3 % 2 ^ 32)]

/-- An event goes to the trace and to the Funnels of the partitions named (R382). -/
def raiseTo (parts : List Nat) (tp unit : Nat) (e : EventRec) (s : State) : State :=
  let s1 := trace { tick := s.tick, type := e.code, cls := 0, part := tp, unit := unit, p0 := e.p0 % 2 ^ 32,
                    p1 := e.p1 % 2 ^ 32, p2 := e.p2 % 2 ^ 32, p3 := e.p3 % 2 ^ 32 } s
  each parts (fun p t => formStamped p 8 (256 * t.tick) (eventBody e) t) s1

/-- No fault record. -/
def noFault : Nat := 0xFFFFFFFF

/-- An event record. -/
def ev (code severity fault p0 p1 p2 p3 : Nat) : EventRec :=
  { code := code, severity := severity, fault := fault, p0 := p0, p1 := p1, p2 := p2, p3 := p3 }

/-- A device-wide event: to every enabled partition; it waits for READY while the Funnels do not run
(R392, R400). -/
def raiseDev (unit : Nat) (e : EventRec) (s : State) : State :=
  if s.power.ready then raiseTo s.partsOn 255 unit e s
  else s.modPower (fun p => { p with pendingEvents := p.pendingEvents ++ [e] })

/-- An event of one partition. -/
def raisePart (p unit : Nat) (e : EventRec) (s : State) : State := raiseTo [p] p unit e s

/-- An event of the partition a unit lies in, else device-wide (Table 12.6). -/
def raiseUnit (part unit : Nat) (e : EventRec) (s : State) : State :=
  if part < 8 then raisePart part unit e s else raiseDev unit e s

/-! ## Replies -/

/-- The status codes of Table 10.5. -/
def stOk : Nat := 0x00
/-- DEFERRED. -/
def stDeferred : Nat := 0x01
/-- CANCELLED. -/
def stCancelled : Nat := 0x02
/-- BAD_OPCODE. -/
def stBadOpcode : Nat := 0x10
/-- BAD_LEVEL. -/
def stBadLevel : Nat := 0x11
/-- RESERVED_NONZERO. -/
def stReserved : Nat := 0x12
/-- BAD_LENGTH. -/
def stBadLength : Nat := 0x13
/-- BAD_PARAM. -/
def stBadParam : Nat := 0x14
/-- BAD_IMAGE. -/
def stBadImage : Nat := 0x15
/-- NO_RESOURCE. -/
def stNoResource : Nat := 0x20
/-- ACC_SPILL. -/
def stAccSpill : Nat := 0x21
/-- NO_TIMEBASE. -/
def stNoTimebase : Nat := 0x22
/-- CHECK_FAIL. -/
def stCheckFail : Nat := 0x30
/-- RETRACTED. -/
def stRetracted : Nat := 0x31
/-- SECURITY. -/
def stSecurity : Nat := 0x40
/-- WATCHDOG. -/
def stWatchdog : Nat := 0x50

/-- Whether a status raises the ring's vector by itself (R282). -/
def statusIrq (st : Nat) : Bool := !(st == stOk || st == stAccSpill || st == stDeferred)

/-- Whether a request's reply ring is enabled (R280). -/
def State.ringOn (s : State) (h : Hdr) : Bool :=
  decide (h.queue.toNat < 16) && (s.lane h.fn.val h.queue.toNat).replyEnable

/-- A packet or reply without a ring is discarded, counted and reported (R280). -/
def noRing (h : Hdr) (s : State) : State :=
  let s1 := count (devCtr 7) 1 s
  match s1.fnPart? h.fn.val with
  | some p => raisePart p noUnit (ev 0x12 1 noFault h.fn.val h.lane.val h.queue.toNat 0) s1
  | none => traceOnly 0x12 0 255 noUnit h.fn.val h.lane.val h.queue.toNat 0 s1

/-- The words of a reply (Table 10.4). -/
def replyWords (h : Hdr) (op st : Nat) (payload : List Word) (s : State) : List Word :=
  [w32 (op % 65536 + 65536 * (4 + payload.length) + 2 ^ 24 * st), h.tag, w32 (s.tick % 2 ^ 32),
   w32 (s.tick / 2 ^ 32)] ++ payload

/-- A function is served only while it is enabled: VFs beyond NUM_VFS are not (R313). -/
def State.fnEnabled (s : State) (fn : Nat) : Bool := fn == 0 || decide (fn ≤ s.host.numVfs)

/-- Form a reply: it joins the replies held for its ring (R281), or is discarded where the ring is not
enabled (R280). -/
def reply (h : Hdr) (op st : Nat) (final : Bool) (payload : List Word) (s : State) : State :=
  if s.ringOn h then
    let r : Reply := { words := replyWords h op st payload s, irq := h.irq || statusIrq st,
                       lane := h.lane.val, final := final }
    let s1 := s.modLane h.fn.val h.queue.toNat (fun l => { l with held := l.held ++ [r] })
    traceOnly 0x131 4 ((s.fnPart? h.fn.val).getD 255) noUnit h.fn.val st op h.tag.toNat s1
  else noRing h s

/-- A final reply. -/
def answer (h : Hdr) (op st : Nat) (payload : List Word) (s : State) : State := reply h op st true payload s

/-- Remove a command taken and not finished. -/
def dropCmd (id : Nat) (s : State) : State :=
  s.modPre (fun p => { p with cmds := p.cmds.filter (fun c => c.id ≠ id) })

/-- A command taken and not finished. -/
def State.cmd? (s : State) (id : Nat) : Option Cmd := s.pre.cmds.find? (fun c => c.id == id)

/-- Finish a command with its final reply. -/
def finish (id st : Nat) (payload : List Word) (s : State) : State :=
  match s.cmd? id with
  | some c => answer c.h c.op st payload (dropCmd id s)
  | none => s

/-- Finish a command where there is one. -/
def finishOpt (id : Option Nat) (st : Nat) (payload : List Word) (s : State) : State :=
  match id with
  | some i => finish i st payload s
  | none => s

/-- Change the wait of a command. -/
def setWait (id : Nat) (w : CmdWait) (s : State) : State :=
  s.modPre (fun p => { p with cmds := p.cmds.map (fun c => if c.id = id then { c with wait := w } else c) })

end Sys2Proof.Machine
end

