-- ==== Sys2Proof/Machine/Operands.lean ====
section
/-! DEFINITION. The operand forms of requests: the header (Table 10.2), and for every opcode of Tables 10.7 to 10.9
its issuer, kind, length and reserved bits (R286, R288, R299). Payload word i is request word 6 + i. -/

namespace Sys2Proof.Machine

/-- Payload word i, 0 beyond the payload. -/
def pw (w : List Word) (i : Nat) : Word := w.getD i 0

/-- Bits of payload word i. -/
def pf (w : List Word) (i lo n : Nat) : Nat := bits (pw w i) lo n

/-- A 64-bit payload field whose low word is word i (R12). -/
def pq (w : List Word) (i : Nat) : Nat := (pw w i).toNat + 2 ^ 32 * (pw w (i + 1)).toNat

/-- LENGTH of a packet's first word. -/
def hdrLength (w0 : Word) : Nat := bits w0 16 8

/-- OPCODE of a packet's first word. -/
def hdrOpcode (w0 : Word) : Nat := bits w0 0 16

/-- The request header of a packet's words (Table 10.2). -/
def hdrOf (fn : Fin 32) (lane : Fin 16) (w : List Word) : Hdr :=
  { fn := fn, lane := lane, level := BitVec.ofNat 4 (pf w 0 28 4), fence := bit (pw w 0) 25,
    irq := bit (pw w 0) 24, tag := pw w 1, partition := BitVec.ofNat 8 (pf w 2 24 8),
    queue := BitVec.ofNat 8 (pf w 2 16 8), atTick := BitVec.ofNat 64 (pq w 3) }

/-- Whether the reserved bits of a header are zero. -/
def hdrReservedOk (w : List Word) : Bool := pf w 0 26 2 == 0 && pf w 2 0 16 == 0 && pw w 5 == 0

/-- Who may issue a command (R299). -/
inductive Issuer where
  | all
  | any
  | pf
deriving DecidableEq

/-- When a command takes effect (R299). -/
inductive Kind where
  | imm
  | long
  | stg
  | global
deriving DecidableEq

/-- One row of Tables 10.7 to 10.9: masks gives the assigned bits of each payload word of a fixed length. -/
structure OpSpec where
  op : Nat
  level1 : Bool
  issuer : Issuer
  kind : Kind
  masks : List Nat

/-- All 32 bits. -/
def allBits : Nat := 0xFFFFFFFF

/-- A row. -/
def row (op : Nat) (level1 : Bool) (issuer : Issuer) (kind : Kind) (masks : List Nat) : OpSpec :=
  { op := op, level1 := level1, issuer := issuer, kind := kind, masks := masks }

/-- Table 10.7: system and model commands. -/
def opsModel : List OpSpec :=
  [row 0x000 true .all .imm [],
   row 0x001 true .all .imm [0xFF, allBits],
   row 0x002 true .all .imm [0xF],
   row 0x003 true .any .imm [],
   row 0x004 false .any .imm [allBits],
   row 0x005 false .any .imm [1],
   row 0x100 true .any .long [allBits, allBits, allBits, allBits],
   row 0x101 true .any .long [allBits, allBits, 0x7FF],
   row 0x102 true .any .long [0x7FF],
   row 0x103 true .any .stg [allBits, allBits],
   row 0x104 true .any .stg [allBits, allBits],
   row 0x105 false .any .stg [0x7FF, 0x7F, allBits, allBits, allBits, allBits]]

/-- Table 10.7: flow and kernel commands. -/
def opsFlow : List OpSpec :=
  [row 0x200 false .any .imm [0x3FFF, allBits],
   row 0x201 false .any .stg [0x3FFF, allBits, 0xFFFF, allBits, allBits, allBits, allBits, 0, allBits, 0x3F, 0,
     0x7FFFFF],
   row 0x202 false .any .stg [0x13FFF],
   row 0x203 false .any .imm [0x3FFF, allBits, allBits, allBits],
   row 0x300 true .any .long [allBits, allBits, allBits, allBits, 0x1FFFF, 0x1FFFF],
   row 0x301 false .any .imm [allBits, allBits, allBits, allBits],
   row 0x302 false .any .stg [allBits]]

/-- Table 10.8: synchronisation, timeline and ingest commands. -/
def opsTime : List OpSpec :=
  [row 0x400 true .any .imm [0x1F3FFF, allBits, allBits],
   row 0x401 true .pf .imm [0xFFF3FFF, allBits],
   row 0x500 false .any .imm [7, allBits, allBits],
   row 0x501 false .any .stg [0x3FF, 0x3FFF, allBits, allBits],
   row 0x502 false .any .stg [0x3F],
   row 0x503 false .any .imm [],
   row 0x600 false .pf .global [3, 0xFFFFF, 0x1FFFF, 0, 0],
   row 0x601 false .pf .global [7, 0xFFF, allBits],
   row 0x602 false .pf .long [0x1FFFF, 0x3FFFF, allBits, allBits]]

/-- Table 10.9: maintenance, housekeeping and security commands. -/
def opsMaint : List OpSpec :=
  [row 0x700 false .pf .long [0xF],
   row 0x701 false .any .long [0x1F],
   row 0x702 false .any .long [0xFFF],
   row 0x800 false .pf .imm [0x1FF],
   row 0x801 false .pf .imm [7],
   row 0x802 false .pf .imm [7, allBits],
   row 0x900 true .any .long (List.replicate 19 allBits),
   row 0x901 false .pf .long [allBits, allBits, allBits],
   row 0x902 false .pf .imm []]

/-- Table 10.9: fault and network commands. -/
def opsFault : List OpSpec :=
  [row 0xA00 true .any .long [allBits, allBits, allBits, allBits, allBits],
   row 0xA01 false .any .long [allBits, allBits, allBits, allBits, allBits],
   row 0xA02 false .pf .long [0x7FFFFFF],
   row 0xA03 false .pf .long [0x7FFFFFF],
   row 0xB00 false .pf .global [1, 0x7FFFFF, allBits, 0xFFFF, allBits, allBits, allBits, allBits, allBits,
     0x3FFFFFFF, 0xFFF, 0xFFFF],
   row 0xB01 false .any .stg [0xFF, 0xF, allBits, 0xFFFF, allBits, allBits, allBits, allBits, allBits, 0xFFFFFF,
     allBits, allBits, allBits, 0x1F, 0xFFFFFF],
   row 0xB02 false .any .imm [1]]

/-- Every opcode of the TVK2 (R299). -/
def ops : List OpSpec := opsModel ++ opsFlow ++ opsTime ++ opsMaint ++ opsFault

/-- The row of an opcode. -/
def opSpec? (op : Nat) : Option OpSpec := ops.find? (fun r => r.op == op)

/-- The masks of an opcode's payload at a level, those that depend on the payload worked out (R290, R299,
Table 10.10). -/
def masksAt (r : OpSpec) (level : Nat) (w : List Word) : List Nat :=
  if r.op = 0x001 then [0xFF, if pf w 0 0 8 = 3 then 0x7FF else 0]
  else if r.op = 0x300 && level = 1 then
    [0x1FFF, allBits, allBits, 0x1FFFF, 0xFFFFF, allBits, allBits] ++
      (if pf w 0 12 1 = 1 then
        (List.replicate (pf w 0 0 12) [0x1FFFF, 0x3FFFF, 0x7FFFF, 0xFFFFFFF, 0x7FFFF, 0x1FFFF]).flatten
       else [])
  else if r.op = 0x600 then r.masks ++ List.replicate (max 1 (2 ^ pf w 1 1 4 / 32)) allBits
  else if r.op = 0x800 then r.masks ++ List.replicate (pf w 0 4 5) allBits
  else r.masks

/-- Whether the reserved bits of a payload are zero; words past the last are the length's concern. -/
def reservedOk (masks : List Nat) (w : List Word) : Bool :=
  (w.zip masks).all (fun x => x.1.toNat &&& x.2 == x.1.toNat)

/-- Kernel submission, programming and self-test need a core or a Whisk channel (R402). -/
def needsCore (op : Nat) : Bool := [0x100, 0x101, 0x102, 0x300, 0x701, 0x702, 0xA03].contains op

/-- Commands that reach package memory or a core (R410). -/
def needsMem (op : Nat) : Bool := needsCore op || [0x200, 0x203, 0x301, 0x400, 0x401].contains op

/-- The unit word of UNIT_RETIRE and UNIT_RESTORE (Table 10.9): KIND, CORE, TILE, COLUMN, LANE. -/
structure UnitArg where
  kind : Nat
  core : Nat
  tile : Nat
  column : Nat
  lane : Nat

/-- Read a unit word. -/
def unitArg (w : Word) : UnitArg :=
  { kind := bits w 0 2, core := bits w 2 5, tile := bits w 7 6, column := bits w 13 10, lane := bits w 23 4 }

end Sys2Proof.Machine
end

