-- ==== Sys2Proof/Machine/Runs.lean ====
section
/-! DEFINITION. Runs, windows and the records they yield: record headers (R322), gap, cancelled and watchdog
records (R209, R231, R253), abandoning a run, ending a window (R256, R262), closing a flow (R253), confirm
and retract (R325, R365 to R367), TRIG_OUT schedules (R239, R240). -/

namespace Sys2Proof.Machine

/-! ## TRIG_OUT (R239) -/

/-- A pin's schedule. -/
def State.pin (s : State) (p : Nat) : TrigOut :=
  tget s.tb.trigOut p { schedule := [], activeUntil := none, fired := [] }

/-- Change a pin's schedule. -/
def State.modPin (s : State) (p : Nat) (g : TrigOut → TrigOut) : State :=
  s.modTb (fun t => { t with trigOut := tset t.trigOut p (g (s.pin p)) })

/-- The pulse width of a pin in 125 ps units: WIDTH × 4 ns, 0 taken as 1. -/
def State.pulse (s : State) (p : Nat) : Int := 32 * (max (s.trigOutf p 8 16) 1 : Nat)

/-- Drive an assertion: it forms its own pulse, or joins the active interval it overlaps or touches and is
counted as merged (R239). -/
def drivePin (p : Nat) (a : Assertion) (at_ : Int) (s : State) : State :=
  let k := s.pin p
  let merged := match k.activeUntil with
    | some u => decide (at_ ≤ u)
    | none => false
  let upto := match k.activeUntil with
    | some u => if merged then max u (at_ + s.pulse p) else at_ + s.pulse p
    | none => at_ + s.pulse p
  let s1 := s.modPin p (fun k => { k with activeUntil := some upto,
                                          fired := k.fired ++ a.source.toList })
  let s2 := count (trigOutCtr p 0) 1 s1
  if merged then count (trigOutCtr p 3) 1 s2 else s2.emit (.trigOut p true at_.toNat)

/-- The instant an assertion is driven at (R239). -/
def State.pinInst (s : State) (tick : Nat) : Int := s.tb.instOf tick + s.offset125 0x320

/-- Whether a pin's schedule is full. -/
def State.pinFull (s : State) (p : Nat) : Bool := decide (64 ≤ (s.pin p).schedule.length)

/-- An assertion enters a pin's schedule (R239): late ones are driven at once or suppressed, one that finds
the schedule full is dropped, one for a disabled pin is suppressed. -/
def schedulePin (p tick : Nat) (source : Option (Nat × Nat × Nat)) (s : State) : State :=
  let at_ := s.pinInst tick
  let a : Assertion := { tick := tick, at_ := at_, source := source }
  if s.trigOutf p 0 1 = 0 then count (trigOutCtr p 2) 1 s
  else if s.pinFull p then count (trigOutCtr p 4) 1 s
  else if at_ < s.instNow + 1600 then
    let s1 := count (trigOutCtr p 1) 1 s
    if s.trigOutf p 5 1 = 1 then count (trigOutCtr p 2) 1 s1 else drivePin p a (max at_ s.instNow) s1
  else s.modPin p (fun k => { k with schedule := insertBy (fun x => (x.tick : Int)) a k.schedule })

/-- Discard the pending assertions of a pin, counted as suppressed; the pin goes to its inactive level. -/
def suppressPin (p : Nat) (s : State) : State :=
  let n := (s.pin p).schedule.length
  let s1 := count (trigOutCtr p 2) n s
  let s2 := s1.modPin p (fun k => { k with schedule := [], activeUntil := none })
  if (s.pin p).activeUntil.isSome then s2.emit (.trigOut p false s.instNow.toNat) else s2

/-- Discard every pin's pending assertions (R235, R395). -/
def suppressAll (s : State) : State := each (upTo 8) suppressPin s

/-- Discard the pending assertions of a partition's pins (Table 13.7). -/
def suppressPart (p : Nat) (s : State) : State :=
  each ((upTo 8).filter (fun k => s.trigOutf k 2 3 == p)) suppressPin s

/-- A retract reaches the pins (R240): it removes the record's assertions and answers which pins fired. -/
def retractPins (src : Nat × Nat × Nat) (s : State) : State × Nat :=
  let fired := maskOf ((upTo 8).filter (fun p => (s.pin p).fired.contains src))
  (each (upTo 8) (fun p t => t.modPin p (fun k =>
      { k with schedule := k.schedule.filter (fun a => a.source ≠ some src) })) s, fired)

/-! ## Record headers -/

/-- CLASS of a PT_CHECK_CTRL value. -/
def checkAssured (w : Word) : Bool := bit w 0

/-- PROVISIONAL of a PT_CHECK_CTRL value. -/
def checkProvisional (w : Word) : Bool := bit w 1

/-- ASSURED_K of a PT_CHECK_CTRL value. -/
def checkK (w : Word) : Nat := bits w 8 8

/-- PT_CHECK_CTRL in force at a tick (R354). -/
def State.checkAt (s : State) (p tick : Nat) : Word :=
  match ((tget s.pre.checks p []).filter (fun e => e.since ≤ tick)).getLast? with
  | some e => e.value
  | none => match (tget s.pre.checks p []).head? with
    | some _ => regDefault (partOff p 0x500)
    | none => s.reg (partOff p 0x500)

/-- MARKS as a number. -/
def marksWord (m : List Nat) : Nat := maskOf m

/-- The header of a record of a context (R322). -/
def ctxPkt (n : Nat) (c : Ctx) (kind seq first256 last256 : Nat) (ep : Word × Word) (assured : Bool)
    (marks : List Nat) (sat : Nat) (body : List DWord) (s : State) : Pkt :=
  let pt := s.ptpOf first256
  { kind := kind, flow := n, isCtx := c.isCmd, part := c.part, cls := assured, prov := false, lost := false,
    marks := marks, sat := min sat 0xFFFF, seq := seq, first256 := first256, last256 := last256,
    modelEpoch := ep.1, configEpoch := ep.2, ptpSec := pt.1, ptpNs := pt.2.1, ptpLocked := pt.2.2,
    body := body, run := none, final := false, top1 := none }

/-- The sequence number of a flow's next record, and the flow past it (R246). -/
def takeSeq (n : Nat) (s : State) : Nat × State :=
  match s.ctx? n with
  | some c => (c.resultSeq, s.setCtx n { c with resultSeq := (c.resultSeq + 1) % 2 ^ 64 })
  | none => (0, s)

/-- The sequence number of a run's next record: the flow's, or TAG and index for a command context
(R246). -/
def takeRunSeq (rid : Nat) (s : State) : Nat × State :=
  match s.run? rid with
  | some r =>
    match s.ctx? r.ctx with
    | some c =>
      if c.isCmd then (2 ^ 32 * c.tag.toNat + r.records % 2 ^ 32, s.setRun rid { r with records := r.records + 1 })
      else
        let x := takeSeq r.ctx s
        (x.1, x.2.setRun rid { r with records := r.records + 1 })
    | none => (0, s)
  | none => (0, s)

/-- A record of a run with the given kind and words from word 8 (R322); it is not provisional. -/
def runPkt (rid kind : Nat) (body : List DWord) (s : State) : State × Option Pkt :=
  match s.run? rid with
  | some r =>
    match s.ctx? r.ctx with
    | some c =>
      let x := takeRunSeq rid s
      let k := ctxPkt r.ctx c kind x.1 r.first256 r.last256 (r.modelEpoch, r.configEpoch)
        (checkAssured r.check) (sortNat r.marks) r.sat body x.2
      (x.2, some { k with run := some rid })
    | none => (s, none)
  | none => (s, none)

/-- Form a record of a run without payload (gap, watchdog, cancelled): it never carries the late mark
(R267). -/
def formRun (rid kind : Nat) (body : List DWord) (s : State) : State :=
  match runPkt rid kind body s with
  | (t, some k) => form k.part { k with marks := k.marks.filter (· ≠ 7), final := true } t
  | (t, none) => t

/-- A gap record of a window that never ran (R231): one for each dropped window. -/
def formGap (n : Nat) (w : Window) (cause : Nat) (s : State) : State :=
  match s.ctx? n with
  | some c =>
    let x := takeSeq n s
    let k := ctxPkt n c 2 x.1 w.first256 w.last256 (s.epochsAt c.part (w.first256 / 256))
      (checkAssured (s.checkAt c.part (w.first256 / 256))) [] 0 [d64 cause] x.2
    let s1 := form c.part k x.2
    traceOnly 0x103 1 c.part noUnit n cause (w.first256 / 256 % 2 ^ 32) (w.first256 / 256 / 2 ^ 32) s1
  | none => s

/-- A SLICER_DROP gap record (R266 to R268): word is the counter of the partition (9 or 10). -/
def slicerDrop (n : Nat) (w : Window) (word : Nat) (s : State) : State :=
  match s.ctx? n with
  | some c =>
    let p := c.part
    let s1 := formGap n w 6 (count (partCtr p word) 1 s)
    let s2 := s1.modFlows (fun f => { f with overload := tset f.overload p s1.clk })
    match tget? s.flows.overload p with
    | some _ => s2
    | none => raisePart p noUnit (ev 6 1 noFault (s2.counter (partCtr p 9) % 2 ^ 32)
        (s2.counter (partCtr p 10) % 2 ^ 32) 0 0) s2
  | none => s

/-! ## Lid lines (R199) -/

/-- Whether a core drives its arrival high on a line. -/
def State.lidHigh (s : State) (l c : Nat) : Bool :=
  !bitN (s.regf (0x200 + 8 * l) 0 32) c || s.coreRetired c || s.quiesced c || bitN (s.core c).arrivals l

/-- The level of a line: the AND of the arrivals; a disabled line reads 1 (Table 7.2). -/
def State.lidLevel (s : State) (l : Nat) : Bool :=
  s.regf (0x204 + 8 * l) 0 1 == 0 || (upTo 32).all (fun c => s.lidHigh l c)

/-- Drop a core's arrival on a line. -/
def dropArrival (c l : Nat) (s : State) : State := s.modCore c (fun k => { k with arrivals := clrBit k.arrivals l })

/-! ## Ending runs -/

/-- Free the slots of a run on a core (R209). -/
def freeSlots (rid : Nat) (k : Core) : Core :=
  { k with slots := k.slots.filter (fun e => e.2.run ≠ rid || e.2.state = 0) }

/-- Take a queue from a core: an arrival it holds on a lid line is withdrawn (R209, R377). -/
def dropQueue (c q : Nat) (s : State) : State :=
  match s.queue? c q with
  | some v =>
    let s1 := match v.stall with
      | .lid l true => dropArrival c l s
      | _ => s
    s1.modCore c (fun k => { k with queues := tdel k.queues q,
                                    tongs := k.tongs.filter (fun x => match x with
                                      | .golden g _ => g ≠ q
                                      | _ => true) })
  | none => s

/-- The queues on which a run's parts are resident. -/
def State.runQueues (s : State) (rid : Nat) : List (Nat × Nat) :=
  s.cores.flatMap (fun e => (e.2.queues.filter (fun x => x.2.run = rid)).map (fun x => (e.1, x.1)))

/-- Whether a record of a run still awaits its CONFIRM or RETRACT (R367). -/
def State.runOutstanding (s : State) (p rid : Nat) : Bool :=
  (s.funnel p).outstanding.any (fun o => o.pkt.run == some rid && o.verdict.isNone)

/-- Free a command context's line (R249). -/
def freeCtx (n : Nat) (s : State) : State := s.modFlows (fun f => { f with ctxs := tdel f.ctxs n })

/-- Forget a run whose parts have left and whose checks are done; a submitted kernel sends its final reply
(R302, R367). -/
def settleRun (rid : Nat) (s : State) : State :=
  match s.run? rid with
  | some r =>
    if r.status.isSome && (s.runQueues rid).isEmpty && r.openChecks == 0 &&
       !s.runOutstanding ((s.ctx? r.ctx).elim 0 (·.part)) rid then
      let s1 := s.modFlows (fun f => { f with runs := tdel f.runs rid })
      match s.ctx? r.ctx with
      | some c =>
        if c.isCmd && c.run = some rid then
          let st := if r.failCause.isSome then stRetracted else r.status.getD stOk
          finishOpt c.cmd st [w32 r.ctx, w32 r.records] (freeCtx r.ctx s1)
        else s1
      | none => s1
    else s
  | none => s

/-- Every part's E_ENTRY at the end of a window: its value at the start plus ENTRY_VALUE (R256). -/
def endEntries (k : Kernel) (saves : Tbl SaveRec) : Tbl SaveRec :=
  k.parts.zipIdx.foldl (fun t x =>
    let v := tget t x.2 { core := x.1.core, queue := 255, entered := false, left := false, step := 0, wdog := 0,
                          eEntry := x.1.entryValue, started := false }
    tset t x.2 { v with queue := 255, entered := false, left := false, step := 0, wdog := 0, started := false,
                        eEntry := if v.started then v.eEntry else (v.eEntry + x.1.entryValue) % 2 ^ 32 }) saves

/-- Free the lines and region space a context's spilled sums hold (R163). -/
def freeSpill (n : Nat) (s : State) : State :=
  s.modFlows (fun f => { f with spillLines := f.spillLines.filter (fun e => e.1 ≠ n), spillMem := tdel f.spillMem n })

/-- The window of a run is over (R257, R262): its flow is free for the next one. -/
def endWindow (rid : Nat) (s0 : State) : State :=
  match s0.run? rid with
  | some r =>
    let s := freeSpill r.ctx s0
    match s.ctx? r.ctx with
    | some c =>
      if c.isCmd then settleRun rid s
      else settleRun rid (s.setCtx r.ctx { c with
        run := if c.run = some rid then none else c.run, saves := endEntries r.kernel c.saves,
        modelEpoch := r.modelEpoch, configEpoch := r.configEpoch })
    | none => settleRun rid s
  | none => s0

/-- Mark a run as abandoned with a status, once (R209). -/
def markAbandoned (rid st : Nat) (s : State) : State :=
  s.modRun rid (fun r => { r with abandoned := true, status := some (r.status.getD st) })

/-- Abandon a whole run (R209 item 1, R253, R257): no operation of it is admitted any more, its slots are
freed, its queues end, and a record of the given kind takes the window's place. -/
def abandonRun (rid st kind : Nat) (body : List DWord) (silent : Bool) (s : State) : State :=
  match s.run? rid with
  | some r =>
    if r.abandoned then s
    else
      let s1 := markAbandoned rid st s
      let isCmd := (s.ctx? r.ctx).elim true (·.isCmd)
      let s2 := if silent || isCmd then s1 else formRun rid kind body s1
      let s3 := each (s2.runQueues rid) (fun x t => dropQueue x.1 x.2 t) s2
      let s4 := { s3 with cores := s3.cores.map (fun e => (e.1, freeSlots rid e.2)) }
      endWindow rid s4
  | none => s

/-- The runs in progress of partition p. -/
def State.partRuns (s : State) (p : Nat) : List Nat :=
  (s.flows.runs.filter (fun e => !e.2.abandoned && e.2.status.isNone &&
    (s.ctx? e.2.ctx).elim false (fun c => c.part == p))).map (·.1)

/-- Every run in progress. -/
def State.liveRuns (s : State) : List Nat :=
  (s.flows.runs.filter (fun e => !e.2.abandoned && e.2.status.isNone)).map (·.1)

/-- Cancel a run: a flow's window yields a CANCELLED record, KRN_SUBMIT ends with the status given (R253,
R377, R410). -/
def cancelRun (rid st : Nat) (silent : Bool) (s : State) : State :=
  match s.run? rid with
  | some r =>
    if r.abandoned then s
    else
      let s1 := abandonRun rid st 4 [0] silent s
      match s.ctx? r.ctx with
      | some c => if c.isCmd then s1 else count (partCtr c.part 12) 1 s1
      | none => s1
  | none => s

/-- A window in progress is dropped: it yields its gap record in place of any other (R227). -/
def dropRun (rid cause : Nat) (s : State) : State :=
  abandonRun rid stCancelled 2 [d64 cause] false (s.modRun rid (fun r => { r with dropped := true }))

/-! ## Closing flows (R253) -/

/-- A flow closes at a tick: with DRAIN = 0 its ready windows are cancelled without records and the window
in progress with one. -/
def closeFlow (n : Nat) (drain silent : Bool) (tick : Nat) (cmd : Option Nat) (s : State) : State :=
  match s.ctx? n with
  | some c =>
    if c.isCmd then s
    else if drain then
      s.setCtx n { c with state := 3, closing := some { cmd := cmd, drain := true, tick := tick,
                                                        cancelled := 0, silent := silent } }
    else
      let nr := c.ready.length
      let live := match c.run with
        | some r => (s.run? r).elim 0 (fun v => b2n (!v.abandoned))
        | none => 0
      let s1 := s.setCtx n { c with
        state := 3, ready := [],
        closing := some { cmd := cmd, drain := false, tick := tick, cancelled := nr + live, silent := silent } }
      let s2 := count (partCtr c.part 12) nr s1
      match c.run with
      | some r => cancelRun r stCancelled silent s2
      | none => s2
  | none => s

/-- Whether a closing flow has finished its last window: nothing ready or in progress and, draining, no
window still to form (R253). -/
def State.closingDone (s : State) (n : Nat) : Bool :=
  match s.ctx? n with
  | some c => c.closing.isSome && c.run.isNone && c.ready.isEmpty
  | none => false

/-! ## Confirm and retract -/

/-- A CONFIRM or RETRACT of a record: its header with its own kind (R325). -/
def verdictPkt (k : Pkt) (kind : Nat) (body : List DWord) : Pkt :=
  { k with kind := kind, prov := false, lost := false, body := body, final := false }

/-- The record a packet came from, as the pins name it. -/
def Pkt.src (k : Pkt) : Nat × Nat × Nat := (k.part, k.flow + 16384 * b2n k.isCtx, k.seq)

/-- Note the verdict formed on a record. -/
def setVerdict (k : Pkt) (v : Nat) (s : State) : State :=
  s.modFunnel k.part (fun f => { f with outstanding := f.outstanding.map (fun o =>
    if o.pkt.src = k.src then { o with verdict := some v } else o) })

/-- Retract a record with a cause (R325, R367): its assertions are withdrawn, and RETRACTS counts it. -/
def retractRec (k : Pkt) (cause : Nat) (s : State) : State :=
  let x := retractPins k.src s
  let s1 := form k.part (verdictPkt k 6 [d64 (x.2 + 256 * cause)]) x.1
  setVerdict k (6 + 256 * cause) (count (partCtr k.part 20) 1 s1)

/-- Confirm a record (R325). -/
def confirmRec (k : Pkt) (s : State) : State :=
  setVerdict k 5 (count (partCtr k.part 19) 1 (form k.part (verdictPkt k 5 [0]) s))

/-- Retract every provisional record of a run whose checks were open (R410, R381). -/
def retractOpen (rid p cause : Nat) (s : State) : State :=
  let open_ := (s.funnel p).outstanding.filter (fun o => o.pkt.run == some rid && o.verdict.isNone)
  each open_ (fun o t => retractRec o.pkt cause t) s

end Sys2Proof.Machine
end

