-- ==== Sys2Proof/Machine/Hash.lean ====
section
/-! DEFINITION. SHA-512 and CRC-32C, as the published standards fix them (R74, R125, R391, R411). -/

namespace Sys2Proof.Machine

/-- Round constants 0 to 19. -/
def shaK0 : List (BitVec 64) :=
  [0x428a2f98d728ae22, 0x7137449123ef65cd, 0xb5c0fbcfec4d3b2f, 0xe9b5dba58189dbbc,
   0x3956c25bf348b538, 0x59f111f1b605d019, 0x923f82a4af194f9b, 0xab1c5ed5da6d8118,
   0xd807aa98a3030242, 0x12835b0145706fbe, 0x243185be4ee4b28c, 0x550c7dc3d5ffb4e2,
   0x72be5d74f27b896f, 0x80deb1fe3b1696b1, 0x9bdc06a725c71235, 0xc19bf174cf692694,
   0xe49b69c19ef14ad2, 0xefbe4786384f25e3, 0x0fc19dc68b8cd5b5, 0x240ca1cc77ac9c65]

/-- Round constants 20 to 39. -/
def shaK1 : List (BitVec 64) :=
  [0x2de92c6f592b0275, 0x4a7484aa6ea6e483, 0x5cb0a9dcbd41fbd4, 0x76f988da831153b5,
   0x983e5152ee66dfab, 0xa831c66d2db43210, 0xb00327c898fb213f, 0xbf597fc7beef0ee4,
   0xc6e00bf33da88fc2, 0xd5a79147930aa725, 0x06ca6351e003826f, 0x142929670a0e6e70,
   0x27b70a8546d22ffc, 0x2e1b21385c26c926, 0x4d2c6dfc5ac42aed, 0x53380d139d95b3df,
   0x650a73548baf63de, 0x766a0abb3c77b2a8, 0x81c2c92e47edaee6, 0x92722c851482353b]

/-- Round constants 40 to 59. -/
def shaK2 : List (BitVec 64) :=
  [0xa2bfe8a14cf10364, 0xa81a664bbc423001, 0xc24b8b70d0f89791, 0xc76c51a30654be30,
   0xd192e819d6ef5218, 0xd69906245565a910, 0xf40e35855771202a, 0x106aa07032bbd1b8,
   0x19a4c116b8d2d0c8, 0x1e376c085141ab53, 0x2748774cdf8eeb99, 0x34b0bcb5e19b48a8,
   0x391c0cb3c5c95a63, 0x4ed8aa4ae3418acb, 0x5b9cca4f7763e373, 0x682e6ff3d6b2b8a3,
   0x748f82ee5defb2fc, 0x78a5636f43172f60, 0x84c87814a1f0ab72, 0x8cc702081a6439ec]

/-- Round constants 60 to 79. -/
def shaK3 : List (BitVec 64) :=
  [0x90befffa23631e28, 0xa4506cebde82bde9, 0xbef9a3f7b2c67915, 0xc67178f2e372532b,
   0xca273eceea26619c, 0xd186b8c721c0c207, 0xeada7dd6cde0eb1e, 0xf57d4f7fee6ed178,
   0x06f067aa72176fba, 0x0a637dc5a2c898a6, 0x113f9804bef90dae, 0x1b710b35131c471b,
   0x28db77f523047d84, 0x32caab7b40c72493, 0x3c9ebe0a15c9bebc, 0x431d67c49c100d4c,
   0x4cc5d4becb3e42b6, 0x597f299cfc657e2a, 0x5fcb6fab3ad6faec, 0x6c44198c4a475817]

/-- The initial hash value. -/
def shaInit : List (BitVec 64) :=
  [0x6a09e667f3bcc908, 0xbb67ae8584caa73b, 0x3c6ef372fe94f82b, 0xa54ff53a5f1d36f1,
   0x510e527fade682d1, 0x9b05688c2b3e6c1f, 0x1f83d9abfb41bd6b, 0x5be0cd19137e2179]

/-- The big-endian number of bytes. -/
def beNat (b : Bytes) : Nat := b.foldl (fun a x => 256 * a + x.toNat) 0

/-- n bytes of a number, high byte first. -/
def beBytes (n v : Nat) : Bytes := (leBytes n v).reverse

/-- The first n big-endian 64-bit words of bytes. -/
def shaWords (n : Nat) (b : Bytes) : List (BitVec 64) :=
  match n with
  | 0 => []
  | k + 1 => BitVec.ofNat 64 (beNat (b.take 8)) :: shaWords k (b.drop 8)

/-- The next schedule word from the newest 16, newest first. -/
def shaNext (w : List (BitVec 64)) : BitVec 64 :=
  let a := w.getD 1 0
  let b := w.getD 14 0
  let s1 := a.rotateRight 19 ^^^ a.rotateRight 61 ^^^ (a >>> 6)
  let s0 := b.rotateRight 1 ^^^ b.rotateRight 8 ^^^ (b >>> 7)
  s1 + w.getD 6 0 + s0 + w.getD 15 0

/-- One round over the eight working variables. -/
def shaRound (v : List (BitVec 64)) (k w : BitVec 64) : List (BitVec 64) :=
  match v with
  | [a, b, c, d, e, f, g, h] =>
    let t1 := h + (e.rotateRight 14 ^^^ e.rotateRight 18 ^^^ e.rotateRight 41) + ((e &&& f) ^^^ (~~~e &&& g))
      + k + w
    let t2 := (a.rotateRight 28 ^^^ a.rotateRight 34 ^^^ a.rotateRight 39)
      + ((a &&& b) ^^^ (a &&& c) ^^^ (b &&& c))
    [t1 + t2, a, b, c, d + t1, e, f, g]
  | _ => v

/-- The rounds over the constants left: first the block's own words, then scheduled ones; recent holds the
newest 16 words, newest first. -/
def shaRounds (ks ws recent v : List (BitVec 64)) : List (BitVec 64) :=
  match ks with
  | [] => v
  | k :: r =>
    match ws with
    | w :: rest => shaRounds r rest (w :: recent) (shaRound v k w)
    | [] =>
      let w := shaNext recent
      shaRounds r [] (w :: recent.take 15) (shaRound v k w)

/-- One 128-byte block. -/
def shaBlock (h : List (BitVec 64)) (b : Bytes) : List (BitVec 64) :=
  List.zipWith (· + ·) h (shaRounds (shaK0 ++ shaK1 ++ shaK2 ++ shaK3) (shaWords 16 b) [] h)

/-- n blocks. -/
def shaBlocks (n : Nat) (h : List (BitVec 64)) (b : Bytes) : List (BitVec 64) :=
  match n with
  | 0 => h
  | k + 1 => shaBlocks k (shaBlock h (b.take 128)) (b.drop 128)

/-- SHA-512 of a byte string: 64 bytes. -/
def sha512 (b : Bytes) : Bytes :=
  let len := b.length
  let pad := (239 - len % 128) % 128
  let m := b ++ [0x80] ++ List.replicate pad 0 ++ beBytes 16 (8 * len)
  (shaBlocks (m.length / 128) shaInit m).flatMap (fun w => beBytes 8 w.toNat)

/-- Eight steps of the CRC-32C register, low bit first. -/
def crcBits (n : Nat) (c : BitVec 32) : BitVec 32 :=
  match n with
  | 0 => c
  | k + 1 => crcBits k (if c.getLsbD 0 then (c >>> 1) ^^^ 0x82F63B78 else c >>> 1)

/-- CRC-32C of a byte string. -/
def crc32c (b : Bytes) : Nat :=
  ((b.foldl (fun c x => crcBits 8 (c ^^^ x.zeroExtend 32)) 0xFFFFFFFF) ^^^ 0xFFFFFFFF).toNat

end Sys2Proof.Machine
end

