-- ==== Sys2Proof/Machine/Tiles.lean ====
section
/-! DEFINITION. The analogue matrix tile: weights and latches (R26 to R29), the converter (R33, R34), phases
(R37 to R46), read noise (R73), known-sum vectors (R144 to R146, R461) and the gain correction (R78 to R84). -/

namespace Sys2Proof.Machine

/-! ## Weights -/

/-- The 4-bit weight code of a cell in the record's bytes (R125). -/
def weightOf (w : List Host.Cell) (row col : Nat) : Int :=
  let b := (Memory.read w (256 * row + col / 2)).toNat
  sx 4 (if col % 2 = 0 then b % 16 else b / 16)

/-- TX's fixed weight (R54). -/
def txWeight (row col : Nat) : Int := ((row + 3 * col) % 15 : Nat) - 7

/-- A reference column's fixed weight (Table 2.11). -/
def refWeight (row col : Nat) : Int :=
  match col with
  | 528 => 7
  | 529 => -7
  | 530 => 3
  | 531 => -3
  | 532 => if row % 2 = 0 then 7 else -7
  | 533 => 0
  | 534 => (row % 15 : Nat) - 7
  | _ => 1

/-- Whether a cell's latch bit is set: a stuck-map entry, or a retired column (R28, R29, R59). -/
def State.latched (s : State) (c t row col : Nat) : Bool :=
  s.crock.mirror.stuck.any (fun e => e.core == c && e.tile == t && e.row == row && e.column == col)
  || s.colRetired c t col

/-- The effective weight of a data cell: 0 where latched (R28). -/
def State.effW (s : State) (c t row col : Nat) : Int :=
  if s.latched c t row col then 0
  else if t = 32 then txWeight row col
  else weightOf (s.tile c t).weights row col

/-- 32 × t_ib, the effective weight of a checksum cell times 32 (R48). -/
def State.effSum32 (s : State) (c t row b : Nat) : Int :=
  if s.latched c t row (512 + b) then 0
  else (upTo 32).foldl (fun a j => a + s.effW c t row (32 * b + j)) 0

/-- WEIGHT_MAX: the largest effective weight magnitude (R44); no checksum mean exceeds it. -/
def State.weightMax (s : State) (c t : Nat) : Nat :=
  (s.tile c t).weights.foldl (fun m cell =>
    let row := cell.1 / 256
    let col := 2 * (cell.1 % 256)
    max m (max (s.effW c t row col).natAbs (s.effW c t row (col + 1)).natAbs)) 0

/-- W_{sub,col}: the sum of a column's weights over the 32 rows of a sub-block, latched cells counted as 0
(R100, R135). -/
def State.subSum (s : State) (c t sub col : Nat) : Int :=
  (upTo 32).foldl (fun a i => a + s.effW c t (32 * sub + i) col) 0

/-- The tile digest of a record (R125). -/
def digestOf (core tile role pair : Nat) (weights : Bytes) : Bytes :=
  (sha512 ([byte core, byte tile, byte role, byte pair] ++ weights)).take 16

/-! ## Configuration -/

/-- Words 0 to 4 at the defaults of Table 2.9. -/
def cfgDefault : List Word := [0x17, 0xFFFFFFFF, 0xFFFFFFFF, 0xFFFFFFFF, 0xFFFFFFFF]

/-- The configuration words in force for a window's first tick (R56). -/
def Tile.cfgAt (t : Tile) (tick : Nat) : List Word :=
  match (t.cfgs.filter (fun c => c.since ≤ tick)).getLast? with
  | some c => c.words
  | none => match t.cfgs.head? with
    | some c => c.words
    | none => cfgDefault

/-- GAIN_INDEX. -/
def cfgGi (w : List Word) : Nat := bits (w.getD 0 0) 0 3

/-- G: 32, 64 or 128. -/
def cfgG (w : List Word) : Nat := 32 * 2 ^ bits (w.getD 0 0) 3 2

/-- DRIVE_MODE: signed. -/
def cfgSigned (w : List Word) : Bool := bit (w.getD 0 0) 5

/-- The admission limit for the gain index in force (R44). -/
def cfgLimit (w : List Word) (gi mt : Nat) : Nat :=
  if bit (w.getD 0 0) 6 then bits (w.getD (1 + gi / 2) 0) (16 * (gi % 2)) 16
  else if mt = 0 then 0xFFFF else 63 * 2 ^ gi / mt

/-- Reserved fields of CONFIG words 0 to 4 are zero. -/
def cfgReservedOk (w : List Word) : Bool := bits (w.getD 0 0) 7 25 == 0

/-- CONFIG holds no reserved encoding. -/
def cfgEncodingOk (w : List Word) : Bool := bits (w.getD 0 0) 3 2 != 3

/-- What a setting switch compares: GAIN_INDEX, GROUP_SIZE, DRIVE_MODE and the eight limits in force
(R56). -/
def cfgSettings (w : List Word) (mt : Nat) : List Nat :=
  [cfgGi w, cfgG w, b2n (cfgSigned w)] ++ (upTo 8).map (fun g => cfgLimit w g mt)

/-! ## The converter -/

/-- The value driven on a row: in signed drive the code -8 is driven as -7 (R31). -/
def driven (signed : Bool) (x : Int) : Int := if signed && x == -8 then -7 else x

/-- The code and OVR of a measured sum m in units of 1 / den product units, at a step of 2^gi product units
(R34). -/
def convert (m : Int) (den gi : Nat) (upper : Bool) : Int × Bool :=
  let u : Int := ((den * 2 ^ gi : Nat) : Int)
  if 127 * u ≤ 2 * m then (63, true)
  else if 2 * m < -129 * u then (-64, true)
  else
    let q := (2 * m + u) / (2 * u)
    let tie := (2 * m + u) % (2 * u) = 0
    (clampI (if tie && !upper then q - 1 else q) (-64) 63, false)

/-- The measured sum of a column in 1/256 product unit, without its deviation (R33). -/
def State.sum256 (s : State) (c t col : Nat) (rows : List (Nat × Int)) : Int :=
  if col < 512 then 256 * rows.foldl (fun a r => a + s.effW c t r.1 col * r.2) 0
  else if col < 528 then 8 * rows.foldl (fun a r => a + s.effSum32 c t r.1 (col - 512) * r.2) 0
  else 256 * rows.foldl (fun a r => a + refWeight r.1 col * r.2) 0

/-! ## Phases -/

/-- The digit of a row code driven in a pass (R69). -/
def digit (signed : Bool) (pass : Nat) (x : Int) : Int :=
  if signed then
    let lo := (x + 7) % 15 - 7
    if pass = 0 then lo else (x - lo) / 15
  else if pass = 0 then x % 16 else x / 16

/-- A, the sum the predictor forms (R41). -/
def rowSum (rows : List (Nat × Int)) : Nat := rows.foldl (fun a r => a + r.2.natAbs) 0

/-- The rows of a group with the values driven in a pass (R37, R69). -/
def passRows (w : List Word) (a8 : Bool) (rows : List (Nat × Int)) (group pass : Nat) : List (Nat × Int) :=
  let g := cfgG w
  (rows.filter (fun r => r.1 / g = group)).map
    (fun r => (r.1, driven (cfgSigned w) (if a8 then digit (cfgSigned w) pass r.2 else r.2)))

/-- What the predictor decides for one group and pass (R42, R43). -/
structure Admission where
  phases : List Phase
  skip : Nat
  split : Nat
  short : Nat

/-- The two halves of a group (R42, R45). -/
def halves (g group pass : Nat) (rows : List (Nat × Int)) (retry : Bool) : List Phase :=
  let mid := g * group + g / 2
  [{ group := group, pass := pass, rows := rows.filter (fun r => r.1 < mid), half := 1, retry := retry },
   { group := group, pass := pass, rows := rows.filter (fun r => mid ≤ r.1), half := 2, retry := retry }]

/-- The predictor's decision (R42, R43). -/
def admitPass (w : List Word) (mt : Nat) (a8 : Bool) (rows : List (Nat × Int)) (group pass : Nat) : Admission :=
  let pr := passRows w a8 rows group pass
  let a := rowSum pr
  let l := cfgLimit w (cfgGi w) mt
  if a = 0 then { phases := [], skip := 1, split := 0, short := 0 }
  else if a ≤ l then
    { phases := [{ group := group, pass := pass, rows := pr, half := 0, retry := false }], skip := 0,
      split := 0, short := 0 }
  else
    let h := halves (cfgG w) group pass pr false
    { phases := h, skip := 0, split := 1, short := b2n (h.any (fun p => decide (l < rowSum p.rows))) }

/-- The decisions of an operation, groups and passes in order (R38, R71). -/
def admissions (w : List Word) (mt : Nat) (op : TileOp) : List Admission :=
  (upTo (512 / cfgG w)).flatMap (fun g =>
    (upTo (if op.a8 then 2 else 1)).map (fun p => admitPass w mt op.a8 op.rows g p))

/-- The factor of a phase code (R72). -/
def factor (signed : Bool) (pass role : Nat) : Int :=
  (if pass = 0 then 1 else if signed then 15 else 16) * (if role = 2 then 15 else 1)

/-! ## Read noise -/

/-- σ_n(r, T)² in step² (R73); T is in 0.1 °C. -/
def State.noise2 (s : State) (core r : Nat) (temp : Int) : Frac :=
  let k := s.sec.card.coreNoise.getD core 128
  let s0 := s.sec.card.readNoiseConv
  let s1 := s.sec.card.readNoiseCell
  fDiv (((k * k * (128 * s0 * s0 + s1 * s1 * r) : Nat) : Int) * (10 * temp + 27315))
    (2 ^ 45 * (10 * s.sec.card.testTemp + 27315))

/-- σ_ρ(r, T)² = 1,056 × (σ_n² + 1/12) (R357). -/
def State.rho2 (s : State) (core r : Nat) (temp : Int) : Frac :=
  ((s.noise2 core r temp).plus (fDiv 1 12)).times (fInt 1056)

/-! ## Known-sum vectors -/

/-- One step of a core's LFSR (R461): the output and the next state. -/
def lfsrStep (v : Word) : Bool × Word :=
  let out := v.getLsbD 0
  (out, if out then (v >>> 1) ^^^ 0x80200003 else v >>> 1)

/-- The codes of n rows from a register state, and the state after them (R461). -/
def lfsrCodes (n : Nat) (v : Word) : List Nat × Word :=
  match n with
  | 0 => ([], v)
  | k + 1 =>
    let a := lfsrStep v
    let b := lfsrStep a.2
    let c := lfsrStep b.2
    let d := lfsrStep c.2
    let r := lfsrCodes k d.2
    ((b2n a.1 + 2 * b2n b.1 + 4 * b2n c.1 + 8 * b2n d.1) :: r.1, r.2)

/-- The rows and codes a vector drives (Table 5.10): type 0 D, 1 R, 2 X, 3 T. -/
def vectorRows (type index : Nat) (seed : Word) : List (Nat × Int) :=
  match type with
  | 0 => (upTo 32).map (fun i => (32 * index + i, 4))
  | 1 => (upTo 128).map (fun i => (128 * index + i, 8))
  | 2 => []
  | _ => ((lfsrCodes 512 seed).1.zipIdx).map (fun x => (x.2, (x.1 : Int)))

/-- The gain index of a vector (Table 5.10); index k and k + 8 name Xk driven positive and negative. -/
def vectorGi (type index : Nat) : Nat :=
  match type with
  | 0 => 4
  | 2 => index % 8
  | _ => 7

/-- The expected sum of a column in product units (Table 5.10, Table 5.11). -/
def State.expected (s : State) (c t type index col : Nat) (seed : Word) : Frac :=
  if type = 2 then fInt ((if index < 8 then 63 else -63) * (2 ^ (index % 8) : Nat))
  else fDiv (s.sum256 c (if type = 3 then 32 else t) col (vectorRows type index seed)) 256

/-- Whether a reading passes on its column (R145); conv is the number of conversions N. -/
def State.katPass (s : State) (c t : Nat) (r : KatReading) (conv : Nat) (seed : Word) : Bool :=
  let gi := vectorGi r.type.val r.index
  let q := 2 ^ gi
  let e := (s.expected c t r.type.val r.index r.column seed).times (fDiv 1 q)
  let g := (s.tile c t).gainCorr
  let rows := vectorRows r.type.val r.index seed
  let x2 := rows.foldl (fun a x => a + x.2.natAbs * x.2.natAbs) 0
  let n := if r.type.val = 2 then 1 else rows.length
  let ps := s.sec.card.progSigma
  let os := s.sec.card.offsetSigma
  let b2 := ((fDiv ((ps * ps * x2 : Nat) : Int) (2 ^ 24 * q * q)).plus
    (((s.noise2 c n s.power.tjNow).plus (fDiv 1 12)).times (fDiv 1 conv))).plus
    (fDiv ((os * os : Nat) : Int) (2 ^ 24))
  let lhs := ((fDiv (r.mean16 * g) 524288).minus e).mag
  (lhs.minus (e.mag.times (fDiv 1 100))).leRoot 4 b2

/-- The deviation of a reading in 1/16 step, to nearest. -/
def State.katDev (s : State) (c t : Nat) (r : KatReading) (seed : Word) : Int :=
  let e := s.expected c t r.type.val r.index r.column seed
  let g := (s.tile c t).gainCorr
  ((fDiv (r.mean16 * g) 32768).minus (e.times (fDiv 16 (2 ^ vectorGi r.type.val r.index)))).rne

/-- The readings that fail, on columns that are not retired (R145). -/
def State.katFails (s : State) (c t : Nat) (rs : List KatReading) (conv : Nat) (seed : Word) :
    List KatReading :=
  rs.filter (fun r => !s.colRetired c t r.column && !s.katPass c t r conv seed)

/-- Whether a reading names the whole tile: a reference column or a reference row (Table 12.4). -/
def katOfTile (r : KatReading) : Bool := decide (528 ≤ r.column) || r.type.val == 2

/-- DETAIL of a KAT_FAIL record (Table 12.4). -/
def katDetail (r : KatReading) (dev : Int) : Nat :=
  r.type.val + 4 * (r.index % 16) + 64 * field 32 dev

/-! ## The gain correction -/

/-- κ in ppm per K: TC_CELL less TC_REFROW (R79). -/
def State.kappa (s : State) : Int := s.sec.card.tcCell - s.sec.card.tcRefrow

/-- GAIN_CORR after the feed-forward for a die temperature (R79, R83): γ_s × (1 - κ (T - T_s)), rounded down
to 1/32,768 and held in range; temperatures are in 0.1 °C. -/
def State.feedForward (s : State) (t : Tile) (temp : Int) : Nat :=
  let v := (t.gammaS : Int) * (10000000 - s.kappa * (temp - t.tempS)) / 10000000
  (clampI v 0x4000 0xFFFF).toNat

/-- γ_s × 32,768 from a reference sample (R78); none where the denominator is 0. -/
def gammaOf (r : CalRec) (m : RefReading) : Option Nat :=
  let e := r.e528.natAbs + r.e529.natAbs + r.e530.natAbs + r.e531.natAbs + r.e535.natAbs
  let d := m.m528.natAbs + m.m529.natAbs + m.m530.natAbs + m.m531.natAbs + m.m535.natAbs
  if d = 0 then none else some (e * 32768 / d)

/-- r_t in 0.01 % from present readings and the settled baseline (R84); the gain correction cancels in
neither term, so both are read after it. -/
def driftOf (gain : Nat) (r : CalRec) (m : RefReading) : Nat :=
  let g (x : Int) : Frac := fDiv (x * gain) 32768
  let q (a b : Int) (p d : Int) : Frac :=
    let den := p - d
    let num := (g a).minus (g b)
    if den < 0 then { n := -num.n, d := num.d * den.natAbs } else { n := num.n, d := num.d * max den.natAbs 1 }
  let x := ((q m.m528 m.m529 r.b528 r.b529).minus (q m.m530 m.m531 r.b530 r.b531)).mag
  (x.times (fInt 10000)).rne.toNat

/-- AF(T) over 2^48 for a temperature in 0.1 °C (R77): exp((E_a / k_B)(1/358.15 - 1/T)). -/
def State.ageFactor (s : State) (temp : Int) : Int :=
  let tk : Int := 10 * temp + 27315
  if tk ≤ 0 then 0
  else
    let ea := s.sec.card.driftEa
    let n : Int := (tk - 35815) * ea * 100 * 100000
    let d : Nat := 8617 * 35815 * tk.toNat
    expQ48 (fDiv n d)

end Sys2Proof.Machine
end

