-- ==== Sys2Proof/Machine/Faults.lean ====
section
/-! DEFINITION. The fault history (R383), attributed faults (R368 to R373), retirement (R59 to R63, R377) and
late retraction (R366). -/

namespace Sys2Proof.Machine

/-- A unit of Table 12.7: 0 data column, 1 checksum column, 2 reference column, 3 tile, 4 core, 5 ingest
lane, 6 memory, 7 none. -/
structure Unit where
  kind : Nat
  core : Nat
  tile : Nat
  column : Nat
  lane : Nat

/-- A tile as a unit. -/
def uTile (c t : Nat) : Unit := { kind := 3, core := c, tile := t, column := 1023, lane := 0 }

/-- A core as a unit. -/
def uCore (c : Nat) : Unit := { kind := 4, core := c, tile := 63, column := 1023, lane := 0 }

/-- A column as a unit: its kind follows Table 2.1. -/
def uCol (c t col : Nat) : Unit :=
  { kind := if col < 512 then 0 else if col < 528 then 1 else 2, core := c, tile := t, column := col, lane := 0 }

/-- An ingest lane as a unit. -/
def uLane (l : Nat) : Unit := { kind := 5, core := 0, tile := 63, column := 1023, lane := l }

/-- No unit. -/
def uNone : Unit := { kind := 7, core := 0, tile := 63, column := 1023, lane := 0 }

/-- Package memory as a unit. -/
def uMem : Unit := { kind := 6, core := 0, tile := 63, column := 1023, lane := 0 }

/-- The unit word of a unit. -/
def Unit.word (u : Unit) : Nat := unitWord u.core u.tile u.column u.lane

/-- Whether a fault record is of a unit. -/
def Unit.of (u : Unit) (r : FaultRec) : Bool :=
  r.unitKind == u.kind && r.core == u.core && r.tile == u.tile && r.column == u.column && r.lane == u.lane

/-- The partition that owns a unit, 255 for none. -/
def State.unitPart (s : State) (u : Unit) : Nat :=
  if u.kind ≤ 4 then s.corePartNo u.core
  else if u.kind = 5 then
    match (upTo 4).find? (fun n => s.linkOn n && (s.linkLanes n).contains u.lane) with
    | some n => s.linkPart n
    | none => 255
  else 255

/-- What work a fault was found in (Table 12.7 OPCODE, FLOW, TAG). -/
structure Work where
  opcode : Nat
  flow : Nat
  tag : Nat

/-- No operation. -/
def noWork : Work := { opcode := 0xFFFF, flow := 0, tag := 0 }

/-- Write one fault record (R383); the oldest of a full ring is overwritten. Answers its index. -/
def addRecord (u : Unit) (kind outcome part : Nat) (w : Work) (detail address : Nat) (s : State) : Nat × State :=
  let j := s.crock.mirror
  let i := j.nextFault
  let pt := s.ptpOf (256 * s.tick)
  let r : FaultRec :=
    { index := i, kind := kind, outcome := outcome, unitKind := u.kind, partition := part, core := u.core,
      tile := u.tile, column := u.column, lane := u.lane, opcode := w.opcode, flow := w.flow, tag := w.tag,
      powerS := s.powerS, tick := s.tick, ptpSec := pt.1, ptpLocked := pt.2.2, ptpNs := pt.2.1,
      temp := s.power.tjNow, vcore := Config.coreVoltage s.draw u.core, detail := detail, address := address }
  let s1 := s.nextDraw.modMirror (fun j =>
    { j with faults := (if 1024 ≤ j.faults.length then j.faults.drop 1 else j.faults) ++ [r],
             nextFault := i + 1 })
  match j.faults with
  | old :: _ => if 1024 ≤ j.faults.length then
      (i, raiseDev noUnit (ev 0x28 1 noFault old.index 0 0 0) s1) else (i, s1)
  | [] => (i, s1)

/-- Write one fault record. -/
def note (u : Unit) (kind outcome : Nat) (w : Work) (detail : Nat) (s : State) : State :=
  (addRecord u kind outcome (s.unitPart u) w detail 0 s).2

/-- The attributed faults of a unit since it was last restored, within 86,400 s of now (R370, R378). -/
def State.count24 (s : State) (u : Unit) : Nat :=
  let rs := s.crock.mirror.faults.filter u.of
  let live := rs.foldl (fun acc r => if r.outcome = 5 then [] else acc ++ [r]) []
  (live.filter (fun r => decide (r.outcome ≤ 2) && decide (s.powerS ≤ r.powerS + 86400))).length

/-! ## Late faults (R366) -/

/-- An entry of the retract list whose record used a column. -/
def entryHit (cols : List Nat) (e : RetractEntry) : Bool := e.cols.any cols.contains

/-- The record a retract-list entry names, as its confirmed packet (R325). -/
def State.sentRecord? (s : State) (e : RetractEntry) : Option Pkt :=
  ((s.funnel e.part).outstanding.find? (fun o =>
    o.pkt.flow + 16384 * b2n o.pkt.isCtx == e.ctx && o.pkt.seq == e.seq)).map (·.pkt)

/-- A fault in columns of a tile after records used them: the records in its retract list that used one are
retracted with LATE_FAULT; with RETRACT_LOST set, RETRACT_OVERFLOW is raised (R366). -/
def lateFault (c t : Nat) (cols : List Nat) (s : State) : State :=
  let v := s.tile c t
  let hit := v.retractList.filter (entryHit cols)
  let s1 := s.modTile c t (fun v => { v with retractList := v.retractList.filter (fun e => !entryHit cols e) })
  let s2 := each hit (fun e u =>
    match u.sentRecord? e with
    | some k => retractRec k 3 u
    | none => u) s1
  if !v.retractLost.isEmpty then raiseUnit (s2.corePartNo c) (unitTile c t) (ev 0x26 2 noFault (unitTile c t) 0 0 0) s2
  else s2

/-! ## Retirement -/

/-- The retirement-list entries used by columns (R389). -/
def State.colsRetired (s : State) : Nat :=
  (s.crock.mirror.retired.filter (fun e => e.kind == 0 || e.kind == 1)).length

/-- The retired data columns of a tile (Table 5.7). -/
def State.tileColsRetired (s : State) (c t : Nat) : Nat :=
  (s.crock.mirror.retired.filter (fun e => e.kind == 0 && e.core == c && e.tile == t)).length

/-- The stuck-map entries of a tile. -/
def State.tileStuck (s : State) (c t : Nat) : List StuckEntry :=
  s.crock.mirror.stuck.filter (fun e => e.core == c && e.tile == t)

/-- UNIT_RETIRED with the record of the retirement (R377, R383). -/
def raiseRetired (u : Unit) (kind : Nat) (w : Work) (detail : Nat) (s : State) : State :=
  let x := addRecord u kind 4 (s.unitPart u) w detail 0 s
  raiseUnit (x.2.unitPart u) u.word (ev 0x23 2 x.1 u.word kind 0 0) x.2

/-- Retire a tile (R61): it takes no operations and no reference phases; for TX the core has none any more
(R62). -/
def retireTile (c t kind : Nat) (w : Work) (detail : Nat) (s : State) : State :=
  if (s.tile c t).state = .retired then s
  else
    let s1 := s.modTile c t (fun v => { v with state := .retired, refDue := false, calDue := false,
                                               testDue := false, withheld := false })
    let s2 := s1.modCal c t (fun r => { r with state := 4 })
    let s3 := raiseRetired (uTile c t) kind w detail s2
    if t = 32 then raiseDev (unitTile c 32) (ev 0x27 1 noFault c 0 0 0) s3 else s3

/-- Retire a data or checksum column (R59, R60); with the column entries used up, or past 16 data columns,
its tile (R389, Table 5.7). Records confirmed with it are retracted where the fault is late (R366). -/
def retireColumn (c t col kind : Nat) (w : Work) (detail : Nat) (late : Bool) (s : State) : State :=
  if s.colRetired c t col then s
  else if col ≥ 528 then retireTile c t kind w detail s
  else if s.colsRetired ≥ 4048 then retireTile c t kind w detail s
  else
    let e : RetireEntry := { core := c, tile := t, column := col, lane := 0, kind := b2n (decide (512 ≤ col)) }
    let s1 := s.modMirror (fun j => { j with retired := j.retired ++ [e] })
    let s2 := raiseRetired (uCol c t col) kind w detail s1
    let s3 := if late && decide (col < 512) then lateFault c t [col] s2 else s2
    if s3.tileColsRetired c t > 16 then retireTile c t kind w detail s3 else s3

/-- Retire a core (Table 12.5): its queues end, windows with a part on it are cancelled, and its arrivals are
held high. -/
def retireCore (c kind : Nat) (w : Work) (detail : Nat) (s : State) : State :=
  if s.coreRetired c then s
  else
    let e : RetireEntry := { core := c, tile := 63, column := 1023, lane := 0, kind := 2 }
    let s1 := s.modMirror (fun j => { j with retired := j.retired ++ [e] })
    let s2 := raiseRetired (uCore c) kind w detail s1
    let rs := s2.liveRuns.filter (fun r => (s2.run? r).elim false (fun v => v.kernel.parts.any (·.core == c)))
    each rs (fun r t => cancelRun r stCancelled false t) s2

/-- Whether a link's unready windows drop: those the former has not completed are formed as gaps when their
time comes (R231), so a link that leaves Up only stops writing. -/
def linkFault (n : Nat) (s : State) : State := s.modLink n (fun l => { l with state := 3, laneLock := 0 })

/-- Retire an ingest lane (Table 12.5): the link using it goes to Fault at once. -/
def retireLane (l kind : Nat) (w : Work) (detail : Nat) (s : State) : State :=
  if s.laneRetired l then s
  else
    let e : RetireEntry := { core := 0, tile := 63, column := 1023, lane := l, kind := 3 }
    let s1 := s.modMirror (fun j => { j with retired := j.retired ++ [e] })
    let s2 := raiseRetired (uLane l) kind w detail s1
    each ((upTo 4).filter (fun n => s.linkOn n && (s.linkLanes n).contains l)) linkFault s2

/-- Retire the unit a fault names; a reference column or row retires its tile (R61). -/
def retireUnit (u : Unit) (kind : Nat) (w : Work) (detail : Nat) (late : Bool) (s : State) : State :=
  match u.kind with
  | 0 => retireColumn u.core u.tile u.column kind w detail late s
  | 1 => retireColumn u.core u.tile u.column kind w detail late s
  | 2 => retireTile u.core u.tile kind w detail s
  | 3 => retireTile u.core u.tile kind w detail s
  | 4 => retireCore u.core kind w detail s
  | 5 => retireLane u.lane kind w detail s
  | _ => s

/-! ## Suspect units (R371 to R373) -/

/-- A tile becomes Suspect (R371). -/
def suspectTile (c t kind : Nat) (w : Work) (detail : Nat) (s : State) : State :=
  match (s.tile c t).state with
  | .ready =>
    let s1 := s.modTile c t (fun v => { v with state := .suspect, cleanTests := 0 })
    let s2 := s1.modCal c t (fun r => { r with state := 3 })
    let x := addRecord (uTile c t) kind 3 (s2.corePartNo c) w detail 0 s2
    raiseUnit (x.2.corePartNo c) (unitTile c t) (ev 0x21 1 x.1 (unitTile c t) 0 0 0) x.2
  | .suspect => s.modTile c t (fun v => { v with cleanTests := 0 })
  | _ => s

/-- A core's CORE_STATE byte in the mirrors. -/
def State.coreState (s : State) (c : Nat) : Nat := tget s.crock.mirror.coreState c 0

/-- Change a core's CORE_STATE byte. -/
def State.modCoreState (s : State) (c : Nat) (f : Nat → Nat) : State :=
  s.modMirror (fun j => { j with coreState := tset j.coreState c (f (s.coreState c)) })

/-- A core becomes Suspect, or starts its clean slices again, and runs with margin: the clock margin at step
7, else as CORE_MARGIN names (R371, R373, R407). -/
def suspectCore (c kind : Nat) (w : Work) (detail : Nat) (s : State) : State :=
  let was := bitN (s.coreState c) 0
  let s1 := s.modCore c (fun k => { k with
    cleanSlices := 0, marginClock := s.regf 0xD04 12 1 == 1 || s.power.step == 7 })
  if was then s1
  else
    let s2 := s1.modCoreState c (fun v => setBit (setBit v 0) 1)
    let x := addRecord (uCore c) kind 3 (s2.corePartNo c) w detail 0 s2
    raiseUnit (x.2.corePartNo c) (unitCore c) (ev 0x21 1 x.1 (unitCore c) 0 0 0) x.2

/-- Attribute a fault to a unit (R368): one record, FAULTS_ATTRIBUTED, the FAULT event; then retirement where
it is permanent (R370) and else suspicion of the tile or core (R371). perm: permanent at once; late: an
operation's records may have left confirmed. -/
def attribute_ (u : Unit) (kind outcome : Nat) (w : Work) (detail : Nat) (perm late : Bool) (s : State) : State :=
  let part := s.unitPart u
  let x := addRecord u kind outcome part w detail 0 s
  let s1 := count (devCtr 4) 1 x.2
  let n := s1.count24 u
  let s2 := raiseUnit part u.word (ev 0x20 2 x.1 kind u.word n 0) s1
  if perm || decide (3 ≤ n) then retireUnit u kind w detail late s2
  else if u.kind ≤ 3 then suspectTile u.core u.tile kind w detail s2
  else if u.kind = 4 then suspectCore u.core kind w detail s2
  else s2

/-- A CRC or link fault attributed to nothing only leaves a record. -/
def recordOnly (u : Unit) (kind outcome part : Nat) (detail address : Nat) (s : State) : State :=
  (addRecord u kind outcome part noWork detail address s).2

/-- A fatal error (R380): FATAL is set, every core stops, TRIG_OUT goes inactive, PCIe reports by AER. -/
def fatal (kind : Nat) (s : State) : State :=
  let x := addRecord uNone kind 8 255 noWork 0 0 s
  let s1 := x.2.modPower (fun p => { p with fatal := true })
  let s2 := (s1.modMirror (fun j => { j with lastHalt := 2 }))
  let s3 := raiseDev noUnit (ev 0x29 3 x.1 kind 0 0 0) (suppressAll s2)
  s3.emit .aerUncorrectable

end Sys2Proof.Machine
end

