-- ==== Sys2Proof/Machine/Maint.lean ====
section
/-! DEFINITION. The maintenance arbiter (R385), the age counters (R77) and what the calibration engine and
field self-test do on a tile or core (R78 to R84, R138 to R142, R371 to R376). -/

namespace Sys2Proof.Machine

/-! ## The arbiter -/

/-- An activity of Table 12.9 on a tile. -/
def actTile (code sort c t : Nat) (part : Nat) (cmd : Option Nat) : Activity :=
  { code := code, sort := sort, core := c, tile := t, part := part, cmd := cmd }

/-- The priority of an activity (Table 12.9). -/
def Activity.prio (a : Activity) : Nat :=
  match a.code with
  | 1 => 4
  | 2 => 3
  | 3 => 5
  | 4 => 2
  | 5 => 6
  | 6 => 1
  | _ => 7

/-- Whether an activity is a core slice (R375). -/
def Activity.slice (a : Activity) : Bool := a.code == 1 && a.sort == 1

/-- Whether two activities act on the same tile; a core slice acts on none. -/
def sameTile (a b : Activity) : Bool :=
  !a.slice && !b.slice && a.core == b.core && a.tile == b.tile

/-- Table 12.10, for a code not above the other. -/
def conflictUp (a b : Activity) : Bool :=
  match a.code, b.code with
  | 1, 1 => (a.slice && b.slice) || sameTile a b
  | 1, 2 => sameTile a b
  | 1, 3 => a.core == b.core
  | 1, 4 => sameTile a b
  | 2, 2 => sameTile a b
  | 2, 3 => sameTile a b
  | 2, 4 => sameTile a b
  | 3, 3 => a.core == b.core
  | 3, 4 => sameTile a b
  | 3, 6 => true
  | 4, 4 => sameTile a b
  | 5, 5 => a.part == b.part
  | 5, 7 => true
  | 6, 6 => true
  | 7, 7 => true
  | _, _ => false

/-- Whether two activities conflict (Table 12.10). -/
def conflict (a b : Activity) : Bool := if a.code ≤ b.code then conflictUp a b else conflictUp b a

/-- The unit word of an activity. -/
def Activity.unit (a : Activity) : Nat :=
  if a.code ≤ 4 then (if a.slice then unitCore a.core else unitTile a.core a.tile) else noUnit

/-- Begin an activity. -/
def beginAct (a : Activity) (s : State) : State :=
  traceOnly 0x150 6 (if a.part < 8 then a.part else 255) a.unit a.code a.unit 0 0
    { s with running := s.running ++ [a] }

/-- End an activity. -/
def endAct (a : Activity) (s : State) : State :=
  traceOnly 0x151 6 (if a.part < 8 then a.part else 255) a.unit a.code a.unit 0 0
    { s with running := s.running.filter (· ≠ a) }

/-- Whether an activity conflicts with one running. -/
def State.blocked (s : State) (a : Activity) : Bool := s.running.any (conflict a)

/-- Ask the arbiter to run an automatic activity: it begins, or waits and is counted (R385). An activity
asked for twice is asked for once. -/
def askAuto (a : Activity) (s : State) : State :=
  if s.running.contains a || s.waiting.contains a then s
  else if s.blocked a then count (devCtr 5) 1 { s with waiting := s.waiting ++ [a] }
  else beginAct a s

/-- Queue an activity behind others of its own command. -/
def queueAct (a : Activity) (s : State) : State :=
  if s.running.contains a || s.waiting.contains a then s
  else if s.blocked a then { s with waiting := s.waiting ++ [a] } else beginAct a s

/-- A command's activities, in order: DEFERRED where one conflicts with an activity running before
(R385). -/
def askCmd (id : Nat) (as : List Activity) (s : State) : State :=
  let late := as.any s.blocked
  let s1 := if late then
      match s.cmd? id with
      | some c => setWait id .deferred (reply c.h c.op stDeferred false [] s)
      | none => s
    else s
  each as queueAct s1

/-- The first activity of a list with the lowest priority number that conflicts with none running. -/
def pickAct (s : State) (l : List Activity) : Option Activity :=
  (sortBy (fun a => (a.prio : Int)) (l.filter (fun a => !s.blocked a))).head?

/-- Whether a command still has activities running or waiting. -/
def State.cmdBusy (s : State) (id : Nat) : Bool :=
  s.running.any (fun a => a.cmd == some id) || s.waiting.any (fun a => a.cmd == some id)

/-- Finish a command when the last of its activities has ended. -/
def finishIdle (cmd : Option Nat) (st : Nat) (payload : List Word) (s : State) : State :=
  match cmd with
  | some id => if s.cmdBusy id then s else finish id st payload s
  | none => s

/-- The running activity of a code and sort on a tile. -/
def State.act? (s : State) (code sort c t : Nat) : Option Activity :=
  s.running.find? (fun a => a.code == code && a.sort == sort && a.core == c && a.tile == t)

/-- Whether a tile has a gap between operations (R53): none running on it. -/
def State.gap (s : State) (c t : Nat) : Bool := (s.tile c t).running.isNone

/-- Whether reference phases may run on a tile (R57, R147): not while Programming, awaiting attach or
Retired. -/
def State.refPhases (s : State) (c t : Nat) : Bool :=
  match (s.tile c t).state with
  | .ready => true
  | .suspect => true
  | .held => true
  | .blank => true
  | _ => false

/-- The commands of tile-scope activities end with their owner partition's number. -/
def State.actPart (s : State) (c : Nat) : Nat := s.corePartNo c

/-! ## Ages (R77) -/

/-- TILE_AGE now: powered seconds since t_v. -/
def State.tileAge (s : State) (c t : Nat) : Nat := (s.calRec c t).age + (s.clk - s.crock.foldClk) / secClk

/-- Fold the powered seconds passed into every calibration record and POWER_S (Table 13.4); TILE_EQ_AGE is
integrated at the present die temperature. -/
def foldAges (s : State) : State :=
  let sec := (s.clk - s.crock.foldClk) / secClk
  if sec = 0 then s
  else
    let eq := (s.ageFactor s.power.tjNow * sec / (2 ^ 48 : Nat)).toNat
    let j := s.crock.mirror
    let cal := (upTo 1056).foldl (fun t i =>
      let r := tget j.cal i (CalRec.start i)
      tset t i { r with age := r.age + sec, eqAge := r.eqAge + eq }) j.cal
    let s1 := s.modMirror (fun j => { j with cal := cal, powerS := j.powerS + sec })
    s1.modCrock (fun k => { k with foldClk := k.foldClk + sec * secClk })

/-- Restart both ages of a tile at t_v (R77): the others keep theirs. -/
def restartAge (c t : Nat) (s : State) : State :=
  (foldAges s).modCal c t (fun r => { r with age := 0, eqAge := 0 })

/-! ## Reference samples (R78 to R84, R141) -/

/-- A tile's reference sample falls due; the arbiter is asked for it. -/
def refDue (c t : Nat) (cmd : Option Nat) (s : State) : State :=
  let s1 := s.modTile c t (fun v => { v with refDue := true })
  match cmd with
  | some _ => s1
  | none => askAuto (actTile 2 0 c t (s.actPart c) none) s1

/-- TILE_REFRESH_DUE, once until the tile is programmed (R142); with AUTO_REFRESH the refresh is asked for. -/
def refreshCheck (c t : Nat) (s : State) : State :=
  let v := s.tile c t
  let ovr := decide (s.regf 0x144 0 10 < v.driftRes) ||
    decide (s.regf 0x144 10 10 * 86400 < s.tileAge c t)
  let holds := v.state = .ready || v.state = .suspect || v.state = .held
  if ovr && holds && !v.refreshRaised && t ≠ 32 then
    let s1 := s.modTile c t (fun v => { v with refreshRaised := true })
    let s2 := raiseUnit (s.corePartNo c) (unitTile c t)
      (ev 2 1 noFault (unitTile c t) v.driftRes (s.tileAge c t) 0) s1
    if s.regf 0x144 20 1 = 1 && v.job.isNone then
      askAuto (actTile 3 0 c t (s.actPart c) none)
        (s2.modTile c t (fun x => { x with job := some (.refresh v.state none) }))
    else s2
  else s

/-- A reference sample's readings are applied (R78, R82 to R84). -/
def applySample (c t : Nat) (m : RefReading) (s : State) : State :=
  let v := s.tile c t
  let r := s.calRec c t
  let bad := fun (detail : Nat) (u : State) =>
    attribute_ (uTile c t) 8 0 noWork detail false false u
  match gammaOf r m with
  | none =>
    let s1 := bad 0x10000 s
    s1.modTile c t (fun x => { x with refDue := false, testDue := true })
  | some g =>
    if g < 0x4000 || 0xFFFF < g then
      (bad 0x10000 s).modTile c t (fun x => { x with refDue := false, testDue := true })
    else
      let age := s.tileAge c t
      let settle := !v.settled && decide (3600 ≤ age)
      let s1 := if settle then s.modCal c t (fun x => { x with b528 := m.m528, b529 := m.m529,
                                                               b530 := m.m530, b531 := m.m531 }) else s
      let dr := if 3600 ≤ age then driftOf g (s1.calRec c t) m else 0
      let s2 := s1.modTile c t (fun x => { x with gammaS := g, tempS := m.temp, gainCorr := g, refDue := false,
                                                  withheld := false, settled := x.settled || settle,
                                                  driftRes := if settle then 0 else dr })
      let s3 := if g < 0x7333 || 0x8CCD < g then bad g s2 else s2
      refreshCheck c t s3

/-! ## Converter calibration (R138, R139) -/

/-- The columns whose required trims lie outside their spans: offset ±4 steps in 1/16, gain ±6 % in 2^-12
(R138, R139), with the DETAIL of their fault. -/
def calFails (r : CalReading) : List (Nat × Nat) :=
  (r.offsets.filter (fun x => decide (64 < x.2.natAbs))).map (fun x => (x.1, 0)) ++
  (r.gains.filter (fun x => decide (245 < x.2.2.natAbs))).map (fun x => (x.1, 1 + 2 * (x.2.1 % 8)))

/-- New trims and baselines take effect together (R138, R50). -/
def applyCal (c t : Nat) (r : CalReading) (temp : Int) (s : State) : State :=
  s.modTile c t (fun v => { v with
    offsetTrim := r.offsets.foldl (fun a x => tset a x.1 (clampI x.2 (-64) 64)) [],
    gainTrim := r.gains.foldl (fun a x => tset a (8 * x.1 + x.2.1) (clampI x.2.2 (-245) 245)) [],
    beta := r.baselines.foldl (fun a x => tset a x.1 x.2) [], calTemp := temp, calDue := false,
    withheld := false })

/-- The unit of a converter: its column, or the tile for a reference column (R139). -/
def convUnit (c t col : Nat) : Unit := if col < 528 then uCol c t col else uTile c t

/-- A calibration with its repeat: a converter that fails once takes a CONV_CAL_FAIL, one that fails again
is retired (Table 12.4). -/
def calFaults (c t : Nat) (first again : CalReading) (s : State) : State :=
  let bad := calFails first
  let twice := (calFails again).map (·.1)
  each (bad.filter (fun x => !s.colRetired c t x.1)) (fun x u =>
    attribute_ (convUnit c t x.1) 6 0 noWork x.2 (twice.contains x.1) false u) s

/-! ## Known-sum tests (R144 to R146, R374) -/

/-- The distinct units a list of failing readings names, with one reading each. -/
def katUnits (l : List KatReading) : List (Nat × KatReading) :=
  l.foldl (fun acc r =>
    let k := if katOfTile r then 1023 else r.column
    if acc.any (fun x => x.1 == k) then acc else acc ++ [(k, r)]) []

/-- The unit a failing reading names (Table 12.4); for type T the readings are of TX. -/
def katUnit (c t k : Nat) (r : KatReading) : Unit :=
  let tt := if r.type.val = 3 then 32 else t
  if k = 1023 then uTile c tt else uCol c tt k

/-- The known-sum vectors of a tile test, and again those that fail: a unit that fails twice has a confirmed
failure and is retired, one that fails once takes a KAT_FAIL fault (R370, R374). vectors is how many ran. -/
def katJudge (c t vectors : Nat) (first second : List KatReading) (seed : Word) (s : State) : State :=
  let f1 := s.katFails c t first 16 seed
  let f2 := (s.katFails c t second 16 seed).map (fun r => (r.type, r.index, r.column))
  let s1 := count (coreCtr c 54) vectors s
  let bad := dedup (f1.map (fun r => (r.type, r.index)))
  let s2 := count (coreCtr c 55) bad.length s1
  each (katUnits f1) (fun x u =>
    attribute_ (katUnit c t x.1 x.2) 4 0 noWork (katDetail x.2 (s.katDev c t x.2 seed))
      (f2.contains (x.2.type, x.2.index, x.2.column)) true u) s2

/-- A tile test is clean: the count of a Suspect tile rises, and at CLEAN_TESTS it returns to Ready
(R372). -/
def cleanTest (c t : Nat) (s : State) : State :=
  let v := s.tile c t
  if v.state = .suspect then
    if s.regf 0xD04 16 16 ≤ v.cleanTests + 1 then
      let s1 := s.modTile c t (fun x => { x with state := .ready, cleanTests := 0 })
      let s2 := s1.modCal c t (fun r => { r with state := 2 })
      let x := addRecord (uTile c t) 4 6 (s2.corePartNo c) noWork 0 0 s2
      raiseUnit (x.2.corePartNo c) (unitTile c t) (ev 0x22 0 x.1 (unitTile c t) 0 0 0) x.2
    else s.modTile c t (fun x => { x with cleanTests := x.cleanTests + 1 })
  else s

/-- The LFSR moves past one type T vector (R461). -/
def lfsrAdvance (c : Nat) (s : State) : State :=
  s.modCore c (fun k => { k with lfsr := (lfsrCodes 512 k.lfsr).2 })

end Sys2Proof.Machine
end

