-- ==== Sys2Proof/Machine/Whisk.lean ====
section
/-! DEFINITION. Whisk: programming, refresh, erase, attach, restoration and block scan of a tile (R115 to R123,
R128 to R137, R148, R360, R378). Effective weights are the image weights, 0 where latched (log 15). -/

namespace Sys2Proof.Machine

/-! ## Latching (R118, R135 to R137) -/

/-- A cell in the image that is being programmed. -/
def imageW (t : Nat) (w : List Host.Cell) (row col : Nat) : Int :=
  if 512 ≤ col then 0 else if t = 32 then txWeight row col else weightOf w row col

/-- Enter a cell in the stuck map with a cause; none where the pool is full (Table 5.7). -/
def latchCell (c t row col cause : Nat) (s : State) : Option State :=
  if s.crock.mirror.stuck.length ≥ 8192 then none
  else some (s.modMirror (fun j =>
    { j with stuck := j.stuck ++ [{ core := c, tile := t, row := row, column := col, cause := cause }] }))

/-- Whether a column's latched cells exceed its budget (Table 5.7). -/
def State.overBudget (s : State) (c t col : Nat) (w : List Host.Cell) : Bool :=
  let cells := (s.tileStuck c t).filter (fun e => e.column == col)
  if col < 512 then
    let ws := (cells.map (fun e => (imageW t w e.row col).natAbs)).filter (· ≠ 0)
    decide (4 < ws.length) || decide (12 < ws.foldl (fun (a b : Nat) => a + b) 0)
  else !cells.isEmpty

/-- The unit that a column's latched cells retire (Table 5.7). -/
def latchUnit (c t col : Nat) : Unit := if col < 528 then uCol c t col else uTile c t

/-- What the latching of a programming came to: cells newly latched, whether a checksum or reference cell or
a retirement was among them, whether the pool ran out. -/
structure Latching where
  s : State
  cells : Nat
  fail : Bool
  full : Bool

/-- Latch the cells that did not verify, those of retired columns and of the stuck map apart (R118, R119); every column with
latched cells is held to its budget under the weights written (R136). -/
def latchAll (c t : Nat) (w : List Host.Cell) (cells : List (Nat × Nat)) (s : State) : Latching :=
  let a := cells.foldl (fun (a : Latching) x =>
    if a.full || a.s.latched c t x.1 x.2 || 512 ≤ x.1 || 536 ≤ x.2 then a
    else match latchCell c t x.1 x.2 0 a.s with
      | some u => { s := u, cells := a.cells + 1, fail := a.fail || decide (512 ≤ x.2), full := false }
      | none => { a with full := true }) { s := s, cells := 0, fail := false, full := false }
  let cols := dedup (cells.map (·.2) ++ (a.s.tileStuck c t).map (·.column))
  let b := cols.foldl (fun (b : Latching) col =>
    if b.s.overBudget c t col w && !b.s.colRetired c t col then
      { b with s := attribute_ (latchUnit c t col) 5 2 noWork 0 true false b.s, fail := true }
    else b) a
  if (b.s.tileStuck c t).length > 64 then
    { b with s := attribute_ (uTile c t) 5 2 noWork 0 true false b.s, fail := true }
  else b

/-! ## Erase (R130) -/

/-- A tile's erase is asked for: it is reprogramming (R19). -/
def askErase (c t : Nat) (s : State) : State :=
  let s1 := s.modTile c t (fun v => { v with job := some .erase, owner := none })
  askAuto (actTile 3 1 c t (s.actPart c) none) s1

/-! ## The end of a programming (Table 5.2) -/

/-- The tile is Blank: no digest, no record, no model (R123, R130). -/
def blankTile (c t : Nat) (s : State) : State :=
  let s1 := s.modTile c t (fun v => { v with
    state := if v.state = .retired then .retired else .blank, owner := none, role := 0, pair := 255, weights := [], shadow := false, cfgs := [], job := none })
  s1.modCal c t (fun r => { r with state := if r.state = 4 then 4 else 0, digest := [] })

/-- The unit that failing vectors single out: one column, or the tile (R123). -/
def singled (c t : Nat) (f : List KatReading) : Unit :=
  match dedup (f.map (fun r => if katOfTile r then 1023 else r.column)) with
  | [k] => if k = 1023 then uTile c t else uCol c t k
  | _ => uTile c t

/-- Change a model of a partition. -/
def modModel (p id : Nat) (g : Model → Model) (s : State) : State :=
  s.modPre (fun x => { x with models := x.models.map (fun m => if m.part = p && m.id = id then g m else m) })

/-- A model loaded in a partition. -/
def State.model? (s : State) (p id : Nat) : Option Model :=
  s.pre.models.find? (fun m => m.part == p && m.id == id)

/-- The words of a 64-bit value, low first. -/
def lohi (v : Nat) : List Word := [w32 (v % 2 ^ 32), w32 (v / 2 ^ 32)]

/-- A MODEL_LOAD whose last target tile is done replies (R128, R129). -/
def modelDone (p id : Nat) (s : State) : State :=
  match s.model? p id with
  | some m =>
    match m.loading with
    | some cmd =>
      if s.cmdBusy cmd then s
      else finish cmd m.status (lohi m.id ++ [w32 (m.kept + 65536 * m.programmed), w32 m.latched])
        (modModel p id (fun m => { m with loading := none }) s)
    | none => s
  | none => s

/-- A tile that no model holds any more once its job has ended is erased (R130). -/
def eraseOwed (c t : Nat) (s : State) : State :=
  let v := s.tile c t
  let holds := v.state = .held || v.state = .ready || v.state = .suspect
  if holds && v.owner.isNone && v.job.isNone && t ≠ 32 then askErase c t s else s

/-- An attached tile (R148): its shadow is rebuilt from the record, it is the model's, and it returns to its recorded state;
ages, E_k and B_k stand; its readings are the ideal ones (log 15). -/
def attachDone (c t : Nat) (a : Activity) (s : State) : State :=
  match (s.tile c t).job with
  | some (.attach r back m p _) =>
    let s1 := (endAct a s).modTile c t (fun v => { v with
      state := back, shadow := true, weights := r.weights, owner := some (p, m), role := r.role, pair := r.pair,
      cfgs := [{ since := 0, words := r.config }], offsetTrim := [], gainTrim := [], beta := [], gainCorr := 0x8000,
      gammaS := 0x8000, tempS := s.power.tjNow, calTemp := s.power.tjNow, job := none })
    modelDone p m (modModel p m (fun x => { x with kept := x.kept + 1 }) s1)
  | _ => endAct a s

/-- What a finished job reports to its command; a tile programmed for a load that a reset ended is erased
(R133). -/
def jobReply (c t : Nat) (job : WhiskJob) (st cells : Nat) (s : State) : State :=
  match job with
  | .program _ model part cmd =>
    match cmd with
    | some id =>
      match s.cmd? id with
      | some k =>
        if k.op = 0x100 then
          modelDone part model (modModel part model (fun m =>
            { m with programmed := m.programmed + 1, fresh := addOnce m.fresh (tileNo c t), latched := m.latched + cells,
                     status := if m.status = stOk then st else m.status }) s)
        else eraseOwed c t (finish id st [w32 cells] s)
      | none => s
    | none => if (s.tile c t).state = .held then askErase c t s else s
  | .refresh _ cmd => eraseOwed c t (finishOpt cmd st [w32 cells] s)
  | .restoreColumn _ _ cmd => finishOpt cmd st [] s
  | .restoreTile cmd => finishOpt cmd st [] s
  | .attach _ _ _ _ _ => s
  | .erase => s
  | .scan _ _ => s

/-- The verified tile: trims, first sample, ages restarted, digest and STATE written (Table 5.2, R77, R80). -/
def verified (c t : Nat) (st : TileState) (calState : Nat) (digest : Bytes) (cal : CalReading) (r : RefReading)
    (s : State) : State :=
  let s1 := restartAge c t (applyCal c t cal s.power.tjNow s)
  let s2 := s1.modCal c t (fun x => { x with
    state := calState, digest := digest, e528 := r.m528, e529 := r.m529, e530 := r.m530, e531 := r.m531,
    e535 := r.m535, b528 := 0, b529 := 0, b530 := 0, b531 := 0 })
  s2.modTile c t (fun v => { v with
    state := st, shadow := true, gainCorr := 0x8000, gammaS := 0x8000, tempS := r.temp, settled := false,
    driftRes := 0, refDue := false, refreshRaised := false, batches := [], job := none })

/-- The Crock STATE of a live state (Table 5.5). -/
def calStateOf (st : TileState) : Nat :=
  match st with
  | .blank => 0
  | .held => 1
  | .ready => 2
  | .suspect => 3
  | .retired => 4
  | .programming => 5
  | .awaiting => 2

/-- The weights a job writes. -/
def jobWeights (v : Tile) (job : WhiskJob) : List Host.Cell :=
  match job with
  | .program r _ _ _ => r.weights
  | .restoreTile _ => []
  | _ => v.weights

/-- Take a tile's record as its content (R134). -/
def takeRecord (job : WhiskJob) (v : Tile) : Tile :=
  match job with
  | .program r m p _ => { v with weights := r.weights, role := r.role, pair := r.pair, owner := some (p, m),
                                 cfgs := [{ since := 0, words := r.config }], gainCorr := 0x8000 }
  | .restoreTile _ => { v with weights := [], cfgs := [], owner := none, gainCorr := 0x8000 }
  | _ => { v with gainCorr := 0x8000 }

/-- The digest a job leaves on its tile. -/
def jobDigest (s : State) (c t : Nat) (job : WhiskJob) : Bytes :=
  match job with
  | .program r _ _ _ => r.digest
  | .restoreTile _ => []
  | _ => (s.calRec c t).digest

/-- The state a verified tile leaves Programming in (R121, R132, R378). -/
def jobState (t : Nat) (job : WhiskJob) : TileState :=
  match job with
  | .program _ _ _ _ => .held
  | .refresh back _ => back
  | .restoreColumn _ back _ => back
  | .restoreTile _ => if t = 32 then .ready else .blank
  | _ => .held

/-- A restored unit is no longer retired; the record of it ends the count of its earlier faults (R378). -/
def restored (u : Unit) (s : State) : State :=
  let x := addRecord u 0x0F 5 (s.unitPart u) noWork 0 0 s
  raiseUnit (x.2.unitPart u) u.word (ev 0x24 0 x.1 u.word 0 0 0) x.2

/-- The machine as a job's verify sees it: a column under restoration is not retired, and its stuck-map
entries are gone; a tile under restoration has none either (R119, R378). -/
def restoring (c t : Nat) (job : WhiskJob) (s : State) : State :=
  match job with
  | .restoreColumn col _ _ => s.modMirror (fun j => { j with
      stuck := j.stuck.filter (fun e => !(e.core == c && e.tile == t && e.column == col)),
      retired := j.retired.filter (fun e =>
        !((e.kind == 0 || e.kind == 1) && e.core == c && e.tile == t && e.column == col)) })
  | .restoreTile _ => s.modMirror (fun j => { j with
      stuck := j.stuck.filter (fun e => !(e.core == c && e.tile == t)) })
  | _ => s

/-- A restoration that failed its check: the unit stays retired, the tile as it was (R378). -/
def restoreFailed (c t : Nat) (job : WhiskJob) (s : State) : State :=
  match job with
  | .restoreColumn _ back _ => (s.modTile c t (fun v => { v with state := back, job := none })).modCal c t
      (fun r => { r with state := calStateOf back })
  | _ => (s.modTile c t (fun v => { v with state := .retired, job := none })).modCal c t
      (fun r => { r with state := 4 })

/-- Whether a job restores a retired unit. -/
def WhiskJob.restores (job : WhiskJob) : Bool :=
  match job with
  | .restoreColumn _ _ _ => true
  | .restoreTile _ => true
  | _ => false

/-- The unit a restoration returns. -/
def WhiskJob.unit (job : WhiskJob) (c t : Nat) : Unit :=
  match job with
  | .restoreColumn col _ _ => uCol c t col
  | _ => uTile c t

/-- The whole of PROGRAMMING_DONE after the activity has ended (R118, R123, R128, R129, R132, R378). -/
def programDone (c t : Nat) (job : WhiskJob) (unverified : List (Nat × Nat)) (known : List KatReading)
    (cal : CalReading) (r : RefReading) (s : State) : State :=
  let s0 := (restoring c t job s).modTile c t (takeRecord job)
  let l := latchAll c t (jobWeights (s.tile c t) job) unverified s0
  let retired := (l.s.tile c t).state = .retired && !job.restores
  if l.full then jobReply c t job stNoResource l.cells (blankTile c t l.s)
  else if retired then jobReply c t job stCheckFail l.cells (l.s.modTile c t (fun v => { v with job := none }))
  else
    let fails := l.s.katFails c t known 4 0
    if !fails.isEmpty then
      if job.restores then jobReply c t job stCheckFail l.cells (restoreFailed c t job s)
      else
        let u := singled c t fails
        let d := match fails with
          | f :: _ => katDetail f (l.s.katDev c t f 0)
          | [] => 0
        let b := blankTile c t l.s
        jobReply c t job stCheckFail l.cells (attribute_ u 7 2 noWork d true false b)
    else
      let s1 := verified c t (jobState t job) (calStateOf (jobState t job)) (jobDigest s c t job) cal r l.s
      let s2 := each ((calFails cal).filter (fun x => !s1.colRetired c t x.1))
        (fun x u => attribute_ (convUnit c t x.1) 6 0 noWork x.2 false false u) s1
      let s3 := if job.restores then restored (job.unit c t) s2 else s2
      jobReply c t job (if l.fail then stCheckFail else stOk) l.cells s3

/-! ## Block scan (R360) -/

/-- A block scan is asked for. -/
def askScan (c t b : Nat) (m16 : Int) (s : State) : State :=
  if (s.tile c t).job.isSome then s
  else askAuto (actTile 3 2 c t (s.actPart c) none) (s.modTile c t (fun v => { v with job := some (.scan b m16) }))

/-- One data cell that a scan found away from its weight: latched with cause 0b01, a STUCK_CELL fault of its
column, which is retired where the budget or the pool is exceeded (R135 to R137, R360). -/
def scanLatch (c t row col : Nat) (s : State) : State :=
  match latchCell c t row col 1 s with
  | none => attribute_ (latchUnit c t col) 5 2 noWork row true true s
  | some u =>
    let ovr := u.overBudget c t col (s.tile c t).weights || decide (64 < (u.tileStuck c t).length)
    let un := if 64 < (u.tileStuck c t).length then uTile c t else latchUnit c t col
    attribute_ un 5 0 noWork row ovr true u

/-- The block scan's readings, in 1/32 level after γ_t, by row and column: data cells more than one level
from their weight are latched; when nothing is found the tile's calibration is renewed and a RESIDUAL_MEAN
fault is attributed to the tile (R360). -/
def scanDone (c t b : Nat) (m16 : Int) (readings : List (Nat × Nat × Int)) (s : State) : State :=
  let bad := readings.filter (fun x => decide (x.2.1 < 512) && x.2.1 / 32 == b && decide (x.1 < 512) &&
    !s.latched c t x.1 x.2.1 && decide (32 < (x.2.2 - 32 * s.effW c t x.1 x.2.1).natAbs))
  let s1 := s.modTile c t (fun v => { v with job := none })
  if bad.isEmpty then
    let s2 := attribute_ (uTile c t) 2 0 noWork (b + 16 * field 32 m16) false false s1
    askAuto (actTile 4 0 c t (s.actPart c) none) (s2.modTile c t (fun v => { v with calDue := true }))
  else
    let s2 := each bad (fun x u => scanLatch c t x.1 x.2.1 u) s1
    lateFault c t ((upTo 32).map (fun j => 32 * b + j)) s2

end Sys2Proof.Machine
end

