-- ==== Sys2Proof/WellFormed.lean ====
section
/-! DEFINITION. Which commands have a form on an interface of the device: operands that name columns, rows,
words, lines and bytes that exist. A command that fails its check is one no bus or pin could carry. -/

namespace Sys2Proof.WellFormed

/-- A packet holds at most 255 words with its six-word header (Table 10.2). -/
def payload (w : List Word) : Bool := decide (w.length ≤ 249)

/-- A reading names a vector and a column that exist (Table 5.10). -/
def kat (r : KatReading) : Bool :=
  decide (r.column < 536) &&
  (match r.type.val with
   | 0 => decide (r.index < 16)
   | 1 => decide (r.index < 4)
   | 2 => decide (r.index < 16)
   | _ => r.index == 0)

/-- Readings of known-sum vectors. -/
def kats (l : List KatReading) : Bool := l.all kat

/-- A calibration names columns, gain indices and blocks that exist (R138). -/
def cal (r : CalReading) : Bool :=
  r.offsets.all (fun x => decide (x.1 < 536)) &&
  r.gains.all (fun x => decide (x.1 < 536) && decide (x.2.1 < 8)) &&
  r.baselines.all (fun x => decide (x.1 < 16))

/-- Cells of a tile (R26). -/
def cells (l : List (Nat × Nat)) : Bool := l.all (fun x => decide (x.1 < 512) && decide (x.2 < 536))

/-- Deviations name columns of a tile (R26). -/
def deviation (l : List (Nat × Int)) : Bool := l.all (fun x => decide (x.1 < 536))

/-- A scan reads data cells and checksum cells (R360). -/
def scan (l : List (Nat × Nat × Int)) : Bool := l.all (fun x => decide (x.1 < 512) && decide (x.2.1 < 528))

/-- A posted write covers whole words of BAR2 (R273). -/
def pushWrite (offset : BitVec 20) (data : List Word) : Bool :=
  offset.toNat % 4 == 0 && !data.isEmpty && decide (offset.toNat + 4 * data.length ≤ 1048576)

/-- BAR0 takes aligned 32-bit and 64-bit accesses (R311). -/
def regWrite (offset : BitVec 20) (wide : Bool) (value : BitVec 64) : Bool :=
  if wide then offset.toNat % 8 == 0 else offset.toNat % 4 == 0 && decide (value.toNat < 2 ^ 32)

/-- A PIO read covers bytes of the 64-byte window (R329). -/
def pio (first : Fin 64) (bytes : Nat) : Bool := decide (1 ≤ bytes) && decide (first.val + bytes ≤ 64)

/-- A line of usable memory: 30 GiB in lines of 64 bytes (R347). -/
def line (l : Nat) : Bool := decide (l < 503316480)

/-- A node message's payload fits a datagram of the largest MTU (R336). -/
def message (b : List Byte) : Bool := decide (b.length ≤ 9164)

/-- A node message of one row: its TYPE is the row's, or one that no row has (R337). -/
def msgType (m : MsgHdr) (k : Nat) : Bool := m.type.toNat == k || m.type.toNat == 0 || decide (6 < m.type.toNat)

/-- The check of every command; a command without an entry has every form its operands can take. -/
def check (i : Instr) : Bool :=
  match i with
  | .pushWindowWrite _ offset data => pushWrite offset data
  | .registerWrite _ offset wide value => regWrite offset wide value
  | .nop _ w | .getCaps _ w | .setLevel _ w | .commit _ w | .cmdCancel _ w | .stageDiscard _ w
  | .modelLoad _ w | .tileProgram _ w | .tileVerify _ w | .modelCommit _ w | .modelRetire _ w
  | .tileConfig _ w | .flowOpen _ w | .flowBind _ w | .flowClose _ w | .flowSnapshot _ w | .krnSubmit _ w
  | .krnDefine _ w | .krnRelease _ w | .syncRead _ w | .syncSet _ w | .trigPulse _ w | .ruleSet _ w
  | .ruleClear _ w | .tickRead _ w | .igChanSet _ w | .igDecSet _ w | .igCoefLoad _ w | .maintStart _ w
  | .selftest _ w | .recal _ w | .hkSeq _ w | .hkCalZero _ w | .hkCalFull _ w | .attest _ w | .fwStage _ w
  | .fwActivate _ w | .faultRead _ w | .faultExport _ w | .unitRetire _ w | .unitRestore _ w
  | .netPortSet _ w | .netPeerSet _ w | .netStatus _ w => payload w
  | .phaseLatch _ _ d => deviation d
  | .tongsDone _ a b => kats a && kats b
  | .blockScan _ _ r => scan r
  | .ptFnPio _ _ first bytes => pio first bytes
  | .convCalDone _ _ r again _ => cal r && cal again
  | .tileTestDone _ _ a b => kats a && kats b
  | .programmingDone _ _ u k c _ => cells u && kats k && cal c
  | .patrolScrub l _ => line l
  | .memUncorrectable l _ => line l
  | .record m b => message b && msgType m 2
  | .hello m _ _ _ _ _ => msgType m 1
  | .ack m => msgType m 3
  | .ringCredit m _ => msgType m 4
  | .traceRead m _ _ => msgType m 5
  | _ => true

end Sys2Proof.WellFormed
end

