-- ==== Sys2Proof/Machine/Upkeep.lean ====
section
/-! DEFINITION. The maintenance events: reference samples, converter calibration, tile tests, core self-test,
programming, erase, block scan and the arbiter. -/

namespace Sys2Proof.Machine

/-! ## Reference samples -/

/-- A reference sample falls due every REF_PERIOD (R141). -/
def execRefSampleDue (core : Fin 32) (tile : Fin 33) (s : State) : Answer :=
  ifDue (s.served && !s.power.fatal && s.refPhases core.val tile.val) (refDue core.val tile.val none) s

/-- A reference sample completes in a gap between operations (R53, R78): its activity ends and the gain
correction follows. -/
def execRefSampleDone (core : Fin 32) (tile : Fin 33) (r : RefReading) (s : State) : Answer :=
  match s.act? 2 0 core.val tile.val with
  | some a =>
    ifDue (s.coresRun && s.gap core.val tile.val && s.refPhases core.val tile.val)
      (fun s => finishIdle a.cmd stOk [] (applySample core.val tile.val r (endAct a s))) s
  | none => .next s

/-- Every 1 ms the applied correction follows the die temperature, on every tile of the core; 2.0 K from the
last sample makes one due at once (R79). -/
def feedTile (c t : Nat) (temp : Int) (s : State) : State :=
  let v := s.tile c t
  let s1 := s.modTile c t (fun v => { v with gainCorr := s.feedForward v temp })
  if 20 ≤ (temp - v.tempS).natAbs && !v.refDue then refDue c t none s1 else s1

/-- The feed-forward of every tile of a core that reference phases may run on (R79). -/
def execGainFeedforward (core : Fin 32) (temp : Int) (s : State) : Answer :=
  ifDue s.coresRun (fun s =>
    each ((upTo 33).filter (fun t => s.refPhases core.val t)) (fun t u => feedTile core.val t temp u) s) s

/-- A sample, calibration or tile test due for 1 s withholds operations from its tile (R81, R140, R374). -/
def execCalWithhold (core : Fin 32) (tile : Fin 33) (s : State) : Answer :=
  let v := s.tile core.val tile.val
  ifDue (s.coresRun && (v.refDue || v.calDue || v.testDue))
    (fun s => s.modTile core.val tile.val (fun v => { v with withheld := true })) s

/-! ## Converter calibration -/

/-- A converter calibration falls due (R140). -/
def execConvCalDue (core : Fin 32) (tile : Fin 33) (s : State) : Answer :=
  ifDue (s.served && !s.power.fatal && s.refPhases core.val tile.val) (fun s =>
    askAuto (actTile 4 0 core.val tile.val (s.actPart core.val) none)
      (s.modTile core.val tile.val (fun v => { v with calDue := true }))) s

/-- A converter calibration completes: new trims, baselines and failed converters (R138, R139). A repeat is
made where a converter failed. -/
def convCalDone (c t : Nat) (r again : CalReading) (temp : Int) (a : Activity) (s : State) : State :=
  let use := if (calFails r).isEmpty then r else again
  let s1 := applyCal c t use temp (endAct a s)
  finishIdle a.cmd stOk [] (calFaults c t r again s1)

/-- CONV_CAL_DONE. -/
def execConvCalDone (core : Fin 32) (tile : Fin 33) (r again : CalReading) (temp : Int) (s : State) : Answer :=
  if WellFormed.cal r && WellFormed.cal again then
    match s.act? 4 0 core.val tile.val with
    | some a => ifDue (s.coresRun && s.gap core.val tile.val && s.refPhases core.val tile.val)
        (convCalDone core.val tile.val r again temp a) s
    | none => .next s
  else .fault .illFormed

/-! ## Tile tests -/

/-- A tile test falls due on every tile that is not retired (R374). -/
def execTileTestDue (core : Fin 32) (tile : Fin 33) (s : State) : Answer :=
  ifDue (s.coresRun && s.refPhases core.val tile.val) (fun s =>
    askAuto (actTile 1 0 core.val tile.val (s.actPart core.val) none)
      (s.modTile core.val tile.val (fun v => { v with testDue := true }))) s

/-- The known-sum vectors of a tile test: D on 16 sub-blocks, R once, X at 16 drives, and T where TX is
present for TILE_VERIFY and TX itself (R146, R374). -/
def vectorsRun (tile : Nat) (withT : Bool) : Nat := 33 + b2n (withT || tile == 32)

/-- The largest magnitude of the deviations of a type, in 1/16 step. -/
def worst (s : State) (c t k : Nat) (rs : List KatReading) (seed : Word) : Nat :=
  ((rs.filter (fun r => r.type.val == k)).map (fun r => (s.katDev c t r seed).natAbs)).foldl max 0

/-- TILE_VERIFY's reply: PASS and RUN bits for D, R, X and T, failed columns, largest deviations (Table
10.7). Nothing of the tile changes (R131). -/
def verifyReply (c t : Nat) (rs : List KatReading) (seed : Word) (s : State) : List Word :=
  let txOk := !s.tileOut c 32
  let f := s.katFails c t rs 16 seed
  let run := 7 + 8 * b2n txOk
  let pass := maskOf ((upTo 4).filter (fun k => bitN run k && !(f.any (fun r => r.type.val == k))))
  [w32 (pass + 16 * run), w32 (dedup (f.map (·.column))).length] ++
    (upTo 4).map (fun k => w32 (worst s c t k rs seed))

/-- A tile test ends (R374): the vectors are judged, a Suspect tile's clean tests are counted (R372), and a
command that asked for it is answered. -/
def tileTestDone (c t : Nat) (first second : List KatReading) (a : Activity) (s : State) : State :=
  let op := match a.cmd with
    | some id => (s.cmd? id).elim 0 (·.op)
    | none => 0
  let seed := (s.core c).lfsr
  let withT := op == 0x102 && !s.tileOut c 32
  let s1 := endAct a s
  if op = 0x102 then
    let s2 := count (coreCtr c 54) (vectorsRun t withT) s1
    let w := verifyReply c t first seed s2
    finishIdle a.cmd stOk w (if withT then lfsrAdvance c s2 else s2)
  else
    let fails := s1.katFails c t first 16 seed
    let s2 := katJudge c t (vectorsRun t false) first second seed s1
    let s3 := if t = 32 then lfsrAdvance c s2 else s2
    let s4 := s3.modTile c t (fun v => { v with testDue := false, withheld := false })
    let s5 := if fails.isEmpty then cleanTest c t s4 else s4
    let s6 := s5.modCore c (fun k =>
      if k.testCmd.isSome then
        { k with testFails := k.testFails + b2n (!fails.isEmpty), testSlices := k.testSlices + 1,
                 firstFault := match k.firstFault with
                   | some i => some i
                   | none => if fails.isEmpty then none else some s.crock.mirror.nextFault }
      else k)
    match a.cmd with
    | some id =>
      if s6.cmdBusy id then s6
      else
        let k := s6.core c
        let us := (s6.clk - k.testStart) / usClk
        finish id stOk [w32 (k.testSlices + 65536 * k.testFails), w32 k.firstFail,
          w32 (k.firstFault.getD 0xFFFFFFFF), w32 us]
          (s6.modCore c (fun k => { k with testCmd := none, testSlices := 0, testFails := 0, firstFail := 0,
                                           firstFault := none }))
    | none => s6

/-- TILE_TEST_DONE. -/
def execTileTestDone (core : Fin 32) (tile : Fin 33) (first second : List KatReading) (s : State) : Answer :=
  if WellFormed.kats first && WellFormed.kats second then
    match s.act? 1 0 core.val tile.val with
    | some a => ifDue (s.coresRun && s.gap core.val tile.val && s.refPhases core.val tile.val)
        (tileTestDone core.val tile.val first second a) s
    | none => .next s
  else .fault .illFormed

/-! ## Core self-test (R375, R376) -/

/-- Whether a core is idle (R20, R207): no operation admitted on its tiles and none for 20 µs, its queues empty or
stalled as long, and no engine at work. -/
def State.coreIdle (s : State) (c : Nat) : Bool :=
  (upTo 33).all (fun t => (s.tile c t).inFlight.isEmpty && (s.tile c t).running.isNone) &&
  (s.core c).queues.all (fun q => !(q.2.stall == .none) && decide (q.2.stallClk + 20 * usClk ≤ s.clk)) &&
  decide ((s.core c).busyClk + 20 * usClk ≤ s.clk) && (s.core c).tongs.isEmpty

/-- A Suspect core's clean slices are counted; at CLEAN_TESTS the margin is removed (R373). -/
def cleanSlice (c : Nat) (s : State) : State :=
  if bitN (s.coreState c) 0 then
    if s.regf 0xD04 16 16 ≤ (s.core c).cleanSlices + 1 then
      let s1 := s.modCore c (fun k => { k with cleanSlices := 0, marginClock := false })
      let s2 := s1.modCoreState c (fun v => clrBit (clrBit v 0) 1)
      let x := addRecord (uCore c) 10 6 (s2.corePartNo c) noWork 0 0 s2
      raiseUnit (x.2.corePartNo c) (unitCore c) (ev 0x22 0 x.1 (unitCore c) 0 0 0) x.2
    else s.modCore c (fun k => { k with cleanSlices := k.cleanSlices + 1 })
  else s

/-- The outcome of a slice's tests: a first failure is repeated in the next slice, a second is confirmed and
retires the core, a repeat that passes leaves one CORE_SELFTEST fault (R375). -/
def sliceJudge (c : Nat) (failed : Option (BitVec 16)) (s : State) : State :=
  let k := s.core c
  let note1 := fun (code : Nat) (s : State) => s.modCore c (fun k => { k with
    testFails := k.testFails + 1, firstFail := if k.firstFail = 0 then code else k.firstFail,
    firstFault := some (k.firstFault.getD s.crock.mirror.nextFault) })
  match k.repeatCode, failed with
  | some r, some f =>
    let s1 := (note1 f.toNat s).modCore c (fun k => { k with repeatCode := none })
    if f.toNat = r then attribute_ (uCore c) 10 2 noWork r true false s1
    else (attribute_ (uCore c) 10 1 noWork r false false s1).modCore c
      (fun k => { k with repeatCode := some f.toNat })
  | some r, none =>
    attribute_ (uCore c) 10 1 noWork r false false (s.modCore c (fun k => { k with repeatCode := none }))
  | none, some f => (note1 f.toNat s).modCore c (fun k => { k with repeatCode := some f.toNat })
  | none, none => cleanSlice c s

/-- The end of a pass: SELFTEST goes on to the core's tiles (R376); UNIT_RESTORE returns the core when the
pass had no failure (R378). -/
def passEnd (c : Nat) (s : State) : State :=
  let k := s.core c
  match k.testCmd with
  | none => s.modCore c (fun k => { k with testSlices := 0, testFails := 0, firstFail := 0, firstFault := none })
  | some id =>
    if (s.cmd? id).elim 0 (·.op) = 0xA03 then
      let s1 := s.modCore c (fun k => { k with testCmd := none, testSlices := 0, testFails := 0,
                                               firstFail := 0, firstFault := none })
      if k.testFails = 0 then
        let s2 := s1.modMirror (fun j => { j with
          retired := j.retired.filter (fun e => !(e.kind == 2 && e.core == c)) })
        finish id stOk [] (restored (uCore c) s2)
      else finish id stCheckFail [] s1
    else
      let ts := (upTo 33).filter (fun t => s.refPhases c t && !s.tileOut c t)
      let s1 := each (ts.map (fun t => actTile 1 0 c t (s.actPart c) (some id))) queueAct s
      if s1.cmdBusy id then s1
      else finish id stOk [w32 (k.testSlices + 65536 * k.testFails), w32 k.firstFail,
        w32 (k.firstFault.getD 0xFFFFFFFF), w32 ((s1.clk - k.testStart) / usClk)] s1

/-- The slice activity of a core: the pass a command holds, or an automatic slice. -/
def sliceAct (s : State) (c : Nat) : Activity :=
  { code := 1, sort := 1, core := c, tile := 63, part := s.corePartNo c, cmd := (s.core c).testCmd }

/-- The watchdogs of a core's queues do not count the time a pass held the core (R208). -/
def holdWatchdogs (c : Nat) (s : State) : State :=
  s.modCore c (fun k => { k with queues := k.queues.map (fun (e : Nat × Queue) =>
    (e.1, { e.2 with progressClk := min s.clk (e.2.progressClk + (s.clk - k.testStart)) })) })

/-- One slice of a core's self-test pass (R375): SELFTEST_SLICES counts it. -/
def coreSlice (c : Nat) (failed : Option (BitVec 16)) (last : Bool) (s : State) : State :=
  let a := sliceAct s c
  let s0 := if s.running.contains a then s else beginAct a s
  let s1 := s0.modCore c (fun k => { k with testSlices := k.testSlices + 1 })
  let s2 := sliceJudge c failed (count (coreCtr c 56) 1 s1)
  let s3 := if a.cmd.isNone || last then endAct a s2 else s2
  let s4 := if a.cmd.isSome && last then holdWatchdogs c s3 else s3
  if last then passEnd c s4 else s4

/-- CORE_SELFTEST_SLICE: on an idle core, when no other core is under self-test (R375). -/
def execCoreSelftestSlice (core : Fin 32) (failed : Option (BitVec 16)) (last : Bool) (s : State) : Answer :=
  let a := sliceAct s core.val
  let inPass := s.cores.any (fun e => e.1 ≠ core.val && e.2.testCmd.isNone && decide (0 < e.2.testSlices))
  ifDue (s.coresRun && !s.quiesced core.val && s.coreIdle core.val &&
      (s.running.contains a || (a.cmd.isNone && !inPass && !s.coreRetired core.val && !s.blocked a)))
    (coreSlice core.val failed last) s

/-! ## The arbiter -/

/-- Context compaction (Table 12.9): cold parts of a partition move, to addresses the region gives (log 11). -/
def compact (p : Nat) (s : State) : State :=
  each ((s.flows.ctxs.filter (fun e => e.2.part == p && decide (0 < e.2.coldBytes))).map (·.1)) (fun n t =>
    t.nextDraw.modCtx n (fun c => { c with coldBase := Config.coldAddress t.draw n })) s

/-- What the arbiter starts runs at once where it needs no further event: compaction and attach (R148, R385). A core's
self-test pass starts afresh for the command that asked for it, and is then the one pass under way (R375, R376). -/
def startAct (a : Activity) (s : State) : State :=
  let s1 := beginAct a { s with waiting := s.waiting.filter (· ≠ a) }
  if a.code = 5 then finishIdle a.cmd stOk [] (endAct a (compact a.part s1))
  else if a.code = 3 && a.sort == 3 then attachDone a.core a.tile a s1
  else if a.slice then
    let s2 := { s1 with cores := s1.cores.map (fun (e : Nat × Core) =>
      if e.2.testCmd.isNone then (e.1, { e.2 with testSlices := 0, testFails := 0, firstFail := 0, firstFault := none })
      else e) }
    s2.modCore a.core (fun k => { k with testCmd := a.cmd, testStart := s2.clk, testSlices := 0, testFails := 0,
                                         firstFail := 0, firstFault := none })
  else s1

/-! ## Programming -/

/-- Whether a committed model uses a tile. -/
def State.usedByCommitted (s : State) (c t : Nat) : Bool :=
  s.pre.models.any (fun m => m.state == 2 && m.records.any (fun r => r.core == c && r.tile == t))

/-- The kernel of a binding. -/
def State.kernel? (s : State) (p id : Nat) : Option Kernel :=
  s.pre.kernels.find? (fun k => k.part == p && k.id == id)

/-- Whether a kernel's templates name a tile, themselves or as the other tile of a pair. -/
def State.kernelUses (s : State) (k : Kernel) (c t : Nat) : Bool :=
  k.parts.any (fun p => p.core == c && p.steps.any (fun st => match st with
    | .layer l => l.templates.any (fun x => x.tile == t || (x.pair && (s.tile c x.tile).pair == t))
    | _ => false))

/-- Whether ready or running work still needs a tile (R297): a ready window or a run whose kernel's templates name it. -/
def State.needed (s : State) (c t : Nat) : Bool :=
  s.flows.runs.any (fun e => e.2.status.isNone && !e.2.abandoned && s.kernelUses e.2.kernel c t) ||
  s.flows.ctxs.any (fun e => e.2.ready.any (fun w => s.kernelUses w.kernel c t)) ||
  !(s.tile c t).inFlight.isEmpty

/-- PROGRAMMING_START: the tile's last admitted operation has completed; it enters Programming and its Crock
STATE reads Interrupted (R121, Table 5.2); new weights wait for the work that needs the old (R297). -/
def execProgrammingStart (core : Fin 32) (tile : Fin 33) (s : State) : Answer :=
  let v := s.tile core.val tile.val
  let ready := match v.job with
    | some (.program _ _ _ _) => !s.needed core.val tile.val
    | some (.refresh _ _) => true
    | some (.restoreColumn _ _ _) => true
    | some (.restoreTile _) => true
    | _ => false
  ifDue (s.coresRun && ready && (s.act? 3 0 core.val tile.val).isSome && v.inFlight.isEmpty &&
      v.running.isNone && !(v.state == .programming))
    (fun s => (s.modTile core.val tile.val (fun v => { v with
        state := .programming, refDue := false, calDue := false, testDue := false })).modCal core.val tile.val
      (fun r => { r with state := 5 })) s

/-- PROGRAMMING_DONE: the steps of Table 5.2 have completed (R121). -/
def execProgrammingDone (core : Fin 32) (tile : Fin 33) (unverified : List (Nat × Nat))
    (known : List KatReading) (cal : CalReading) (r : RefReading) (s : State) : Answer :=
  if WellFormed.cells unverified && WellFormed.kats known && WellFormed.cal cal then
    match s.act? 3 0 core.val tile.val, (s.tile core.val tile.val).job with
    | some a, some job =>
      ifDue (s.coresRun && (s.tile core.val tile.val).state == .programming)
        (fun s => programDone core.val tile.val job unverified known cal r (endAct a s)) s
    | _, _ => .next s
  else .fault .illFormed

/-- MODEL_ERASE_START: Whisk begins the erase of R130 when no committed model uses the tile and no earlier
work needs it (R297). -/
def execModelEraseStart (core : Fin 32) (tile : Fin 33) (s : State) : Answer :=
  let v := s.tile core.val tile.val
  ifDue (s.coresRun && (v.job == some .erase) && (s.act? 3 1 core.val tile.val).isSome &&
      !s.usedByCommitted core.val tile.val && !s.needed core.val tile.val && !(v.state == .programming))
    (fun s => (s.modTile core.val tile.val (fun v => { v with state := .programming })).modCal core.val tile.val
      (fun r => { r with state := 5 })) s

/-- TILE_ERASE_DONE: the tile is Blank (R130). -/
def execTileEraseDone (core : Fin 32) (tile : Fin 33) (s : State) : Answer :=
  match s.act? 3 1 core.val tile.val with
  | some a => ifDue (s.coresRun && ((s.tile core.val tile.val).job == some .erase) &&
      ((s.tile core.val tile.val).state == .programming))
      (fun s => blankTile core.val tile.val (endAct a s)) s
  | none => .next s

/-- BLOCK_SCAN: Whisk's scan of a failing block (R360). -/
def execBlockScan (core : Fin 32) (tile : Fin 33) (readings : List (Nat × Nat × Int)) (s : State) : Answer :=
  if WellFormed.scan readings then
    match s.act? 3 2 core.val tile.val, (s.tile core.val tile.val).job with
    | some a, some (.scan b m) => ifDue (s.coresRun && s.gap core.val tile.val)
        (fun s => scanDone core.val tile.val b m readings (endAct a s)) s
    | _, _ => .next s
  else .fault .illFormed

end Sys2Proof.Machine
end

