-- ==== Sys2Proof/Machine/Startup.lean ====
section
/-! DEFINITION. The Crock (R388 to R396, R460), start-up and what each reset keeps (R392, R393, R397 to R405, R454),
function-level and partition resets (R133, R317, R318, R379, R381), power and temperature (R401 to R409). -/

namespace Sys2Proof.Machine

/-! ## The Crock copies -/

/-- Whether a copy is good (R391). -/
def CrockCopy.good (c : CrockCopy) : Bool := c.magicOk && c.formatOk && c.complete == 0x5A && c.crcOk

/-- A copy of the Crock: 0 A, 1 B. -/
def Crock.copy (k : Crock) (i : Nat) : CrockCopy := if i = 0 then k.copyA else k.copyB

/-- Put a copy. -/
def Crock.setCopy (k : Crock) (i : Nat) (c : CrockCopy) : Crock :=
  if i = 0 then { k with copyA := c } else { k with copyB := c }

/-- A save begins (R390): the copy that does not hold the newest good save gets COMPLETE = 0 and the next
SEQ; the mirrors as they stand are what it will hold. -/
def beginSave (halt : Nat) (cmd : Option Nat) (s : State) : State :=
  let s1 := (foldAges s).foldTick
  let t := 1 - s1.crock.newest
  let old := s1.crock.copy t
  let last := s1.crock.copy s1.crock.newest
  let seq := (if last.good then last.seq else 0) + 1
  s1.modCrock (fun k =>
    { k.setCopy t { old with magicOk := true, formatOk := true, complete := 0, seq := seq, crcOk := false } with
      save := some { target := t, lastHalt := halt, frozen := k.mirror, cmd := cmd } })

/-- A save ends: CRC, then COMPLETE = 0x5A (R390). -/
def endSave (j : SaveJob) (s : State) : State :=
  s.modCrock (fun k =>
    { k.setCopy j.target { k.copy j.target with
        complete := 0x5A, crcOk := true, journal := { j.frozen with lastHalt := j.lastHalt } } with
      save := none, newest := j.target, dirty := decide (k.mirror ≠ j.frozen) })

/-- Stop as at power failure (Table 13.4): the device is halted, TRIG_OUT goes inactive, the ages are folded
and LAST_HALT is written to the mirrors. -/
def haltWith (halt : Nat) (s : State) : State :=
  let s1 := suppressAll (s.modPower (fun p => { p with halted := true }))
  beginSave halt none ((foldAges s1).modMirror (fun j => { j with lastHalt := halt }))

/-! ## Start-up -/

/-- The tile as a restart leaves it: the cells keep their weights (Table 13.7). After Standby its shadow,
owner and configuration stand too. -/
def restTile (standby : Bool) (v : Tile) : Tile :=
  if standby then
    { Tile.empty .awaiting with weights := v.weights, shadow := v.shadow, owner := v.owner, role := v.role,
                                pair := v.pair, cfgs := v.cfgs }
  else { Tile.empty .awaiting with weights := v.weights }

/-- The device after every volatile store has been lost or reset (Table 13.7, columns Cold power-on, RESET_N
and Standby): host memory, what has left, cells, Crock, fuses and slots stay. -/
def restart (standby : Bool) (s : State) : State :=
  let r := State.reset
  { r with
    pending := s.pending, clk := s.clk, draw := s.draw, crock := s.crock,
    sec := if standby then s.sec else { s.sec with staged := false, stagedVersion := 0 },
    host := { r.host with mem := s.host.mem, out := s.host.out, linkUp := s.host.linkUp, speed := s.host.speed,
                          width := s.host.width },
    tiles := s.tiles.map (fun e => (e.1, restTile standby e.2)),
    pre := if standby then { r.pre with
        models := s.pre.models, kernels := s.pre.kernels, epochs := s.pre.epochs, checks := s.pre.checks,
        rules := s.pre.rules, regs := tdel s.pre.regs 0xE00 } else r.pre,
    ingest := if standby then { s.ingest with rings := [] } else r.ingest,
    net := if standby then { s.net with
        ports := s.net.ports.map (fun e => (e.1, { e.2 with link := 0 })), ptpGood := 0,
        ptpLocked := false } else r.net,
    pkg := if standby then s.pkg else r.pkg,
    mgmt := { r.mgmt with strap0 := s.mgmt.strap0, strap1 := s.mgmt.strap1, tapIr := s.mgmt.tapIr,
                          chain := s.mgmt.chain },
    power := { r.power with pwrFailN := s.power.pwrFailN, perstN := s.power.perstN, tjNow := s.power.tjNow,
                            tjPeak := s.power.tjPeak, rollback := false } }

/-- Intake, Funnel and MSI-X registers stand at their reset values after Standby (Table 13.7). -/
def dropFunnelRegs (p : Nat) (s : State) : State :=
  s.modPre (fun x => { x with
    regs := x.regs.filter (fun e => !(decide (partOff p 0x400 ≤ e.1) && decide (e.1 < partOff p 0x424))) })

/-- R392: the recovery of the Crock at cold power-on. -/
def recoverCrock (s : State) : State :=
  let k := s.crock
  let a := k.copyA
  let b := k.copyB
  let load := fun (i : Nat) (s : State) =>
    let j := (s.crock.copy i).journal
    s.modCrock (fun k => { k with
      mirror := { j with tickReached := false, tickMax := 0 }, newest := i, recovered := true, dirty := false,
      save := none, foldClk := s.clk })
  let pend := fun (e : EventRec) (s : State) =>
    s.modPower (fun p => { p with pendingEvents := p.pendingEvents ++ [e] })
  let rolled := fun (i : Nat) (s : State) =>
    let o := s.crock.copy (1 - i)
    let s1 := load i (s.modCrock (fun k => k.setCopy (1 - i) { o with complete := 0 }))
    let s2 := s1.modMirror (fun j => { j with cal := j.cal.map (fun (e : Nat × CalRec) =>
      if e.1 % 33 ≠ 32 && (e.2.state == 1 || e.2.state == 2 || e.2.state == 3) then (e.1, { e.2 with digest := [] })
      else e) })
    pend (ev 0x40 2 noFault (s.crock.copy i).seq o.seq 0 0) (s2.modPower (fun p => { p with rollback := true }))
  let other := fun (i : Nat) (s : State) =>
    let o := s.crock.copy (1 - i)
    if o.magicOk && o.formatOk && decide ((s.crock.copy i).seq ≤ o.seq) then rolled i s else load i s
  match a.good, b.good with
  | false, false =>
    let s1 := s.modCrock (fun k => { k with
      mirror := Journal.empty 0, newest := 1, recovered := true, dirty := false, save := none, foldClk := s.clk })
    let s2 := { s1 with tiles := s1.tiles.map (fun (e : Nat × Tile) => (e.1, { e.2 with weights := ([] : List Host.Cell) })) }
    pend (ev 0x42 2 noFault 0 0 0 0) (s2.modPower (fun p => { p with crockLost := true }))
  | true, true =>
    if a.seq = b.seq then
      let s1 := load 0 s
      if a.journal = b.journal then s1
      else pend (ev 0x41 1 noFault a.seq 0 0 0) (s1.modPower (fun p => { p with crockTie := true }))
    else load (if a.seq < b.seq then 1 else 0) s
  | true, false => other 0 s
  | false, true => other 1 s

/-- The boot ROM tries the pending slot first (R414). -/
def tryPending (s : State) : State :=
  s.modSec (fun x => { x with tried := if x.activatePending then some (1 - x.active) else none })

/-- COLD_POWER_ON: power from cold. A save under way is lost with the power; the Crock is recovered before
anything else, and start-up runs with RESET_N released (R392, log 2). -/
def coldPowerOn (s : State) : State :=
  let s1 := restart false (s.modCrock (fun k => { k with save := none }))
  let s2 := s1.modPower (fun p => { p with resetN := true, aonOk := true, pwrFailN := true, startup := .cold,
                                           tjPeak := p.tjNow })
  tryPending (recoverCrock s2)

/-- COLD_POWER_ON. -/
def execColdPowerOn (s : State) : Answer := .next (coldPowerOn s)

/-- RESET_N is driven low: the device resets by Table 13.7, the mirrors stand, and a save goes on (R396, R397,
R403, R405). -/
def execResetNAssert (s : State) : Answer :=
  let standby := s.power.state == 3
  ifDue (s.power.aonOk && s.power.resetN) (fun s =>
    let s1 := restart standby ((foldAges s).foldTick)
    let s2 := s1.modPower (fun p => { p with resetN := false, startup := if standby then .standby else .reset })
    if standby then each (upTo 8) dropFunnelRegs s2 else s2) s

/-- RESET_N is released: the start-up sequence begins, the PTP clock starts at 0, and the TAP's hold on the pins ends (R241, R397,
R399, R457). -/
def execResetNRelease (s : State) : Answer :=
  ifDue (s.power.aonOk && !s.power.resetN) (fun s =>
    let s1 := s.modPower (fun p => { p with resetN := true })
    let s2 := s1.modMgmt (fun m => { m with chainDrives := 0, tapIr := 1 })
    tryPending (s2.modTb (fun t => { t with ptpSec := 0, ptpNs := 0 }))) s

/-- A key slot is valid when it is programmed and not revoked (R411). -/
def Security.keyValid (x : Security) (k : Nat) : Bool :=
  match x.keySlots[k]? with
  | some v => v.programmed && !v.revoked
  | none => false

/-- A firmware slot: 0 A, 1 B. -/
def Security.slot (x : Security) (i : Nat) : FwSlot := if i = 0 then x.slotA else x.slotB

/-- Whether a slot boots (R412, R415): checked when staged, its key slot still valid, no counter above its SVN
byte. -/
def Security.boots (x : Security) (i : Nat) : Bool :=
  let f := x.slot i
  f.bootable && x.keyValid f.keySlot &&
  (upTo 64).all (fun j => decide (x.svn.getD j 0 ≤ f.svn.getD j 0 ∨ f.svn = []))

/-- The fuses that a running image has written (R415). -/
def fuseCommit (s : State) : State :=
  let f := s.sec.slot s.sec.active
  let up := if f.commitSvn then (upTo 64).filter (fun j => decide (s.sec.svn.getD j 0 < f.svn.getD j 0)) else []
  let s1 := s.modSec (fun x => { x with svn := (upTo 64).map (fun j =>
    if up.contains j then f.svn.getD j 0 else x.svn.getD j 0) })
  let s2 := if up.isEmpty then s1
    else raiseDev noUnit (ev 0x4D 0 noFault (maskOf up % 2 ^ 32) (maskOf up / 2 ^ 32) 0 0) s1
  let rev := (bitsSet f.revokeMask 4).filter (fun k => (s2.sec.keySlots[k]?).elim false (fun v => !v.revoked))
  let s3 := s2.modSec (fun x => { x with keySlots := x.keySlots.zipIdx.map (fun e =>
    let v := if rev.contains e.2 then { e.1 with revoked := true } else e.1
    if bitN f.installMask e.2 && !v.programmed then
      { v with programmed := true, hash := sha512 (f.keys.getD e.2 []) }
    else v) })
  if rev.isEmpty then s3 else raiseDev noUnit (ev 0x4E 1 noFault (maskOf rev) 0 0 0) s3

/-- The live state a recorded STATE gives at start-up (R147, R393). -/
def bootState (t : Nat) (shadow : Bool) (st : Nat) : TileState :=
  match st with
  | 0 => .blank
  | 4 => .retired
  | 5 => .blank
  | 1 => if shadow || t = 32 then .held else .awaiting
  | 3 => if shadow || t = 32 then .suspect else .awaiting
  | _ => if shadow || t = 32 then .ready else .awaiting

/-- A tile at the end of start-up: an Interrupted one is erased; trims and the correction are those of ideal
readings (R147, log 15); a baseline taken before stands (R84). -/
def bootTile (s : State) (i : Nat) : Tile :=
  let r := tget s.crock.mirror.cal i (CalRec.start i)
  let v := tget s.tiles i (Tile.start i)
  let st := bootState (i % 33) v.shadow r.state
  let base := { v with
    state := st, gainCorr := 0x8000, gammaS := 0x8000, tempS := s.power.tjNow, calTemp := s.power.tjNow,
    settled := !(r.b528 == 0 && r.b529 == 0 && r.b530 == 0 && r.b531 == 0) }
  if st = .blank then { base with weights := [], owner := none, role := 0, pair := 255, shadow := false, cfgs := [] }
  else base

/-- The states of every tile at the end of start-up (R147). -/
def bootTiles (s : State) : State :=
  let tiles := (upTo 1056).foldl (fun t i =>
    let v := bootTile s i
    if v = Tile.start i then tdel t i else tset t i v) s.tiles
  let s1 := { s with tiles := tiles }
  s1.modMirror (fun j => { j with cal := j.cal.map (fun e =>
    if e.2.state = 5 then (e.1, { e.2 with state := 0, digest := [] }) else e) })

/-- Margin and quiesce of the cores rebuilt from CORE_STATE (Table 13.7). -/
def bootCores (s : State) : State :=
  s.setReg 0xE10 (w32 (maskOf ((upTo 32).filter (fun c => bitN (s.coreState c) 2))))

/-- Start-up completes (R397, R399, R400): the tried firmware runs, tiles take their states, READY rises,
BOOT_COUNT advances, its fuses are written and the waiting events are raised. -/
def startupReady (s : State) : State :=
  let s0 := s.modSec (fun x => { x with active := x.tried.getD x.active, tried := none, activatePending := false })
  let s1 := bootCores (bootTiles s0)
  let evs := s1.power.pendingEvents
  let s2 := s1.modPower (fun p => { p with startup := .none, ready := true, pendingEvents := [] })
  let s3 := { s2 with pkg := { s2.pkg with trained := true, selfRefresh := false },
                      host := { s2.host with configServed := s2.power.perstN } }
  let s4 := s3.modMirror (fun j => { j with bootCount := (j.bootCount + 1) % 2 ^ 32 })
  let s5 := fuseCommit s4
  let s6 := if s5.crock.mirror.lastHalt = 1 then
      raiseDev noUnit (ev 0x48 3 noFault (field 32 s5.power.tjPeak) 0 0 0) s5
    else if s5.crock.mirror.lastHalt = 2 then raiseDev noUnit (ev 0x29 3 noFault 0 0 0 0) s5
    else s5
  each evs (fun e u => raiseDev noUnit e u) s6

/-- STARTUP_READY: RESET_N and PWR_FAIL_N are high, and a slot boots (R397, R411, R443). -/
def execStartupReady (s : State) : Answer :=
  ifDue (!(s.power.startup == .none) && s.power.resetN && s.power.pwrFailN && s.power.aonOk &&
      s.crock.save.isNone && s.sec.boots (s.sec.tried.getD s.sec.active)) startupReady s

/-- FW_FALLBACK: the tried slot fails R412, or its firmware does not reach READY; the other slot is booted
(R414). -/
def execFwFallback (readyNotReached : Bool) (s : State) : Answer :=
  match s.sec.tried with
  | some t =>
    ifDue (!(s.power.startup == .none) && s.power.resetN && (s.sec.boots t == readyNotReached)) (fun s =>
      let s1 := s.modSec (fun x => { x with tried := none, activatePending := false })
      s1.modPower (fun p => { p with
        fwFallback := true,
        pendingEvents := p.pendingEvents ++ [ev 0x4C 2 noFault t (b2n readyNotReached) 0 0] })) s
  | none => .next s

/-! ## Power failure -/

/-- PWR_FAIL_N is asserted: the device stops and saves (R395), unless in Standby, before recovery, or halted
by a save already (R396). A maintenance save under way is abandoned for it. -/
def execPwrFailNAssert (s : State) : Answer :=
  ifDue (s.power.aonOk && s.power.pwrFailN) (fun s =>
    let s1 := s.modPower (fun p => { p with pwrFailN := false })
    if s1.power.state == 3 || !s1.crock.recovered || s1.power.halted then s1
    else haltWith 0 (s1.modCrock (fun k => { k with save := none }))) s

/-- PWR_FAIL_N rises: a save completes all the same, and the device stays halted until RESET_N; a boot ROM held
by the pin may begin (R396, R443). -/
def execPwrFailNDeassert (s : State) : Answer :=
  ifDue s.power.aonOk (fun s => s.modPower (fun p => { p with pwrFailN := true })) s

/-- CROCK_SAVE_DONE: the copy is complete; a save under MAINT_START 6 raises CROCK_SAVED and replies (R390). -/
def execCrockSaveDone (s : State) : Answer :=
  match s.crock.save with
  | some j =>
    ifDue s.power.aonOk (fun s =>
      let s1 := endSave j s
      match j.cmd with
      | some id =>
        let s2 := raiseDev noUnit (ev 0x43 0 noFault (s1.crock.copy j.target).seq j.target 0 0) s1
        let s3 := each (s2.running.filter (fun a => a.code == 6)) endAct s2
        finish id stOk [] s3
      | none => s1) s
  | none => .next s

/-- VDD_AON leaves its limits: the mirrors are lost, and a save under way leaves its copy not good (R396). -/
def execVddAonFall (s : State) : Answer :=
  ifDue s.power.aonOk (fun s =>
    let s1 := s.modCrock (fun k => { k with save := none, recovered := false })
    s1.modPower (fun p => { p with aonOk := false, ready := false, startup := .none, halted := true })) s

/-- MIRROR_UNCORRECTABLE: an uncorrectable error in the Crock mirrors is fatal (R380, R388). -/
def execMirrorUncorrectable (s : State) : Answer :=
  ifDue (s.served && !s.power.fatal) (fatal 0) s

/-! ## Function and partition resets -/

/-- A MODEL_LOAD that a reset reaches (R133): no further tile is started, the tiles it programmed are erased,
those it kept are left, and the model is no longer loaded. -/
def retractLoad (m : Model) (s : State) : State :=
  let cmd := m.loading
  let s1 := s.modPre (fun x => { x with models := x.models.filter (fun y => !(y.part == m.part && y.id == m.id)) })
  let mine := s1.waiting.filter (fun a => cmd.isSome && a.cmd == cmd)
  let s2 := { s1 with waiting := s1.waiting.filter (fun a => !(cmd.isSome && a.cmd == cmd)) }
  let s3 := each mine (fun a u => u.modTile a.core a.tile (fun v => { v with job := none })) s2
  let s4 := { s3 with
    tiles := s3.tiles.map (fun e => (e.1, { e.2 with job := match e.2.job with
      | some (.program r model part c) =>
        if c == cmd && part == m.part then some (.program r model part none) else e.2.job
      | j => j })),
    running := s3.running.map (fun a => if cmd.isSome && a.cmd == cmd then { a with cmd := none } else a) }
  each m.fresh (fun i u => askErase (i / 33) (i % 33) u) s4

/-- The loads being performed in a partition. -/
def State.loadsOf (s : State) (p : Nat) : List Model :=
  s.pre.models.filter (fun m => m.part == p && m.loading.isSome)

/-- Whether a command being performed is left to complete: maintenance, programming, memory and observation
work (R317, R379). -/
def staysRunning (c : Cmd) : Bool :=
  c.wait == .running && [0x101, 0x102, 0x602, 0x700, 0x701, 0x702, 0x801, 0x802, 0xA02, 0xA03].contains c.op

/-- Remove a context with what it holds (Table 13.7). -/
def dropCtx (n : Nat) (s : State) : State :=
  let s1 := match (s.ctx? n).bind (·.run) with
    | some r => (cancelRun r stCancelled true s).modFlows (fun f => { f with runs := tdel f.runs r })
    | none => s
  s1.modFlows (fun f => { f with
    ctxs := tdel f.ctxs n, runs := f.runs.filter (fun e => e.2.ctx ≠ n),
    spillLines := f.spillLines.filter (fun e => e.1 ≠ n), spillMem := tdel f.spillMem n,
    pot := f.pot.filter (fun q => q.ctx ≠ n) })

/-- Every context of a partition closes at once without records, kernels and staging go, the Funnel empties
(R317 item 3, R379 items 1 to 3). -/
def clearPart (p : Nat) (s : State) : State :=
  let ns := (s.flows.ctxs.filter (fun e => e.2.part == p)).map (·.1)
  let s1 := suppressPart p (each ns dropCtx s)
  let s2 := s1.modPre (fun x => { x with
    kernels := x.kernels.filter (fun k => k.part ≠ p), sets := tdel x.sets p,
    pending := x.pending.filter (fun q => q.part ≠ p),
    models := x.models.map (fun m => if m.part = p && m.state = 1 then { m with state := 0 } else m) })
  s2.modFunnel p (fun f => { f with
    fifo := [], waiting := [], stallClk := none, snipUsed := 0 })

/-- The slots, buffer and queues of a partition's cores are empty afterwards (Table 13.7). -/
def clearCore (c : Nat) (s : State) : State :=
  let qs := (s.core c).queues.map (·.1)
  (each qs (fun q u => dropQueue c q u) s).modCore c (fun k => { k with
    slots := [], act := [], queues := [], tongs := [], prefetch := [] })

/-- Clear the cores of a partition. -/
def clearCores (p : Nat) (s : State) : State := each (bitsSet (s.partCores p) 32) clearCore s

/-- The commands and the host side of the functions chosen are at reset (R317): intake block, MSI-X table and pending bits,
protocol level and Bus Master Enable. -/
def forgetFns (q : Nat → Bool) (s : State) : State :=
  (s.modPre (fun x => { x with cmds := x.cmds.filter (fun c => !q c.h.fn.val) })).modHost (fun h => { h with
    lanes := h.lanes.filter (fun e => !q (e.1 / 16)), msix := h.msix.filter (fun e => !q (e.1 / 256)),
    pba := h.pba.filter (fun e => !q (e.1 / 64)), holdoffs := h.holdoffs.filter (fun e => !q (e.1 / 64)),
    level := h.level.filter (fun e => !q e.1),
    busMaster := ((upTo 32).filter q).foldl clrBit h.busMaster })

/-- An FLR of a function (R317): its DMA and messages stop, its commands end without a reply, the partition
bound to it is cleared, and its intake block, Funnel registers, MSI-X table and level reset. -/
def flrFn (fn : Nat) (s : State) : State :=
  let part := s.fnPart? fn
  let s1 := match part with
    | some p => each (s.loadsOf p) retractLoad s
    | none => s
  let mineCmd := fun (c : Cmd) => c.h.fn.val == fn
  let s2 := s1.modPre (fun x => { x with cmds := x.cmds.filter (fun c => !mineCmd c) })
  let gone := (s1.pre.cmds.filter mineCmd).map (·.id)
  let s3 := { s2 with waiting := s2.waiting.filter (fun a => !(a.cmd.elim false gone.contains)) }
  let s4 := match part with
    | some p => dropFunnelRegs p (clearCores p ((clearPart p s3).modFunnel p (fun f =>
        { f with outstanding := [], lost := false, writeOff := 0, timelineSeq := 0 })))
    | none => s3
  forgetFns (· == fn) s4

/-- An FLR of the physical function reaches every function and partition, clears VF Enable and discards the
global staging set (R318). -/
def flrAll (s : State) : State :=
  let s1 := each (upTo 32) flrFn s
  let s2 := each s1.partsOn (fun p u => dropFunnelRegs p (clearCores p (clearPart p u))) s1
  forgetFns (fun _ => true)
    ((s2.modPre (fun x => { x with sets := tdel x.sets 8, pending := [] })).modHost (fun h => { h with numVfs := 0 }))

/-- FLR_VF: an FLR of an enabled virtual function (R317). -/
def execFlrVf (vf : Fin 32) (s : State) : Answer :=
  ifDue (s.served && vf.val ≠ 0 && s.fnEnabled vf.val) (flrFn vf.val) s

/-- FLR_PF (R318). -/
def execFlrPf (s : State) : Answer := ifDue s.served flrAll s

/-- PCIE_PERST_N falls: an FLR of the physical function, and the link and configuration space reset (R454). -/
def execPciePerstNAssert (s : State) : Answer :=
  ifDue (s.power.aonOk && s.power.perstN) (fun s =>
    let s1 := if s.served then flrAll s else s
    (s1.modPower (fun p => { p with perstN := false })).modHost (fun h => { h with
      linkUp := false, speed := 0, width := 0, configServed := false, numVfs := 0, busMaster := 0 })) s

/-- PCIE_PERST_N rises: the link trains, and configuration requests are served once READY is 1 (R454). -/
def execPciePerstNRelease (s : State) : Answer :=
  ifDue (s.power.aonOk && !s.power.perstN) (fun s =>
    (s.modPower (fun p => { p with perstN := true })).modHost (fun h => { h with
      linkUp := true, speed := 5, width := 8, configServed := s.power.ready })) s

/-- VF_ENABLE: the host sets the number of enabled virtual functions (R313); one that goes out of existence is
reset as by an FLR. -/
def execVfEnable (n : Fin 32) (s : State) : Answer :=
  ifDue (s.served && s.host.configServed) (fun s =>
    let gone := (upTo 32).filter (fun f => decide (n.val < f) && decide (f ≤ s.host.numVfs))
    forgetFns gone.contains ((each gone flrFn s).modHost (fun h => { h with numVfs := n.val }))) s

/-- BUS_MASTER_ENABLE: the host sets or clears Bus Master Enable of a function (R328). -/
def execBusMasterEnable (fn : Fin 32) (on : Bool) (s : State) : Answer :=
  ifDue (s.served && s.host.configServed && s.fnEnabled fn.val) (fun s =>
    s.modHost (fun h => { h with
      busMaster := if on then setBit h.busMaster fn.val else clrBit h.busMaster fn.val })) s

/-- The verdict of a provisional record again, or a RETRACT with cause 0x04 where its checks were open (R381). -/
def resendVerdict (o : Outstanding) (s : State) : State :=
  let p := o.pkt.part
  match o.verdict with
  | none =>
    let x := retractPins o.pkt.src s
    let s1 := form p (verdictPkt o.pkt 6 [d64 (x.2 + 256 * 4)]) x.1
    setVerdict o.pkt (6 + 256 * 4) (count (partCtr p 20) 1 s1)
  | some v =>
    if v = 5 then form p (verdictPkt o.pkt 5 [0]) s
    else if v % 256 = 6 then
      let fired := maskOf ((upTo 8).filter (fun k => (s.pin k).fired.contains o.pkt.src))
      form p (verdictPkt o.pkt 6 [d64 (fired + 256 * (v / 256))]) s
    else s

/-- The sample rings of a partition's links are rewritten with zeros (R379); the channeliser's own input is not memory. -/
def zeroRings (p : Nat) (s : State) : State :=
  s.modIngest (fun i => { i with rings := i.rings.map (fun (e : Nat × Ring) =>
    if s.linkPart (e.1 / 16384) = p && e.1 / 4096 % 4 ≠ 3 then
      (e.1, { e.2 with data := e.2.data.map (fun (d : Nat × (Int × Int)) => (d.1, ((0, 0) : Int × Int))) })
    else e) })

/-- A partition reset (R379, R381): cause is the fault KIND, region the memory region, fault its record, weightImage whether the
poisoned line lay in the weight-image region. -/
def partitionReset (p cause region fault : Nat) (weightImage : Bool) (s : State) : State :=
  let outs := (s.funnel p).outstanding
  let cancel := s.pre.cmds.filter (fun c => c.h.partition.toNat == p && !staysRunning c)
  let s1 := each (s.loadsOf p) retractLoad s
  let s2 := clearCores p (clearPart p s1)
  let s3 := each cancel (fun c u => finish c.id stCancelled [] u) s2
  let gone := cancel.map (·.id)
  let s4 := { s3 with waiting := s3.waiting.filter (fun a => !(a.cmd.elim false gone.contains)) }
  let s5 := if weightImage then
      { s4 with tiles := s4.tiles.map (fun e =>
        match e.2.owner with
        | some o => if o.1 = p && (e.2.state = .ready || e.2.state = .suspect || e.2.state = .held) then
            (e.1, { e.2 with state := .awaiting, shadow := false }) else e
        | none => e) }
    else s4
  let sent := outs.filter (fun o => o.pkt.prov && o.dests ≠ 0 && decide (o.taken ≠ o.dests))
  let keep := outs.filter (fun o => o.dests ≠ 0)
  let s6 := s5.modFunnel p (fun f => { f with outstanding := keep, timelineSeq := 0 })
  let s7 := each sent resendVerdict s6
  raisePart p noUnit (ev 0x25 2 fault cause region 0 0) (zeroRings p s7)

/-! ## Power states -/

/-- Table 13.6: whether the conditions of a state hold. -/
def State.mayEnter (s : State) (t : Nat) : Bool :=
  let idle := s.flows.ctxs.all (fun e => !e.2.isCmd && e.2.state ≠ 2) && s.running.isEmpty
  let links := (upTo 4).all (fun n => !s.linkOn n)
  let open_ := s.flows.ctxs.isEmpty
  let staged := s.pre.sets.all (fun e => e.2.cmds.isEmpty) && s.pre.pending.isEmpty
  match t with
  | 0 => true
  | 1 => idle
  | 2 => idle && links
  | _ => idle && links && open_ && staged

/-- A request for a power state from the physical function (R401). -/
def requestState (fn t : Nat) (s : State) : State :=
  if fn ≠ 0 then s
  else
    let s1 := s.setRegf 0xE00 0 2 t
    if s.mayEnter t then
      s1.modPower (fun p => { p with refused := false, transition := if p.state = t then none else some t })
    else s1.modPower (fun p => { p with refused := true })

/-- POWER_TARGET_ACTIVE: a write of TARGET 0 (R401). -/
def execPowerTargetActive (fn : Fin 32) (s : State) : Answer := ifDue s.served (requestState fn.val 0) s

/-- POWER_TARGET_IDLE: a write of TARGET 1 (R401). -/
def execPowerTargetIdle (fn : Fin 32) (s : State) : Answer := ifDue s.served (requestState fn.val 1) s

/-- POWER_TARGET_ARRAY_RETAIN: a write of TARGET 2 (R401). -/
def execPowerTargetArrayRetain (fn : Fin 32) (s : State) : Answer := ifDue s.served (requestState fn.val 2) s

/-- POWER_TARGET_STANDBY: a write of TARGET 3 (R401). -/
def execPowerTargetStandby (fn : Fin 32) (s : State) : Answer := ifDue s.served (requestState fn.val 3) s

/-- Quiesce a core (R404): the windows with a part on it yield CANCELLED records, and its buffers are
cleared. -/
def quiesceCore (c : Nat) (s : State) : State :=
  if s.quiesced c then s
  else
    let s1 := (s.modCoreState c (fun v => setBit v 2)).setRegf 0xE10 c 1 1
    let rs := s1.liveRuns.filter (fun r => (s1.run? r).elim false (fun v => v.kernel.parts.any (·.core == c)))
    clearCore c (each rs (fun r t => cancelRun r stCancelled false t) s1)

/-- Return a core to service (R404). -/
def unquiesceCore (c : Nat) (s : State) : State :=
  (s.modCoreState c (fun v => clrBit v 2)).setRegf 0xE10 c 1 0

/-- CORE_QUIESCE: from the physical function only (R419). -/
def execCoreQuiesce (fn core : Fin 32) (s : State) : Answer :=
  ifDue (s.served && fn.val == 0) (quiesceCore core.val) s

/-- CORE_UNQUIESCE. -/
def execCoreUnquiesce (fn core : Fin 32) (s : State) : Answer :=
  ifDue (s.served && fn.val == 0) (unquiesceCore core.val) s

/-! ## Power and temperature -/

/-- STEP_MAX. -/
def State.stepMax (s : State) : Nat := s.regf 0xE00 2 3

/-- Set the clock step; a Suspect core at step 7 runs with the clock margin, else as CORE_MARGIN names
(R407). -/
def setStep (n : Nat) (s : State) : State :=
  let s1 := s.modPower (fun p => { p with step := n })
  { s1 with cores := s1.cores.map (fun e =>
      if bitN (s1.coreState e.1) 0 then (e.1, { e.2 with marginClock := s1.regf 0xD04 12 1 == 1 || n == 7 })
      else e) }

/-- POWER_LIMIT in 10 mW. -/
def State.powerLimit (s : State) : Nat := 100 * s.regf 0xE00 8 6

/-- The slow loop (R408): a step down for each measurement above POWER_LIMIT, POWER_THROTTLE at the first of an
episode; a step up after 100 measurements below POWER_LIMIT - 3 W. An episode ends at STEP_MAX (log 19). -/
def powerMeasure (v : Nat) (s : State) : State :=
  let s1 := s.modPower (fun p => { p with pkgPower := v, limiter := false })
  if s1.powerLimit < v then
    let s2 := s1.modPower (fun p => { p with coolPower := 0 })
    if s2.power.step = 0 then s2
    else
      let s3 := setStep (s2.power.step - 1) s2
      if s3.power.throttlePower then s3
      else raiseDev noUnit (ev 0x44 1 noFault s3.power.step v 0 0)
        (s3.modPower (fun p => { p with throttlePower := true }))
  else if v + 300 < s1.powerLimit then
    if s1.power.coolPower + 1 < 100 then s1.modPower (fun p => { p with coolPower := p.coolPower + 1 })
    else
      let s2 := s1.modPower (fun p => { p with coolPower := 0 })
      let s3 := if s2.power.step < s2.stepMax && !s2.power.reduced && !s2.power.throttleTherm then
          setStep (s2.power.step + 1) s2 else s2
      if s3.stepMax ≤ s3.power.step then s3.modPower (fun p => { p with throttlePower := false }) else s3
  else s1.modPower (fun p => { p with coolPower := 0 })

/-- POWER_MEASURE. -/
def execPowerMeasure (tenMilliwatt : BitVec 16) (s : State) : Answer :=
  ifDue s.served (powerMeasure tenMilliwatt.toNat) s

/-- FAST_LIMITER: the on-die estimate exceeds 60 W, and core cycles are swallowed until the next
measurement (R408). -/
def execFastLimiter (tenMilliwatt : BitVec 16) (s : State) : Answer :=
  ifDue (s.served && decide (6000 < tenMilliwatt.toNat)) (fun s => s.modPower (fun p => { p with limiter := true })) s

/-- Tj_max of the grade in 0.1 °C (R409). -/
def State.tjMax (s : State) : Int := if s.gradeE then 1050 else 950

/-- Tj_min of the grade in 0.1 °C (R409). -/
def State.tjMin (s : State) : Int := if s.gradeE then -200 else 0

/-- Tj at or above the limit or the throttle point, or below both (R409). -/
def thermalStep (tj : Int) (s : State) : State :=
  if s.tjMax ≤ tj then
    let s1 := setStep 0 s
    let s2 := s1.modPower (fun p => { p with reduced := true, throttleTherm := true, coolTherm := 0 })
    if s.power.reduced then s2 else raiseDev noUnit (ev 0x46 2 noFault (field 32 tj) 0 0 0) s2
  else if s.tjMax - 50 ≤ tj then
    let s1 := setStep (s.power.step - 1) s
    let s2 := s1.modPower (fun p => { p with throttleTherm := true, coolTherm := 0 })
    if s.power.throttleTherm then s2
    else raiseDev noUnit (ev 0x45 1 noFault s2.power.step (field 32 tj) 0 0) s2
  else
    let cool := if tj < s.tjMax - 100 then s.power.coolTherm + 1 else 0
    let ends := decide (100 ≤ cool)
    s.modPower (fun p => { p with
      coolTherm := if ends then 0 else cool, reduced := p.reduced && !ends,
      throttleTherm := p.reduced && !ends })

/-- A temperature sample (R409): TJ_NOW, TJ_PEAK, trip, set point, step and the events of each. -/
def thermalSample (tj : Int) (s : State) : State :=
  let s1 := s.modPower (fun p => { p with tjNow := tj, tjPeak := max p.tjPeak tj })
  if s.tjMax + 100 ≤ tj && s.crock.recovered then
    (haltWith 1 (s1.modCrock (fun k => { k with save := none }))).modPower (fun p => { p with thermTrip := true })
  else if !s1.power.ready then s1
  else
    let s2 := thermalStep tj s1
    let low := decide (tj < s.tjMin)
    let s3 := s2.modPower (fun p => { p with low := low })
    if low && !s.power.low then raiseDev noUnit (ev 0x47 1 noFault (field 32 tj) 0 0 0) s3 else s3

/-- THERMAL_SAMPLE. -/
def execThermalSample (tj : BitVec 16) (s : State) : Answer :=
  ifDue (s.power.aonOk && !s.power.halted && s.power.state ≠ 3) (thermalSample tj.toInt) s

end Sys2Proof.Machine
end

