-- ==== Sys2Proof/Machine/Ingest.lean ====
section
/-! DEFINITION. Sample ingest: links (R215 to R219), streams, channeliser and decimators (R220 to R224), sample
rings (R225 to R227) and the window former (R228 to R231). -/

namespace Sys2Proof.Machine

/-! ## Streams -/

/-- The number of a stream: link, kind (Table 8.4; 3 is the channeliser's input) and index. -/
def streamNo (n kind index : Nat) : Nat := 16384 * n + 4096 * kind + index

/-- The link of a stream. -/
def streamLink (st : Nat) : Nat := st / 16384

/-- The kind of a stream. -/
def streamKind (st : Nat) : Nat := st / 4096 % 4

/-- The index of a stream. -/
def streamIndex (st : Nat) : Nat := st % 4096

/-- Word i of a link's channeliser block (Table 8.2). -/
def State.chanWord (s : State) (n i : Nat) : Word := (s.link n).chan.getD i 0

/-- Whether a link's channeliser is in use. -/
def State.chanOn (s : State) (n : Nat) : Bool := bit (s.chanWord n 0) 0

/-- K. -/
def chanK (w : Word) : Nat := 2 ^ bits w 1 4

/-- D. -/
def chanD (w : Word) : Nat := if bit w 5 then chanK w / 2 else chanK w

/-- P = T × K. -/
def chanP (w : Word) : Nat := (bits w 11 5 + 1) * chanK w

/-- Whether a channel is selected. -/
def mapBit (m : List Word) (c : Nat) : Bool := bit (m.getD (c / 32) 0) (c % 32)

/-- The selected channels of a map of K bits. -/
def mapBits (m : List Word) (k : Nat) : List Nat := (upTo k).filter (mapBit m)

/-- Word i of a decimator block (Table 8.3). -/
def State.decWord (s : State) (d i : Nat) : Word := (tget s.ingest.decs d []).getD i 0

/-- Whether a decimator is in use on a link. -/
def State.decOn (s : State) (n d : Nat) : Bool := bit (s.decWord d 0) 0 && bits (s.decWord d 0) 1 2 == n

/-- The factor of a decimator. -/
def decFactor (w : Word) : Nat := 2 ^ bits w 8 4

/-- The streams a link has from its converters. -/
def State.linkStreams (s : State) (n : Nat) : Nat := if s.linkIq n then s.linkM n / 2 else s.linkM n

/-- Whether a stream's samples are I/Q. -/
def State.streamIq (s : State) (st : Nat) : Bool := streamKind st ≠ 0 || s.linkIq (streamLink st)

/-- Bytes per sample of a stream (R225). -/
def State.streamBytes (s : State) (st : Nat) : Nat :=
  if streamKind st = 0 then
    (if s.linkNp (streamLink st) = 16 then 2 else 1) * (if s.linkIq (streamLink st) then 2 else 1)
  else 4

/-- The input samples of the link per sample of a stream. -/
def State.streamD (s : State) (st : Nat) : Nat :=
  match streamKind st with
  | 1 => decFactor (s.decWord (streamIndex st) 0)
  | 2 => chanD (s.chanWord (streamLink st) 0)
  | _ => 1

/-- The streams of a link that are written (R225). -/
def State.written (s : State) (n : Nat) : List Nat :=
  let direct := (bitsSet (s.linkf n 0xC 0 32) 32).filter (fun k => decide (k < s.linkStreams n))
  direct.map (streamNo n 0) ++ ((upTo 8).filter (s.decOn n)).map (streamNo n 1) ++
  (if s.chanOn n then
    (mapBits (s.link n).chanMap (chanK (s.chanWord n 0))).map (streamNo n 2)
   else [])

/-- A stream's write rate in units of the link's sample rate: bytes over D. -/
def State.streamRate (s : State) (st : Nat) : Frac := fDiv (s.streamBytes st : Nat) (s.streamD st)

/-- A link's total write rate in units of its sample rate. -/
def State.linkWrite (s : State) (n : Nat) : Frac :=
  (s.written n).foldl (fun a st => a.plus (s.streamRate st)) (fInt 0)

/-- The write rate of all enabled links in MB/s (R225). -/
def State.totalWrite (s : State) : Frac :=
  ((upTo 4).filter s.linkOn).foldl (fun a n =>
    a.plus ((s.linkWrite n).times (fDiv (s.linkRateNum n : Nat) (s.linkRateDen n)))) (fInt 0)

/-- Whether the write rate stays within 63 GB/s (R225). -/
def State.rateOk (s : State) : Bool := s.totalWrite.le (fInt 63000)

/-- RING_SIZE in bytes. -/
def State.ringBytes (s : State) (n : Nat) : Nat := 67108864 * 2 ^ s.linkf n 0x14 0 3

/-- The capacity of a stream's sub-ring in samples (R226). -/
def State.ringCap (s : State) (st : Nat) : Nat :=
  let n := streamLink st
  let share := (fInt (s.ringBytes n : Nat)).times (s.streamRate st)
  let total := s.linkWrite n
  let bytes := (share.n * total.d / max (share.d * total.n) 1).toNat / 4096 * 4096
  bytes / s.streamBytes st

/-- The stamp of a stream's sample in 1/256 tick (R224, R234). -/
def State.streamStamp (s : State) (st m : Nat) : Int :=
  let n := streamLink st
  match streamKind st with
  | 2 =>
    let w := s.chanWord n 0
    s.stamp256 n (2 * (m * chanD w : Nat) + (chanP w : Nat) - 1)
  | 1 =>
    let w := s.decWord (streamIndex st) 0
    s.stamp256 n (2 * (m * decFactor w + Config.decimatorDelay (bits w 8 4) : Nat))
  | _ => s.stamp256 n (2 * m : Nat)

/-! ## Ring division (R226) -/

/-- An empty sub-ring. -/
def Ring.empty (cap : Nat) : Ring := { cap := cap, next := 0, data := [], lost := [], bad := [], ovr := [] }

/-- A sub-ring. -/
def State.ring (s : State) (st : Nat) : Ring := tget s.ingest.rings st (Ring.empty 0)

/-- Put a sub-ring. -/
def State.setRing (s : State) (st : Nat) (r : Ring) : State :=
  s.modIngest (fun i => { i with rings := tset i.rings st r })

/-- The division of a link's ring as it should stand: streams and capacities. -/
def State.ringPlan (s : State) (n : Nat) : List (Nat × Nat) := (s.written n).map (fun st => (st, s.ringCap st))

/-- The division as it stands. -/
def State.ringNow (s : State) (n : Nat) : List (Nat × Nat) :=
  (s.ingest.rings.filter (fun e => streamLink e.1 == n && decide (streamKind e.1 < 3))).map (fun e => (e.1, e.2.cap))

/-- The flows with a window, ready or being read, on streams that satisfy a test. -/
def State.flowsOn (s : State) (p : Nat → Bool) : List Nat :=
  (s.flows.ctxs.filter (fun e => !e.2.isCmd && (e.2.ready.any (fun w => p w.stream) ||
    (e.2.run.bind s.run?).elim false (fun r => r.window.elim false (fun w => p w.stream))))).map (·.1)

/-- Drop the unread window in progress of a flow, if it satisfies a test, with a gap cause. -/
def dropCurrent (n cause : Nat) (p : Window → Bool) (s : State) : State :=
  match (s.ctx? n).bind (·.run) with
  | some rid =>
    match s.run? rid with
    | some r =>
      if !r.consumed && !r.abandoned && r.window.elim false p then
        let st := r.window.elim 0 (·.stream)
        dropRun rid cause (if cause = 1 then count (linkCtr (streamLink st) 4) 1 s else s)
      else s
    | none => s
  | none => s

/-- Drop the unread windows of a flow that satisfy a test, in progress or ready, with a gap cause. -/
def dropWindows (n cause : Nat) (p : Window → Bool) (s0 : State) : State :=
  let s := dropCurrent n cause p s0
  match s.ctx? n with
  | some c =>
    let bad := c.ready.filter p
    let s1 := s.setCtx n { c with ready := c.ready.filter (fun w => !p w) }
    each bad (fun w t =>
      formGap n w cause (if cause = 1 then count (linkCtr (streamLink w.stream) 4) 1 t else t)) s1
  | none => s

/-! ## Bringing links up (R216, R217) -/

/-- Whether an enabled link's parameters, lanes and rate let it come up (R216, R225). -/
def State.linkOk (s : State) (n : Nat) : Bool :=
  s.linkLegal n && (s.linkLanes n).all (fun l => !s.laneRetired l) &&
  ((upTo 4).filter (fun m => m ≠ n && s.linkOn m)).all (fun m =>
    (s.linkLanes m).all (fun l => !(s.linkLanes n).contains l)) && s.rateOk

/-- A link goes to Fault with INGEST_CONFIG (R216). -/
def linkBad (n : Nat) (s : State) : State :=
  raiseDev noUnit (ev 0x10 2 noFault n 0 0 0) (linkFault n s)

/-- A Locking link all of whose lanes hold lock comes up while the timebase runs (R217, R233). -/
def tryUp (n : Nat) (s : State) : State :=
  let l := s.link n
  if l.state = 1 && s.tbRunning && (s.linkLanes n).all (fun k => bitN l.laneLock k) then
    if s.linkOk n then s.modLink n (fun l => { l with state := 2 }) else linkBad n s
  else s

/-- A link is enabled at a commit tick: it starts to lock, or goes to Fault (R216). -/
def enableLink (n : Nat) (s : State) : State :=
  let s1 := s.modLink n (fun l => { l with
    state := 1, laneLock := 0,
    disabledAt := l.disabledAt.map (fun e => if e.2.isNone then (e.1, some s.tick) else e) })
  if s1.linkOk n then s1 else linkBad n s1

/-! ## The window former (R228 to R231) -/

/-- WIN_LEN and HOP of a window block. -/
def winLen (w : List Word) : Nat := bits (w.getD 1 0) 0 16

/-- HOP. -/
def winHop (w : List Word) : Nat := bits (w.getD 1 0) 16 16

/-- The stream a window block names. -/
def winStream (w : List Word) : Nat :=
  streamNo (bits (w.getD 0 0) 0 2) (bits (w.getD 0 0) 2 2) (bits (w.getD 0 0) 4 12)

/-- START_TICK. -/
def winStart (w : List Word) : Nat := (w.getD 3 0).toNat + 2 ^ 32 * (w.getD 4 0).toNat

/-- Whether two blocks keep one grid: LINK, KIND, INDEX, HOP and START_TICK agree (R229). -/
def sameGrid (a b : List Word) : Bool :=
  winStream a == winStream b && winHop a == winHop b && winStart a == winStart b

/-- The smallest m from a guess upwards whose stamp reaches a tick. -/
def firstReach (s : State) (st : Nat) (goal : Int) (fuel m : Nat) : Nat :=
  match fuel with
  | 0 => m
  | k + 1 => if goal ≤ s.streamStamp st m then m else firstReach s st goal k (m + 1)

/-- The first sample of a stream whose stamp is at least a tick (R229): a division to within a few samples,
then the exact stamps. -/
def State.gridOrigin (s : State) (st tick : Nat) : Nat :=
  let goal : Int := (tick : Int) * 256
  let s0 := s.streamStamp st 0
  let step := s.streamStamp st 1048576 - s0
  if goal ≤ s0 || step ≤ 0 then 0
  else
    let g := ((goal - s0) * 1048576 / step).toNat
    firstReach s st goal 16 (g - 8)

/-- A binding with its origin settled, which needs a Running timebase. -/
def settleOrigin (s : State) (b : Binding) : Binding :=
  match b.origin with
  | some _ => b
  | none => if s.tbRunning then { b with origin := some (s.gridOrigin (winStream b.window) b.gridTick) } else b

/-- Window j of those a binding holds, not yet judged. -/
def gridWindow (s : State) (b : Binding) (j : Nat) : Option Window :=
  match b.origin with
  | none => none
  | some o =>
    let st := winStream b.window
    let start := o + winHop b.window * j
    let len := winLen b.window
    let a := s.streamStamp st start
    let z := s.streamStamp st (start + len - 1)
    some { k := (b.firstK + j) % 2 ^ 64, kernel := b.kernel, sched := b.sched, first256 := a.toNat, last256 := z.toNat,
           stream := st, start := start, len := len, padLead := bits (b.window.getD 2 0) 0 16,
           padTo := bits (b.window.getD 2 0) 16 16, iq := s.streamIq st, marks := [], readyClk := s.clk }

/-- Whether some sample of a window was never received: passed over, or the link is not up (R231). -/
def State.neverCame (s : State) (w : Window) : Bool :=
  let r := s.ring w.stream
  r.lost.any (fun g => decide (g.1 < w.start + w.len) && decide (w.start < g.2)) ||
  (decide (r.next < w.start + w.len) && (s.link (streamLink w.stream)).state ≠ 2)

/-- Whether every sample of a window has been written. -/
def State.allWritten (s : State) (w : Window) : Bool := decide (w.start + w.len ≤ (s.ring w.stream).next)

/-- Whether every sample of a window stands in the ring. -/
def State.allHeld (s : State) (w : Window) : Bool :=
  match (s.ring w.stream).data with
  | [] => false
  | (a, _) :: _ => decide (a ≤ w.start) && s.allWritten w

/-- Whether a link was disabled at any tick of a window (R231). -/
def State.disabledIn (s : State) (w : Window) : Bool :=
  (s.link (streamLink w.stream)).disabledAt.any (fun e =>
    decide (e.1 * 256 ≤ w.last256) && e.2.elim true (fun z => decide (w.first256 < z * 256)))

/-- The marks of a window from its samples (R219, R221). -/
def State.ingestMarks (s : State) (w : Window) : List Nat :=
  let r := s.ring w.stream
  let hit := fun (l : List Nat) => l.any (fun i => decide (w.start ≤ i) && decide (i < w.start + w.len))
  (if hit r.bad then [2] else []) ++ (if hit r.ovr then [3] else [])

/-- MAX_READY of a scheduling block. -/
def maxReady (sched : List Word) : Nat := bits (sched.getD 1 0) 0 4

/-- Ready windows stand in the order of their first ticks (R259). -/
def insertWindow (w : Window) (l : List Window) : List Window :=
  match l with
  | [] => [w]
  | x :: r => if w.first256 < x.first256 then w :: x :: r else x :: insertWindow w r

/-- A window is offered to the time slicer; past MAX_READY the oldest is dropped (R229, R266). -/
def offer (n : Nat) (w : Window) (s : State) : State :=
  match s.ctx? n with
  | some c =>
    let w1 := { w with marks := s.ingestMarks w }
    let s := count (partCtr c.part 0) 1 s
    if maxReady w.sched ≤ c.ready.length then
      match c.ready with
      | old :: rest => slicerDrop n old 9 (s.setCtx n { c with ready := insertWindow w1 rest })
      | [] => s
    else s.setCtx n { c with ready := insertWindow w1 c.ready }
  | none => s

/-- The next window of each binding with the binding's place; a later binding takes the windows whose first tick reaches
its commit tick (R229, R252). -/
def nextWindows (s : State) (i : Nat) (bs : List Binding) : List (Nat × Window) :=
  match bs with
  | [] => []
  | b :: rest =>
    (match gridWindow s b b.formed with
     | some w => if rest.head?.elim false (fun x => decide (x.since * 256 ≤ w.first256)) then [] else [(i, w)]
     | none => []) ++ nextWindows s (i + 1) rest

/-- Bindings without those all of whose windows have been formed. -/
def pruneBindings (s : State) (bs : List Binding) : List Binding :=
  match bs with
  | b :: b1 :: rest =>
    let l := pruneBindings s (b1 :: rest)
    if (gridWindow s b b.formed).elim false (fun w => decide (b1.since * 256 ≤ w.first256)) then l else b :: l
  | l => l

/-- What the former would do with a binding's next window: nothing yet, offer it, or drop it. -/
inductive NextWin where
  | wait
  | offer (i : Nat) (w : Window)
  | drop (i : Nat) (w : Window) (cause : Nat)

/-- The verdict on a window of binding i (R229 to R231). -/
def judgeWin (s : State) (x : Nat × Window) : NextWin :=
  let w := x.2
  if s.neverCame w then
    if w.last256 < 256 * s.tick then .drop x.1 w (if s.disabledIn w then 3 else 2) else .wait
  else if s.allWritten w then (if s.allHeld w then .offer x.1 w else .drop x.1 w 1)
  else .wait

/-- A verdict that is not to wait. -/
def NextWin.settled (v : NextWin) : Bool :=
  match v with
  | .wait => false
  | _ => true

/-- A context with its origins settled and its grids followed; NEXT_WINDOW names the next window of the earliest
binding. -/
def followGrids (s : State) (c : Ctx) : Ctx :=
  let bs := pruneBindings s (c.bindings.map (settleOrigin s))
  { c with bindings := bs, nextWindow := bs.head?.elim c.nextWindow (fun b => (b.firstK + b.formed) % 2 ^ 64) }

/-- The windows a flow may form next: of a Bound flow, or of one draining before its closing tick (R250, R253). -/
def State.openWindows (s : State) (c : Ctx) : List (Nat × Window) :=
  if c.isCmd || !(c.state == 2 || c.state == 3) then []
  else (nextWindows s 0 c.bindings).filter (fun x =>
    c.closing.elim true (fun z => z.drain && decide (x.2.first256 < z.tick * 256)))

/-- A flow's context with its grids followed, and the verdict on its next windows: the first that need not wait. -/
def nextWin (n : Nat) (s : State) : State × NextWin :=
  match s.ctx? n with
  | some c =>
    let c1 := followGrids s c
    let s1 := s.setCtx n c1
    if c.isCmd || !(c.state == 2 || c.state == 3) then (s, .wait)
    else (s1, (((s1.openWindows c1).map (judgeWin s1)).find? (·.settled)).getD .wait)
  | none => (s, .wait)

/-- Count a flow past the next window of binding i. -/
def passWindow (n i : Nat) (s : State) : State :=
  s.modCtx n (fun c => followGrids s { c with
    bindings := c.bindings.modify i (fun b => { b with formed := b.formed + 1 }) })

/-- Drop a window the former has decided on (R227, R231). -/
def dropFormed (n : Nat) (w : Window) (cause : Nat) (s : State) : State :=
  formGap n w cause (if cause = 1 then count (linkCtr (streamLink w.stream) 4) 1 s else s)

/-- Form windows of a flow while the next one is decided. -/
def formWindows (fuel n : Nat) (s : State) : State :=
  match fuel with
  | 0 => s
  | k + 1 =>
    match nextWin n s with
    | (s1, .wait) => s1
    | (s1, .offer i w) => formWindows k n (passWindow n i (offer n w s1))
    | (s1, .drop i w c) => formWindows k n (passWindow n i (dropFormed n w c s1))

/-- The flows that take windows from a link. -/
def State.linkFlows (s : State) (l : Nat) : List Nat :=
  (s.flows.ctxs.filter (fun e => !e.2.isCmd &&
    e.2.bindings.any (fun b => bits (b.window.getD 0 0) 0 2 == l))).map (·.1)

/-- Offer the windows of every flow of a link. -/
def formLink (fuel l : Nat) (s : State) : State := each (s.linkFlows l) (formWindows fuel) s

/-- LINK_DOWN_DROP: the tick has passed the last tick of a window of the flow's grid that lacks a sample
(R231). -/
def execLinkDownDrop (flow : Fin 16384) (s : State) : Answer :=
  match nextWin flow.val s with
  | (_, .drop _ _ _) => ifDue (s.served && !s.power.refclkLost) (formWindows 64 flow.val) s
  | _ => .next s

/-- The windows that have begun and are not ready are dropped with a gap cause (R226, R235). -/
def dropBegun (cause fuel n : Nat) (s : State) : State :=
  match fuel with
  | 0 => s
  | k + 1 =>
    match nextWin n s with
    | (s1, .wait) =>
      match ((s1.ctx? n).elim [] s1.openWindows).find? (fun x => decide (x.2.first256 ≤ 256 * s1.tick)) with
      | some x => dropBegun cause k n (passWindow n x.1 (formGap n x.2 cause s1))
      | none => s1
    | (s1, .offer i w) => dropBegun cause k n (passWindow n i (formGap n w cause s1))
    | (s1, .drop i w _) => dropBegun cause k n (passWindow n i (formGap n w cause s1))

/-- The windows of a flow on link l whose last tick has passed and that still lack a sample of an Up link are dropped with
LINK_DISABLED when it is disabled (R231). -/
def dropIncomplete (l fuel n : Nat) (s : State) : State :=
  match fuel with
  | 0 => s
  | k + 1 =>
    match nextWin n s with
    | (s1, .wait) =>
      match ((s1.ctx? n).elim [] s1.openWindows).find? (fun x =>
          streamLink x.2.stream == l && decide (x.2.last256 < 256 * s1.tick)) with
      | some x => dropIncomplete l k n (passWindow n x.1 (formGap n x.2 3 s1))
      | none => s1
    | (s1, .offer i w) => dropIncomplete l k n (passWindow n i (offer n w s1))
    | (s1, .drop i w c) => dropIncomplete l k n (passWindow n i (dropFormed n w c s1))

/-- A link is disabled at a commit tick (R231). -/
def disableLink (n : Nat) (s : State) : State :=
  let s1 := if (s.link n).state = 2 && s.tbRunning then each (s.linkFlows n) (dropIncomplete n 64) s else s
  s1.modLink n (fun l => { l with state := 0, laneLock := 0, disabledAt := l.disabledAt ++ [(s1.tick, none)] })

/-! ## A fresh division (R226) -/

/-- Divide a link's ring afresh where its written streams or their rates have changed: every unread window of
the link is dropped, those that have begun among them (R226, log 20). -/
def redivide (n : Nat) (s : State) : State :=
  if s.ringPlan n = s.ringNow n then s
  else
    let on := fun st => streamLink st == n
    let s1 := each (s.flowsOn on) (fun f t => dropWindows f 5 (fun w => on w.stream) t) s
    let s2 := if s1.tbRunning then each (s1.linkFlows n) (dropBegun 5 64) s1 else s1
    let s3 := s2.modIngest (fun i => { i with rings := i.rings.filter (fun e => !(on e.1)) })
    each (s3.ringPlan n) (fun e t => t.setRing e.1 (Ring.empty e.2)) s3

/-- A binding whose grid begins again at or after a tick, its numbers going on (log 20). -/
def Binding.again (b : Binding) (tick : Nat) : Binding :=
  { b with origin := none, firstK := b.firstK + b.formed, formed := 0, gridTick := max b.gridTick tick }

/-- Only the latest binding of a context, its grid begun again. -/
def Ctx.again (c : Ctx) (tick : Nat) : Ctx :=
  { c with bindings := (c.bindings.drop (c.bindings.length - 1)).map (fun b => b.again tick) }

/-- Where a change gives a bound stream other stamps, the grid begins again with later ones (log 20). -/
def regrid (before s : State) : State :=
  let same := fun (st : Nat) => before.streamStamp st 0 == s.streamStamp st 0 &&
    before.streamStamp st 1048576 == s.streamStamp st 1048576
  s.modFlows (fun f => { f with ctxs := f.ctxs.map (fun e =>
    if e.2.bindings.getLast?.elim true (fun b => same (winStream b.window)) then e else (e.1, e.2.again s.tick)) })

/-! ## The ring writer (R227) -/

/-- Forget what is below an index. -/
def Ring.trim (r : Ring) (low : Nat) : Ring :=
  { r with lost := r.lost.filter (fun g => decide (low < g.2)), bad := r.bad.filter (fun i => decide (low ≤ i)),
           ovr := r.ovr.filter (fun i => decide (low ≤ i)) }

/-- The windows that held an overwritten sample and are not consumed are dropped with RING_OVERRUN. -/
def overrun (st i : Nat) (s : State) : State :=
  let hit := fun (w : Window) => w.stream == st && decide (w.start ≤ i) && decide (i < w.start + w.len)
  each (s.flowsOn (fun x => x == st)) (fun n t => dropWindows n 1 hit t) s

/-- Write one sample of a stream; indices passed over were never received. -/
def writeSample (st i : Nat) (v : Int × Int) (bad ovr : Bool) (s : State) : State :=
  let r := s.ring st
  let r1 := { r with
    data := r.data ++ [(i, v)], next := i + 1, lost := if r.next < i then r.lost ++ [(r.next, i)] else r.lost,
    bad := if bad then r.bad ++ [i] else r.bad, ovr := if ovr then r.ovr ++ [i] else r.ovr }
  match r1.data with
  | (e, _) :: rest =>
    if r.cap < r1.data.length then
      overrun st e (s.setRing st { (r1.trim (e + 1)) with data := rest })
    else s.setRing st r1
  | [] => s

/-- Saturate to INT16; whether it did. -/
def sat16 (v : Int) : Int × Nat := (clampI v (-32768) 32767, b2n (decide (v < -32768 ∨ 32767 < v)))

/-- The samples of a ring at n indices from a start, if all stand there. -/
def Ring.span (r : Ring) (start n : Nat) : Option (List (Int × Int)) :=
  let l := (r.data.filter (fun e => decide (start ≤ e.1) && decide (e.1 < start + n))).map (·.2)
  if l.length = n then some l else none

/-- Whether a marked index lies in a span. -/
def inSpan (l : List Nat) (start n : Nat) : Bool := l.any (fun i => decide (start ≤ i) && decide (i < start + n))

/-- The channeliser takes one input sample of its stream; where it completes an output, every selected
channel is formed, stamped by its index and written (R222). -/
def channelise (n k : Nat) (v : Int × Int) (bad ovr : Bool) (s : State) : State :=
  let w := s.chanWord n 0
  let p := chanP w
  let d := chanD w
  let key := streamNo n 3 0
  let s0 := s.setRing key { s.ring key with cap := p }
  let r := s0.ring key
  let gapped := if r.next < k then Ring.empty p else r
  let r1 := { gapped with
    data := (gapped.data ++ [(k, v)]).drop ((gapped.data.length + 1) - p), next := k + 1,
    bad := if bad then gapped.bad ++ [k] else gapped.bad,
    ovr := if ovr then gapped.ovr ++ [k] else gapped.ovr }.trim (k + 1 - p)
  let s1 := s0.setRing key r1
  if k + 1 < p || (k + 1 - p) % d ≠ 0 then s1
  else
    let start := k + 1 - p
    match r1.span start p with
    | none => s1
    | some xs =>
      let words := (s1.link n).chan.map (·.toNat) ++
        (upTo p).map (fun i => field 16 (tget s1.ingest.coefs (bits (s1.chanWord n 1) 0 17 + i) 0))
      each (mapBits (s1.link n).chanMap (chanK w)) (fun c t =>
        let y := Config.channelOut words c xs
        let a := sat16 y.1
        let b := sat16 y.2
        writeSample (streamNo n 2 c) (start / d) (a.1, b.1) (inSpan r1.bad start p) (inSpan r1.ovr start p)
          (count (linkCtr n 3) (a.2 + b.2) t)) s1

/-- A decimator takes one input sample; where it completes an output of whose span no sample is missing, that is formed and
written with the marks of its span (R219, R221, R223, R224). -/
def decimate (n d k : Nat) (bad ovr : Bool) (s0 : State) : State :=
  let w := s0.decWord d 0
  let f := decFactor w
  let span := 2 * Config.decimatorDelay (bits w 8 4)
  let key := streamNo n 3 (1 + d)
  let r := s0.ring key
  let r1 := ({ r with
    next := k + 1, lost := if r.next < k then r.lost ++ [(r.next, k)] else r.lost,
    bad := if bad then r.bad ++ [k] else r.bad, ovr := if ovr then r.ovr ++ [k] else r.ovr } : Ring).trim (k - span)
  let s := s0.setRing key r1
  if k < span || (k - span) % f ≠ 0 || !r1.lost.isEmpty then s
  else
    let y := Config.decimatorOut ((tget s.ingest.decs d []).map (·.toNat)) s.draw
    let a := sat16 y.1
    let b := sat16 y.2
    writeSample (streamNo n 1 d) ((k - span) / f) (a.1, b.1) (!r1.bad.isEmpty) (!r1.ovr.isEmpty)
      (count (decCtr d) (a.2 + b.2) s.nextDraw)

/-- The value of a sample's field (R220): its N most significant bits, sign-extended. -/
def sampleValue (nn np v : Nat) : Int := sx nn (bitsN v (np - nn) nn)

/-- One sample of every converter of a link, sample index k (R220 to R223, R225). -/
def takeFrame (n k : Nat) (bad : Bool) (frame : List (BitVec 16 × BitVec 3)) (s : State) : State :=
  let nn := s.linkN n
  let np := s.linkNp n
  let cs := s.linkCs n
  let useOvr := s.linkf n 0 12 1 == 1 && decide (1 ≤ cs)
  let val := fun (i : Nat) => sampleValue nn np (frame.getD i (0, 0)).1.toNat
  let ovr := fun (i : Nat) => useOvr && bitN (frame.getD i (0, 0)).2.toNat (cs - 1)
  let flagged := ((upTo (s.linkM n)).filter ovr).length
  let s1 := count (linkCtr n 2) flagged s
  each (upTo (s.linkStreams n)) (fun i t =>
    let v := if t.linkIq n then (val (2 * i), val (2 * i + 1)) else (val i, 0)
    let o := if t.linkIq n then ovr (2 * i) || ovr (2 * i + 1) else ovr i
    let t1 := if bitN (t.linkf n 0xC 0 32) i then writeSample (streamNo n 0 i) k v bad o t else t
    let t2 := if t1.chanOn n && bits (t1.chanWord n 0) 6 5 == i then channelise n k v bad o t1 else t1
    each ((upTo 8).filter (fun d => t2.decOn n d && bits (t2.decWord d 0) 3 5 == i))
      (fun d u => decimate n d k bad o u) t2) s1

/-- The frames of a multiblock, rising sample index. -/
def takeFrames (n k : Nat) (bad : Bool) (frames : List (List (BitVec 16 × BitVec 3))) (s : State) : State :=
  match frames with
  | [] => s
  | f :: r => takeFrames n (k + 1) bad r (takeFrame n k bad f s)

/-- The samples of a multiblock arrive on a link (R219, R220, R227, R229). -/
def sampleArrival (n k0 : Nat) (crcBad : BitVec 16) (frames : List (List (BitVec 16 × BitVec 3))) (s : State) :
    State :=
  let badLanes := (s.linkLanes n).filter (fun l => crcBad.getLsbD l)
  let s1 := each badLanes (fun l t => count (laneCtr l) 1 t) s
  let s2 := count (linkCtr n 0) frames.length s1
  let s3 := takeFrames n k0 (!badLanes.isEmpty) frames s2
  let s4 := s3.modLink n (fun l => { l with nextK := k0 + frames.length })
  formLink (2 * frames.length + 8) n s4

/-- Whether samples are taken (R233, R401, R410). -/
def State.ingestRuns (s : State) : Bool :=
  s.served && !s.power.fatal && !s.power.refclkLost && s.tbRunning

/-- SAMPLE_ARRIVAL: while the link is up, in rising sample index. -/
def execSampleArrival (link : Fin 4) (k0 : Nat) (crcBad : BitVec 16)
    (frames : List (List (BitVec 16 × BitVec 3))) (s : State) : Answer :=
  ifDue (s.ingestRuns && (s.link link.val).state == 2 && decide ((s.link link.val).nextK ≤ k0))
    (sampleArrival link.val k0 crcBad frames) s

/-! ## Lanes -/

/-- The enabled link that uses a lane. -/
def State.laneLink? (s : State) (l : Nat) : Option Nat :=
  (upTo 4).find? (fun n => s.linkOn n && (s.linkLanes n).contains l)

/-- A restored lane that locks again is restored for good (R378). -/
def laneProven (l : Nat) (s : State) : State :=
  if s.ingest.provisional.contains l then
    restored (uLane l) (s.modIngest (fun i => { i with provisional := i.provisional.filter (· ≠ l) }))
  else s

/-- LANE_SYNC_LOCK: a lane achieves sync header lock; the last of a link brings it up (R217). -/
def execLaneSyncLock (lane : Fin 16) (s : State) : Answer :=
  match s.laneLink? lane.val with
  | some n =>
    ifDue (s.served && !s.power.fatal && !s.power.refclkLost && (s.link n).state == 1 &&
        !s.laneRetired lane.val)
      (fun s => tryUp n ((laneProven lane.val s).modLink n (fun l =>
        { l with laneLock := setBit l.laneLock lane.val }))) s
  | none => .next s

/-- LANE_LOCK_LOSS: the link returns to Locking and stops writing, the loss is counted and attributed to the
lane (R219, R369). -/
def execLaneLockLoss (lane : Fin 16) (s : State) : Answer :=
  match s.laneLink? lane.val with
  | some n =>
    ifDue (s.served && !s.power.fatal && bitN (s.link n).laneLock lane.val)
      (fun s =>
        let up := (s.link n).state == 2
        let s1 := s.modLink n (fun l => { l with
          state := if up then 1 else l.state, laneLock := clrBit l.laneLock lane.val })
        let s2 := count (linkCtr n 1) 1 s1
        attribute_ (uLane lane.val) 12 0 noWork (s2.counter (laneCtr lane.val) % 2 ^ 32) false false s2) s
  | none => .next s

end Sys2Proof.Machine
end

