-- ==== Sys2Proof/Machine/Timeline.lean ====
section
/-! DEFINITION. The acquisition timeline: arming, SYSREF, stopping (R218, R232 to R236), trigger pins (R238, R239),
tick-to-PTP pairs (R241), and loss of REFCLK (R235, R410). -/

namespace Sys2Proof.Machine

/-- MASTER_LINK. -/
def State.masterLink (s : State) : Nat := s.regf 0x300 0 2

/-- TICK_LOAD. -/
def State.tickLoad (s : State) : Nat := (s.reg 0x308).toNat + 2 ^ 32 * (s.reg 0x30C).toNat

/-- Whether an ARM is accepted now (R233 item 3). -/
def State.armOk (s : State) : Bool :=
  s.linkLegal s.masterLink && (!s.crock.mirror.tickReached || decide (s.tickMax < s.tickLoad))

/-- ARM = 1 (R233 items 1 and 3). -/
def armTb (s : State) : State :=
  if s.tb.state ≠ 0 then s
  else if s.armOk then s.modTb (fun t => { t with state := 1, armRefused := false })
  else s.modTb (fun t => { t with armRefused := true })

/-- STOP = 1 (R233 item 5). -/
def stopTb (s : State) : State :=
  if (upTo 4).any s.linkOn then s
  else s.foldTick.modTb (fun t => { t with state := 0 })

/-- TB_ARM: a write of ARM = 1, from the physical function only (R242). -/
def execTbArm (fn : Fin 32) (s : State) : Answer := ifDue (s.served && fn.val == 0) armTb s

/-- TB_STOP: a write of STOP = 1. -/
def execTbStop (fn : Fin 32) (s : State) : Answer := ifDue (s.served && fn.val == 0) stopTb s

/-- The arm takes effect at a SYSREF edge sampled at REFCLK edge r: TICK_LOAD is loaded, the LEMC phase fixed
and the master's parameters latched; links that hold lock come up (R232, R233). -/
def loadTick (r : Nat) (s : State) : State :=
  let m := s.masterLink
  let s1 := s.modTb (fun t => { t with
    state := 2, tick := s.tickLoad, loadTick := s.tickLoad, s := s.linkS m, r := s.linkRate m, f := s.linkF m,
    e := s.linkE m, armRef := r, trigLast := [] })
  let s2 := s1.modMirror (fun j => { j with tickReached := true, tickMax := max j.tickMax s.tickLoad })
  let s3 := s2.modIngest (fun i => { i with
    rings := i.rings.map (fun e => (e.1, Ring.empty e.2.cap)),
    links := i.links.map (fun e => (e.1, { e.2 with nextK := 0 })) })
  let s4 := s3.modFlows (fun f => { f with ctxs := f.ctxs.map (fun e =>
    (e.1, e.2.again 0)) })
  each (upTo 4) tryUp s4

/-- The distance of REFCLK edge r from the nearest expected SYSREF position: the first expected edge is E_0,
then every PERIOD (R218). -/
def State.sysrefOff (s : State) (r : Nat) : Nat :=
  let p := s.regf 0x318 0 24
  let d := (r - s.tb.armRef) % max p 1
  min d (p - d)

/-- A SYSREF edge (R218, R233): it completes an arm, or is checked against the held phase. -/
def sysrefEdge (marginal : Bool) (s : State) : State :=
  let late := marginal && Config.sysrefLater s.draw
  let s0 := if marginal then s.nextDraw else s
  let r := s0.refIndex + b2n late
  if s0.tb.state = 1 then
    if s0.armOk then loadTick r s0
    else s0.modTb (fun t => { t with state := 0, armRefused := true })
  else if s0.tb.state = 2 && s0.regf 0x318 0 24 ≠ 0 && 1 < s0.sysrefOff r then
    raiseDev noUnit (ev 0x11 1 noFault (s0.sysrefOff r) 0 0 0) (count (devCtr 0) 1 s0)
  else s0

/-- SYSREF_EDGE. -/
def execSysrefEdge (marginal : Bool) (s : State) : Answer :=
  ifDue (s.served && !s.power.refclkLost) (sysrefEdge marginal) s

/-- TB_TICK_LO_READ: the whole counter is captured, its upper half in TB_TICK_HI (R236); the register page is
the physical function's (R310). -/
def execTbTickLoRead (fn : Fin 32) (s : State) : Answer :=
  ifDue (s.served && fn.val == 0) (fun s =>
    (s.modTb (fun t => { t with tickHi := w32 (t.tick / 2 ^ 32) })).emit (.busRead 0 (s.tick % 2 ^ 32))) s

/-! ## Trigger pins -/

/-- TB_TRIG_IN_CFG fields of a pin. -/
def State.trigInf (s : State) (p lo w : Nat) : Nat := s.regf (0x340 + 4 * p) lo w

/-- The stamp of an instant in ps, in 1/256 tick (R238), the input offset removed; rounded down (log 18). -/
def State.trigStamp (s : State) (ps : Nat) : Nat :=
  let d : Int := (ps : Int) - s.tb.e0 * 125 - s.offset125 0x31C * 125
  let q := d * (s.tb.rateNum * 256 : Nat) / (max (s.tb.rateDen * 125) 1 : Nat)
  ((s.tb.loadTick * 256 : Nat) + q).toNat

/-- An edge on a TRIG_IN pin at ps picoseconds into the present period (R238, R450): measured to 10 ps. -/
def trigInEdge (p : Nat) (rising short : Bool) (ps : Nat) (s : State) : State :=
  let ignored := short && Config.shortPulseIgnored s.draw
  let s0 := if short then s.nextDraw else s
  let edge := s0.trigInf p 1 2
  let inst := (s0.clk * 4000 + ps) / 10 * 10
  if s0.trigInf p 0 1 = 0 || ignored then s0
  else if !s0.tbRunning || edge = 3 then count (trigInCtr p 2) 1 s0
  else if !(edge = 2 || (edge = 0 && rising) || (edge = 1 && !rising)) then s0
  else
    let close := match tget? s0.tb.trigLast p with
      | some t => decide (inst < t + 8000)
      | none => false
    if close then count (trigInCtr p 1) 1 s0
    else
      let s1 := count (trigInCtr p 0) 1 (s0.modTb (fun t => { t with trigLast := tset t.trigLast p inst }))
      let part := s1.trigInf p 3 3
      formStamped part 7 (s1.trigStamp inst) [d64 (p + 8 * b2n (!rising))] s1

/-- TRIG_IN_EDGE. -/
def execTrigInEdge (pin : Fin 8) (rising short : Bool) (ps : Fin 4000) (s : State) : Answer :=
  ifDue (s.served && !s.power.refclkLost) (trigInEdge pin.val rising short ps.val) s

/-- TRIG_OUT_ASSERT: the instant of the pin's first scheduled assertion is reached, and it is driven (R239). -/
def execTrigOutAssert (pin : Fin 8) (s : State) : Answer :=
  match (s.pin pin.val).schedule with
  | a :: rest =>
    ifDue (s.served && !s.power.fatal && !s.power.refclkLost && decide (a.at_ < s.instNow + 32)) (fun s =>
      drivePin pin.val a a.at_ (s.modPin pin.val (fun k => { k with schedule := rest }))) s
  | [] => .next s

/-- TICK_PTP_CAPTURE: at a whole millisecond of the PTP clock, while Running (R241). The last 16 pairs stay. -/
def execTickPtpCapture (s : State) : Answer :=
  ifDue (s.served && s.tbRunning && decide (s.tb.ptpNs % 1000000 < 4)) (fun s =>
    let inst := s.instNow - (s.tb.ptpNs % 1000000 : Nat) * 8
    let pair : PtpPair := { tick256 := s.tb.tick256At inst, locked := s.net.ptpLocked, sec := s.tb.ptpSec,
                            ns := s.tb.ptpNs / 1000000 * 1000000 }
    let dup := s.tb.pairs.head?.elim false (fun p => p.sec == pair.sec && p.ns == pair.ns)
    if dup then s else s.modTb (fun t => { t with pairs := (pair :: t.pairs).take 16 })) s

/-! ## Loss of REFCLK -/

/-- REFCLK_LOST: no edge for 100 ns. The timebase enters Lost, links go down, unready windows drop with
TIMEBASE_LOST and pending assertions are discarded (R235); cores, tiles, the Ladle, ingest and the ports stop,
windows in progress yield CANCELLED records, provisional records with open checks are retracted with CAUSE
0x04, and package memory enters self-refresh (R410). -/
def refclkLost (s : State) : State :=
  let s0 := s.modPower (fun p => { p with refclkLost := true })
  let flows := (s0.flows.ctxs.filter (fun e => !e.2.isCmd && (e.2.state == 2 || e.2.state == 3))).map (·.1)
  let s1 := if s0.tbRunning then each flows (dropBegun 4 64) s0 else s0
  let s2 := s1.foldTick.modTb (fun t => { t with state := 3 })
  let s3 := s2.modIngest (fun i => { i with links := i.links.map (fun e =>
    (e.1, if e.2.state = 2 then { e.2 with state := 1, laneLock := 0 } else { e.2 with laneLock := 0 })) })
  let s4 := suppressAll s3
  let runs := s4.liveRuns
  let s5 := each runs (fun r t => cancelRun r stCancelled false t) s4
  let s6 := each (upTo 8) (fun p t =>
    each ((t.funnel p).outstanding.filter (fun o => o.pkt.prov && o.verdict.isNone))
      (fun o u => retractRec o.pkt 4 u) t) s5
  let s7 := { s6 with
    tiles := s6.tiles.map (fun (e : Nat × Tile) => (e.1, { e.2 with
      inFlight := [], running := none,
      withheld := e.2.withheld || s6.running.any (fun a => a.code == 3 && a.sort == 2 && tileNo a.core a.tile == e.1) })),
    cores := s6.cores.map (fun (e : Nat × Core) => (e.1, { e.2 with joins := [], tongs := [] })),
    pkg := { s6.pkg with selfRefresh := true },
    net := { s6.net with ports := s6.net.ports.map (fun (e : Nat × Port) => (e.1, { e.2 with link := 0 })) } }
  let s8 := s7.modFlows (fun f => { f with ladle := [], claims := [], pot := [],
                                           runs := f.runs.map (fun (e : Nat × Run) => (e.1, { e.2 with openChecks := 0 })) })
  raiseDev noUnit (ev 0x49 2 noFault 0 0 0 0) (each runs settleRun s8)

/-- REFCLK_LOST. -/
def execRefclkLost (s : State) : Answer :=
  ifDue (s.power.aonOk && s.power.ready && !s.power.refclkLost && s.power.state ≠ 3) refclkLost s

end Sys2Proof.Machine
end

