-- ==== Sys2Proof/Machine/Intake.lean ====
section
/-! DEFINITION. The host side: MSI-X (R282, R312), reply rings (R281), intake blocks (R279, R283), push windows and
pull rings (R273 to R276), and writes of BAR0 registers (R242, R269, R291, R311, R330, R419, R438). -/

namespace Sys2Proof.Machine

/-! ## MSI-X -/

/-- Bus Master Enable of a function. -/
def State.master (s : State) (fn : Nat) : Bool := bitN s.host.busMaster fn && s.fnEnabled fn

/-- Word i of a vector's MSI-X table entry; the mask bit resets to 1 (log 5). -/
def State.msixWord (s : State) (fn v i : Nat) : Word :=
  tget s.host.msix (256 * fn + 4 * v + i) (if i = 3 then 1 else 0)

/-- Raise a vector: sent at once, or held in the PBA while masked or without Bus Master Enable; a vector
beyond the table is never raised (R282, R312). -/
def raiseMsix (fn v : Nat) (s : State) : State :=
  if 64 ≤ v then s
  else if s.master fn && !bit (s.msixWord fn v 3) 0 then s.emit (.msix fn v)
  else s.modHost (fun h => { h with pba := tset h.pba (64 * fn + v) true })

/-- Raise a vector under a HOLDOFF in µs: not again while one runs (R282). -/
def raiseHeld (fn v us : Nat) (s : State) : State :=
  if 64 ≤ v then s
  else
    match tget? s.host.holdoffs (64 * fn + v) with
    | some h => s.modHost (fun x => { x with holdoffs := tset x.holdoffs (64 * fn + v) { h with pending := true } })
    | none =>
      let s1 := raiseMsix fn v s
      if us = 0 then s1
      else
        let h : Holdoff := { until_ := s.clk + us * usClk, span := us, pending := false }
        s1.modHost (fun x => { x with holdoffs := tset x.holdoffs (64 * fn + v) h })

/-- MSIX_HOLDOFF_END: what was written during the HOLDOFF raises one message (R282). -/
def execMsixHoldoffEnd (fn : Fin 32) (vector : Fin 64) (s : State) : Answer :=
  let k := 64 * fn.val + vector.val
  match tget? s.host.holdoffs k with
  | some h =>
    ifDue (s.served && decide (h.until_ ≤ s.clk)) (fun s =>
      let s1 := s.modHost (fun x => { x with holdoffs := tdel x.holdoffs k })
      if h.pending then raiseHeld fn.val vector.val h.span s1 else s1) s
  | none => .next s

/-- Send what the PBA holds for a function once it may be sent. -/
def flushPba (fn : Nat) (s : State) : State :=
  each (upTo 64) (fun v t =>
    if tget t.host.pba (64 * fn + v) false && t.master fn && !bit (t.msixWord fn v 3) 0 then
      (t.modHost (fun h => { h with pba := tdel h.pba (64 * fn + v) })).emit (.msix fn v)
    else t) s

/-- Write a word of an MSI-X table; an unmasked pending vector is sent. -/
def writeMsix (fn i : Nat) (v : Word) (s : State) : State :=
  flushPba fn (s.modHost (fun h => { h with msix := tset h.msix (256 * fn + i) (if i % 4 = 3 then v &&& 1 else v) }))

/-! ## Reply rings -/

/-- Slots a reply takes (R281). -/
def replySlots (r : Reply) : Nat := ceilDiv r.words.length 15

/-- The bytes of slot i of a reply of n slots (R281, Table 10.1). -/
def slotBytes (r : Reply) (i n : Nat) (phase : Bool) : Bytes :=
  wordBytes ((r.words.drop (15 * i)).take 15 ++ List.replicate (15 - ((r.words.drop (15 * i)).take 15).length) 0 ++
    [w32 (b2n phase + 2 * i + 8 * (n - 1))])

/-- Write one slot and move past it; PHASE alternates on each wrap. -/
def writeSlot (fn k i n : Nat) (r : Reply) (s : State) : State :=
  let l := s.lane fn k
  let s1 := s.hostWrite (l.replyBase + 64 * l.replyWrite) (slotBytes r i n l.replyPhase)
  let wraps := l.replyWrite + 1 = 2 ^ l.replyLog2
  s1.modLane fn k (fun l => { l with
    replyWrite := if wraps then 0 else l.replyWrite + 1,
    replyPhase := if wraps then !l.replyPhase else l.replyPhase, replyUsed := l.replyUsed + 1 })

/-- REPLY_WRITE: the oldest held reply is written when all the slots it needs are free; its vector is raised
where R282 says (R281, R282). -/
def execReplyWrite (fn : Fin 32) (ring : Fin 16) (s : State) : Answer :=
  let l := s.lane fn.val ring.val
  match l.held with
  | r :: rest =>
    let n := replySlots r
    ifDue (s.served && s.master fn.val && l.replyEnable && decide (l.replyUsed + n ≤ 2 ^ l.replyLog2)) (fun s =>
      let s1 := each (upTo n) (fun i t => writeSlot fn.val ring.val i n r t)
        (s.modLane fn.val ring.val (fun l => { l with held := rest }))
      if r.irq then raiseHeld fn.val l.vector l.holdoff s1 else s1) s
  | [] => .next s

/-- PT_REPLY_READ: the host has read up to a slot; the slots before it are free (R281, R283). -/
def replyRead (fn k : Nat) (v : Word) (s : State) : State :=
  let l := s.lane fn k
  let n := 2 ^ l.replyLog2
  let r := bits v 0 16 % n
  s.modLane fn k (fun l => { l with replyRead := r, replyUsed := l.replyUsed - min l.replyUsed ((r + n - l.replyRead % n) % n) })

/-- PT_REPLY_READ. -/
def execPtReplyRead (fn : Fin 32) (ring : Fin 16) (value : Word) (s : State) : Answer :=
  ifDue (s.served && s.fnEnabled fn.val) (replyRead fn.val ring.val value) s

/-! ## Lanes -/

/-- ENABLE 0 to 1: the pull consumer index starts at 0 (R283), and no packet stands in the window. -/
def laneEnable (fn k : Nat) (s : State) : State :=
  if (s.lane fn k).enable then s
  else s.modLane fn k (fun l => { l with enable := true, consumer := 0, pulled := [], slots := [], order := [] })

/-- Withdraw a command that waits: its waiting activities and the jobs they stand for go with it, and so does a
model whose load has not begun (R279, R298). -/
def cancelWaiting (c : Cmd) (s : State) : State :=
  let mine := s.waiting.filter (fun a => a.cmd == some c.id)
  let s1 := each mine (fun a u => if a.code = 3 && a.sort ≠ 4 then u.modTile a.core a.tile (fun v => { v with job := none }) else u)
    { s with waiting := s.waiting.filter (fun a => a.cmd ≠ some c.id) }
  let s2 := each (s1.pre.models.filter (fun m => m.loading == some c.id)) retractLoad s1
  let s3 := { s2 with cores := s2.cores.map (fun (e : Nat × Core) =>
    if e.2.testCmd = some c.id then (e.1, { e.2 with testCmd := none }) else e) }
  finish c.id stCancelled [] s3

/-- Whether a command is waiting in the sense of R279 and R298: for its at-tick, behind a FENCE, or after
DEFERRED with no activity of it begun. -/
def State.waits (s : State) (c : Cmd) : Bool :=
  c.wait == .atTick || c.wait == .fence ||
  (c.wait == .deferred && !s.running.any (fun a => a.cmd == some c.id))

/-- A commit waiting for its tick that was withdrawn returns its set to the open set, ahead of what was staged
since (R298). -/
def returnSet (q : Pending) (s : State) : State :=
  let back := fun (p : Nat) (set : OpenSet) (x : Preoft) =>
    let now_ := tget x.sets p { cmds := [], regs := [] }
    { x with sets := tset x.sets p { cmds := set.cmds ++ now_.cmds, regs := set.regs ++ now_.regs } }
  s.modPre (fun x =>
    let x1 := back q.part q.set { x with pending := x.pending.filter (fun y => y.cmd ≠ q.cmd) }
    match q.globalSet with
    | some g => back 8 g x1
    | none => x1)

/-- Withdraw a waiting command of any kind. -/
def withdraw (c : Cmd) (s : State) : State :=
  match s.pre.pending.find? (fun q => q.cmd == c.id) with
  | some q => finish c.id stCancelled [] (returnSet q s)
  | none => cancelWaiting c s

/-- ENABLE 1 to 0 (R279): waiting commands of the lane complete with CANCELLED; packets not taken are
ignored. -/
def laneDisable (fn k : Nat) (s : State) : State :=
  if !(s.lane fn k).enable then s
  else
    let s1 := s.modLane fn k (fun l => { l with enable := false, pulled := [], slots := [], order := [],
                                                fenceWait := none })
    let cs := s1.pre.cmds.filter (fun c => c.h.fn.val == fn && c.h.lane.val == k &&
      (s1.waits c || s1.pre.pending.any (fun q => q.cmd == c.id)))
    each cs withdraw s1

/-- REPLY_ENABLE 0 to 1: the write index starts at 0 with PHASE 1 (R283). -/
def replyEnable (fn k : Nat) (s : State) : State :=
  if (s.lane fn k).replyEnable then s
  else s.modLane fn k (fun l => { l with replyEnable := true, replyWrite := 0, replyUsed := 0, replyPhase := true })

/-- REPLY_ENABLE 1 to 0: replies not yet written are discarded and counted (R280). -/
def replyDisable (fn k : Nat) (s : State) : State :=
  let l := s.lane fn k
  if !l.replyEnable then s
  else
    let s1 := s.modLane fn k (fun l => { l with replyEnable := false, held := [] })
    each l.held (fun _ t =>
      let t1 := count (devCtr 7) 1 t
      match t1.fnPart? fn with
      | some p => raisePart p noUnit (ev 0x12 1 noFault fn k k 0) t1
      | none => traceOnly 0x12 0 255 noUnit fn k k 0 t1) s1

/-- LANE_ENABLE. -/
def execLaneEnable (fn : Fin 32) (lane : Fin 16) (s : State) : Answer :=
  ifDue (s.served && s.fnEnabled fn.val) (laneEnable fn.val lane.val) s

/-- LANE_DISABLE. -/
def execLaneDisable (fn : Fin 32) (lane : Fin 16) (s : State) : Answer :=
  ifDue (s.served && s.fnEnabled fn.val) (laneDisable fn.val lane.val) s

/-- REPLY_ENABLE. -/
def execReplyEnable (fn : Fin 32) (ring : Fin 16) (s : State) : Answer :=
  ifDue (s.served && s.fnEnabled fn.val) (replyEnable fn.val ring.val) s

/-- Write a register of an intake block (Table 10.3): fields other than ENABLE, REPLY_ENABLE and READ are
ignored while either is 1 (R283). -/
def writeLane (fn k o : Nat) (v : Word) (s : State) : State :=
  let l := s.lane fn k
  let free := !(l.enable || l.replyEnable)
  let lowHi := fun (old : Nat) (lo : Bool) (cut : Nat) =>
    if lo then old / 2 ^ 32 * 2 ^ 32 + v.toNat / 2 ^ cut * 2 ^ cut else old % 2 ^ 32 + v.toNat * 2 ^ 32
  let set := fun (g : Lane → Lane) => if free then s.modLane fn k g else s
  match o with
  | 0x00 =>
    let s1 := set (fun l => { l with mode := bit v 1, vector := bits v 16 6, holdoff := bits v 24 8 })
    let s2 := if bit v 0 then laneEnable fn k s1 else laneDisable fn k s1
    if bit v 2 then replyEnable fn k s2 else replyDisable fn k s2
  | 0x04 => set (fun l => { l with periodTk := bits v 0 24 })
  | 0x08 => set (fun l => { l with pullBase := lowHi l.pullBase true 12 })
  | 0x0C => set (fun l => { l with pullBase := lowHi l.pullBase false 0 })
  | 0x10 => set (fun l => { l with pullLog2 := clampN (bits v 0 4) 4 12 })
  | 0x14 => set (fun l => { l with prodAddr := lowHi l.prodAddr true 2 })
  | 0x18 => set (fun l => { l with prodAddr := lowHi l.prodAddr false 0 })
  | 0x1C => set (fun l => { l with consAddr := lowHi l.consAddr true 2 })
  | 0x20 => set (fun l => { l with consAddr := lowHi l.consAddr false 0 })
  | 0x24 => set (fun l => { l with replyBase := lowHi l.replyBase true 12 })
  | 0x28 => set (fun l => { l with replyBase := lowHi l.replyBase false 0 })
  | 0x2C => set (fun l => { l with replyLog2 := clampN (bits v 0 5) 4 16 })
  | 0x30 => replyRead fn k v s
  | _ => s

/-! ## Packets -/

/-- Whether a slot's packet is whole: w0 and every word up to max(LENGTH, 6) - 1 (R273). -/
def slotWhole (t : Tbl Word) : Bool :=
  match tget? t 0 with
  | some w0 => (upTo (max (hdrLength w0) 6)).all (fun i => (tget? t i).isSome)
  | none => false

/-- One word written to push window k, slot n (R273, R274). -/
def pushWord (fn k n i : Nat) (v : Word) (s : State) : State :=
  let l := s.lane fn k
  let sl := tget l.slots n { words := [], committed := false }
  if !l.enable || l.mode || sl.committed then s
  else
    let ws := tset sl.words i v
    let whole := slotWhole ws
    s.modLane fn k (fun l => { l with slots := tset l.slots n { words := ws, committed := whole },
                                      order := if whole then l.order ++ [n] else l.order })

/-- The words of a posted write from a byte offset of BAR2. -/
def pushWords (fn off : Nat) (data : List Word) (s : State) : State :=
  match data with
  | [] => s
  | v :: r => pushWords fn (off + 4) r (pushWord fn (off / 65536) (off % 65536 / 1024) (off % 1024 / 4) v s)

/-- The busy slots a posted write touches. -/
def busyTouched (s : State) (fn off n : Nat) : Nat :=
  let first := off / 1024
  let last := (off + 4 * n - 1) / 1024
  ((upTo (last + 1 - first)).filter (fun j =>
    let k := first + j
    let l := s.lane fn (k / 64)
    l.enable && !l.mode && (tget l.slots (k % 64) { words := [], committed := false }).committed)).length

/-- A posted write to BAR2 (R273, R274): what reaches a busy slot is discarded and counted. -/
def pushWrite (fn off : Nat) (data : List Word) (s : State) : State :=
  pushWords fn off data (count (devCtr 6) (busyTouched s fn off data.length) s)

/-- PUSH_WINDOW_WRITE. -/
def execPushWindowWrite (fn : Fin 32) (offset : BitVec 20) (data : List Word) (s : State) : Answer :=
  checked (WellFormed.pushWrite offset data) (fun s =>
    if s.served && s.fnEnabled fn.val then pushWrite fn.val offset.toNat data s else s) s

/-- The words of a pull-ring entry's packet (R275). -/
def State.entryWords (s : State) (a : Nat) : List Word :=
  let w0 := w32 (ofBytes (s.hostRead a 4))
  toWords (max (hdrLength w0) 6) (s.hostRead a (4 * max (hdrLength w0) 6))

/-- PULL_RING_POLL: the producer index is read, and what it shows is fetched in index order (R275). -/
def execPullRingPoll (fn : Fin 32) (lane : Fin 16) (s : State) : Answer :=
  let l := s.lane fn.val lane.val
  ifDue (s.served && s.master fn.val && l.enable && l.mode && l.pulled.isEmpty) (fun s =>
    let n := 2 ^ l.pullLog2
    let prod := ofBytes (s.hostRead l.prodAddr 4) % n
    let cnt := (prod + n - l.consumer) % n
    let es := (upTo cnt).map (fun i => s.entryWords (l.pullBase + 1024 * ((l.consumer + i) % n)))
    s.modLane fn.val lane.val (fun l => { l with pulled := es })) s

/-! ## BAR0 writes -/

/-- A staged register write joins the open set of its page's partition, or the global set (R291). -/
def stageReg (set off : Nat) (d : RegDesc) (v : Word) (s : State) : State :=
  s.modPre (fun x =>
    let o := tget x.sets set { cmds := [], regs := [] }
    { x with sets := tset x.sets set { o with
        regs := o.regs.filter (fun e => e.1 ≠ off) ++ [(off, w32 d.mask, w32 (d.held v.toNat))] } })

/-- TB_CTRL: MASTER_LINK and SYSREF_MODE change only while Stopped; then STOP, then ARM (R233). -/
def writeTbCtrl (v : Word) (s : State) : State :=
  let s1 := if s.tb.state = 0 then s.setReg 0x300 (w32 (v.toNat &&& 0x33)) else s
  let s2 := if bit v 3 then stopTb s1 else s1
  if bit v 2 then armTb s2 else s2

/-- GL_POWER_CTRL: STEP_MAX and POWER_LIMIT, then TARGET (R401, R419). -/
def writePowerCtrl (v : Word) (s : State) : State :=
  let s1 := (s.setRegf 0xE00 2 3 (bits v 2 3)).setRegf 0xE00 8 6 (clampN (bits v 8 6) 30 60)
  let s2 := if s1.stepMax < s1.power.step then setStep s1.stepMax s1 else s1
  requestState 0 (bits v 0 2) s2

/-- GL_CORE_QUIESCE: each core whose bit changes (R404). -/
def writeQuiesce (v : Word) (s : State) : State :=
  each (upTo 32) (fun c t => if bit v c then quiesceCore c t else if t.quiesced c then unquiesceCore c t else t) s

/-- HK_ALERT: a 1 clears its bit (R425). -/
def alertClear (v : Word) (s : State) : State :=
  s.modProbe (fun p => { p with alert := ((upTo 16).filter (bit v)).foldl clrBit p.alert })

/-- PT_FN_READ: the host's read offset (R328, R330). -/
def fnRead (p : Nat) (v : Word) (s : State) : State := s.setReg (partOff p 0x418) (w32 (v.toNat / 64 * 64))

/-- A write to the global page by the physical function. -/
def writeGlobal (off : Nat) (v : Word) (s : State) : State :=
  if 0x800 ≤ off && off < 0xC00 then writeLane 0 ((off - 0x800) / 0x40) (off % 0x40) v s
  else if 0xE000 ≤ off && off < 0xE400 then writeMsix 0 ((off - 0xE000) / 4) v s
  else match off with
  | 0x300 => writeTbCtrl v s
  | 0xE00 => writePowerCtrl v s
  | 0xE10 => writeQuiesce v s
  | 0x1008 => alertClear v s
  | _ =>
    match globalReg off with
    | some d => if d.staged then stageReg 8 off d v s else s.setReg off (w32 (d.held v.toNat))
    | none => s

/-- A write to a partition page's own registers. -/
def writePart (p o : Nat) (v : Word) (s : State) : State :=
  if o = 0x418 then fnRead p v s
  else match partReg o with
  | some d => if d.staged then stageReg p (partOff p o) d v s else s.setReg (partOff p o) (w32 (d.held v.toNat))
  | none => s

/-- A 32-bit write to BAR0 of a function (R310, R311, R437). -/
def writeReg (fn off : Nat) (v : Word) (s : State) : State :=
  if fn = 0 then
    if off < 0x10000 then writeGlobal off v s
    else if off < 0x90000 then writePart (off / 0x10000 - 1) (off % 0x10000) v s
    else s
  else if off < 0x10000 then
    match s.fnPart? fn with
    | some p =>
      if 0x800 ≤ off && off < 0xC00 then writeLane fn ((off - 0x800) / 0x40) (off % 0x40) v s
      else if 0xE000 ≤ off && off < 0xE400 then writeMsix fn ((off - 0xE000) / 4) v s
      else writePart p off v s
    | none => s
  else s

/-- REGISTER_WRITE: an aligned 32-bit or 64-bit write to BAR0; nothing happens before READY (R311, R398). -/
def execRegisterWrite (fn : Fin 32) (offset : BitVec 20) (wide : Bool) (value : BitVec 64) (s : State) : Answer :=
  checked (WellFormed.regWrite offset wide value) (fun s =>
    if s.served && s.fnEnabled fn.val then
      let s1 := writeReg fn.val offset.toNat (w32 (value.toNat % 2 ^ 32)) s
      if wide then writeReg fn.val (offset.toNat + 4) (w32 (value.toNat / 2 ^ 32)) s1 else s1
    else s) s

/-- HK_ALERT_CLEAR: a write of ones to HK_ALERT, from the physical function only (R425, R438). -/
def execHkAlertClear (fn : Fin 32) (value : Word) (s : State) : Answer :=
  ifDue (s.served && fn.val == 0) (alertClear value) s

/-- PT_FN_READ: from the function bound to the partition or the physical function (R328, R330). -/
def execPtFnRead (fn : Fin 32) (part : Fin 8) (value : Word) (s : State) : Answer :=
  ifDue (s.served && s.fnEnabled fn.val && (fn.val == 0 || s.fnPart? fn.val == some part.val))
    (fnRead part.val value) s

end Sys2Proof.Machine
end

