-- ==== Sys2Proof/Machine/Take.lean ====
section
/-! DEFINITION. Taking a packet (R277, R286): the checks in their order, FENCE, at-tick (R278), waking from Idle
(R402) and loss of REFCLK (R410), staging sets (R291, R292). `go` is what performs a command of any opcode. -/

namespace Sys2Proof.Machine

/-- What performing a command does. -/
abbrev Perform := Cmd → State → State

/-- The protocol level of a function (R288). -/
def State.level (s : State) (fn : Nat) : Nat := tget s.host.level fn 1

/-- Whether a header's level is accepted (R286 item 3). -/
def State.levelOk (s : State) (h : Hdr) (op : Nat) : Bool :=
  h.level.toNat == s.level h.fn.val || (decide (op ≤ 2) && (h.level.toNat == 1 || h.level.toNat == 2))

/-- Whether issuer and PARTITION are permitted (R272, R285, R286 item 5); the physical function may issue every opcode (log 29). -/
def State.issuerOk (s : State) (r : OpSpec) (h : Hdr) : Bool :=
  let bound := s.fnPart? h.fn.val
  (h.fn.val == 0 || bound.isSome || decide (r.op ≤ 2)) && (r.issuer ≠ .pf || h.fn.val == 0) &&
  (h.fn.val == 0 || bound.isNone || bound == some h.partition.toNat)

/-- Pure parameter checks, made when the packet is taken (R286 item 9). -/
def paramsOk (op level : Nat) (w : List Word) : Bool :=
  match op with
  | 0x001 => decide (pf w 0 0 8 ≤ 3) && (pf w 0 0 8 ≠ 3 || decide (pf w 1 5 6 ≤ 32))
  | 0x102 => decide (pf w 0 5 6 ≤ 32)
  | 0x101 => decide (pf w 2 5 6 ≤ 32)
  | 0x105 => decide (pf w 0 5 6 ≤ 31) && pf w 1 3 2 ≠ 3
  | 0x200 => decide ((pw w 1).toNat ≤ 65536) && (pw w 1).toNat % 256 == 0
  | 0x203 => decide ((pw w 1).toNat ≤ 65536)
  | 0x300 =>
    if level = 1 then decide (1 ≤ pf w 0 0 12) && (pf w 0 12 1 == 0 || decide (pf w 0 0 12 ≤ 40)) &&
      decide (pf w 3 0 17 ≤ 65536)
    else decide (1 ≤ (pw w 1).toNat) && decide (pf w 4 0 17 ≤ 65536)
  | 0x301 => decide (1 ≤ (pw w 0).toNat) && decide ((pw w 3).toNat ≤ 1048576)
  | 0x401 => if pf w 0 21 1 = 1 then decide (pf w 0 22 6 < 16) else
      decide (pf w 0 22 6 < 48) && decide (1 ≤ (pw w 1).toNat) && decide ((pw w 1).toNat < 2 ^ 31)
  | 0x602 => decide (1 ≤ pf w 1 0 18) && decide (pf w 1 0 18 ≤ 131072) &&
      decide (pf w 0 0 17 + pf w 1 0 18 ≤ 131072)
  | 0x700 => decide (5 ≤ pf w 0 0 4) && decide (pf w 0 0 4 ≤ 7)
  | 0x702 => decide (pf w 0 5 6 ≤ 32) || pf w 0 5 6 == 63
  | 0x800 => decide (1 ≤ pf w 0 4 5) && decide (pf w 0 4 5 ≤ 16) && decide (pf w 0 0 4 + pf w 0 4 5 ≤ 16) &&
      (w.drop 1).all (fun e => decide (bits e 8 12 ≤ bits e 20 12))
  | 0x802 => decide (1 ≤ (pw w 1).toNat) && decide ((pw w 1).toNat ≤ 2000000)
  | _ => true

/-- The first check that fails, in the order of R286 from item 2 on: lenOk is LENGTH ≥ 6, resOk the header's
reserved fields. -/
def firstFail (h : Hdr) (op : Nat) (w : List Word) (lenOk resOk : Bool) (s : State) : Option Nat :=
  if !lenOk then some stBadLength
  else if !s.levelOk h op then some stBadLevel
  else match opSpec? op with
  | none => some stBadOpcode
  | some r =>
    let m := masksAt r h.level.toNat w
    if h.level.toNat = 1 && !r.level1 then some stBadOpcode
    else if !s.issuerOk r h then some stSecurity
    else if !resOk || !reservedOk m w || (h.level.toNat == 1 && h.atTick ≠ 0) then some stReserved
    else if w.length ≠ m.length then some stBadLength
    else if h.atTick ≠ 0 && !s.tbRunning then some stNoTimebase
    else if r.issuer == .any && decide (7 < h.partition.toNat) then some stBadParam
    else if !paramsOk op h.level.toNat w then some stBadParam
    else if (r.kind == .stg || r.kind == .global) && h.atTick ≠ 0 &&
        !(op = 0x104 && (s.pre.models.any (fun m => m.part == h.partition.toNat && m.id == pq w 0 && m.state == 0))) then
      some stBadParam
    else none

/-- Wake from Idle for a command (R402): the device changes to Active, TARGET then reads 0. -/
def wake (id : Nat) (s : State) : State :=
  setWait id .parked ((s.setRegf 0xE00 0 2 0).modPower (fun p => { p with transition := some 0 }))

/-- Whether the set a COMMIT closes binds a flow (R402). -/
def State.commitBinds (s : State) (c : Cmd) : Bool :=
  (tget s.pre.sets c.h.partition.toNat { cmds := [], regs := [] }).cmds.any (fun x => x.op == 0x201)

/-- Begin a command: it waits for Active (R402) or for REFCLK (R410), ends where a state excludes it, or is
performed. -/
def startCmd (go : Perform) (c : Cmd) (s : State) : State :=
  let wakes := needsCore c.op || (c.op == 3 && s.commitBinds c)
  if s.power.refclkLost && needsMem c.op then setWait c.id .parked s
  else if s.power.state = 2 && (needsCore c.op || c.op == 3) then finish c.id stNoResource [] s
  else if s.power.state = 1 && wakes then wake c.id s
  else go c (setWait c.id .running s)

/-- A command past its FENCE: held for its at-tick, at most 256 a function, or begun (R277, R278). -/
def proceed (go : Perform) (c : Cmd) (s : State) : State :=
  if c.op ≠ 3 && s.tick < c.h.atTick.toNat then
    let n := (s.pre.cmds.filter (fun x => x.h.fn == c.h.fn && x.op ≠ 3 && x.wait == .atTick)).length
    if 256 ≤ n then finish c.id stNoResource [] s else setWait c.id .atTick s
  else startCmd go c s

/-- Whether every earlier command of a lane has sent its final reply (R277). -/
def State.laneQuiet (s : State) (fn lane id : Nat) : Bool :=
  !(s.pre.cmds.any (fun c => c.h.fn.val == fn && c.h.lane.val == lane && decide (c.id < id))) &&
  (upTo 16).all (fun k => (s.lane fn k).held.all (fun r => !(r.final && r.lane == lane)))

/-- A packet taken by its lane (R277, R280, R286). -/
def take (go : Perform) (h : Hdr) (op : Nat) (w : List Word) (lenOk resOk : Bool) (s : State) : State :=
  if !s.ringOn h then noRing h s
  else
    let s1 := traceOnly 0x130 4 ((s.fnPart? h.fn.val).getD 255) noUnit h.fn.val h.lane.val op h.tag.toNat s
    match firstFail h op w lenOk resOk s1 with
    | some st => answer h op st [] s1
    | none =>
      let id := s1.pre.nextCmd
      let c : Cmd := { id := id, h := h, op := op, w := w, wait := .running, takenTick := s1.tick }
      let s2 := s1.modPre (fun p => { p with cmds := p.cmds ++ [c], nextCmd := id + 1 })
      if h.fence && !s2.laneQuiet h.fn.val h.lane.val id then
        setWait id .fence (s2.modLane h.fn.val h.lane.val (fun l => { l with fenceWait := some id }))
      else proceed go c s2

/-- Whether a lane takes packets (R279, R281): enabled, no command of it behind a FENCE, and no reply ring of
the function with 64 replies held. -/
def State.laneTakes (s : State) (fn lane : Nat) : Bool :=
  s.served && s.fnEnabled fn && (s.lane fn lane).enable && (s.lane fn lane).fenceWait.isNone &&
  (upTo 16).all (fun k => decide ((s.lane fn k).held.length < 64))

/-- The next packet of a lane, and the lane past it (R273 to R275). -/
def nextPacket (fn k : Nat) (s : State) : Option (List Word × State) :=
  let l := s.lane fn k
  if l.mode then
    match l.pulled with
    | w :: rest =>
      let c := (l.consumer + 1) % 2 ^ l.pullLog2
      let s1 := s.modLane fn k (fun l => { l with pulled := rest, consumer := c })
      some (w, if rest.isEmpty then s1.hostWrite l.consAddr (leBytes 4 c) else s1)
    | [] => none
  else
    match l.order with
    | n :: rest =>
      let sl := tget l.slots n { words := [], committed := false }
      let len := max (hdrLength (tget sl.words 0 0)) 6
      some ((upTo len).map (fun i => tget sl.words i 0),
        s.modLane fn k (fun l => { l with order := rest, slots := tdel l.slots n }))
    | [] => none

/-- Take the next packet of a lane. -/
def packetTake (go : Perform) (fn : Fin 32) (lane : Fin 16) (s : State) : State :=
  match nextPacket fn.val lane.val s with
  | some (ws, s1) =>
    let len := hdrLength (pw ws 0)
    take go (hdrOf fn lane ws) (hdrOpcode (pw ws 0)) ((ws.take len).drop 6) (decide (6 ≤ len)) (hdrReservedOk ws) s1
  | none => s

/-- The command due first among those held for their at-tick: in the order taken (R278). A COMMIT waits for COMMIT_TICK. -/
def State.dueCmd? (s : State) : Option Cmd :=
  (sortBy (fun c => (c.h.atTick.toNat : Int))
    (s.pre.cmds.filter (fun c => c.wait == .atTick && c.op ≠ 3 && s.reached c.h.atTick.toNat))).head?

/-- Begin the parked commands, in the order taken (R402, R410). -/
def unpark (go : Perform) (s : State) : State :=
  each (s.pre.cmds.filter (fun c => c.wait == .parked)) (fun c t => startCmd go c t) s

/-! ## Staging (R291, R292) -/

/-- The object a staged command changes (R292): a later change replaces an earlier one of the same. -/
def objectOf (op : Nat) (w : List Word) : Nat × Nat :=
  match op with
  | 0x201 => (1, pf w 0 0 14)
  | 0x202 => (2, pf w 0 0 14)
  | 0x501 => (3, pf w 0 0 6)
  | 0x502 => (3, pf w 0 0 6)
  | 0x105 => (4, pf w 0 0 11)
  | 0x600 => (5, pf w 0 0 2)
  | 0x601 => (6, pf w 0 0 3)
  | 0xB00 => (7, pf w 0 0 1)
  | 0xB01 => (8, pf w 0 0 8)
  | 0x302 => (9, (pw w 0).toNat)
  | _ => (op, pq w 0)

/-- The number of a command's staging set: its partition's, or 8 for the global set. -/
def setOf (c : Cmd) : Nat := if c.op = 0x600 || c.op = 0x601 || c.op = 0xB00 then 8 else c.h.partition.toNat

/-- An open set. -/
def State.openSet (s : State) (n : Nat) : OpenSet := tget s.pre.sets n { cmds := [], regs := [] }

/-- Put a checked command in its open set: OK with its payload, NO_RESOURCE past 1,024; a FLOW_CLOSE keeps its
reply for the end of its flow (R253, R291, R292, R300). -/
def stage (c : Cmd) (payload : List Word) (s : State) : State :=
  let n := setOf c
  let o := s.openSet n
  let old := o.cmds.filter (fun x => objectOf x.op x.w == objectOf c.op c.w)
  let rest := o.cmds.filter (fun x => objectOf x.op x.w ≠ objectOf c.op c.w)
  if 1024 ≤ rest.length then finish c.id stNoResource [] s
  else
    let keeps := c.op == 0x202
    let e : Staged := { h := c.h, op := c.op, w := c.w, cmd := if keeps then some c.id else none }
    let s1 := each old (fun x t => finishOpt x.cmd stCancelled [] t) s
    let s2 := s1.modPre (fun x => { x with sets := tset x.sets n { o with cmds := rest ++ [e] } })
    if keeps then setWait c.id .staged s2 else finish c.id stOk payload s2

/-- Whether an open or pending set of a partition holds a command that satisfies a test. -/
def State.stagedAny (s : State) (n : Nat) (p : Staged → Bool) : Bool :=
  (s.openSet n).cmds.any p || s.pre.pending.any (fun q => (q.part == n && q.set.cmds.any p) ||
    (n == 8 && q.globalSet.elim false (fun g => g.cmds.any p)))

/-- The value a register will have when the open and pending sets that reach it have applied. -/
def State.regStaged (s : State) (n off : Nat) : Word :=
  let sets := (s.pre.pending.filterMap (fun q => if q.part = n then some q.set else if n = 8 then q.globalSet else none)) ++
    [s.openSet n]
  sets.foldl (fun v o => match o.regs.find? (fun e => e.1 == off) with
    | some e => e.2.2
    | none => v) (s.reg off)

end Sys2Proof.Machine
end

