-- ==== Sys2Proof/Machine/Kernel.lean ====
section
/-! DEFINITION. Kernels: descriptors and their checks (R303 to R307, Tables 10.12 to 10.14), the checks that depend on
a model (R99, R102, R104, R152, R159, R181, R355), and level-1 problem lists (R187, Table 10.11; log 17). -/

namespace Sys2Proof.Machine

/-! ## Forms -/

/-- Bytes of an element of a format (Table 6.4, Table 6.8). -/
def fmtSize (f : Nat) : Nat :=
  match f with
  | 0 => 1
  | 2 => 4
  | _ => 2

/-- A tile operation block (Table 6.2, R152): none where a reserved bit is set, a count is 0 or a range passes
511. -/
def parseTempl (w : List Word) : Option Templ :=
  let t : Templ :=
    { tile := pf w 0 0 5, pair := bit (pw w 0) 5, rowMask := bit (pw w 0) 6, colMask := bit (pw w 0) 7,
      part := pf w 0 8 10, rowFirst := pf w 1 0 9, rowCount := pf w 1 9 10, inOffset := pf w 2 0 16,
      maskIndex := pf w 2 16 12, colFirst := pf w 3 0 9, colCount := pf w 3 9 10 }
  if pf w 0 18 14 = 0 && pf w 1 19 13 = 0 && pf w 2 28 4 = 0 && pf w 3 19 13 = 0 &&
     decide (1 ≤ t.rowCount) && decide (t.rowFirst + t.rowCount ≤ 512) &&
     decide (1 ≤ t.colCount) && decide (t.colFirst + t.colCount ≤ 512) then some t
  else none

/-- A Skillet step (Table 6.8): none for a reserved function, format or bit. -/
def parseSk (w : List Word) : Option SkStep :=
  if decide (pf w 0 0 6 ≤ 0x0E) && decide (pf w 0 6 3 ≤ 4) && pf w 0 14 2 = 0 && pf w 1 17 15 = 0 then
    some { func := pf w 0 0 6, outFormat := pf w 0 6 3, perColumn := bit (pw w 0) 9, kM1 := pf w 0 10 4,
           imm := pf w 0 16 16, param := pf w 1 0 17 }
  else none

/-- n items of k words each, every one of them with a form. -/
def parseMany {α : Type} (f : List Word → Option α) (k n : Nat) (w : List Word) : Option (List α) :=
  match n with
  | 0 => some []
  | m + 1 =>
    match f (w.take k), parseMany f k m (w.drop k) with
    | some a, some r => some (a :: r)
    | _, _ => none

/-- A scale word obeys R88. -/
def scaleValid (v : Nat) : Bool :=
  if v % 256 = 0 then v / 256 == 0 else decide (128 ≤ v % 256)

/-- The top code of ACT_BITS (Table 4.2). -/
def topCode (a8 : Bool) : Nat := if a8 then 255 else 15

/-- The batch loop and quantisation blocks of a LAYER step (Tables 4.3 and 6.4): b holds the six words, q the
four. None for a reserved encoding or bit, or a value out of its range (R104, R154, R161). -/
def parseLayer (b q : List Word) (chain : List SkStep) (ts : List Templ) : Option Layer :=
  let a8 := pf q 0 0 2 = 1
  let l : Layer :=
    { loopOrder := pf b 0 0 2, inSource := pf b 0 2 3, outTarget := pf b 0 5 3, inFormat := pf b 0 8 3,
      useWork := bit (pw b 0) 11, workCounter := pf b 0 12 4, golden := bit (pw b 0) 16, batch := pf b 1 0 16,
      nBlocks := pf b 1 16 5 + 1, kParts := pf b 1 21 10 + 1, inStride := pf b 2 0 16, outStride := pf b 2 16 16,
      slotBase := pf b 3 0 9, slotCount := pf b 3 9 9, accShift := sx 6 (pf b 3 18 6), homeCore := pf b 3 24 5,
      inBase := pf b 4 0 17, claimSize := pf b 4 17 7 + 1, outBase := pf b 5 0 17, partTotal := pf b 5 17 10,
      actBits8 := a8, zpMode := pf q 0 2 2, scaleSource := pf q 0 4 2, rerun := bit (pw q 0) 6,
      staticZp := pf q 0 8 8, staticScale := pf q 0 16 16, missSatFrac := pf q 1 0 8, underusePeak := pf q 1 8 8,
      satThreshold := pf q 1 16 16, marginOrRow := (pw q 2).toNat, toFunnel := false, chain := chain,
      templates := ts }
  let reach := ts.foldl (fun m t => max m (t.inOffset + t.rowCount)) 0
  if decide (l.loopOrder ≤ 2) && decide (l.inSource ≤ 1) && decide (l.outTarget ≤ 3) && decide (l.inFormat ≤ 4) &&
     pf b 0 17 15 = 0 && pf b 1 31 1 = 0 && pf b 3 29 3 = 0 && pf b 4 24 8 = 0 && pf b 5 27 5 = 0 &&
     decide (1 ≤ l.batch) && decide (l.batch * l.nBlocks ≤ 65536) && decide (1 ≤ l.slotCount) &&
     decide (l.slotCount ≤ 384) && decide (-16 ≤ l.accShift) && decide (l.accShift ≤ 15) &&
     decide (pf q 0 0 2 ≤ 1) && decide (l.zpMode ≤ 2) && pf q 0 7 1 = 0 && pw q 3 = 0 &&
     decide (l.staticZp ≤ topCode a8) && (l.scaleSource ≠ 2 || scaleValid l.staticScale) &&
     (l.scaleSource ≠ 3 || l.marginOrRow == 0 || decide (reach ≤ l.marginOrRow)) &&
     ts.all (fun t => decide (t.part ≤ l.partTotal)) &&
     chain.dropLast.all (fun k => k.func ≠ 1 && k.func ≠ 0x0B && k.func ≠ 0x0C) then some l
  else none

/-- One step's words (R306, Table 10.14). -/
def parseStep (w : List Word) : Option Step :=
  let n := pf w 0 8 24
  match pf w 0 0 8 with
  | 0x01 =>
    let s := pf w 1 0 4
    let t := pf w 1 16 16
    if n = 12 + 2 * s + 4 * t && decide (1 ≤ s) && decide (s ≤ 8) && pf w 1 4 12 = 0 then
      let b := (w.drop 2).take 6
      match parseMany parseSk 2 s ((w.drop 12).take (2 * s)), parseMany parseTempl 4 t (w.drop (12 + 2 * s)) with
      | some c, some ts =>
        if t = (pf b 1 16 5 + 1) * (pf b 1 21 10 + 1) then (parseLayer b ((w.drop 8).take 4) c ts).map .layer else none
      | _, _ => none
    else none
  | 0x02 =>
    if n = 2 && decide (pf w 1 5 6 < 48) && decide (1 ≤ pf w 1 11 8) && pf w 1 19 13 = 0 then
      some (.signal (pf w 1 0 5) (pf w 1 5 6) (pf w 1 11 8)) else none
  | 0x03 =>
    if n = 3 && decide (pf w 1 0 6 < 48) && pf w 1 8 24 = 0 then
      some (.wait (pf w 1 0 6) (bit (pw w 1) 6) (bit (pw w 1) 7) (pw w 2).toNat) else none
  | 0x04 =>
    if n = 3 && pf w 1 4 12 = 0 then some (.lid (pf w 1 0 4) (pf w 1 16 16 + 65536 * (pw w 2).toNat)) else none
  | 0x05 => if n = 1 then some .fence else none
  | 0x06 => if n = 3 && pf w 1 4 28 = 0 then some (.workReset (pf w 1 0 4) (pw w 2).toNat) else none
  | _ => none

/-- A step list: the steps fill it exactly. fuel counts words. -/
def parseSteps (fuel : Nat) (w : List Word) : Option (List Step) :=
  match fuel, w with
  | _, [] => some []
  | 0, _ => none
  | f + 1, x :: r =>
    let n := bits x 8 24
    let me := (x :: r).take n
    if n = 0 || me.length ≠ n then none
    else match parseStep me, parseSteps f ((x :: r).drop n) with
      | some a, some b => some (a :: b)
      | _, _ => none

/-- Whether two byte ranges share a byte. -/
def overlapR (a n b m : Nat) : Bool := decide (0 < n) && decide (0 < m) && decide (a < b + m) && decide (b < a + n)

/-- Whether a range lies within another; an empty range lies anywhere. -/
def withinR (a n b m : Nat) : Bool := n == 0 || (decide (b ≤ a) && decide (a + n ≤ b + m))

/-- A part record with what it names (Table 10.13, R304, R307). -/
def parsePart (d : Bytes) (i : Nat) : Option Part :=
  let o := 0x40 + 64 * i
  let f := leAt d (o + 1) 1
  let so := leAt d (o + 4) 4
  let sb := leAt d (o + 8) 4
  let co := leAt d (o + 0x24) 4
  let cb := leAt d (o + 0x28) 4
  let words := toWords (sb / 4) ((d.drop so).take sb)
  match parseSteps words.length words with
  | some steps =>
    let p : Part :=
      { core := leAt d o 1, entryAtDispatch := bitN f 0, banked := bitN f 1, entryCounter := leAt d (o + 2) 1,
        entryValue := leAt d (o + 3) 1, counters := leAt d (o + 0x10) 8, actBase := leAt d (o + 0x18) 4,
        actBytes := leAt d (o + 0x1C) 4, maskBase := leAt d (o + 0x20) 4, consts := sliceB d co cb,
        constDest := leAt d (o + 0x2C) 4, inboxBase := leAt d (o + 0x30) 4, inboxBytes := leAt d (o + 0x34) 4,
        queue := none, steps := steps }
    if decide (so + sb ≤ d.length) && sb % 4 == 0 && decide (co + cb ≤ d.length) && decide (cb ≤ 16384) &&
       cb % 64 == 0 && decide (p.core < 32) && f / 4 == 0 && leAt d (o + 0x0C) 4 == 0 && leAt d (o + 0x38) 8 == 0 &&
       (p.entryAtDispatch || decide (p.entryCounter < 48)) && decide (1 ≤ p.entryValue) &&
       decide (p.counters < 2 ^ 48) && p.actBase % 64 == 0 && decide (p.actBase + p.actBytes ≤ 131072) &&
       decide (p.inboxBytes ≤ 32768) && withinR p.constDest cb p.actBase p.actBytes &&
       withinR p.inboxBase p.inboxBytes p.actBase p.actBytes &&
       !overlapR p.constDest cb p.inboxBase p.inboxBytes &&
       (!p.banked || (decide (p.counters < 2 ^ 12) && decide (p.actBase + p.actBytes ≤ 32768))) then some p
    else none
  | none => none

/-- The parts of a descriptor from part i on. -/
def parseParts (d : Bytes) (n i : Nat) : Option (List Part) :=
  match n with
  | 0 => some []
  | m + 1 =>
    match parsePart d i, parseParts d m (i + 1) with
    | some p, some r => some (p :: r)
    | _, _ => none

/-- A descriptor of level 2 (Table 10.12). -/
def parseKernel (part id : Nat) (d : Bytes) : Option Kernel :=
  let n := leAt d 6 2
  if leAt d 0 4 = 0x4C4E524B && leAt d 4 2 = 2 && decide (1 ≤ n) && decide (n ≤ 32) && leAt d 8 4 = d.length &&
     decide (64 + 64 * n ≤ d.length) && (sliceB d 12 52).all (· == 0) then
    match parseParts d n 0 with
    | some ps =>
      if (dedup (ps.map (·.core))).length = ps.length && (ps.head?.elim false (·.entryAtDispatch)) then
        some { part := part, id := id, level1 := false, bytes := d, parts := ps }
      else none
    | none => none
  else none

/-! ## Parameter records (R181, R183, R462) -/

/-- Bytes of the constant block at a buffer offset, where they lie wholly in it. -/
def Part.constAt (p : Part) (off n : Nat) : Option Bytes :=
  if decide (p.constDest ≤ off) && decide (off + n ≤ p.constDest + p.consts.length) then
    some (sliceB p.consts (off - p.constDest) n) else none

/-- A REQUANT parameter record (R181). -/
structure RqParam where
  a8 : Bool
  zpMode : Nat
  zp : Nat
  g : Nat
  signed : Bool

/-- Read a REQUANT parameter record; none where it is invalid (R462). -/
def rqParam (b : Bytes) : Option RqParam :=
  let w0 := w32 (leAt b 0 4)
  let w1 := w32 (leAt b 4 4)
  let p : RqParam := { a8 := bits w0 0 2 = 1, zpMode := bits w0 2 2, zp := bits w0 8 8, g := 32 * 2 ^ bits w1 0 2,
                       signed := bit w1 2 }
  if decide (bits w0 0 2 ≤ 1) && decide (p.zpMode ≤ 2) && bits w0 7 1 = 0 && decide (p.zp ≤ topCode p.a8) &&
     bits w1 0 2 ≠ 3 && bits w1 3 29 = 0 && (p.zpMode == 0 || !p.signed) then some p else none

/-- A DOT parameter record (R183). -/
structure DotParam where
  m : Nat
  d : Nat
  n : Nat
  fmt : Nat
  off : Nat

/-- Read a DOT parameter record; none where it is invalid for a row of a length in an activation range
(R462). -/
def dotParam (b : Bytes) (rowLen base bytes : Nat) : Option DotParam :=
  let p : DotParam := { m := leAt b 0 1, d := leAt b 1 1, n := leAt b 2 1, fmt := leAt b 3 1, off := leAt b 4 4 }
  let ok := fun (v : Nat) => decide (1 ≤ v) && decide (v ≤ 64)
  if ok p.m && ok p.d && ok p.n && decide (p.m * p.d ≤ rowLen) && (p.fmt == 0 || p.fmt == 3 || p.fmt == 4) &&
     withinR p.off (p.d * p.n * fmtSize p.fmt) base bytes then some p else none

/-- The row length before step i of a chain; a DOT whose record is not in the constant block leaves it
unknown. -/
def rowLenAt (p : Part) (chain : List SkStep) (start i : Nat) : Option Nat :=
  (chain.take i).foldl (fun r k =>
    if k.func = 0x0D then
      match p.constAt k.param 8 with
      | some b => some (leAt b 0 1 * leAt b 2 1)
      | none => none
    else r) (some start)

/-- Every parameter record that lies in the constant block is valid (R462). -/
def paramsValid (p : Part) (l : Layer) : Bool :=
  l.chain.zipIdx.all (fun x =>
    match p.constAt x.1.param 8 with
    | some b =>
      if x.1.func = 1 then (rqParam b).isSome
      else if x.1.func = 0x0D then
        (dotParam b ((rowLenAt p l.chain (512 * l.nBlocks) x.2).getD 4096) p.actBase p.actBytes).isSome
      else true
    | none => true)

/-- Bytes of REQUANT's output of E elements (R181). -/
def requantBytes (e : Nat) (p : RqParam) : Nat := e + 2 * (e / p.g) + (if p.zpMode = 2 then e / p.g else 0)

/-- Bytes of one item's output from a row of a length (R161, R181, R182). -/
def outBytes (l : Layer) (rowLen : Nat) (rq : Option RqParam) : Nat :=
  match l.chain.getLast? with
  | some k =>
    let s := fmtSize k.outFormat
    if k.func = 1 then
      (match rq with
       | some p => requantBytes (512 * l.nBlocks) p
       | none => 512 * l.nBlocks + 8 * l.nBlocks)
    else if k.func = 0x0B then (k.kM1 + 1) * (s + 2)
    else if k.func = 0x0C then 2 + s
    else rowLen * s
  | none => 0

/-- Bytes between items' outputs (R161). -/
def outStep (l : Layer) : Nat :=
  match l.chain.getLast? with
  | some k => l.outStride * (if k.func = 1 then 1 else fmtSize k.outFormat)
  | none => 0

/-- The byte length of an item's output as far as the descriptor tells it. -/
def outBytesAt (p : Part) (l : Layer) : Nat :=
  outBytes l ((rowLenAt p l.chain (512 * l.nBlocks) l.chain.length).getD (512 * l.nBlocks))
    ((l.chain.getLast?).bind (fun k => (p.constAt k.param 8).bind rqParam))

/-! ## Checks that need no model -/

/-- A check: none when it holds, else the status of the refusal. -/
def need (st : Nat) (ok : Bool) : Option Nat := if ok then none else some st

/-- The first failed check. -/
def firstBad (l : List (Option Nat)) : Option Nat := l.findSome? id

/-- The checks of one stage of R286: BAD_PARAM before any other status, then the first that failed. -/
def gravest (l : List (Option Nat)) : Option Nat :=
  if l.contains (some stBadParam) then some stBadParam else firstBad l

/-- The layers of a part. -/
def Part.layers (p : Part) : List Layer :=
  p.steps.filterMap (fun x => match x with
    | .layer l => some l
    | _ => none)

/-- The lid lines a kernel uses with the cores that arrive on them. -/
def Kernel.lids (k : Kernel) : List (Nat × Nat) :=
  k.parts.flatMap (fun p => p.steps.filterMap (fun x => match x with
    | .lid l _ => some (p.core, l)
    | _ => none))

/-- The counters a part names by its own steps and entry (R192). -/
def Part.named (p : Part) : List Nat :=
  (if p.entryAtDispatch then [] else [p.entryCounter]) ++
  p.steps.flatMap (fun x => match x with
    | .wait c _ _ _ => [c]
    | .lid _ m => bitsSet m 48
    | _ => [])

/-- The signals of a kernel. -/
def Kernel.signals (k : Kernel) : List (Nat × Nat) :=
  k.parts.flatMap (fun p => p.steps.filterMap (fun x => match x with
    | .signal c n _ => some (c, n)
    | _ => none))

/-- The part of a kernel on a core. -/
def Kernel.on? (k : Kernel) (core : Nat) : Option Part := k.parts.find? (fun p => p.core == core)

/-- The counters of a kernel lie in their declared sets (R192). -/
def countersOk (k : Kernel) : Bool :=
  k.parts.all (fun p => p.named.all (fun c => bitN p.counters c)) &&
  k.signals.all (fun x => (k.on? x.1).elim false (fun p => bitN p.counters x.2))

/-- A work counter belongs to a partition (R165, Table 11.3). -/
def State.workOwned (s : State) (p w : Nat) : Bool :=
  s.regf (0x640 + 4 * (w / 8)) (4 * (w % 8)) 4 == p + 8

/-- The work counters a part names. -/
def Part.works (p : Part) : List Nat :=
  p.steps.flatMap (fun x => match x with
    | .layer l => if l.useWork then [l.workCounter] else []
    | .workReset c _ => [c]
    | _ => [])

/-- Mask records named by templates lie in the activation range (R307). -/
def masksOk (p : Part) (l : Layer) : Bool :=
  l.templates.all (fun t => !(t.rowMask || t.colMask) ||
    (decide (p.actBase ≤ p.maskBase) && decide (p.maskBase + 128 * (t.maskIndex + 1) ≤ p.actBase + p.actBytes)))

/-- Two layers name the same slots for every (b, n) (R175). -/
def sameSlots (a b : Layer) : Bool :=
  a.slotBase == b.slotBase && a.slotCount == b.slotCount && a.nBlocks == b.nBlocks && a.batch == b.batch &&
  a.partTotal == b.partTotal

/-- The receiving step of a sending layer, with no other layer of the home part on its slots (R175). -/
def receives (h : Part) (l : Layer) : Bool :=
  let rs := h.layers.filter (fun x => x.outTarget ≠ 3 && sameSlots x l)
  rs.length == 1 && (h.layers.filter (fun x => overlapR x.slotBase x.slotCount l.slotBase l.slotCount)).length == 1

/-- What a layer aims at another part is allowed (R307, R175, R161). -/
def targetCheck (s : State) (k : Kernel) (p : Part) (l : Layer) : Option Nat :=
  if l.outTarget ≠ 1 && l.outTarget ≠ 3 then none
  else if !bitN (s.partCores k.part) l.homeCore then some stNoResource
  else match k.on? l.homeCore with
    | none => some stBadParam
    | some h =>
      if l.outTarget = 1 then
        need stBadParam (h.entryAtDispatch || (upTo l.batch).all (fun b =>
          withinR (l.outBase + b * outStep l) (outBytesAt p l) h.inboxBase h.inboxBytes))
      else need stBadParam (h.entryAtDispatch && receives h l)

/-- The checks of one layer that need no model. -/
def layerCheck (s : State) (k : Kernel) (p : Part) (l : Layer) : Option Nat :=
  gravest [need stBadParam (masksOk p l), need stBadParam (paramsValid p l), targetCheck s k p l,
    need stNoResource (decide (l.slotBase + l.slotCount ≤ 384))]

/-- Lid lines (R199, R255). -/
def lidCheck (s : State) (k : Kernel) : Option Nat :=
  if k.lids.isEmpty then none
  else gravest [need stBadParam (k.parts.all (·.entryAtDispatch)),
    need stNoResource (k.lids.all (fun x =>
      s.regf (0x204 + 8 * x.2) 0 1 == 1 && s.regf (0x204 + 8 * x.2) 1 3 == k.part &&
      bitN (s.regf (0x200 + 8 * x.2) 0 32) x.1))]

/-- Every check of a kernel that needs no model (R307). -/
def kernelCheck (s : State) (k : Kernel) : Option Nat :=
  gravest ([need stBadParam (k.parts.all (fun p => bitN (s.partCores k.part) p.core)), need stBadParam (countersOk k)] ++
    k.parts.flatMap (fun p => p.layers.map (layerCheck s k p)) ++
    [lidCheck s k, need stNoResource (k.parts.all (fun p => p.works.all (s.workOwned k.part)))])

/-- Whether the demand of Table 6.5 exceeds SLOT_COUNT. -/
def spills (l : Layer) : Bool :=
  match l.loopOrder with
  | 0 => false
  | 1 => decide (l.slotCount < l.nBlocks)
  | _ => decide (l.slotCount < l.batch * l.nBlocks)

/-- Whether a kernel spills in some layer (R163, R300). -/
def Kernel.spills (k : Kernel) : Bool := k.parts.any (fun p => p.layers.any Machine.spills)

/-! ## Checks that depend on a model (R307) -/

/-- The configuration words newest for a tile. -/
def Tile.newestCfg (t : Tile) : List Word := (t.cfgs.getLast?).elim cfgDefault (·.words)

/-- Whether a model of a partition holds a tile: committed, or also staged. -/
def State.holds (s : State) (p c t : Nat) (staged : Bool) : Bool :=
  s.pre.models.any (fun m => m.part == p && (m.state == 2 || (staged && m.state == 1)) &&
    m.records.any (fun r => r.core == c && r.tile == t))

/-- Rows of a template that its mask record leaves unmasked; mask is none where the record is not known. -/
def templRows (t : Templ) (mask : Option Bytes) : List Nat :=
  ((upTo t.rowCount).map (fun i => t.rowFirst + i)).filter (fun r =>
    !t.rowMask || mask.elim true (fun b => bitN (b.getD (r / 8) 0).toNat (r % 8)))

/-- Columns present in a template. -/
def templCols (t : Templ) (mask : Option Bytes) : List Nat :=
  ((upTo t.colCount).map (fun j => t.colFirst + j)).filter (fun j =>
    !t.colMask || mask.elim true (fun b => bitN (b.getD (64 + j / 8) 0).toNat (j % 8)))

/-- Whether a row holds a weight in some data column (R100). -/
def State.occupied (s : State) (c t row : Nat) : Bool := (upTo 512).any (fun j => s.effW c t row j ≠ 0)

/-- Masked rows beside unmasked ones hold no weight where the operation has a zero point (R102). -/
def State.edgeOk (s : State) (p : Part) (l : Layer) (t : Templ) : Bool :=
  let zero := l.zpMode == 2 || (l.zpMode == 1 && l.staticZp ≠ 0)
  let used := templRows t (p.constAt (p.maskBase + 128 * t.maskIndex) 128)
  !zero || (upTo 512).all (fun r =>
    used.contains r || !(used.any (fun u => u / 32 == r / 32)) || !s.occupied p.core t.tile r)

/-- The tiles a template runs on. -/
def State.templTiles (s : State) (c : Nat) (t : Templ) : List Nat :=
  if t.pair then [t.tile, (s.tile c t.tile).pair] else [t.tile]

/-- The bound of R159 stays below 2^39. -/
def State.boundOk (s : State) (c : Nat) (l : Layer) (t : Templ) : Bool :=
  let ts := s.templTiles c t
  let w := (s.tile c t.tile).newestCfg
  let pass := if l.actBits8 then (if cfgSigned w then 16 else 17) else 1
  let f := pass * (ts.foldl (fun a x => a + (if (s.tile c x).role = 2 then 15 else 1)) 0)
  let gi := ts.foldl (fun a x => max a (cfgGi (s.tile c x).newestCfg)) 0
  let n := 2 * (512 / cfgG w) * f * (64 * 255 * 65535) * (l.partTotal + 1)
  let e : Int := (gi : Int) - 15 - l.accShift
  if 0 ≤ e then decide (n * 2 ^ e.toNat < 2 ^ 39) else decide (n < 2 ^ (39 + (-e).toNat))

/-- E of a supplied input (Table 4.3). -/
def suppliedLen (l : Layer) : Nat :=
  let reach := l.templates.foldl (fun m t => max m (t.inOffset + t.rowCount)) 0
  if l.marginOrRow = 0 then (reach + 511) / 512 * 512 else l.marginOrRow

/-- The twin of a tile holds the same role, weights and configuration, or is retired (R355, R356): the digests of R125 cover
the tile's own number, so they are compared without it (log 25). -/
def State.twinOk (s : State) (c t : Nat) : Bool :=
  let u := t ^^^ 16
  let a := s.tile c t
  let b := s.tile c u
  s.tileOut c u ||
  (a.role == b.role && (a.role == 0 || a.pair ^^^ 16 == b.pair) && a.weights == b.weights && a.newestCfg == b.newestCfg)

/-- No column of a template lies in a block without a checksum, unless the work is assured (R60). -/
def State.checkedCols (s : State) (c t : Nat) (p : Part) (x : Templ) : Bool :=
  (templCols x (p.constAt (p.maskBase + 128 * x.maskIndex) 128)).all (fun j => !s.colRetired c t (512 + j / 32))

/-- The checks of one template against the tiles that hold its weights; bound adds those of a binding or
submission (R60). -/
def templCheck (s : State) (staged bound assured : Bool) (k : Kernel) (p : Part) (l : Layer) (t : Templ) : Option Nat :=
  let v := s.tile p.core t.tile
  let ts := s.templTiles p.core t
  let w := v.newestCfg
  if s.tileOut p.core t.tile || !s.holds k.part p.core t.tile staged then some stNoResource
  else if t.pair && v.role ≠ 1 then some stBadParam
  else gravest [
    need stNoResource (ts.all (fun x => !s.tileOut p.core x && s.holds k.part p.core x staged)),
    need stBadParam (l.zpMode == 0 || ts.all (fun x => !cfgSigned (s.tile p.core x).newestCfg)),
    need stBadParam (ts.all (fun x => s.edgeOk p l { t with tile := x })),
    need stBadParam (l.scaleSource ≠ 3 || l.marginOrRow == 0 || l.marginOrRow % cfgG w == 0),
    need stBadParam (l.scaleSource ≠ 3 || t.inOffset % cfgG w == t.rowFirst % cfgG w),
    need stBadParam (s.boundOk p.core l t),
    need stBadParam (!assured || ts.all (s.twinOk p.core)),
    need stNoResource (!bound || assured || ts.all (fun x => s.checkedCols p.core x p t))]

/-- The tiles of each reduction of a layer agree in GROUP_SIZE and DRIVE_MODE (R104). -/
def uniform (s : State) (part : Nat) (staged : Bool) (p : Part) (l : Layer) : Bool :=
  (upTo l.nBlocks).all (fun n =>
    let ts := ((l.templates.drop (n * l.kParts)).take l.kParts).filter (fun t => s.holds part p.core t.tile staged)
    let ks := ts.map (fun t =>
      let w := (s.tile p.core t.tile).newestCfg
      (cfgG w, cfgSigned w))
    decide ((dedup ks).length ≤ 1))

/-- A later layer of the part that takes a REQUANT's output matches it (R181). -/
def takerOk (s : State) (part : Nat) (staged : Bool) (p : Part) (l : Layer) (later : List Layer) : Bool :=
  match (l.chain.getLast?).bind (fun k => if k.func = 1 then (p.constAt k.param 8).bind rqParam else none) with
  | some rq =>
    l.outTarget ≠ 0 || later.all (fun x =>
      !(x.scaleSource == 3 && x.inSource == 1 && x.inBase == l.outBase) ||
      (x.actBits8 == rq.a8 && x.zpMode == rq.zpMode && suppliedLen x == 512 * l.nBlocks &&
       (x.templates.filter (fun t => s.holds part p.core t.tile staged)).all (fun t =>
         let w := (s.tile p.core t.tile).newestCfg
         cfgG w == rq.g && cfgSigned w == rq.signed)))
  | none => true

/-- Every layer of a part with the layers after it. -/
def layerTails (l : List Layer) : List (Layer × List Layer) :=
  match l with
  | [] => []
  | x :: r => (x, r) :: layerTails r

/-- The tiles as the staged models and staged tile configurations of a partition will set them (R152, R307). -/
def State.stagedView (s : State) (p : Nat) : State :=
  let recs := (s.pre.models.filter (fun m => m.part == p && m.state == 1)).flatMap (·.records)
  let cmds := ((s.pre.pending.filter (fun q => q.part == p)).flatMap (fun q => q.set.cmds) ++ (s.openSet p).cmds).filter
    (fun x => x.op == 0x105)
  let s1 := each recs (fun r t => t.modTile r.core r.tile (fun v =>
    { v with role := r.role, pair := r.pair, cfgs := v.cfgs ++ [{ since := 0, words := r.config }] })) s
  each cmds (fun x t => t.modTile (pf x.w 0 0 5) (pf x.w 0 5 6) (fun v =>
    { v with cfgs := v.cfgs ++ [{ since := 0, words := x.w.drop 1 }] })) s1

/-- The model-dependent checks of a kernel (R307, R355): staged admits staged models beside committed ones; a
binding or submission also needs cores in service (R377). -/
def modelCheck (s0 : State) (staged bound : Bool) (k : Kernel) : Option Nat :=
  let s := if staged then s0.stagedView k.part else s0
  let assured := bit (s.reg (partOff k.part 0x500)) 0
  gravest ([need stNoResource (!bound || k.parts.all (fun p => !s.coreRetired p.core))] ++ k.parts.flatMap (fun p => (layerTails p.layers).flatMap (fun x =>
    x.1.templates.map (templCheck s staged bound assured k p x.1) ++
    [need stBadParam (uniform s k.part staged p x.1), need stBadParam (takerOk s k.part staged p x.1 x.2)])))

/-- The persistent area of a binding lies in part 0's range, clear of its constants and inbox (R307). -/
def persistOk (k : Kernel) (sched : List Word) : Bool :=
  let n := 1024 * pf sched 3 0 6
  let o := pf sched 3 6 17
  match k.parts.head? with
  | some p => withinR o n p.actBase p.actBytes && !overlapR o n p.constDest p.consts.length &&
      !overlapR o n p.inboxBase p.inboxBytes
  | none => false

/-- Whether a kernel writes Funnel records. -/
def Kernel.toFunnel (k : Kernel) : Bool := k.parts.any (fun p => p.layers.any (fun l => l.outTarget == 2 || l.toFunnel))

/-! ## Level-1 problems (R187, log 17) -/

/-- A problem of Table 10.11; core is the number in the partition's list. -/
structure Problem where
  core : Nat
  queue : Nat
  slot : Nat
  accumulate : Bool
  readOut : Bool
  toFunnel : Bool
  templ : Templ
  off : Nat

/-- Read a problem. -/
def parseProblem (w : List Word) : Option Problem :=
  match parseTempl ((w.drop 1).take 4) with
  | some t =>
    if decide (pf w 0 5 9 < 384) && pf w 0 17 15 = 0 && pf w 5 17 15 = 0 && t.part == 0 then
      some { core := pf w 0 0 3, queue := pf w 0 3 2, slot := pf w 0 5 9, accumulate := bit (pw w 0) 14,
             readOut := bit (pw w 0) 15, toFunnel := bit (pw w 0) 16, templ := t, off := pf w 5 0 17 }
    else none
  | none => none

/-- The reductions of one queue: those open by slot, and the layers of those read out, in order; none where a
problem finds its slot in the wrong state. -/
def reductions (ps : List Problem) (open_ : Tbl (List Problem)) (done : List Layer) : Option (List Layer) :=
  match ps with
  | [] => if open_.isEmpty then some done else none
  | x :: r =>
    match tget? open_ x.slot, x.accumulate with
    | some _, false => none
    | none, true => none
    | prev, _ =>
      let all := prev.getD [] ++ [x]
      if x.readOut then
        let ts := all.zipIdx.map (fun e => { e.1.templ with part := e.2 })
        let l : Layer :=
          { loopOrder := 0, inSource := 1, outTarget := 0, inFormat := 3, useWork := false, workCounter := 0,
            golden := false, batch := 1, nBlocks := 1, kParts := ts.length, inStride := 0, outStride := 0,
            slotBase := x.slot, slotCount := 1, accShift := 0, homeCore := 0, inBase := (all.head?.elim 0 (·.off)),
            claimSize := 1, outBase := x.off, partTotal := ts.length - 1, actBits8 := false, zpMode := 0,
            scaleSource := 0, rerun := true, staticZp := 0, staticScale := 0, missSatFrac := 16, underusePeak := 2,
            satThreshold := 256, marginOrRow := 0, toFunnel := x.toFunnel,
            chain := [{ func := 0, outFormat := 3, perColumn := false, kM1 := 0, imm := 0, param := 0 }],
            templates := ts }
        reductions r (tdel open_ x.slot) (done ++ [l])
      else reductions r (tset open_ x.slot all) done

/-- A level-1 kernel from its problems: one part for each queue of each core it names (R187). -/
def level1Kernel (s : State) (p : Nat) (ps : List Problem) : Option Nat × Option Kernel :=
  let cores := bitsSet (s.partCores p) 32
  if ps.any (fun x => decide (cores.length ≤ x.core)) then (some stNoResource, none)
  else if ps.any (fun x => ps.any (fun y => x.core == y.core && x.queue ≠ y.queue && x.slot == y.slot)) then
    (some stNoResource, none)
  else
    let keys := sortNat (ps.map (fun x => 4 * x.core + x.queue))
    let parts := keys.map (fun q =>
      let mine := ps.filter (fun x => 4 * x.core + x.queue == q)
      (reductions mine [] []).map (fun ls =>
        ({ core := cores.getD (q / 4) 0, entryAtDispatch := true, banked := false, entryCounter := 0, entryValue := 1,
           counters := 0, actBase := 0, actBytes := 131072, maskBase := 0, consts := [], constDest := 0,
           inboxBase := 0, inboxBytes := 0, queue := some (q % 4), steps := ls.map .layer } : Part)))
    if parts.any Option.isNone then (some stBadParam, none)
    else (none, some { part := p, id := 0, level1 := true, bytes := [], parts := parts.filterMap id })

end Sys2Proof.Machine
end

