-- ==== Sys2Proof/Machine/Slicer.lean ====
section
/-! DEFINITION. The time slicer: candidates and their order (R258 to R260), dispatch and entry (R255, R256, R302 to
R305), leaving (R257), switching out (R163, R164, R263), prefetch (R264), drops (R267) and the entry watchdog
(R257). A context's counters have one home, saved or resident (R193). -/

namespace Sys2Proof.Machine

/-! ## Counters of a context (R190, R191) -/

/-- V and B of a counter of a context on a core. -/
def Ctx.vb (c : Ctx) (core n : Nat) : Word × Word := tget c.sync (48 * core + n) (0, 0)

/-- Put V and B. -/
def Ctx.setVb (c : Ctx) (core n : Nat) (v : Word × Word) : Ctx := { c with sync := tset c.sync (48 * core + n) v }

/-- The serial comparison of R191. -/
def satisfied (v e : Word) : Bool := decide ((v - e).toNat < 2 ^ 31)

/-- A part's save record before it has been written. -/
def SaveRec.fresh (p : Part) : SaveRec :=
  { core := p.core, queue := 255, entered := false, left := false, step := 0, wdog := 0,
    eEntry := p.entryValue, started := false }

/-- The save record of a part. -/
def Ctx.save (c : Ctx) (k : Kernel) (i : Nat) : SaveRec :=
  match tget? c.saves i with
  | some v => v
  | none => (k.parts[i]?).elim
    { core := 0, queue := 255, entered := false, left := false, step := 0, wdog := 0, eEntry := 1, started := false }
    SaveRec.fresh

/-! ## Fit (R192, R259, R304) -/

/-- Activation-buffer offset a part's queue adds (R304). -/
def Part.bank (p : Part) (q : Nat) : Nat := if p.banked then 32768 * q else 0

/-- A part's declared counters on a queue. -/
def Part.countersOn (p : Part) (q : Nat) : Nat := if p.banked then p.counters * 2 ^ (12 * q) else p.counters

/-- The part resident on a queue. -/
def State.resident? (s : State) (v : Queue) : Option Part := (s.run? v.run).bind (fun r => r.kernel.parts[v.part]?)

/-- Whether a part on a queue is clear of every resident part of its core. -/
def State.clearOf (s : State) (rid : Nat) (p : Part) (q : Nat) : Bool :=
  (s.core p.core).queues.all (fun x =>
    x.2.run == rid ||
    match s.resident? x.2 with
    | some o => (p.countersOn q &&& o.countersOn x.1) == 0 &&
        !overlapR (p.actBase + p.bank q) p.actBytes (o.actBase + o.bank x.1) o.actBytes
    | none => true)

/-- The queue a part would take: its own at level 1, else the lowest-numbered free one on which it fits. -/
def State.freeQueue? (s : State) (rid : Nat) (p : Part) : Option Nat :=
  let ok := fun (q : Nat) => (s.queue? p.core q).isNone && s.clearOf rid p q
  match p.queue with
  | some q => if ok q then some q else none
  | none => (upTo 4).find? ok

/-- Whether a core takes parts: in service, and no self-test slice holds it (R260). -/
def State.coreOpen (s : State) (c : Nat) : Bool :=
  s.coreUp c && !s.running.any (fun a => a.slice && a.core == c)

/-- Whether a tile may be given work (R260); a retired one contributes nothing and does not hold work back
(R63). -/
def State.tileUsable (s : State) (c t : Nat) : Bool :=
  let v := s.tile c t
  match v.state with
  | .ready => !v.withheld
  | .suspect => !v.withheld
  | .retired => true
  | _ => false

/-- The tiles a kernel uses, pairs with both. -/
def State.allTiles (s : State) (k : Kernel) : List (Nat × Nat) :=
  k.parts.flatMap (fun p => p.layers.flatMap (fun l =>
    l.templates.flatMap (fun t => (s.templTiles p.core t).map (fun x => (p.core, x)))))

/-! ## Candidates -/

/-- A dispatch (entry none) or the entry of a part, with its deadline in 1/256 tick. -/
structure Cand where
  ctx : Nat
  entry : Option Nat
  deadline : Nat
  kernel : Kernel
  run : Nat
  rank : Nat

/-- DEADLINE_TK of a window, added to its last tick (R258). -/
def Window.deadline (w : Window) : Nat := w.last256 + 256 * (w.sched.getD 0 0).toNat

/-- Whether a flow dispatches windows: Bound, or draining (R253, R260). -/
def Ctx.dispatches (c : Ctx) : Bool :=
  c.state == 2 || (c.state == 3 && c.closing.elim false (·.drain))

/-- Whether a part of a run waits to enter: not left, not resident, and its entry condition met or its earlier
residence to be resumed (R256, R263). -/
def entryReady (c : Ctx) (k : Kernel) (i : Nat) : Bool :=
  match k.parts[i]? with
  | some p =>
    let v := c.save k i
    !v.left && !v.entered &&
    (v.started || (!p.entryAtDispatch && satisfied (c.vb p.core p.entryCounter).1 (w32 v.eEntry)))
  | none => false

/-- The candidates of a context. Level-1 kernels, and while the timebase does not run all command contexts, rank in the order
taken (R302). -/
def State.ctxCands (s : State) (n : Nat) (c : Ctx) : List Cand :=
  let rank := if c.isCmd && (!s.tbRunning || c.kernel.elim false (·.level1)) then c.order else n
  let dl := fun (d : Nat) => if s.tbRunning || !c.isCmd then d else 0
  match c.run with
  | some rid =>
    match s.run? rid with
    | some r =>
      if r.abandoned then []
      else ((upTo r.kernel.parts.length).filter (entryReady c r.kernel)).map (fun i =>
        { ctx := n, entry := some i, deadline := dl r.deadline, kernel := r.kernel, run := rid, rank := rank })
    | none => []
  | none =>
    if c.isCmd then
      match c.kernel with
      | some k => [{ ctx := n, entry := none, deadline := dl c.deadline, kernel := k, run := s.flows.nextRun, rank := rank }]
      | none => []
    else match c.ready with
      | w :: _ => if c.dispatches then
          [{ ctx := n, entry := none, deadline := w.deadline, kernel := w.kernel, run := s.flows.nextRun, rank := rank }]
        else []
      | [] => []

/-- The candidates of a partition in the order of R259. -/
def State.cands (s : State) (p : Nat) : List Cand :=
  let all := (s.flows.ctxs.filter (fun e => e.2.part == p)).flatMap (fun e => s.ctxCands e.1 e.2)
  sortBy (fun x => (x.deadline : Int)) (sortBy (fun x => (x.rank : Int)) all)

/-- The parts a candidate makes resident. -/
def Cand.parts (x : Cand) : List (Nat × Part) :=
  match x.entry with
  | some i => (x.kernel.parts[i]?).elim [] (fun p => [(i, p)])
  | none => (x.kernel.parts.zipIdx.filter (fun e => e.1.entryAtDispatch)).map (fun e => (e.2, e.1))

/-- Free space of a Funnel FIFO in bytes (256 KiB; Table 11.8). -/
def Pkt.words (k : Pkt) : Nat := 8 + k.body.length

/-- Bytes held in a FIFO. -/
def Funnel.used (f : Funnel) : Nat := f.fifo.foldl (fun a e => a + 8 * e.pkt.words) 0

/-- Free bytes of a FIFO. -/
def Funnel.free (f : Funnel) : Nat := 262144 - f.used

/-- Whether the Funnel reports full (R327). -/
def State.funnelFull (s : State) (p : Nat) : Bool :=
  decide ((s.funnel p).free < 1024 * s.regf (partOff p 0x420) 0 9)

/-- The conditions of R260 but for free queues. -/
def State.candOpen (s : State) (p : Nat) (x : Cand) : Bool :=
  x.parts.all (fun e => s.coreOpen e.2.core) &&
  (x.entry.isSome || ((s.allTiles x.kernel).all (fun t => s.tileUsable t.1 t.2) && !s.funnelFull p))

/-- Whether a candidate meets R260. -/
def State.candOk (s : State) (p : Nat) (x : Cand) : Bool :=
  s.candOpen p x && x.parts.all (fun e => (s.freeQueue? x.run e.2).isSome)

/-! ## Entry -/

/-- Write bytes into an activation buffer of 131,072 bytes; what would pass its end is not written. -/
def putAct (c a : Nat) (b : Bytes) (s : State) : State :=
  s.modCore c (fun k => { k with act := Memory.writeBytes k.act a (b.take (131072 - a)) })

/-- Read bytes of an activation buffer. -/
def State.getAct (s : State) (c a n : Nat) : Bytes := Memory.readBytes (s.core c).act a n

/-- PERSIST_KIB in bytes and PERSIST_OFFSET of a scheduling block. -/
def persistOf (sched : List Word) : Nat × Nat := (1024 * pf sched 3 0 6, pf sched 3 6 17)

/-- The input of a submitted kernel (R302): core, offset and bytes. -/
def State.submitInput (s : State) (c : Ctx) (k : Kernel) : Option (Nat × Nat × Bytes) :=
  match c.cmd.bind s.cmd? with
  | some m =>
    if k.level1 then
      let core := (bitsSet (s.partCores c.part) 32).getD (pf m.w 4 17 3) 0
      some (core, pf m.w 4 0 17, s.hostRead (pq m.w 1) (pf m.w 3 0 17))
    else some ((k.parts.head?.elim 0 (·.core)), pf m.w 5 0 17, s.hostRead (pq m.w 2) (pf m.w 4 0 17))
  | none => none

/-- The groups of a tile that the rows of a template touch (R87). -/
def State.templGroups (s : State) (c : Nat) (t : Templ) : List Nat :=
  let g := cfgG (s.tile c t.tile).newestCfg
  ((upTo 16).filter (fun i => decide (t.rowFirst / g ≤ i) && decide (i ≤ (t.rowFirst + t.rowCount - 1) / g)))

/-- Bytes of the carried-scale table of a context (R248): a word for each group of each carried layer, and a byte under a
dynamic zero point. -/
def State.carriedBytes (s : State) (k : Kernel) : Nat :=
  k.parts.foldl (fun a p => p.layers.foldl (fun b l =>
    if l.scaleSource = 1 then
      b + (l.templates.flatMap (s.templGroups p.core)).length * (if l.zpMode = 2 then 3 else 2)
    else b) a) 0

/-- Bytes of the save records of a kernel (R247). -/
def saveBytes (k : Kernel) : Nat := k.parts.foldl (fun a p => a + 16 + 8 * popcount p.counters 48) 0

/-- Whether a switch-in of a kernel's part is prefetched (R247, R264). -/
def State.prefetched (s : State) (core n : Nat) (k : Kernel) : Bool :=
  (s.core core).prefetch.contains n && decide (saveBytes k ≤ 928) && decide (s.carriedBytes k ≤ 4096)

/-- The free lines of a partition (R163, R244, R249). -/
def State.freeLines (s : State) (p : Nat) : List Nat :=
  let h := s.share p
  ((upTo h.2).map (fun i => h.1 + i)).filter (fun n =>
    (s.ctx? n).isNone && !s.flows.spillLines.any (fun e => e.2 == n))

/-- One partial sum is spilled for a context: to three free lines of the Stockpot, else to package memory
(R163). Answers whether it went to the Stockpot. -/
def spillOut (p n core : Nat) (s : State) : Bool × State :=
  match s.freeLines p with
  | a :: b :: c :: _ =>
    (true, count (coreCtr core 23) 1 (s.modFlows (fun f =>
      { f with spillLines := f.spillLines ++ [(n, a), (n, b), (n, c)] })))
  | _ => (false, count (coreCtr core 24) 1 (s.modFlows (fun f =>
      { f with spillMem := tset f.spillMem n (tget f.spillMem n 0 + 1) })))

/-- One spilled partial sum of a context returns, its lines first (R163). -/
def spillIn (n core : Nat) (s : State) : State :=
  let mine := (s.flows.spillLines.filter (fun e => e.1 = n)).take 3
  let s1 := count (coreCtr core 25) 1 s
  if mine.isEmpty then
    s1.modFlows (fun f => { f with
      spillMem := if tget f.spillMem n 0 ≤ 1 then tdel f.spillMem n else tset f.spillMem n (tget f.spillMem n 0 - 1) })
  else s1.modFlows (fun f => { f with spillLines := f.spillLines.filter (fun e => !mine.contains e) })

/-- Put back the Open slots of a part that was switched out (R164). -/
def unparkSlots (rid core : Nat) (s : State) : State :=
  match s.run? rid with
  | some r =>
    let mine := r.parked.filter (fun e => e.1 = core)
    let s1 := s.setRun rid { r with parked := r.parked.filter (fun e => e.1 ≠ core) }
    each mine (fun e t => spillIn r.ctx core
      (t.modCore core (fun k => { k with slots := tset k.slots e.2.1 e.2.2 }))) s1
  | none => s

/-- Every part of a run has left. -/
def Run.allLeft (r : Run) : Bool := decide (r.kernel.parts.length ≤ r.left.length)

/-- The carrying state of a flow after a window that ran (R106, R109, R112). -/
def carryOn (r : Run) (c : Ctx) : Ctx :=
  { c with missLast := r.marks.contains 4 || r.marks.contains 5, carryEpochs := (r.modelEpoch, r.configEpoch),
           carryValid := !c.carried.isEmpty, satArmed := c.satArmed || !r.satOver }

/-- A part of a run is over; with the last one the window is complete (R257). -/
def partOver (rid i : Nat) (s : State) : State :=
  match s.run? rid with
  | some r =>
    let r1 := { r with left := addOnce r.left i }
    let s1 := s.setRun rid r1
    if r1.allLeft then
      let spilt := r1.marks.contains 6 || (r1.kernel.spills && (s.ctx? r1.ctx).elim false (·.isCmd))
      let r2 := { r1 with status := some (r1.status.getD (if spilt then stAccSpill else stOk)) }
      endWindow rid ((s1.setRun rid r2).modCtx r2.ctx (carryOn r2))
    else s1
  | none => s

/-- A part leaves its queue after its last step (R248, R257). -/
def leavePart (core q : Nat) (s : State) : State :=
  match s.queue? core q with
  | some v =>
    match s.run? v.run, s.ctx? v.ctx with
    | some r, some c =>
      let p := r.kernel.parts[v.part]?
      let pe := r.window.elim (0, 0) (fun w => persistOf w.sched)
      let a := pe.2 + p.elim 0 (·.bank q)
      let s1 := if v.part = 0 && pe.1 ≠ 0 then
          s.setCtx v.ctx { c with persist := s.getAct core a pe.1 } else s
      let s2 := s1.modCtx v.ctx (fun c => { c with saves := tset c.saves v.part { c.save r.kernel v.part with
        queue := 255, entered := false, left := true, step := v.step, wdog := 0 } })
      let s3 := dropQueue core q (count (partCtr c.part 4) (4 * (s.clk - v.entryClk)) s2)
      let s4 := traceOnly 0x102 1 c.part (unitCore core) v.ctx q 0 0 s3
      partOver v.run v.part s4
    | _, _ => dropQueue core q s
  | none => s

/-- A part becomes resident on a queue (R248, R256, R303, R305). -/
def enterPart (n rid i q : Nat) (s : State) : State :=
  match s.ctx? n, s.run? rid with
  | some c, some r =>
    match r.kernel.parts[i]? with
    | some p =>
      let v := c.save r.kernel i
      let core := p.core
      let hit := s.prefetched core n r.kernel
      let s1 := s.setCtx n { c with saves := tset c.saves i { v with
        core := core, queue := q, entered := true, started := true,
        eEntry := if v.started then v.eEntry else (v.eEntry + p.entryValue) % 2 ^ 32 } }
      let s2 := putAct core (p.constDest + p.bank q) p.consts s1
      let inbox := Memory.readBytes (tget c.inbox i []) 0 p.inboxBytes
      let s3 := putAct core (p.inboxBase + p.bank q) inbox s2
      let pe := r.window.elim (0, 0) (fun w => persistOf w.sched)
      let s4 := if i = 0 && v.step = 0 && pe.1 ≠ 0 then putAct core (pe.2 + p.bank q) (padTo pe.1 c.persist) s3 else s3
      let s5 := if c.isCmd && i = 0 && v.step = 0 then
          match s.submitInput c r.kernel with
          | some x => putAct x.1 (x.2.1 + (if r.kernel.level1 then 0 else p.bank q)) x.2.2 s4
          | none => s4
        else s4
      let s6 := unparkSlots rid core s5
      let s7 := count (partCtr c.part (if hit then 5 else 6)) 1 s6
      let s8 := traceOnly 0x101 1 c.part (unitCore core) n q (b2n hit) 0 s7
      let s9 := (s8.modCore core (fun k => { k with prefetch := k.prefetch.filter (· ≠ n) })).setQueue core q
        { ctx := n, run := rid, part := i, step := v.step, stall := .none, loop := none, readout := none,
          progressClk := s.clk - v.wdog, resumptions := 0, entryClk := s.clk, stallClk := s.clk }
      if p.steps.length ≤ v.step then leavePart core q s9 else s9
    | none => s
  | _, _ => s

/-- Enter the parts of a candidate, each on its queue. -/
def enterAll (x : Cand) (s : State) : State :=
  each x.parts (fun e t => match t.freeQueue? x.run e.2 with
    | some q => enterPart x.ctx x.run e.1 q t
    | none => t) s

/-- Whether a kernel reads the window in some layer (R227). -/
def Kernel.readsWindow (k : Kernel) : Bool := k.parts.any (fun p => p.layers.any (fun l => l.inSource == 0))

/-- The run of a window or submitted kernel at its dispatch (R296, R322, R354). -/
def newRun (s : State) (n : Nat) (c : Ctx) (x : Cand) : Run :=
  let w := if c.isCmd then none else c.ready.head?
  let first := w.elim (256 * c.nextWindow) (·.first256)
  let e := if c.isCmd then (c.modelEpoch, c.configEpoch) else s.epochsAt c.part (first / 256)
  { ctx := n, window := w, first256 := first, last256 := w.elim first (·.last256), kernel := x.kernel,
    modelEpoch := e.1, configEpoch := e.2, check := s.checkAt c.part (first / 256), marks := w.elim [] (·.marks),
    sat := 0, left := [], deadline := w.elim c.deadline (·.deadline), deadlineTk := true, dispatchClk := s.clk,
    openChecks := 0, failCause := none, tiles := [], records := 0, status := none, abandoned := false,
    consumed := !x.kernel.readsWindow, dropped := false, satOver := false, readDone := [], parked := [] }

/-- Dispatch a window or a submitted kernel (R259). Save records start afresh; carried scales of other epochs are
discarded (R109). -/
def dispatch (x : Cand) (s : State) : State :=
  match s.ctx? x.ctx with
  | some c =>
    let r := newRun s x.ctx c x
    let ready := c.ready.head?.elim s.clk (·.readyClk)
    let stale := (r.modelEpoch, r.configEpoch) ≠ c.carryEpochs
    let c1 := { c with
      run := some x.run, ready := if c.isCmd then c.ready else c.ready.drop 1,
      modelEpoch := r.modelEpoch, configEpoch := r.configEpoch,
      carried := if stale then [] else c.carried, carryValid := c.carryValid && !stale,
      saves := x.kernel.parts.zipIdx.foldl (fun t e =>
        tset t e.2 { c.save x.kernel e.2 with core := e.1.core, queue := 255, entered := false, left := false, step := 0,
                                              wdog := 0, started := false }) c.saves }
    let s1 := (s.setCtx x.ctx c1).modFlows (fun f => { f with runs := tset f.runs x.run r, nextRun := f.nextRun + 1 })
    let s2 := if c.isCmd then s1 else count (partCtr c.part 3) (4 * (s.clk - ready)) (count (partCtr c.part 1) 1 s1)
    let dl := r.deadline / 256
    let q0 := x.parts.head?.elim 0 (fun e => (s.freeQueue? x.run e.2).getD 0)
    let u := x.parts.head?.elim noUnit (fun e => unitCore e.2.core)
    enterAll x (traceOnly 0x100 1 c.part u x.ctx q0 (dl % 2 ^ 32) (dl / 2 ^ 32) s2)
  | none => s

/-- Carry out a candidate. -/
def place (p : Nat) (x : Cand) (s : State) : State :=
  match x.entry with
  | none => dispatch x s
  | some _ => enterAll x (count (partCtr p 2) 1 s)

/-! ## Switching out (R163, R164, R263) -/

/-- Mark a run. -/
def mark (rid m : Nat) (s : State) : State := s.modRun rid (fun r => { r with marks := addOnce r.marks m })

/-- The Open slots of a run on a core leave with its part (R164). -/
def parkSlots (p n rid core : Nat) (s : State) : State :=
  let open_ := (s.core core).slots.filter (fun e => e.2.run == rid && e.2.state == 1)
  each open_ (fun e t =>
    let t1 := mark rid 6 (spillOut p n core t).2
    (t1.modCore core (fun k => { k with slots := tdel k.slots e.1 })).modRun rid (fun r =>
      { r with parked := r.parked ++ [(core, e.1, e.2)] })) s

/-- Switch a resident part out: its save record is written (R247, R263). -/
def switchOut (core q : Nat) (yielded : Bool) (s : State) : State :=
  match s.queue? core q with
  | some v =>
    match s.run? v.run, s.ctx? v.ctx with
    | some r, some c =>
      let s1 := s.setCtx v.ctx { c with saves := tset c.saves v.part { c.save r.kernel v.part with
        queue := 255, entered := false, step := v.step, wdog := s.clk - v.progressClk } }
      let s2 := parkSlots c.part v.ctx v.run core (dropQueue core q s1)
      let s3 := count (partCtr c.part 4) (4 * (s.clk - v.entryClk)) (count (partCtr c.part (if yielded then 8 else 7)) 1 s2)
      traceOnly 0x102 1 c.part (unitCore core) v.ctx q (if yielded then 2 else 1) 0 s3
    | _, _ => s
  | none => s

/-- Whether a queue has an operation admitted on its core's tiles. -/
def State.admitted (s : State) (core q : Nat) : Bool :=
  (upTo 32).any (fun t =>
    let v := s.tile core t
    v.inFlight.any (fun o => o.queue == q) || v.running.elim false (fun r => r.op.queue == q))

/-- Whether a queue stands at a yield point (R263). -/
def State.yieldPoint (s : State) (core q : Nat) (v : Queue) : Bool :=
  v.loop.isNone && v.readout.isNone && !s.admitted core q &&
  (match v.stall with
   | .none => true
   | .wait _ _ _ => true
   | _ => false)

/-- Whether a resident part may be switched out for a candidate (R263): some true for a pre-emption, some false
for a yield. -/
def State.yields (s : State) (p core q : Nat) (v : Queue) (x : Cand) : Option Bool :=
  match s.run? v.run with
  | some r =>
    let ok := r.window.elim false (fun w => bit (w.sched.getD 1 0) 5) && r.kernel.lids.isEmpty && s.yieldPoint core q v
    let margin := (s.reg (partOff p 0x304)).toNat
    let wait := s.regf (partOff p 0x300) 8 8
    let stalled := match v.stall with
      | .wait _ _ _ => wait ≠ 0 && decide (s.clk - v.stallClk ≥ wait * usClk)
      | _ => false
    if !ok then none
    else if x.deadline + 256 * margin ≤ r.deadline then some true
    else if stalled then some false else none
  | none => none

/-- The resident parts that may be switched out for a candidate, on the cores where it lacks a queue. -/
def State.victims (s : State) (p : Nat) (x : Cand) : List (Nat × Nat × Bool × Nat) :=
  (x.parts.filter (fun e => (s.freeQueue? x.run e.2).isNone)).flatMap (fun e =>
    (s.core e.2.core).queues.filterMap (fun y =>
      (s.yields p e.2.core y.1 y.2 x).map (fun b => (e.2.core, y.1, b, (s.run? y.2.run).elim 0 (·.deadline)))))

/-- Switch out one part, the one of the latest deadline tick, for the first candidate that wants it (R263). -/
def preempt (p : Nat) (s : State) : State :=
  if s.regf (partOff p 0x300) 0 1 = 0 then s
  else match (s.cands p).find? (fun x => s.candOpen p x && !(s.victims p x).isEmpty) with
    | some x =>
      match sortBy (fun (e : Nat × Nat × Bool × Nat) => -(e.2.2.2 : Int)) (s.victims p x) with
      | v :: _ => switchOut v.1 v.2.1 (!v.2.2.1) s
      | [] => s
    | none => s

/-! ## The cycle (R261) -/

/-- The next two candidates of each core of a partition are prefetched (R264). -/
def prefetch (p : Nat) (s : State) : State :=
  let xs := s.cands p
  each (bitsSet (s.partCores p) 32) (fun c t =>
    let want := ((xs.filter (fun x => x.parts.any (fun e => e.2.core == c))).map (·.ctx)).take 2
    if (t.core c).prefetch = want then t else t.modCore c (fun k => { k with prefetch := want })) s

/-- Windows past their deadline tick under policy 1 are dropped (R267). -/
def lateDrops (p : Nat) (s : State) : State :=
  each (s.flows.ctxs.filter (fun e => e.2.part == p && !e.2.isCmd)) (fun e t =>
    let late := fun (w : Window) => bit (w.sched.getD 1 0) 4 && decide (w.deadline ≤ 256 * s.tick)
    let bad := e.2.ready.filter late
    if bad.isEmpty then t
    else each bad (fun w u => slicerDrop e.1 w 10 u)
      (t.modCtx e.1 (fun c => { c with ready := c.ready.filter (fun w => !late w) }))) s

/-- Whether a kernel has a part on a retired or quiesced core. -/
def State.kernelDown (s : State) (k : Kernel) : Bool := k.parts.any (fun p => !s.coreUp p.core)

/-- A window of a flow whose kernel has a part on a retired or quiesced core yields a CANCELLED record where it would
be dispatched (R377, R404). -/
def coreCancels (p : Nat) (s : State) : State :=
  each (s.flows.ctxs.filter (fun e => e.2.part == p && !e.2.isCmd && e.2.dispatches && e.2.run.isNone)) (fun e t =>
    match e.2.ready with
    | w :: rest =>
      if t.kernelDown w.kernel then
        let x : Cand := { ctx := e.1, entry := none, deadline := w.deadline, kernel := w.kernel,
                          run := t.flows.nextRun, rank := e.1 }
        let r := newRun t e.1 e.2 x
        cancelRun x.run stCancelled false
          ((t.setCtx e.1 { e.2 with run := some x.run, ready := rest }).modFlows (fun f =>
            { f with runs := tset f.runs x.run r, nextRun := f.nextRun + 1 }))
      else t
    | [] => t) s

/-- Drops, one dispatch or entry, then switching and prefetch of a partition (R261 from item 3). -/
def slice (p : Nat) (s : State) : State :=
  let s1 := coreCancels p (lateDrops p s)
  let s2 := match (s1.cands p).find? (s1.candOk p) with
    | some x => place p x s1
    | none => s1
  prefetch p (preempt p s2)

/-- OVERLOAD_CLEAR: 1 ms without a SLICER_DROP (R268). -/
def execOverloadClear (part : Fin 8) (s : State) : Answer :=
  match tget? s.flows.overload part.val with
  | some t => ifDue (s.served && decide (t + msClk ≤ s.clk)) (fun s =>
      s.modFlows (fun f => { f with overload := tdel f.overload part.val })) s
  | none => .next s

/-! ## Watchdog records (R209, R257) -/

/-- The words of a WATCHDOG record (Table 11.7). -/
def watchdogBody (core q op counter e v : Nat) : List DWord :=
  [d64 (core + 32 * q + 256 * op + 65536 * counter + 2 ^ 32 * e), d64 v]

/-- QUEUE_WATCHDOG: counted and raised (R209 item 4). -/
def raiseWatchdog (p core q op counter e : Nat) (s : State) : State :=
  raisePart p (unitCore core) (ev 4 2 noFault (core + 32 * q) op counter e) (count (coreCtr core 45) 1 s)

/-- TIMEOUT of a queue number of a partition in 4 ns periods (R210). -/
def State.timeout (s : State) (p q : Nat) : Nat := s.regf (partOff p (0x200 + 4 * q)) 0 24 * usClk

/-- The lowest-numbered part of a run that has not entered in the present window. -/
def lateEntry (c : Ctx) (k : Kernel) : Option Nat :=
  (upTo k.parts.length).find? (fun i => !(c.save k i).started && !(c.save k i).left)

/-- The entry watchdog of a window or submitted kernel (R257). -/
def entryWatchdog (n rid i : Nat) (s : State) : State :=
  match s.ctx? n, s.run? rid with
  | some c, some r =>
    match r.kernel.parts[i]? with
    | some p =>
      let e := (c.save r.kernel i).eEntry
      let v := (c.vb p.core p.entryCounter).1.toNat
      let s1 := count (partCtr c.part 13) 1 (raiseWatchdog c.part p.core 0 0 p.entryCounter e s)
      abandonRun rid stWatchdog 3 (watchdogBody p.core 0 0 p.entryCounter e v) r.status.isSome s1
    | none => s
  | _, _ => s

/-- FLOW_ENTRY_WATCHDOG: a part has not entered within the timeout of Q0 since dispatch (R257). -/
def execFlowEntryWatchdog (part : Fin 8) (line : Fin 16384) (s : State) : Answer :=
  match s.ctx? line.val with
  | some c =>
    match c.run with
    | some rid =>
      match s.run? rid with
      | some r =>
        match lateEntry c r.kernel with
        | some i => ifDue (s.coresRun && c.part == part.val && !r.abandoned &&
            decide (r.dispatchClk + s.timeout part.val 0 ≤ s.clk)) (entryWatchdog line.val rid i) s
        | none => .next s
      | none => .next s
    | none => .next s
  | none => .next s

end Sys2Proof.Machine
end

