-- ==== Sys2Proof/Machine/Sync.lean ====
section
/-! DEFINITION. The synchronisation steps and messages (R165 to R169, R172, R174, R190 to R204): SIGNAL, WAIT, LID_ARRIVE,
FENCE, WORK_RESET, their arrivals and acknowledgements, and the queue watchdog (R208, R209). -/

namespace Sys2Proof.Machine

/-! ## Steps of a queue -/

/-- STEP_OP of a step (Table 10.14). -/
def Step.op (x : Step) : Nat :=
  match x with
  | .layer _ => 1
  | .signal _ _ _ => 2
  | .wait _ _ _ _ => 3
  | .lid _ _ => 4
  | .fence => 5
  | .workReset _ _ => 6

/-- A resident part with its run, its context and its head step. -/
structure Head where
  v : Queue
  run : Run
  ctx : Ctx
  part : Part
  step : Step

/-- The head of a queue of a core. -/
def State.head? (s : State) (core q : Nat) : Option Head :=
  match s.queue? core q with
  | some v =>
    match s.run? v.run, s.ctx? v.ctx with
    | some r, some c =>
      match r.kernel.parts[v.part]? with
      | some p => (p.steps[v.step]?).map (fun x => { v := v, run := r, ctx := c, part := p, step := x })
      | none => none
    | _, _ => none
  | none => none

/-- Whether a head step may start: nothing of it is under way. -/
def Head.idle (h : Head) : Bool := h.v.stall == .none && h.v.loop.isNone && h.v.readout.isNone

/-- The counter number a part's queue uses for one of its counters (R304). -/
def Part.counterOn (p : Part) (q n : Nat) : Nat := if p.banked then n + 12 * q else n

/-- STEP_START and STEP_END records. -/
def traceStep (type core q : Nat) (h : Head) (s : State) : State :=
  traceOnly type 2 h.ctx.part (unitCore core) h.v.ctx q h.step.op h.v.step s

/-- Something of a queue has made progress (R208). -/
def progress (core q : Nat) (s : State) : State := s.modQueue core q (fun v => { v with progressClk := s.clk })

/-- The head step completes: the next one starts, or the part leaves (R149, R257). -/
def stepDone (core q : Nat) (s : State) : State :=
  match s.head? core q with
  | some h =>
    let s1 := traceStep 0x111 core q h s
    let s2 := s1.setQueue core q { h.v with step := h.v.step + 1, stall := .none, loop := none, readout := none,
                                            progressClk := s.clk, resumptions := 0 }
    if h.part.steps.length ≤ h.v.step + 1 then leavePart core q s2 else s2
  | none => s

/-- Stall a queue. -/
def stallQueue (core q : Nat) (x : Stall) (s : State) : State :=
  s.modQueue core q (fun v => { v with stall := x, stallClk := s.clk })

/-! ## Signals (R195, R197) -/

/-- The queues of a core that wait on a counter of a context. -/
def State.waiters (s : State) (core n counter : Nat) : List (Nat × Nat × Bool) :=
  (s.core core).queues.filterMap (fun e =>
    match e.2.stall with
    | .wait c x sh => if e.2.ctx = n && c = counter then some (e.1, x, sh) else none
    | _ => none)

/-- The WAIT_RELEASE record and the end of a satisfied WAIT. -/
def release (core q counter e v : Nat) (shared : Bool) (s : State) : State :=
  match s.head? core q with
  | some h => stepDone core q (traceOnly 0x121 3 h.ctx.part (unitCore core) (h.part.counterOn q counter) e v
      (q + 256 * b2n shared) s)
  | none => s

/-- Release every waiter that the value of a counter satisfies; several at once, one of them without SHARED, are
counted and reported (R197). -/
def releaseAll (core n counter : Nat) (s : State) : State :=
  match s.ctx? n with
  | some c =>
    let v := (c.vb core counter).1
    let ws := (s.waiters core n counter).filter (fun w => satisfied v (w32 w.2.1))
    let s1 := each ws (fun w t => release core w.1 counter w.2.1 v.toNat w.2.2 t) s
    if decide (2 ≤ ws.length) && ws.any (fun w => !w.2.2) then
      raisePart c.part (unitCore core) (ev 3 1 noFault core counter v.toNat ws.length) (count (coreCtr core 41) 1 s1)
    else s1
  | none => s

/-- Add to V of a counter. -/
def addV (core n counter inc : Nat) (s : State) : State :=
  s.modCtx n (fun c =>
    let x := c.vb core counter
    c.setVb core counter (x.1 + w32 inc, x.2))

/-- Whether a context is resident on a core. -/
def State.residentOn (s : State) (core n : Nat) : Bool := (s.core core).queues.any (fun e => e.2.ctx == n)

/-- A signal reaches a core: it updates the counter at once, or goes to the Stockpot for the saved copy (R195). -/
def signalAt (core n counter inc : Nat) (s : State) : State :=
  if s.residentOn core n then releaseAll core n counter (count (coreCtr core 36) 1 (addV core n counter inc s))
  else s.modFlows (fun f => { f with pot := f.pot ++ [{ core := core, ctx := n, counter := counter, inc := inc }] })

/-- A message leaves a core's Ladle port: its flits are counted. -/
def sendLadle (m : LadleMsg) (flits : Nat) (s : State) : State :=
  count (coreCtr m.src 26) flits (s.modFlows (fun f => { f with ladle := f.ladle ++ [m] }))

/-- SIGNAL: to the issuing core at once, to another over the Ladle (R194, R198). -/
def execSignal (core : Fin 32) (queue : Fin 4) (s : State) : Answer :=
  match s.head? core.val queue.val with
  | some h =>
    match h.step with
    | .signal dst counter inc =>
      ifDue (s.coreUp core.val && h.idle) (fun s =>
        let s1 := traceStep 0x110 core.val queue.val h s
        if dst = core.val then stepDone core.val queue.val (signalAt dst h.v.ctx counter inc s1)
        else stepDone core.val queue.val (sendLadle
          { src := core.val, dst := dst, queue := queue.val, body := .signal h.v.ctx counter inc } 1 s1)) s
    | _ => .next s
  | none => .next s

/-- WAIT: E is taken when the step starts; a satisfied comparison completes at once, else the queue stalls
(R191, R194). -/
def execWait (core : Fin 32) (queue : Fin 4) (s : State) : Answer :=
  match s.head? core.val queue.val with
  | some h =>
    match h.step with
    | .wait counter relative shared value =>
      ifDue (s.coreUp core.val && h.idle) (fun s =>
        let x := h.ctx.vb core.val counter
        let e := if relative then x.2 + w32 value else w32 value
        let s1 := count (coreCtr core.val 38) 1 (traceStep 0x110 core.val queue.val h s)
        if satisfied x.1 e then stepDone core.val queue.val s1
        else traceOnly 0x120 3 h.ctx.part (unitCore core.val) (h.part.counterOn queue.val counter) e.toNat x.1.toNat
          (queue.val + 256 * b2n shared) (stallQueue core.val queue.val (.wait counter e.toNat shared) s1)) s
    | _ => .next s
  | none => .next s

/-! ## Messages under way -/

/-- Partial sums and activations a queue has sent and that are not yet written. -/
def State.dataInFlight (s : State) (core q : Nat) : Bool :=
  s.flows.ladle.any (fun m => m.src == core && m.queue == q && (match m.body with
    | .signal _ _ _ => false
    | _ => true))

/-- Everything a queue has sent has been written at its destination (R198). -/
def State.allWrittenBy (s : State) (core q n : Nat) : Bool :=
  !(s.flows.ladle.any (fun m => m.src == core && m.queue == q)) && !(s.flows.pot.any (fun x => x.ctx == n)) &&
  !(s.flows.claims.any (fun m => m.core == core && m.queue == q))

/-- LID_ARRIVE: after the ordering of R198 the core's arrival is asserted and the queue stalls (R200). -/
def execLidArrive (core : Fin 32) (queue : Fin 4) (s : State) : Answer :=
  match s.head? core.val queue.val with
  | some h =>
    match h.step with
    | .lid line _ =>
      ifDue (s.coreUp core.val && h.idle && s.allWrittenBy core.val queue.val h.v.ctx) (fun s =>
        let s1 := traceStep 0x110 core.val queue.val h s
        stallQueue core.val queue.val (.lid line true)
          (s1.modCore core.val (fun k => { k with arrivals := setBit k.arrivals line }))) s
    | _ => .next s
  | none => .next s

/-- The realignment and release of one core at a line's edge (R200, R203): B takes V for every counter of the
mask before the queue goes on, and the arrival is dropped. -/
def lidCore (line c : Nat) (s : State) : State :=
  let qs := (s.core c).queues.filter (fun e => e.2.stall == .lid line true)
  let s1 := each qs (fun e t =>
    match t.head? c e.1 with
    | some h =>
      match h.step with
      | .lid _ m => t.modCtx h.v.ctx (fun x =>
          (bitsSet m 48).foldl (fun y n => y.setVb c n ((y.vb c n).1, (y.vb c n).1)) x)
      | _ => t
    | none => t) (count (coreCtr c 42) 1 s)
  each qs (fun e t => stepDone c e.1 t) (dropArrival c line s1)

/-- The members of a line that latch its edge. -/
def State.lidMembers (s : State) (l : Nat) : List Nat :=
  (upTo 32).filter (fun c => (bitN (s.regf (0x200 + 8 * l) 0 32) c || bitN (s.core c).arrivals l) &&
    !s.coreRetired c && !s.quiesced c)

/-- LID_EDGE: the last member has arrived (R199, R200, R203). -/
def execLidEdge (line : Fin 16) (s : State) : Answer :=
  ifDue (s.coresRun && s.lidLevel line.val && (upTo 32).any (fun c => bitN (s.core c).arrivals line.val)) (fun s =>
    let s1 := traceOnly 0x122 3 (s.regf (0x204 + 8 * line.val) 1 3) noUnit line.val (s.regf (0x200 + 8 * line.val) 0 32) 0 0 s
    each (s.lidMembers line.val) (lidCore line.val) s1) s

/-- FENCE: a fence marker follows the queue's data, and the queue stalls (R172). -/
def execFence (core : Fin 32) (queue : Fin 4) (s : State) : Answer :=
  match s.head? core.val queue.val with
  | some h =>
    match h.step with
    | .fence =>
      ifDue (s.coreUp core.val && h.idle) (fun s =>
        let n := (s.core core.val).fenceNext
        let s1 := traceStep 0x110 core.val queue.val h s
        stallQueue core.val queue.val (.fence n) (s1.modCore core.val (fun k => { k with fenceNext := n + 1 }))) s
    | _ => .next s
  | none => .next s

/-- FENCE_ACK: all partial sums and activations of the queue have been written (R172). -/
def execFenceAck (core : Fin 32) (queue : Fin 4) (s : State) : Answer :=
  match s.queue? core.val queue.val with
  | some v =>
    match v.stall with
    | .fence n =>
      ifDue (s.coresRun && !s.dataInFlight core.val queue.val) (fun s =>
        let s1 := traceOnly 0x140 5 ((s.ctx? v.ctx).elim 255 (·.part)) (unitCore core.val) queue.val n 0 0
          (count (coreCtr core.val 44) 1 s)
        stepDone core.val queue.val s1) s
    | _ => .next s
  | none => .next s

/-! ## Work counters (R165 to R169) -/

/-- Send a claim or a reset to the counter node. -/
def sendClaim (core q counter amount : Nat) (reset : Option Nat) (s : State) : State :=
  let n := queueNo core q
  let seq := tget s.flows.node.nextSeq n 0
  let m : ClaimMsg := { core := core, queue := q, seq := seq, counter := counter, amount := amount, reset := reset,
                        reply := none }
  let s1 := count (coreCtr core 26) 1 (s.modFlows (fun f => { f with claims := f.claims ++ [m] }))
  if reset.isSome then s1
  else (count (coreCtr core 34) 1 s1).modFlows (fun f => { f with
    node := { f.node with nextSeq := tset f.node.nextSeq n ((seq + 1) % 256) } })

/-- WORK_RESET: the counter node is asked to set a counter; the queue waits for its acknowledgement (R169,
R194). -/
def execWorkReset (core : Fin 32) (queue : Fin 4) (s : State) : Answer :=
  match s.head? core.val queue.val with
  | some h =>
    match h.step with
    | .workReset counter value =>
      ifDue (s.coreUp core.val && h.idle) (fun s =>
        stallQueue core.val queue.val .work (sendClaim core.val queue.val counter 0 (some value)
          (traceStep 0x110 core.val queue.val h s))) s
    | _ => .next s
  | none => .next s

/-- The counter node's answer to a claim or reset (R165, R167, R169): the reply and the node. -/
def nodeTake (m : ClaimMsg) (w : WorkNode) : Nat × Bool × WorkNode :=
  match m.reset with
  | some v => (0, false, { w with counters := tset w.counters m.counter v })
  | none =>
    let n := queueNo m.core m.queue
    match tget? w.last n with
    | some (sq, r) =>
      if sq = m.seq then (r, true, w)
      else
        let v := tget w.counters m.counter 0
        (v, false, { w with counters := tset w.counters m.counter (min (v + m.amount) 0xFFFFFFFF),
                            last := tset w.last n (m.seq, v) })
    | none =>
      let v := tget w.counters m.counter 0
      (v, false, { w with counters := tset w.counters m.counter (min (v + m.amount) 0xFFFFFFFF),
                          last := tset w.last n (m.seq, v) })

/-- Replace the first message of a queue that satisfies a test. -/
def mapFirst {α : Type} (p : α → Bool) (f : α → α) (l : List α) : List α :=
  match l with
  | [] => []
  | x :: r => if p x then f x :: r else x :: mapFirst p f r

/-- Remove the first element that satisfies a test. -/
def dropFirst {α : Type} (p : α → Bool) (l : List α) : List α :=
  match l with
  | [] => []
  | x :: r => if p x then r else x :: dropFirst p r

/-- WORK_CLAIM: the node takes a queue's oldest unanswered message (R165, R167). -/
def execWorkClaim (core : Fin 32) (queue : Fin 4) (s : State) : Answer :=
  let mine := fun (m : ClaimMsg) => m.core == core.val && m.queue == queue.val && m.reply.isNone
  match s.flows.claims.find? mine with
  | some m =>
    ifDue s.coresRun (fun s =>
      let x := nodeTake m s.flows.node
      let s1 := if x.2.1 then count (coreCtr core.val 35) 1 s else s
      s1.modFlows (fun f => { f with
        claims := mapFirst mine (fun y => { y with reply := some x.1 }) f.claims, node := x.2.2 })) s
  | none => .next s

/-- The items a claim gives a queue (R166). -/
def claimItems (l : Layer) (v : Nat) : List Nat :=
  ((upTo l.claimSize).map (fun i => v + i)).filter (fun b => decide (b < l.batch))

/-- A claim's reply gives its items, or ends the loop (R166). -/
def takeClaim (l : Layer) (v : Nat) (x : Loop) : Loop :=
  if l.batch ≤ v then { x with claiming := false, ended := true }
  else { x with claiming := false, items := claimItems l v, issued := 0 }

/-! ## Arrivals -/

/-- Direction of the last hop of a route, x before y: 0 east, 1 west, 2 north, 3 south (R170, Table 12.4). -/
def lastHop (src dst : Nat) : Nat :=
  if src / 8 < dst / 8 then 3 else if dst / 8 < src / 8 then 2 else if src % 8 < dst % 8 then 0 else 1

/-- How the flits of a message fared (R174): corrections and resends are counted, a third failure of a flit is an
attributed fault of the receiving core. The message arrives all the same. -/
def flitFate (src dst : Nat) (f : FlitFate) (s : State) : State :=
  let s1 := count (coreCtr dst 27) f.corrected s
  let s2 := count (coreCtr dst 28) (min f.failures 2) s1
  if 3 ≤ f.failures then attribute_ (uCore dst) 11 2 noWork (lastHop src dst) false true s2 else s2

/-- The oldest message of a route (R171). -/
def State.routeHead (s : State) (src dst : Nat) : Option LadleMsg :=
  s.flows.ladle.find? (fun m => m.src == src && m.dst == dst)

/-- Remove the oldest message of a route. -/
def popRoute (src dst : Nat) (s : State) : State :=
  s.modFlows (fun f => { f with ladle := dropFirst (fun m => m.src == src && m.dst == dst) f.ladle })

/-- SIGNAL_ARRIVAL: the oldest message of a route is a signal, and reaches its counter (R171, R195). -/
def execSignalArrival (src dst : Fin 32) (fate : FlitFate) (s : State) : Answer :=
  match s.routeHead src.val dst.val with
  | some m =>
    match m.body with
    | .signal n counter inc =>
      ifDue s.coresRun (fun s =>
        signalAt dst.val n counter inc (flitFate src.val dst.val fate (popRoute src.val dst.val s))) s
    | _ => .next s
  | none => .next s

/-- STOCKPOT_SIGNAL_APPLY: the oldest signal for a core's saved copies is added (R195). -/
def execStockpotSignalApply (core : Fin 32) (s : State) : Answer :=
  match s.flows.pot.find? (fun x => x.core == core.val) with
  | some x =>
    ifDue s.coresRun (fun s =>
      let s1 := s.modFlows (fun f => { f with pot := dropFirst (fun y => y.core == core.val) f.pot })
      match s1.ctx? x.ctx with
      | some _ => releaseAll core.val x.ctx x.counter
          (addV core.val x.ctx x.counter x.inc (count (coreCtr core.val 37) 1 s1))
      | none => s1) s
  | none => .next s

/-! ## The queue watchdog (R208, R209) -/

/-- What a WATCHDOG record and event say of a head step: COUNTER, E and V. -/
def Head.waitWords (h : Head) (core q : Nat) : Nat × Nat × Nat :=
  match h.v.stall with
  | .wait c e _ => (h.part.counterOn q c, e, (h.ctx.vb core c).1.toNat)
  | _ => (0, 0, 0)

/-- One part of a run is abandoned with a status (R209 item 1): its queue ends, its operations not yet admitted
are cancelled and its slots on the core are freed. -/
def abandonPart (core q st : Nat) (s : State) : State :=
  match s.head? core q with
  | some h =>
    let s1 := s.modRun h.v.run (fun r => { r with status := some (r.status.getD st) })
    let s2 := (dropQueue core q s1).modCore core (freeSlots h.v.run)
    let s3 := s2.modCtx h.v.ctx (fun c => { c with saves := tset c.saves h.v.part { c.save h.run.kernel h.v.part with
      queue := 255, entered := false, left := true, step := h.v.step } })
    let s4 := traceOnly 0x102 1 h.ctx.part (unitCore core) h.v.ctx q 0 0
      (count (partCtr h.ctx.part 4) (4 * (s.clk - h.v.entryClk)) s3)
    partOver h.v.run h.v.part s4
  | none => s

/-- A queue's watchdog fires (R209). -/
def queueWatchdog (core q : Nat) (s : State) : State :=
  match s.head? core q with
  | some h =>
    let x := h.waitWords core q
    let s1 := raiseWatchdog h.ctx.part core q h.step.op x.1 x.2.1 s
    let s2 := if h.ctx.isCmd || h.run.status.isSome then s1
      else formRun h.v.run 3 (watchdogBody core q h.step.op x.1 x.2.1 x.2.2) s1
    abandonPart core q stWatchdog s2
  | none => s

/-- QUEUE_WATCHDOG: no progress for TIMEOUT while no slice holds the core (R208). -/
def execQueueWatchdog (core : Fin 32) (queue : Fin 4) (s : State) : Answer :=
  match s.head? core.val queue.val with
  | some h => ifDue (s.coresRun && !s.running.any (fun a => a.slice && a.core == core.val) &&
      decide (h.v.progressClk + s.timeout h.ctx.part queue.val ≤ s.clk)) (queueWatchdog core.val queue.val) s
  | none => .next s

end Sys2Proof.Machine
end

