-- ==== Sys2Proof/Machine/Scoop.lean ====
section
/-! DEFINITION. Scoop: the elements of a layer's input (R86, R87, R161, R230), group scales and zero points (R88 to R92), row codes
(R93 to R98), carried scales and scale misses (R108 to R113), saturation counts and QUANT_SAT (R105, R106). -/

namespace Sys2Proof.Machine

/-! ## Exact bounds (R89 to R91) -/

/-- A number that is not negative, as numerator and denominator. -/
def Fp.ratio (v : Fp) : Nat × Nat :=
  match v with
  | .fin _ m e => if 0 ≤ e then (m * 2 ^ e.toNat, 1) else (m, 2 ^ (-e).toNat)
  | _ => (0, 1)

/-- The larger of two ratios. -/
def ratioMax (a b : Nat × Nat) : Nat × Nat := if a.1 * b.2 < b.1 * a.2 then b else a

/-- The top code of Table 4.2. -/
def codeTop (a8 signed : Bool) : Nat := if signed then (if a8 then 112 else 7) else (if a8 then 255 else 15)

/-- The bottom code of Table 4.2. -/
def codeBottom (a8 signed : Bool) : Int := if signed then -(codeTop a8 true : Int) else 0

/-- The bound b of Table 4.2 from max⁺ and min⁻. -/
def scaleBound (a8 signed : Bool) (zpMode z : Nat) (maxp minn : Nat × Nat) : Nat × Nat :=
  let top := codeTop a8 signed
  let ovr := fun (x : Nat × Nat) (k : Nat) => (x.1, x.2 * k)
  if signed then ovr (ratioMax maxp minn) top
  else if zpMode = 1 then
    ratioMax (if z < top then ovr maxp (top - z) else (0, 1)) (if z = 0 then (0, 1) else ovr minn z)
  else if zpMode = 2 then (maxp.1 * minn.2 + minn.1 * maxp.2, maxp.2 * minn.2 * top)
  else ovr maxp top

/-- The zero scale. -/
def Scale.zero : Scale := { mant := 0, exp := 0 }

/-- n / (d × 2^e), rounded up. -/
def ceilScaled (n d : Nat) (e : Int) : Nat :=
  if 0 ≤ e then ceilDiv n (d * 2 ^ e.toNat) else ceilDiv (n * 2 ^ (-e).toNat) d

/-- The smallest scale not below n / d (R89). -/
def scaleFor (n d : Nat) : Scale :=
  if n = 0 then .zero
  else
    let e0 : Int := (log2 n : Int) - log2 d - 8
    let e := if ceilScaled n d e0 ≤ 255 then e0 else if ceilScaled n d (e0 + 1) ≤ 255 then e0 + 1 else e0 + 2
    if e < -128 then { mant := 128, exp := -128 }
    else if 127 < e then { mant := 255, exp := 127 }
    else { mant := ceilScaled n d e, exp := e }

/-- RNE(x / s) for a finite x and a scale that is not 0, formed exactly (R93). -/
def quotScale (x : Fp) (sc : Scale) : Int :=
  match x with
  | .fin s m e =>
    let v : Int := if s then -(m : Int) else m
    let k := e - sc.exp
    if 0 ≤ k then rneDiv (v * (2 ^ k.toNat : Nat)) sc.mant else rneDiv v (sc.mant * 2 ^ (-k).toNat)
  | _ => 0

/-- z_g (R90, R92): static, dynamic from min⁻, or 0. -/
def zeroPoint (a8 : Bool) (zpMode z : Nat) (minn : Fp) (sc : Scale) : Nat :=
  if sc.mant = 0 then 0
  else match zpMode with
  | 1 => z
  | 2 => min (quotScale minn sc).toNat (topCode a8)
  | _ => 0

/-- The scale word of Table 4.1. -/
def Scale.word (x : Scale) : Nat := x.mant + 256 * field 8 x.exp

/-- The scale of a scale word. -/
def scaleOf (w : Nat) : Scale := { mant := w % 256, exp := sx 8 (w / 256) }

/-! ## Codes of elements -/

/-- A formed code with what it counts: high and low saturations, signed substitution, non-finite. -/
structure Coded where
  code : Int
  hi : Nat
  lo : Nat
  sub : Nat
  nonfin : Nat

/-- The code of an element (R92 to R94). -/
def codeOf (a8 signed : Bool) (z : Nat) (sc : Scale) (x : Fp) : Coded :=
  let top : Int := codeTop a8 signed
  let bot := codeBottom a8 signed
  match x with
  | .nan => { code := if sc.mant = 0 then 0 else z, hi := 0, lo := 0, sub := 0, nonfin := 1 }
  | .inf s => { code := if sc.mant = 0 then 0 else if s then bot else top, hi := b2n (!s), lo := b2n s, sub := 0, nonfin := 1 }
  | .fin _ _ _ =>
    if sc.mant = 0 then { code := 0, hi := 0, lo := 0, sub := 0, nonfin := 0 }
    else
      let q := quotScale x sc + z
      { code := clampI q bot top, hi := b2n (decide (top < q)), lo := b2n (decide (q < bot)), sub := 0, nonfin := 0 }

/-- A supplied code byte (R98, R31). -/
def codeGiven (a8 signed : Bool) (b : Nat) : Coded :=
  let v : Int := if signed then sx (if a8 then 8 else 4) b else ((if a8 then b % 256 else b % 16 : Nat) : Int)
  if signed && !a8 && v == -8 then { code := -7, hi := 0, lo := 0, sub := 1, nonfin := 0 }
  else if signed && a8 then
    { code := clampI v (-112) 112, hi := b2n (decide (112 < v)), lo := b2n (decide (v < -112)), sub := 0, nonfin := 0 }
  else { code := v, hi := 0, lo := 0, sub := 0, nonfin := 0 }

/-! ## The input of an item -/

/-- The mask record of a template as it stands in the activation buffer (R151). -/
def State.maskNow (s : State) (p : Part) (q : Nat) (t : Templ) : Option Bytes :=
  if t.rowMask || t.colMask then some (s.getAct p.core (p.maskBase + 128 * t.maskIndex + p.bank q) 128) else none

/-- The unmasked rows of a template with the elements they take (R87, R151). -/
def State.rowsNow (s : State) (p : Part) (q : Nat) (t : Templ) : List (Nat × Nat) :=
  (templRows t (s.maskNow p q t)).map (fun r => (r, t.inOffset + (r - t.rowFirst)))

/-- The data columns present in a template (R151). -/
def State.colsNow (s : State) (p : Part) (q : Nat) (t : Templ) : List Nat := templCols t (s.maskNow p q t)

/-- Element i of a window as a kernel reads it (R86, R230). -/
def State.winElement (s : State) (w : Window) (i : Nat) : Fp :=
  let per := if w.iq then 2 else 1
  let n := i / per
  let total := if w.padTo = 0 then w.padLead + w.len else w.padTo
  if total ≤ n || n < w.padLead || w.padLead + w.len ≤ n then fpInt 0
  else
    let v := tget (s.ring w.stream).data (w.start + (n - w.padLead)) (0, 0)
    fpInt (if i % per = 0 then v.1 else v.2)

/-- The byte address of element e of item b in the buffer of a part on a queue (R98, R161, R304). -/
def inAddr (p : Part) (q : Nat) (l : Layer) (b e : Nat) : Nat :=
  let size := if l.scaleSource = 3 then 1 else fmtSize l.inFormat
  l.inBase + (b * l.inStride + e) * size + p.bank q

/-- Whether bytes lie in a part's activation range on a queue (log 23). -/
def Part.ownBytes (p : Part) (q a n : Nat) : Bool := withinR a n (p.actBase + p.bank q) p.actBytes

/-- Element e of item b's input (R161, R230); none where it lies outside the part's activation range. -/
def State.inElement (s : State) (h : Head) (q : Nat) (l : Layer) (b e : Nat) : Option Fp :=
  if l.inSource = 0 && l.scaleSource ≠ 3 then
    some (h.run.window.elim (fpInt 0) (fun w => s.winElement w (l.inBase + b * l.inStride + e)))
  else
    let n := fmtSize l.inFormat
    let a := inAddr h.part q l b e
    if h.part.ownBytes q a n then some (element l.inFormat (ofBytes (s.getAct h.part.core a n))) else none

/-- A group of one template: its row group, drive mode, and the rows with their elements (R87). -/
structure Grp where
  templ : Nat
  g : Nat
  signed : Bool
  cells : List (Nat × Nat)

/-- The groups of template i that have an unmasked row. -/
def State.grpsOf (s : State) (h : Head) (q : Nat) (l : Layer) (i : Nat) : List Grp :=
  match l.templates[i]? with
  | some t =>
    let w := (s.tile h.part.core t.tile).cfgAt (h.run.first256 / 256)
    let rows := s.rowsNow h.part q t
    (upTo (512 / cfgG w)).filterMap (fun g =>
      let cells := rows.filter (fun r => r.1 / cfgG w = g)
      if cells.isEmpty then none else some { templ := i, g := g, signed := cfgSigned w, cells := cells })
  | none => []

/-- A group as quantised: its scale and zero point, its codes, its finite extremes, and whether R91 raised it. -/
structure GrpQ where
  grp : Grp
  sc : Scale
  z : Nat
  codes : List (Nat × Coded)
  maxp : Fp
  minn : Fp
  raised : Bool

/-- max⁺ and min⁻ of elements (R89, R94). -/
def extremes (l : List Fp) : Fp × Fp :=
  l.foldl (fun a x =>
    match x with
    | .fin s m e => if s then (a.1, if a.2.lt (.fin false m e) then .fin false m e else a.2)
                    else (if a.1.lt x then x else a.1, a.2)
    | _ => a) (fpInt 0, fpInt 0)

/-- The larger exponent in a list of scales that are not 0, or 0 (R155). -/
def expMaxOf (l : List Scale) : Int :=
  match (l.filter (fun x => x.mant ≠ 0)).map (·.exp) with
  | [] => 0
  | e :: r => r.foldl max e

/-- A fresh scale with R91's span against the largest exponent of its reduction. -/
def raiseTo12 (top : Int) (x : Scale) : Scale × Bool :=
  if x.mant ≠ 0 && decide (x.exp < top - 12) then ({ mant := 128, exp := top - 12 }, true) else (x, false)

/-- The fresh scales and zero points of one reduction from its groups' extremes (R89 to R91). -/
def freshScales (l : Layer) (es : List (Bool × Fp × Fp)) : List (Scale × Nat × Bool) :=
  let raw := es.map (fun x =>
    let b := scaleBound l.actBits8 x.1 l.zpMode l.staticZp x.2.1.ratio x.2.2.ratio
    scaleFor b.1 b.2)
  let top := expMaxOf raw
  (es.zip raw).map (fun x =>
    let r := raiseTo12 top x.2
    (r.1, if x.1.1 then 0 else zeroPoint l.actBits8 l.zpMode l.staticZp x.1.2.2 r.1, r.2))

/-- The supplied scale and zero point of the group that holds an element (R98); none for an invalid scale word or a
place outside the part's activation range (R462). -/
def State.givenScale (s : State) (h : Head) (q : Nat) (l : Layer) (b e : Nat) (signed : Bool) : Option (Scale × Nat) :=
  let w := (l.templates.head?).elim cfgDefault (fun t => (s.tile h.part.core t.tile).cfgAt (h.run.first256 / 256))
  let len := suppliedLen l
  let g := e / cfgG w
  let a := inAddr h.part q l b (len + 2 * g)
  let zAt := inAddr h.part q l b (len + 2 * (len / cfgG w) + g)
  let c := h.part.core
  let v := ofBytes (s.getAct c a 2)
  if h.part.ownBytes q a 2 && scaleValid v && (l.zpMode ≠ 2 || h.part.ownBytes q zAt 1) then
    let sc := scaleOf v
    some (sc, if sc.mant = 0 || signed then 0 else if l.zpMode = 1 then l.staticZp
              else if l.zpMode = 2 then ofBytes (s.getAct c zAt 1) else 0)
  else none

/-- The groups of block n of item b quantised (R89 to R98). carried holds the scales to use, by 16 × template + group, where
the layer runs with carried scales; none answers a run-time parameter error (R462). -/
def State.quantBlock (s : State) (h : Head) (q : Nat) (l : Layer) (b n : Nat) (carried : Option (List (Scale × Nat))) :
    Option (List GrpQ) :=
  let gs := (upTo l.kParts).flatMap (fun k => s.grpsOf h q l (n * l.kParts + k))
  if l.scaleSource = 3 then
    gs.mapM (fun (x : Grp) => do
      let sz ← s.givenScale h q l b ((x.cells.head?).elim 0 (·.2)) x.signed
      let codes ← x.cells.mapM (fun (r : Nat × Nat) =>
        let a := inAddr h.part q l b r.2
        if h.part.ownBytes q a 1 then
          some (r.1, codeGiven l.actBits8 x.signed (Memory.read (s.core h.part.core).act a).toNat) else none)
      pure { grp := x, sc := sz.1, z := sz.2,
             codes := codes.map (fun (c : Nat × Coded) => if sz.1.mant = 0 then (c.1, { c.2 with code := 0 }) else c),
             maxp := fpInt 0, minn := fpInt 0, raised := false })
  else do
    let vals ← gs.mapM (fun (x : Grp) => x.cells.mapM (fun (r : Nat × Nat) =>
      (s.inElement h q l b r.2).map (fun v => (r.1, v))))
    let ex := vals.map (fun (v : List (Nat × Fp)) => extremes (v.map (·.2)))
    let fresh := freshScales l ((gs.zip ex).map (fun x => (x.1.signed, x.2.1, x.2.2)))
    let used := (gs.zip (fresh.zip ex)).map (fun x =>
      match l.scaleSource, carried with
      | 2, _ =>
        let sc := scaleOf l.staticScale
        (sc, if x.1.signed then 0 else zeroPoint l.actBits8 l.zpMode l.staticZp x.2.2.2 sc, false)
      | 1, some c =>
        let y := c.getD (16 * x.1.templ + x.1.g) (Scale.zero, 0)
        (y.1, y.2, false)
      | _, _ => x.2.1)
    pure (((gs.zip vals).zip (used.zip ex)).map (fun x =>
      { grp := x.1.1, sc := x.2.1.1, z := x.2.1.2.1,
        codes := x.1.2.map (fun v => (v.1, codeOf l.actBits8 x.1.1.signed x.2.1.2.1 x.2.1.1 v.2)),
        maxp := x.2.2.1, minn := x.2.2.2, raised := x.2.1.2.2 }))

/-! ## Counting (R105 to R107) -/

/-- The layer whose threshold a window's saturations have reached: the one at hand, else the first of the kernel (R106;
log 24). -/
def satLayer? (r : Run) (step : Nat) (l : Layer) : Option Nat :=
  let past := fun (x : Layer) => x.satThreshold ≠ 0 && decide (x.satThreshold ≤ r.sat)
  if past l then some step
  else (r.kernel.parts.flatMap (fun p => p.steps.zipIdx.filterMap (fun t =>
    match t.1 with
    | .layer x => if past x then some t.2 else none
    | _ => none))).head?

/-- QUANT_SAT once a window's saturations reach the threshold of a layer (R106). -/
def satCheck (rid step : Nat) (l : Layer) (core : Nat) (s : State) : State :=
  match s.run? rid with
  | some r =>
    match s.ctx? r.ctx, satLayer? r step l with
    | some c, some k =>
      if c.isCmd then s
      else
        let s1 := s.setRun rid { r with satOver := true }
        if c.satArmed then
          let t := r.first256 / 256
          raisePart c.part noUnit (ev 1 1 noFault r.ctx k (t % 2 ^ 32) (t / 2 ^ 32))
            (count (coreCtr core 18) 1 (s1.setCtx r.ctx { c with satArmed := false }))
        else s1
    | _, _ => s
  | none => s

/-- Add saturations to a window's count, which holds at 0xFFFF, and compare it with the thresholds (R105, R106). -/
def satRun (rid step n core : Nat) (l : Layer) (s : State) : State :=
  satCheck rid step l core (if n = 0 then s else s.modRun rid (fun r => { r with sat := min (r.sat + n) 0xFFFF }))

/-- Whether a loop's attempt may still be discarded (R111). -/
def Loop.held (x : Loop) : Bool := !x.fresh && !x.judged

/-- Saturations of a layer's attempt: held back while it may be discarded (R105). -/
def addSat (core q n : Nat) (s : State) : State :=
  match s.head? core q with
  | some h =>
    match h.step, h.v.loop with
    | .layer l, some x =>
      if x.held then s.setQueue core q { h.v with loop := some { x with sat := x.sat + n } }
      else satRun h.v.run h.v.step n core l s
    | _, _ => s
  | none => s

/-- A check of a run failed: its records will be retracted with the cause (R365). -/
def failRun (rid cause : Nat) (s : State) : State :=
  s.modRun rid (fun r => { r with failCause := some (r.failCause.getD cause) })

/-- A mark of a window; 256 + cause stands for a failed check. -/
def applyMark (rid m : Nat) (s : State) : State := if 256 ≤ m then failRun rid (m - 256) s else mark rid m s

/-- A mark of a layer's attempt: held back while it may be discarded. -/
def addMark (core q m : Nat) (s : State) : State :=
  match s.queue? core q with
  | some v =>
    match v.loop with
    | some x => if x.held then s.setQueue core q { v with loop := some { x with marks := addOnce x.marks m } }
                else applyMark v.run m s
    | none => applyMark v.run m s
  | none => s

/-- The groups of an item counted: a group of the input is one group however many output blocks read it (log 24). -/
def distinctGrps (l : List GrpQ) : List GrpQ :=
  l.foldl (fun acc x =>
    if acc.any (fun y => y.grp.cells.map (·.2) == x.grp.cells.map (·.2) && decide (y.sc = x.sc) && y.z == x.z &&
        y.grp.signed == x.grp.signed) then acc
    else acc ++ [x]) []

/-- A total over the elements of groups. -/
def sumOver (f : Coded → Nat) (l : List GrpQ) : Nat :=
  l.foldl (fun a g => g.codes.foldl (fun b c => b + f c.2) a) 0

/-- The counters of Table 4.4 for an item's groups: fresh or carried. -/
def countGrps (core : Nat) (l : Layer) (carried : Bool) (gs : List GrpQ) (s : State) : State :=
  let d := distinctGrps gs
  let c := fun (i n : Nat) (t : State) => count (coreCtr core i) n t
  let s1 := if l.scaleSource = 1 && carried then c 9 d.length s
    else if l.scaleSource ≤ 1 then c 8 d.length s else s
  c 14 (d.filter (·.raised)).length (c 13 (sumOver (·.nonfin) d) (c 12 (sumOver (·.sub) d)
    (c 11 (sumOver (·.lo) d) (c 10 (sumOver (·.hi) d) s1))))

/-! ## The loop -/

/-- Key of a layer's carried scales in its context. -/
def carryKey (part step : Nat) : Nat := 65536 * part + step

/-- The number of operations of the items held. -/
def opCount (l : Layer) (x : Loop) : Nat := x.items.length * l.nBlocks * l.kParts

/-- Operation i of the items held, in LOOP_ORDER (Table 6.5): item, block and template's k. -/
def opAt (l : Layer) (x : Loop) (i : Nat) : Option (Nat × Nat × Nat) :=
  let N := l.nBlocks
  let K := l.kParts
  let B := x.items.length
  if opCount l x ≤ i then none
  else match l.loopOrder with
  | 0 => (x.items[i / (N * K)]?).map (fun b => (b, i / K % N, i % K))
  | 1 => (x.items[i / (N * K)]?).map (fun b => (b, i % N, i / N % K))
  | _ => (x.items[i / N % B]?).map (fun b => (b, i % N, i / (B * N)))

/-- Whether operations of (b, n) are still to be issued. -/
def stillToIssue (l : Layer) (x : Loop) (b n : Nat) : Bool :=
  (upTo (opCount l x - x.issued)).any (fun d => (opAt l x (x.issued + d)).elim false (fun o => o.1 == b && o.2.1 == n))

/-- The first item without codes. -/
def uncoded (x : Loop) : Option Nat := x.items.find? (fun b => !x.codes.any (fun c => c.item == b))

/-- Whether every item the loop will hold has its codes. -/
def allCoded (l : Layer) (x : Loop) : Bool := (uncoded x).isNone && (!l.useWork || x.ended)

/-- A loop at its start. -/
def Loop.start (l : Layer) (fresh : Bool) : Loop :=
  { items := if l.useWork then [] else upTo l.batch, issued := 0, codes := [], opened := [], out := [],
    claiming := l.useWork, ended := false, fresh := fresh, judged := fresh, sat := 0, marks := [], groupSat := [], peaks := [],
    extremes := [], attempt := 0 }

/-- Whether a layer of a context runs with carried scales (R109, R112). -/
def Ctx.carries (c : Ctx) (l : Layer) (part step : Nat) : Bool :=
  l.scaleSource == 1 && c.carryValid && !c.missLast && !c.isCmd && (tget? c.carried (carryKey part step)).isSome

/-- LAYER: a batch loop starts; a loop that shares its items claims first (R161, R166). -/
def execLayer (core : Fin 32) (queue : Fin 4) (s : State) : Answer :=
  match s.head? core.val queue.val with
  | some h =>
    match h.step with
    | .layer l =>
      ifDue (s.coreUp core.val && h.idle) (fun s =>
        let x := Loop.start l (!h.ctx.carries l h.v.part h.v.step)
        let s1 := (traceStep 0x110 core.val queue.val h s).setQueue core.val queue.val { h.v with loop := some x }
        if l.useWork then sendClaim core.val queue.val l.workCounter l.claimSize none s1 else s1) s
    | _ => .next s
  | none => .next s

/-- Keep what an item's groups say of the layer's scales: saturations, elements, peaks and extremes by group (R108,
R110). -/
def noteGrps (gs : List GrpQ) (x : Loop) : Loop :=
  gs.foldl (fun y g =>
    let k := 16 * g.grp.templ + g.grp.g
    let old := tget y.groupSat k (0, 0)
    let sats := g.codes.foldl (fun a c => a + c.2.hi + c.2.lo) 0
    let peak := g.codes.foldl (fun a c => max a (c.2.code - (g.z : Int)).natAbs) 0
    let e := tget y.extremes k (fpInt 0, fpInt 0)
    { y with
      groupSat := tset y.groupSat k (old.1 + sats, old.2 + g.codes.length),
      peaks := tset y.peaks k (max (tget y.peaks k 0) peak),
      extremes := tset y.extremes k (if e.1.lt g.maxp then g.maxp else e.1, if e.2.lt g.minn then g.minn else e.2) }) x

/-- The codes of an item from its quantised blocks. -/
def codesOf (l : Layer) (b : Nat) (blocks : List (List GrpQ)) : Codes :=
  let all := blocks.flatten
  { item := b,
    templ := (upTo (l.nBlocks * l.kParts)).map (fun i =>
      ((all.filter (fun g => g.grp.templ = i)).flatMap (fun g => g.codes.map (fun c => (c.1, c.2.code))))),
    scales := (upTo (l.nBlocks * l.kParts)).map (fun i => (upTo 16).map (fun k =>
      ((all.find? (fun g => g.grp.templ == i && g.grp.g == k)).elim (Scale.zero, 0) (fun g => (g.sc, g.z))))),
    expMax := blocks.map (fun gs => expMaxOf (gs.map (·.sc))) }

/-- The scales the next window carries, from the extremes of every item (R108). -/
def nextCarried (s : State) (h : Head) (q : Nat) (l : Layer) (x : Loop) : List (Scale × Nat) :=
  let per := (upTo l.nBlocks).flatMap (fun n =>
    let gs := (upTo l.kParts).flatMap (fun k => s.grpsOf h q l (n * l.kParts + k))
    let es := gs.map (fun g =>
      let e := tget x.extremes (16 * g.templ + g.g) (fpInt 0, fpInt 0)
      (g.signed, e.1, e.2))
    (gs.zip (freshScales l es)).map (fun y => (16 * y.1.templ + y.1.g, y.2.1, y.2.2.1)))
  (upTo (16 * l.nBlocks * l.kParts)).map (fun k =>
    ((per.find? (fun y => y.1 == k)).elim (Scale.zero, 0) (fun y => (y.2.1, y.2.2))))

/-- The groups of a loop that miss by saturation, and those underused (R110). -/
def missed (l : Layer) (x : Loop) : List Nat × List Nat :=
  ((x.groupSat.filter (fun e => decide (l.missSatFrac * e.2.2 < 256 * e.2.1))).map (·.1),
   (x.peaks.filter (fun e => l.underusePeak ≠ 0 && decide (e.2 < l.underusePeak))).map (·.1))

/-- How many groups of the input the listed keys name: one read by several output blocks is one (log 24). -/
def State.inputGroups (s : State) (h : Head) (q : Nat) (l : Layer) (keys : List Nat) : Nat :=
  (dedup (((upTo l.templates.length).flatMap (s.grpsOf h q l)).filterMap (fun g =>
    if keys.contains (16 * g.templ + g.g) then some (g.cells.map (·.2), g.signed) else none))).length

/-- Take a layer's own operations out of its slots again: what other cores sent stays (R111, R175). Checks still open on
operations committed early are forgotten with them. -/
def discardSlots (core rid step : Nat) (l : Layer) (s : State) : State :=
  let mine := fun (j : Join) => j.op.tag.run == rid
  let gone := ((s.core core).joins.filter (fun j => mine j && j.committed.isSome)).length
  (s.modRun rid (fun r => { r with openChecks := r.openChecks - gone })).modCore core (fun k => { k with
    runs := tset k.runs rid ((tget k.runs rid []).filter (fun e => e.1 ≠ step)),
    joins := k.joins.filter (fun j => !mine j),
    slots := k.slots.filterMap (fun e =>
      if e.2.run ≠ rid || e.2.state = 0 || e.1 < l.slotBase || l.slotBase + l.slotCount ≤ e.1 then some e
      else
        let own := ((l.templates.drop (e.2.block * l.kParts)).take l.kParts).map (·.part)
        let left := e.2.ledger.filter (fun p => !own.contains p)
        if left.isEmpty then none
        else some (e.1, { e.2 with state := 1, lanes := e.2.far, ledger := left })) })

/-- What the attempt held back enters its window (R105); a held mark of 256 + cause is a failed check. -/
def standAttempt (core q : Nat) (h : Head) (l : Layer) (x : Loop) (s : State) : State :=
  let s1 := s.setQueue core q { h.v with loop := some { x with judged := true, sat := 0, marks := [] } }
  satRun h.v.run h.v.step x.sat core l
    (each x.marks (applyMark h.v.run) s1)

/-- The window has been read to the end by a step (R227). -/
def windowRead (h : Head) (l : Layer) (s : State) : State :=
  if l.inSource ≠ 0 then s
  else s.modRun h.v.run (fun r =>
    let done := addOnce r.readDone (h.v.part, h.v.step)
    let all := r.kernel.parts.zipIdx.flatMap (fun p => p.1.steps.zipIdx.filterMap (fun t =>
      match t.1 with
      | .layer x => if x.inSource = 0 then some (p.2, t.2) else none
      | _ => none))
    { r with readDone := done, consumed := r.consumed || all.all done.contains })

/-- Every group of the layer has its codes: the next window's scales are kept (R108); an attempt with carried scales is judged
(R110), and a miss re-runs the layer or marks its window (R111). -/
def closeCoding (core q : Nat) (s : State) : State :=
  match s.head? core q with
  | some h =>
    match h.step, h.v.loop with
    | .layer l, some x =>
      if !allCoded l x then s
      else
        let keep := l.scaleSource == 1 && !h.ctx.isCmd
        let s1 := if keep then s.setCtx h.v.ctx { h.ctx with
            carried := tset h.ctx.carried (carryKey h.v.part h.v.step) (nextCarried s h q l x) } else s
        if !x.held then windowRead h l s1
        else
          let m := missed l x
          let s2 := count (coreCtr core 15) (s.inputGroups h q l m.2) s1
          if m.1.isEmpty && m.2.isEmpty then windowRead h l (standAttempt core q h l x s2)
          else if l.rerun && decide (256 * (s.tick + l.marginOrRow) ≤ h.run.deadline) then
            let s3 := discardSlots core h.v.run h.v.step l (count (coreCtr core 16) 1 (mark h.v.run 4 s2))
            s3.setQueue core q { h.v with readout := none, loop := some { x with
              issued := 0, codes := [], opened := [], out := [], fresh := true, judged := true, sat := 0, marks := [],
              attempt := x.attempt + 1 } }
          else windowRead h l (standAttempt core q h l x (count (coreCtr core 17) 1 (mark h.v.run 5 s2)))
    | _, _ => s
  | none => s

/-- A run-time parameter error (R462): the run's part is abandoned, a flow's window yields a CANCELLED record, KRN_SUBMIT ends
with BAD_PARAM, and RUN_PARAM is raised. -/
def runParam (core q func : Nat) (s : State) : State :=
  match s.head? core q with
  | some h =>
    let s1 := raisePart h.ctx.part (unitCore core) (ev 8 2 noFault (core + 32 * q) h.v.step func 0) s
    let s2 := if h.ctx.isCmd || h.run.status.isSome then s1 else formRun h.v.run 4 [0] s1
    abandonPart core q stBadParam s2
  | none => s

/-- Scoop forms the codes of the next item (R96, R97). -/
def scoop (core q b : Nat) (h : Head) (l : Layer) (x : Loop) (s : State) : State :=
  let table := if x.fresh then none else tget? h.ctx.carried (carryKey h.v.part h.v.step)
  match (upTo l.nBlocks).mapM (fun n => s.quantBlock h q l b n table) with
  | none => runParam core q 0xFF s
  | some blocks =>
    let gs := blocks.flatten
    let s1 := countGrps core l (!x.fresh) gs s
    let y := { (if l.scaleSource = 1 then noteGrps gs x else x) with codes := x.codes ++ [codesOf l b blocks] }
    let d := distinctGrps gs
    let s2 := addSat core q (sumOver (fun c => c.hi + c.lo + c.sub) d) (s1.setQueue core q { h.v with loop := some y })
    closeCoding core q s2

end Sys2Proof.Machine
end

