-- ==== Sys2Proof/Machine/Accum.lean ====
section
/-! DEFINITION. Accumulator slots (R155, R158, R160, R162 to R164), commits and replay (R153, R154), read-out (R160, R176), partial
sums (R175), admission of tile operations (R150 to R152, R355, R356) and the work claim's reply (R166). -/

namespace Sys2Proof.Machine

/-! ## Slots -/

/-- 40-bit two's complement (R155). -/
def wrap40 (v : Int) : Int := sx 40 (field 40 v)

/-- Add lanes in 40-bit two's complement (R158). -/
def addLanes (a b : Tbl Int) : Tbl Int := b.foldl (fun t e => tset t e.1 (wrap40 (tget t e.1 0 + e.2))) a

/-- The slot of (b, n) (R162). -/
def slotOf (l : Layer) (b n : Nat) : Nat := l.slotBase + (b * l.nBlocks + n) % l.slotCount

/-- A slot of a core. -/
def State.slot (s : State) (core i : Nat) : Slot := tget (s.core core).slots i .free

/-- Whether a slot holds (b, n) of a run. -/
def Slot.isOf (v : Slot) (rid b n : Nat) : Bool := v.state ≠ 0 && v.run == rid && v.item == b && v.block == n

/-- A slot opened for (b, n) of a run (R155). -/
def Slot.opened (rid flow b n : Nat) (expMax accShift : Int) (total : Nat) : Slot :=
  { Slot.free with state := 1, expMax := expMax, accShift := accShift, partTotal := total, item := b, block := n, run := rid,
                   flow := flow }

/-- A commit of parts to a slot (R158): the lanes add, the ledger takes the parts, and the slot is Complete with the last
one. -/
def Slot.take (v : Slot) (parts : List Nat) (lanes : Tbl Int) (remote : Bool) : Slot :=
  let led := v.ledger ++ parts
  { v with lanes := addLanes v.lanes lanes, far := if remote then addLanes v.far lanes else v.far, ledger := led,
           state := if v.partTotal + 1 ≤ led.length then 2 else 1 }

/-- The spilled slot of (b, n) of a run on a core (R163). -/
def State.parked? (s : State) (core rid b n : Nat) : Option (Nat × Slot) :=
  ((s.run? rid).bind (fun r => r.parked.find? (fun e => e.1 == core && e.2.2.isOf rid b n))).map (·.2)

/-- Where (b, n) of a run stands on a core: in its slot, or spilled. -/
def State.slotAt? (s : State) (core i rid b n : Nat) : Option Slot :=
  if (s.slot core i).isOf rid b n then some (s.slot core i) else (s.parked? core rid b n).map (·.2)

/-- Put (b, n) of a run back where it stands. -/
def putSlot (core i rid b n : Nat) (v : Slot) (s : State) : State :=
  if (s.slot core i).isOf rid b n then s.modCore core (fun k => { k with slots := tset k.slots i v })
  else s.modRun rid (fun r => { r with parked := r.parked.map (fun e =>
    if e.1 = core && e.2.2.isOf rid b n then (e.1, e.2.1, v) else e) })

/-- Spill what a slot holds (R163). -/
def spillSlot (core i : Nat) (s : State) : State :=
  let v := s.slot core i
  match s.run? v.run with
  | some r =>
    let p := (s.ctx? r.ctx).elim 0 (·.part)
    let s1 := mark v.run 6 (spillOut p r.ctx core s).2
    (s1.modCore core (fun k => { k with slots := tdel k.slots i })).modRun v.run (fun r =>
      { r with parked := r.parked ++ [(core, i, v)] })
  | none => s

/-- Bring a spilled slot back (R163). -/
def restoreSlot (core i rid b n : Nat) (v : Slot) (s : State) : State :=
  let s1 := s.modRun rid (fun r => { r with parked := r.parked.filter (fun e => !(e.1 == core && e.2.2.isOf rid b n)) })
  spillIn ((s.run? rid).elim 0 (·.ctx)) core (s1.modCore core (fun k => { k with slots := tset k.slots i v }))

/-- Whether (b, n) of a layer step is in the completion map (R154). -/
def State.completed (s : State) (core rid step b n : Nat) : Bool :=
  (tget (s.core core).runs rid []).contains (step, 32 * b + n)

/-- Mark (b, n) in the completion map. -/
def setCompleted (core rid step b n : Nat) (s : State) : State :=
  s.modCore core (fun k => { k with runs := tmod k.runs rid [] (fun m => addOnce m (step, 32 * b + n)) })

/-- Whether the slot of an operation can be had: none where the queue waits; else the machine with the slot open for (b, n)
(R162). -/
def acquire (core q : Nat) (h : Head) (l : Layer) (x : Loop) (b n : Nat) (expMax : Int) (s : State) : Option State :=
  let i := slotOf l b n
  let rid := h.v.run
  let v := s.slot core i
  let openIt := fun (t : State) =>
    let t1 := match t.parked? core rid b n with
      | some e => restoreSlot core i rid b n e.2 t
      | none => t.modCore core (fun k => { k with
          slots := tset k.slots i (.opened rid h.v.ctx b n expMax l.accShift l.partTotal) })
    t1.setQueue core q { h.v with loop := some { x with opened := addOnce x.opened (b, n) } }
  if s.completed core rid h.v.step b n then some s
  else if v.isOf rid b n then some (s.setQueue core q { h.v with loop := some { x with opened := addOnce x.opened (b, n) } })
  else if v.state = 0 then some (openIt s)
  else if v.state = 2 || v.run ≠ rid || !stillToIssue l x v.item v.block then none
  else some (openIt (spillSlot core i s))

/-! ## Read-out (R160, R176) -/

/-- The layers that send partial sums to a layer of a part (R175). -/
def Kernel.senders (k : Kernel) (home : Part) (l : Layer) : List (Part × Layer) :=
  k.parts.flatMap (fun p => (p.layers.filter (fun x =>
    x.outTarget == 3 && x.homeCore == home.core && p.core ≠ home.core && sameSlots x l)).map (fun x => (p, x)))

/-- The queue a part of a run is resident on, 0 where it is not. -/
def State.partQueue (s : State) (rid i core : Nat) : Nat :=
  (((s.core core).queues.find? (fun e => e.2.run == rid && e.2.part == i))).elim 0 (·.1)

/-- The columns of block n present in some template of the reduction, local or remote (R176). -/
def State.presentCols (s : State) (h : Head) (q : Nat) (l : Layer) (n : Nat) : List Nat :=
  let own := ((l.templates.drop (n * l.kParts)).take l.kParts).flatMap (fun t => s.colsNow h.part q t)
  let far := (h.run.kernel.senders h.part l).flatMap (fun e =>
    ((e.2.templates.drop (n * e.2.kParts)).take e.2.kParts).flatMap (fun t =>
      s.colsNow e.1 (s.partQueue h.v.run (h.run.kernel.parts.idxOf e.1) e.1.core) t))
  sortNat (own ++ far)

/-- Saturate a lane to 32 bits (R160). -/
def lane32 (v : Int) : Int × Bool :=
  (clampI v (-2147483648) 2147483647, decide (v < -2147483648 ∨ 2147483647 < v))

/-- The FP32 words of a slot's 512 lanes, absent ones left out; with the lanes saturated and the conversions that
saturated. -/
def rowOf (v : Slot) (present : List Nat) : List (Option Word) × Nat × Nat :=
  let vals := (upTo 512).map (fun j => lane32 (tget v.lanes j 0))
  let f := vals.zipIdx.map (fun x =>
    if present.contains x.2 then some (round32 (fpDyadic x.1.1 (v.expMax + v.accShift))) else none)
  (f.map (fun y => y.map (·.1)), (vals.filter (·.2)).length, (f.filter (fun y => y.elim false (·.2))).length)

/-- Whether a slot of a layer can leave: Complete, or, for a partial sum to another core, holding every local part. -/
def slotReady (l : Layer) (n : Nat) (v : Slot) : Bool :=
  if l.outTarget = 3 then
    ((l.templates.drop (n * l.kParts)).take l.kParts).all (fun t => v.ledger.contains t.part)
  else v.state == 2

/-- The items whose slots can all leave. -/
def State.readyItem (s : State) (core : Nat) (h : Head) (l : Layer) (x : Loop) : Option Nat :=
  ((dedup (x.opened.map (·.1))).filter (fun b => (upTo l.nBlocks).all (fun n =>
    let v := s.slot core (slotOf l b n)
    v.isOf h.v.run b n && slotReady l n v))).head?

/-- Free the slots of item b. -/
def freeItem (core : Nat) (l : Layer) (b : Nat) (s : State) : State :=
  s.modCore core (fun k => { k with slots := (upTo l.nBlocks).foldl (fun t n => tdel t (slotOf l b n)) k.slots })

/-- Send item b's slots as partial sums to the home core (R160, R175): 43 flits each. -/
def sendPsums (core q : Nat) (h : Head) (l : Layer) (x : Loop) (b : Nat) (s : State) : State :=
  let s1 := each (upTo l.nBlocks) (fun n t =>
    let v := t.slot core (slotOf l b n)
    setCompleted core h.v.run h.v.step b n (sendLadle
      { src := core, dst := l.homeCore, queue := q,
        body := .psum h.v.run b n (slotOf l b n) v.ledger v.lanes v.expMax v.accShift v.partTotal } 43 t)) s
  let y := { x with opened := x.opened.filter (fun e => e.1 ≠ b), out := x.out ++ [b] }
  (freeItem core l b s1).setQueue core q { h.v with loop := some y, progressClk := s.clk }

/-- Read item b out into the Skillet row buffer (R160, R176); under GOLDEN Tongs is asked for it (R186). -/
def readOut (core q : Nat) (h : Head) (l : Layer) (x : Loop) (b : Nat) (s : State) : State :=
  let rs := (upTo l.nBlocks).map (fun n => rowOf (s.slot core (slotOf l b n)) (s.presentCols h q l n))
  let sat := rs.foldl (fun a r => a + r.2.1) 0
  let ro : Readout := { item := b, row := rs.flatMap (·.1), index := 0, golden := none }
  let y := { x with opened := x.opened.filter (fun e => e.1 ≠ b) }
  let s1 := (freeItem core l b s).setQueue core q { h.v with readout := some ro, loop := some y, progressClk := s.clk }
  let s2 := count (coreCtr core 31) (rs.foldl (fun a r => a + r.2.2) 0) (count (coreCtr core 21) sat s1)
  let s3 := if sat = 0 then s2 else addMark core q 0 s2
  if l.golden then s3.modCore core (fun k => { k with tongs := k.tongs ++ [.golden q b] }) else s3

/-- Whether a batch loop has nothing left to do (R149, R166). -/
def loopDone (l : Layer) (x : Loop) : Bool :=
  if l.useWork then x.ended && x.opened.isEmpty && decide (opCount l x ≤ x.issued)
  else decide (l.batch ≤ x.out.length)

/-- Take out what can leave, and end the step when all of it has (R149). fuel bounds the items sent at once. -/
def advance (fuel core q : Nat) (s : State) : State :=
  match fuel with
  | 0 => s
  | f + 1 =>
    match s.head? core q with
    | some h =>
      match h.step, h.v.loop, h.v.readout with
      | .layer l, some x, none =>
        match s.readyItem core h l x with
        | some b =>
          if l.outTarget = 3 then (if x.held && !l.useWork then s else advance f core q (sendPsums core q h l x b s))
          else readOut core q h l x b s
        | none => if loopDone l x && !x.held then stepDone core q s else s
      | _, _, _ => s
    | none => s

/-- SCOOP_CODES: the next item's scales and codes are formed (R86 to R98). -/
def execScoopCodes (core : Fin 32) (queue : Fin 4) (s : State) : Answer :=
  match s.head? core.val queue.val with
  | some h =>
    match h.step, h.v.loop with
    | .layer l, some x =>
      match uncoded x with
      | some b => ifDue (s.coreUp core.val) (fun s =>
        advance 65536 core.val queue.val (scoop core.val queue.val b h l x s)) s
      | none => .next s
    | _, _ => .next s
  | none => .next s

/-- WORK_CLAIM_REPLY: the node's answer reaches the queue (R166, R169). -/
def execWorkClaimReply (core : Fin 32) (queue : Fin 4) (s : State) : Answer :=
  let mine := fun (m : ClaimMsg) => m.core == core.val && m.queue == queue.val && m.reply.isSome
  match s.flows.claims.find? mine with
  | some m =>
    ifDue s.coresRun (fun s =>
      let s1 := s.modFlows (fun f => { f with claims := dropFirst mine f.claims })
      match s1.head? core.val queue.val with
      | some h =>
        match m.reset, h.v.stall, h.step, h.v.loop with
        | some _, .work, _, _ => stepDone core.val queue.val s1
        | none, _, .layer l, some x =>
          let want := (tget s1.flows.node.nextSeq (queueNo core.val queue.val) 0 + 255) % 256
          if x.claiming && m.seq == want then
            advance 1 core.val queue.val (closeCoding core.val queue.val
              (s1.setQueue core.val queue.val { h.v with loop := some (takeClaim l (m.reply.getD 0) x) }))
          else s1
        | _, _, _, _ => s1
      | none => s1) s
  | none => .next s

/-! ## Commits (R153, R154, R158) -/

/-- Commit lanes of parts to (b, n) of a step: replays are discarded by tag (R154). -/
def commitOp (core : Nat) (op : TileOp) (lanes : Tbl Int) (s : State) : State :=
  let t := op.tag
  if s.completed core t.run op.step t.item t.block then count (coreCtr core 20) 1 s
  else match s.slotAt? core op.slot t.run t.item t.block with
  | some v =>
    if v.ledger.contains t.part then count (coreCtr core 20) 1 s
    else
      let w := v.take [t.part] lanes false
      let s1 := progress core op.queue (count (coreCtr core 19) 1 (putSlot core op.slot t.run t.item t.block w s))
      let s2 := if w.state = 2 then setCompleted core t.run op.step t.item t.block s1 else s1
      advance 65536 core op.queue s2
  | none => s

/-! ## Admission (R150, R355, R356) -/

/-- The tiles an operation runs on: copy, half and tile (R70, R355). -/
def opUnits (s : State) (core : Nat) (t : Templ) (assured : Bool) : List (Nat × Nat × Nat) :=
  let base := if t.pair then [(0, 1, t.tile), (0, 2, (s.tile core t.tile).pair)] else [(0, 0, t.tile)]
  if assured then base ++ base.map (fun u => (1, u.2.1, u.2.2 ^^^ 16)) else base

/-- Whether a tile takes one more operation (R57, R81, R150). -/
def State.tileAdmits (s : State) (core t : Nat) : Bool :=
  let v := s.tile core t
  s.tileUsable core t && decide (v.inFlight.length < 128)

/-- The next claim of a shared loop goes out when the last operation of the present one has been issued (R166). -/
def claimNext (core q : Nat) (s : State) : State :=
  match s.head? core q with
  | some h =>
    match h.step, h.v.loop with
    | .layer l, some x =>
      if l.useWork && !x.claiming && !x.ended && decide (opCount l x ≤ x.issued) then
        sendClaim core q l.workCounter l.claimSize none (s.setQueue core q { h.v with loop := some { x with claiming := true } })
      else s
    | _, _ => s
  | none => s

/-- Note the tiles and columns a run has used (R366). -/
def noteTiles (rid core : Nat) (tiles cols : List Nat) (s : State) : State :=
  s.modRun rid (fun r => { r with tiles := tiles.foldl (fun t x =>
    tset t (tileNo core x) (sortNat (tget t (tileNo core x) [] ++ cols))) r.tiles })

/-- Issue operation o of a loop whose slot has been acquired. -/
def issueOp (core q : Nat) (h : Head) (l : Layer) (x : Loop) (o : Nat × Nat × Nat) (t : Templ) (c : Codes) (s : State) : State :=
  let i := o.2.1 * l.kParts + o.2.2
  let check := h.run.check
  let units := opUnits s core t (checkAssured check)
  let live := units.filter (fun u => !s.tileOut core u.2.2)
  let cols := s.colsNow h.part q t
  let v := s.slotAt? core (slotOf l o.1 o.2.1) h.v.run o.1 o.2.1
  let op : TileOp :=
    { tag := { run := h.v.run, item := o.1, block := o.2.1, part := t.part, attempt := x.attempt }, queue := q, ctx := h.v.ctx,
      part := h.v.part, copy := 0, half := 0, rows := c.templ.getD i [], scales := c.scales.getD i [], cols := cols,
      a8 := l.actBits8, expMax := v.elim (c.expMax.getD o.2.1 0) (·.expMax), accShift := l.accShift,
      slot := slotOf l o.1 o.2.1, step := h.v.step, cfg := [],
      early := checkProvisional check && l.outTarget == 2, rerun := none }
  let bad := live.length < units.length || live.any (fun u => cols.any (fun j => s.colRetired core u.2.2 j))
  let s1 := each live (fun u t => t.modTile core u.2.2 (fun w => { w with inFlight := w.inFlight ++
    [{ op with copy := u.1, half := u.2.1, cfg := w.cfgAt (h.run.first256 / 256) }] })) s
  let s2 := s1.modQueue core q (fun y => { y with
    loop := y.loop.map (fun z => { z with issued := z.issued + 1 }), progressClk := s.clk })
  let s3 := noteTiles h.v.run core (live.map (fun u => u.2.2)) cols s2
  let s4 := if bad then addMark core q 1 s3 else s3
  if live.isEmpty then claimNext core q (commitOp core op [] s4)
  else claimNext core q (s4.modCore core (fun k => { k with joins := k.joins ++
    [{ op := op, units := live, regs := [], done := [], committed := none, settled := [] }] }))

/-- The next operation of a queue with its template and codes, where they are there. -/
def nextOp (l : Layer) (x : Loop) : Option ((Nat × Nat × Nat) × Templ × Codes) :=
  match opAt l x x.issued with
  | some o =>
    match l.templates[o.2.1 * l.kParts + o.2.2]?, x.codes.find? (fun c => c.item == o.1) with
    | some t, some c => some (o, t, c)
    | _, _ => none
  | none => none

/-- TILE_OP_ADMIT: the next operation of a queue's loop enters its tiles' in-flight lists when its codes are formed, its tiles
are schedulable and have room, and its slot can be had (R38, R57, R150, R162). -/
def execTileOpAdmit (core : Fin 32) (queue : Fin 4) (s : State) : Answer :=
  match s.head? core.val queue.val with
  | some h =>
    match h.step, h.v.loop with
    | .layer l, some x =>
      match nextOp l x with
      | some (o, t, c) =>
        let live := (opUnits s core.val t (checkAssured h.run.check)).filter (fun u => !s.tileOut core.val u.2.2)
        if s.coreUp core.val && live.all (fun u => s.tileAdmits core.val u.2.2) then
          match acquire core.val queue.val h l x o.1 o.2.1 (c.expMax.getD o.2.1 0) s with
          | some s1 => .next (issueOp core.val queue.val h l x o t c s1)
          | none => .next s
        else .next s
      | none => .next s
    | _, _ => .next s
  | none => .next s

/-! ## Messages that bring data (R175, R305) -/

/-- The layer step of a part that receives a partial sum in a slot (R175). -/
def receiverOf (p : Part) (slot : Nat) : Option (Nat × Layer) :=
  (p.steps.zipIdx.filterMap (fun x => match x.1 with
    | .layer l => if l.outTarget ≠ 3 && decide (l.slotBase ≤ slot) && decide (slot < l.slotBase + l.slotCount) then
        some (x.2, l) else none
    | _ => none)).head?

/-- A partial sum is discarded (R175). -/
def dropPsum (dst part rid b n slot : Nat) (s : State) : State :=
  traceOnly 0x141 5 part (unitCore dst) slot rid b n (count (coreCtr dst 29) 1 s)

/-- The parts of a run's kernel that are not over, by core. -/
def Run.partOn (r : Run) (core : Nat) : Option (Nat × Part) :=
  ((r.kernel.parts.zipIdx.filter (fun x => x.1.core == core && !r.left.contains x.2)).map (fun x => (x.2, x.1))).head?

/-- Open the slot of a partial sum where nothing holds it: in the accumulator when it is Free and the part is resident, else
with the spilled state (R305; log 19). -/
def openForPsum (dst rid slot flow part : Nat) (resident : Bool) (v : Slot) (s : State) : State :=
  if resident && (s.slot dst slot).state = 0 then s.modCore dst (fun k => { k with slots := tset k.slots slot v })
  else (mark rid 6 (spillOut part flow dst s).2).modRun rid (fun r => { r with parked := r.parked ++ [(dst, slot, v)] })

/-- A partial sum reaches its home slot (R158, R175). -/
def psumTake (dst rid b n slot : Nat) (parts : List Nat) (lanes : Tbl Int) (expMax accShift : Int) (total : Nat)
    (s : State) : State :=
  match s.run? rid with
  | some r =>
    let p := (s.ctx? r.ctx).elim 0 (·.part)
    match r.partOn dst with
    | some (i, home) =>
      match receiverOf home slot with
      | some (step, _) =>
        if r.abandoned || s.completed dst rid step b n then dropPsum dst p rid b n slot s
        else
          let resident := (s.core dst).queues.any (fun e => e.2.run == rid && e.2.part == i)
          let s1 := if (s.slotAt? dst slot rid b n).isSome then s
            else openForPsum dst rid slot r.ctx p resident (.opened rid r.ctx b n expMax accShift total) s
          match s1.slotAt? dst slot rid b n with
          | some v =>
            let both := parts.filter v.ledger.contains
            if both.isEmpty then
              let w := v.take parts lanes true
              let q := s.partQueue rid i dst
              let s2 := count (coreCtr dst 19) 1 (putSlot dst slot rid b n w s1)
              let s3 := if w.state = 2 then setCompleted dst rid step b n s2 else s2
              if resident then advance 65536 dst q (progress dst q s3) else s3
            else
              let s2 := dropPsum dst p rid b n slot s1
              if both.length < parts.length then
                raisePart p (unitCore dst) (ev 7 2 noFault dst slot rid 0) s2
              else s2
          | none => s1
      | none => dropPsum dst p rid b n slot s
    | none => dropPsum dst p rid b n slot s
  | none => dropPsum dst (s.corePartNo dst) rid b n slot s

/-- PSUM_ARRIVAL: the oldest message of a route is a partial sum (R171, R175). -/
def execPsumArrival (src dst : Fin 32) (fate : FlitFate) (s : State) : Answer :=
  match s.routeHead src.val dst.val with
  | some m =>
    match m.body with
    | .psum rid b n slot parts lanes expMax accShift total =>
      ifDue s.coresRun (fun s => psumTake dst.val rid b n slot parts lanes expMax accShift total
        (flitFate src.val dst.val fate (popRoute src.val dst.val s))) s
    | _ => .next s
  | none => .next s

/-- An activation message is written: to the activation buffer where the part is resident, else to its inbox (R305). -/
def actTake (dst n part off : Nat) (data : Bytes) (s : State) : State :=
  match (s.core dst).queues.find? (fun e => e.2.ctx == n && e.2.part == part) with
  | some (q, v) =>
    let bank := ((s.run? v.run).bind (fun r => r.kernel.parts[part]?)).elim 0 (·.bank q)
    putAct dst (off + bank) data s
  | none =>
    s.modCtx n (fun c =>
      let k := (c.run.bind s.run?).elim c.kernel (fun r => some r.kernel)
      match k.bind (fun k => k.parts[part]?) with
      | some p =>
        let box := tget c.inbox part []
        if p.inboxBase ≤ off && off + data.length ≤ p.inboxBase + p.inboxBytes then
          { c with inbox := tset c.inbox part (Memory.writeBytes box (off - p.inboxBase) data) }
        else c
      | none => c)

/-- ACTIVATION_ARRIVAL: the oldest message of a route brings activations (R171, R305). -/
def execActivationArrival (src dst : Fin 32) (fate : FlitFate) (s : State) : Answer :=
  match s.routeHead src.val dst.val with
  | some m =>
    match m.body with
    | .act n part off data =>
      ifDue s.coresRun (fun s => actTake dst.val n part off data
        (flitFate src.val dst.val fate (popRoute src.val dst.val s))) s
    | _ => .next s
  | none => .next s

end Sys2Proof.Machine
end

