-- ==== Sys2Proof/Machine/Phases.lean ====
section
/-! DEFINITION. The phases of a tile (R36 to R47, R55, R56, R80), Sieve's judgements (R49, R357 to R359), contributions
(R156, R157), Tongs (R185, R358, R362), assured comparison (R361, R362) and early commits (R364). -/

namespace Sys2Proof.Machine

/-! ## Contributions -/

/-- The tile factor (R72). -/
def State.tileFactor (s : State) (core t : Nat) : Int := if (s.tile core t).role = 2 then 15 else 1

/-- c of R156 for one code. -/
def contribution (code f : Int) (mant gain gi : Nat) (exp expMax accShift : Int) : Int :=
  rneShift (code * f * mant * gain) ((gi : Int) + exp - 15 - expMax - accShift)

/-- The sub-blocks of group g that hold an unmasked row (R101). -/
def subBlocks (gsize g : Nat) (rows : List (Nat × Int)) : List Nat :=
  ((upTo (gsize / 32)).map (fun i => g * gsize / 32 + i)).filter (fun c => rows.any (fun r => r.1 / 32 == c))

/-- The zero-point correction of an operation on one tile for a lane (R101, R157). -/
def State.zeroCorr (s : State) (core t : Nat) (op : TileOp) (j : Nat) : Int :=
  let g := cfgG op.cfg
  (upTo (512 / g)).foldl (fun a k =>
    let sc := op.scales.getD k (Scale.zero, 0)
    let subs := subBlocks g k op.rows
    if sc.2 = 0 || sc.1.mant = 0 || subs.isEmpty then a
    else
      let w := subs.foldl (fun b c => b + s.subSum core t c j) 0
      a + rneShift ((sc.2 : Int) * sc.1.mant * s.tileFactor core t * w) (sc.1.exp - op.expMax - op.accShift)) 0

/-- The columns of an operation that are not retired on a tile. -/
def State.opCols (s : State) (core t : Nat) (op : TileOp) : List Nat :=
  op.cols.filter (fun j => !s.colRetired core t j)

/-! ## Tongs (R185) -/

/-- 2^e as a fraction. -/
def fPow2 (e : Int) : Frac := if 0 ≤ e then fInt ((2 ^ e.toNat : Nat) : Int) else fDiv 1 (2 ^ (-e).toNat)

/-- The smallest exponent of an operation's scales that are not 0. -/
def expMinOf (l : List Scale) : Int :=
  match (l.filter (fun x => x.mant ≠ 0)).map (·.exp) with
  | [] => 0
  | e :: r => r.foldl min e

/-- T_j of one tile's rows of an operation, over 2^expMin (R185); f holds the tile factor. -/
def State.tongsLane (s : State) (core t : Nat) (rows : List (Nat × Int)) (scales : List (Scale × Nat)) (gsize : Nat)
    (expMin : Int) (j : Nat) : Int :=
  (upTo (512 / gsize)).foldl (fun a k =>
    let sc := scales.getD k (Scale.zero, 0)
    if sc.1.mant = 0 then a
    else
      let dot := (rows.filter (fun r => r.1 / gsize == k)).foldl (fun b r => b + s.effW core t r.1 j * (r.2 - sc.2)) 0
      a + (sc.1.mant * 2 ^ (sc.1.exp - expMin).toNat : Nat) * dot) 0 * s.tileFactor core t

/-- Tongs' value of a lane of an operation on one tile in lane units, rounded once (R358, R362). -/
def State.tongsValue (s : State) (core t : Nat) (op : TileOp) (j : Nat) : Int :=
  let e := expMinOf (op.scales.map (·.1))
  rneShift (s.tongsLane core t op.rows op.scales (cfgG op.cfg) e j) (e - op.expMax - op.accShift)

/-! ## The end of an operation on a tile -/

/-- Whether an operation belongs to the attempt its queue is running. -/
def State.opLoop? (s : State) (core : Nat) (op : TileOp) : Option Loop :=
  match s.queue? core op.queue with
  | some v => if v.run = op.tag.run && v.part = op.part && v.step = op.step then v.loop else none
  | none => none

/-- A mark an operation leaves on its window; a discarded attempt leaves none (R111). -/
def opMark (core : Nat) (op : TileOp) (m : Nat) (s : State) : State :=
  match s.opLoop? core op with
  | some x => if x.attempt = op.tag.attempt then addMark core op.queue m s else s
  | none => applyMark op.tag.run m s

/-- The layer of an operation. -/
def State.opLayer? (s : State) (op : TileOp) : Option Layer :=
  ((s.run? op.tag.run).bind (fun r => r.kernel.parts[op.part]?)).bind (fun p =>
    match p.steps[op.step]? with
    | some (.layer l) => some l
    | _ => none)

/-- Saturations an operation adds to its window (R46, R105). -/
def opSat (core : Nat) (op : TileOp) (n : Nat) (s : State) : State :=
  match s.opLoop? core op, s.opLayer? op with
  | some x, _ => if x.attempt = op.tag.attempt then addSat core op.queue n s else s
  | none, some l => satRun op.tag.run op.step n core l s
  | none, none => s

/-- The work a fault was found in (Table 12.7). -/
def State.opWork (s : State) (op : TileOp) : Work :=
  match s.ctx? op.ctx with
  | some c => if c.isCmd then { opcode := 0x300, flow := op.ctx, tag := c.tag.toNat }
              else { opcode := 0xFFFF, flow := op.ctx, tag := 0 }
  | none => noWork

/-- One check of a run is over. -/
def closeCheck (rid : Nat) (s : State) : State :=
  settleRun rid (s.modRun rid (fun r => { r with openChecks := r.openChecks - 1 }))

/-- One more check of a run is open. -/
def openCheck (rid : Nat) (s : State) : State := s.modRun rid (fun r => { r with openChecks := r.openChecks + 1 })

/-- Whether a join is that of an operation. -/
def Join.isOf (j : Join) (op : TileOp) : Bool := decide (j.op.tag = op.tag) && j.op.step == op.step && j.op.queue == op.queue

/-- The join of an operation. -/
def State.join? (s : State) (core : Nat) (op : TileOp) : Option Join := (s.core core).joins.find? (fun j => j.isOf op)

/-- Put a join. -/
def putJoin (core : Nat) (v : Join) (s : State) : State :=
  s.modCore core (fun k => { k with joins := k.joins.map (fun j => if j.isOf v.op then v else j) })

/-- Remove a join. -/
def dropJoin (core : Nat) (v : Join) (s : State) : State :=
  s.modCore core (fun k => { k with joins := k.joins.filter (fun j => !j.isOf v.op) })

/-- Key of a register of a join. -/
def regKey (copy half : Nat) : Nat := 4 * copy + half

/-- The halves of a join. -/
def Join.halves (j : Join) : List Nat := dedup (j.units.map (fun u => u.2.1))

/-- The copies of one half. -/
def Join.copiesOf (j : Join) (h : Nat) : List (Nat × Nat × Nat) := j.units.filter (fun u => u.2.1 = h)

/-- Sum of lane tables. -/
def sumLanes (l : List (Tbl Int)) : Tbl Int := l.foldl addLanes []

/-- step_g² of the groups and passes that either copy ran, added (R361), with the larger gain index. -/
def State.sOp2 (s : State) (core : Nat) (j : Join) (h : Nat) : Frac :=
  let us := j.copiesOf h
  let gi := us.foldl (fun a u => max a (cfgGi ((s.tile core u.2.2).cfgAt ((s.run? j.op.tag.run).elim 0 (·.first256 / 256))))) 0
  let ran := us.flatMap (fun u =>
    let w := (s.tile core u.2.2).cfgAt ((s.run? j.op.tag.run).elim 0 (·.first256 / 256))
    (admissions w (s.weightMax core u.2.2) { j.op with cfg := w }).flatMap (fun a =>
      a.phases.map (fun p => (p.group, p.pass))))
  let w := j.op.cfg
  (dedup ran).foldl (fun a e =>
    let sc := (j.op.scales.getD e.1 (Scale.zero, 0)).1
    let t := (us.head?).elim 0 (fun u => u.2.2)
    let f := factor (cfgSigned w) e.2 (s.tile core t).role
    let m : Int := sc.mant * f
    a.plus ((fInt (m * m)).times (fPow2 (2 * ((gi : Int) + sc.exp - j.op.expMax - j.op.accShift))))) (fInt 0)

/-- ASSURED_K of a run. -/
def State.assuredK (s : State) (rid : Nat) : Nat := (s.run? rid).elim 8 (fun r => clampN (checkK r.check) 2 64)

/-- Settle one half whose copies are all there: one copy stands, two that agree are averaged, and lanes that disagree go to
Tongs (R356, R361, R362). -/
def settleHalf (core h : Nat) (j : Join) (s : State) : State :=
  match j.copiesOf h with
  | [u] => putJoin core { j with settled := tset j.settled h (tget j.regs (regKey u.1 h) []) } s
  | us =>
    let val := fun (u : Nat × Nat × Nat) (c : Nat) => tget (tget j.regs (regKey u.1 h) []) c 0
    let live := fun (c : Nat) => us.filter (fun u => !s.colRetired core u.2.2 c)
    let q := s.sOp2 core j h
    let k := s.assuredK j.op.tag.run
    let pick := j.op.cols.map (fun c =>
      match live c with
      | [a, b] =>
        let x := val a c
        let y := val b c
        if (fInt (x - y)).mag.leRoot k q then (c, some (rneDiv (x + y) 2)) else (c, none)
      | [a] => (c, some (val a c))
      | _ => (c, some 0))
    let bad := (pick.filter (fun e => e.2.isNone)).map (·.1)
    let lanes := pick.foldl (fun t e => match e.2 with
      | some v => if v = 0 then t else tset t e.1 v
      | none => t) []
    let s1 := count (coreCtr core 53) bad.length (count (coreCtr core 52) 1 s)
    if bad.isEmpty then putJoin core { j with settled := tset j.settled h lanes } s1
    else (putJoin core { j with regs := tset j.regs (regKey 2 h) lanes } s1).modCore core (fun k => { k with
      tongs := k.tongs ++ [.assured { j.op with half := h } bad] })

/-- Commit an operation whose halves are all settled, or end the checks of one committed early (R153, R364, R365). -/
def closeJoin (core : Nat) (op : TileOp) (s : State) : State :=
  match s.join? core op with
  | some j =>
    if j.halves.all (fun h => (tget? j.settled h).isSome) then
      let s1 := dropJoin core j s
      match j.committed with
      | some _ => closeCheck op.tag.run s1
      | none => commitOp core j.op (sumLanes (j.settled.map (·.2))) s1
    else s
  | none => s

/-- Under R364 the first copy to finish commits without waiting for its checks. -/
def commitEarly (core : Nat) (op : TileOp) (s : State) : State :=
  match s.join? core op with
  | some j =>
    let full := fun (c : Nat) => j.halves.all (fun h => j.done.contains (regKey c h))
    if !j.op.early || j.committed.isSome || j.units.length = j.halves.length then s
    else match [0, 1].find? full with
      | some c =>
        commitOp core j.op (sumLanes (j.halves.map (fun h => tget j.regs (regKey c h) [])))
          (openCheck op.tag.run (putJoin core { j with committed := some c } s))
      | none => s
  | none => s

/-- A tile's half of an operation is finished with its lanes. -/
def finishHalf (core : Nat) (op : TileOp) (lanes : Tbl Int) (s : State) : State :=
  match s.join? core op with
  | some j =>
    let key := regKey op.copy op.half
    let s1 := putJoin core { j with regs := tset j.regs key lanes, done := addOnce j.done key } s
    let s2 := commitEarly core op s1
    match s2.join? core op with
    | some k =>
      if (k.copiesOf op.half).all (fun u => k.done.contains (regKey u.1 op.half)) then
        closeJoin core op (settleHalf core op.half k s2)
      else s2
    | none => s2
  | none => s

/-- Whether an operation is judged by comparison: another copy of its half runs (R362). -/
def State.compared (s : State) (core : Nat) (op : TileOp) : Bool :=
  (s.join? core op).elim false (fun j => decide (2 ≤ (j.copiesOf op.half).length))

/-- The lanes of a tile's register with the zero-point correction taken off; the retired columns of the tile give 0. -/
def State.regLanes (s : State) (core t : Nat) (op : TileOp) : Tbl Int :=
  let reg := (s.join? core op).elim [] (fun j => tget j.regs (regKey op.copy op.half) [])
  (s.opCols core t op).foldl (fun a c =>
    let v := tget reg c 0 - s.zeroCorr core t op c
    if v = 0 then a else tset a c v) []

/-- RESIDUAL_GROSS attributed to a tile (R358). -/
def grossFault (core t : Nat) (op : TileOp) (outcome detail : Nat) (s : State) : State :=
  attribute_ (uTile core t) 1 outcome (s.opWork op) detail false false s

/-- The last phase of an operation on a tile: it finishes, or a failed judgement starts a dispute (R357, R358, R364).
failed holds the failing blocks, detail the fault detail of the first. -/
def settleOp (core t : Nat) (op : TileOp) (failed : List Nat) (detail : Nat) (s : State) : State :=
  let lanes := s.regLanes core t op
  let clear := fun (u : State) => match u.join? core op with
    | some j => putJoin core { j with regs := tdel j.regs (regKey op.copy op.half) } u
    | none => u
  let again := fun (u : State) => count (coreCtr core 50) 1 (u.modTile core t (fun v =>
    { v with inFlight := { op with rerun := some detail } :: v.inFlight }))
  if s.compared core op then
    finishHalf core op lanes (if failed.isEmpty then s else grossFault core t op 0 detail s)
  else match failed, op.rerun with
  | [], none => finishHalf core op lanes s
  | [], some d =>
    let s1 := grossFault core t op 1 d s
    if op.early then closeCheck op.tag.run s1 else finishHalf core op lanes s1
  | _, none =>
    if op.early then again (opMark core op (256 + 2) (finishHalf core op lanes (openCheck op.tag.run s)))
    else again (clear s)
  | bs, some _ => (clear s).modCore core (fun k => { k with tongs := k.tongs ++ [.dispute op t bs] })

/-- An operation leaves its tile: its core has been busy up to now (R20), and it is settled. -/
def endOp (core t : Nat) (op : TileOp) (failed : List Nat) (detail : Nat) (s : State) : State :=
  settleOp core t op failed detail (s.modCore core (fun k => { k with busyClk := s.clk }))

/-! ## PHASE_START -/

/-- Whether nothing but operations has a tile: no reference phases or reprogramming, and no slice on its core (R16, R53,
R260). -/
def State.tileClear (s : State) (core t : Nat) : Bool :=
  !s.running.any (fun a => a.core == core && (a.slice || (decide (a.code ≤ 4) && a.tile == t)))

/-- Add to a tile's statistics and its core's sum (R58, R431). -/
def tileCount (core t i n : Nat) (s : State) : State := count (coreCtr core i) n (count (tileCtr core t i) n s)

/-- Begin the next operation of a tile: its gain correction is fixed, the predictor's decisions are taken (R38, R41 to R44, R56,
R80). -/
def beginOp (core t : Nat) (op : TileOp) (s : State) : State :=
  let v := s.tile core t
  let mt := s.weightMax core t
  let ad := admissions op.cfg mt op
  let switched := !v.lastCfg.isEmpty && cfgSettings v.lastCfg mt ≠ cfgSettings op.cfg mt
  let s1 := s.modTile core t (fun v => { v with inFlight := v.inFlight.drop 1, lastCfg := op.cfg })
  let s2 := tileCount core t 1 (ad.foldl (fun a x => a + x.skip) 0)
    (tileCount core t 2 (ad.foldl (fun a x => a + x.split) 0)
    (tileCount core t 3 (ad.foldl (fun a x => a + x.short) 0) (tileCount core t 7 (b2n switched) s1)))
  match ad.flatMap (·.phases) with
  | [] => endOp core t op [] 0 s2
  | p :: rest => tileCount core t 0 1 (s2.modTile core t (fun v =>
      { v with running := some { op := op, gain := v.gainCorr, phase := some p, rest := rest, failed := [] } }))

/-- PHASE_START: a tile begins its next phase: of the operation it is running, else of the operation admitted first (R38, R39,
R150). -/
def execPhaseStart (core : Fin 32) (tile : Fin 33) (s : State) : Answer :=
  let v := s.tile core.val tile.val
  match v.running with
  | some r =>
    match r.phase, r.rest with
    | none, p :: rest => ifDue s.coresRun (fun s =>
        tileCount core.val tile.val 0 1 (s.modTile core.val tile.val (fun v =>
          { v with running := some { r with phase := some p, rest := rest } }))) s
    | _, _ => .next s
  | none =>
    match v.inFlight with
    | op :: _ => ifDue (s.coresRun && s.tileClear core.val tile.val) (beginOp core.val tile.val op) s
    | [] => .next s

/-! ## PHASE_LATCH -/

/-- The 536 code words of a phase (R34, R36), for deviations in 1/256 product unit (log 15); a tie falls either way
(log 3). -/
def State.codeWords (s : State) (core t : Nat) (p : Phase) (gi : Nat) (dev : List (Nat × Int)) : List (Int × Bool) :=
  (upTo 536).map (fun j =>
    convert (s.sum256 core t j p.rows + dev.foldl (fun a d => if d.1 = j then a + d.2 else a) 0) 256 gi
      (Config.converterTie s.draw j))

/-- A phase code word (Table 2.5). -/
def codeWord (c : Int × Bool) : Nat := field 7 c.1 + 128 * b2n c.2

/-- A phase status word (Table 2.6). -/
def statusWord (p : Phase) (dataOvr csumOvr escape discard : Bool) : Nat :=
  b2n (p.half ≠ 0) + 2 * b2n (p.half == 2) + 4 * b2n p.retry + 8 * b2n dataOvr + 16 * b2n csumOvr + 32 * b2n escape +
    64 * b2n discard + 256 * (p.group % 16) + 4096 * p.pass

/-- A block's residual in a phase: none where its checksum column is retired; some none where over-range keeps it from being
formed (R47, R49, R60). -/
def State.residual (s : State) (core t b : Nat) (cs : List (Int × Bool)) : Option (Option Int) :=
  let live := ((upTo 32).map (fun i => 32 * b + i)).filter (fun j => !s.colRetired core t j)
  let at_ := fun (j : Nat) => cs.getD j (0, false)
  if s.colRetired core t (512 + b) then none
  else if (at_ (512 + b)).2 || live.any (fun j => (at_ j).2) then some none
  else some (some (live.foldl (fun a j => a + (at_ j).1) 0 - 32 * (at_ (512 + b)).1))

/-- Numerator of σ_ρ² over its common denominator (R73, R357). -/
def State.rhoNum (s : State) (core r : Nat) : Nat :=
  let n := s.noise2 core r s.power.tjNow
  (88 * (12 * n.n + n.d)).toNat

/-- The denominator of rhoNum. -/
def State.rhoDen (s : State) : Nat := (s.noise2 0 1 s.power.tjNow).d

/-- The mean of a finished batch in 1/16 step. -/
def Batch.mean16 (b : Batch) : Int := (fDiv b.sum16 b.count).rne

/-- Whether a finished batch fails (R359). -/
def State.batchFails (s : State) (b : Batch) : Bool :=
  !((fDiv b.sum16 16).mag.leRoot (s.regf 0xD00 8 8) (fDiv b.var s.rhoDen))

/-- A block of a tile has completed a clean batch: retract-list entries and RETRACT_LOST no longer wait for it (R366). -/
def cleanBlock (core t b : Nat) (s : State) : State :=
  s.modTile core t (fun v => { v with
    retractList := (v.retractList.map (fun e => { e with waiting := e.waiting.filter (· ≠ b) })).filter
      (fun e => !e.waiting.isEmpty),
    retractLost := v.retractLost.filter (· ≠ b) })

/-- The end of a batch of 256 judged phases of a block (R359, R360). -/
def batchEnd (core t b : Nat) (s : State) : State :=
  let x := tget (s.tile core t).batches b { count := 0, sum16 := 0, var := 0 }
  let s1 := s.modTile core t (fun v => { v with batches := tdel v.batches b })
  if s.batchFails x then askScan core t b x.mean16 (count (coreCtr core 49) 1 s1)
  else cleanBlock core t b s1

/-- SIEVE_BATCH_END: the batch of a block is full (R359). -/
def execSieveBatchEnd (core : Fin 32) (tile : Fin 33) (block : Fin 16) (s : State) : Answer :=
  match tget? (s.tile core.val tile.val).batches block.val with
  | some x => ifDue (s.coresRun && decide (256 ≤ x.count)) (batchEnd core.val tile.val block.val) s
  | none => .next s

/-- One judged residual of a block: whether it fails, its deviation in 1/16 step, and the machine with the batch
advanced (R357, R359). -/
def judge (core t b r : Nat) (rho : Int) (s : State) : Bool × Int × State :=
  let dev := 16 * rho - tget (s.tile core t).beta b 0
  let bad := !((fDiv dev 16).mag.leRoot (s.regf 0xD00 0 8) (s.rho2 core r s.power.tjNow))
  let full := 256 ≤ (tget (s.tile core t).batches b { count := 0, sum16 := 0, var := 0 }).count
  let s1 := if full then batchEnd core t b s else s
  let s2 := s1.modTile core t (fun v => { v with batches := tmod v.batches b { count := 0, sum16 := 0, var := 0 } (fun x =>
    { count := x.count + 1, sum16 := x.sum16 + dev, var := x.var + s.rhoNum core r }) })
  (bad, dev, count (coreCtr core 48) (b2n bad) (count (coreCtr core 47) 1 s2))

/-- Judge every block of a phase: the failing blocks with their deviations. -/
def judgeAll (core t r : Nat) (cs : List (Int × Bool)) (s : State) : List (Nat × Int) × State :=
  (upTo 16).foldl (fun a b =>
    match a.2.residual core t b cs with
    | none => a
    | some none => (a.1, tileCount core t 6 1 a.2)
    | some (some rho) =>
      let x := judge core t b r rho a.2
      (if x.1 then a.1 ++ [(b, x.2.1)] else a.1, x.2.2)) ([], s)

/-- The phase adds its contributions to the operation register (R156). -/
def accumulate (core t : Nat) (r : Running) (p : Phase) (cs : List (Int × Bool)) (s : State) : State :=
  match s.join? core r.op with
  | some j =>
    let op := r.op
    let key := regKey op.copy op.half
    let sc := (op.scales.getD p.group (Scale.zero, 0)).1
    let f := factor (cfgSigned op.cfg) p.pass (s.tile core t).role
    let reg := (s.opCols core t op).foldl (fun a c =>
      let v := contribution (cs.getD c (0, false)).1 f sc.mant r.gain (cfgGi op.cfg) sc.exp op.expMax op.accShift
      if v = 0 then a else tset a c (tget a c 0 + v)) (tget j.regs key [])
    putJoin core { j with regs := tset j.regs key reg } s
  | none => s

/-- A user phase ends: its codes are latched, retried, passed saturated, judged and summed (R36, R45 to R47, R357). -/
def latch (core t : Nat) (r : Running) (p : Phase) (dev : List (Nat × Int)) (s : State) : State :=
  let op := r.op
  let cs := s.codeWords core t p (cfgGi op.cfg) dev
  let ovr := (s.opCols core t op).filter (fun j => (cs.getD j (0, false)).2)
  let csum := (upTo 16).any (fun b => (cs.getD (512 + b) (0, false)).2)
  let discard := !ovr.isEmpty && p.half == 0
  let escape := !ovr.isEmpty && p.half ≠ 0
  let s1 := s.nextDraw.modTile core t (fun v => { v with
    outReg := cs.zipIdx.map (fun x => (x.2, codeWord x.1)),
    status := statusWord p (!ovr.isEmpty) csum escape discard })
  if discard then
    tileCount core t 4 1 (s1.modTile core t (fun v => { v with running := some { r with
      phase := none, rest := halves (cfgG op.cfg) p.group p.pass p.rows true ++ r.rest } }))
  else
    let s2 := if escape then
        tileCount core t 5 1 (opMark core op 0 (opSat core op ovr.length s1)) else s1
    let size := if p.half = 0 then cfgG op.cfg else cfgG op.cfg / 2
    let x := judgeAll core t size cs s2
    let s3 := accumulate core t r p cs x.2
    let failed := r.failed ++ x.1.map (fun e => e.1 + 16 * field 32 e.2)
    if r.rest.isEmpty then
      endOp core t op (dedup (failed.map (· % 16))) (failed.headD 0)
        (s3.modTile core t (fun v => { v with running := none }))
    else s3.modTile core t (fun v => { v with running := some { r with phase := none, failed := failed } })

/-- PHASE_LATCH: the phase under way on a tile ends; deviation holds what the analogue path adds to the ideal sums (R33,
R36; log 15). -/
def execPhaseLatch (core : Fin 32) (tile : Fin 33) (dev : List (Nat × Int)) (s : State) : Answer :=
  if WellFormed.deviation dev then
    match (s.tile core.val tile.val).running with
    | some r =>
      match r.phase with
      | some p => ifDue s.coresRun (latch core.val tile.val r p dev) s
      | none => .next s
    | none => .next s
  else .fault .illFormed

/-! ## TONGS_DONE -/

/-- MACs of a lane of an operation. -/
def lanesMacs (op : TileOp) (lanes : Nat) : Nat := op.rows.length * lanes

/-- Type D readings of a dispute (R358 step 3): a column that fails twice is retired, one that fails once takes a fault, and where
none is singled out the tile does. Answers the columns retired. -/
def disputeFaults (core t : Nat) (op : TileOp) (blocks : List Nat) (first second : List KatReading) (s : State) : State :=
  let seed := (s.core core).lfsr
  let inBlocks := fun (r : KatReading) => r.type.val == 0 &&
    (if r.column < 512 then blocks.contains (r.column / 32) else decide (r.column < 528) && blocks.contains (r.column - 512))
  let f1 := (s.katFails core t (first.filter inBlocks) 16 seed)
  let f2 := (s.katFails core t (second.filter inBlocks) 16 seed)
  let cols := sortNat ((f1 ++ f2).map (·.column))
  let s1 := count (coreCtr core 55) (f1.length + f2.length) (count (coreCtr core 54) 32 s)
  if cols.isEmpty then grossFault core t op 0 (op.rerun.getD 0) s1
  else each cols (fun c u =>
    let both := f1.any (fun r => r.column == c) && f2.any (fun r => r.column == c)
    match (f1 ++ f2).find? (fun r => r.column == c) with
    | some r => attribute_ (uCol core t c) 4 (if both then 2 else 0) (u.opWork op) (katDetail r (u.katDev core t r seed)) both true u
    | none => u) s1

/-- A dispute ends: Tongs' value is committed (R358 step 4), or, for an operation committed early, the checks end (R365). -/
def disputeDone (core t : Nat) (op : TileOp) (blocks : List Nat) (first second : List KatReading) (s : State) : State :=
  let before := (s.opCols core t op).length
  let s1 := disputeFaults core t op blocks first second s
  let cols := s1.opCols core t op
  let s2 := if cols.length < before then opMark core op 1 s1 else s1
  if op.early then closeCheck op.tag.run s2
  else
    let lanes := cols.foldl (fun a c =>
      let v := s2.tongsValue core t op c
      if v = 0 then a else tset a c v) []
    finishHalf core op lanes (count (coreCtr core 51) 1 (count (coreCtr core 33) (lanesMacs op cols.length) s2))

/-- The step of a group for a fault's DETAIL: the largest (Table 12.4). -/
def State.stepFrac (s : State) (core : Nat) (j : Join) (h : Nat) : Frac :=
  let gi := cfgGi j.op.cfg
  let t := ((j.copiesOf h).head?).elim 0 (fun u => u.2.2)
  let f : Int := if (s.tile core t).role = 2 then 15 else 1
  let m := j.op.scales.foldl (fun (a : Scale) x => if x.1.mant * 2 ^ (x.1.exp + 128).toNat > a.mant * 2 ^ (a.exp + 128).toNat then x.1 else a)
    Scale.zero
  (fInt (f * m.mant)).times (fPow2 ((gi : Int) + m.exp - j.op.expMax - j.op.accShift))

/-- A value in steps, rounded to nearest. -/
def inSteps (v : Int) (step : Frac) : Int := if step.n = 0 then 0 else (fDiv (v * step.d) step.n.toNat).rne

/-- One disagreeing lane (R362): each copy outside the limit of Tongs' value takes a fault; the lane takes the mean of the good
copies, or Tongs' value. Answers the value, whether the committed copy was wrong, and the machine. -/
def assuredLane (core h c : Nat) (j : Join) (s : State) : Int × Bool × State :=
  let us := j.copiesOf h
  let q := s.sOp2 core j h
  let k := s.assuredK j.op.tag.run
  let t0 := (us.head?).elim 0 (fun u => u.2.2)
  let v := s.tongsValue core t0 j.op c
  let reg := fun (u : Nat × Nat × Nat) => tget (tget j.regs (regKey u.1 h) []) c 0
  let good := us.filter (fun u => (fInt (reg u - v)).mag.leRoot k q)
  let bad := us.filter (fun u => !good.contains u)
  let st := s.stepFrac core j h
  let s1 := each bad (fun u t => attribute_ (uCol core u.2.2 c) 3 0 (t.opWork j.op)
    (field 32 (inSteps (reg u) st) + 2 ^ 32 * field 32 (inSteps v st)) false false t) s
  let val := match good with
    | [] => v
    | [a] => reg a
    | a :: b :: _ => rneDiv (reg a + reg b) 2
  (val, j.committed.elim false (fun x => bad.any (fun u => u.1 == x)), s1)

/-- Tongs has the disagreeing lanes of an assured operation (R362, R365). -/
def assuredDone (core : Nat) (op : TileOp) (lanes : List Nat) (s : State) : State :=
  match s.join? core op with
  | some j =>
    let h := op.half
    let r := lanes.foldl (fun (a : Tbl Int × Bool × State) c =>
      let x := assuredLane core h c j a.2.2
      (if x.1 = 0 then a.1 else tset a.1 c x.1, a.2.1 || x.2.1, x.2.2))
      (tget j.regs (regKey 2 h) [], false, count (coreCtr core 33) (lanesMacs op lanes.length) s)
    let s1 := if r.2.1 then opMark core op (256 + 1) r.2.2 else r.2.2
    match s1.join? core op with
    | some k => closeJoin core op (putJoin core { k with settled := tset k.settled h r.1 } s1)
    | none => s1
  | none => s

/-- EXP_min of an item and T_j of every column of its row, by n × 512 + j, with the MACs it took (R185, R186). -/
def State.goldenOf (s : State) (core q : Nat) (h : Head) (l : Layer) (c : Codes) : Int × Tbl Int × Nat :=
  let e := expMinOf (c.scales.flatten.map (·.1))
  let r := l.templates.zipIdx.foldl (fun (a : Tbl Int × Nat) x =>
    let n := x.2 / l.kParts
    let rows := c.templ.getD x.2 []
    let sc := c.scales.getD x.2 []
    let cols := s.colsNow h.part q x.1
    let tiles := s.templTiles core x.1
    let g := cfgG ((s.tile core x.1.tile).cfgAt (h.run.first256 / 256))
    (cols.foldl (fun t j =>
      let v := tiles.foldl (fun b u => b + s.tongsLane core u rows sc g e j) 0
      if v = 0 then t else tset t (512 * n + j) (tget t (512 * n + j) 0 + v)) a.1,
     a.2 + rows.length * cols.length * tiles.length)) ([], 0)
  (e, r.1, r.2)

/-- Tongs has a golden item (R186). -/
def goldenDone (core q b : Nat) (s : State) : State :=
  match s.head? core q with
  | some h =>
    match h.step, h.v.loop, h.v.readout with
    | .layer l, some x, some ro =>
      match x.codes.find? (fun c => c.item == b) with
      | some c =>
        if ro.item = b then
          let g := s.goldenOf core q h l c
          count (coreCtr core 33) g.2.2 (s.setQueue core q { h.v with readout := some { ro with golden := some (g.1, g.2.1) } })
        else s
      | none => s
    | _, _, _ => s
  | none => s

/-- TONGS_DONE: Tongs finishes its oldest request; for a dispute the readings of the type D vectors come with it (R185, R186,
R358, R362). -/
def execTongsDone (core : Fin 32) (first second : List KatReading) (s : State) : Answer :=
  if WellFormed.kats first && WellFormed.kats second then
    match (s.core core.val).tongs with
    | req :: rest => ifDue s.coresRun (fun s =>
        let s1 := s.modCore core.val (fun k => { k with tongs := rest })
        match req with
        | .dispute op t blocks => disputeDone core.val t op blocks first second s1
        | .assured op lanes => assuredDone core.val op lanes s1
        | .golden q b => goldenDone core.val q b s1) s
    | [] => .next s
  else .fault .illFormed

end Sys2Proof.Machine
end

