-- ==== Sys2Proof/Machine/Funnel.lean ====
section
/-! DEFINITION. Result records (R161, R186, R246, R267, R322 to R326, R363 to R367), trigger rules (R240), snippets (R331), the
Funnel FIFO (R319 to R321, R326) and its destinations (R328 to R330, R338, R340, R341). -/

namespace Sys2Proof.Machine

/-! ## Packets as words -/

/-- The eight header words of a packet and its body (Tables 11.4, 11.5); at level 1 MARKS bits 4 to 15 and words 6 and 7 are
zero (R340). -/
def Pkt.dwords (k : Pkt) (level1 : Bool) : List DWord :=
  let marks := if level1 then k.marks.filter (fun m => decide (m < 4)) else k.marks
  [d64 (5 * 2 ^ 60 + k.kind * 2 ^ 48 + k.words),
   d64 (k.flow % 16384 + 2 ^ 14 * b2n k.isCtx + 2 ^ 16 * k.part + 2 ^ 19 * b2n k.cls + 2 ^ 20 * b2n k.prov +
     2 ^ 21 * b2n k.lost + 2 ^ 32 * marksWord marks + 2 ^ 48 * k.sat),
   d64 k.seq, d64 (k.first256 / 256), d64 (k.last256 / 256), d64 (k.modelEpoch.toNat + 2 ^ 32 * k.configEpoch.toNat),
   d64 (if level1 then 0 else k.ptpSec % 2 ^ 48),
   d64 (if level1 then 0 else k.ptpNs % 2 ^ 30 + 2 ^ 30 * b2n k.ptpLocked + 2 ^ 32 * (k.first256 % 256) +
     2 ^ 40 * (k.last256 % 256))] ++ k.body

/-- An idle word (Table 11.4). -/
def idleWord : DWord := d64 (0xC * 2 ^ 60)

/-- A pad word with its count of valid bytes. -/
def padWord (valid : Nat) : DWord := d64 (0xA * 2 ^ 60 + valid * 2 ^ 40)

/-- One 512-bit word from up to eight 64-bit words (R321). -/
def line512 (w : List DWord) : List DWord :=
  if w.isEmpty then List.replicate 8 idleWord else w ++ List.replicate (8 - w.length) (padWord (8 * w.length))

/-! ## Trigger rules (R240) -/

/-- The words of a rule in force at a tick; none where it is clear. -/
def State.ruleAt (s : State) (p i tick : Nat) : List Word :=
  (((tget s.pre.rules (64 * p + i) []).filter (fun r => r.since ≤ tick)).getLast?).elim [] (·.words)

/-- Whether a rule matches a record with its top-1 index and value. -/
def ruleMatches (w : List Word) (k : Pkt) (idx : Nat) (v : Word) : Bool :=
  let m := toF32 (decFp fp16 (pf w 3 16 16))
  pf w 1 0 14 == k.flow && (pf w 3 0 16 == 0xFFFF || pf w 3 0 16 == idx) && !(ofF32 v).isNan && !(ofF32 m).isNan &&
  !(ofF32 v).lt (ofF32 m)

/-- The tick of a rule's assertion: anchor and OFFSET_TK, rounded down to a whole tick. -/
def ruleTick (w : List Word) (k : Pkt) : Nat :=
  ((((if bit (pw w 0) 9 then k.last256 else k.first256) / 256 : Nat) : Int) + sx 32 (pw w 2).toNat).toNat

/-- The pins and ticks that the rules of a record's partition schedule, of the pins whose FIRE_ON lies in fires; the rules are
those in force at the window's first tick (Table 10.6a). -/
def State.ruleHits (s : State) (k : Pkt) (fires : List Nat) : List (Nat × Nat) :=
  match k.top1 with
  | some (idx, v) =>
    if k.isCtx then []
    else (upTo 64).filterMap (fun i =>
      let w := s.ruleAt k.part i (k.first256 / 256)
      if !w.isEmpty && ruleMatches w k idx v && fires.contains (s.trigOutf (pf w 0 6 3) 6 1) then
        some (pf w 0 6 3, ruleTick w k) else none)
  | none => []

/-- Schedule the assertions of a record. -/
def fireRules (k : Pkt) (hits : List (Nat × Nat)) (s : State) : State :=
  each hits (fun x t => schedulePin x.1 x.2 (some k.src) t) s

/-! ## Snippets (R331) -/

/-- The bytes of a partition's snippet region. -/
def State.snipBytes (s : State) (p : Nat) : Nat := 67108864 * s.regf (0xC00 + 8 * p) 24 8

/-- The elements of a window as 16-bit words (R230). -/
def State.winWords (s : State) (w : Window) : List Nat :=
  let per := if w.iq then 2 else 1
  let total := (if w.padTo = 0 then w.padLead + w.len else w.padTo) * per
  (upTo total).map (fun i => field 16 ((s.winElement w i).toInt 16).1)

/-- Whether the ring still holds every sample of a window. -/
def State.winHeld (s : State) (w : Window) : Bool :=
  ((s.ring w.stream).span w.start w.len).isSome

/-- Words of 64 bits from 16-bit elements, zero-filled. -/
def packHalf (n : Nat) (l : List Nat) : List DWord :=
  match n with
  | 0 => []
  | k + 1 => d64 (ofBytes ((l.take 4).flatMap (leBytes 2))) :: packHalf k (l.drop 4)

/-- The snippet packet of a record. -/
def snippetPkt (k : Pkt) (e : List Nat) : Pkt :=
  { k with kind := 9, prov := false, lost := false, body := d64 e.length :: packHalf (ceilDiv e.length 4) e, top1 := none }

/-- The snippet a record gets, where it gets one, and whether its copying stopped. -/
def State.snippet (s : State) (k : Pkt) (w : Option Window) : Option (List Nat) × Bool :=
  match w with
  | some w =>
    let e := s.winWords w
    if s.fnCtrl k.part 9 1 = 0 then (none, false)
    else if !s.winHeld w then (none, true)
    else if s.snipBytes k.part < (s.funnel k.part).snipUsed + 2 * e.length then (none, false)
    else (some e, false)
  | none => (none, false)

/-! ## Result records -/

/-- A record is confirmed: it enters the retract list of every tile its window used (R366). -/
def noteConfirmed (k : Pkt) (s : State) : State :=
  match k.run.bind s.run? with
  | some r =>
    each r.tiles (fun e t => t.modTile (e.1 / 33) (e.1 % 33) (fun v =>
      let x : RetractEntry := { part := k.part, ctx := k.flow + 16384 * b2n k.isCtx, seq := k.seq, cols := e.2,
                                waiting := dedup (e.2.map (· / 32)) }
      let full := decide (64 ≤ v.retractList.length)
      { v with retractList := (if full then v.retractList.drop 1 else v.retractList) ++ [x],
               retractLost := if full then upTo 16 else v.retractLost })) s
  | none => s

/-- Whether a record of a run has been retracted (R365). -/
def State.runRetracted (s : State) (p rid : Nat) : Bool :=
  (s.funnel p).outstanding.any (fun o => o.pkt.run == some rid && o.verdict.elim false (fun v => v % 256 == 6))

/-- Note a record that a CONFIRM or RETRACT may follow. -/
def noteRecord (k : Pkt) (verdict : Option Nat) (s : State) : State :=
  s.modFunnel k.part (fun f => { f with outstanding := f.outstanding ++
    [{ pkt := k, dests := 0, verdict := verdict, taken := 0 }] })

/-- The words of a RESULT record from word 8 on (Table 11.7). -/
def resultBody (fmt item : Nat) (snip : Bool) (payload : Bytes) (golden : List DWord) : List DWord :=
  d64 (fmt + 8 * b2n snip + 32 * payload.length + 2 ^ 24 * item) :: toDwords (ceilDiv payload.length 8) payload ++ golden

/-- Whether a record formed now comes after its window's deadline tick (R267). -/
def State.lateNow (s : State) (r : Run) : Bool :=
  r.window.isSome && s.tbRunning && decide (r.deadline < s.tb.tick256At s.instNow)

/-- Form the RESULT record of an item (R322, R364): provisional while checks of its run are open or after one has failed; its
marks, rules and snippet follow, and a RETRACT at once where its checks have finished and failed. A retracted window, or one
already ended by another record, yields none (R209, R365). -/
def formResult (rid fmt item : Nat) (payload : Bytes) (golden : List DWord) (top1 : Option (Nat × Word)) (s : State) : State :=
  match s.run? rid with
  | some r =>
    let p := (s.ctx? r.ctx).elim 0 (·.part)
    if r.status.isSome || s.runRetracted p rid then s
    else match runPkt rid 1 [] s with
    | (s1, some k0) =>
      let late := s.lateNow r
      let open_ := decide (0 < r.openChecks)
      let prov := open_ || r.failCause.isSome
      let bad := !open_ && r.failCause.isSome
      let marks := k0.marks ++ (if late then [7] else []) ++ (if golden.isEmpty then [] else [8])
      let k1 := { k0 with prov := prov, marks := marks, top1 := top1 }
      let hits := if bad then [] else s1.ruleHits k1 (if prov then [1] else [0, 1])
      let sn := if hits.isEmpty then (none, false) else s1.snippet k1 r.window
      let k := { k1 with body := resultBody fmt item sn.1.isSome payload golden }
      let s2 := form p k (count (partCtr p 17) (b2n sn.2) (count (partCtr p 11) (b2n late) s1))
      let s3 := match sn.1 with
        | some e => form p (snippetPkt k e) (s2.modFunnel p (fun f => { f with snipUsed := f.snipUsed + 2 * e.length }))
        | none => s2
      let s4 := fireRules k hits (noteRecord k (if prov then none else some 0) s3)
      if bad then retractRec k (r.failCause.getD 0) s4 else if prov then s4 else noteConfirmed k s4
    | (_, none) => s
  | none => s

/-! ## CHECKS_DONE -/

/-- The verdict on one provisional record whose checks have finished (R325, R365): RULES with FIRE_ON = 0 are tested as it is
confirmed. -/
def settleRecord (o : Outstanding) (s : State) : State :=
  match o.pkt.run.bind s.run? with
  | some r =>
    if 0 < r.openChecks then s
    else match r.failCause with
    | some c => retractRec o.pkt c s
    | none => fireRules o.pkt (s.ruleHits o.pkt [0]) (noteConfirmed o.pkt (confirmRec o.pkt s))
  | none => s

/-- CHECKS_DONE: the provisional records of a partition whose checks have finished are confirmed or retracted (R365, R367). -/
def execChecksDone (part : Fin 8) (s : State) : Answer :=
  ifDue s.coresRun (fun s =>
    let open_ := (s.funnel part.val).outstanding.filter (fun o => o.verdict.isNone)
    each (dedup (open_.filterMap (fun o => o.pkt.run))) settleRun (each open_ settleRecord s)) s

/-! ## The FIFO -/

/-- Whether a packet kind may use the last 16 KiB (R326). -/
def tailKind (k : Nat) : Bool := decide (2 ≤ k) && decide (k ≤ 8)

/-- Whether a packet is dropped where even that space is full (R326). -/
def dropKind (k : Nat) : Bool := k == 2 || k == 7 || k == 8

/-- A partition's oldest waiting packet is reserved and written; where it does not fit it waits, or is dropped (R319,
R326). -/
def reserve (p : Nat) (s : State) : State :=
  let f := s.funnel p
  match f.waiting with
  | k :: rest =>
    let n := 8 * k.words
    let room := if tailKind k.kind then 262144 else 245760
    if f.used + n ≤ room then
      s.modFunnel p (fun f => { f with
        waiting := rest, lost := false, fifo := f.fifo ++ [{ pkt := { k with lost := f.lost }, route := 0, hostRead := 0, netRead := 0 }],
        snipUsed := if k.kind = 9 then f.snipUsed - 2 * (k.body.headD 0).toNat else f.snipUsed })
    else if dropKind k.kind then
      count (partCtr p 16) 1 (s.modFunnel p (fun f => { f with waiting := rest, lost := true }))
    else s
  | [] => s

/-- FUNNEL_RESERVE. -/
def execFunnelReserve (part : Fin 8) (s : State) : Answer := ifDue s.served (reserve part.val) s

/-! ## Reading the FIFO (R321, R328) -/

/-- The destinations a packet goes to: those fixed when it was taken; for a CONFIRM or RETRACT those that received the record;
else PT_FN_CTRL in force (R325, R328). -/
def State.routeOf (s : State) (p : Nat) (e : FifoPkt) : Nat :=
  let now_ := s.fnCtrl p 0 1 + 2 * s.fnCtrl p 2 1
  if e.route ≠ 0 then e.route
  else if e.pkt.kind = 5 || e.pkt.kind = 6 then
    match (s.funnel p).outstanding.find? (fun o => o.pkt.src = e.pkt.src) with
    | some o => if o.dests = 0 then now_ else o.dests
    | none => now_
  else now_

/-- The words of a packet one destination has read: 1 host, 2 net. -/
def FifoPkt.read (e : FifoPkt) (dest : Nat) : Nat := if dest = 1 then e.hostRead else e.netRead

/-- Move a destination on in a packet. -/
def FifoPkt.advance (e : FifoPkt) (dest n route : Nat) : FifoPkt :=
  if dest = 1 then { e with route := route, hostRead := e.hostRead + n } else { e with route := route, netRead := e.netRead + n }

/-- Whether a route names a destination. -/
def onRoute (route dest : Nat) : Bool := bitN route (dest - 1)

/-- Up to n words for a destination, and the FIFO with them read. -/
def readFifo (s : State) (p dest n : Nat) (l : List FifoPkt) : List DWord × List FifoPkt :=
  match l with
  | [] => ([], [])
  | e :: rest =>
    let r := s.routeOf p e
    if n = 0 || r = 0 then ([], e :: rest)
    else if onRoute r dest then
      let w := ((e.pkt.dwords false).drop (e.read dest)).take n
      let x := if e.read dest + w.length < e.pkt.words then ([], rest) else readFifo s p dest (n - w.length) rest
      (w ++ x.1, e.advance dest w.length r :: x.2)
    else
      let x := readFifo s p dest n rest
      (x.1, e :: x.2)

/-- Whether every destination has taken a packet. -/
def FifoPkt.done (e : FifoPkt) : Bool :=
  e.route ≠ 0 && (!onRoute e.route 1 || decide (e.pkt.words ≤ e.hostRead)) &&
  (!onRoute e.route 2 || decide (e.pkt.words ≤ e.netRead))

/-- What a record's entry learns from a packet that a destination has read. -/
def noteTaken (e : FifoPkt) (o : Outstanding) : Outstanding :=
  if o.pkt.src ≠ e.pkt.src then o
  else if e.pkt.kind = 1 then { o with dests := o.dests ||| e.route }
  else if e.pkt.kind = 5 || e.pkt.kind = 6 then
    { o with taken := o.taken ||| (b2n (onRoute e.route 1 && decide (e.pkt.words ≤ e.hostRead)) +
        2 * b2n (onRoute e.route 2 && decide (e.pkt.words ≤ e.netRead))) }
  else o

/-- Put the FIFO back after a read: packets taken are counted, their space is freed when every destination has them (R328,
R353). -/
def putFifo (p : Nat) (l : List FifoPkt) (s : State) : State :=
  let old := (s.funnel p).fifo
  let fresh := (old.zip l).filter (fun x => x.1.route = 0 && x.2.route ≠ 0)
  let s1 := count (partCtr p 15) (fresh.foldl (fun a x => a + 8 * x.2.pkt.words) 0) (count (partCtr p 14) fresh.length s)
  s1.modFunnel p (fun f => { f with
    fifo := l.filter (fun e => !e.done),
    outstanding := f.outstanding.map (fun o => l.foldl (fun x e => if e.route = 0 then x else noteTaken e x) o) })

/-- The words waiting for a destination. -/
def State.waitWords (s : State) (p dest : Nat) : Nat := (readFifo s p dest 40000 (s.funnel p).fifo).1.length

/-- One 512-bit word is read for a destination. -/
def readLine (p dest : Nat) (s : State) : List DWord × State :=
  let x := readFifo s p dest 8 (s.funnel p).fifo
  (line512 x.1, putFifo p x.2 s)

/-! ## DMA to the host (R328) -/

/-- The bytes of the host ring. -/
def State.ringSize (s : State) (p : Nat) : Nat := 2 ^ s.regf (partOff p 0x40C) 0 5

/-- The host ring's address. -/
def State.ringBase (s : State) (p : Nat) : Nat := (s.reg (partOff p 0x404)).toNat + 2 ^ 32 * (s.reg (partOff p 0x408)).toNat

/-- The lines that may be written in a ring: one stays free, so that the line at READ is never overwritten. -/
def freeRing (size w r : Nat) : Nat := (size - 64 - (w + size - r % size) % size) / 64

/-- Write one line to the host ring. -/
def dmaLine (p : Nat) (s : State) : State :=
  let x := readLine p 1 s
  let w := (s.funnel p).writeOff
  (x.2.hostWrite (s.ringBase p + w) (dwordBytes x.1)).modFunnel p (fun f => { f with writeOff := (w + 64) % s.ringSize p })

/-- A burst to the host: lines, then the write offset, then the vector; the wait for ring space is counted (R328, R353). -/
def dmaHost (p : Nat) (s : State) : State :=
  let fn := s.partFn p
  if s.fnCtrl p 1 1 = 1 || !s.master fn || !s.partOn p then s
  else
    let free := freeRing (s.ringSize p) (s.funnel p).writeOff (s.reg (partOff p 0x418)).toNat
    let want := ceilDiv (s.waitWords p 1) 8
    let n := min free want
    let s1 := each (upTo n) (fun _ t => dmaLine p t) s
    let s2 := if n = 0 then s1
      else
        let widx := (s.reg (partOff p 0x410)).toNat + 2 ^ 32 * (s.reg (partOff p 0x414)).toNat
        raiseHeld fn (s.fnCtrl p 16 6) (s.fnCtrl p 24 8) (s1.hostWrite widx (leBytes 8 (s1.funnel p).writeOff))
    let waited := if n = 0 then 0 else (s.funnel p).stallClk.elim 0 (fun c => 4 * (s.clk - c))
    let stall := if n < want then (if n = 0 then some ((s.funnel p).stallClk.getD s.clk) else some s.clk) else none
    count (partCtr p 18) waited (s2.modFunnel p (fun f => { f with stallClk := stall }))

/-! ## To a peer (R336 to R341) -/

/-- Word i of a port record, w7 being word 0 (Table 11.10). -/
def Port.w (v : Port) (i : Nat) : Word := v.words.getD i 0

/-- Word i of a peer record, w7 being word 0 (Table 11.11). -/
def Peer.w (v : Peer) (i : Nat) : Word := v.words.getD i 0

/-- KIND of a peer. -/
def Peer.kind (v : Peer) : Nat := bits (v.w 0) 0 2

/-- The port of a peer. -/
def Peer.port (v : Peer) : Nat := bits (v.w 0) 2 1

/-- MTU of a port; 1,500 before a record is set. -/
def Port.mtu (v : Port) : Nat := clampN (bits (v.w 8) 16 14) 1500 9216

/-- A node message (Table 11.12). -/
def message (v : Port) (level type seq ack part : Nat) (payload : Bytes) : Bytes :=
  leBytes 2 0x4B54 ++ [byte level, byte type] ++ leBytes 2 (24 + payload.length) ++ leBytes 2 (bits (v.w 10) 0 16) ++
  leBytes 4 seq ++ leBytes 4 ack ++ [byte part] ++ List.replicate 7 0 ++ payload

/-- Bytes cut into pieces. fuel counts pieces. -/
def pieces (fuel n : Nat) (b : Bytes) : List Bytes :=
  match fuel with
  | 0 => []
  | k + 1 => if b.isEmpty then [] else b.take n :: pieces k n (b.drop n)

/-- The payload limit of a peer's messages, cut to 8-byte boundaries (R336, R337). -/
def State.payloadLimit (s : State) (v : Peer) : Nat :=
  ((s.port v.port).mtu - (if bit (v.w 0) 3 then 72 else 52)) / 8 * 8

/-- Send one RECORD message: it stays unacknowledged (R338). -/
def sendRecord (p n : Nat) (b : Bytes) (s : State) : State :=
  let v := s.peer p n
  let seq := v.seqOut + 1
  let data := message (s.port v.port) v.level 2 seq v.seqIn p b
  let s1 := count (portCtr v.port 0) 1 (s.modPeer p n (fun v => { v with
    seqOut := seq, unacked := v.unacked ++ [{ seq := seq, data := data, resends := 0 }] }))
  s1.emit (.frame v.port 2 (64 * p + n) data)

/-- The first packet of the FIFO that the network has still to take. -/
def State.netHead (s : State) (p : Nat) : Option FifoPkt :=
  match (s.funnel p).fifo.find? (fun e => s.routeOf p e = 0 || (onRoute (s.routeOf p e) 2 && e.netRead == 0)) with
  | some e => if s.routeOf p e = 0 then none else some e
  | none => none

/-- Packets to a node peer, each in messages of its own, while fewer than 256 messages would be unacknowledged (R337, R338).
fuel counts packets. -/
def toNode (fuel p n : Nat) (s : State) : State :=
  match fuel with
  | 0 => s
  | f + 1 =>
    match s.netHead p with
    | some e =>
      let v := s.peer p n
      let bs := pieces 256 (s.payloadLimit v) (dwordBytes (e.pkt.dwords (decide (v.level ≤ 1))))
      if 256 < v.unacked.length + bs.length then s
      else
        let x := readFifo s p 2 e.pkt.words (s.funnel p).fifo
        toNode f p n (putFifo p x.2 (each bs (sendRecord p n) s))
    | none => s

/-- The path MTU of a RoCEv2 peer: the largest that the port's MTU allows with the headers of IP, UDP and the transport
(Table 11.13). -/
def State.pathMtu (s : State) (v : Peer) : Nat :=
  let room := (s.port v.port).mtu - (if bit (v.w 0) 3 then 84 else 64)
  if 4096 ≤ room then 4096 else if 2048 ≤ room then 2048 else 1024

/-- Send one RDMA packet under the next PSN; kind 16 a WRITE, 17 the WRITE with Immediate. -/
def sendRdma (p n kind : Nat) (b : Bytes) (s : State) : State :=
  let v := s.peer p n
  let data := leBytes 3 v.psn ++ b
  (s.modPeer p n (fun v => { v with psn := (v.psn + 1) % 2 ^ 24, sent := v.sent ++ [(v.psn, byte kind :: data)] })).emit
    (.frame v.port kind (64 * p + n) data)

/-- The lines of a burst to a RoCEv2 peer: their bytes and the machine past them. -/
def rdmaLines (k p : Nat) (s : State) : Bytes × State :=
  match k with
  | 0 => ([], s)
  | m + 1 =>
    let x := readLine p 2 s
    let y := rdmaLines m p x.2
    (dwordBytes x.1 ++ y.1, y.2)

/-- A burst to a RoCEv2 peer (R341): WRITEs of the lines into its ring, then the WRITE with Immediate. -/
def toRoce (p n : Nat) (s : State) : State :=
  let v := s.peer p n
  let size := 2 ^ clampN (bits (v.w 12) 0 5) 12 30
  let k := min (freeRing size v.writeOff v.readOff) (ceilDiv (s.waitWords p 2) 8)
  if k = 0 then s
  else
    let x := rdmaLines k p s
    let va := (v.w 10).toNat + 2 ^ 32 * (v.w 11).toNat
    let first := min (64 * k) (size - v.writeOff)
    let put := fun (off : Nat) (b : Bytes) (t : State) =>
      each (pieces 4096 (s.pathMtu v) b).zipIdx (fun e u =>
        sendRdma p n 16 (leBytes 8 (va + off + e.2 * s.pathMtu v) ++ leBytes 4 (v.w 9).toNat ++ e.1) u) t
    let s1 := put 0 (x.1.drop first) (put v.writeOff (x.1.take first) x.2)
    let w := (v.writeOff + 64 * k) % size
    sendRdma p n 17 (leBytes 4 w) (s1.modPeer p n (fun v => { v with writeOff := w }))

/-- Whether PFC holds back the priority a port sends on (R332, Table 11.10). -/
def State.portPaused (s : State) (n : Nat) : Bool :=
  let v := s.port n
  bit (v.w 0) 3 && bits (v.w 0) 20 3 == bits (v.w 0) 4 3 && decide (s.clk < v.paused)

/-- Whether a peer takes packets: its port is up and not paused, and it is not down (R332, R338). -/
def State.peerUp (s : State) (p n : Nat) : Bool :=
  let v := s.peer p n
  !v.down && (s.port v.port).link == 2 && !s.portPaused v.port

/-- The network takes what it can (R328, R338, R341). -/
def toNet (p : Nat) (s : State) : State :=
  let n := s.fnCtrl p 3 6
  let v := s.peer p n
  if !s.peerUp p n then s
  else if v.kind = 1 then toNode (s.funnel p).fifo.length p n s
  else if v.kind = 2 then toRoce p n s
  else s

/-- FUNNEL_DMA_BURST: packets go to the host ring and to the network peer, as far as each takes them (R328, R341). -/
def execFunnelDmaBurst (part : Fin 8) (s : State) : Answer :=
  ifDue s.served (fun s => toNet part.val (dmaHost part.val s)) s

/-! ## PIO (R329) -/

/-- PT_FN_PIO: bytes of the head 512-bit word; a read of bytes 0x38 to 0x3F takes it. Outside PIO mode the window reads idle
(log 19). -/
def execPtFnPio (fn : Fin 32) (part : Fin 8) (first : Fin 64) (bytes : Nat) (s : State) : Answer :=
  checked (WellFormed.pio first bytes) (fun s =>
    let p := part.val
    if s.served && s.fnEnabled fn.val && (fn.val == 0 || s.fnPart? fn.val == some p) then
      let on := s.fnCtrl p 0 1 == 1 && s.fnCtrl p 1 1 == 1
      let x := if on then readLine p 1 s else (line512 [], s)
      let data := ((dwordBytes x.1).drop first.val).take bytes
      let takes := on && decide (first.val ≤ 0x38) && first.val + bytes == 64
      (if takes then x.2 else s).emit (.pio data)
    else s) s

end Sys2Proof.Machine
end

