-- ==== Sys2Proof/Machine/Layout.lean ====
section
/-! DEFINITION. What a commit tick decides for registers (R202, R242, R269, R291, R315, R316, R330, R348, R349, R354,
R386): the layout of package memory, the partition, Stockpot, memory, link, Funnel, pin and checking registers, and those
that simply take their value. -/

namespace Sys2Proof.Machine

/-! ## Package memory (R348) -/

/-- The enabled links of a partition. -/
def State.partLinks (s : State) (p : Nat) : List Nat := (upTo 4).filter (fun n => s.linkOn n && s.linkPart n == p)

/-- The regions of a partition in order, in units of 64 MiB: links 0 to 3, then 4 kernel store, 5 context, 6 image, 7 spill,
8 snippet (Table 11.15). -/
def State.regionSizes (s : State) (p : Nat) : List (Nat × Nat) :=
  if s.partOn p then
    (s.partLinks p).map (fun n => (n, 2 ^ s.linkf n 0x14 0 3)) ++
    [(4, 1), (5, s.regf (0xC00 + 8 * p) 0 8), (6, s.regf (0xC00 + 8 * p) 8 8), (7, s.regf (0xC00 + 8 * p) 16 8),
     (8, s.regf (0xC00 + 8 * p) 24 8)]
  else []

/-- The units of a partition. -/
def State.partUnits (s : State) (p : Nat) : Nat := (s.regionSizes p).foldl (fun a e => a + e.2) 0

/-- The first unit of a partition: 8 units of firmware come first. -/
def State.memBase (s : State) (p : Nat) : Nat := (upTo p).foldl (fun a q => a + s.partUnits q) 8

/-- Regions with their first units. -/
def placeRegions (l : List (Nat × Nat)) (base : Nat) : List (Nat × Nat × Nat) :=
  match l with
  | [] => []
  | (k, n) :: r => (k, base, n) :: placeRegions r (base + n)

/-- The regions of a partition: kind, first unit, units. -/
def State.regions (s : State) (p : Nat) : List (Nat × Nat × Nat) := placeRegions (s.regionSizes p) (s.memBase p)

/-- The partition and region that hold a unit of 64 MiB. -/
def State.regionOf? (s : State) (unit : Nat) : Option (Nat × Nat) :=
  (upTo 8).findSome? (fun p => ((s.regions p).find? (fun e => decide (e.2.1 ≤ unit) && decide (unit < e.2.1 + e.2.2))).map
    (fun e => (p, e.1)))

/-- Whether a partition's regions must stay (R349). -/
def State.memBusy (s : State) (p : Nat) : Bool :=
  s.flows.ctxs.any (fun e => e.2.part == p && !e.2.isCmd) || s.pre.kernels.any (fun k => k.part == p) ||
  s.pre.models.any (fun m => m.part == p) || !(s.partLinks p).isEmpty

/-- Whether a layout keeps the regions a partition had. -/
def keepsRegions (old new : List (Nat × Nat × Nat)) : Bool :=
  old.all (fun e => e.2.2 == 0 || new.any (fun x => x.1 == e.1 && x.2.1 == e.2.1 && decide (e.2.2 ≤ x.2.2)))

/-- The machine with the links off that a change disables: their rings are given back unchecked, since R349 checks link
enables and sizes only (R231, R349; DEDUCED, log 21). -/
def withoutLeaving (s t : State) : State :=
  each (upTo 4) (fun n u => if t.linkOn n then u else u.setRegf (0x400 + 0x20 * n) 0 1 0) s

/-- The first partition whose layout a change may not make (R349). -/
def memBad (s0 t : State) : Option Nat :=
  let s := withoutLeaving s0 t
  (upTo 8).find? (fun p => decide (480 < t.memBase p + t.partUnits p) ||
    (s.memBusy p && !keepsRegions (s.regions p) (t.regions p)))

/-- Bytes of the context region in use: cold parts and inboxes (R248, R305). -/
def State.contextUsed (s : State) (p : Nat) : Nat :=
  (s.flows.ctxs.filter (fun e => e.2.part == p)).foldl (fun a e =>
    a + e.2.coldBytes + (match e.2.kernel, e.2.bindings.getLast? with
      | some k, _ => k.parts.foldl (fun b x => b + x.inboxBytes) 0
      | none, some b => b.kernel.parts.foldl (fun b x => b + x.inboxBytes) 0
      | none, none => 0)) 0

/-- Whether the context region has room for more bytes. -/
def State.contextFits (s : State) (p n : Nat) : Bool :=
  decide (s.contextUsed p + n ≤ 67108864 * s.regf (0xC00 + 8 * p) 0 8)

/-- Bytes of the weight-image region left. -/
def State.imageLeft (s : State) (p : Nat) : Nat :=
  67108864 * s.regf (0xC00 + 8 * p) 8 8 - (s.pre.models.filter (fun m => m.part == p)).foldl (fun a m => a + m.bytes) 0

/-! ## Applying register writes -/

/-- A staged register write: offset, mask and value. -/
abbrev RegWrite := Nat × Word × Word

/-- Put register values. -/
def putRegs (l : List RegWrite) (s : State) : State := each l (fun e t => t.setReg e.1 e.2.2) s

/-- Whether an offset is one of the partition registers (Table 11.3). -/
def isPartReg (o : Nat) : Bool := decide (0x600 ≤ o) && decide (o < 0x648)

/-- Whether an offset is one of the Stockpot shares (Table 9.5). -/
def isPotReg (o : Nat) : Bool := decide (0x500 ≤ o) && decide (o < 0x540)

/-- Whether an offset is one of GL_MEM_PART. -/
def isMemReg (o : Nat) : Bool := decide (0xC00 ≤ o) && decide (o < 0xC40)

/-- Whether an offset is a link register (Table 8.7). -/
def isLinkReg (o : Nat) : Bool := decide (0x400 ≤ o) && decide (o < 0x480)

/-- Whether R315 holds: no function serves two partitions, no core lies in two. -/
def State.partsLegal (s : State) : Bool :=
  (upTo 8).all (fun p => (upTo p).all (fun q => !(s.partOn p && s.partOn q) ||
    (s.partFn p != s.partFn q && s.partCores p &&& s.partCores q == 0)))

/-- Whether a partition has work that holds its units (R316). -/
def State.partHeld (s : State) (p : Nat) : Bool :=
  s.flows.ctxs.any (fun e => e.2.part == p) || s.pre.kernels.any (fun k => k.part == p) ||
  s.pre.models.any (fun m => m.part == p)

/-- Whether a change takes a core, a work counter or the partition itself from partition p. -/
def takesFrom (s t : State) (p : Nat) : Bool :=
  s.partOn p && (!t.partOn p || (s.partCores p &&& t.partCores p) != s.partCores p ||
    (upTo 16).any (fun w =>
      let o := fun (x : State) => x.regf (0x640 + 4 * (w / 8)) (4 * (w % 8)) 4
      o s == p + 8 && o t != p + 8))

/-- The partition for which a change of partition registers is not applied (R316). -/
def partBad (s t : State) : Option Nat :=
  if t.partsLegal then (upTo 8).find? (fun p => s.partHeld p && takesFrom s t p)
  else ((upTo 8).find? (fun p => s.partOn p != t.partOn p || s.partFn p != t.partFn p || s.partCores p != t.partCores p)).orElse
    (fun _ => some 0)

/-- Partition registers are applied as a whole, or not at all with PART_CONFIG (R316). -/
def applyParts (l : List RegWrite) (s : State) : State :=
  let t := putRegs l s
  match partBad s t with
  | none => t
  | some p => raiseDev noUnit (ev 0x14 2 noFault p 0 0 0) s

/-- The lines a partition holds: open flows, command contexts and spilled sums (R163, R244). -/
def State.linesHeld (s : State) (p : Nat) : List Nat :=
  (s.flows.ctxs.filter (fun e => e.2.part == p)).map (·.1) ++
  (s.flows.spillLines.filter (fun e => (s.ctx? e.1).elim false (fun c => c.part == p))).map (·.2)

/-- One partition's share at a commit tick (R269): l holds the share registers written. -/
def applyShare (l : List RegWrite) (p : Nat) (s : State) : State :=
  let t := putRegs (l.filter (fun e => e.1 == 0x500 + 8 * p || e.1 == 0x504 + 8 * p)) s
  let h := t.share p
  let clash := decide (16384 < h.1 + h.2) || (upTo p).any (fun q => overlapR h.1 h.2 (t.share q).1 (t.share q).2)
  let u := if clash && decide (h.2 ≠ 0) then t.setReg (0x504 + 8 * p) 0 else t
  if (s.linesHeld p).all (u.inShare p) then
    if clash && decide (h.2 ≠ 0) then raiseDev noUnit (ev 0x13 2 noFault p 0 0 0) u else u
  else raiseDev noUnit (ev 0x13 2 noFault p 0 0 0) s

/-- Stockpot shares, in order of partition (R269). -/
def applyPot (l : List RegWrite) (s : State) : State := if l.isEmpty then s else each (upTo 8) (applyShare l) s

/-- The link registers that take effect (R242): ENABLE always, the others only on a link disabled before and after. -/
def linkWrites (l : List RegWrite) (s : State) : List RegWrite :=
  l.flatMap (fun e =>
    let n := (e.1 - 0x400) / 0x20
    let ctrl := 0x400 + 0x20 * n
    let on := (l.find? (fun x => x.1 == ctrl)).elim (s.linkOn n) (fun x => bit x.2.2 0)
    if !s.linkOn n && !on then [e]
    else if e.1 = ctrl then
      let old := s.reg ctrl
      [(ctrl, e.2.1, w32 (old.toNat - old.toNat % 2 + b2n on))]
    else [])

/-- Link and memory registers with the layout they would give; where the layout may not be, the changes that make it are not
applied and MEM_CONFIG is raised (R349, log 21). -/
def applyMem (l : List RegWrite) (s : State) : State :=
  let t := putRegs l s
  match memBad s t with
  | none => t
  | some p =>
    let keep := l.filter (fun e => !isMemReg e.1 && e.1 % 0x20 ≠ 0x14)
    let keep2 := keep.map (fun e => if isLinkReg e.1 && e.1 % 0x20 = 0 then
        (e.1, e.2.1, w32 (e.2.2.toNat - e.2.2.toNat % 2 + b2n (s.linkOn ((e.1 - 0x400) / 0x20) && bit e.2.2 0))) else e)
    raiseDev noUnit (ev 0x15 2 noFault p 0 0 0) (putRegs keep2 s)

/-- Links whose ENABLE changed between two states come up or go down (R216, R231). -/
def switchLinks (before : State) (s : State) : State :=
  each (upTo 4) (fun n t =>
    if before.linkOn n == t.linkOn n then t else if t.linkOn n then enableLink n t else disableLink n t) s

/-- Whether an offset of a partition page is a Funnel ring field (Table 11.8). -/
def isRingField (o : Nat) : Bool := [0x404, 0x408, 0x40C, 0x410, 0x414].contains o

/-- A partition page's registers (R330, R354): ring fields only with DEST_HOST 0 before and after; PT_CHECK_CTRL by the
epoch rule. -/
def applyPage (tick p : Nat) (l : List RegWrite) (s : State) : State :=
  let ctrl := partOff p 0x400
  let after := (l.find? (fun e => e.1 == ctrl)).elim (s.reg ctrl) (fun e => e.2.2)
  let free := !bit (s.reg ctrl) 0 && !bit after 0
  each l (fun e t =>
    let o := e.1 % 0x10000
    if isRingField o then
      if free then (t.setReg e.1 e.2.2).modFunnel p (fun f => { f with writeOff := 0 }) else t
    else if o = 0x500 then
      (t.setReg e.1 e.2.2).modPre (fun x => { x with
        checks := tset x.checks p (tget x.checks p [] ++ [{ since := tick, value := e.2.2 }]) })
    else t.setReg e.1 e.2.2) s

/-- TRIG_OUT configuration: a commit tick that disables a pin discards its pending assertions (R239). -/
def applyPins (l : List RegWrite) (s : State) : State :=
  each l (fun e t =>
    let k := (e.1 - 0x360) / 4
    let was := t.trigOutf k 0 1
    let u := if was = 1 && !bit e.2.2 0 then suppressPin k t else t
    u.setReg e.1 e.2.2) s

/-- Every register write of a closed set takes effect at its commit tick. -/
def applyRegs (tick : Nat) (l : List RegWrite) (s : State) : State :=
  let glob := l.filter (fun e => decide (e.1 < 0x10000))
  let rest := glob.filter (fun e => !(isPartReg e.1 || isPotReg e.1 || isMemReg e.1 || isLinkReg e.1 ||
    (decide (0x360 ≤ e.1) && decide (e.1 < 0x380))))
  let parts := glob.filter (fun e => isPartReg e.1)
  let s1 := if parts.isEmpty then s else applyParts parts s
  let s2 := applyPot (glob.filter (fun e => isPotReg e.1)) s1
  let links := linkWrites (glob.filter (fun e => isLinkReg e.1)) s2
  let mem := glob.filter (fun e => isMemReg e.1)
  let s3 := if links.isEmpty && mem.isEmpty then s2 else applyMem (links ++ mem) s2
  let s4 := applyPins (glob.filter (fun e => decide (0x360 ≤ e.1) && decide (e.1 < 0x380))) (putRegs rest s3)
  let s5 := each (upTo 8) (fun p t => applyPage tick p (l.filter (fun e => e.1 / 0x10000 == p + 1)) t) s4
  switchLinks s2 s5

end Sys2Proof.Machine
end

