-- ==== Sys2Proof/Machine/Commit.lean ====
section
/-! DEFINITION. Staged commands: their checks when they are staged and again at the commit tick (R294, R300, R301), what each
changes (Table 10.6a), COMMIT and its tick (R293 to R296), the slicer cycle (R261) and the end of a closing (R253). -/

namespace Sys2Proof.Machine

/-! ## Checks -/

/-- The records of a model that a tile holds: the model's own held tiles, or tiles of the same digest (R128). -/
def State.recordHeld (s : State) (p id : Nat) (r : TileRecord) : Bool :=
  let v := s.tile r.core r.tile
  (v.state == .held && v.owner == some (p, id)) ||
  ((v.state == .ready || v.state == .suspect || v.state == .held) && (s.calRec r.core r.tile).digest == r.digest)

/-- MODEL_COMMIT: every tile kept or verified and held (R300). -/
def checkModelCommit (s : State) (p id : Nat) : Option Nat :=
  match s.model? p id with
  | some m => need stNoResource (m.loading.isNone && m.records.all (s.recordHeld p id))
  | none => some stNoResource

/-- MODEL_RETIRE of a model that is committed (R300). -/
def checkModelRetire (s : State) (p id : Nat) : Option Nat :=
  match s.model? p id with
  | some m => need stNoResource (m.loading.isNone && m.state == 2)
  | none => some stNoResource

/-- The window block of a binding (Table 8.4, R228): ranges, the link's owner, and a stream that is written. -/
def windowOk (s : State) (p : Nat) (w : List Word) : Bool :=
  let n := pf w 0 0 2
  let kind := pf w 0 2 2
  let idx := pf w 0 4 12
  let lead := pf w 2 0 16
  let padTo := pf w 2 16 16
  kind ≠ 3 && decide (1 ≤ winLen w) && decide (winLen w ≤ 16384) && decide (1 ≤ winHop w) && decide (lead ≤ 4095) &&
  (padTo == 0 || (decide (lead + winLen w ≤ padTo) && decide (padTo ≤ 16384))) &&
  decide (idx < if kind = 0 then 32 else if kind = 1 then 8 else 4096) &&
  s.linkPart n == p && (s.written n).contains (winStream w)

/-- The scheduling block of a binding (Table 9.2). -/
def schedOk (w : List Word) : Bool :=
  decide (1 ≤ (pw w 0).toNat) && decide (1 ≤ pf w 1 0 4) && decide (pf w 3 0 6 ≤ 60) && pf w 3 6 17 % 64 == 0

/-- Whether a partition's Funnel has a destination in force or staged (R330). -/
def State.hasDest (s : State) (p : Nat) : Bool :=
  let off := partOff p 0x400
  let any := fun (w : Word) => bit w 0 || bit w 2
  any (s.reg off) || any (s.regStaged p off)

/-- What must hold to bind or submit a kernel beside its model checks: its lid lines and work counters (R165, R199). -/
def useCheck (s : State) (k : Kernel) : Option Nat :=
  gravest [lidCheck s k, need stNoResource (k.parts.all (fun p => p.works.all (s.workOwned k.part)))]

/-- A flow of a partition's range in one of the states given. -/
def flowIn (s : State) (p n : Nat) (states : List Nat) : Bool :=
  s.inShare p n && (s.ctx? n).elim false (fun c => !c.isCmd && states.contains c.state)

/-- Bytes of the cold part a binding needs (R248). -/
def State.coldNeed (s : State) (k : Kernel) (sched : List Word) : Nat :=
  1024 * pf sched 3 0 6 + s.carriedBytes k + (saveBytes k - 928)

/-- Bytes of a kernel's inboxes. -/
def inboxBytes (k : Kernel) : Nat := k.parts.foldl (fun a x => a + x.inboxBytes) 0

/-- FLOW_BIND when staged (R228, R245, R248, R252, R292, R305, R307, R330). -/
def checkBind (s : State) (p : Nat) (w : List Word) : Option Nat :=
  let n := pf w 0 0 14
  let win := (w.drop 2).take 6
  let sched := (w.drop 8).take 4
  match s.kernel? p (pw w 1).toNat with
  | some k =>
    gravest [need stBadParam (windowOk s p win && schedOk sched && persistOk k sched),
      need stNoResource (flowIn s p n [1, 2]),
      need stNoResource (!s.stagedAny p (fun x => x.op == 0x202 && pf x.w 0 0 14 == n)),
      modelCheck s true true k, useCheck s k,
      need stNoResource ((s.ctx? n).elim false (fun c => decide ((s.stagedView p).coldNeed k sched ≤ c.coldBytes))),
      need stNoResource (s.contextFits p (inboxBytes k)), need stNoResource (!k.toFunnel || s.hasDest p)]
  | none => firstBad [need stBadParam (windowOk s p win && schedOk sched), some stNoResource]

/-- KRN_RELEASE (R300): no binding in force and no staged one names the kernel. -/
def kernelFree (s : State) (p id : Nat) : Bool :=
  !s.flows.ctxs.any (fun e => !e.2.isCmd && e.2.part == p && (e.2.bindings.getLast?).elim false (fun b => b.kernel.id == id))

/-- A channeliser block within its ranges (Table 8.2), its map within the channels of its input stream (R222). -/
def chanParamsOk (s : State) (w : List Word) : Bool :=
  let b := pw w 1
  let k := chanK b
  decide (3 ≤ bits b 1 4) && decide (bits b 1 4 ≤ 12) && decide (3 ≤ bits b 11 5) &&
  (mapBits (w.drop 5) (32 * (w.drop 5).length)).all (fun c =>
    if s.linkIq (pf w 0 0 2) then decide (c < k) else decide (c ≤ k / 2))

/-- A link takes a channeliser block. -/
def putChan (w : List Word) (s : State) : State :=
  s.modLink (pf w 0 0 2) (fun l => { l with chan := (w.drop 1).take 4, chanMap := w.drop 5 })

/-- A decimator takes its block. -/
def putDec (w : List Word) (s : State) : State :=
  s.modIngest (fun i => { i with decs := tset i.decs (pf w 0 0 3) (w.drop 1) })

/-- Coefficients of the enabled channelisers lie in the memory and apart, and no more than 4,096 channels are selected
(R222). -/
def State.chansFit (s : State) : Bool :=
  let on := (upTo 4).filter s.chanOn
  let base := fun (n : Nat) => bits (s.chanWord n 1) 0 17
  let len := fun (n : Nat) => chanP (s.chanWord n 0)
  on.all (fun n => decide (base n + len n ≤ 131072) &&
    on.all (fun m => m == n || !overlapR (base n) (len n) (base m) (len m))) &&
  decide (on.foldl (fun a n => a + (mapBits (s.link n).chanMap (chanK (s.chanWord n 0))).length) 0 ≤ 4096)

/-- The ingest blocks with every staged one in place (R225, R301). -/
def State.ingestStaged (s : State) : State :=
  let cmds := (s.pre.pending.filterMap (·.globalSet)).flatMap (·.cmds) ++ (s.openSet 8).cmds
  each cmds (fun x t => if x.op = 0x600 then putChan x.w t else if x.op = 0x601 then putDec x.w t else t) s

/-- A port record within its ranges (Table 11.10). -/
def portOk (w : List Word) : Bool :=
  decide (1500 ≤ pf w 9 16 14) && decide (pf w 9 16 14 ≤ 9216) && pf w 10 1 2 ≠ 3

/-- A peer record within its ranges (Table 11.11). -/
def peerOk (w : List Word) : Bool :=
  decide (pf w 0 0 8 ≤ 63) && pf w 1 0 2 ≠ 3 &&
  (pf w 1 0 2 ≠ 2 || (decide (12 ≤ pf w 13 0 5) && decide (pf w 13 0 5 ≤ 30)))

/-- A peer in use by a committed PT_FN_CTRL keeps its KIND (R335). -/
def kindKept (s : State) (p : Nat) (w : List Word) : Bool :=
  !(s.fnCtrl p 2 1 == 1 && s.fnCtrl p 3 6 == pf w 0 0 8) || (s.peer p (pf w 0 0 8)).kind == pf w 1 0 2

/-- The check of a staged command when it is taken (R291). -/
def stageCheck (s : State) (p op : Nat) (w : List Word) : Option Nat :=
  match op with
  | 0x103 => checkModelCommit s p (pq w 0)
  | 0x104 => checkModelRetire s p (pq w 0)
  | 0x105 => firstBad [need stBadParam (cfgEncodingOk (w.drop 1)), need stNoResource (s.holds p (pf w 0 0 5) (pf w 0 5 6) true)]
  | 0x201 => checkBind s p w
  | 0x202 => need stNoResource (flowIn s p (pf w 0 0 14) [1, 2])
  | 0x302 => need stNoResource ((s.kernel? p (pw w 0).toNat).isSome && kernelFree s p (pw w 0).toNat &&
      !s.stagedAny p (fun x => x.op == 0x201 && pw x.w 1 == pw w 0))
  | 0x501 => need stNoResource (s.trigOutf (pf w 0 6 3) 2 3 == p && s.inShare p (pf w 1 0 14))
  | 0x600 =>
    let t := putChan w s.ingestStaged
    firstBad [need stBadParam (chanParamsOk s w), need stNoResource (t.chansFit && t.rateOk)]
  | 0x601 => firstBad [need stBadParam (decide (1 ≤ pf w 1 8 4) && decide (pf w 1 8 4 ≤ 10)),
      need stNoResource (putDec w s.ingestStaged).rateOk]
  | 0xB00 => need stBadParam (portOk w)
  | 0xB01 => firstBad [need stBadParam (peerOk w), need stNoResource (kindKept s p w)]
  | _ => none

/-- The check of a command of a closed set: s is the state before the commit tick and t the state the set would produce
(R294). -/
def commitCheck (s t : State) (p op : Nat) (w : List Word) : Option Nat :=
  match op with
  | 0x103 => checkModelCommit s p (pq w 0)
  | 0x104 => checkModelRetire s p (pq w 0)
  | 0x105 => need stNoResource (s.holds p (pf w 0 0 5) (pf w 0 5 6) true)
  | 0x201 =>
    match s.kernel? p (pw w 1).toNat with
    | some k => gravest [need stNoResource (flowIn s p (pf w 0 0 14) [1, 2]), modelCheck t false true k]
    | none => some stNoResource
  | 0x202 => need stNoResource (flowIn s p (pf w 0 0 14) [1, 2])
  | 0x302 => need stNoResource ((s.kernel? p (pw w 0).toNat).isSome && kernelFree t p (pw w 0).toNat)
  | 0x501 => need stNoResource (t.trigOutf (pf w 0 6 3) 2 3 == p)
  | 0x600 => need stNoResource (t.chansFit && t.rateOk)
  | 0x601 => need stNoResource t.rateOk
  | 0xB01 => need stNoResource (kindKept s p w)
  | _ => none

/-! ## What each staged command changes -/

/-- One tile of a model that is committed: Held tiles become Ready, and the record's CONFIG takes effect (R128). -/
def commitRecord (p id tick : Nat) (r : TileRecord) (s : State) : State :=
  let held := (s.tile r.core r.tile).state = .held
  let s1 := s.modTile r.core r.tile (fun v => { v with
    state := if held then .ready else v.state, owner := some (p, id), role := r.role, pair := r.pair,
    cfgs := v.cfgs ++ [{ since := tick, words := r.config }] })
  if held then s1.modCal r.core r.tile (fun x => { x with state := 2 }) else s1

/-- MODEL_COMMIT takes effect. -/
def commitModel (p id tick : Nat) (s : State) : State :=
  match s.model? p id with
  | some m => modModel p id (fun m => { m with state := 2 }) (each m.records (commitRecord p id tick) s)
  | none => s

/-- A tile whose last model is gone is released; Whisk erases it (R130). -/
def releaseTile (c t : Nat) (s : State) : State :=
  if s.usedByCommitted c t then s else eraseOwed c t (s.modTile c t (fun v => { v with owner := none }))

/-- MODEL_RETIRE takes effect: the model is no longer loaded, and tiles no committed model uses are erased (R130). -/
def retireModel (p id : Nat) (s : State) : State :=
  match s.model? p id with
  | some m =>
    let s1 := s.modPre (fun x => { x with models := x.models.filter (fun y => !(y.part == p && y.id == id)) })
    each (m.records.filter (fun r => (s1.tile r.core r.tile).owner == some (p, id))) (fun r u => releaseTile r.core r.tile u) s1
  | none => s

/-- TILE_CONFIG takes effect, for windows of later epochs (R56). -/
def configTile (w : List Word) (tick : Nat) (s : State) : State :=
  s.modTile (pf w 0 0 5) (pf w 0 5 6) (fun v => { v with cfgs := v.cfgs ++ [{ since := tick, words := w.drop 1 }] })

/-- The windows of a grid that begin before a tick: the least j whose first sample is at or past the first sample the tick
reaches. -/
def State.windowsBefore (s : State) (b : Binding) (tick : Nat) : Nat :=
  match b.origin with
  | some o =>
    let hop := max 1 (winHop b.window)
    (s.gridOrigin (winStream b.window) tick - o + hop - 1) / hop
  | none => b.formed

/-- The binding a FLOW_BIND puts in force: it keeps the window grid where the blocks allow, from the first window at or
after the commit tick (R229, R252). -/
def newBinding (s : State) (c : Ctx) (k : Kernel) (w : List Word) (tick : Nat) : Binding :=
  let win := (w.drop 2).take 6
  let sched := (w.drop 8).take 4
  let fresh : Binding :=
    { since := tick, kernel := k, window := win, sched := sched, gridTick := max tick (winStart win), origin := none,
      firstK := 0, formed := 0 }
  match c.bindings.getLast? with
  | some b0 =>
    let b := settleOrigin s b0
    if sameGrid b.window win then
      let j := s.windowsBefore b tick
      { fresh with gridTick := b.gridTick, origin := b.origin.map (fun o => o + winHop b.window * j), firstK := b.firstK + j }
    else fresh
  | none => { fresh with firstK := c.nextWindow }

/-- FLOW_BIND takes effect: the flow is Bound (R252). -/
def bindFlow (p tick : Nat) (w : List Word) (s : State) : State :=
  match s.kernel? p (pw w 1).toNat with
  | some k => s.modCtx (pf w 0 0 14) (fun c => { c with state := 2, bindings := c.bindings ++ [newBinding s c k w tick] })
  | none => s

/-- A rule is set, or cleared with no words (R240). -/
def putRule (p tick : Nat) (w : List Word) (words : List Word) (s : State) : State :=
  let key := 64 * p + pf w 0 0 6
  s.modPre (fun x => { x with rules := tset x.rules key (tget x.rules key [] ++ [{ since := tick, words := words }]) })

/-- A port takes its record; a change of MODE takes it down to retrain (R334). -/
def putPort (w : List Word) (s : State) : State :=
  let n := pf w 0 0 1
  s.modPort n (fun v =>
    let mode := pf w 1 0 2
    let same := bits (v.w 0) 0 2 == mode
    { v with words := w.drop 1, link := if same then v.link else if mode = 0 then 0 else 1 })

/-- A peer takes its record: its protocol goes on where a node peer stays a node peer, and starts afresh otherwise, a RoCEv2
pair at START_PSN (R335, R341). -/
def putPeer (p : Nat) (w : List Word) (s : State) : State :=
  s.modPeer p (pf w 0 0 8) (fun v =>
    if v.kind = 1 && pf w 1 0 2 = 1 then { v with words := w.drop 1 }
    else { Peer.start with words := w.drop 1, psn := pf w 14 0 24 })

/-- One staged command takes effect at a tick. -/
def applyCmd (tick : Nat) (x : Staged) (s : State) : State :=
  let p := x.h.partition.toNat
  match x.op with
  | 0x103 => commitModel p (pq x.w 0) tick s
  | 0x104 => retireModel p (pq x.w 0) s
  | 0x105 => configTile x.w tick s
  | 0x201 => bindFlow p tick x.w s
  | 0x202 => closeFlow (pf x.w 0 0 14) (bit (pw x.w 0) 16) false tick x.cmd s
  | 0x302 => s.modPre (fun q => { q with kernels := q.kernels.filter (fun k => !(k.part == p && k.id == (pw x.w 0).toNat)) })
  | 0x501 => putRule p tick x.w x.w s
  | 0x502 => putRule p tick x.w [] s
  | 0x600 => putChan x.w s
  | 0x601 => putDec x.w s
  | 0xB00 => putPort x.w s
  | 0xB01 => putPeer p x.w s
  | _ => s

/-- The order in which the commands of a set take effect: models, tiles, bindings, then the rest; kernels leave last, so that
a binding of the same set is still found. -/
def applyOrder (op : Nat) : Nat :=
  match op with
  | 0x103 => 0
  | 0x104 => 1
  | 0x105 => 2
  | 0x302 => 4
  | _ => 3

/-- The state a closed set produces: registers, then commands. -/
def produce (tick : Nat) (cmds : List Staged) (regs : List RegWrite) (s : State) : State :=
  each (sortBy (fun x => (applyOrder x.op : Int)) cmds) (applyCmd tick) (applyRegs tick regs s)

/-! ## The commit tick (R294, R295) -/

/-- The tiles of every committed W8 pair of a partition agree in GROUP_SIZE and DRIVE_MODE (R70): the records that do not. -/
def pairsBad (s : State) (p : Nat) : List TileRecord :=
  ((s.pre.models.filter (fun m => m.part == p && m.state == 2)).flatMap (·.records)).filter (fun r =>
    r.role == 1 &&
    (let a := (s.tile r.core r.tile).newestCfg
     let b := (s.tile r.core r.pair).newestCfg
     cfgG a != cfgG b || cfgSigned a != cfgSigned b))

/-- The bindings of a partition in force, with their flows. -/
def State.bound (s : State) (p : Nat) : List (Nat × Binding) :=
  s.flows.ctxs.filterMap (fun e => if !e.2.isCmd && e.2.part == p && e.2.state == 2 then
    (e.2.bindings.getLast?).map (fun b => (e.1, b)) else none)

/-- Whether a command of a set bears on the tiles of a kernel. -/
def bearsOn (s : State) (k : Kernel) (x : Staged) : Bool :=
  match x.op with
  | 0x105 => s.kernelUses k (pf x.w 0 0 5) (pf x.w 0 5 6)
  | 0x103 => (s.model? x.h.partition.toNat (pq x.w 0)).elim false (fun m => m.records.any (fun r => s.kernelUses k r.core r.tile))
  | 0x104 => (s.model? x.h.partition.toNat (pq x.w 0)).elim false (fun m => m.records.any (fun r => s.kernelUses k r.core r.tile))
  | _ => false

/-- The failure of a set: status and TAG of the command at fault, 0 where only a register write is (log 21). -/
def setFails (s t : State) (p : Nat) (cmds : List Staged) : Option (Nat × Word) :=
  let own := cmds.findSome? (fun x => (commitCheck s t x.h.partition.toNat x.op x.w).map (fun st => (st, x.h.tag)))
  let pairs := (pairsBad t p).head?.map (fun r =>
    (stBadParam, ((cmds.find? (fun x => x.op == 0x105 && pf x.w 0 0 5 == r.core &&
      (pf x.w 0 5 6 == r.tile || pf x.w 0 5 6 == r.pair))).elim 0 (·.h.tag))))
  let binds := (t.bound p).findSome? (fun b => (modelCheck t false true b.2.kernel).map (fun st =>
    (st, ((cmds.find? (bearsOn s b.2.kernel)).elim 0 (·.h.tag)))))
  (own.orElse (fun _ => pairs)).orElse (fun _ => binds)

/-- Models whose staging ended without a commit are held again. -/
def unstage (cmds : List Staged) (s : State) : State :=
  each (cmds.filter (fun x => x.op == 0x103)) (fun x t =>
    modModel x.h.partition.toNat (pq x.w 0) (fun m => if m.state = 1 then { m with state := 0 } else m) t) s

/-- A discarded set: staged closings end with CANCELLED, models are held again. -/
def discardCmds (cmds : List Staged) (s : State) : State :=
  each cmds (fun x t => finishOpt x.cmd stCancelled [] t) (unstage cmds s)

/-- Advance the epochs of a partition from a tick (R295). -/
def advanceEpoch (p tick : Nat) (model config : Bool) (s : State) : State :=
  if !model && !config then s
  else
    let e := s.epochs p
    let n : Epochs := { since := tick, model := if model then e.1 + 1 else e.1, config := if config then e.2 + 1 else e.2 }
    s.modPre (fun x => { x with epochs := tset x.epochs p (tget x.epochs p [] ++ [n]) })

/-- The epochs a commit advances (R295): the partition's own, and the configuration epoch of every partition where the global
set applies. -/
def advanceAll (p tick : Nat) (own : OpenSet) (glob : Bool) (s : State) : State :=
  let model := own.cmds.any (fun x => x.op == 0x103 || x.op == 0x104)
  let config := own.cmds.any (fun x => !(x.op == 0x103 || x.op == 0x104)) || !own.regs.isEmpty
  each (upTo 8) (fun q t => advanceEpoch q tick (model && q == p) (glob || (config && q == p)) t) s

/-- The reply of a COMMIT: epochs, commands applied, FAILED and the TAG at fault. -/
def commitReply (p n : Nat) (failed : Bool) (tag : Word) (s : State) : List Word :=
  [(s.epochs p).1, (s.epochs p).2, w32 (n % 65536 + 65536 * b2n failed), tag]

/-- The flow is Closed: its line and cold part are freed and FLOW_CLOSE replies with the windows cancelled (R253). -/
def finishClosing (n : Nat) (s : State) : State :=
  match s.ctx? n with
  | some c =>
    match c.closing with
    | some z =>
      let s1 := freeSpill n (s.modFlows (fun f => { f with
        ctxs := tdel f.ctxs n, pot := f.pot.filter (fun q => q.ctx ≠ n) }))
      finishOpt z.cmd stOk [w32 z.cancelled] s1
    | none => s
  | none => s

/-- Whether a draining flow has still a window to form: one begins before the closing tick (R253). -/
def State.mayForm (s : State) (n : Nat) : Bool :=
  match nextWin n s with
  | (s1, .wait) => (s1.ctx? n).elim false (fun c =>
      (c.closing.elim false (·.drain)) && !(s1.openWindows c).isEmpty)
  | _ => true

/-- A closing whose last window has finished ends (R253). -/
def closeIfDone (n : Nat) (s : State) : State := if s.closingDone n && !s.mayForm n then finishClosing n s else s

/-- The queue of commits without one command's. -/
def dropPending (cmd : Nat) (s : State) : State :=
  s.modPre (fun x => { x with pending := x.pending.filter (fun q => q.cmd ≠ cmd) })

/-- A closed set reaches its commit tick: it is checked as a whole, then applied or discarded (R294). -/
def applyCommit (q : Pending) (s0 : State) : State :=
  let s := dropPending q.cmd s0
  let glob := q.globalSet.getD { cmds := [], regs := [] }
  let cmds := q.set.cmds ++ glob.cmds
  let t := produce q.tick cmds (q.set.regs ++ glob.regs) s
  match setFails s t q.part cmds with
  | some (st, tag) => finish q.cmd st (commitReply q.part 0 true tag s) (discardCmds cmds s)
  | none =>
    let hasGlob := !(glob.cmds.isEmpty && glob.regs.isEmpty)
    let t1 := advanceAll q.part q.tick q.set hasGlob t
    let t2 := each (upTo 4) redivide (regrid s t1)
    let flows := (t2.flows.ctxs.filter (fun e => !e.2.isCmd)).map (·.1)
    let t3 := each flows (formWindows 64) t2
    let t4 := each (cmds.filter (fun x => x.op == 0x202)) (fun x u => closeIfDone (pf x.w 0 0 14) u) t3
    let e := t4.epochs q.part
    let t5 := traceOnly 0x132 4 q.part noUnit q.part e.1.toNat e.2.toNat cmds.length t4
    finish q.cmd stOk (commitReply q.part cmds.length false 0 t5) t5

/-- The commits of a partition whose tick has been reached, first come first. fuel counts commits. -/
def applyDue (fuel p : Nat) (s : State) : State :=
  match fuel with
  | 0 => s
  | k + 1 =>
    match s.pre.pending.find? (fun q => q.part == p) with
    | some q => if s.reached q.tick then applyDue k p (applyCommit q s) else s
    | none => s

/-- COMMIT (R293): the open set, and the global set from the physical function, close; what is due takes effect at once. -/
def performCommit (c : Cmd) (s0 : State) : State :=
  let p := c.h.partition.toNat
  let s := applyDue 4 p s0
  let mine := s.pre.pending.filter (fun q => q.part == p)
  let tick := max c.h.atTick.toNat s.tick
  if 4 ≤ mine.length then finish c.id stNoResource [] s
  else if (mine.getLast?).elim false (fun q => decide (tick ≤ q.tick)) then finish c.id stBadParam [] s
  else
    let pf := c.h.fn.val == 0
    let q : Pending := { part := p, tick := tick, cmd := c.id, set := s.openSet p,
                         globalSet := if pf then some (s.openSet 8) else none }
    let s1 := s.modPre (fun x => { x with
      sets := if pf then tdel (tdel x.sets p) 8 else tdel x.sets p, pending := x.pending ++ [q] })
    applyDue 1 p (setWait c.id .atTick s1)

/-- COMMIT_TICK: the commits of a partition that are due (R293, R294). -/
def execCommitTick (part : Fin 8) (s : State) : Answer := ifDue s.served (applyDue 4 part.val) s

/-- SLICER_CYCLE: the effects of a reached commit tick, then drops, one dispatch or entry, switching and prefetch (R261). -/
def execSlicerCycle (part : Fin 8) (s : State) : Answer :=
  ifDue (s.coresRun && s.partOn part.val) (fun s => slice part.val (applyDue 4 part.val s)) s

/-- FLOW_CLOSED: the last window of a Closing flow has finished (R253). -/
def execFlowClosed (flow : Fin 16384) (s : State) : Answer := ifDue s.served (closeIfDone flow.val) s

end Sys2Proof.Machine
end

