-- ==== Sys2Proof/Machine/Models.lean ====
section
/-! DEFINITION. Model images (R124 to R127, R416) and the model commands: MODEL_LOAD, TILE_PROGRAM, TILE_VERIFY, MODEL_COMMIT,
MODEL_RETIRE, TILE_CONFIG (R128 to R132, R148, R300). -/

namespace Sys2Proof.Machine

/-! ## The image (R124, R125) -/

/-- Bytes of a tile record. -/
def recordBytes : Nat := 131136

/-- A weight byte without the code 0b1000. -/
def weightByteOk (b : Byte) : Bool := b.toNat % 16 ≠ 8 && b.toNat / 16 ≠ 8

/-- The non-zero bytes of weights, by offset from k. -/
def weightCells (k : Nat) (b : Bytes) : List Host.Cell :=
  match b with
  | [] => []
  | x :: r => if x = 0 then weightCells (k + 1) r else (k, x) :: weightCells (k + 1) r

/-- The CONFIG words a record gives its tile: words 0 to 4; words 1 to 7 of a FORMAT_VERSION 0x0001 image are their defaults
(R126). -/
def recordCfg (v1 : Bool) (w : List Word) : List Word := if v1 then w.take 1 ++ cfgDefault.drop 1 else w.take 5

/-- CONFIG obeys R10: reserved bits of word 0, GROUP_SIZE, and words 6 and 7 (word 5 is ignored, R55). -/
def recordCfgOk (v1 : Bool) (w : List Word) : Bool :=
  cfgReservedOk w && cfgEncodingOk w && (v1 || (w.drop 6).all (· == 0))

/-- One tile record (Table 5.4); none where its structure is wrong (R127 item 1). -/
def parseRecord (v1 : Bool) (b : Bytes) : Option TileRecord :=
  let core := leAt b 4 1
  let tile := leAt b 5 1
  let role := leAt b 6 1
  let w := toWords 8 ((b.drop 8).take 32)
  if leAt b 0 4 = recordBytes && decide (core ≤ 31) && decide (tile ≤ 32) && decide (role ≤ 2) && (!v1 || role == 0) &&
     ((b.drop 0x28).take 24).all (· == 0) && recordCfgOk v1 w then
    let weights := (b.drop 64).take 131072
    some { core := core, tile := tile, role := role, pair := leAt b 7 1, config := recordCfg v1 w,
           weights := weightCells 0 weights, digest := digestOf core tile role (leAt b 7 1) weights }
  else none

/-- n tile records, one after another. -/
def parseRecords (v1 : Bool) (n : Nat) (b : Bytes) : Option (List TileRecord) :=
  match n with
  | 0 => some []
  | k + 1 =>
    match parseRecord v1 (b.take recordBytes), parseRecords v1 k (b.drop recordBytes) with
    | some r, some l => some (r :: l)
    | _, _ => none

/-- Numbers that rise strictly. -/
def rising (l : List Nat) : Bool :=
  match l with
  | [] => true
  | [_] => true
  | a :: b :: r => decide (a < b) && rising (b :: r)

/-- A model image read from its bytes. -/
structure Image where
  version : Nat
  id : Nat
  signed : Bool
  strict : Bool
  serial : Nat
  keySlot : Nat
  digest : Bytes
  sigOff : Nat
  records : List TileRecord

/-- The header and layout of an image of n bytes (Table 5.3, R124). -/
def headerOk (b : Bytes) : Bool :=
  let n := b.length
  let cnt := leAt b 0x18 4
  let flags := leAt b 0x1C 4
  let tto := leAt b 0x28 8
  let sig := leAt b 0x30 8
  let last := tto + recordBytes * cnt
  decide (128 ≤ n) && leAt b 0 4 == 0x4D4B5654 && leAt b 6 2 == 0x80 && leAt b 8 8 == n && decide (1 ≤ cnt) &&
  decide (cnt ≤ 1024) && decide (flags ≤ 3) && ((b.drop 0x39).take 7).all (· == 0) && decide (128 ≤ tto) && tto % 64 == 0 &&
  (if flags % 2 = 1 then sig == last && n == last + 512 else sig == 0 && n == last)

/-- An image whose structure is right (R127 item 1). -/
def parseImage (b : Bytes) : Option Image :=
  let ver := leAt b 4 2
  if headerOk b then
    match parseRecords (ver == 1) (leAt b 0x18 4) (b.drop (leAt b 0x28 8)) with
    | some rs =>
      if rising (rs.map (fun r => 33 * r.core + r.tile)) then
        some { version := ver, id := leAt b 0x10 8, signed := bitN (leAt b 0x1C 4) 0, strict := bitN (leAt b 0x1C 4) 1,
               serial := leAt b 0x20 8, keySlot := leAt b 0x38 1, digest := sliceB b 0x40 64,
               sigOff := leAt b 0x30 8, records := rs }
      else none
    | none => none
  else none

/-- IMAGE_DIGEST over everything but itself and the signature block (Table 5.3). -/
def imageDigest (b : Bytes) (im : Image) : Bytes :=
  sha512 (b.take 0x40 ++ (if im.signed then (b.take im.sigOff).drop 0x80 else b.drop 0x80))

/-- Every W8 pair obeys R70 and Table 5.4; a W4 record names no other tile. -/
def pairsOk (rs : List TileRecord) : Bool :=
  rs.all (fun r =>
    if r.role = 0 then r.pair == 0xFF
    else r.tile ≠ 32 && rs.any (fun x => x.core == r.core && x.tile == r.pair && x.pair == r.tile && x.tile ≠ 32 &&
      x.role == 3 - r.role && cfgG x.config == cfgG r.config && cfgSigned x.config == cfgSigned r.config))

/-- The checks of items 2, 3, 5, 6 and 8 of R127. -/
def imageSound (b : Bytes) (im : Image) (serial : Nat) : Bool :=
  (im.version == 1 || im.version == 2) && im.digest == imageDigest b im && (!im.strict || im.serial == serial) &&
  im.records.all (fun r => r.weights.all (fun c => weightByteOk c.2)) && pairsOk im.records

/-- Whether an image's signature verifies with the running firmware's key table (R412, R416). -/
def State.imageSigned (s : State) (b : Bytes) (im : Image) : Bool :=
  let key := ((s.sec.slot s.sec.active).keys).getD im.keySlot []
  s.sec.keyValid im.keySlot && (s.sec.keySlots[im.keySlot]?).elim false (fun k => k.hash == sha512 key) &&
  Config.sigVerifies key (b.take 0x80) ((b.drop im.sigOff).take 512)

/-- Whether a partition requires signatures (R416). -/
def State.sigRequired (s : State) (p : Nat) : Bool := s.sec.sigForce || s.regf 0xF04 p 1 == 1

/-- Item 7 of R127: TX, a retired tile, a retired data column that carries weight, a core outside the partition. -/
def State.placeable (s : State) (p : Nat) (r : TileRecord) : Bool :=
  r.tile ≠ 32 && bitN (s.partCores p) r.core && !s.tileOut r.core r.tile &&
  r.weights.all (fun c =>
    (c.2.toNat % 16 == 0 || !s.colRetired r.core r.tile (2 * (c.1 % 256))) &&
    (c.2.toNat / 16 == 0 || !s.colRetired r.core r.tile (2 * (c.1 % 256) + 1)))

/-- Item 9 of R127: another model in use holds other weights on the tile. -/
def State.claimed (s : State) (p id : Nat) (r : TileRecord) : Bool :=
  s.pre.models.any (fun m => !(m.part == p && m.id == id) &&
    (decide (1 ≤ m.state) || ((s.tile r.core r.tile).state == .held && (s.tile r.core r.tile).owner == some (m.part, m.id))) &&
    m.records.any (fun x => x.core == r.core && x.tile == r.tile && x.digest != r.digest))

/-! ## Tiles in Whisk's hands -/

/-- A job that a programming takes the place of: an erase or scan not under way, or a refresh nobody asked for. -/
def superseded (job : WhiskJob) : Bool :=
  match job with
  | .erase => true
  | .scan _ _ => true
  | .refresh _ none => true
  | _ => false

/-- Whether a tile is free for a programming: not Programming, and no other's job (R131). -/
def State.tileFree (s : State) (c t : Nat) : Bool :=
  (s.tile c t).state ≠ .programming && (s.tile c t).job.elim true superseded

/-- Drop the job of a tile with its activity. -/
def dropJob (c t : Nat) (s : State) : State :=
  if (s.tile c t).job.isNone then s
  else
    let mine := fun (a : Activity) => a.code == 3 && a.core == c && a.tile == t
    let s1 := each (s.running.filter mine) endAct { s with waiting := s.waiting.filter (fun a => !mine a) }
    s1.modTile c t (fun v => { v with job := none })

/-- Whether the tile holds a record's weights (R128). -/
def State.holdsDigest (s : State) (r : TileRecord) : Bool :=
  let v := s.tile r.core r.tile
  (v.state == .ready || v.state == .suspect || v.state == .held) && (s.calRec r.core r.tile).digest == r.digest

/-- A record whose tile is kept (R128). -/
def keepTile (p id : Nat) (r : TileRecord) (s : State) : State :=
  let v := s.tile r.core r.tile
  let s1 := if v.job == some .erase then dropJob r.core r.tile s else s
  modModel p id (fun m => { m with kept := m.kept + 1 })
    (s1.modTile r.core r.tile (fun v => { v with owner := if v.state == .held || v.owner.isNone then some (p, id) else v.owner }))

/-- What a record asks of its tile: its activity, where it is not kept (R128, R148). -/
def placeRecord (p id cmd : Nat) (r : TileRecord) (s : State) : List Activity × State :=
  let v := s.tile r.core r.tile
  let cal := s.calRec r.core r.tile
  if s.holdsDigest r then ([], keepTile p id r s)
  else if v.state == .awaiting && cal.digest == r.digest then
    ([actTile 3 3 r.core r.tile p (some cmd)],
      s.modTile r.core r.tile (fun v => { v with job := some (.attach r (bootState r.tile true cal.state) id p (some cmd)) }))
  else
    ([actTile 3 0 r.core r.tile p (some cmd)],
      (dropJob r.core r.tile s).modTile r.core r.tile (fun v => { v with job := some (.program r id p (some cmd)) }))

/-- Every record of an image, in order. -/
def placeAll (p id cmd : Nat) (rs : List TileRecord) (s : State) : List Activity × State :=
  match rs with
  | [] => ([], s)
  | r :: l =>
    let x := placeRecord p id cmd r s
    let y := placeAll p id cmd l x.2
    (x.1 ++ y.1, y.2)

/-- A command's activities on tiles: DEFERRED where one conflicts with an activity running before; those that can begin
(R131, R385). -/
def askTiles (cmd : Nat) (as : List Activity) (s : State) : State :=
  let s1 := if as.any s.blocked then
      match s.cmd? cmd with
      | some c => setWait cmd .deferred (reply c.h c.op stDeferred false [] s)
      | none => s
    else s
  each as (fun a t => if t.blocked a then t else startAct a t) { s1 with waiting := s1.waiting ++ as }

/-- Held tiles of a model that other records do not name are released and erased (R130, R300). Answers how many. -/
def releaseHeld (m : Model) (named : List TileRecord) (s : State) : Nat × State :=
  let rs := m.records.filter (fun r =>
    (s.tile r.core r.tile).state == .held && (s.tile r.core r.tile).owner == some (m.part, m.id) &&
    !named.any (fun x => x.core == r.core && x.tile == r.tile))
  (rs.length, each rs (fun r t => eraseOwed r.core r.tile (t.modTile r.core r.tile (fun v => { v with owner := none }))) s)

/-! ## The commands -/

/-- The record of a model being loaded. -/
def newModel (p cmd bytes : Nat) (im : Image) : Model :=
  { part := p, id := im.id, digest := im.digest, bytes := bytes, state := 0, records := im.records, kept := 0, fresh := [],
    programmed := 0, latched := 0, status := stOk, loading := some cmd }

/-- An accepted image: the model is loaded, the weight-image region written afresh, and the model's tiles are kept, attached or
programmed (R128, R148, R300, R379). -/
def startLoad (p cmd bytes : Nat) (im : Image) (s : State) : State :=
  let old := s.model? p im.id
  let s1 := s.modPre (fun x => { x with
    models := x.models.filter (fun m => !(m.part == p && m.id == im.id)) ++ [newModel p cmd bytes im] })
  let s2 := match old with
    | some m => (releaseHeld m im.records s1).2
    | none => s1
  let x := placeAll p im.id cmd im.records (s2.modPkg (fun q => { q with
    poison := q.poison.filter (fun l => s2.regionOf? (l / 1048576) ≠ some (p, 6)) }))
  modelDone p im.id (askTiles cmd x.1 x.2)

/-- What refuses an image (R126, R127, R131, R286, R300): the image's own faults first, then what the part's state does not
allow. -/
def imageCheck (s : State) (p : Nat) (b : Bytes) : Option Nat :=
  match parseImage b with
  | none => some stBadImage
  | some im =>
    firstBad [need stBadImage (imageSound b im s.sec.card.serial),
      need stSecurity (if im.signed then s.imageSigned b im else !s.sigRequired p),
      need stNoResource (im.records.all (s.placeable p)),
      need stNoResource (im.records.all (fun r => !s.claimed p im.id r)),
      need stNoResource ((s.model? p im.id).elim true (fun m => m.state == 0 && m.loading.isNone &&
        !s.stagedAny p (fun x => x.op == 0x103 && pq x.w 0 == im.id))),
      need stNoResource (im.records.all (fun r => s.tileFree r.core r.tile))]

/-- MODEL_LOAD (R127 to R129, R300): the image is copied where the region has room, checked, and its tiles kept or
programmed. -/
def performModelLoad (c : Cmd) (s : State) : State :=
  let p := c.h.partition.toNat
  let n := pq c.w 2
  if s.imageLeft p < n then finish c.id stNoResource [] s
  else
    let b := s.hostRead (pq c.w 0) n
    match imageCheck s p b with
    | some st => finish c.id st [] s
    | none =>
      match parseImage b with
      | some im => startLoad p c.id n im s
      | none => s

/-- What refuses a TILE_PROGRAM (R54, R127 item 9, R131, R300). -/
def tileProgramCheck (s : State) (p id core tile : Nat) : Option Nat :=
  match s.model? p id with
  | none => some stNoResource
  | some m =>
    if m.loading.isSome || tile = 32 then some stNoResource
    else
      match m.records.find? (fun r => r.core == core && r.tile == tile) with
      | none => some stBadParam
      | some r => need stNoResource (s.placeable p r && !s.claimed p id r && s.tileFree core tile)

/-- TILE_PROGRAM (R131, R132): a refresh where the tile holds the record, else a programming in full. -/
def performTileProgram (c : Cmd) (s : State) : State :=
  let p := c.h.partition.toNat
  let id := pq c.w 0
  let core := pf c.w 2 0 5
  let tile := pf c.w 2 5 6
  match tileProgramCheck s p id core tile with
  | some st => finish c.id st [] s
  | none =>
    match (s.model? p id).bind (fun m => m.records.find? (fun r => r.core == core && r.tile == tile)) with
    | some r =>
      let v := s.tile core tile
      let job := if s.holdsDigest r then WhiskJob.refresh v.state (some c.id) else .program r id p (some c.id)
      askTiles c.id [actTile 3 0 core tile p (some c.id)]
        ((dropJob core tile s).modTile core tile (fun v => { v with job := some job }))
    | none => s

/-- TILE_VERIFY (R131): the known-sum check of a Ready or Suspect tile of the partition, under the arbiter. -/
def performTileVerify (c : Cmd) (s : State) : State :=
  let p := c.h.partition.toNat
  let core := pf c.w 0 0 5
  let tile := pf c.w 0 5 6
  let st := (s.tile core tile).state
  if bitN (s.partCores p) core && (st == .ready || st == .suspect) && !s.tileOut core tile then
    askCmd c.id [actTile 1 0 core tile p (some c.id)] s
  else finish c.id stNoResource [] s

/-- A staged command: its check when it is taken, then its place in the open set (R286, R291). -/
def performStaged (c : Cmd) (payload : List Word) (s : State) : State :=
  match stageCheck s c.h.partition.toNat c.op c.w with
  | some st => finish c.id st [] s
  | none => stage c payload s

/-- MODEL_COMMIT (R300): a model all of whose tiles are held is staged. -/
def performModelCommit (c : Cmd) (s : State) : State :=
  let p := c.h.partition.toNat
  match stageCheck s p c.op c.w with
  | some st => finish c.id st [] s
  | none =>
    let s1 := stage c [] s
    if s1.stagedAny p (fun x => x.op == 0x103 && pq x.w 0 == pq c.w 0) then
      modModel p (pq c.w 0) (fun m => if m.state = 0 then { m with state := 1 } else m) s1
    else s1

/-- MODEL_RETIRE (R130, R300): staged for a committed model; at once for one that is held and not staged. -/
def performModelRetire (c : Cmd) (s : State) : State :=
  let p := c.h.partition.toNat
  let id := pq c.w 0
  match s.model? p id with
  | none => finish c.id stNoResource [] s
  | some m =>
    if m.loading.isSome || s.stagedAny p (fun x => x.op == 0x103 && pq x.w 0 == id) then finish c.id stNoResource [] s
    else if m.state = 2 then stage c [0] s
    else
      let x := releaseHeld m [] (s.modPre (fun y => { y with models := y.models.filter (fun k => !(k.part == p && k.id == id)) }))
      finish c.id stOk [w32 x.1] x.2

/-- TILE_CONFIG (R56, R300): staged for a tile of a committed or staged model. -/
def performTileConfig (c : Cmd) (s : State) : State := performStaged c [] s

end Sys2Proof.Machine
end

