-- ==== Sys2Proof/Machine/FlowCmds.lean ====
section
/-! DEFINITION. The flow, kernel and synchronisation commands: FLOW_OPEN, FLOW_SNAPSHOT (R251, R254), KRN_DEFINE and KRN_SUBMIT
(R187, R300, R302, R307), SYNC_READ and SYNC_SET (R211, R212, R301). -/

namespace Sys2Proof.Machine

/-! ## Flows -/

/-- A line that may be given out: no context and no spilled sum lies on it (R244, R249). -/
def State.lineFree (s : State) (n : Nat) : Bool := (s.ctx? n).isNone && !s.flows.spillLines.any (fun e => e.2 == n)

/-- A context with nothing in it. -/
def Ctx.blank (part state : Nat) : Ctx :=
  { isCmd := false, part := part, state := state, carryValid := false, missLast := false, nextWindow := 0, resultSeq := 0,
    modelEpoch := 0, configEpoch := 0, coldBytes := 0, coldBase := 0, bindings := [], ready := [], run := none, saves := [],
    sync := [], persist := [], carried := [], carryEpochs := (0, 0), satArmed := true, inbox := [], closing := none,
    cmd := none, tag := 0, deadline := 0, kernel := none, order := 0 }

/-- FLOW_OPEN (R245, R248, R249, R251): the line and the cold part are allocated and zeroed. -/
def performFlowOpen (c : Cmd) (s : State) : State :=
  let p := c.h.partition.toNat
  let n := pf c.w 0 0 14
  let bytes := (pw c.w 1).toNat
  if s.inShare p n && s.lineFree n && s.contextFits p bytes then
    finish c.id stOk [] (s.nextDraw.setCtx n { Ctx.blank p 1 with
      coldBytes := bytes, coldBase := if bytes = 0 then 0 else Config.coldAddress s.draw n })
  else finish c.id stNoResource [] s

/-- FLOW_BIND (R252): staged. -/
def performFlowBind (c : Cmd) (s : State) : State := performStaged c [] s

/-- FLOW_CLOSE (R253): staged; it replies when the flow is Closed. -/
def performFlowClose (c : Cmd) (s : State) : State := performStaged c [] s

/-- The kernel whose save records a context holds: that of the window in progress, else the one in force. -/
def State.kernelOf (s : State) (c : Ctx) : Option Kernel :=
  match c.run.bind s.run? with
  | some r => some r.kernel
  | none => (c.bindings.getLast?).map (·.kernel)

/-- The save record of a part as it stands (R247, R254): live where the part is resident. -/
def State.saveBytesOf (s : State) (n : Nat) (c : Ctx) (k : Kernel) (i : Nat) (p : Part) : Bytes :=
  let v := c.save k i
  let live := (s.core p.core).queues.find? (fun e => e.2.ctx == n && e.2.part == i)
  let q := live.elim 255 (·.1)
  let step := live.elim v.step (·.2.step)
  let wdog := live.elim v.wdog (fun e => s.clk - e.2.progressClk)
  let cs := bitsSet p.counters 48
  leBytes 1 p.core ++ leBytes 1 q ++ leBytes 1 cs.length ++ leBytes 1 (b2n live.isSome) ++ leBytes 4 step ++ leBytes 4 wdog ++
    leBytes 4 v.eEntry ++ cs.flatMap (fun x => wordBytes [(c.vb p.core x).1, (c.vb p.core x).2])

/-- Every save record of a context, in part order. -/
def State.savesOf (s : State) (n : Nat) (c : Ctx) : Bytes :=
  (s.kernelOf c).elim [] (fun k => k.parts.zipIdx.flatMap (fun e => s.saveBytesOf n c k e.2 e.1))

/-- The hot part of a flow (Table 9.1). -/
def State.hotPart (s : State) (n : Nat) (c : Ctx) : Bytes :=
  let b := c.bindings.getLast?
  leBytes 2 n ++ leBytes 1 c.part ++ leBytes 1 c.state ++ leBytes 4 (b2n c.carryValid + 2 * b2n c.missLast) ++
    leBytes 8 c.nextWindow ++ leBytes 8 c.resultSeq ++ leBytes 4 c.modelEpoch.toNat ++ leBytes 4 c.configEpoch.toNat ++
    leBytes 8 c.coldBase ++ leBytes 4 c.coldBytes ++ leBytes 1 c.ready.length ++ leBytes 3 0 ++
    wordBytes ((upTo 4).map (fun i => b.elim 0 (fun x => pw x.sched i))) ++
    wordBytes ((upTo 6).map (fun i => b.elim 0 (fun x => pw x.window i))) ++
    leBytes 4 (b.elim 0 (fun x => x.kernel.id)) ++ leBytes 4 0 ++ padTo 928 (s.savesOf n c)

/-- The carried-scale table of a layer: its scale words, then its zero points under a dynamic one (R248). -/
def State.carryTable (s : State) (c : Ctx) (part step : Nat) (p : Part) (l : Layer) : Bytes :=
  if l.scaleSource ≠ 1 then []
  else
    let held := tget c.carried (carryKey part step) []
    let gs := l.templates.zipIdx.flatMap (fun t => (s.templGroups p.core t.1).map (fun g => held.getD (16 * t.2 + g) (Scale.zero, 0)))
    gs.flatMap (fun g => leBytes 2 g.1.word) ++ (if l.zpMode = 2 then gs.flatMap (fun g => leBytes 1 g.2) else [])

/-- The cold part of a flow (R248). -/
def State.coldPart (s : State) (n : Nat) (c : Ctx) : Bytes :=
  let pe := (c.bindings.getLast?).elim 0 (fun b => (persistOf b.sched).1)
  let table := (s.kernelOf c).elim [] (fun k => k.parts.zipIdx.flatMap (fun p => p.1.steps.zipIdx.flatMap (fun x =>
    match x.1 with
    | .layer l => s.carryTable c p.2 x.2 p.1 l
    | _ => [])))
  padTo c.coldBytes (padTo pe c.persist ++ table ++ (s.savesOf n c).drop 928)

/-- FLOW_SNAPSHOT (R253, R254, R300): the hot part with live save records, then the first SNAP_BYTES of the cold part. -/
def performFlowSnapshot (c : Cmd) (s : State) : State :=
  let p := c.h.partition.toNat
  let n := pf c.w 0 0 14
  if flowIn s p n [1, 2] then
    match s.ctx? n with
    | some x =>
      let b := s.hotPart n x ++ (s.coldPart n x).take (pw c.w 1).toNat
      finish c.id stOk [w32 b.length] (s.hostWrite (pq c.w 2) b)
    | none => s
  else finish c.id stNoResource [] s

/-! ## Kernels -/

/-- What refuses a definition (R300, R307). -/
def defineCheck (s : State) (p id bytes : Nat) (k : Kernel) : Option Nat :=
  let mine := s.pre.kernels.filter (fun x => x.part == p)
  gravest [kernelCheck s k, modelCheck s true false k,
    need stNoResource ((s.kernel? p id).isNone && decide (mine.length < 256) &&
      decide (mine.foldl (fun a x => a + x.bytes.length) 0 + bytes ≤ 67108864))]

/-- KRN_DEFINE (R300, R303, R307): the descriptor is read, checked and kept. -/
def performKrnDefine (c : Cmd) (s : State) : State :=
  let p := c.h.partition.toNat
  let id := (pw c.w 0).toNat
  let n := (pw c.w 3).toNat
  match parseKernel p id (s.hostRead (pq c.w 1) n) with
  | none => finish c.id stBadParam [] s
  | some k =>
    match defineCheck s p id n k with
    | some st => finish c.id st [] s
    | none =>
      finish c.id (if k.spills then stAccSpill else stOk) [w32 k.parts.length]
        (s.modPre (fun x => { x with kernels := x.kernels ++ [k] }))

/-- KRN_RELEASE (R300): staged. -/
def performKrnRelease (c : Cmd) (s : State) : State := performStaged c [] s

/-- The kernel a submission names, or what refuses its form: a defined kernel at level 2, the problems at level 1 (R187, R302,
Tables 10.10 and 10.11). -/
def submitKernel (c : Cmd) (s : State) : Option Nat × Option Kernel :=
  let p := c.h.partition.toNat
  if c.h.level.toNat = 1 then
    let n := pf c.w 0 0 12
    let ws := if pf c.w 0 12 1 = 1 then c.w.drop 7 else toWords (6 * n) (s.hostRead (pq c.w 5) (24 * n))
    match parseMany parseProblem 6 n ws with
    | some ps => level1Kernel s p ps
    | none => (some stBadParam, none)
  else
    match s.kernel? p (pw c.w 0).toNat with
    | some k => (none, some k)
    | none => (some stNoResource, none)

/-- Whether a submission's input fits the activation buffer it goes to; a banked part's lies in its 32 KiB (R302, R304). -/
def inputFits (c : Cmd) (k : Kernel) : Bool :=
  if k.level1 then decide (pf c.w 3 0 17 + pf c.w 4 0 17 ≤ 131072)
  else decide (pf c.w 4 0 17 + pf c.w 5 0 17 ≤ if (k.parts.head?).elim false (·.banked) then 32768 else 131072)

/-- IN_CORE names a core the partition has (R187). -/
def inCoreOk (c : Cmd) (s : State) (k : Kernel) : Bool :=
  !k.level1 || decide (pf c.w 4 17 3 < (bitsSet (s.partCores k.part) 32).length)

/-- A submitted kernel's command context (R249, R302). -/
def submitCtx (c : Cmd) (k : Kernel) (s : State) : Ctx :=
  let p := c.h.partition.toNat
  let dl := if k.level1 then 0 else (pw c.w 1).toNat
  { Ctx.blank p 2 with
    isCmd := true, nextWindow := s.tick, modelEpoch := (s.epochs p).1, configEpoch := (s.epochs p).2, cmd := some c.id,
    tag := c.h.tag, deadline := 256 * (s.tick + dl), kernel := some k, order := s.flows.nextOrder }

/-- No slot of a kernel is a slot of a run active on the same core (R161). -/
def State.slotsClear (s : State) (k : Kernel) : Bool :=
  k.parts.all (fun p => (s.core p.core).queues.all (fun e => (s.resident? e.2).elim true (fun o =>
    p.layers.all (fun a => o.layers.all (fun b => !overlapR a.slotBase a.slotCount b.slotBase b.slotCount)))))

/-- KRN_SUBMIT (R161, R249, R302, R305, R307): the kernel takes the lowest-numbered free line of its partition and waits for the
slicer. -/
def performKrnSubmit (c : Cmd) (s : State) : State :=
  let p := c.h.partition.toNat
  match submitKernel c s with
  | (_, some k) =>
    match gravest [need stBadParam (inputFits c k), need stNoResource (inCoreOk c s k), modelCheck s false true k, useCheck s k,
      need stNoResource (s.slotsClear k), need stNoResource (s.contextFits p (inboxBytes k))] with
    | some st => finish c.id st [] s
    | none =>
      match (s.freeLines p).head? with
      | some n => (s.setCtx n (submitCtx c k s)).modFlows (fun f => { f with nextOrder := f.nextOrder + 1 })
      | none => finish c.id stNoResource [] s
  | (st, none) => finish c.id (st.getD stBadParam) [] s

/-! ## Synchronisation -/

/-- STEP_WORDS of a step (Table 10.14). -/
def Step.words (x : Step) : Nat :=
  match x with
  | .layer l => 12 + 2 * l.chain.length + 4 * l.templates.length
  | .signal _ _ _ => 2
  | .wait _ _ _ _ => 3
  | .lid _ _ => 3
  | .fence => 1
  | .workReset _ _ => 3

/-- The 16 bytes SYNC_READ gives a queue: the head step's word 0, STEP_INDEX, the watchdog in 4 ns units, residence (R301). -/
def State.queueWords (s : State) (core n q : Nat) : List Word :=
  match s.queue? core q with
  | some v =>
    if v.ctx = n then
      [w32 ((s.head? core q).elim 0 (fun h => h.step.op + 256 * h.step.words)), w32 v.step, w32 (s.clk - v.progressClk), 1]
    else [0, 0, 0, 0]
  | none => [0, 0, 0, 0]

/-- Whether a context and a core belong to a partition. -/
def State.ctxOn (s : State) (p n core : Nat) : Bool :=
  (s.ctx? n).elim false (fun c => c.part == p) && bitN (s.partCores p) core

/-- SYNC_READ (R212, R301): V and B of every counter, then each queue. -/
def performSyncRead (c : Cmd) (s : State) : State :=
  let p := c.h.partition.toNat
  let n := pf c.w 0 0 14
  let core := pf c.w 0 16 5
  match s.ctx? n with
  | some x =>
    if s.ctxOn p n core then
      let vb := (upTo 48).flatMap (fun i => [(x.vb core i).1, (x.vb core i).2])
      let b := wordBytes (vb ++ (upTo 4).flatMap (s.queueWords core n))
      finish c.id stOk [w32 448] (s.hostWrite (pq c.w 1) b)
    else finish c.id stNoResource [] s
  | none => finish c.id stNoResource [] s

/-- SYNC_MANUAL is counted and raised (R211). -/
def syncManual (p core counter v : Nat) (s : State) : State :=
  raisePart p (unitCore core) (ev 5 0 noFault core counter v 0) (count (coreCtr core 46) 1 s)

/-- SYNC_SET (R169, R211, R301): an amount added to a sync counter like a signal, or a value set in a work counter. -/
def performSyncSet (c : Cmd) (s : State) : State :=
  let p := c.h.partition.toNat
  let n := pf c.w 0 0 14
  let core := pf c.w 0 16 5
  let k := pf c.w 0 22 6
  let v := (pw c.w 1).toNat
  if pf c.w 0 21 1 = 1 then
    if s.workOwned p k then
      finish c.id stOk [] (syncManual p core k v (s.modFlows (fun f =>
        { f with node := { f.node with counters := tset f.node.counters k v } })))
    else finish c.id stNoResource [] s
  else if s.ctxOn p n core && (s.ctx? n).elim false (fun x => x.state ≠ 3) then
    finish c.id stOk [] (syncManual p core k v (signalAt core n k v s))
  else finish c.id stNoResource [] s

end Sys2Proof.Machine
end

