-- ==== Sys2Proof/Machine/Views.lean ====
section
/-! DEFINITION. What may be read without changing the device (R21): the BAR4 layout (R429 to R433, Tables 14.4 to 14.9), the
noise card (Table 3.3), the register words in force (R418), and CBOR (Table 12.8). -/

namespace Sys2Proof.Machine

/-! ## BAR4 -/

/-- The two 64-bit words of a tile's view (Table 14.6). -/
def State.tileView (s : State) (c t i : Nat) : Nat :=
  let v := s.tile c t
  let r := s.calRec c t
  let eq := (s.ageFactor s.power.tjNow * ((s.clk - s.crock.foldClk) / secClk : Nat) / (2 ^ 48 : Nat)).toNat
  if i = 0 then
    v.gainCorr % 65536 + 2 ^ 16 * r.state + 2 ^ 24 * (b2n (!v.retractLost.isEmpty) + 2 * b2n v.refDue) + 2 ^ 32 * (v.driftRes % 65536)
  else s.tileAge c t % 2 ^ 32 + 2 ^ 32 * ((r.eqAge + eq) % 2 ^ 32)

/-- A stuck-map entry as a word (Table 5.6). -/
def StuckEntry.word (e : StuckEntry) : Nat := e.core + 32 * e.tile + 2048 * e.row + 2 ^ 20 * e.column + 2 ^ 30 * e.cause

/-- Entry i of the stuck map; 0 from the used count on (R430). -/
def State.stuckWord (s : State) (i : Nat) : Nat := (s.crock.mirror.stuck[i]?).elim 0 (·.word)

/-- Word i of a slot's metadata (Table 14.7). -/
def State.slotView (s : State) (c k i : Nat) : Nat :=
  let v := tget (s.core c).slots k Slot.free
  match i with
  | 0 => v.state + 4 * field 8 v.expMax + 2 ^ 10 * field 6 v.accShift + 2 ^ 16 * (v.partTotal % 1024) +
      2 ^ 26 * (v.ledger.length % 2048) + 2 ^ 48 * (v.item % 65536)
  | 1 => v.block % 32 + 2 ^ 8 * (v.run % 65536) + 2 ^ 24 * (v.flow % 16384)
  | _ => 0

/-- Word i of a tick-to-PTP pair, entry 0 newest (Table 14.8). -/
def State.pairView (s : State) (k i : Nat) : Nat :=
  match s.tb.pairs[k]? with
  | some p =>
    match i with
    | 0 => p.tick256 / 256
    | 1 => p.tick256 % 256 + 256 * b2n p.locked
    | 2 => p.sec % 2 ^ 48
    | _ => p.ns % 2 ^ 30
  | none => 0

/-- Word i of the trace header (Table 14.9). -/
def State.traceHeader (s : State) (i : Nat) : Nat :=
  match i with
  | 0 => s.trace.writeIndex
  | 1 => s.trace.drop
  | 2 => s.trace.pinDrop
  | 3 => b2n (s.regf 0x1100 0 1 == 1 && !s.trace.frozen) + 2 * b2n s.trace.frozen
  | _ => 0

/-- The bytes of a trace record (Table 14.10). -/
def TraceRec.bytes (r : TraceRec) : Bytes :=
  leBytes 8 r.tick ++ leBytes 2 r.type ++ [byte r.cls, byte r.part] ++ leBytes 4 r.unit ++
  leBytes 4 r.p0 ++ leBytes 4 r.p1 ++ leBytes 4 r.p2 ++ leBytes 4 r.p3

/-- Word i of the record at place k of the trace ring (R433). -/
def State.traceView (s : State) (k i : Nat) : Nat :=
  let w := s.trace.writeIndex
  let age := (w + 131072 - 1 - k) % 131072
  match s.trace.ring[age]? with
  | some r => leAt r.bytes (8 * i) 8
  | none => 0

/-- The aligned 64-bit word at a BAR4 offset; what Table 14.4 does not list reads 0. -/
def State.bar4 (s : State) (o : Nat) : Nat :=
  if o < 0x4E00 || (0x10000 ≤ o && o < 0x20800) then s.counter o
  else if 0x30000 ≤ o && o < 0x34200 then
    let r := (o - 0x30000) % 0x210
    s.tileView ((o - 0x30000) / 0x210) (r / 16) (r % 16 / 8)
  else if 0x40000 ≤ o && o < 0x48000 then
    let i := (o - 0x40000) / 4
    s.stuckWord i + 2 ^ 32 * s.stuckWord (i + 1)
  else if 0x80000 ≤ o && o < 0xE0000 then
    let r := (o - 0x80000) % 0x3000
    s.slotView ((o - 0x80000) / 0x3000) (r / 32) (r % 32 / 8)
  else if 0xE0000 ≤ o && o < 0xE0200 then s.pairView ((o - 0xE0000) / 32) (o % 32 / 8)
  else if 0xF0000 ≤ o && o < 0xF0040 then s.traceHeader ((o - 0xF0000) / 8)
  else if 0x400000 ≤ o && o < 0x800000 then s.traceView ((o - 0x400000) / 32) (o % 32 / 8)
  else 0

/-- The byte at a BAR4 offset. -/
def State.bar4Byte (s : State) (o : Nat) : Byte := byte (s.bar4 (o / 8 * 8) / 256 ^ (o % 8) % 256)

/-! ## The noise card -/

/-- Bytes 0x00 to 0x7B of the card (Table 3.3). -/
def NoiseCard.body (k : NoiseCard) : Bytes :=
  leBytes 2 k.format ++ leBytes 2 0x80 ++ leBytes 4 k.testDate ++ leBytes 8 k.serial ++ leBytes 1 k.grade ++ leBytes 1 k.stepping ++
  [k.testTemp, k.progSigma, field 16 k.progMean, k.readNoiseConv, k.readNoiseCell, k.readNoiseG128, k.offsetSigma, k.dnlMax,
   k.driftNu, k.driftNuSigma, k.driftLevelSlope, k.driftEa, k.driftT0, field 16 k.tcCell, k.tcCellSigma, field 16 k.tcRefrow,
   k.tcRefrowSigma, k.readStress, k.gainEstSigma].flatMap (leBytes 2) ++
  (k.coreNoise.map byte) ++ List.replicate 36 0

/-- The 128 bytes of the card, its check last. -/
def NoiseCard.bytes (k : NoiseCard) : Bytes := k.body ++ leBytes 4 (crc32c k.body)

/-! ## Register words in force -/

/-- The RW fields of a lane's registers, in offset order (Table 10.3). -/
def State.laneWords (s : State) (fn k : Nat) : List Nat :=
  let l := s.lane fn k
  [b2n l.enable + 2 * b2n l.mode + 4 * b2n l.replyEnable + 2 ^ 16 * l.vector + 2 ^ 24 * l.holdoff, l.periodTk,
   l.pullBase % 2 ^ 32, l.pullBase / 2 ^ 32, l.pullLog2, l.prodAddr % 2 ^ 32, l.prodAddr / 2 ^ 32, l.consAddr % 2 ^ 32,
   l.consAddr / 2 ^ 32, l.replyBase % 2 ^ 32, l.replyBase / 2 ^ 32, l.replyLog2, l.replyRead]

/-- The intake block of a function. -/
def State.intakeWords (s : State) (fn : Nat) : List Nat := (upTo 16).flatMap (s.laneWords fn)

/-- The RW word of a register; SIG_REQUIRED reads all ones where the fuse is blown (R416). -/
def State.rwWord (s : State) (off : Nat) : Nat := if off = 0xF04 && s.sec.sigForce then 0xFF else (s.reg off).toNat

/-- The RW words of a range of offsets, one for each register that has RW fields. -/
def State.rwWords (s : State) (base n : Nat) : List Nat :=
  (upTo n).filterMap (fun i => (regDesc (base + 4 * i)).map (fun _ => s.rwWord (base + 4 * i)))

/-- The global page's RW fields in offset order; its intake block lies at 0x0800. -/
def State.globalWords (s : State) : List Nat := s.rwWords 0 0x200 ++ s.intakeWords 0 ++ s.rwWords 0xC00 0x180

/-- A partition page's RW fields in offset order: a virtual function's intake block follows them (R437). -/
def State.pageWords (s : State) (p : Nat) : List Nat :=
  s.rwWords (partOff p 0) 0x200 ++ (if s.partOn p && s.partFn p ≠ 0 then s.intakeWords (s.partFn p) else [])

/-! ## CBOR (RFC 8949) -/

/-- The head of an item: major type and argument in the shortest form. -/
def cborHead (major n : Nat) : Bytes :=
  if n < 24 then [byte (32 * major + n)]
  else if n < 256 then byte (32 * major + 24) :: beBytes 1 n
  else if n < 65536 then byte (32 * major + 25) :: beBytes 2 n
  else if n < 2 ^ 32 then byte (32 * major + 26) :: beBytes 4 n
  else byte (32 * major + 27) :: beBytes 8 n

/-- An unsigned integer. -/
def cborUint (n : Nat) : Bytes := cborHead 0 n

/-- An integer. -/
def cborInt (v : Int) : Bytes := if 0 ≤ v then cborHead 0 v.toNat else cborHead 1 (-1 - v).toNat

/-- A boolean. -/
def cborBool (b : Bool) : Bytes := [byte (if b then 0xF5 else 0xF4)]

/-- A map of items by rising keys. -/
def cborMap (l : List (Nat × Bytes)) : Bytes := cborHead 5 l.length ++ l.flatMap (fun e => cborUint e.1 ++ e.2)

/-- An array of items. -/
def cborArray (l : List Bytes) : Bytes := cborHead 4 l.length ++ l.flatten

/-! ## Fault records -/

/-- A fault record's 64 bytes (Table 12.7). -/
def FaultRec.bytes (r : FaultRec) : Bytes :=
  leBytes 4 r.index ++ [byte r.kind, byte r.outcome, byte r.unitKind, byte r.partition] ++
  leBytes 4 (unitWord r.core r.tile r.column r.lane) ++ leBytes 2 r.opcode ++ leBytes 2 r.flow ++ leBytes 4 r.tag ++
  leBytes 4 r.powerS ++ leBytes 8 r.tick ++ leBytes 8 (r.ptpSec % 2 ^ 48 + 2 ^ 63 * b2n r.ptpLocked) ++ leBytes 4 r.ptpNs ++
  leBytes 2 (field 16 r.temp) ++ leBytes 2 r.vcore ++ leBytes 8 r.detail ++ leBytes 8 r.address

/-- The unit of a record as a map with the keys present. -/
def FaultRec.unitMap (r : FaultRec) : Bytes :=
  let c := (0, cborUint r.core)
  let t := (1, cborUint r.tile)
  cborMap (if r.unitKind ≤ 2 then [c, t, (2, cborUint r.column)] else if r.unitKind = 3 then [c, t]
    else if r.unitKind = 4 then [c] else if r.unitKind = 5 then [(3, cborUint r.lane)] else [])

/-- A record as a map (Table 12.8). -/
def FaultRec.cbor (r : FaultRec) : Bytes :=
  cborMap ([(0, cborUint r.index), (1, cborUint r.kind), (2, cborUint r.outcome), (3, r.unitMap)] ++
    (if r.partition = 255 then [] else [(4, cborUint r.partition)]) ++
    [(5, cborMap [(0, cborUint r.opcode), (1, cborUint r.tag), (2, cborUint r.flow)]), (6, cborUint r.tick),
     (7, cborArray [cborUint r.ptpSec, cborUint r.ptpNs, cborBool r.ptpLocked]), (8, cborInt r.temp), (9, cborUint r.vcore),
     (10, cborUint r.detail), (11, cborUint r.powerS)] ++
    (if r.kind = 0x0D then [(12, cborUint r.address)] else []))

/-- The firmware version running. -/
def State.fwVersion (s : State) : Nat := (s.sec.slot s.sec.active).version

/-- The fault signature of a selection of records (R384). -/
def State.faultCbor (s : State) (rs : List FaultRec) : Bytes :=
  cborMap [(0, cborUint 1), (1, cborUint s.sec.card.serial), (2, cborUint s.fwVersion), (3, cborUint s.tick),
           (4, cborArray (rs.map FaultRec.cbor))]

end Sys2Proof.Machine
end

