-- ==== Sys2Proof/Machine/SysCmds.lean ====
section
/-! DEFINITION. The system, timeline, ingest, maintenance, housekeeping, security, fault and network commands (R289, R290, R298,
R301, R345, R376, R378, R384, R385, R411 to R418, R424 to R427). -/

namespace Sys2Proof.Machine

/-! ## System commands -/

/-- NOP (R299). -/
def performNop (c : Cmd) (s : State) : State := finish c.id stOk [] s

/-- Cores in service: neither retired nor quiesced (R377, R404). -/
def State.inService (s : State) (n : Nat) : Bool := !s.coreRetired n && !s.quiesced n

/-- The compute tiles of a core in service. -/
def State.tilesIn (s : State) (n : Nat) : List Nat := (upTo 32).filter (fun t => !s.tileOut n t)

/-- The retired columns of a tile. -/
def State.colsOut (s : State) (n t : Nat) : List Nat := (upTo 536).filter (fun j => s.colRetired n t j)

/-- GET_CAPS record 0 (Table 10.6). -/
def capsDevice (c : Cmd) (s : State) : List Word :=
  let card := s.sec.card
  let p := s.fnPart? c.h.fn.val
  let sh := p.elim (0, 0) s.share
  let cols := (s.crock.mirror.retired.filter (fun e => e.kind == 0)).length
  [w32 (6 + 16 * s.level c.h.fn.val + 2 ^ 8 * card.stepping + 2 ^ 16 * card.grade), w32 s.fwVersion,
   w32 (2 + 2 ^ 16 * p.getD 255), w32 (maskOf ((upTo 32).filter s.inService)),
   w32 ((upTo 32).foldl (fun a n => a + (s.tilesIn n).length) 0), w32 cols, w32 sh.1, w32 sh.2, w32 (16 + 4 * 256 + 1024 * 65536)] ++
    lohi card.serial ++ lohi s.tick ++ [w32 s.tb.state]

/-- GET_CAPS record 2. -/
def capsTiles (s : State) : List Word :=
  (upTo 32).map (fun n => w32 (maskOf (s.tilesIn n))) ++ [w32 (maskOf ((upTo 32).filter (fun n => !s.tileOut n 32)))]

/-- GET_CAPS record 3. -/
def capsColumns (s : State) (n t : Nat) : List Word :=
  let out := s.colsOut n t
  (upTo 17).map (fun i => w32 (maskOf ((upTo 32).filter (fun k => out.contains (32 * i + k)))))

/-- GET_CAPS (R290). -/
def performGetCaps (c : Cmd) (s : State) : State :=
  finish c.id stOk (match pf c.w 0 0 8 with
    | 0 => capsDevice c s
    | 1 => toWords 32 s.sec.card.bytes
    | 2 => capsTiles s
    | _ => capsColumns s (pf c.w 1 0 5) (pf c.w 1 5 6)) s

/-- Whether a partition has an open flow, a defined kernel, a staged command or a pending COMMIT. -/
def State.partInUse (s : State) (p : Nat) : Bool :=
  s.flows.ctxs.any (fun e => e.2.part == p && !e.2.isCmd) || s.pre.kernels.any (fun k => k.part == p) ||
  !(s.openSet p).cmds.isEmpty || s.pre.pending.any (fun q => q.part == p)

/-- SET_LEVEL (R289). -/
def performSetLevel (c : Cmd) (s : State) : State :=
  let fn := c.h.fn.val
  let v := pf c.w 0 0 4
  if v = 3 then finish c.id stBadLevel [] s
  else if v ≠ 1 && v ≠ 2 then finish c.id stBadParam [] s
  else if s.pre.cmds.any (fun x => x.h.fn == c.h.fn && x.id ≠ c.id) || (s.fnPart? fn).elim false s.partInUse then
    finish c.id stNoResource [] s
  else finish c.id stOk [w32 v] (s.modHost (fun h => { h with level := tset h.level fn v }))

/-- The waiting commands of a function that carry a TAG, its pending commits among them. -/
def State.waitingOf (s : State) (fn : Nat) (tag : Word) (id : Nat) : List Cmd :=
  s.pre.cmds.filter (fun x => x.h.fn.val == fn && x.h.tag == tag && x.id ≠ id &&
    (s.waits x || s.pre.pending.any (fun q => q.cmd == x.id)))

/-- Withdraw a command on request: one held behind a FENCE opens its lane again (R277, R298). -/
def withdrawTag (x : Cmd) (s : State) : State :=
  let s1 := if x.wait == .fence then
      s.modLane x.h.fn.val x.h.lane.val (fun l => { l with fenceWait := if l.fenceWait = some x.id then none else l.fenceWait })
    else s
  withdraw x s1

/-- CMD_CANCEL (R298). -/
def performCmdCancel (c : Cmd) (s : State) : State :=
  let l := s.waitingOf c.h.fn.val (pw c.w 0) c.id
  finish c.id stOk [w32 l.length] (each l withdrawTag s)

/-- STAGE_DISCARD (R298): the open set empties, register values revert to those in force. -/
def performStageDiscard (c : Cmd) (s : State) : State :=
  let g := pf c.w 0 0 1 = 1
  if g && c.h.fn.val ≠ 0 then finish c.id stSecurity [] s
  else
    let n := if g then 8 else c.h.partition.toNat
    let cmds := (s.openSet n).cmds
    finish c.id stOk [w32 cmds.length] (discardCmds cmds (s.modPre (fun x => { x with sets := tdel x.sets n })))

/-! ## Timeline and ingest -/

/-- TRIG_PULSE (R239, R301). -/
def performTrigPulse (c : Cmd) (s : State) : State :=
  let p := pf c.w 0 0 3
  if !s.tbRunning then finish c.id stNoTimebase [] s
  else if s.trigOutf p 2 3 ≠ c.h.partition.toNat || s.trigOutf p 0 1 = 0 then finish c.id stNoResource [] s
  else if s.pinFull p then finish c.id stNoResource [] (count (trigOutCtr p 4) 1 s)
  else finish c.id stOk [] (schedulePin p (pq c.w 1) none s)

/-- RULE_SET (R240, R301): staged. -/
def performRuleSet (c : Cmd) (s : State) : State := performStaged c [] s

/-- RULE_CLEAR: staged. -/
def performRuleClear (c : Cmd) (s : State) : State := performStaged c [] s

/-- TICK_READ (Table 10.8): the tick and its network time, which the host reaches through the tick-to-PTP map (R18, R241). -/
def performTickRead (c : Cmd) (s : State) : State :=
  let p := s.ptpOf (256 * s.tick)
  finish c.id stOk (lohi s.tick ++ lohi p.1 ++ [w32 p.2.1, w32 (s.tb.state + 4 * b2n p.2.2)]) s

/-- IG_CHAN_SET (R222, R301): staged in the global set. -/
def performIgChanSet (c : Cmd) (s : State) : State := performStaged c [] s

/-- IG_DEC_SET (R223, R301): staged in the global set. -/
def performIgDecSet (c : Cmd) (s : State) : State := performStaged c [] s

/-- Whether coefficient entries belong to a channeliser that is enabled in a state. -/
def State.coefBusy (s : State) (first n : Nat) : Bool :=
  (upTo 4).any (fun k => s.chanOn k && overlapR first n (bits (s.chanWord k 1) 0 17) (chanP (s.chanWord k 0)))

/-- The states the staged channeliser blocks pass through, each block by itself in force. -/
def State.stagedChans (s : State) : List State :=
  let cmds := (s.pre.pending.filterMap (·.globalSet)).flatMap (·.cmds) ++ (s.openSet 8).cmds
  (cmds.filter (fun x => x.op == 0x600)).map (fun x => putChan x.w s)

/-- Put coefficients from an entry on. -/
def putCoefs (k : Nat) (b : Bytes) (n : Nat) (t : Tbl Int) : Tbl Int :=
  match n with
  | 0 => t
  | m + 1 => putCoefs (k + 1) (b.drop 2) m (tset t k (sx 16 (leAt b 0 2)))

/-- IG_COEF_LOAD (R222, R301): Q1.15 values from host memory. -/
def performIgCoefLoad (c : Cmd) (s : State) : State :=
  let first := pf c.w 0 0 17
  let n := pf c.w 1 0 18
  if (s :: s.stagedChans).any (fun t => t.coefBusy first n) then finish c.id stNoResource [] s
  else
    let b := s.hostRead (pq c.w 2) (2 * n)
    finish c.id stOk [] (s.modIngest (fun i => { i with coefs := putCoefs first b n i.coefs }))

/-! ## Maintenance -/

/-- What a unit word names, reference columns taken as columns (R378). -/
def UnitArg.unit (u : UnitArg) : Unit :=
  match u.kind with
  | 0 => uCol u.core u.tile u.column
  | 1 => uTile u.core u.tile
  | 2 => uCore u.core
  | _ => uLane u.lane

/-- A retirement that has its turn (R378): the unit goes at once, the command ends. -/
def retireNow (a : Activity) (s : State) : State :=
  match a.cmd.bind s.cmd? with
  | some c => finishIdle a.cmd stOk [] (retireUnit (unitArg (pw c.w 0)).unit 0x0F noWork 0 false (endAct a s))
  | none => endAct a s

/-- An activity begins: a Crock save starts with it (R390), a retirement ends with it. -/
def beginAny (a : Activity) (s : State) : State :=
  let s1 := startAct a s
  if a.code = 6 then beginSave 4 a.cmd s1
  else if a.code = 3 && a.sort == 4 then retireNow a s1
  else s1

/-- MAINT_ARBITER_RUN: among the waiting activities the one of lowest priority number that conflicts with
none running begins, ties in order of arrival (R385). -/
def execMaintArbiterRun (s : State) : Answer :=
  ifDue s.served (fun s =>
    match pickAct s s.waiting with
    | some a => beginAny a s
    | none => s) s

/-- One activity of a command: it begins, or the command waits after DEFERRED (R385). -/
def askAny (id : Nat) (a : Activity) (s : State) : State :=
  if s.blocked a then
    match s.cmd? id with
    | some c => setWait id .deferred (reply c.h c.op stDeferred false [] { s with waiting := s.waiting ++ [a] })
    | none => s
  else beginAny a s

/-- An activity without a unit. -/
def actPlain (code part id : Nat) : Activity := { code := code, sort := 0, core := 0, tile := 63, part := part, cmd := some id }

/-- MAINT_START (R385, R390): 5 compaction of the partition named, 6 Crock save, 7 memory scrub. -/
def performMaintStart (c : Cmd) (s : State) : State :=
  match pf c.w 0 0 4 with
  | 5 => if 7 < c.h.partition.toNat then finish c.id stBadParam [] s
         else askAny c.id (actPlain 5 c.h.partition.toNat c.id) s
  | 6 => askAny c.id (actPlain 6 255 c.id) s
  | _ => askAny c.id (actPlain 7 255 c.id) s

/-- SELFTEST (R376): a pass on the core, then its tiles. -/
def performSelftest (c : Cmd) (s : State) : State :=
  let n := pf c.w 0 0 5
  if s.coreRetired n || !bitN (s.partCores c.h.partition.toNat) n then finish c.id stNoResource [] s
  else askAny c.id { code := 1, sort := 1, core := n, tile := 63, part := s.corePartNo n, cmd := some c.id } s

/-- The tiles a RECAL reaches: one, or every tile of the core that is not retired and not waiting for its attach. -/
def recalTiles (s : State) (n t : Nat) : List Nat :=
  (if t = 63 then upTo 33 else [t]).filter (fun k => !s.tileOut n k && (s.tile n k).state ≠ .awaiting)

/-- RECAL (Table 10.9, R385): reference samples or converter calibrations. -/
def performRecal (c : Cmd) (s : State) : State :=
  let n := pf c.w 0 0 5
  let t := pf c.w 0 5 6
  let code := if pf c.w 0 11 1 = 1 then 4 else 2
  let ts := recalTiles s n t
  if s.coreRetired n || !bitN (s.partCores c.h.partition.toNat) n || ts.isEmpty then finish c.id stNoResource [] s
  else
    let due := each ts (fun k u => u.modTile n k (fun v =>
      if code = 2 then { v with refDue := true } else { v with calDue := true })) s
    askCmd c.id (ts.map (fun k => actTile code 0 n k (s.actPart n) (some c.id))) due

/-! ## Housekeeping -/

/-- One entry word is written (R424): it is in force from the next conversion, its average starts again, its result is not
valid. -/
def putEntry (e : Nat) (w : Word) (p : Probe) : Probe :=
  let again := p.current = e
  { p with
    entries := tset p.entries e w, results := tset p.results e { tget p.results e HkResult.none with valid := false },
    band := tdel p.band e, n := if again then 0 else p.n, sum := if again then 0 else p.sum,
    anyOvr := p.anyOvr && !again, anyUnder := p.anyUnder && !again }

/-- HK_SEQ (R424). -/
def performHkSeq (c : Cmd) (s : State) : State :=
  let ws := (c.w.drop 1).zipIdx
  finish c.id stOk [] (s.modProbe (fun p => each ws (fun e q => putEntry (pf c.w 0 0 4 + e.2) e.1 q) p))

/-- A capture begins (R426). -/
def beginCapture (c : Cmd) (full : Bool) (vfs : Nat) (s : State) : State :=
  s.modProbe (fun p => { p with capture := some { pin := pf c.w 0 0 3, full := full, vfs := vfs, n := 0, sum := 0,
                                                  spoiled := false, cmd := c.id } })

/-- HK_CAL_ZERO (R426). -/
def performHkCalZero (c : Cmd) (s : State) : State :=
  if s.probe.capture.isSome then finish c.id stNoResource [] s else beginCapture c false 0 s

/-- HK_CAL_FULL (R426): it needs a zero capture of the pin. -/
def performHkCalFull (c : Cmd) (s : State) : State :=
  if s.probe.capture.isSome || (tget? s.probe.zero (pf c.w 0 0 3)).isNone then finish c.id stNoResource [] s
  else beginCapture c true (pw c.w 1).toNat s

/-! ## Attestation (R418) -/

/-- The partitions a report covers. -/
def scopeParts (scope : Nat) : List Nat := if scope = 0xFF then upTo 8 else [scope]

/-- The Bound flows of a partition in flow order: number, kernel, window and scheduling blocks. -/
def State.boundBytes (s : State) (scope : Nat) : Bytes :=
  s.flows.ctxs.flatMap (fun e =>
    match e.2.bindings.getLast? with
    | some b =>
      if !e.2.isCmd && e.2.state == 2 && (scopeParts scope).contains e.2.part then
        leBytes 2 e.1 ++ leBytes 4 b.kernel.id ++ wordBytes ((upTo 6).map (pw b.window)) ++ wordBytes ((upTo 4).map (pw b.sched))
      else []
    | none => [])

/-- The defined kernels in scope, by partition and KERNEL_ID. -/
def State.kernelBytes (s : State) (scope : Nat) : Bytes :=
  (scopeParts scope).flatMap (fun p =>
    (sortBy (fun k => (k.id : Int)) (s.pre.kernels.filter (fun k => k.part == p))).flatMap (fun k => leBytes 4 k.id ++ sha512 k.bytes))

/-- The rules in force in scope, by partition and index. -/
def State.ruleBytes (s : State) (scope : Nat) : Bytes :=
  (scopeParts scope).flatMap (fun p => (upTo 64).flatMap (fun i =>
    match (tget s.pre.rules (64 * p + i) []).getLast? with
    | some r => wordBytes r.words
    | none => []))

/-- CONFIG_DIGEST. -/
def State.configDigest (s : State) (scope : Nat) : Bytes :=
  sha512 ((s.globalWords ++ (scopeParts scope).flatMap s.pageWords).flatMap (leBytes 4) ++ s.boundBytes scope ++ s.kernelBytes scope ++
    s.ruleBytes scope)

/-- One model entry of a report. -/
def Model.entry (m : Model) : Bytes :=
  leBytes 8 m.id ++ [byte m.part, byte m.state] ++ leBytes 2 m.records.length ++ leBytes 4 0 ++ padTo 64 m.digest ++ List.replicate 16 0

/-- The report without its signature (Table 13.10). -/
def State.report (s : State) (scope : Nat) (nonce : Bytes) : Bytes :=
  let ms := s.pre.models.filter (fun m => m.loading.isNone && (scopeParts scope).contains m.part)
  let chain := padTo (ceilDiv s.sec.chain.length 8 * 8) s.sec.chain
  let total := 0x180 + 96 * ms.length + chain.length + 512
  let f := s.sec.slot s.sec.active
  let ok := maskOf ((upTo 4).filter s.sec.keyValid)
  let rev := maskOf ((upTo 4).filter (fun k => (s.sec.keySlots[k]?).elim false (·.revoked)))
  let ep : Word × Word := if scope = 0xFF then (0, 0) else s.epochs scope
  leBytes 4 0x52545441 ++ leBytes 2 1 ++ leBytes 2 0x180 ++ leBytes 4 total ++ leBytes 4 scope ++ leBytes 8 s.sec.card.serial ++
  leBytes 8 (if s.tbRunning then s.tick else 0) ++ padTo 64 nonce ++ leBytes 4 f.version ++ [byte s.sec.active, byte (ok + 16 * rev)] ++
  leBytes 2 0 ++ padTo 64 f.digest ++ s.configDigest scope ++ leBytes 4 ep.1.toNat ++ leBytes 4 ep.2.toNat ++
  (upTo 64).map (fun i => byte (s.sec.svn.getD i 0)) ++ leBytes 2 ms.length ++ leBytes 2 0 ++ leBytes 4 s.sec.chain.length ++
  List.replicate 72 0 ++ ms.flatMap Model.entry ++ chain

/-- ATTEST (R284, R417, R418): the report and its signature go to HOST_ADDR, as much as the buffer takes. -/
def performAttest (c : Cmd) (s : State) : State :=
  let body := s.report (if c.h.fn.val = 0 then 0xFF else c.h.partition.toNat) (wordBytes (c.w.take 16))
  let all := body ++ padTo 512 (Config.identitySign body)
  finish c.id stOk [w32 all.length] (s.hostWrite (pq c.w 16) (all.take (pw c.w 18).toNat))

/-! ## Firmware (R411 to R414) -/

/-- A key entry of the image. -/
def fwKey (b : Bytes) (k : Nat) : Bytes := sliceB b (0x100 + 528 * k) 528

/-- The form of an image: MAGIC, FORMAT, length, its own slot not revoked, empty slots only programmed (R413). -/
def fwFormOk (x : Security) (b : Bytes) (n : Nat) : Bool :=
  decide (0xB40 ≤ n) && decide (n ≤ 8388608) && leAt b 0 4 == 0x4B465754 && leAt b 4 2 == 1 && leAt b 6 2 == 0x100 &&
  leAt b 8 4 == n && !bitN (leAt b 0x12 1) (leAt b 0x10 1) &&
  (bitsSet (leAt b 0x13 1) 4).all (fun k => (x.keySlots[k]?).elim true (fun v => !v.programmed))

/-- The reserved fields of an image are zero (R10). -/
def fwReservedOk (b : Bytes) : Bool :=
  leAt b 0x11 1 / 2 == 0 && leAt b 0x12 1 / 16 == 0 && leAt b 0x13 1 / 16 == 0 && (sliceB b 0x14 44).all (· == 0) &&
  (sliceB b 0xC0 64).all (· == 0)

/-- The rest of R412: key slot, its hash, digest of the body, signature, counters. -/
def fwSound (x : Security) (b : Bytes) (n : Nat) : Bool :=
  let k := leAt b 0x10 1
  fwReservedOk b && x.keyValid k && decide ((x.keySlots[k]?).elim [] (·.hash) = sha512 (fwKey b k)) &&
  decide (sliceB b 0x80 64 = sha512 ((b.drop 0x940).take (n - 0xB40))) &&
  Config.sigVerifies (fwKey b k) (b.take 0x940) (sliceB b (n - 512) 512) &&
  (upTo 64).all (fun j => decide (x.svn.getD j 0 ≤ leAt b (0x40 + j) 1) && decide (leAt b (0x40 + j) 1 ≤ 32))

/-- The slot an image fills. -/
def fwSlotOf (b : Bytes) : FwSlot :=
  { bootable := true, version := leAt b 0xC 4, keySlot := leAt b 0x10 1, commitSvn := bitN (leAt b 0x11 1) 0,
    revokeMask := leAt b 0x12 1, installMask := leAt b 0x13 1, svn := (upTo 64).map (fun j => leAt b (0x40 + j) 1),
    digest := sliceB b 0x80 64, keys := (upTo 4).map (fwKey b) }

/-- Put the slot that is not active. -/
def putSpare (f : FwSlot) (staged : Bool) (s : State) : State :=
  s.modSec (fun x =>
    let y := { x with staged := staged, stagedVersion := f.version, activatePending := false }
    if x.active = 0 then { y with slotB := f } else { y with slotA := f })

/-- FW_STAGE (R412, R413). -/
def performFwStage (c : Cmd) (s : State) : State :=
  let n := (pw c.w 2).toNat
  let b := if n ≤ 8388608 then s.hostRead (pq c.w 0) n else []
  if !fwFormOk s.sec b n then finish c.id stBadParam [] s
  else if fwSound s.sec b n then finish c.id stOk [] (putSpare (fwSlotOf b) true s)
  else finish c.id stSecurity [] (putSpare (FwSlot.blank false) false s)

/-- FW_ACTIVATE (R414). -/
def performFwActivate (c : Cmd) (s : State) : State :=
  if s.sec.staged then finish c.id stOk [] (s.modSec (fun x => { x with activatePending := true }))
  else finish c.id stNoResource [] s

/-! ## Faults -/

/-- The records a reader gets: from FIRST_INDEX on, its own partition's unless it is the physical function, at most COUNT
(R384). -/
def State.faultsFor (s : State) (c : Cmd) : List FaultRec :=
  (s.crock.mirror.faults.filter (fun r => decide ((pw c.w 0).toNat ≤ r.index) &&
    (c.h.fn.val == 0 || r.partition == c.h.partition.toNat))).take (pw c.w 1).toNat

/-- FAULT_READ (R284, R384): whole records, as many as the buffer takes. -/
def performFaultRead (c : Cmd) (s : State) : State :=
  let rs := (s.faultsFor c).take ((pw c.w 4).toNat / 64)
  finish c.id stOk [w32 rs.length] (s.hostWrite (pq c.w 2) (rs.flatMap FaultRec.bytes))

/-- FAULT_EXPORT (R284, R384): the same selection as CBOR; the reply gives the bytes the whole item needs. -/
def performFaultExport (c : Cmd) (s : State) : State :=
  let b := s.faultCbor (s.faultsFor c)
  finish c.id stOk [w32 b.length] (s.hostWrite (pq c.w 2) (b.take (pw c.w 4).toNat))

/-- Whether a unit word names a unit that exists. -/
def UnitArg.exists_ (u : UnitArg) : Bool :=
  match u.kind with
  | 0 => decide (u.tile ≤ 32) && decide (u.column < 536)
  | 1 => decide (u.tile ≤ 32)
  | _ => true

/-- UNIT_RETIRE (R377, R378): a core or lane at once; a column or tile in its turn as reprogramming. -/
def performUnitRetire (c : Cmd) (s : State) : State :=
  let u := unitArg (pw c.w 0)
  if !u.exists_ then finish c.id stBadParam [] s
  else if u.kind ≤ 1 then askAny c.id (actTile 3 4 u.core u.tile (s.actPart u.core) (some c.id)) s
  else finish c.id stOk [] (retireUnit u.unit 0x0F noWork 0 false s)

/-- A restoration by Whisk (R378): the job goes to a tile that has none. -/
def askRestore (c : Cmd) (u : UnitArg) (job : WhiskJob) (s : State) : State :=
  askTiles c.id [actTile 3 0 u.core u.tile (s.actPart u.core) (some c.id)]
    (s.modTile u.core u.tile (fun v => { v with job := some job }))

/-- UNIT_RESTORE of a column: of a tile that holds a shadow, TX its fixed pattern. -/
def restoreColumn (c : Cmd) (u : UnitArg) (s : State) : State :=
  let v := s.tile u.core u.tile
  let ok := s.colRetired u.core u.tile u.column && !s.coreRetired u.core && v.job.isNone &&
    (v.state = .ready || v.state = .suspect || v.state = .held) && (v.shadow || u.tile == 32)
  if ok then askRestore c u (.restoreColumn u.column v.state (some c.id)) s else finish c.id stNoResource [] s

/-- UNIT_RESTORE of a tile. -/
def restoreTileUnit (c : Cmd) (u : UnitArg) (s : State) : State :=
  let v := s.tile u.core u.tile
  if v.state = .retired && v.job.isNone && !s.coreRetired u.core then askRestore c u (.restoreTile (some c.id)) s
  else finish c.id stNoResource [] s

/-- UNIT_RESTORE of a core: a pass of its self-test without margin decides. -/
def restoreCore (c : Cmd) (n : Nat) (s : State) : State :=
  if s.coreRetired n then
    askAny c.id { code := 1, sort := 1, core := n, tile := 63, part := s.corePartNo n, cmd := some c.id }
      (s.modCore n (fun k => { k with marginClock := false }))
  else finish c.id stNoResource [] s

/-- UNIT_RESTORE of a lane: provisionally, until it locks. -/
def restoreLane (c : Cmd) (l : Nat) (s : State) : State :=
  if s.laneRetired l then
    let s1 := s.modMirror (fun j => { j with retired := j.retired.filter (fun e => !(e.kind == 3 && e.lane == l)) })
    finish c.id stOk [] (s1.modIngest (fun i => { i with provisional := addOnce i.provisional l }))
  else finish c.id stNoResource [] s

/-- UNIT_RESTORE (R378). -/
def performUnitRestore (c : Cmd) (s : State) : State :=
  let u := unitArg (pw c.w 0)
  if !u.exists_ then finish c.id stBadParam [] s
  else match u.kind with
  | 0 => restoreColumn c u s
  | 1 => restoreTileUnit c u s
  | 2 => restoreCore c u.core s
  | _ => restoreLane c u.lane s

/-! ## Network -/

/-- NET_PORT_SET (R334): staged in the global set. -/
def performNetPortSet (c : Cmd) (s : State) : State := performStaged c [] s

/-- NET_PEER_SET (R335): staged. -/
def performNetPeerSet (c : Cmd) (s : State) : State := performStaged c [] s

/-- The mask of a partition's peers that are down, from one on. -/
def State.downMask (s : State) (p from_ : Nat) : Nat := maskOf ((upTo 32).filter (fun i => (s.peer p (from_ + i)).down))

/-- NET_STATUS (R345). -/
def performNetStatus (c : Cmd) (s : State) : State :=
  let v := s.port (pf c.w 0 0 1)
  let p := c.h.partition.toNat
  finish c.id stOk [w32 (v.link + 4 * bits (v.w 0) 0 2 + 16 * b2n s.net.ptpLocked), w32 (min v.fecCorr 0xFFFFFFFF),
    w32 (min v.fecUncorr 0xFFFFFFFF), w32 (field 32 s.net.ptpOffset), w32 (s.downMask p 0), w32 (s.downMask p 32)] s

end Sys2Proof.Machine
end

