-- ==== Sys2Proof/Machine/Perform.lean ====
section
/-! DEFINITION. The commands of the opcode map as they are taken from their lane (R272, R277, R286, R299), and what sets waiting
commands going: PACKET_TAKE, AT_TICK_DUE, FENCE_RELEASE, POWER_STATE (R401 to R403), REFCLK_RESTORED (R410). -/

namespace Sys2Proof.Machine

/-- What performing a taken command does, by its opcode (Tables 10.7 to 10.9). -/
def performAny (c : Cmd) (s : State) : State :=
  match c.op with
  | 0x000 => performNop c s
  | 0x001 => performGetCaps c s
  | 0x002 => performSetLevel c s
  | 0x003 => performCommit c s
  | 0x004 => performCmdCancel c s
  | 0x005 => performStageDiscard c s
  | 0x100 => performModelLoad c s
  | 0x101 => performTileProgram c s
  | 0x102 => performTileVerify c s
  | 0x103 => performModelCommit c s
  | 0x104 => performModelRetire c s
  | 0x105 => performTileConfig c s
  | 0x200 => performFlowOpen c s
  | 0x201 => performFlowBind c s
  | 0x202 => performFlowClose c s
  | 0x203 => performFlowSnapshot c s
  | 0x300 => performKrnSubmit c s
  | 0x301 => performKrnDefine c s
  | 0x302 => performKrnRelease c s
  | 0x400 => performSyncRead c s
  | 0x401 => performSyncSet c s
  | 0x500 => performTrigPulse c s
  | 0x501 => performRuleSet c s
  | 0x502 => performRuleClear c s
  | 0x503 => performTickRead c s
  | 0x600 => performIgChanSet c s
  | 0x601 => performIgDecSet c s
  | 0x602 => performIgCoefLoad c s
  | 0x700 => performMaintStart c s
  | 0x701 => performSelftest c s
  | 0x702 => performRecal c s
  | 0x800 => performHkSeq c s
  | 0x801 => performHkCalZero c s
  | 0x802 => performHkCalFull c s
  | 0x900 => performAttest c s
  | 0x901 => performFwStage c s
  | 0x902 => performFwActivate c s
  | 0xA00 => performFaultRead c s
  | 0xA01 => performFaultExport c s
  | 0xA02 => performUnitRetire c s
  | 0xA03 => performUnitRestore c s
  | 0xB00 => performNetPortSet c s
  | 0xB01 => performNetPeerSet c s
  | 0xB02 => performNetStatus c s
  | _ => s

/-- A packet with this opcode, header and payload is the next that the lane of its header takes (R277). -/
def submit (op : Nat) (h : Hdr) (w : List Word) (s : State) : Answer :=
  checked (WellFormed.payload w) (fun s =>
    if s.laneTakes h.fn.val h.lane.val then take performAny h op w true true s else s) s

/-- NOP, opcode 0x0000 (R299). -/
def execNop (h : Hdr) (w : List Word) (s : State) : Answer := submit 0x000 h w s

/-- GET_CAPS, opcode 0x0001 (R290). -/
def execGetCaps (h : Hdr) (w : List Word) (s : State) : Answer := submit 0x001 h w s

/-- SET_LEVEL, opcode 0x0002 (R289). -/
def execSetLevel (h : Hdr) (w : List Word) (s : State) : Answer := submit 0x002 h w s

/-- COMMIT, opcode 0x0003 (R293, R294). -/
def execCommit (h : Hdr) (w : List Word) (s : State) : Answer := submit 0x003 h w s

/-- CMD_CANCEL, opcode 0x0004 (R298). -/
def execCmdCancel (h : Hdr) (w : List Word) (s : State) : Answer := submit 0x004 h w s

/-- STAGE_DISCARD, opcode 0x0005 (R298). -/
def execStageDiscard (h : Hdr) (w : List Word) (s : State) : Answer := submit 0x005 h w s

/-- MODEL_LOAD, opcode 0x0100 (R127 to R129, R148, R300). -/
def execModelLoad (h : Hdr) (w : List Word) (s : State) : Answer := submit 0x100 h w s

/-- TILE_PROGRAM, opcode 0x0101 (R131, R132, R300). -/
def execTileProgram (h : Hdr) (w : List Word) (s : State) : Answer := submit 0x101 h w s

/-- TILE_VERIFY, opcode 0x0102 (R131, R146). -/
def execTileVerify (h : Hdr) (w : List Word) (s : State) : Answer := submit 0x102 h w s

/-- MODEL_COMMIT, opcode 0x0103 (R128, R300). -/
def execModelCommit (h : Hdr) (w : List Word) (s : State) : Answer := submit 0x103 h w s

/-- MODEL_RETIRE, opcode 0x0104 (R130, R300). -/
def execModelRetire (h : Hdr) (w : List Word) (s : State) : Answer := submit 0x104 h w s

/-- TILE_CONFIG, opcode 0x0105 (R56, R300). -/
def execTileConfig (h : Hdr) (w : List Word) (s : State) : Answer := submit 0x105 h w s

/-- FLOW_OPEN, opcode 0x0200 (R251). -/
def execFlowOpen (h : Hdr) (w : List Word) (s : State) : Answer := submit 0x200 h w s

/-- FLOW_BIND, opcode 0x0201 (R252). -/
def execFlowBind (h : Hdr) (w : List Word) (s : State) : Answer := submit 0x201 h w s

/-- FLOW_CLOSE, opcode 0x0202 (R253). -/
def execFlowClose (h : Hdr) (w : List Word) (s : State) : Answer := submit 0x202 h w s

/-- FLOW_SNAPSHOT, opcode 0x0203 (R254). -/
def execFlowSnapshot (h : Hdr) (w : List Word) (s : State) : Answer := submit 0x203 h w s

/-- KRN_SUBMIT, opcode 0x0300 (R187, R249, R302). -/
def execKrnSubmit (h : Hdr) (w : List Word) (s : State) : Answer := submit 0x300 h w s

/-- KRN_DEFINE, opcode 0x0301 (R303, R307). -/
def execKrnDefine (h : Hdr) (w : List Word) (s : State) : Answer := submit 0x301 h w s

/-- KRN_RELEASE, opcode 0x0302 (R300). -/
def execKrnRelease (h : Hdr) (w : List Word) (s : State) : Answer := submit 0x302 h w s

/-- SYNC_READ, opcode 0x0400 (R212, R301). -/
def execSyncRead (h : Hdr) (w : List Word) (s : State) : Answer := submit 0x400 h w s

/-- SYNC_SET, opcode 0x0401 (R211, R301). -/
def execSyncSet (h : Hdr) (w : List Word) (s : State) : Answer := submit 0x401 h w s

/-- TRIG_PULSE, opcode 0x0500 (R239, R301). -/
def execTrigPulse (h : Hdr) (w : List Word) (s : State) : Answer := submit 0x500 h w s

/-- RULE_SET, opcode 0x0501 (R240, R301). -/
def execRuleSet (h : Hdr) (w : List Word) (s : State) : Answer := submit 0x501 h w s

/-- RULE_CLEAR, opcode 0x0502 (R240). -/
def execRuleClear (h : Hdr) (w : List Word) (s : State) : Answer := submit 0x502 h w s

/-- TICK_READ, opcode 0x0503 (Table 10.8). -/
def execTickRead (h : Hdr) (w : List Word) (s : State) : Answer := submit 0x503 h w s

/-- IG_CHAN_SET, opcode 0x0600 (R222, R301). -/
def execIgChanSet (h : Hdr) (w : List Word) (s : State) : Answer := submit 0x600 h w s

/-- IG_DEC_SET, opcode 0x0601 (R223). -/
def execIgDecSet (h : Hdr) (w : List Word) (s : State) : Answer := submit 0x601 h w s

/-- IG_COEF_LOAD, opcode 0x0602 (R222, R301). -/
def execIgCoefLoad (h : Hdr) (w : List Word) (s : State) : Answer := submit 0x602 h w s

/-- MAINT_START, opcode 0x0700 (R385). -/
def execMaintStart (h : Hdr) (w : List Word) (s : State) : Answer := submit 0x700 h w s

/-- SELFTEST, opcode 0x0701 (R376). -/
def execSelftest (h : Hdr) (w : List Word) (s : State) : Answer := submit 0x701 h w s

/-- RECAL, opcode 0x0702 (R138, R141). -/
def execRecal (h : Hdr) (w : List Word) (s : State) : Answer := submit 0x702 h w s

/-- HK_SEQ, opcode 0x0800 (R424). -/
def execHkSeq (h : Hdr) (w : List Word) (s : State) : Answer := submit 0x800 h w s

/-- HK_CAL_ZERO, opcode 0x0801 (R426). -/
def execHkCalZero (h : Hdr) (w : List Word) (s : State) : Answer := submit 0x801 h w s

/-- HK_CAL_FULL, opcode 0x0802 (R426, R427). -/
def execHkCalFull (h : Hdr) (w : List Word) (s : State) : Answer := submit 0x802 h w s

/-- ATTEST, opcode 0x0900 (R418). -/
def execAttest (h : Hdr) (w : List Word) (s : State) : Answer := submit 0x900 h w s

/-- FW_STAGE, opcode 0x0901 (R412, R413). -/
def execFwStage (h : Hdr) (w : List Word) (s : State) : Answer := submit 0x901 h w s

/-- FW_ACTIVATE, opcode 0x0902 (R414). -/
def execFwActivate (h : Hdr) (w : List Word) (s : State) : Answer := submit 0x902 h w s

/-- FAULT_READ, opcode 0x0A00 (R384). -/
def execFaultRead (h : Hdr) (w : List Word) (s : State) : Answer := submit 0xA00 h w s

/-- FAULT_EXPORT, opcode 0x0A01 (R384). -/
def execFaultExport (h : Hdr) (w : List Word) (s : State) : Answer := submit 0xA01 h w s

/-- UNIT_RETIRE, opcode 0x0A02 (R378). -/
def execUnitRetire (h : Hdr) (w : List Word) (s : State) : Answer := submit 0xA02 h w s

/-- UNIT_RESTORE, opcode 0x0A03 (R378). -/
def execUnitRestore (h : Hdr) (w : List Word) (s : State) : Answer := submit 0xA03 h w s

/-- NET_PORT_SET, opcode 0x0B00 (R334). -/
def execNetPortSet (h : Hdr) (w : List Word) (s : State) : Answer := submit 0xB00 h w s

/-- NET_PEER_SET, opcode 0x0B01 (R335). -/
def execNetPeerSet (h : Hdr) (w : List Word) (s : State) : Answer := submit 0xB01 h w s

/-- NET_STATUS, opcode 0x0B02 (R345). -/
def execNetStatus (h : Hdr) (w : List Word) (s : State) : Answer := submit 0xB02 h w s

/-! ## What sets commands going -/

/-- PACKET_TAKE: a lane takes its next packet (R272 to R277, R286). -/
def execPacketTake (fn : Fin 32) (lane : Fin 16) (s : State) : Answer :=
  ifDue (s.laneTakes fn.val lane.val) (packetTake performAny fn lane) s

/-- AT_TICK_DUE: the effects of reached commit ticks come first, then the first command due is performed (R261, R278). -/
def execAtTickDue (s : State) : Answer :=
  ifDue s.served (fun s =>
    let s1 := each (upTo 8) (applyDue 4) s
    match s1.dueCmd? with
    | some c => startCmd performAny c s1
    | none => s1) s

/-- FENCE_RELEASE: every earlier command of the lane has sent its final reply (R277). -/
def execFenceRelease (fn : Fin 32) (lane : Fin 16) (s : State) : Answer :=
  match (s.lane fn.val lane.val).fenceWait with
  | some id =>
    ifDue (s.served && s.laneQuiet fn.val lane.val id) (fun s =>
      let s1 := s.modLane fn.val lane.val (fun l => { l with fenceWait := none })
      match s1.cmd? id with
      | some c => proceed performAny c s1
      | none => s1) s
  | none => .next s

/-! ## Power states -/

/-- A tile whose corrections must be renewed before it is schedulable (R81, R140, R405). -/
def renewTile (cal : Bool) (c t : Nat) (s : State) : State :=
  if s.refPhases c t then
    let s1 := s.modTile c t (fun v => { v with refDue := true, calDue := v.calDue || cal, withheld := true })
    let s2 := if cal then askAuto (actTile 4 0 c t (s.actPart c) none) s1 else s1
    askAuto (actTile 2 0 c t (s.actPart c) none) s2
  else s

/-- Every tile's corrections must be renewed. -/
def renewAll (cal : Bool) (s : State) : State :=
  each (upTo 32) (fun c u => each (upTo 33) (fun t v => renewTile cal c t v) u) s

/-- Tiles with a sample or calibration that fell due in a low-power state stay withheld until it has run (R402). -/
def holdDue (s : State) : State :=
  { s with tiles := s.tiles.map (fun (e : Nat × Tile) => (e.1, { e.2 with withheld := e.2.withheld || e.2.refDue || e.2.calDue })) }

/-- Array-retain is entered (Table 13.6, Table 13.7): core logic loses its state, the ports go down, memory refreshes itself. -/
def enterRetain (s : State) : State :=
  let s1 := suppressAll s
  { s1 with
    cores := s1.cores.map (fun (e : Nat × Core) => (e.1, { e.2 with
      slots := [], act := [], queues := [], joins := [], tongs := [], prefetch := [] })),
    pkg := { s1.pkg with selfRefresh := true },
    net := { s1.net with ports := s1.net.ports.map (fun (e : Nat × Port) => (e.1, { e.2 with link := 0 })), ptpGood := 0,
                         ptpLocked := false } }

/-- Array-retain is left: memory leaves self-refresh, ports retrain, trims and corrections are rebuilt (Table 13.7). -/
def leaveRetain (s : State) : State :=
  renewAll true { s with
    pkg := { s.pkg with selfRefresh := false },
    net := { s.net with ports := s.net.ports.map (fun (e : Nat × Port) =>
      (e.1, { e.2 with link := if bits (e.2.w 0) 0 2 = 0 then 0 else 1 })) } }

/-- Standby is entered: the timebase stops, the Crock is saved with LAST_HALT = 3, everything outside VDD_AON is off (Table 13.6,
R390). -/
def enterStandby (s : State) : State :=
  let s1 := (enterRetain s).foldTick.modTb (fun t => { t with state := 0 })
  let s2 := beginSave 3 none ((foldAges s1).modMirror (fun j => { j with lastHalt := 3 }))
  let s3 := match s2.crock.save with
    | some j => endSave j s2
    | none => s2
  s3.modPower (fun p => { p with ready := false })

/-- The change to a power state is complete (R401): STATE and the event, then what the state brings. -/
def changeState (t : Nat) (s : State) : State :=
  let old := s.power.state
  let s1 := raiseDev noUnit (ev 0x4B 0 noFault old t 0 0) (s.modPower (fun p => { p with state := t, transition := none }))
  let s2 := if old = 2 && t < 2 then leaveRetain s1 else if t = 2 then enterRetain s1 else if t = 3 then enterStandby s1 else s1
  if t = 0 then unpark performAny (holdDue s2) else s2

/-- POWER_STATE: an accepted change of power state completes. -/
def execPowerState (s : State) : Answer :=
  match s.power.transition with
  | some t => ifDue (s.served && s.crock.save.isNone) (changeState t) s
  | none => .next s

/-- REFCLK_RESTORED: memory leaves self-refresh, reference samples come before any operation, waiting commands proceed; the
timebase stays Lost (R410). -/
def refclkRestored (s : State) : State :=
  let retain := s.power.state == 2
  let s1 := (s.modPower (fun p => { p with refclkLost := false })).modPkg (fun p => { p with selfRefresh := retain })
  let s2 := s1.modNet (fun n => { n with ports := n.ports.map (fun (e : Nat × Port) =>
    (e.1, { e.2 with link := if retain || bits (e.2.w 0) 0 2 = 0 then 0 else 1 })) })
  unpark performAny (raiseDev noUnit (ev 0x4A 0 noFault 0 0 0 0) (renewAll false s2))

/-- REFCLK_RESTORED. -/
def execRefclkRestored (s : State) : Answer := ifDue (s.served && s.power.refclkLost) refclkRestored s

end Sys2Proof.Machine
end

