-- ==== Sys2Proof/Machine/Memory.lean ====
section
/-! DEFINITION. Package memory events: patrol scrub (R347, R352), uncorrectable lines (R351, R379 to R381) and Stockpot lines
(R379). A line is 64 bytes; a unit of 64 MiB holds 1,048,576 lines. -/

namespace Sys2Proof.Machine

/-- Lines of usable memory: 30 GiB. -/
def memLines : Nat := 503316480

/-- Whether package memory is read at all: trained, clocked, not in self-refresh. -/
def State.memRuns (s : State) : Bool := s.served && s.pkg.trained && !s.pkg.selfRefresh && !s.power.refclkLost

/-- Whether patrol scrub is on, by its register or by MAINT_START 7. -/
def State.scrubOn (s : State) : Bool := s.regf 0xC40 0 1 == 1 || s.running.any (fun a => a.code == 7)

/-- A pass has ended: it is counted, and a MAINT_START 7 ends with it. -/
def scrubPass (s : State) : State :=
  let s1 := count (devCtr 3) 1 (s.modPkg (fun p => { p with scrubNext := 0 }))
  each (s1.running.filter (fun a => a.code == 7)) (fun a t => finishIdle a.cmd stOk [] (endAct a t)) s1

/-- Scrub reads the lines up to one and writes it back where an error was corrected (R347, R352). -/
def scrub (line : Nat) (corrected : Bool) (s : State) : State :=
  let s1 := count (devCtr 1) (b2n corrected) s
  if line + 1 = memLines then scrubPass s1 else s1.modPkg (fun p => { p with scrubNext := line + 1 })

/-- PATROL_SCRUB: the lines from the place scrub has reached up to the one named are read; of these the one named may have held
a corrected error. -/
def execPatrolScrub (line : Nat) (corrected : Bool) (s : State) : Answer :=
  checked (WellFormed.line line) (fun s =>
    if s.memRuns && s.scrubOn && decide (s.pkg.scrubNext ≤ line) then scrub line corrected s else s) s

/-- The reset of a partition for a line of one of its regions: poison is cleared with the regions, but for the weight image,
which is not rewritten (R379). -/
def regionReset (p region line : Nat) (s : State) : State :=
  let x := addRecord uMem 0x0D 7 p noWork 0 (64 * line) s
  let image := region == 6
  let s1 := partitionReset p 0x0D region x.1 image x.2
  s1.modPkg (fun q => { q with poison := (q.poison.filter (fun l =>
    match s.regionOf? (l / 1048576) with
    | some (o, r) => !(o == p && r ≠ 6)
    | none => true)) ++ (if image then [line] else []) })

/-- An uncorrectable line (R351): by region, the partition is reset, the firmware copy is rewritten or the error is fatal, or the
address is recorded. -/
def memUncorr (line : Nat) (both : Bool) (s : State) : State :=
  let s1 := count (devCtr 2) 1 s
  let unit := line / 1048576
  if unit < 8 then (if both then fatal 0x0D s1 else s1)
  else match s1.regionOf? unit with
  | some (p, r) => regionReset p r line s1
  | none =>
    (recordOnly uMem 0x0D 2 255 0 (64 * line) s1).modPkg (fun q => { q with poison := addOnce q.poison line })

/-- MEM_UNCORRECTABLE; a line already poisoned has been handled. -/
def execMemUncorrectable (line : Nat) (bothCopies : Bool) (s : State) : Answer :=
  checked (WellFormed.line line) (fun s =>
    if s.memRuns && !s.power.fatal && !s.pkg.poison.contains line then memUncorr line bothCopies s else s) s

/-- STOCKPOT_UNCORR: an uncorrectable error in a Stockpot line resets the partition whose range holds it (R379). -/
def execStockpotUncorr (line : Fin 16384) (s : State) : Answer :=
  ifDue (s.coresRun) (fun s =>
    match s.flowPart? line.val with
    | some p =>
      let x := addRecord uNone 0x0E 7 p noWork line.val 0 s
      partitionReset p 0x0E 0 x.1 false x.2
    | none => recordOnly uNone 0x0E 2 255 line.val 0 s) s

end Sys2Proof.Machine
end

