-- ==== Sys2Proof/Machine/Network.lean ====
section
/-! DEFINITION. The network: ports and PFC (R332, R333), node messages (R336 to R340), RoCEv2 (R341), PTP (R342, R343) and
TRACE_READ (R344). A frame that leaves names its destination: 64 × partition + peer, or 65,536 + NODE_ID for a source that is
answered (log 8). -/

namespace Sys2Proof.Machine

/-- Whether ports work (R401, R410). -/
def State.netRuns (s : State) : Bool := s.served && !s.power.refclkLost && decide (s.power.state < 2)

/-- Whether a port is up. -/
def State.portUp (s : State) (n : Nat) : Bool := s.netRuns && (s.port n).link == 2

/-- The node peers of a port: partition and number. -/
def State.nodePeers (s : State) (port : Nat) : List (Nat × Nat) :=
  (s.net.peers.filter (fun e => e.2.kind = 1 && e.2.port = port)).map (fun e => (e.1 / 64, e.1 % 64))

/-- The peer record a message belongs to: of its SRC_NODE and KIND on its port, of the partition it names before any other
(log 8). -/
def State.peerOf? (s : State) (m : MsgHdr) (kind : Nat) : Option (Nat × Nat) :=
  let l := s.net.peers.filter (fun e => e.2.kind = kind && e.2.port = m.port.val && bits (e.2.w 7) 16 16 = m.srcNode.toNat)
  match l.find? (fun e => e.1 / 64 = m.partition.toNat) with
  | some e => some (e.1 / 64, e.1 % 64)
  | none => l.head?.map (fun e => (e.1 / 64, e.1 % 64))

/-! ## Messages -/

/-- The payload of a HELLO (R337). -/
def State.helloBytes (s : State) (port : Nat) : Bytes :=
  leBytes 2 (bits ((s.port port).w 10) 0 16) ++ [3, 2] ++ leBytes 4 s.fwVersion ++ leBytes 2 2 ++ leBytes 2 0 ++
    leBytes 8 s.sec.card.serial

/-- A HELLO to a peer: SEQ 0, sent at the agreed level (R336, R339). -/
def sendHello (p n : Nat) (s : State) : State :=
  let v := s.peer p n
  let b := message (s.port v.port) v.level 1 0 v.seqIn p (s.helloBytes v.port)
  (count (portCtr v.port 0) 1 s).emit (.frame v.port 1 (64 * p + n) b)

/-- A HELLO to a source that is no peer. -/
def answerHello (port node : Nat) (s : State) : State :=
  (count (portCtr port 0) 1 s).emit (.frame port 1 (65536 + node) (message (s.port port) 1 1 0 0 0 (s.helloBytes port)))

/-- An ACK: the highest SEQ received in order; it takes no number of its own (log 8). -/
def sendAck (p n : Nat) (s : State) : State :=
  let v := s.peer p n
  (count (portCtr v.port 0) 1 s).emit
    (.frame v.port 3 (64 * p + n) (message (s.port v.port) v.level 3 v.seqOut v.seqIn p []))

/-- Whether a message's LEVEL and TYPE are accepted (R337, R339). -/
def msgOk (m : MsgHdr) : Bool :=
  let t := m.type.toNat
  (m.level.toNat == 1 && decide (1 ≤ t) && decide (t ≤ 3)) || (m.level.toNat == 2 && decide (1 ≤ t) && decide (t ≤ 6))

/-- A message that is not accepted: discarded, counted and answered with HELLO (R339). -/
def levelDrop (m : MsgHdr) (s : State) : State :=
  let s1 := count (portCtr m.port.val 4) 1 s
  match s.peerOf? m 1 with
  | some (p, n) => sendHello p n s1
  | none => answerHello m.port.val m.srcNode.toNat s1

/-- A datagram on the node port: one without the magic number is no node message (R333, R336); the others are counted and judged
by level and type. -/
def receive (m : MsgHdr) (f : State → State) (s : State) : State :=
  if m.magic ≠ 0x4B54 then count (portCtr m.port.val 3) 1 s
  else
    let s1 := count (portCtr m.port.val 1) 1 s
    if msgOk m then f s1 else levelDrop m s1

/-- An ACK value frees the messages it covers (R338). -/
def takeAck (p n ack : Nat) (s : State) : State :=
  s.modPeer p n (fun v => { v with unacked := v.unacked.filter (fun u => decide (ack < u.seq)) })

/-- Send an unacknowledged message again. -/
def resend (p n : Nat) (u : Unacked) (s : State) : State :=
  let port := (s.peer p n).port
  (count (portCtr port 2) 1 s).emit (.frame port 2 (64 * p + n) u.data)

/-- A peer that HELLO brings back: sending resumes at the oldest unacknowledged SEQ (R338). -/
def bringBack (p n : Nat) (s : State) : State :=
  if (s.peer p n).down then
    let s1 := s.modPeer p n (fun v => { v with down := false, unacked := v.unacked.map (fun u => { u with resends := 0 }) })
    each (s1.peer p n).unacked (resend p n) s1
  else s

/-- HELLO: the agreed level is the lower of the two highest (R339). -/
def takeHello (m : MsgHdr) (highest : Nat) (s : State) : State :=
  match s.peerOf? m 1 with
  | some (p, n) =>
    bringBack p n (takeAck p n m.ack.toNat (s.modPeer p n (fun v => { v with level := clampN highest 1 2 })))
  | none => s

/-- HELLO. -/
def execHello (m : MsgHdr) (levels highest : BitVec 8) (fw : Word) (format : BitVec 16) (serial : BitVec 64) (s : State) : Answer :=
  let _ := (levels, fw, format, serial)
  checked (WellFormed.msgType m 1) (fun s =>
    if s.portUp m.port.val then receive m (takeHello m highest.toNat) s else s) s

/-- The words of a packet still to come are kept; whole packets have arrived (R337). fuel counts packets. -/
def dropWhole (fuel : Nat) (l : List DWord) : List DWord :=
  match fuel with
  | 0 => l
  | k + 1 =>
    match l with
    | [] => []
    | h :: _ =>
      let n := max (bitsN h.toNat 0 16) 1
      if n ≤ l.length then dropWhole k (l.drop n) else l

/-- RECORD (R337, R338): the next SEQ is taken and acknowledged; one received before is acknowledged again; one that comes too
early is not taken. -/
def takeRecord_ (m : MsgHdr) (payload : Bytes) (s : State) : State :=
  match s.peerOf? m 1 with
  | some (p, n) =>
    let s1 := takeAck p n m.ack.toNat s
    let q := m.seq.toNat
    if q = (s.peer p n).seqIn + 1 then
      sendAck p n (s1.modPeer p n (fun v =>
        let all := v.inbox ++ toDwords (payload.length / 8) payload
        { v with seqIn := q, inbox := dropWhole all.length all }))
    else sendAck p n s1
  | none => s

/-- RECORD. -/
def execRecord (m : MsgHdr) (payload : List Byte) (s : State) : Answer :=
  checked (WellFormed.message payload && WellFormed.msgType m 2) (fun s =>
    if s.portUp m.port.val then receive m (takeRecord_ m payload) s else s) s

/-- ACK (R338). -/
def execAck (m : MsgHdr) (s : State) : Answer :=
  checked (WellFormed.msgType m 3) (fun s =>
    if s.portUp m.port.val then
      receive m (fun s => match s.peerOf? m 1 with
        | some (p, n) => takeAck p n m.ack.toNat s
        | none => s) s
    else s) s

/-- RING_CREDIT: the read offset of a RoCEv2 peer's ring (R337, R341). -/
def takeCredit (m : MsgHdr) (offset : Nat) (s : State) : State :=
  match s.peerOf? m 2 with
  | some (p, n) =>
    let q := m.seq.toNat
    if q ≤ (s.peer p n).seqIn then sendAck p n s
    else sendAck p n (s.modPeer p n (fun v => { v with
      seqIn := q, readOff := offset % 2 ^ clampN (bits (v.w 12) 0 5) 12 30 / 64 * 64 }))
  | none => s

/-- RING_CREDIT. -/
def execRingCredit (m : MsgHdr) (offset : BitVec 64) (s : State) : Answer :=
  checked (WellFormed.msgType m 4) (fun s =>
    if s.portUp m.port.val then receive m (takeCredit m offset.toNat) s else s) s

/-- The bytes TRACE_DATA carries: at most what one message takes; beyond 8 MiB zeros (R337, R344). -/
def State.traceData (s : State) (port offset n : Nat) : Bytes :=
  (upTo (min n ((s.port port).mtu - 72))).map (fun i => if offset + i < 8388608 then s.bar4Byte (offset + i) else 0)

/-- TRACE_READ (R344): answered only where MGMT = 1; it is counted nowhere. -/
def execTraceRead (m : MsgHdr) (offset n : Word) (s : State) : Answer :=
  checked (WellFormed.msgType m 5) (fun s =>
    let port := m.port.val
    if s.portUp port && m.magic == 0x4B54 && bit ((s.port port).w 9) 11 then
      if msgOk m then
        s.emit (.frame port 6 (65536 + m.srcNode.toNat)
          (message (s.port port) 2 6 0 0 0 (s.traceData port offset.toNat n.toNat)))
      else levelDrop m s
    else s) s

/-- PEER_DOWN (R338, R341). -/
def peerDown (p n : Nat) (s : State) : State :=
  raisePart p noUnit (ev 0x16 1 noFault (s.peer p n).port n 0 0) (s.modPeer p n (fun v => { v with down := true }))

/-- RECORD_RESEND: 100 µs have passed without acknowledgement of the oldest message: it is sent again, and after the eighth resend
the peer is down (R338). -/
def recordResend (p n : Nat) (s : State) : State :=
  match (s.peer p n).unacked with
  | u :: rest =>
    if 8 ≤ u.resends then peerDown p n s
    else resend p n u (s.modPeer p n (fun v => { v with unacked := { u with resends := u.resends + 1 } :: rest }))
  | [] => s

/-- RECORD_RESEND. -/
def execRecordResend (part : Fin 8) (peer : Fin 64) (s : State) : Answer :=
  let v := s.peer part.val peer.val
  ifDue (s.portUp v.port && v.kind == 1 && !v.down) (recordResend part.val peer.val) s

/-! ## Ports -/

/-- PORT_LINK_UP: the port is up and sends HELLO to its node peers (R339). -/
def execPortLinkUp (port : Fin 2) (s : State) : Answer :=
  let v := s.port port.val
  ifDue (s.netRuns && bits (v.w 0) 0 2 ≠ 0 && v.link ≠ 2) (fun s =>
    let s1 := s.modPort port.val (fun v => { v with link := 2 })
    each (s1.nodePeers port.val) (fun e t => sendHello e.1 e.2 t) s1) s

/-- PORT_LINK_DOWN: the port loses its link (R342, R345). -/
def execPortLinkDown (port : Fin 2) (s : State) : Answer :=
  ifDue s.served (fun s => s.modPort port.val (fun v => { v with link := 0 })) s

/-- HELLO_TIMER: every second a HELLO to each node peer of a port that is up (R339). -/
def execHelloTimer (s : State) : Answer :=
  ifDue s.netRuns (fun s =>
    each ((upTo 2).filter s.portUp) (fun k t => each (t.nodePeers k) (fun e u => sendHello e.1 e.2 u) t) s) s

/-- PFC: quanta of 512 bit times at 100 Gb/s for PFC_PRIO hold the port's priority back; 0 lets it go (R332). -/
def execPfc (port : Fin 2) (prio : Fin 8) (quanta : BitVec 16) (s : State) : Answer :=
  let v := s.port port.val
  ifDue (s.portUp port.val && bit (v.w 0) 3 && bits (v.w 0) 4 3 == prio.val) (fun s =>
    s.modPort port.val (fun v => { v with paused := s.clk + ceilDiv (512 * quanta.toNat) 400 })) s

/-- The IPv6 address of a port. -/
def Port.ipv6 (v : Port) : Nat := (upTo 4).foldl (fun a i => a + (v.w (4 + i)).toNat * 2 ^ (32 * i)) 0

/-- The MAC address of a port. -/
def Port.mac (v : Port) : Nat := (v.w 1).toNat + 2 ^ 32 * bits (v.w 2) 0 16

/-- An answer to a request for one of the port's addresses; for another address the frame is dropped and counted (R333). -/
def answerAddr (port kind : Nat) (own : Bool) (addr : Bytes) (s : State) : State :=
  if own then s.emit (.frame port kind 0 (leBytes 6 (s.port port).mac ++ addr)) else count (portCtr port 3) 1 s

/-- ARP_REQUEST (R333). -/
def execArpRequest (port : Fin 2) (target : Word) (s : State) : Answer :=
  ifDue (s.portUp port.val)
    (answerAddr port.val 18 (target == (s.port port.val).w 3) (leBytes 4 target.toNat)) s

/-- NEIGHBOUR_SOLICITATION (R333). -/
def execNeighbourSolicitation (port : Fin 2) (target : BitVec 128) (s : State) : Answer :=
  ifDue (s.portUp port.val)
    (answerAddr port.val 19 (target.toNat == (s.port port.val).ipv6) (leBytes 16 target.toNat)) s

/-- NET_RX_DROP: a frame that the port does not receive is dropped and counted (R333). -/
def execNetRxDrop (port : Fin 2) (s : State) : Answer :=
  ifDue (s.portUp port.val) (count (portCtr port.val 3) 1) s

/-! ## RoCEv2 (R341) -/

/-- Whether a RoCEv2 queue pair is in use. -/
def State.rocePair (s : State) (p n : Nat) : Bool :=
  let v := s.peer p n
  s.portUp v.port && v.kind == 2 && !v.down

/-- The packets after one PSN. -/
def afterPsn (psn : Nat) (l : List (Nat × Bytes)) : List (Nat × Bytes) :=
  if l.any (fun e => e.1 = psn) then ((l.dropWhile (fun e => e.1 ≠ psn)).drop 1) else l

/-- The packets from one PSN on. -/
def fromPsn (psn : Nat) (l : List (Nat × Bytes)) : List (Nat × Bytes) :=
  if l.any (fun e => e.1 = psn) then l.dropWhile (fun e => e.1 ≠ psn) else l

/-- Go back: every packet sent and not acknowledged is sent again, at most seven times in a row, then the peer is down. -/
def goBack (p n : Nat) (s : State) : State :=
  let v := s.peer p n
  if v.sent.isEmpty then s
  else if 7 ≤ v.retries then peerDown p n s
  else
    let s1 := count (portCtr v.port 5) 1 (s.modPeer p n (fun v => { v with retries := v.retries + 1 }))
    each v.sent (fun e t => t.emit (.frame v.port (e.2.headD 0).toNat (64 * p + n) (e.2.drop 1))) s1

/-- ROCE_ACK: the packets up to a PSN are acknowledged. -/
def execRoceAck (part : Fin 8) (peer : Fin 64) (psn : BitVec 24) (s : State) : Answer :=
  ifDue (s.rocePair part.val peer.val) (fun s =>
    s.modPeer part.val peer.val (fun v => { v with
      sent := afterPsn psn.toNat v.sent, retries := if v.sent.any (fun e => e.1 = psn.toNat) then 0 else v.retries })) s

/-- ROCE_NAK, of either kind: go-back-N from the PSN named (Table 11.13). -/
def execRoceNak (part : Fin 8) (peer : Fin 64) (psn : BitVec 24) (remoteAccess : Bool) (s : State) : Answer :=
  let _ := remoteAccess
  ifDue (s.rocePair part.val peer.val) (fun s =>
    goBack part.val peer.val (s.modPeer part.val peer.val (fun v => { v with sent := fromPsn psn.toNat v.sent }))) s

/-- ROCE_TIMEOUT: 131 µs without acknowledgement. -/
def execRoceTimeout (part : Fin 8) (peer : Fin 64) (s : State) : Answer :=
  ifDue (s.rocePair part.val peer.val) (goBack part.val peer.val) s

/-- ROCE_CNP: the rate is halved, and the CNP counted. -/
def execRoceCnp (part : Fin 8) (peer : Fin 64) (s : State) : Answer :=
  ifDue (s.rocePair part.val peer.val) (fun s =>
    count (portCtr (s.peer part.val peer.val).port 6) 1
      (s.modPeer part.val peer.val (fun v => { v with rate := v.rate / 2 }))) s

/-- ROCE_RATE_RECOVER: 5 % of the line rate every 55 µs. -/
def execRoceRateRecover (part : Fin 8) (peer : Fin 64) (s : State) : Answer :=
  ifDue (s.rocePair part.val peer.val) (fun s =>
    s.modPeer part.val peer.val (fun v => { v with rate := min 1000 (v.rate + 50) })) s

/-! ## PTP (R342, R343) -/

/-- The port PTP runs on: port 0 where both have PTP = 1 and it is not down (R342). -/
def State.ptpPort? (s : State) : Option Nat := (upTo 2).find? (fun k => bit ((s.port k).w 9) 0 && s.portUp k)

/-- Whether a PTP message of a domain is received on a port. -/
def State.ptpTakes (s : State) (port domain : Nat) : Bool :=
  s.ptpPort? == some port && bits ((s.port port).w 9) 3 8 == domain

/-- Whether a Sync comes from the selected master. -/
def State.ptpSlave (s : State) (port : Nat) : Bool := s.net.master.elim false (fun m => m.1 == port)

/-- Move the device PTP clock. -/
def steer (d : Int) (t : Timebase) : Timebase :=
  let ns := ((t.ptpSec * 1000000000 + t.ptpNs : Nat) + d).toNat
  { t with ptpSec := ns / 1000000000, ptpNs := ns % 1000000000 }

/-- One Sync interval with its offset (R343): lock after 16 below 100 ns, unlocked above 1 µs; the servo steers the clock
(log 14). -/
def syncInterval (raw : Int) (s : State) : State :=
  let off := raw - s.net.ptpDelay
  let good := if off.natAbs < 100 then min (s.net.ptpGood + 1) 16 else 0
  let d := Config.servoStep off
  let s1 := s.modNet (fun n => { n with
    ptpOffset := off, ptpGood := good, ptpHeld := none, ptpRate := d,
    ptpLocked := if 1000 < off.natAbs then false else n.ptpLocked || good == 16 })
  s1.modTb (steer d)

/-- PTP_SYNC: from a one-step master the offset is known at once; from a two-step one it is held for the Follow_Up (R342). -/
def execPtpSync (port : Fin 2) (domain : BitVec 8) (twoStep : Bool) (offset : Int) (s : State) : Answer :=
  ifDue (s.ptpTakes port.val domain.toNat && s.ptpSlave port.val) (fun s =>
    if twoStep then s.modNet (fun n => { n with ptpHeld := some offset }) else syncInterval offset s) s

/-- FOLLOW_UP: the precise origin time of the Sync held (R342). -/
def execFollowUp (port : Fin 2) (domain : BitVec 8) (offset : Int) (s : State) : Answer :=
  ifDue (s.ptpTakes port.val domain.toNat && s.ptpSlave port.val && s.net.ptpHeld.isSome) (syncInterval offset) s

/-- DELAY_RESP: the path delay is measured (R343). -/
def execDelayResp (port : Fin 2) (domain : BitVec 8) (delay : Int) (s : State) : Answer :=
  ifDue (s.ptpTakes port.val domain.toNat && s.ptpSlave port.val) (fun s => s.modNet (fun n => { n with ptpDelay := delay })) s

/-- PTP_SYNC_TIMEOUT: no Sync for 4 s: lock is lost, the clock holds its last rate (R343). -/
def execPtpSyncTimeout (s : State) : Answer :=
  ifDue s.served (fun s => s.modNet (fun n => { n with ptpLocked := false, ptpGood := 0, ptpHeld := none })) s

/-- ANNOUNCE: the best master of the domain: of lowest rank, and of these of lowest identity (R342). -/
def execAnnounce (port : Fin 2) (domain : BitVec 8) (rank : Nat) (master : BitVec 64) (s : State) : Answer :=
  ifDue (s.ptpTakes port.val domain.toNat) (fun s =>
    let x := (port.val, rank, master.toNat)
    s.modNet (fun n => { n with master := match n.master with
      | some (k, r, i) =>
        if k ≠ port.val || i = master.toNat || rank < r || (rank = r && master.toNat < i) then some x else some (k, r, i)
      | none => some x })) s

end Sys2Proof.Machine
end

