-- ==== Sys2Proof/Machine/Probe.lean ====
section
/-! DEFINITION. The Probe converter (R421 to R428) and the trace pins (R435, R436). -/

namespace Sys2Proof.Machine

/-! ## Conversions -/

/-- One conversion of a level in 1/16 LSB (R421): the nearest code, either of the two where the level lies halfway (log 3), and
the flags OVR and UNDER. -/
def probeConvert (level16 : Int) (upper : Bool) : Nat × Bool × Bool :=
  if 65528 < level16 then (0xFFF, true, false)
  else if level16 < -8 then (0, false, true)
  else
    let q := (level16 + 8) / 16
    let v := if (level16 + 8) % 16 = 0 && !upper then q - 1 else q
    ((clampI v 0 0xFFF).toNat, false, false)

/-- The word of a sequence entry (Table 14.2). -/
def Probe.entry (p : Probe) (e : Nat) : Word := tget p.entries e (hkEntryReset e)

/-- Whether an entry is in the sequence. -/
def Probe.on (p : Probe) (e : Nat) : Bool := bit (p.entry e) 4

/-- The entry the next conversion belongs to: the present one while it is enabled, else the next above, else the lowest (R422). -/
def Probe.next? (p : Probe) (from_ : Nat) : Option Nat :=
  match (upTo 16).find? (fun e => decide (from_ ≤ e) && p.on e) with
  | some e => some e
  | none => (upTo 16).find? p.on

/-- Whether a result is out of band (R423, R425). -/
def outOfBand (w : Word) (code : Nat) (ovr under : Bool) : Bool :=
  let lo := bits w 8 12
  let hi := bits w 20 12
  !(lo == 0 && hi == 0xFFF) && (ovr || under || decide (code < lo) || decide (hi < code))

/-- The coefficients of an input: Z16 and gain (R421, R427). -/
def State.probeCoef (s : State) (input : Nat) : Int × Nat :=
  if input < 8 then Config.probeFactory input
  else
    let c := tget s.crock.mirror.probe (input - 8) ProbeCal.nominal
    (c.z16, c.gain)

/-- HK_VALUE of a result (R427). -/
def hkValue (coef : Int × Nat) (code : Nat) (ovr under : Bool) : Int :=
  if ovr then 0x7FFFFFFF
  else if under then -0x80000000
  else rneDiv ((16 * (code : Int) - coef.1) * coef.2) (2 ^ 20)

/-- An entry completes (R422, R425): HK_RESULT and HK_VALUE are written together; leaving the band sets HK_ALERT. The sequence
goes on with the next entry. -/
def entryDone (e sum : Nat) (ovr under : Bool) (s : State) : State :=
  let p := s.probe
  let w := p.entry e
  let code := (rneDiv sum (2 ^ bits w 5 3)).toNat
  let out := outOfBand w code ovr under
  let old := tget p.results e HkResult.none
  let r : HkResult := { code := code, ovr := ovr, under := under, outOfBand := out, valid := true,
                        count := (old.count + 1) % 65536, value := hkValue (s.probeCoef (bits w 0 4)) code ovr under }
  let leaves := out && !(tget p.band e false)
  s.modProbe (fun p => { p with
    results := tset p.results e r, band := tset p.band e out, alert := if leaves then setBit p.alert e else p.alert,
    current := (p.next? (e + 1)).getD e, n := 0, sum := 0, anyOvr := false, anyUnder := false })

/-- One conversion of the sequence. -/
def sequence (c : Nat × Bool × Bool) (s : State) : State :=
  match s.probe.next? s.probe.current with
  | some e =>
    let p := s.probe
    let again := p.current ≠ e
    let n := (if again then 0 else p.n) + 1
    let sum := (if again then 0 else p.sum) + c.1
    let ovr := (p.anyOvr && !again) || c.2.1
    let under := (p.anyUnder && !again) || c.2.2
    if n < 2 ^ bits (p.entry e) 5 3 then
      s.modProbe (fun p => { p with current := e, n := n, sum := sum, anyOvr := ovr, anyUnder := under })
    else entryDone e sum ovr under s
  | none => s

/-! ## System calibration -/

/-- A zero capture succeeds: the pin's zero is held. -/
def zeroDone (k : Capture) (mean16 : Int) (s : State) : State :=
  s.modProbe (fun p => { p with zero := tset p.zero k.pin mean16 })

/-- A full-scale capture succeeds: the pin's record takes its coefficients (R427, R428). -/
def fullDone (k : Capture) (z16 span : Int) (s : State) : State :=
  let r : ProbeCal := { state := 1, z16 := z16, gain := (rneDiv (k.vfs * 2 ^ 20 : Nat) span.toNat).toNat, vfs := k.vfs,
                        powerS := s.powerS }
  s.modMirror (fun j => { j with probe := tset j.probe k.pin r })

/-- A capture of 256 conversions ends (R426). -/
def captureDone (k : Capture) (s : State) : State :=
  let mean16 := rneDiv k.sum 16
  let s1 := s.modProbe (fun p => { p with capture := none })
  let ok := finish k.cmd stOk [w32 (rneDiv k.sum 256).toNat]
  let span := mean16 - tget s.probe.zero k.pin 0
  if k.spoiled then finish k.cmd stBadParam [] s1
  else if !k.full then ok (zeroDone k mean16 s1)
  else if span < 4096 then finish k.cmd stBadParam [] s1
  else ok (fullDone k (tget s.probe.zero k.pin 0) span s1)

/-- One conversion of a capture. -/
def captureOne (k : Capture) (c : Nat × Bool × Bool) (s : State) : State :=
  let k1 := { k with n := k.n + 1, sum := k.sum + c.1, spoiled := k.spoiled || c.2.1 || c.2.2 }
  if k1.n < 256 then s.modProbe (fun p => { p with capture := some k1 }) else captureDone k1 s

/-- PROBE_CONVERSION: a capture takes the converter, else the sequence where it runs (R422, R426). -/
def probeConversion (level16 : Int) (s : State) : State :=
  let s1 := s.nextDraw
  let c := probeConvert level16 (Config.probeTie s.draw)
  match s1.probe.capture with
  | some k => captureOne k c s1
  | none => if s1.regf 0x1000 0 1 = 1 then sequence c s1 else s1

/-- PROBE_CONVERSION. -/
def execProbeConversion (level16 : Int) (s : State) : Answer := ifDue s.served (probeConversion level16) s

/-! ## Trace pins -/

/-- The nibbles of a record on the pins (R435): preamble 0xA, 0x5, then each byte low nibble first; held one nibble a byte. -/
def pinNibbles (r : TraceRec) : Bytes :=
  [0xA, 0x5] ++ r.bytes.flatMap (fun b => [byte (b.toNat % 16), byte (b.toNat / 16)])

/-- Send the first record queued. -/
def tracePinSend (s : State) : State :=
  match s.trace.pinQueue with
  | r :: rest => (s.modTrace (fun t => { t with pinQueue := rest })).emit (.traceRecord (pinNibbles r))
  | [] => s

/-- TRACE_PIN_SEND (R435, R436): PIN_ENABLE is 1, and the device is not halted (Table 15.8). -/
def execTracePinSend (s : State) : Answer := ifDue (s.served && !s.power.fatal && s.regf 0x1104 0 1 == 1) tracePinSend s

end Sys2Proof.Machine
end

