-- ==== Sys2Proof/Machine/Pins.lean ====
section
/-! DEFINITION. The SMBus target (R456, Table 15.9) and the TAP (R457). -/

namespace Sys2Proof.Machine

/-! ## SMBus -/

/-- Whether a command other than 0x00 and 0x01 returns its data: after READY, and not in Standby. -/
def State.smbLive (s : State) : Bool := s.power.ready && !(s.power.state == 3)

/-- The data of a read, zeros where it is not live. -/
def State.smbData (s : State) (d : Bytes) : Bytes := if s.smbLive then d else List.replicate d.length 0

/-- The target answers a read (R456). -/
def smbGive (d : State → Bytes) (s : State) : State := s.emit (.smbus (d s))

/-- Command 0x01: the status byte. -/
def State.smbStatus (s : State) : Nat :=
  let p := s.power
  b2n p.ready + 2 * b2n p.fatal + 4 * p.state + 16 * b2n p.throttlePower + 32 * b2n p.throttleTherm + 64 * b2n p.refclkLost +
    128 * b2n p.thermTrip

/-- HK_RESULT of an entry (Table 14.13). -/
def HkResult.word (r : HkResult) : Nat :=
  r.code + 2 ^ 12 * b2n r.ovr + 2 ^ 13 * b2n r.under + 2 ^ 14 * b2n r.outOfBand + 2 ^ 15 * b2n r.valid + 2 ^ 16 * r.count

/-- Commands 0x10 to 0x1F: HK_RESULT, then HK_VALUE. -/
def State.smbHk (s : State) (e : Nat) : Bytes :=
  let r := tget s.probe.results e HkResult.none
  leBytes 4 r.word ++ leBytes 4 (field 32 r.value)

/-- SMB_READ_DEVICE (command 0x00): 0x3260. -/
def execSmbReadDevice (s : State) : Answer := ifDue s.power.aonOk (smbGive (fun _ => leBytes 2 0x3260)) s

/-- SMB_READ_STATUS (0x01). -/
def execSmbReadStatus (s : State) : Answer := ifDue s.power.aonOk (smbGive (fun s => leBytes 1 s.smbStatus)) s

/-- SMB_READ_TJ_NOW (0x02). -/
def execSmbReadTjNow (s : State) : Answer :=
  ifDue s.power.aonOk (smbGive (fun s => s.smbData (leBytes 2 (field 16 s.power.tjNow)))) s

/-- SMB_READ_TJ_PEAK (0x03). -/
def execSmbReadTjPeak (s : State) : Answer :=
  ifDue s.power.aonOk (smbGive (fun s => s.smbData (leBytes 2 (field 16 s.power.tjPeak)))) s

/-- SMB_READ_PKG_POWER (0x04). -/
def execSmbReadPkgPower (s : State) : Answer :=
  ifDue s.power.aonOk (smbGive (fun s => s.smbData (leBytes 2 (min s.power.pkgPower 65535)))) s

/-- SMB_READ_STEPPING (0x05): STEPPING, GRADE, clock STEP. -/
def execSmbReadStepping (s : State) : Answer :=
  ifDue s.power.aonOk (smbGive (fun s => s.smbData (leBytes 2
    (s.sec.card.stepping % 256 + 2 ^ 8 * (s.sec.card.grade % 2) + 2 ^ 9 * s.power.step)))) s

/-- SMB_READ_PART_SERIAL (0x06). -/
def execSmbReadPartSerial (s : State) : Answer :=
  ifDue s.power.aonOk (smbGive (fun s => s.smbData (leBytes 8 s.sec.card.serial))) s

/-- SMB_READ_FW_VERSION (0x07). -/
def execSmbReadFwVersion (s : State) : Answer :=
  ifDue s.power.aonOk (smbGive (fun s => s.smbData (leBytes 4 s.fwVersion))) s

/-- SMB_READ_HK_ENTRY (0x10 + e). -/
def execSmbReadHkEntry (e : Fin 16) (s : State) : Answer :=
  ifDue s.power.aonOk (smbGive (fun s => s.smbData (s.smbHk e.val))) s

/-- SMB_READ_HK_ALERT (0x20): the bits stay. -/
def execSmbReadHkAlert (s : State) : Answer :=
  ifDue s.power.aonOk (smbGive (fun s => s.smbData (leBytes 2 s.probe.alert))) s

/-- SMBUS_TIMEOUT: the interface resets; it holds nothing from one read to the next (R456). -/
def execSmbusTimeout (s : State) : Answer := .next s

/-! ## Boundary scan -/

/-- The TAP works only while RESET_N is held low (R457). -/
def State.tapOn (s : State) : Bool := s.power.aonOk && !s.power.resetN

/-- IDCODE: the digit of the stepping in [31:28]. -/
def State.idcode (s : State) : Nat := 0x032604B7 + 2 ^ 28 * (s.sec.card.stepping % 16)

/-- A number's n bits, low bit first, as the TAP shifts them. -/
def shiftBits (n v : Nat) : List Bool := (upTo n).map (bitN v)

/-- An instruction is selected; the pins follow what it makes drive them. -/
def tapSelect (ir drives : Nat) (s : State) : State := s.modMgmt (fun m => { m with tapIr := ir, chainDrives := drives })

/-- BYPASS: its one-bit register shifts out the 0 that IEEE 1149.1 has it capture. -/
def execBypass (s : State) : Answer := ifDue s.tapOn (fun s => (tapSelect 0 0 s).emit (.tdo [false])) s

/-- IDCODE. -/
def execIdcode (s : State) : Answer := ifDue s.tapOn (fun s => (tapSelect 1 0 s).emit (.tdo (shiftBits 32 s.idcode))) s

/-- SAMPLE/PRELOAD: the chain is loaded; the pins keep their functions. -/
def execSamplePreload (chain : List Bool) (s : State) : Answer :=
  ifDue s.tapOn (fun s => (tapSelect 2 0 s).modMgmt (fun m => { m with chain := chain })) s

/-- EXTEST: the chain drives the pins, and nothing else is touched. -/
def execExtest (s : State) : Answer := ifDue s.tapOn (fun s => (tapSelect 3 1 s).emit (.pins s.mgmt.chain)) s

/-- CLAMP: the chain drives the pins, the bypass register is between TDI and TDO. -/
def execClamp (s : State) : Answer := ifDue s.tapOn (fun s => (tapSelect 4 1 s).emit (.pins s.mgmt.chain)) s

/-- HIGHZ: nothing drives the pins. -/
def execHighz (s : State) : Answer := ifDue s.tapOn (tapSelect 5 2) s

end Sys2Proof.Machine
end

