-- ==== Sys2Proof/Machine/Skillet.lean ====
section
/-! DEFINITION. Skillet: the chain over a read-out row (R176 to R183, R462), the output of an item (R161), and the queue's
resumption after an SRAM error of its core (R168, R369). -/

namespace Sys2Proof.Machine

/-- A row of FP32 words; an absent lane is none. -/
abbrev Row := List (Option Word)

/-- What a step made of a row, and the saturations it counts in SKL_SAT. -/
structure Stepped where
  row : Row
  sat : Nat

/-- The FP32 word 1.0. -/
def one32 : Word := 0x3F800000

/-! ## Elementwise functions -/

/-- Apply a function to every present element; a NaN passes unchanged (R177). -/
def mapRow (f : Nat → Word → Word × Bool) (row : Row) : Stepped :=
  let l := row.zipIdx.map (fun x => x.1.map (fun w => if (ofF32 w).isNan then (w, false) else f x.2 w))
  { row := l.map (fun y => y.map (·.1)), sat := (l.filter (fun y => y.elim false (·.2))).length }

/-- Two operations in turn, with their saturations joined. -/
def andThen (a : Word × Bool) (f : Word → Word × Bool) : Word × Bool :=
  let b := f a.1
  (b.1, a.2 || b.2)

/-- An FP16 parameter as FP32. -/
def param16 (b : Bytes) (i : Nat) : Word := toF32 (decFp fp16 (leAt b (2 * i) 2))

/-- GELU, SILU, TANH and SIGMOID (R178): free values inside −8 ≤ x < 8 (log 9). -/
def curve (func : Nat) (x : Word) : Word × Bool :=
  let v := ofF32 x
  if v.lt (fpInt (-8)) then (if func = 6 then toF32 (fpInt (-1)) else 0, false)
  else if v.lt (fpInt 8) then (Config.skilletCurve func x, false)
  else (if func ≤ 5 then x else one32, false)

/-- RELU with the slope IMM. -/
def relu (imm x : Word) : Word × Bool := if (ofF32 x).lt (fpInt 0) then mul32 imm x else (x, false)

/-! ## Reductions -/

/-- Fold over the words of a row, absent ones left out, in lane order. -/
def foldRow (f : Word → Word → Word × Bool) (row : Row) : Word × Nat :=
  row.foldl (fun a x => match x with
    | some w => let y := f a.1 w; (y.1, a.2 + b2n y.2)
    | none => a) (0, 0)

/-- The number of present elements. -/
def present (row : Row) : Nat := (row.filter Option.isSome).length

/-- The largest number of a row; none where every present element is NaN. -/
def rowMax (row : Row) : Option Word :=
  row.foldl (fun a x => match x, a with
    | some w, some m => if (ofF32 m).lt (ofF32 w) then some w else some m
    | some w, none => if (ofF32 w).isNan then none else some w
    | none, _ => a) none

/-- The exponential of R179 (log 9). -/
def expOf (t : Word) : Word :=
  if (ofF32 t).lt (fpInt (-16)) then 0 else if (ofF32 t).isZero then one32 else Config.skilletCurve 0x40 t

/-- SOFTMAX (R179). -/
def softmax (row : Row) : Stepped :=
  match rowMax row with
  | some m =>
    let e := row.map (fun x => x.map (fun w => if (ofF32 w).isNan then w else expOf (sub32 w m).1))
    let sum := foldRow (fun a w => if (ofF32 w).isNan then (a, false) else add32 a w) e
    let r := mapRow (fun _ w => div32 w sum.1) e
    { r with sat := r.sat + sum.2 }
  | none => { row := row, sat := 0 }

/-- The denominator of a norm: the root of the mean square and ε; free where the sum is negative (log 9). -/
def normRoot (mean eps : Word) : Word :=
  let v := (add32 mean eps).1
  if (ofF32 v).lt (fpInt 0) then Config.rootNegative v else root32 v

/-- LAYER_NORM and RMS_NORM (R180); b holds γ and, for LAYER_NORM, β behind it. -/
def norm (layer perCol : Bool) (eps : Word) (b : Bytes) (row : Row) : Stepped :=
  let n := present row
  if n = 0 then { row := row, sat := 0 }
  else
    let cnt := toF32 (fpInt n)
    let vec := if perCol then row.length else 1
    let mu := if layer then (div32 (foldRow add32 row).1 cnt).1 else 0
    let ss := foldRow (fun a w => let d := (sub32 w mu).1; andThen (mul32 d d) (add32 a)) row
    let root := normRoot (div32 ss.1 cnt).1 eps
    let out := row.zipIdx.map (fun x => x.1.map (fun w =>
      let i := if perCol then x.2 else 0
      let q := if (ofF32 root).isZero then ((0 : Word), false) else div32 (sub32 w mu).1 root
      let g := andThen q (fun y => mul32 y (param16 b i))
      if layer then andThen g (fun y => add32 y (param16 b (vec + i))) else g))
    { row := out.map (fun y => y.map (·.1)), sat := ss.2 + (out.filter (fun y => y.elim false (·.2))).length }

/-! ## DOT (R183) -/

/-- An element of A as an integer, saturated to INT32. -/
def dotInt (x : Option Word) : Int × Bool := x.elim (0, false) (fun w => (ofF32 w).toInt 32)

/-- Element i of B. -/
def dotB (fmt : Nat) (b : Bytes) (i : Nat) : Nat := leAt b (i * fmtSize fmt) (fmtSize fmt)

/-- One element of the product. -/
def dotCell (p : DotParam) (b : Bytes) (row : Row) (i j : Nat) : Word × Nat :=
  let ks := upTo p.d
  let a := fun (k : Nat) => (row[i * p.d + k]?).getD none
  if p.fmt = 0 then
    let s := ks.foldl (fun acc k => acc + (dotInt (a k)).1 * sx 8 (dotB 0 b (k * p.n + j))) (0 : Int)
    let c := clampI s (-2147483648) 2147483647
    (toF32 (fpInt c), b2n (decide (c ≠ s)))
  else
    ks.foldl (fun acc k =>
      let y := andThen (mul32 ((a k).getD 0) (toF32 (element p.fmt (dotB p.fmt b (k * p.n + j))))) (add32 acc.1)
      (y.1, acc.2 + b2n y.2)) ((0 : Word), 0)

/-- The product as the new row. -/
def dot (p : DotParam) (b : Bytes) (row : Row) : Stepped :=
  let cells := (upTo (p.m * p.n)).map (fun i => dotCell p b row (i / p.n) (i % p.n))
  let ints := if p.fmt = 0 then ((row.take (p.m * p.d)).filter (fun x => (dotInt x).2)).length else 0
  { row := cells.map (fun c => some c.1), sat := ints + cells.foldl (fun a c => a + c.2) 0 }

/-! ## One step of the chain -/

/-- The bytes of a step's parameters: none beyond the part's activation range (R462). -/
def State.stepParam (s : State) (p : Part) (q off n : Nat) : Option Bytes :=
  let a := off + p.bank q
  if p.ownBytes q a n then some (s.getAct p.core a n) else none

/-- What a step reads, in bytes. -/
def paramBytes (k : SkStep) (len : Nat) : Nat :=
  let v := if k.perColumn then len else 1
  match k.func with
  | 0x01 => 8
  | 0x02 => 4 * v
  | 0x09 => 4 * v
  | 0x0A => 2 * v
  | 0x0D => 8
  | 0x0E => 2 * len
  | _ => 0

/-- A step that leaves a row: the row, or none for a run-time parameter error (R462); with the MACs of a DOT. REQUANT, TOP_K and
ARGMAX leave the row to the output. -/
def State.runStep (s : State) (p : Part) (q : Nat) (k : SkStep) (row : Row) : Option (Stepped × Nat) :=
  match s.stepParam p q k.param (paramBytes k row.length) with
  | none => none
  | some b =>
    let imm := toF32 (decFp fp16 k.imm)
    let same : Stepped := { row := row, sat := 0 }
    let col := fun (i : Nat) => if k.perColumn then i else 0
    let vec := if k.perColumn then row.length else 1
    match k.func with
    | 0x02 => some (mapRow (fun i w => andThen (mul32 (param16 b (col i)) w) (fun y => add32 y (param16 b (vec + col i)))) row, 0)
    | 0x03 => some (mapRow (fun _ w => relu imm w) row, 0)
    | 0x04 => some (mapRow (fun _ w => curve 4 w) row, 0)
    | 0x05 => some (mapRow (fun _ w => curve 5 w) row, 0)
    | 0x06 => some (mapRow (fun _ w => curve 6 w) row, 0)
    | 0x07 => some (mapRow (fun _ w => curve 7 w) row, 0)
    | 0x08 => some (softmax row, 0)
    | 0x09 => some (norm true k.perColumn imm b row, 0)
    | 0x0A => some (norm false k.perColumn imm b row, 0)
    | 0x0D =>
      match dotParam b row.length (p.actBase) p.actBytes with
      | some d => (s.stepParam p q d.off (d.d * d.n * fmtSize d.fmt)).map (fun y => (dot d y row, d.m * d.d * d.n))
      | none => none
    | 0x0E => some (mapRow (fun i w => add32 w (param16 b i)) row, 0)
    | _ => some (same, 0)

/-! ## The output of a chain -/

/-- What the last step writes: its bytes, the conversions that saturated, the clamps of REQUANT, and the top-1 index and value
that trigger rules test (R240). -/
structure Output where
  data : Bytes
  sat : Nat
  clamps : Nat
  raised : Nat
  nonfin : Nat
  top1 : Option (Nat × Word)

/-- One element in an output format; an absent lane is written as 0 (R176). -/
def outElem (fmt : Nat) (x : Option Word) : Bytes × Bool :=
  let r := x.elim (0, false) (outField fmt)
  (leBytes (fmtSize fmt) r.1, r.2)

/-- A row in an output format. -/
def outRow (fmt : Nat) (row : Row) : Output :=
  let l := row.map (outElem fmt)
  { data := l.flatMap (·.1), sat := (l.filter (·.2)).length, clamps := 0, raised := 0, nonfin := 0, top1 := none }

/-- Whether an element ranks above another: largest first, NaN below every number, equal values by index (R182). -/
def ranksAbove (a b : Nat × Word) : Bool :=
  let x := ofF32 a.2
  let y := ofF32 b.2
  match x.isNan, y.isNan with
  | true, true => false
  | true, false => false
  | false, true => true
  | false, false => y.lt x

/-- The best element of a list. -/
def best (l : List (Nat × Word)) : Option (Nat × Word) :=
  l.foldl (fun a x => match a with
    | some y => if ranksAbove x y then some x else some y
    | none => some x) none

/-- The first k elements in rank order, missing ones as index 0xFFFF and value 0. -/
def topK (k : Nat) (l : List (Nat × Word)) : List (Nat × Word) :=
  match k with
  | 0 => []
  | m + 1 =>
    match best l with
    | some x => x :: topK m (l.filter (fun y => y.1 ≠ x.1))
    | none => (0xFFFF, 0) :: topK m l

/-- The value an output field stands for, as FP32 (R240). -/
def fieldValue (fmt w : Nat) : Word := toF32 (element fmt w)

/-- TOP_K and ARGMAX (R182). -/
def outTop (argmax : Bool) (fmt k : Nat) (row : Row) : Output :=
  let l := topK k (row.zipIdx.filterMap (fun x => x.1.map (fun w => (x.2, w))))
  let f := l.map (fun x => outField fmt x.2)
  let vals := f.flatMap (fun x => leBytes (fmtSize fmt) x.1)
  let idx := l.flatMap (fun x => leBytes 2 x.1)
  { data := if argmax then idx ++ vals else vals ++ idx, sat := (f.filter (·.2)).length, clamps := 0, raised := 0, nonfin := 0,
    top1 := (l.head?).map (fun x => (x.1, fieldValue fmt ((f.headD (0, false)).1))) }

/-- The rows of REQUANT in groups of g. -/
def groupsOf (n g : Nat) (row : Row) : List Row :=
  match n with
  | 0 => []
  | m + 1 => row.take g :: groupsOf m g (row.drop g)

/-- REQUANT (R181): E code bytes, the scale words, and under a dynamic zero point the zero points. A row that is not E elements
long is cut, or ends in absent ones (log 9). -/
def outRequant (l : Layer) (p : RqParam) (row0 : Row) : Output :=
  let e := 512 * l.nBlocks
  let row := row0.take e ++ List.replicate (e - row0.length) none
  let gs := groupsOf (e / p.g) p.g row
  let ly := { l with actBits8 := p.a8, zpMode := p.zpMode, staticZp := p.zp }
  let ex := gs.map (fun r => extremes (r.filterMap (fun x => x.map ofF32)))
  let sc := freshScales ly (ex.map (fun x => (p.signed, x.1, x.2)))
  let codes := (gs.zip sc).flatMap (fun x => x.1.map (fun v =>
    v.elim ({ code := x.2.2.1, hi := 0, lo := 0, sub := 0, nonfin := 0 } : Coded)
      (fun w => codeOf p.a8 p.signed x.2.2.1 x.2.1 (ofF32 w))))
  { data := codes.map (fun c => byte (field 8 c.code)) ++ sc.flatMap (fun x => leBytes 2 x.1.word) ++
      (if p.zpMode = 2 then sc.map (fun x => byte x.2.1) else []),
    sat := 0, clamps := codes.foldl (fun a c => a + c.hi + c.lo) 0, raised := (sc.filter (fun x => x.2.2)).length,
    nonfin := codes.foldl (fun a c => a + c.nonfin) 0, top1 := none }

/-- The output of the last step of a chain; none for a run-time parameter error (R462). -/
def State.lastOutput (s : State) (p : Part) (q : Nat) (l : Layer) (k : SkStep) (row : Row) : Option Output :=
  match k.func with
  | 0x01 => (s.stepParam p q k.param 8).bind (fun b => (rqParam b).map (fun r => outRequant l r row))
  | 0x0B => some (outTop false k.outFormat (k.kM1 + 1) row)
  | 0x0C => some (outTop true k.outFormat 1 row)
  | _ => some (outRow k.outFormat row)

/-- The golden block of an item (Table 11.7): EXP_MIN, the column count and T_j of every column. -/
def goldenBlock (l : Layer) (g : Option (Int × Tbl Int)) : List DWord :=
  match g with
  | some (e, t) =>
    let n := 512 * l.nBlocks
    d64 (field 8 e + 65536 * n) :: (upTo n).map (fun j => d64 (field 64 (tget t j 0)))
  | none => []

/-- Cut bytes into messages of at most 4,096 data bytes with their offsets (Table 6.6). -/
def actMessages (off : Nat) (b : Bytes) : List (Nat × Bytes) :=
  (pieces (ceilDiv b.length 4096) 4096 b).zipIdx.map (fun x => (off + 4096 * x.2, x.1))

/-- Write an item's output where OUT_TARGET sends it (Table 6.4, R161, R305); none where it leaves the part's activation range
(R462). -/
def sendOut (core q : Nat) (h : Head) (l : Layer) (k : SkStep) (ro : Readout) (o : Output) (s : State) : Option State :=
  let off := l.outBase + ro.item * outStep l
  let toRecord := fun (t : State) => formResult h.v.run k.outFormat ro.item o.data (goldenBlock l ro.golden) o.top1 t
  match l.outTarget with
  | 0 =>
    let a := off + h.part.bank q
    if h.part.ownBytes q a o.data.length then
      let s1 := putAct core a o.data s
      some (if l.toFunnel then toRecord s1 else s1)
    else none
  | 1 =>
    match h.run.kernel.parts.findIdx? (fun p => p.core == l.homeCore) with
    | some i =>
      some (each (actMessages off o.data) (fun m t =>
        let flits := 1 + ceilDiv m.2.length 64
        if l.homeCore = core then actTake core h.v.ctx i m.1 m.2 t
        else sendLadle { src := core, dst := l.homeCore, queue := q, body := .act h.v.ctx i m.1 m.2 } flits t) s)
    | none => some s
  | 2 => some (toRecord s)
  | _ => some s

/-- The last step of a chain: the item leaves, and the queue takes out what else can leave (R161, R176). -/
def finishItem (core q : Nat) (h : Head) (l : Layer) (x : Loop) (k : SkStep) (ro : Readout) (o : Output) (s : State) : State :=
  let c := fun (i n : Nat) (t : State) => count (coreCtr core i) n t
  let s1 := c 14 o.raised (c 13 o.nonfin (c 31 o.sat s))
  match sendOut core q h l k ro o s1 with
  | some s2 =>
    let s3 := addSat core q o.clamps (s2.modQueue core q (fun v => { v with
      readout := none, loop := some { x with out := x.out ++ [ro.item] }, progressClk := s.clk }))
    advance 65536 core q s3
  | none => runParam core q k.func s

/-- One Skillet step on the row buffer (R176). -/
def skStep (core q : Nat) (h : Head) (l : Layer) (x : Loop) (k : SkStep) (ro : Readout) (s : State) : State :=
  let s0 := count (coreCtr core 30) 1 s
  match s.runStep h.part q k ro.row with
  | none => runParam core q k.func s0
  | some (st, macs) =>
    let s1 := count (coreCtr core 31) st.sat (count (coreCtr core 32) macs s0)
    if ro.index + 1 < l.chain.length then
      s1.setQueue core q { h.v with readout := some { ro with row := st.row, index := ro.index + 1 }, progressClk := s.clk }
    else
      match s.lastOutput h.part q l k st.row with
      | some o => finishItem core q h l x k ro o s1
      | none => runParam core q k.func s1

/-- Whether a step of a chain may run: under GOLDEN the last waits for Tongs (R186); a record waits for an attempt that may
still be discarded (R111, log 24) and for the reservation of the run's record before it (R319). -/
def State.skReady (s : State) (h : Head) (l : Layer) (x : Loop) (ro : Readout) : Bool :=
  let last := decide (l.chain.length ≤ ro.index + 1)
  let record := l.outTarget == 2 || l.toFunnel
  !last || ((!l.golden || ro.golden.isSome) && (!record || ((!x.held || l.useWork) &&
    !(s.funnel h.ctx.part).waiting.any (fun k => k.kind == 1 && k.run == some h.v.run))))

/-- SKILLET_STEP: the next step of a queue's read-out row (R176). -/
def execSkilletStep (core : Fin 32) (queue : Fin 4) (s : State) : Answer :=
  match s.head? core.val queue.val with
  | some h =>
    match h.step, h.v.loop, h.v.readout with
    | .layer l, some x, some ro =>
      match l.chain[ro.index]? with
      | some k => ifDue (s.coresRun && s.skReady h l x ro) (skStep core.val queue.val h l x k ro) s
      | none => .next s
    | _, _, _ => .next s
  | none => .next s

/-! ## Core SRAM errors (R168, R369) -/

/-- Take a queue's operations out of its core's tiles, joins and Tongs; those committed early stay for their checks. -/
def dropOps (core rid q : Nat) (s : State) : State :=
  let kept := (s.core core).joins.filter (fun j => j.committed.isSome)
  let mine := fun (o : TileOp) => o.tag.run == rid && o.queue == q && !kept.any (fun j => j.isOf o)
  let s1 := { s with tiles := s.tiles.map (fun (e : Nat × Tile) =>
    if e.1 / 33 = core then (e.1, { e.2 with
      inFlight := e.2.inFlight.filter (fun o => !mine o),
      running := if e.2.running.elim false (fun r => mine r.op) then none else e.2.running })
    else e) }
  s1.modCore core (fun k => { k with
    joins := k.joins.filter (fun j => !mine j.op),
    tongs := k.tongs.filter (fun t => match t with
      | .dispute o _ _ => !mine o
      | .assured o _ => !mine o
      | .golden g _ => g ≠ q) })

/-- Forget that an item of a step completed: its row was lost with the buffer. -/
def forgetItem (core rid step b : Nat) (l : Layer) (s : State) : State :=
  let gone := (upTo l.nBlocks).map (fun n => 32 * b + n)
  s.modCore core (fun k => { k with
    runs := tmod k.runs rid [] (fun m => m.filter (fun e => !(e.1 == step && gone.contains e.2))) })

/-- The queue runs its present claim or step again (R168): completed operations are discarded by tag, an unanswered claim is
sent again with its own sequence number (R167). -/
def resumeQueue (core q : Nat) (h : Head) (s : State) : State :=
  let s1 := dropOps core h.v.run q s
  let again := h.v.loop.map (fun x => { x with issued := 0, attempt := x.attempt + 1 })
  let s2 := s1.modQueue core q (fun v => { v with
    resumptions := v.resumptions + 1, readout := none, progressClk := s.clk, loop := again })
  let s3 := match h.v.readout, h.step with
    | some ro, .layer l => forgetItem core h.v.run h.v.step ro.item l s2
    | _, _ => s2
  let owes := h.v.loop.elim false (·.claiming) || h.v.stall == .work
  let mine := fun (m : ClaimMsg) => m.core == core && m.queue == q
  match owes, s3.flows.claims.find? mine with
  | true, some m => s3.modFlows (fun f => { f with claims := f.claims ++ [{ m with reply := none }] })
  | _, _ => s3

/-- A queue whose step fails after its second resumption abandons its run: a flow's window yields a CANCELLED record, KRN_SUBMIT
ends with CHECK_FAIL (R369). -/
def giveUp (core q : Nat) (h : Head) (s : State) : State :=
  let s1 := if h.ctx.isCmd || h.run.status.isSome then s else formRun h.v.run 4 [0] s
  abandonPart core q stCheckFail s1

/-- CORE_SRAM: the fault is attributed to the core, and the queue resumes, at most twice in one step (R168, R369). -/
def execCoreSram (core : Fin 32) (queue : Fin 4) (array : BitVec 4) (address : BitVec 24) (s : State) : Answer :=
  ifDue s.coresRun (fun s =>
    let w := match s.queue? core.val queue.val with
      | some v => (match s.ctx? v.ctx with
        | some c => if c.isCmd then ({ opcode := 0x300, flow := v.ctx, tag := c.tag.toNat } : Work)
                    else { opcode := 0xFFFF, flow := v.ctx, tag := 0 }
        | none => noWork)
      | none => noWork
    let twice := (s.queue? core.val queue.val).elim false (fun v => decide (2 ≤ v.resumptions))
    let s1 := attribute_ (uCore core.val) 9 (if twice then 2 else 1) w (address.toNat + 2 ^ 24 * array.toNat) false false s
    match s1.head? core.val queue.val with
    | some h => if twice then giveUp core.val queue.val h s1 else resumeQueue core.val queue.val h s1
    | none => s1) s

end Sys2Proof.Machine
end

