-- ==== Sys2Proof/Machine/Dispatch.lean ====
section
/-! DEFINITION. One arm per command: exec sends each to its meaning. -/

namespace Sys2Proof.Machine

/-- The effect of a command on everything but the queue in front of it. -/
def exec (i : Instr) (s : State) : Host.Outcome State Fault Refusal :=
  match i with
  | .coldPowerOn => Sys2Proof.Machine.execColdPowerOn s
  | .resetNAssert => Sys2Proof.Machine.execResetNAssert s
  | .resetNRelease => Sys2Proof.Machine.execResetNRelease s
  | .startupReady => Sys2Proof.Machine.execStartupReady s
  | .fwFallback readyNotReached => Sys2Proof.Machine.execFwFallback readyNotReached s
  | .pwrFailNAssert => Sys2Proof.Machine.execPwrFailNAssert s
  | .crockSaveDone => Sys2Proof.Machine.execCrockSaveDone s
  | .pciePerstNAssert => Sys2Proof.Machine.execPciePerstNAssert s
  | .flrVf vf => Sys2Proof.Machine.execFlrVf vf s
  | .flrPf => Sys2Proof.Machine.execFlrPf s
  | .refclkLost => Sys2Proof.Machine.execRefclkLost s
  | .refclkRestored => Sys2Proof.Machine.execRefclkRestored s
  | .powerMeasure tenMilliwatt => Sys2Proof.Machine.execPowerMeasure tenMilliwatt s
  | .fastLimiter tenMilliwatt => Sys2Proof.Machine.execFastLimiter tenMilliwatt s
  | .thermalSample tj => Sys2Proof.Machine.execThermalSample tj s
  | .powerTargetActive fn => Sys2Proof.Machine.execPowerTargetActive fn s
  | .powerTargetIdle fn => Sys2Proof.Machine.execPowerTargetIdle fn s
  | .powerTargetArrayRetain fn => Sys2Proof.Machine.execPowerTargetArrayRetain fn s
  | .powerTargetStandby fn => Sys2Proof.Machine.execPowerTargetStandby fn s
  | .coreQuiesce fn core => Sys2Proof.Machine.execCoreQuiesce fn core s
  | .coreUnquiesce fn core => Sys2Proof.Machine.execCoreUnquiesce fn core s
  | .tbArm fn => Sys2Proof.Machine.execTbArm fn s
  | .tbStop fn => Sys2Proof.Machine.execTbStop fn s
  | .sysrefEdge marginal => Sys2Proof.Machine.execSysrefEdge marginal s
  | .tbTickLoRead fn => Sys2Proof.Machine.execTbTickLoRead fn s
  | .trigInEdge pin rising short ps => Sys2Proof.Machine.execTrigInEdge pin rising short ps s
  | .trigOutAssert pin => Sys2Proof.Machine.execTrigOutAssert pin s
  | .tickPtpCapture => Sys2Proof.Machine.execTickPtpCapture s
  | .laneSyncLock lane => Sys2Proof.Machine.execLaneSyncLock lane s
  | .laneLockLoss lane => Sys2Proof.Machine.execLaneLockLoss lane s
  | .sampleArrival link k0 crcBad frames => Sys2Proof.Machine.execSampleArrival link k0 crcBad frames s
  | .linkDownDrop flow => Sys2Proof.Machine.execLinkDownDrop flow s
  | .pushWindowWrite fn offset data => Sys2Proof.Machine.execPushWindowWrite fn offset data s
  | .pullRingPoll fn lane => Sys2Proof.Machine.execPullRingPoll fn lane s
  | .packetTake fn lane => Sys2Proof.Machine.execPacketTake fn lane s
  | .atTickDue => Sys2Proof.Machine.execAtTickDue s
  | .fenceRelease fn lane => Sys2Proof.Machine.execFenceRelease fn lane s
  | .replyWrite fn ring => Sys2Proof.Machine.execReplyWrite fn ring s
  | .msixHoldoffEnd fn vector => Sys2Proof.Machine.execMsixHoldoffEnd fn vector s
  | .laneEnable fn lane => Sys2Proof.Machine.execLaneEnable fn lane s
  | .laneDisable fn lane => Sys2Proof.Machine.execLaneDisable fn lane s
  | .replyEnable fn ring => Sys2Proof.Machine.execReplyEnable fn ring s
  | .ptReplyRead fn ring value => Sys2Proof.Machine.execPtReplyRead fn ring value s
  | .registerWrite fn offset wide value => Sys2Proof.Machine.execRegisterWrite fn offset wide value s
  | .nop h w => Sys2Proof.Machine.execNop h w s
  | .getCaps h w => Sys2Proof.Machine.execGetCaps h w s
  | .setLevel h w => Sys2Proof.Machine.execSetLevel h w s
  | .commit h w => Sys2Proof.Machine.execCommit h w s
  | .commitTick part => Sys2Proof.Machine.execCommitTick part s
  | .cmdCancel h w => Sys2Proof.Machine.execCmdCancel h w s
  | .stageDiscard h w => Sys2Proof.Machine.execStageDiscard h w s
  | .modelLoad h w => Sys2Proof.Machine.execModelLoad h w s
  | .tileProgram h w => Sys2Proof.Machine.execTileProgram h w s
  | .tileVerify h w => Sys2Proof.Machine.execTileVerify h w s
  | .modelCommit h w => Sys2Proof.Machine.execModelCommit h w s
  | .modelRetire h w => Sys2Proof.Machine.execModelRetire h w s
  | .tileConfig h w => Sys2Proof.Machine.execTileConfig h w s
  | .flowOpen h w => Sys2Proof.Machine.execFlowOpen h w s
  | .flowBind h w => Sys2Proof.Machine.execFlowBind h w s
  | .flowClose h w => Sys2Proof.Machine.execFlowClose h w s
  | .flowClosed flow => Sys2Proof.Machine.execFlowClosed flow s
  | .flowSnapshot h w => Sys2Proof.Machine.execFlowSnapshot h w s
  | .krnSubmit h w => Sys2Proof.Machine.execKrnSubmit h w s
  | .krnDefine h w => Sys2Proof.Machine.execKrnDefine h w s
  | .krnRelease h w => Sys2Proof.Machine.execKrnRelease h w s
  | .syncRead h w => Sys2Proof.Machine.execSyncRead h w s
  | .syncSet h w => Sys2Proof.Machine.execSyncSet h w s
  | .trigPulse h w => Sys2Proof.Machine.execTrigPulse h w s
  | .ruleSet h w => Sys2Proof.Machine.execRuleSet h w s
  | .ruleClear h w => Sys2Proof.Machine.execRuleClear h w s
  | .tickRead h w => Sys2Proof.Machine.execTickRead h w s
  | .igChanSet h w => Sys2Proof.Machine.execIgChanSet h w s
  | .igDecSet h w => Sys2Proof.Machine.execIgDecSet h w s
  | .igCoefLoad h w => Sys2Proof.Machine.execIgCoefLoad h w s
  | .maintStart h w => Sys2Proof.Machine.execMaintStart h w s
  | .selftest h w => Sys2Proof.Machine.execSelftest h w s
  | .recal h w => Sys2Proof.Machine.execRecal h w s
  | .hkSeq h w => Sys2Proof.Machine.execHkSeq h w s
  | .hkCalZero h w => Sys2Proof.Machine.execHkCalZero h w s
  | .hkCalFull h w => Sys2Proof.Machine.execHkCalFull h w s
  | .attest h w => Sys2Proof.Machine.execAttest h w s
  | .fwStage h w => Sys2Proof.Machine.execFwStage h w s
  | .fwActivate h w => Sys2Proof.Machine.execFwActivate h w s
  | .faultRead h w => Sys2Proof.Machine.execFaultRead h w s
  | .faultExport h w => Sys2Proof.Machine.execFaultExport h w s
  | .unitRetire h w => Sys2Proof.Machine.execUnitRetire h w s
  | .unitRestore h w => Sys2Proof.Machine.execUnitRestore h w s
  | .netPortSet h w => Sys2Proof.Machine.execNetPortSet h w s
  | .netPeerSet h w => Sys2Proof.Machine.execNetPeerSet h w s
  | .netStatus h w => Sys2Proof.Machine.execNetStatus h w s
  | .slicerCycle part => Sys2Proof.Machine.execSlicerCycle part s
  | .overloadClear part => Sys2Proof.Machine.execOverloadClear part s
  | .flowEntryWatchdog part line => Sys2Proof.Machine.execFlowEntryWatchdog part line s
  | .layer core queue => Sys2Proof.Machine.execLayer core queue s
  | .signal core queue => Sys2Proof.Machine.execSignal core queue s
  | .wait core queue => Sys2Proof.Machine.execWait core queue s
  | .lidArrive core queue => Sys2Proof.Machine.execLidArrive core queue s
  | .fence core queue => Sys2Proof.Machine.execFence core queue s
  | .workReset core queue => Sys2Proof.Machine.execWorkReset core queue s
  | .signalArrival src dst fate => Sys2Proof.Machine.execSignalArrival src dst fate s
  | .stockpotSignalApply core => Sys2Proof.Machine.execStockpotSignalApply core s
  | .lidEdge line => Sys2Proof.Machine.execLidEdge line s
  | .fenceAck core queue => Sys2Proof.Machine.execFenceAck core queue s
  | .workClaim core queue => Sys2Proof.Machine.execWorkClaim core queue s
  | .workClaimReply core queue => Sys2Proof.Machine.execWorkClaimReply core queue s
  | .queueWatchdog core queue => Sys2Proof.Machine.execQueueWatchdog core queue s
  | .scoopCodes core queue => Sys2Proof.Machine.execScoopCodes core queue s
  | .tileOpAdmit core queue => Sys2Proof.Machine.execTileOpAdmit core queue s
  | .phaseStart core tile => Sys2Proof.Machine.execPhaseStart core tile s
  | .phaseLatch core tile deviation => Sys2Proof.Machine.execPhaseLatch core tile deviation s
  | .tongsDone core first second => Sys2Proof.Machine.execTongsDone core first second s
  | .skilletStep core queue => Sys2Proof.Machine.execSkilletStep core queue s
  | .psumArrival src dst fate => Sys2Proof.Machine.execPsumArrival src dst fate s
  | .activationArrival src dst fate => Sys2Proof.Machine.execActivationArrival src dst fate s
  | .sieveBatchEnd core tile block => Sys2Proof.Machine.execSieveBatchEnd core tile block s
  | .blockScan core tile readings => Sys2Proof.Machine.execBlockScan core tile readings s
  | .checksDone part => Sys2Proof.Machine.execChecksDone part s
  | .funnelReserve part => Sys2Proof.Machine.execFunnelReserve part s
  | .funnelDmaBurst part => Sys2Proof.Machine.execFunnelDmaBurst part s
  | .ptFnRead fn part value => Sys2Proof.Machine.execPtFnRead fn part value s
  | .ptFnPio fn part first bytes => Sys2Proof.Machine.execPtFnPio fn part first bytes s
  | .refSampleDue core tile => Sys2Proof.Machine.execRefSampleDue core tile s
  | .refSampleDone core tile r => Sys2Proof.Machine.execRefSampleDone core tile r s
  | .gainFeedforward core temp => Sys2Proof.Machine.execGainFeedforward core temp s
  | .calWithhold core tile => Sys2Proof.Machine.execCalWithhold core tile s
  | .convCalDue core tile => Sys2Proof.Machine.execConvCalDue core tile s
  | .convCalDone core tile r again temp => Sys2Proof.Machine.execConvCalDone core tile r again temp s
  | .tileTestDue core tile => Sys2Proof.Machine.execTileTestDue core tile s
  | .tileTestDone core tile first second => Sys2Proof.Machine.execTileTestDone core tile first second s
  | .coreSelftestSlice core failed last => Sys2Proof.Machine.execCoreSelftestSlice core failed last s
  | .maintArbiterRun => Sys2Proof.Machine.execMaintArbiterRun s
  | .programmingStart core tile => Sys2Proof.Machine.execProgrammingStart core tile s
  | .programmingDone core tile unverified known cal r => Sys2Proof.Machine.execProgrammingDone core tile unverified known cal r s
  | .modelEraseStart core tile => Sys2Proof.Machine.execModelEraseStart core tile s
  | .tileEraseDone core tile => Sys2Proof.Machine.execTileEraseDone core tile s
  | .patrolScrub line corrected => Sys2Proof.Machine.execPatrolScrub line corrected s
  | .memUncorrectable line bothCopies => Sys2Proof.Machine.execMemUncorrectable line bothCopies s
  | .stockpotUncorr line => Sys2Proof.Machine.execStockpotUncorr line s
  | .portLinkUp port => Sys2Proof.Machine.execPortLinkUp port s
  | .helloTimer => Sys2Proof.Machine.execHelloTimer s
  | .hello m levels highest fw format serial => Sys2Proof.Machine.execHello m levels highest fw format serial s
  | .record m payload => Sys2Proof.Machine.execRecord m payload s
  | .ack m => Sys2Proof.Machine.execAck m s
  | .ringCredit m offset => Sys2Proof.Machine.execRingCredit m offset s
  | .traceRead m offset count => Sys2Proof.Machine.execTraceRead m offset count s
  | .recordResend part peer => Sys2Proof.Machine.execRecordResend part peer s
  | .arpRequest port target => Sys2Proof.Machine.execArpRequest port target s
  | .neighbourSolicitation port target => Sys2Proof.Machine.execNeighbourSolicitation port target s
  | .netRxDrop port => Sys2Proof.Machine.execNetRxDrop port s
  | .ptpSync port domain twoStep offset => Sys2Proof.Machine.execPtpSync port domain twoStep offset s
  | .ptpSyncTimeout => Sys2Proof.Machine.execPtpSyncTimeout s
  | .roceAck part peer psn => Sys2Proof.Machine.execRoceAck part peer psn s
  | .roceNak part peer psn remoteAccess => Sys2Proof.Machine.execRoceNak part peer psn remoteAccess s
  | .roceCnp part peer => Sys2Proof.Machine.execRoceCnp part peer s
  | .roceTimeout part peer => Sys2Proof.Machine.execRoceTimeout part peer s
  | .roceRateRecover part peer => Sys2Proof.Machine.execRoceRateRecover part peer s
  | .probeConversion level16 => Sys2Proof.Machine.execProbeConversion level16 s
  | .hkAlertClear fn value => Sys2Proof.Machine.execHkAlertClear fn value s
  | .tracePinSend => Sys2Proof.Machine.execTracePinSend s
  | .smbReadDevice => Sys2Proof.Machine.execSmbReadDevice s
  | .smbReadStatus => Sys2Proof.Machine.execSmbReadStatus s
  | .smbReadTjNow => Sys2Proof.Machine.execSmbReadTjNow s
  | .smbReadTjPeak => Sys2Proof.Machine.execSmbReadTjPeak s
  | .smbReadPkgPower => Sys2Proof.Machine.execSmbReadPkgPower s
  | .smbReadStepping => Sys2Proof.Machine.execSmbReadStepping s
  | .smbReadPartSerial => Sys2Proof.Machine.execSmbReadPartSerial s
  | .smbReadFwVersion => Sys2Proof.Machine.execSmbReadFwVersion s
  | .smbReadHkEntry entry => Sys2Proof.Machine.execSmbReadHkEntry entry s
  | .smbReadHkAlert => Sys2Proof.Machine.execSmbReadHkAlert s
  | .smbusTimeout => Sys2Proof.Machine.execSmbusTimeout s
  | .bypass => Sys2Proof.Machine.execBypass s
  | .idcode => Sys2Proof.Machine.execIdcode s
  | .samplePreload chain => Sys2Proof.Machine.execSamplePreload chain s
  | .extest => Sys2Proof.Machine.execExtest s
  | .clamp => Sys2Proof.Machine.execClamp s
  | .highz => Sys2Proof.Machine.execHighz s
  | .vddAonFall => Sys2Proof.Machine.execVddAonFall s
  | .pwrFailNDeassert => Sys2Proof.Machine.execPwrFailNDeassert s
  | .pciePerstNRelease => Sys2Proof.Machine.execPciePerstNRelease s
  | .portLinkDown port => Sys2Proof.Machine.execPortLinkDown port s
  | .coreSram core queue array address => Sys2Proof.Machine.execCoreSram core queue array address s
  | .mirrorUncorrectable => Sys2Proof.Machine.execMirrorUncorrectable s
  | .powerState => Sys2Proof.Machine.execPowerState s
  | .vfEnable count => Sys2Proof.Machine.execVfEnable count s
  | .busMasterEnable fn on => Sys2Proof.Machine.execBusMasterEnable fn on s
  | .announce port domain rank master => Sys2Proof.Machine.execAnnounce port domain rank master s
  | .followUp port domain offset => Sys2Proof.Machine.execFollowUp port domain offset s
  | .delayResp port domain delay => Sys2Proof.Machine.execDelayResp port domain delay s
  | .pfc port prio quanta => Sys2Proof.Machine.execPfc port prio quanta s

end Sys2Proof.Machine
end

