-- ==== Sys2Proof/Machine/Step.lean ====
section
/-! DEFINITION. One step: the command at the front of the queue, or a 4 ns period of the analogue timing
clock where nothing waits. -/

namespace Sys2Proof.Machine

/-- Take the front command and run it on the machine with the rest of the queue; with no command waiting,
one period of the 250 MHz analogue timing clock passes (log 1). -/
def step (s : State) : Host.Outcome State Fault Refusal :=
  match s.pending with
  | c :: rest => exec c { s with pending := rest }
  | [] => .next (idlePeriod s)

/-- The machine with the command the word spells put at the front of its queue; unchanged where the word
spells none. -/
def State.withFetchWord (s : State) (nbits w : Nat) : State :=
  match decodeTableWord nbits w with
  | some c => { s with pending := c :: s.pending }
  | none => s

end Sys2Proof.Machine
end

