-- ==== Sys2Proof/Safety.lean ====
section
/-! DEFINITION. What statements are said in: which groups of State a command leaves alone, that a command completes,
when a lane takes a command at once and what a reply adds, and the predicates every step is to keep. -/

namespace Sys2Proof.Safety

open Sys2Proof.Machine

/-! ## Frames -/

/-- The groups of State. -/
inductive Piece where
  | pending | clk | draw | power | crock | sec | host | pre | tiles | cores | flows | ingest | tb | funnels | running
  | waiting | net | probe | trace | counters | mgmt | pkg
deriving DecidableEq, Repr

/-- A group stands in t as it did in s. -/
def Piece.same (p : Piece) (s t : State) : Prop :=
  match p with
  | .pending => t.pending = s.pending
  | .clk => t.clk = s.clk
  | .draw => t.draw = s.draw
  | .power => t.power = s.power
  | .crock => t.crock = s.crock
  | .sec => t.sec = s.sec
  | .host => t.host = s.host
  | .pre => t.pre = s.pre
  | .tiles => t.tiles = s.tiles
  | .cores => t.cores = s.cores
  | .flows => t.flows = s.flows
  | .ingest => t.ingest = s.ingest
  | .tb => t.tb = s.tb
  | .funnels => t.funnels = s.funnels
  | .running => t.running = s.running
  | .waiting => t.waiting = s.waiting
  | .net => t.net = s.net
  | .probe => t.probe = s.probe
  | .trace => t.trace = s.trace
  | .counters => t.counters = s.counters
  | .mgmt => t.mgmt = s.mgmt
  | .pkg => t.pkg = s.pkg

/-- Every group but those listed stands in t as it did in s. -/
def SameBut (l : List Piece) (s t : State) : Prop := ∀ p, p ∉ l → p.same s t

/-! ## Completion -/

/-- The command runs to its end: it answers a next state, of which P holds. -/
def Completes (i : Instr) (s : State) (P : State → Prop) : Prop := ∃ t, exec i s = .next t ∧ P t

/-- The device serves its host (R398): READY, not halted. -/
def Serving (s : State) : Prop := s.served = true

/-! ## Commands of a lane -/

/-- The packet a row of the opcode map stands for: its opcode (Tables 10.7 to 10.9), header and payload. -/
def packetOf (i : Instr) : Option (Nat × Hdr × List Word) :=
  match i with
  | .nop h w => some (0x000, h, w)
  | .getCaps h w => some (0x001, h, w)
  | .setLevel h w => some (0x002, h, w)
  | .commit h w => some (0x003, h, w)
  | .cmdCancel h w => some (0x004, h, w)
  | .stageDiscard h w => some (0x005, h, w)
  | .modelLoad h w => some (0x100, h, w)
  | .tileProgram h w => some (0x101, h, w)
  | .tileVerify h w => some (0x102, h, w)
  | .modelCommit h w => some (0x103, h, w)
  | .modelRetire h w => some (0x104, h, w)
  | .tileConfig h w => some (0x105, h, w)
  | .flowOpen h w => some (0x200, h, w)
  | .flowBind h w => some (0x201, h, w)
  | .flowClose h w => some (0x202, h, w)
  | .flowSnapshot h w => some (0x203, h, w)
  | .krnSubmit h w => some (0x300, h, w)
  | .krnDefine h w => some (0x301, h, w)
  | .krnRelease h w => some (0x302, h, w)
  | .syncRead h w => some (0x400, h, w)
  | .syncSet h w => some (0x401, h, w)
  | .trigPulse h w => some (0x500, h, w)
  | .ruleSet h w => some (0x501, h, w)
  | .ruleClear h w => some (0x502, h, w)
  | .tickRead h w => some (0x503, h, w)
  | .igChanSet h w => some (0x600, h, w)
  | .igDecSet h w => some (0x601, h, w)
  | .igCoefLoad h w => some (0x602, h, w)
  | .maintStart h w => some (0x700, h, w)
  | .selftest h w => some (0x701, h, w)
  | .recal h w => some (0x702, h, w)
  | .hkSeq h w => some (0x800, h, w)
  | .hkCalZero h w => some (0x801, h, w)
  | .hkCalFull h w => some (0x802, h, w)
  | .attest h w => some (0x900, h, w)
  | .fwStage h w => some (0x901, h, w)
  | .fwActivate h w => some (0x902, h, w)
  | .faultRead h w => some (0xA00, h, w)
  | .faultExport h w => some (0xA01, h, w)
  | .unitRetire h w => some (0xA02, h, w)
  | .unitRestore h w => some (0xA03, h, w)
  | .netPortSet h w => some (0xB00, h, w)
  | .netPeerSet h w => some (0xB01, h, w)
  | .netStatus h w => some (0xB02, h, w)
  | _ => none

/-- A lane takes a command with this opcode, header and payload and performs it at once (R277, R278, R286, R402): its form
holds, no check fails, it has neither FENCE nor an at-tick to come, the device is Active with REFCLK running, and no command
taken before holds the next command's number. -/
def TakenAtOnce (op : Nat) (h : Hdr) (w : List Word) (s : State) : Prop :=
  WellFormed.payload w = true ∧ s.laneTakes h.fn.val h.lane.val = true ∧ s.ringOn h = true ∧
  firstFail h op w true true s = none ∧ h.fence = false ∧ h.atTick.toNat ≤ s.tick ∧ s.power.state = 0 ∧
  s.power.refclkLost = false ∧ ∀ c ∈ s.pre.cmds, c.id < s.pre.nextCmd

/-- The reply of Table 10.4 that a command gets. -/
def replyOf (h : Hdr) (op st : Nat) (payload : List Word) (s : State) : Reply :=
  { words := replyWords h op st payload s, irq := h.irq || statusIrq st, lane := h.lane.val, final := true }

/-- The machine t is u with the final reply held for the ring of the header and the command's number used up: nothing else
of u has changed but the trace. -/
def Replied (h : Hdr) (op st : Nat) (payload : List Word) (u t : State) : Prop :=
  t.host = (u.modLane h.fn.val h.queue.toNat (fun l => { l with held := l.held ++ [replyOf h op st payload u] })).host ∧
  t.pre = { u.pre with nextCmd := u.pre.nextCmd + 1 } ∧ SameBut [.host, .pre, .trace] u t

/-- The command as it stands among those taken. -/
def taken (op : Nat) (h : Hdr) (w : List Word) (s : State) : Cmd :=
  { id := s.pre.nextCmd, h := h, op := op, w := w, wait := .running, takenTick := s.tick }

/-- The machine t is u with the command still under way: nothing else of u has changed but the trace. -/
def UnderWay (op : Nat) (h : Hdr) (w : List Word) (wait : CmdWait) (s u t : State) : Prop :=
  t.pre = { u.pre with cmds := u.pre.cmds ++ [{ taken op h w s with wait := wait }], nextCmd := u.pre.nextCmd + 1 } ∧
  SameBut [.pre, .trace] u t

/-! ## What every step keeps -/

/-- Host memory has its canonical form. -/
def HostMemoryForm (s : State) : Prop := Memory.wf s.host.mem = true

/-- No command taken and not finished has the number of the next one. -/
def FreshNumbers (s : State) : Prop := ∀ c ∈ s.pre.cmds, c.id < s.pre.nextCmd

/-- Key slot k is revoked. -/
def KeyRevoked (k : Nat) (s : State) : Prop := ∃ v, s.sec.keySlots[k]? = some v ∧ v.revoked = true

end Sys2Proof.Safety
end

