-- ==== Sys2Proof/Certificates/Slice0/Obligations.lean ====
section
/-! DEFINITION. The statements for the provers: the block and its invariants, start-up and power, the timebase and pins, intake
and replies, ingest and flows, the commands of the opcode map, queues and layers, maintenance and memory, the network. -/

section

open Sys2Proof Sys2Proof.Machine Sys2Proof.Safety

/-! ## Every command and every step -/

/-- The block takes the command at the front of its queue: a step is exec of that command on the machine with the queue's
rest. -/
def Obligations.StepRunsFrontCommand : Prop :=
  ∀ (c : Instr) (rest : List Instr) (s : State), step { s with pending := c :: rest } = exec c { s with pending := rest }

/-- With no command waiting one period of the analogue timing clock passes (the model's own choice, log 1): the tick follows
REFCLK while the timebase runs (R232), the PTP clock gains 4 ns while REFCLK runs (R241), and nothing else changes. -/
def Obligations.IdlePeriodPasses : Prop :=
  ∀ s : State, s.pending = [] → ∃ t, step s = .next t ∧ t.clk = s.clk + 1 ∧
    t.tb.tick = (if s.tb.state = 2 then s.tb.tick256At ((s.clk + 1 : Nat) * 32) / 256 else s.tb.tick) ∧
    (s.power.refclkLost = true → t.tb.ptpNs = s.tb.ptpNs ∧ t.tb.ptpSec = s.tb.ptpSec) ∧
    (s.power.refclkLost = false → t.tb.ptpNs < 1000000000 →
      1000000000 * t.tb.ptpSec + t.tb.ptpNs = 1000000000 * s.tb.ptpSec + s.tb.ptpNs + 4) ∧
    t.tb = { s.tb with tick := t.tb.tick, ptpNs := t.tb.ptpNs, ptpSec := t.tb.ptpSec } ∧ SameBut [.clk, .tb] s t

/-- Every command of one form on every interface completes, and one whose operands have no form is turned away by name: exec
never refuses a command as not modelled. -/
def Obligations.OnlyIllFormedCommandsStop : Prop :=
  ∀ (c : Instr) (s : State),
    (WellFormed.check c = true → ∃ t, exec c s = .next t) ∧
    (WellFormed.check c = false → exec c s = .fault .illFormed)

/-- What reset leaves where the manual states it: start-up under way and READY 0 (R397, R460), the Crock as shipped (R460), compute
tiles Blank and TX Ready (R460), every register at the Reset column of its table, and nothing queued, taken, loaded, open or
counted; with it the predicates that every step keeps hold. -/
def Obligations.ResetState : Prop :=
  State.reset.pending = [] ∧ State.reset.power.ready = false ∧ State.reset.power.state = 0 ∧
  State.reset.crock.copyA.good = true ∧ State.reset.crock.copyA.seq = 1 ∧ State.reset.crock.copyB.good = false ∧
  State.reset.crock.mirror.lastHalt = 4 ∧ State.reset.crock.mirror.bootCount = 0 ∧
  State.reset.crock.mirror.retired = [] ∧ State.reset.crock.mirror.faults = [] ∧
  (∀ core t, t < 32 → (State.reset.tile core t).state = .blank) ∧ (∀ core, (State.reset.tile core 32).state = .ready) ∧
  (∀ off, State.reset.reg off = regDefault off) ∧ (∀ fn k, State.reset.lane fn k = Lane.start) ∧
  State.reset.pre.cmds = [] ∧ State.reset.pre.models = [] ∧ State.reset.pre.kernels = [] ∧
  (∀ n, State.reset.ctx? n = none) ∧ (∀ off, State.reset.counter off = 0) ∧ State.reset.tb.state = 0 ∧
  HostMemoryForm State.reset ∧ FreshNumbers State.reset

/-- Host memory keeps its one canonical form through every step of every command. -/
def Obligations.StepKeepsHostMemoryForm : Prop :=
  ∀ s t : State, HostMemoryForm s → step s = .next t → HostMemoryForm t

/-- No two commands under way ever have one number: the next command's number is above every number in use, after every step as
before it. -/
def Obligations.StepKeepsFreshNumbers : Prop :=
  ∀ s t : State, FreshNumbers s → step s = .next t → FreshNumbers t

/-- A revoked key slot stays revoked through every step of every command, every reset included (R411, R415). -/
def Obligations.RevokedKeysStayRevoked : Prop :=
  ∀ (k : Nat) (s t : State), KeyRevoked k s → step s = .next t → KeyRevoked k t

/-! ## Start-up, resets and power -/

/-- COLD_POWER_ON: all volatile state is lost, cells, Crock copies, fuses and host memory stay (Table 13.7), and the boot ROM
recovers the Crock by the first case of R392 that matches, with the consequences of R393. -/
def Obligations.ColdPowerOnRecoversCrock : Prop :=
  ∀ s : State, Completes .coldPowerOn s (fun t =>
    let a := s.crock.copyA
    let b := s.crock.copyB
    let load (c : CrockCopy) := { c.journal with tickReached := false, tickMax := 0 }
    let cellsKept := ∀ i, (tget t.tiles i (Tile.start i)).weights = (tget s.tiles i (Tile.start i)).weights
    let untrusted (c : CrockCopy) := (t.crock.mirror.cal = c.journal.cal.map (fun e =>
        if e.1 % 33 ≠ 32 ∧ (e.2.state = 1 ∨ e.2.state = 2 ∨ e.2.state = 3) then (e.1, { e.2 with digest := [] }) else e)) ∧
      t.power.rollback = true ∧ t.crock.mirror.stuck = c.journal.stuck ∧ t.crock.mirror.retired = c.journal.retired
    t.power.startup = .cold ∧ t.power.resetN = true ∧ t.power.ready = false ∧ t.power.halted = false ∧
    t.pre.cmds = [] ∧ t.pre.sets = [] ∧ t.pre.models = [] ∧ t.pre.kernels = [] ∧ t.pre.regs = [] ∧ t.pre.epochs = [] ∧
    t.flows = State.reset.flows ∧ t.funnels = [] ∧ t.cores = [] ∧ t.counters = [] ∧ t.tb.state = 0 ∧ t.host.lanes = [] ∧
    t.host.mem = s.host.mem ∧ t.host.out = s.host.out ∧ t.sec.keySlots = s.sec.keySlots ∧ t.sec.svn = s.sec.svn ∧
    t.sec.slotA = s.sec.slotA ∧ t.sec.slotB = s.sec.slotB ∧ t.sec.card = s.sec.card ∧ t.sec.chain = s.sec.chain ∧
    t.crock.recovered = true ∧ t.crock.save = none ∧
    (a.good = false → b.good = false → t.crock.mirror = Journal.empty 0 ∧ t.power.crockLost = true ∧
      ∀ i, i % 33 ≠ 32 → (tget t.tiles i (Tile.start i)).weights = []) ∧
    (a.good = true ∨ b.good = true → cellsKept) ∧
    (a.good = true → b.good = true → b.seq < a.seq → t.crock.mirror = load a ∧ t.crock.newest = 0) ∧
    (a.good = true → b.good = true → a.seq < b.seq → t.crock.mirror = load b ∧ t.crock.newest = 1) ∧
    (a.good = true → b.good = true → a.seq = b.seq → t.crock.mirror = load a ∧
      t.power.crockTie = decide (a.journal ≠ b.journal)) ∧
    (a.good = true → b.good = false → b.magicOk = true → b.formatOk = true → a.seq ≤ b.seq →
      untrusted a ∧ t.crock.copyB.complete = 0) ∧
    (b.good = true → a.good = false → a.magicOk = true → a.formatOk = true → b.seq ≤ a.seq →
      untrusted b ∧ t.crock.copyA.complete = 0) ∧
    (a.good = true → b.good = false → ¬ (b.magicOk = true ∧ b.formatOk = true ∧ a.seq ≤ b.seq) → t.crock.mirror = load a) ∧
    (b.good = true → a.good = false → ¬ (a.magicOk = true ∧ a.formatOk = true ∧ b.seq ≤ a.seq) → t.crock.mirror = load b))

/-- RESET_N low takes the device to the column RESET_N of Table 13.7, or from Standby to the column Standby; RESET_N high begins
start-up with the pending firmware slot tried first (R397, R399, R414), starts the PTP clock at 0 (R241) and ends the TAP's hold on the pins (R457). -/
def Obligations.ResetPinResetsAndStarts : Prop :=
  (∀ s : State, s.power.aonOk = true → s.power.resetN = true → Completes .resetNAssert s (fun t =>
    t.power.resetN = false ∧ t.power.ready = false ∧ t.power.halted = false ∧ t.power.state = 0 ∧
    t.crock.copyA = s.crock.copyA ∧ t.crock.copyB = s.crock.copyB ∧ t.crock.save = s.crock.save ∧
    t.crock.mirror.retired = s.crock.mirror.retired ∧ t.crock.mirror.faults = s.crock.mirror.faults ∧
    t.crock.mirror.stuck = s.crock.mirror.stuck ∧ t.crock.mirror.coreState = s.crock.mirror.coreState ∧
    t.host.mem = s.host.mem ∧ t.sec.keySlots = s.sec.keySlots ∧ t.sec.svn = s.sec.svn ∧
    (∀ i, (tget t.tiles i (Tile.start i)).weights = (tget s.tiles i (Tile.start i)).weights) ∧
    t.flows = State.reset.flows ∧ t.cores = [] ∧ t.funnels = [] ∧ t.counters = [] ∧ t.tb.state = 0 ∧ t.tb.ptpSec = 0 ∧
    t.tb.ptpNs = 0 ∧ t.host.lanes = [] ∧ t.host.level = [] ∧ t.pre.cmds = [] ∧ t.pre.sets = [] ∧ t.pre.pending = [] ∧
    (s.power.state ≠ 3 → t.power.startup = .reset ∧ t.pre = State.reset.pre ∧ t.pkg = State.reset.pkg) ∧
    (s.power.state = 3 → t.power.startup = .standby ∧ t.pre.models = s.pre.models ∧ t.pre.kernels = s.pre.kernels ∧
      t.pre.epochs = s.pre.epochs ∧ t.pre.rules = s.pre.rules ∧ t.pkg = s.pkg ∧ t.target = 0))) ∧
  (∀ s : State, s.power.aonOk = true → s.power.resetN = false → Completes .resetNRelease s (fun t =>
    t.power = { s.power with resetN := true } ∧ t.mgmt = { s.mgmt with chainDrives := 0, tapIr := 1 } ∧
    t.sec = { s.sec with tried := if s.sec.activatePending then some (1 - s.sec.active) else none } ∧
    t.tb = { s.tb with ptpSec := 0, ptpNs := 0 } ∧ SameBut [.power, .mgmt, .sec, .tb] s t))

/-- The recorded state of a tile decides its live state at the end of start-up (R147): what STARTUP_READY leaves. -/
def Obligations.StartupGivesTilesTheirStates : Prop :=
  ∀ s : State, s.power.startup ≠ .none → s.power.resetN = true → s.power.pwrFailN = true → s.power.aonOk = true →
    s.crock.save = none → s.sec.boots (s.sec.tried.getD s.sec.active) = true → Completes .startupReady s (fun t =>
    t.power.ready = true ∧ t.power.startup = .none ∧ t.power.pendingEvents = [] ∧
    t.sec.active = s.sec.tried.getD s.sec.active ∧ t.sec.tried = none ∧ t.sec.activatePending = false ∧
    t.crock.mirror.bootCount = (s.crock.mirror.bootCount + 1) % 2 ^ 32 ∧ t.pkg.trained = true ∧
    t.host.configServed = s.power.perstN ∧
    (∀ k, KeyRevoked k s → KeyRevoked k t) ∧
    ∀ i, i < 1056 →
      let r := tget s.crock.mirror.cal i (CalRec.start i)
      let v := tget s.tiles i (Tile.start i)
      let w := tget t.tiles i (Tile.start i)
      let here := v.shadow = true ∨ i % 33 = 32
      (r.state = 0 → w.state = .blank ∧ w.weights = []) ∧ (r.state = 5 → w.state = .blank ∧ w.weights = []) ∧
      (r.state = 4 → w.state = .retired) ∧
      (r.state = 1 → here → w.state = .held) ∧ (r.state = 2 → here → w.state = .ready) ∧
      (r.state = 3 → here → w.state = .suspect) ∧
      (r.state = 1 ∨ r.state = 2 ∨ r.state = 3 → ¬ here → w.state = .awaiting) ∧
      (r.state ≠ 0 → r.state ≠ 5 → w.weights = v.weights))

/-- FW_FALLBACK: where the tried slot does not boot, or its firmware does not reach READY, the other slot is booted and
FW_FALLBACK is raised once READY is set (R414). -/
def Obligations.FallbackBootsOtherSlot : Prop :=
  ∀ (b : Bool) (s : State) (k : Nat), s.sec.tried = some k → s.power.startup ≠ .none → s.power.resetN = true →
    s.sec.boots k = b → Completes (.fwFallback b) s (fun t =>
    t.sec = { s.sec with tried := none, activatePending := false } ∧
    t.power = { s.power with fwFallback := true, pendingEvents := s.power.pendingEvents ++
      [{ code := 0x4C, severity := 2, fault := noFault, p0 := k, p1 := b2n b, p2 := 0, p3 := 0 }] } ∧
    SameBut [.sec, .power] s t)

/-- Power failure (R390, R395, R396): PWR_FAIL_N low halts the device and begins a save of the mirrors into the copy that does not
hold the newest good save, unless in Standby, before recovery or halted; the save ends with a copy that is good; a VDD_AON that
falls first leaves that copy not good; PWR_FAIL_N high changes no more than the pin. -/
def Obligations.PowerFailureSavesTheMirrors : Prop :=
  (∀ s : State, s.power.aonOk = true → s.power.pwrFailN = true → s.power.state ≠ 3 → s.crock.recovered = true →
    s.power.halted = false → s.crock.newest ≤ 1 → Completes .pwrFailNAssert s (fun t =>
    t.power = { s.power with pwrFailN := false, halted := true } ∧
    t.crock.mirror.lastHalt = 0 ∧ (t.crock.copy (1 - s.crock.newest)).complete = 0 ∧
    ((s.crock.copy s.crock.newest).good = true →
      (t.crock.copy (1 - s.crock.newest)).seq = (s.crock.copy s.crock.newest).seq + 1) ∧
    t.crock.copy s.crock.newest = s.crock.copy s.crock.newest ∧
    t.crock.save = some { target := 1 - s.crock.newest, lastHalt := 0, frozen := t.crock.mirror, cmd := none } ∧
    (∀ p, p < 8 → (t.pin p).schedule = [] ∧ (t.pin p).activeUntil = none) ∧
    SameBut [.power, .crock, .counters, .tb, .host] s t)) ∧
  (∀ s : State, s.power.aonOk = true → s.power.pwrFailN = true →
    (s.power.state = 3 ∨ s.crock.recovered = false ∨ s.power.halted = true) → Completes .pwrFailNAssert s (fun t =>
    t.power = { s.power with pwrFailN := false } ∧ SameBut [.power] s t)) ∧
  (∀ s : State, s.power.aonOk = true → Completes .pwrFailNDeassert s (fun t =>
    t.power = { s.power with pwrFailN := true } ∧ SameBut [.power] s t)) ∧
  (∀ (s : State) (j : SaveJob), s.power.aonOk = true → s.crock.save = some j → j.target ≤ 1 →
    (s.crock.copy j.target).magicOk = true → (s.crock.copy j.target).formatOk = true → j.cmd = none →
    Completes .crockSaveDone s (fun t =>
    (t.crock.copy j.target).good = true ∧ (t.crock.copy j.target).journal = { j.frozen with lastHalt := j.lastHalt } ∧
    (t.crock.copy j.target).seq = (s.crock.copy j.target).seq ∧
    t.crock.copy (1 - j.target) = s.crock.copy (1 - j.target) ∧ t.crock.newest = j.target ∧ t.crock.save = none ∧
    t.crock.mirror = s.crock.mirror ∧ SameBut [.crock] s t)) ∧
  (∀ s : State, s.power.aonOk = true → Completes .vddAonFall s (fun t =>
    t.crock = { s.crock with save := none, recovered := false } ∧
    t.power = { s.power with aonOk := false, ready := false, startup := .none, halted := true } ∧
    SameBut [.power, .crock] s t))

/-- An uncorrectable error in the Crock mirrors is fatal (R380, R388): FATAL is set and with it no core runs any more, every TRIG_OUT pin
goes inactive, PCIe reports by AER, and the halt is in the mirrors with its fault record; nothing else changes. -/
def Obligations.MirrorErrorIsFatal : Prop :=
  ∀ s : State, Serving s → s.power.fatal = false → Completes .mirrorUncorrectable s (fun t =>
    t.power.fatal = true ∧ t.coresRun = false ∧ t.crock.mirror.lastHalt = 2 ∧
    t.crock.mirror.nextFault = s.crock.mirror.nextFault + 1 ∧
    (∃ r, t.crock.mirror.faults.getLast? = some r ∧ r.index = s.crock.mirror.nextFault ∧ r.outcome = 8) ∧
    (∀ p, p < 8 → (t.pin p).schedule = [] ∧ (t.pin p).activeUntil = none) ∧
    (∃ l, t.host.out = s.host.out ++ l ++ [.aerUncorrectable]) ∧ t.host.mem = s.host.mem ∧
    SameBut [.draw, .power, .crock, .host, .tb, .funnels, .trace, .counters] s t)

/-- A function-level reset (R317, R318, R454): the function's intake block, MSI-X table, protocol level and Bus Master Enable are at
reset, its commands have ended, nothing was written to host memory, and tiles' weights, models that are not being loaded and the
partition bindings stay; the partition bound to it has no open flow, kernel, staging set or pending commit left. An FLR of the physical
function and the PCIe reset do so for every function; Bus Master Enable and NUM_VFS take what the host writes, and a virtual
function that goes out of existence is reset as by an FLR (R313). -/
def Obligations.FunctionResetsClearTheirFunction : Prop :=
  let fnClear := fun (fn : Nat) (t : State) =>
    (∀ c ∈ t.pre.cmds, c.h.fn.val ≠ fn) ∧ (∀ k, k < 16 → t.lane fn k = Lane.start) ∧ tget? t.host.level fn = none ∧
    (∀ v i, v < 64 → i < 4 → t.msixWord fn v i = if i = 3 then 1 else 0) ∧ bitN t.host.busMaster fn = false
  let partClear := fun (p : Nat) (t : State) =>
    (∀ e ∈ t.flows.ctxs, e.2.part ≠ p) ∧ (∀ k ∈ t.pre.kernels, k.part ≠ p) ∧ tget? t.pre.sets p = none ∧
    (∀ q ∈ t.pre.pending, q.part ≠ p)
  let kept := fun (s t : State) =>
    t.host.mem = s.host.mem ∧
    SameBut [.host, .pre, .tiles, .cores, .flows, .tb, .funnels, .running, .waiting, .trace, .counters] s t
  (∀ (vf : Fin 32) (s : State), Serving s → vf.val ≠ 0 → vf.val ≤ s.host.numVfs → Completes (.flrVf vf) s (fun t =>
    fnClear vf.val t ∧ kept s t ∧ t.host.numVfs = s.host.numVfs ∧
    (∀ p, s.fnPart? vf.val = some p → partClear p t ∧ (t.funnel p).fifo = [] ∧ (t.funnel p).waiting = []))) ∧
  (∀ s : State, Serving s → Completes .flrPf s (fun t =>
    (∀ fn, fn < 32 → fnClear fn t) ∧ kept s t ∧ t.host.numVfs = 0 ∧ tget? t.pre.sets 8 = none ∧
    (∀ p, p < 8 → s.partOn p = true → partClear p t))) ∧
  (∀ s : State, s.power.aonOk = true → s.power.perstN = true → Completes .pciePerstNAssert s (fun t =>
    t.power = { s.power with perstN := false } ∧ t.host.linkUp = false ∧ t.host.configServed = false ∧ t.host.numVfs = 0 ∧
    t.host.busMaster = 0 ∧ (Serving s → ∀ fn, fn < 32 → fnClear fn t) ∧ t.host.mem = s.host.mem ∧
    SameBut [.power, .host, .pre, .tiles, .cores, .flows, .tb, .funnels, .running, .waiting, .trace, .counters] s t)) ∧
  (∀ s : State, s.power.aonOk = true → s.power.perstN = false → Completes .pciePerstNRelease s (fun t =>
    t.power = { s.power with perstN := true } ∧
    t.host = { s.host with linkUp := true, speed := 5, width := 8, configServed := s.power.ready } ∧
    SameBut [.power, .host] s t)) ∧
  (∀ (n : Fin 32) (s : State), Serving s → s.host.configServed = true → Completes (.vfEnable n) s (fun t =>
    t.host.numVfs = n.val ∧ kept s t ∧
    (∀ fn, n.val < fn → fn ≤ s.host.numVfs → fn < 32 → fnClear fn t ∧ ∀ p, s.fnPart? fn = some p → partClear p t) ∧
    (s.host.numVfs ≤ n.val → t = { s with host := { s.host with numVfs := n.val } }))) ∧
  (∀ (fn : Fin 32) (on : Bool) (s : State), Serving s → s.host.configServed = true → (fn.val = 0 ∨ fn.val ≤ s.host.numVfs) →
    Completes (.busMasterEnable fn on) s (fun t =>
    bitN t.host.busMaster fn.val = on ∧ (∀ j, j ≠ fn.val → bitN t.host.busMaster j = bitN s.host.busMaster j) ∧
    t = { s with host := { s.host with busMaster := t.host.busMaster } }))

/-- Loss of REFCLK (R235, R410): the timebase enters Lost, every link goes down, operations admitted are abandoned, no partial
sum, signal or claim is on its way, package memory enters self-refresh, the ports are down and no assertion is pending; when it returns the
timebase stays Lost, memory leaves self-refresh and enabled ports train again, unless the device is in Array-retain. -/
def Obligations.RefclkLossStopsTheArrays : Prop :=
  (∀ s : State, Serving s → s.power.aonOk = true → s.power.refclkLost = false → s.power.state ≠ 3 →
    Completes .refclkLost s (fun t =>
    t.power.refclkLost = true ∧ t.coresRun = false ∧ t.tb.state = 3 ∧ t.tb.tick = s.tb.tick ∧
    (∀ e ∈ t.ingest.links, e.2.state ≠ 2 ∧ e.2.laneLock = 0) ∧
    (∀ e ∈ t.tiles, e.2.inFlight = [] ∧ e.2.running = none) ∧ t.pkg.selfRefresh = true ∧
    (∀ e ∈ t.net.ports, e.2.link = 0) ∧ (∀ p, p < 8 → (t.pin p).schedule = []) ∧ t.host.mem = s.host.mem ∧
    SameBut [.power, .crock, .host, .pre, .tiles, .cores, .flows, .ingest, .tb, .funnels, .net, .trace, .counters, .pkg] s t)) ∧
  (∀ s : State, Serving s → s.power.refclkLost = true → s.pre.cmds = [] → Completes .refclkRestored s (fun t =>
    t.power.refclkLost = false ∧ t.tb = s.tb ∧ t.pkg = { s.pkg with selfRefresh := s.power.state == 2 } ∧
    t.net.ports = s.net.ports.map (fun e => (e.1, { e.2 with
      link := if s.power.state = 2 ∨ bits (e.2.w 0) 0 2 = 0 then 0 else 1 })) ∧
    SameBut [.power, .tiles, .running, .waiting, .funnels, .net, .trace, .counters, .pkg] s t))

/-- A write of TARGET requests a power state (R401): from the physical function it is accepted where the state's conditions of Table 13.6
hold and refused with REFUSED where they do not, and the state itself does not change yet; from a virtual function it has no
effect. -/
def Obligations.PowerTargetRequestsState : Prop :=
  ∀ (i : Instr) (fn : Fin 32) (n : Nat) (s : State),
    ((i = .powerTargetActive fn ∧ n = 0) ∨ (i = .powerTargetIdle fn ∧ n = 1) ∨ (i = .powerTargetArrayRetain fn ∧ n = 2) ∨
      (i = .powerTargetStandby fn ∧ n = 3)) → Serving s → Completes i s (fun t =>
    let idle := (∀ e ∈ s.flows.ctxs, e.2.isCmd = false ∧ e.2.state ≠ 2) ∧ s.running = []
    let links := ∀ k, k < 4 → s.linkOn k = false
    let nothingOpen := s.flows.ctxs = [] ∧ (∀ e ∈ s.pre.sets, e.2.cmds = []) ∧ s.pre.pending = []
    let may := n = 0 ∨ (idle ∧ (2 ≤ n → links) ∧ (n = 3 → nothingOpen))
    (fn.val ≠ 0 → t = s) ∧
    (fn.val = 0 → t.target = n ∧ t.power.state = s.power.state ∧
      (may → t.power = { s.power with refused := false, transition := if s.power.state = n then none else some n }) ∧
      (¬ may → t.power = { s.power with refused := true }) ∧ SameBut [.power, .pre] s t))

/-- A change of power state completes (R401): STATE reads the target and POWER_STATE is raised; Array-retain and Standby put memory into
self-refresh, take the ports down and discard pending assertions; Standby also saves the Crock with LAST_HALT 3, stops the timebase
and clears READY, from which only RESET_N leads out. -/
def Obligations.PowerStateIsEntered : Prop :=
  ∀ (s : State) (n : Nat), Serving s → s.crock.save = none → s.power.transition = some n → s.pre.cmds = [] → n ≤ 3 →
    s.crock.newest ≤ 1 → Completes .powerState s (fun t =>
    t.power.state = n ∧ t.power.transition = none ∧ (n ≠ 3 → t.power.ready = true) ∧
    (n = 2 ∨ n = 3 → t.pkg.selfRefresh = true ∧ (∀ e ∈ t.net.ports, e.2.link = 0) ∧
      (∀ p, p < 8 → (t.pin p).schedule = [])) ∧
    (s.power.state = 2 → n < 2 → t.pkg.selfRefresh = false) ∧
    (n = 3 → t.power.ready = false ∧ t.tb.state = 0 ∧ (t.crock.copy t.crock.newest).good = true ∧
      (t.crock.copy t.crock.newest).journal.lastHalt = 3 ∧ t.crock.newest = 1 - s.crock.newest) ∧
    t.host.mem = s.host.mem)

/-- Quiescing a core (R404): the bit is saved in CORE_STATE and reads in GL_CORE_QUIESCE, and the core's slots, buffer and queues are
empty; unquiescing clears both bits and changes nothing else; only the physical function may do either (R419). -/
def Obligations.QuiescedCoreTakesNoWork : Prop :=
  (∀ (fn core : Fin 32) (s : State), Serving s → fn.val = 0 → s.quiesced core.val = false →
    Completes (.coreQuiesce fn core) s (fun t =>
    t.quiesced core.val = true ∧ t.coreUp core.val = false ∧ t.regf 0xE10 core.val 1 = 1 ∧ (t.core core.val).slots = [] ∧
    (t.core core.val).act = [] ∧ (t.core core.val).queues = [] ∧
    (∀ c, c ≠ core.val → tget t.crock.mirror.coreState c 0 = tget s.crock.mirror.coreState c 0) ∧
    SameBut [.crock, .host, .pre, .cores, .flows, .funnels, .trace, .counters] s t)) ∧
  (∀ (fn core : Fin 32) (s : State), Serving s → fn.val = 0 → Completes (.coreUnquiesce fn core) s (fun t =>
    t.quiesced core.val = false ∧ t.regf 0xE10 core.val 1 = 0 ∧
    (∀ c, c ≠ core.val → tget t.crock.mirror.coreState c 0 = tget s.crock.mirror.coreState c 0) ∧ SameBut [.crock, .pre] s t)) ∧
  (∀ (fn core : Fin 32) (s : State), Serving s → fn.val ≠ 0 →
    exec (.coreQuiesce fn core) s = .next s ∧ exec (.coreUnquiesce fn core) s = .next s)

/-- The slow loop and the fast limiter (R408): a measurement above POWER_LIMIT takes the step down by one, to 0 at the lowest; 100 in a row
more than 3 W below it take it up by one, to STEP_MAX at the highest; between, nothing but the measurement changes; an estimate above
60 W sets the limiter until the next measurement. -/
def Obligations.PowerLoopMovesTheStep : Prop :=
  (∀ (v : BitVec 16) (s : State), Serving s → Completes (.powerMeasure v) s (fun t =>
    t.power.pkgPower = v.toNat ∧ t.power.limiter = false ∧
    (100 * s.regf 0xE00 8 6 < v.toNat → t.power.step = s.power.step - 1 ∧
      (0 < s.power.step → t.power.throttlePower = true)) ∧
    (v.toNat + 300 < 100 * s.regf 0xE00 8 6 → s.power.coolPower < 99 →
      t.power.step = s.power.step ∧ t.power.coolPower = s.power.coolPower + 1) ∧
    (v.toNat + 300 < 100 * s.regf 0xE00 8 6 → 99 ≤ s.power.coolPower → t.power.coolPower = 0 ∧
      t.power.step = (if s.power.step < s.stepMax ∧ s.power.reduced = false ∧ s.power.throttleTherm = false
        then s.power.step + 1 else s.power.step)) ∧
    (v.toNat ≤ 100 * s.regf 0xE00 8 6 → 100 * s.regf 0xE00 8 6 ≤ v.toNat + 300 →
      t.power.step = s.power.step ∧ SameBut [.power] s t) ∧
    SameBut [.power, .cores, .funnels, .trace] s t)) ∧
  (∀ (v : BitVec 16) (s : State), Serving s → 6000 < v.toNat → Completes (.fastLimiter v) s (fun t =>
    t.power = { s.power with limiter := true } ∧ SameBut [.power] s t))

/-- A temperature sample (R409): TJ_NOW and TJ_PEAK follow it; from Tj_max - 5 °C the step falls by one, at Tj_max it is 0 under the
reduced set point, and 10 °C above that the device halts with a save under LAST_HALT 1. -/
def Obligations.TemperatureLimitsTheStep : Prop :=
  ∀ (tj : BitVec 16) (s : State), s.power.aonOk = true → Serving s → s.power.state ≠ 3 → s.crock.recovered = true →
    Completes (.thermalSample tj) s (fun t =>
    t.power.tjNow = tj.toInt ∧ t.power.tjPeak = max s.power.tjPeak tj.toInt ∧
    (s.tjMax + 100 ≤ tj.toInt → t.power.halted = true ∧ t.power.thermTrip = true ∧ t.crock.mirror.lastHalt = 1 ∧
      (∃ j, t.crock.save = some j ∧ j.lastHalt = 1)) ∧
    (s.tjMax ≤ tj.toInt → tj.toInt < s.tjMax + 100 →
      t.power.step = 0 ∧ t.power.reduced = true ∧ t.power.throttleTherm = true ∧ t.power.halted = false) ∧
    (s.tjMax - 50 ≤ tj.toInt → tj.toInt < s.tjMax → t.power.step = s.power.step - 1 ∧ t.power.throttleTherm = true ∧
      t.power.reduced = s.power.reduced) ∧
    (tj.toInt < s.tjMax - 50 → t.power.step = s.power.step) ∧
    (tj.toInt < s.tjMax + 100 → t.power.low = decide (tj.toInt < s.tjMin)) ∧
    SameBut [.power, .crock, .host, .cores, .tb, .funnels, .trace, .counters] s t)

/-! ## The timebase and the trigger pins -/

/-- ARM and STOP (R233): ARM in Stopped moves the timebase to Armed where the master's parameters are legal and no tick reached since
cold power-on is at or above TICK_LOAD, and otherwise sets ARM_REFUSED; in another state it changes nothing. STOP moves to Stopped only
with no link enabled, the largest tick reached staying in the mirrors. Both are the physical function's alone (R242). -/
def Obligations.TimebaseArmsAndStops : Prop :=
  (∀ (fn : Fin 32) (s : State), Serving s → Completes (.tbArm fn) s (fun t =>
    let legal := s.linkLegal s.masterLink = true ∧ (s.crock.mirror.tickReached = true → s.tickMax < s.tickLoad)
    (fn.val ≠ 0 ∨ s.tb.state ≠ 0 → t = s) ∧
    (fn.val = 0 → s.tb.state = 0 → legal → t = { s with tb := { s.tb with state := 1, armRefused := false } }) ∧
    (fn.val = 0 → s.tb.state = 0 → ¬ legal → t = { s with tb := { s.tb with armRefused := true } }))) ∧
  (∀ (fn : Fin 32) (s : State), Serving s → Completes (.tbStop fn) s (fun t =>
    let linked := ∃ k, k < 4 ∧ s.linkOn k = true
    (fn.val ≠ 0 ∨ linked → t = s) ∧
    (fn.val = 0 → ¬ linked → t.tb = { s.tb with state := 0 } ∧ t.crock.mirror.tickReached = s.crock.mirror.tickReached ∧
      t.crock.mirror.tickMax = (if s.crock.mirror.tickReached then max s.crock.mirror.tickMax s.tb.tick
        else s.crock.mirror.tickMax) ∧ SameBut [.tb, .crock] s t)))

/-- A SYSREF edge (R218, R232, R233): an armed timebase loads TICK_LOAD, latches the master's parameters and the REFCLK edge that
sampled it and runs, or goes back to Stopped with ARM_REFUSED where the parameters have become illegal; a running one counts an
edge more than one REFCLK edge off the held phase and keeps its tick; a stopped or lost one ignores it. A marginal edge is sampled at
that REFCLK edge or the next. -/
def Obligations.SysrefEdgeStartsTheTick : Prop :=
  (∀ (b : Bool) (s : State), Serving s → s.power.refclkLost = false → s.tb.state = 1 → s.armOk = true →
    Completes (.sysrefEdge b) s (fun t =>
    t.tb.state = 2 ∧ t.tb.tick = s.tickLoad ∧ t.tb.loadTick = s.tickLoad ∧ t.tb.s = s.linkS s.masterLink ∧
    t.tb.r = s.linkRate s.masterLink ∧ t.tb.f = s.linkF s.masterLink ∧ t.tb.e = s.linkE s.masterLink ∧
    (t.tb.armRef = s.refIndex ∨ (b = true ∧ t.tb.armRef = s.refIndex + 1)) ∧
    t.crock.mirror.tickReached = true ∧ t.crock.mirror.tickMax = max s.crock.mirror.tickMax s.tickLoad ∧
    t.tb.ptpNs = s.tb.ptpNs ∧ t.tb.ptpSec = s.tb.ptpSec ∧ t.tb.pairs = s.tb.pairs ∧
    SameBut [.draw, .power, .crock, .flows, .ingest, .tb, .funnels, .trace] s t)) ∧
  (∀ s : State, Serving s → s.power.refclkLost = false → s.tb.state = 1 → s.armOk = false →
    exec (.sysrefEdge false) s = .next { s with tb := { s.tb with state := 0, armRefused := true } }) ∧
  (∀ s : State, Serving s → s.power.refclkLost = false → s.tb.state = 2 → s.regf 0x318 0 24 ≠ 0 → 1 < s.sysrefOff s.refIndex →
    Completes (.sysrefEdge false) s (fun t =>
    t.counter 0x4D80 = min (s.counter 0x4D80 + 1) (counterMax 0x4D80) ∧ SameBut [.funnels, .trace, .counters] s t)) ∧
  (∀ s : State, Serving s → s.power.refclkLost = false → (s.tb.state = 0 ∨ s.tb.state = 3) →
    exec (.sysrefEdge false) s = .next s)

/-- Reading TB_TICK_LO captures the whole counter and places its upper half in TB_TICK_HI, so that the two reads give the one tick
(R236); no other function reads it. -/
def Obligations.TickLoReadCapturesTheWholeCounter : Prop :=
  (∀ s : State, Serving s → s.tb.tick < 2 ^ 64 → Completes (.tbTickLoRead 0) s (fun t =>
    ∃ lo, t.host = { s.host with out := s.host.out ++ [.busRead 0 lo] } ∧ lo < 2 ^ 32 ∧
      2 ^ 32 * t.tb.tickHi.toNat + lo = s.tb.tick ∧ t.tb = { s.tb with tickHi := t.tb.tickHi } ∧ SameBut [.host, .tb] s t)) ∧
  (∀ (fn : Fin 32) (s : State), fn.val ≠ 0 → exec (.tbTickLoRead fn) s = .next s)

/-- At each whole millisecond of the PTP clock a running timebase captures a pair of tick and PTP time, once, and keeps the last 16
(R241). -/
def Obligations.MillisecondsCapturePairs : Prop :=
  ∀ s : State, Serving s → s.tb.state = 2 → s.tb.ptpNs % 1000000 < 4 → Completes .tickPtpCapture s (fun t =>
    let ns := s.tb.ptpNs - s.tb.ptpNs % 1000000
    t = { s with tb := { s.tb with pairs := t.tb.pairs } } ∧ t.tb.pairs.length ≤ max 16 s.tb.pairs.length ∧
    (∃ p, t.tb.pairs.head? = some p ∧ p.sec = s.tb.ptpSec ∧ p.ns = ns) ∧
    ((∀ p, s.tb.pairs.head? = some p → ¬ (p.sec = s.tb.ptpSec ∧ p.ns = ns)) →
      ∃ p, t.tb.pairs = (p :: s.tb.pairs).take 16 ∧ p.locked = s.net.ptpLocked ∧
        p.tick256 = s.tb.tick256At (s.clk * 32 - (s.tb.ptpNs % 1000000 : Nat) * 8)))

/-- An edge on a TRIG_IN pin (R238): on a disabled pin nothing happens; outside Running, or with the reserved EDGE, it is counted
as ignored; an edge the pin does not qualify passes; one less than 8 ns after the last accepted is counted as merged; any other is
counted, remembered and stamped with the tick of its instant in a timeline record to the pin's partition. -/
def Obligations.TriggerInputsAreStamped : Prop :=
  ∀ (p : Fin 8) (rising : Bool) (ps : Fin 4000) (s : State), Serving s → s.power.refclkLost = false →
    Completes (.trigInEdge p rising false ps) s (fun t =>
    let edge := s.trigInf p.val 1 2
    let inst := (s.clk * 4000 + ps.val) / 10 * 10
    let qualifies := edge = 2 ∨ (edge = 0 ∧ rising = true) ∨ (edge = 1 ∧ rising = false)
    let close := ∃ x, tget? s.tb.trigLast p.val = some x ∧ inst < x + 8000
    let counts := fun (i : Nat) => t.counter (trigInCtr p.val i) =
      min (s.counter (trigInCtr p.val i) + 1) (counterMax (trigInCtr p.val i))
    (s.trigInf p.val 0 1 = 0 → t = s) ∧
    (s.trigInf p.val 0 1 ≠ 0 → s.tb.state ≠ 2 ∨ edge = 3 → counts 2 ∧ SameBut [.counters] s t) ∧
    (s.trigInf p.val 0 1 ≠ 0 → s.tb.state = 2 → edge ≠ 3 → ¬ qualifies → t = s) ∧
    (s.trigInf p.val 0 1 ≠ 0 → s.tb.state = 2 → qualifies → close → counts 1 ∧ SameBut [.counters] s t) ∧
    (s.trigInf p.val 0 1 ≠ 0 → s.tb.state = 2 → qualifies → ¬ close → counts 0 ∧ tget? t.tb.trigLast p.val = some inst ∧
      (∃ k, (t.funnel (s.trigInf p.val 3 3)).waiting = (s.funnel (s.trigInf p.val 3 3)).waiting ++ [k] ∧ k.kind = 7 ∧
        k.first256 = s.trigStamp inst) ∧
      (∀ q, q ≠ s.trigInf p.val 3 3 → t.funnel q = s.funnel q) ∧ SameBut [.counters, .tb, .funnels] s t))

/-- When the instant of a TRIG_OUT pin's first pending assertion is reached it leaves the schedule, is counted, and keeps the pin
active for WIDTH × 4 ns from that instant; where the pin is active already the two form one pulse and the merge is counted (R239). -/
def Obligations.TriggerOutputsAreDriven : Prop :=
  ∀ (p : Fin 8) (s : State) (a : Assertion) (rest : List Assertion), Serving s → s.power.fatal = false →
    s.power.refclkLost = false → (s.pin p.val).schedule = a :: rest → a.at_ < s.clk * 32 + 32 →
    Completes (.trigOutAssert p) s (fun t =>
    let merged := ∃ u, (s.pin p.val).activeUntil = some u ∧ a.at_ ≤ u
    (t.pin p.val).schedule = rest ∧ (∀ q, q ≠ p.val → t.pin q = s.pin q) ∧
    (∃ v, (t.pin p.val).activeUntil = some v ∧ a.at_ + 32 * max (s.trigOutf p.val 8 16) 1 ≤ v ∧
      (∀ u, (s.pin p.val).activeUntil = some u → a.at_ ≤ u → u ≤ v) ∧
      (¬ merged → v = a.at_ + 32 * max (s.trigOutf p.val 8 16) 1)) ∧
    t.counter (trigOutCtr p.val 0) = min (s.counter (trigOutCtr p.val 0) + 1) (counterMax (trigOutCtr p.val 0)) ∧
    (merged → t.host = s.host ∧
      t.counter (trigOutCtr p.val 3) = min (s.counter (trigOutCtr p.val 3) + 1) (counterMax (trigOutCtr p.val 3))) ∧
    (¬ merged → t.host = { s.host with out := s.host.out ++ [.trigOut p.val true a.at_.toNat] }) ∧
    SameBut [.counters, .tb, .host] s t)

/-! ## Probe, trace pins, SMBus and TAP -/

/-- A Probe conversion (R421, R422, R425, R426): a capture takes it, without touching the sequence; else the entry under way adds its
code to its mean, or, at its last conversion, writes its result with the flags and the mean; with the sequence off it changes nothing. -/
def Obligations.ProbeConversionsFormResults : Prop :=
  (∀ (v : Int) (s : State) (k : Capture), Serving s → s.probe.capture = some k → k.n < 255 →
    Completes (.probeConversion v) s (fun t =>
    ∃ k', t = { s with draw := s.draw + 1, probe := { s.probe with capture := some k' } } ∧ k'.n = k.n + 1 ∧ k'.pin = k.pin ∧
      k'.full = k.full ∧ k'.cmd = k.cmd ∧ k'.spoiled = (k.spoiled || decide (65528 < v) || decide (v < -8)))) ∧
  (∀ (v : Int) (s : State), Serving s → s.probe.capture = none → s.regf 0x1000 0 1 ≠ 1 ∨ (∀ e, e < 16 → s.probe.on e = false) →
    exec (.probeConversion v) s = .next { s with draw := s.draw + 1 }) ∧
  (∀ (v : Int) (s : State) (e : Nat), Serving s → s.probe.capture = none → s.regf 0x1000 0 1 = 1 → e < 16 →
    s.probe.current = e → s.probe.on e = true → -8 ≤ v → v ≤ 65528 → Completes (.probeConversion v) s (fun t =>
    let avg := bits (s.probe.entry e) 5 3
    (∃ code : Nat, (∃ q : Int, q = code ∧ 0 ≤ q ∧ q ≤ 4095 ∧ v - 8 ≤ 16 * q ∧ 16 * q ≤ v + 8) ∧
      (s.probe.n + 1 < 2 ^ avg → t = { s with draw := s.draw + 1, probe := { s.probe with
        n := s.probe.n + 1, sum := s.probe.sum + code } }) ∧
      (2 ^ avg ≤ s.probe.n + 1 → ∃ r, tget? t.probe.results e = some r ∧ r.valid = true ∧
        r.code = (rneDiv ((s.probe.sum + code : Nat) : Int) (2 ^ avg)).toNat ∧ r.ovr = s.probe.anyOvr ∧
        r.under = s.probe.anyUnder ∧ t.probe.n = 0 ∧ t.probe.sum = 0 ∧ (∀ j, j ≠ e → tget? t.probe.results j = tget? s.probe.results j) ∧
        (bitN s.probe.alert e = true → bitN t.probe.alert e = true) ∧ SameBut [.draw, .probe] s t))))

/-- A write to HK_ALERT clears the bits written as 1, leaves the others, and changes nothing else (R425). -/
def Obligations.AlertBitsClearOnWrite : Prop :=
  ∀ (v : Word) (s : State), Serving s → Completes (.hkAlertClear 0 v) s (fun t =>
    t = { s with probe := { s.probe with alert := t.probe.alert } } ∧
    ∀ e, e < 16 → bitN t.probe.alert e = (bitN s.probe.alert e && !v.getLsbD e))

/-- A record queued for the trace pins leaves with its preamble 0xA, 0x5 and its bytes, low nibble first, and the queue moves up
(R435). -/
def Obligations.TracePinsSendRecords : Prop :=
  ∀ (s : State) (r : TraceRec) (rest : List TraceRec), Serving s → s.power.fatal = false → s.regf 0x1104 0 1 = 1 →
    s.trace.pinQueue = r :: rest → Completes .tracePinSend s (fun t =>
    t.trace = { s.trace with pinQueue := rest } ∧ (∃ n, t.host = { s.host with out := s.host.out ++ [.traceRecord n] } ∧
      n.length = 2 + 2 * r.bytes.length ∧ n.head? = some 0xA ∧ n[1]? = some 0x5 ∧
      ∀ i b, r.bytes[i]? = some b → n[2 + 2 * i]? = some (byte (b.toNat % 16)) ∧ n[3 + 2 * i]? = some (byte (b.toNat / 16))) ∧
    SameBut [.trace, .host] s t)

/-- The SMBus target (R456, Table 15.9): each read gives its bytes and changes nothing in the device; before READY and in Standby all
but 0x00 and 0x01 give zeros; a bus timeout changes nothing. -/
def Obligations.SmbusReadsGiveTheirData : Prop :=
  ∀ s : State, s.power.aonOk = true →
    let gives := fun (i : Instr) (b : Bytes) => exec i s = .next { s with host := { s.host with out := s.host.out ++ [.smbus b] } }
    let live := s.power.ready = true ∧ s.power.state ≠ 3
    gives .smbReadDevice [0x60, 0x32] ∧
    (∃ b : Byte, gives .smbReadStatus [b] ∧ b.getLsbD 0 = s.power.ready ∧ b.getLsbD 1 = s.power.fatal ∧
      (s.power.state < 4 → b.toNat / 4 % 4 = s.power.state ∧ b.getLsbD 4 = s.power.throttlePower ∧
        b.getLsbD 5 = s.power.throttleTherm ∧ b.getLsbD 6 = s.power.refclkLost ∧ b.getLsbD 7 = s.power.thermTrip)) ∧
    (live → gives .smbReadTjNow (leBytes 2 (field 16 s.power.tjNow)) ∧ gives .smbReadTjPeak (leBytes 2 (field 16 s.power.tjPeak)) ∧
      gives .smbReadPkgPower (leBytes 2 (min s.power.pkgPower 65535)) ∧
      gives .smbReadStepping (leBytes 2 (s.sec.card.stepping % 256 + 256 * (s.sec.card.grade % 2) + 512 * s.power.step)) ∧
      gives .smbReadPartSerial (leBytes 8 s.sec.card.serial) ∧ gives .smbReadFwVersion (leBytes 4 s.fwVersion) ∧
      gives .smbReadHkAlert (leBytes 2 s.probe.alert) ∧
      (∀ e : Fin 16, gives (.smbReadHkEntry e) (leBytes 4 (tget s.probe.results e.val HkResult.none).word ++
        leBytes 4 (field 32 (tget s.probe.results e.val HkResult.none).value)))) ∧
    (¬ live → gives .smbReadTjNow [0, 0] ∧ gives .smbReadTjPeak [0, 0] ∧ gives .smbReadPkgPower [0, 0] ∧
      gives .smbReadStepping [0, 0] ∧ gives .smbReadPartSerial [0, 0, 0, 0, 0, 0, 0, 0] ∧ gives .smbReadFwVersion [0, 0, 0, 0] ∧
      gives .smbReadHkAlert [0, 0] ∧ (∀ e : Fin 16, gives (.smbReadHkEntry e) [0, 0, 0, 0, 0, 0, 0, 0])) ∧
    exec .smbusTimeout s = .next s

/-- The TAP (R457) works only while RESET_N is low: there each instruction is selected, BYPASS shifts out its 0, IDCODE the
device's code with the stepping in its top digit, SAMPLE/PRELOAD loads the chain, EXTEST and CLAMP drive the pins from it and HIGHZ drives
none; while RESET_N is high they change nothing. -/
def Obligations.TapInstructionsActOnlyInReset : Prop :=
  ∀ (s : State) (chain : List Bool), s.power.aonOk = true →
    let selects := fun (i : Instr) (ir drives : Nat) (out : List Out) => exec i s = .next { s with
      mgmt := { s.mgmt with tapIr := ir, chainDrives := drives }, host := { s.host with out := s.host.out ++ out } }
    (s.power.resetN = false →
      selects .bypass 0 0 [.tdo [false]] ∧
      (∃ l, selects .idcode 1 0 [.tdo l] ∧ l.length = 32 ∧
        ∀ k, k < 32 → l[k]? = some (bitN (0x032604B7 + 2 ^ 28 * (s.sec.card.stepping % 16)) k)) ∧
      exec (.samplePreload chain) s = .next { s with mgmt := { s.mgmt with tapIr := 2, chainDrives := 0, chain := chain } } ∧
      selects .extest 3 1 [.pins s.mgmt.chain] ∧ selects .clamp 4 1 [.pins s.mgmt.chain] ∧ selects .highz 5 2 []) ∧
    (s.power.resetN = true → exec .bypass s = .next s ∧ exec .idcode s = .next s ∧ exec (.samplePreload chain) s = .next s ∧
      exec .extest s = .next s ∧ exec .clamp s = .next s ∧ exec .highz s = .next s)

/-! ## Lanes, reply rings and registers -/

/-- The intake blocks (R279, R283): ENABLE from 0 to 1 starts the pull consumer index at 0; REPLY_ENABLE from 0 to 1 starts the write
index at 0 with PHASE 1; ENABLE from 1 to 0 stops the lane at once, its packets not taken are forgotten and no command of it still
waits: one that waited for its at-tick completes with CANCELLED. Other lanes stay. -/
def Obligations.IntakeBlocksEnableAndDisable : Prop :=
  (∀ (fn : Fin 32) (k : Fin 16) (s : State), Serving s → s.fnEnabled fn = true → (s.lane fn k).enable = false →
    exec (.laneEnable fn k) s = .next (s.modLane fn k (fun l => { l with
      enable := true, consumer := 0, pulled := [], slots := [], order := [] }))) ∧
  (∀ (fn : Fin 32) (k : Fin 16) (s : State), Serving s → s.fnEnabled fn = true → (s.lane fn k).replyEnable = false →
    exec (.replyEnable fn k) s = .next (s.modLane fn k (fun l => { l with
      replyEnable := true, replyWrite := 0, replyUsed := 0, replyPhase := true }))) ∧
  (∀ (fn : Fin 32) (k : Fin 16) (s : State), Serving s → s.fnEnabled fn = true → (s.lane fn k).enable = true →
    Completes (.laneDisable fn k) s (fun t =>
    (t.lane fn k).enable = false ∧ (t.lane fn k).order = [] ∧ (t.lane fn k).pulled = [] ∧ (t.lane fn k).fenceWait = none ∧
    (∀ c ∈ t.pre.cmds, c ∈ s.pre.cmds ∧ (c.h.fn = fn → c.h.lane = k → c.wait ≠ .atTick ∧ c.wait ≠ .fence)) ∧
    SameBut [.host, .pre, .tiles, .cores, .running, .waiting, .trace, .counters, .funnels] s t)) ∧
  (∀ (fn : Fin 32) (k : Fin 16) (s : State) (c : Cmd), Serving s → s.fnEnabled fn = true → (s.lane fn k).enable = true →
    s.pre.cmds = [c] → c.h.fn = fn → c.h.lane = k → c.wait = .atTick → s.pre.pending = [] → s.pre.models = [] → s.waiting = [] →
    s.ringOn c.h = true → Completes (.laneDisable fn k) s (fun t => t.pre.cmds = [] ∧
    (t.lane fn c.h.queue.toNat).held = (s.lane fn c.h.queue.toNat).held ++ [replyOf c.h c.op stCancelled [] s] ∧
    SameBut [.host, .pre, .cores, .trace] s t))

/-- A reply of one slot is written where the ring's write index stands, its words filled with zeros and closed by the trailer with the
ring's PHASE; the index moves on and PHASE changes when it wraps; its vector is raised only where its request or status asks for it.
A message held back by HOLDOFF leaves at its end. PT_REPLY_READ frees the slots before it (R281, R282, R312). -/
def Obligations.ReplyRingsTakeReplies : Prop :=
  (∀ (fn : Fin 32) (k : Fin 16) (s : State) (r : Reply) (rest : List Reply), Serving s → s.master fn = true →
    HostMemoryForm s → (s.lane fn k).replyEnable = true → (s.lane fn k).held = r :: rest → 1 ≤ r.words.length →
    r.words.length ≤ 15 → (s.lane fn k).replyUsed < 2 ^ (s.lane fn k).replyLog2 → Completes (.replyWrite fn k) s (fun t =>
    let l := s.lane fn k
    let a := l.replyBase + 64 * l.replyWrite
    let wraps := l.replyWrite + 1 = 2 ^ l.replyLog2
    Memory.readBytes t.host.mem a 64 = wordBytes (r.words ++ List.replicate (15 - r.words.length) 0 ++ [w32 (b2n l.replyPhase)]) ∧
    (∀ x, x < a ∨ a + 64 ≤ x → Memory.read t.host.mem x = Memory.read s.host.mem x) ∧
    t.lane fn k = { l with held := rest, replyWrite := (if wraps then 0 else l.replyWrite + 1),
                           replyPhase := (if wraps then !l.replyPhase else l.replyPhase), replyUsed := l.replyUsed + 1 } ∧
    (∀ (f : Fin 32) (j : Fin 16), (f, j) ≠ (fn, k) → t.lane f j = s.lane f j) ∧
    (r.irq = false → t.host.out = s.host.out ∧ t.host.pba = s.host.pba) ∧
    (r.irq = true → l.vector < 64 → tget? s.host.holdoffs (64 * fn + l.vector) = none →
      (bit (s.msixWord fn l.vector 3) 0 = false → t.host.out = s.host.out ++ [.msix fn l.vector]) ∧
      (bit (s.msixWord fn l.vector 3) 0 = true → t.host.out = s.host.out ∧ tget t.host.pba (64 * fn + l.vector) false = true)) ∧
    SameBut [.host] s t)) ∧
  (∀ (fn : Fin 32) (k : Fin 16) (v : Word) (s : State), Serving s → s.fnEnabled fn = true → Completes (.ptReplyRead fn k v) s (fun t =>
    let l := s.lane fn k
    let n := 2 ^ l.replyLog2
    let freed := (v.toNat % 65536 % n + n - l.replyRead % n) % n
    t = s.modLane fn k (fun l => { l with replyRead := v.toNat % 65536 % n, replyUsed := l.replyUsed - min l.replyUsed freed }))) ∧
  (∀ (fn : Fin 32) (v : Fin 64) (s : State) (h : Holdoff), Serving s → tget? s.host.holdoffs (64 * fn + v) = some h →
    h.until_ ≤ s.clk → Completes (.msixHoldoffEnd fn v) s (fun t =>
    (h.pending = false → t = { s with host := { s.host with holdoffs := tdel s.host.holdoffs (64 * fn + v) } }) ∧
    (h.pending = true → s.master fn = true → bit (s.msixWord fn v 3) 0 = false →
      t.host.out = s.host.out ++ [.msix fn v] ∧ t.host.mem = s.host.mem ∧ t.host.lanes = s.host.lanes) ∧ SameBut [.host] s t))

/-- A packet enters a lane and is taken (R273 to R275, R277): a word written to a free slot is recorded and the packet commits when all
its words are there; a poll of the producer index finds one entry and fetches it; a NOP taken from a slot or from a pull ring
gets its reply, leaves the lane, and the last of the entries found moves the consumer index in host memory. -/
def Obligations.PacketsEnterLanes : Prop :=
  (∀ (fn : Fin 32) (k : Fin 16) (n : Fin 64) (i : Fin 256) (off : BitVec 20) (v : Word) (s : State), Serving s →
    s.fnEnabled fn = true → off.toNat = 65536 * k.val + 1024 * n.val + 4 * i.val → (s.lane fn k).enable = true →
    (s.lane fn k).mode = false → Completes (.pushWindowWrite fn off [v]) s (fun t =>
    let l := s.lane fn k
    let sl := tget l.slots n.val { words := [], committed := false }
    let whole := ∃ w0, tget? (tset sl.words i.val v) 0 = some w0 ∧
      ∀ j, j < max (bits w0 16 8) 6 → (tget? (tset sl.words i.val v) j).isSome = true
    (sl.committed = true → t.counter (devCtr 6) = min (s.counter (devCtr 6) + 1) (counterMax (devCtr 6)) ∧
      SameBut [.counters] s t) ∧
    (sl.committed = false → ∃ c, (c = true ↔ whole) ∧ t = s.modLane fn k (fun l => { l with
      slots := tset l.slots n.val { words := tset sl.words i.val v, committed := c },
      order := if c then l.order ++ [n.val] else l.order })))) ∧
  (∀ (fn : Fin 32) (k : Fin 16) (s : State), Serving s → s.master fn = true → (s.lane fn k).enable = true → (s.lane fn k).mode = true →
    (s.lane fn k).pulled = [] → (s.lane fn k).consumer < 2 ^ (s.lane fn k).pullLog2 →
    let l := s.lane fn k
    let prod := ofBytes (Memory.readBytes s.host.mem l.prodAddr 4) % 2 ^ l.pullLog2
    let a := l.pullBase + 1024 * l.consumer
    let len := max (bits (w32 (ofBytes (Memory.readBytes s.host.mem a 4))) 16 8) 6
    (prod = l.consumer → Completes (.pullRingPoll fn k) s (fun t => t = s.modLane fn k (fun l => { l with pulled := [] }))) ∧
    (prod ≠ l.consumer → prod = (l.consumer + 1) % 2 ^ l.pullLog2 → Completes (.pullRingPoll fn k) s (fun t =>
      t = s.modLane fn k (fun l => { l with pulled := [toWords len (Memory.readBytes s.host.mem a (4 * len))] })))) ∧
  (∀ (fn : Fin 32) (k : Fin 16) (s : State) (ws : List Word), let h := hdrOf fn k ws
    ws.length = 6 → bits (pw ws 0) 16 8 = 6 → bits (pw ws 0) 0 16 = 0 → hdrReservedOk ws = true → TakenAtOnce 0 h [] s →
    (∀ (n : Nat) (rest : List Nat), (s.lane fn k).mode = false → (s.lane fn k).order = n :: rest →
      (∀ i, i < 6 → tget (tget (s.lane fn k).slots n { words := [], committed := false }).words i 0 = pw ws i) →
      Completes (.packetTake fn k) s (Replied h 0 stOk []
        (s.modLane fn k (fun l => { l with order := rest, slots := tdel l.slots n })))) ∧
    (∀ rest : List (List Word), (s.lane fn k).mode = true → (s.lane fn k).pulled = ws :: rest →
      let c := ((s.lane fn k).consumer + 1) % 2 ^ (s.lane fn k).pullLog2
      let u := s.modLane fn k (fun l => { l with pulled := rest, consumer := c })
      Completes (.packetTake fn k) s (Replied h 0 stOk []
        (if rest = [] then u.hostWrite (s.lane fn k).consAddr (leBytes 4 c) else u))))

/-- Waits end (R277, R278): of two commands whose at-tick has come the one due first is begun, on a tie the one taken first; a command
behind a FENCE is begun once its lane is quiet and not before. -/
def Obligations.WaitingCommandsAreBegun : Prop :=
  (∀ (s : State) (a b : Cmd), Serving s → s.pre.pending = [] → s.pre.cmds = [a, b] → a.id ≠ b.id → s.tb.state = 2 → a.wait = .atTick →
    b.wait = .atTick → a.op = 0 → b.op = 0 → a.h.atTick.toNat ≤ s.tb.tick → b.h.atTick.toNat ≤ s.tb.tick →
    s.power.state = 0 → s.power.refclkLost = false → s.ringOn a.h = true → s.ringOn b.h = true →
    let replies := fun (c other : Cmd) => Completes .atTickDue s (fun t =>
      t.host = (s.modLane c.h.fn c.h.queue.toNat (fun l => { l with held := l.held ++ [replyOf c.h 0 stOk [] s] })).host ∧
      t.pre = { s.pre with cmds := [other] } ∧ SameBut [.host, .pre, .trace] s t)
    (a.h.atTick.toNat ≤ b.h.atTick.toNat → replies a b) ∧ (b.h.atTick.toNat < a.h.atTick.toNat → replies b a)) ∧
  (∀ s : State, Serving s → s.pre.pending = [] → s.pre.cmds = [] → exec .atTickDue s = .next s) ∧
  (∀ (fn : Fin 32) (k : Fin 16) (s : State) (c : Cmd), Serving s → (s.lane fn k).fenceWait = some c.id → s.pre.cmds = [c] →
    c.h.fn = fn → c.h.lane = k → c.wait = .fence → c.op = 0 → c.h.atTick = 0 → s.power.state = 0 → s.power.refclkLost = false →
    s.ringOn c.h = true →
    let owed := ∃ j, j < 16 ∧ ∃ r ∈ (s.lane fn j).held, r.final = true ∧ r.lane = k.val
    (owed → exec (.fenceRelease fn k) s = .next s) ∧
    (¬ owed → Completes (.fenceRelease fn k) s (fun t =>
      let u := s.modLane fn k (fun l => { l with fenceWait := none })
      t.host = (u.modLane fn c.h.queue.toNat (fun l => { l with held := l.held ++ [replyOf c.h 0 stOk [] s] })).host ∧
      t.pre = { s.pre with cmds := [] } ∧ SameBut [.host, .pre, .trace] s t)))

/-- Register accesses (R291, R311, R329, R330, R438): a write to a register that acts on write holds each field to its range; a staged
one joins its open set and the value in force stays; a misaligned one is ill-formed; one from a function bound to no partition does
nothing. PT_FN_READ takes a multiple of 64. A PIO read gives bytes of the head word, which only a read of its last eight bytes takes;
outside PIO mode it reads zeros. -/
def Obligations.RegisterAccessesActOrStage : Prop :=
  (∀ (off : BitVec 20) (v : BitVec 64) (s : State), (∃ k : Fin 8, off.toNat = 0x340 + 4 * k.val) → v.toNat < 2 ^ 32 → Serving s →
    s.fnEnabled 0 = true → Completes (.registerWrite 0 off false v) s (fun t =>
    t = s.setReg off.toNat (w32 (v.toNat % 64)) ∧ t.reg off.toNat = w32 (v.toNat % 64) ∧
    ∀ x, x ≠ off.toNat → t.reg x = s.reg x)) ∧
  (∀ (p : Fin 8) (off : BitVec 20) (v : BitVec 64) (s : State), off.toNat = 0x10000 * (p.val + 1) + 0x304 → v.toNat < 2 ^ 32 → Serving s →
    s.fnEnabled 0 = true → Completes (.registerWrite 0 off false v) s (fun t =>
    (∀ x, t.reg x = s.reg x) ∧ (off.toNat, (0xFFFFFFFF : Word), w32 v.toNat) ∈ (t.openSet p).regs ∧
    (t.openSet p).cmds = (s.openSet p).cmds ∧ (∀ e ∈ (s.openSet p).regs, e.1 ≠ off.toNat → e ∈ (t.openSet p).regs) ∧
    (∀ n, n ≠ p.val → t.openSet n = s.openSet n) ∧ t.pre = { s.pre with sets := t.pre.sets } ∧ SameBut [.pre] s t)) ∧
  (∀ (fn : Fin 32) (off : BitVec 20) (wide : Bool) (v : BitVec 64) (s : State), off.toNat % 4 ≠ 0 →
    exec (.registerWrite fn off wide v) s = .fault .illFormed) ∧
  (∀ (fn : Fin 32) (off : BitVec 20) (v : BitVec 64) (s : State), fn.val ≠ 0 → s.fnPart? fn = none → off.toNat % 4 = 0 →
    v.toNat < 2 ^ 32 → exec (.registerWrite fn off false v) s = .next s) ∧
  (∀ (fn : Fin 32) (p : Fin 8) (v : Word) (s : State), Serving s → s.fnEnabled fn = true →
    fn = 0 ∨ s.fnPart? fn = some p.val → Completes (.ptFnRead fn p v) s (fun t =>
    t = s.setReg (0x10000 * (p.val + 1) + 0x418) (w32 (v.toNat / 64 * 64)))) ∧
  (∀ (fn : Fin 32) (p : Fin 8) (first : Fin 64) (bytes : Nat) (s : State), Serving s → s.fnEnabled fn = true →
    fn = 0 ∨ s.fnPart? fn = some p.val → 1 ≤ bytes → first.val + bytes ≤ 64 →
    (s.fnCtrl p 0 1 = 0 ∨ s.fnCtrl p 1 1 = 0 → exec (.ptFnPio fn p first bytes) s =
      .next (s.emit (.pio (List.replicate bytes 0)))) ∧
    (∀ (e : FifoPkt) (rest : List FifoPkt), s.fnCtrl p 0 1 = 1 → s.fnCtrl p 1 1 = 1 → (s.funnel p).fifo = e :: rest → e.route = 1 →
      let line := ((e.pkt.dwords false).drop e.hostRead).take 8
      line.length = 8 → e.hostRead + 8 < e.pkt.words → Completes (.ptFnPio fn p first bytes) s (fun t =>
      t.host = { s.host with out := s.host.out ++ [.pio (((dwordBytes line).drop first.val).take bytes)] } ∧
      (first.val + bytes < 64 ∨ 56 < first.val → (∀ q, t.funnel q = s.funnel q) ∧ SameBut [.host] s t) ∧
      (first.val + bytes = 64 → first.val ≤ 56 → (t.funnel p).fifo.head? = some { e with hostRead := e.hostRead + 8 } ∧
        (∀ q, q ≠ p.val → t.funnel q = s.funnel q) ∧ SameBut [.host, .funnels, .counters] s t))))

/-! ## Ingest and flows -/

/-- A lane of a Locking link achieves lock: the last of the link's lanes brings the link up while the timebase runs (R217). Losing it
takes an Up link back to Locking, is counted and attributed to the lane; the third such fault within 86,400 s retires the lane and its
link goes to Fault (R219, R369, R370). -/
def Obligations.LinksLockAndLoseLock : Prop :=
  ∀ (lane : Fin 16) (s : State) (n : Nat), Serving s → s.power.fatal = false → s.power.refclkLost = false → n < 4 →
    s.laneLink? lane = some n → s.laneRetired lane = false →
    ((s.link n).state = 1 → s.ingest.provisional = [] → Completes (.laneSyncLock lane) s (fun t =>
      let last := s.tb.state = 2 ∧ ∀ k ∈ s.linkLanes n, k = lane.val ∨ bitN (s.link n).laneLock k = true
      (¬ last → t = s.modLink n (fun l => { l with laneLock := setBit l.laneLock lane.val })) ∧
      (last → s.linkOk n = true → t.link n = { s.link n with state := 2, laneLock := setBit (s.link n).laneLock lane.val } ∧
        (∀ m, m ≠ n → t.link m = s.link m) ∧ SameBut [.ingest] s t) ∧
      (last → s.linkOk n = false → (t.link n).state = 3))) ∧
    (bitN (s.link n).laneLock lane.val = true → (∀ r ∈ s.crock.mirror.faults, r.outcome ≠ 5) →
      s.crock.mirror.faults.length < 1024 →
      Completes (.laneLockLoss lane) s (fun t =>
      let mine := s.crock.mirror.faults.filter (fun r => r.unitKind == 5 && r.lane == lane.val && r.core == 0 && r.tile == 63 &&
        r.column == 1023 && decide (r.outcome ≤ 2) && decide (s.powerS ≤ r.powerS + 86400))
      (∃ r ∈ t.crock.mirror.faults, r.kind = 12 ∧ r.unitKind = 5 ∧ r.lane = lane.val ∧ r.partition = s.linkPart n) ∧
      t.counter (linkCtr n 1) = min (s.counter (linkCtr n 1) + 1) (counterMax (linkCtr n 1)) ∧
      (mine.length < 2 → t.link n = { s.link n with
        state := (if (s.link n).state = 2 then 1 else (s.link n).state), laneLock := clrBit (s.link n).laneLock lane.val } ∧
        t.laneRetired lane = false) ∧
      (2 ≤ mine.length → (t.link n).state = 3 ∧ t.laneRetired lane = true) ∧
      SameBut [.draw, .power, .crock, .ingest, .funnels, .trace, .counters] s t))

/-- The samples of one frame of an Up link are written to the rings of its directly written streams (R219, R220, R225, R227): each
stream's sample has the link's index and the value of its N most significant bits, an I/Q stream takes two converters, and a
sample of a multiblock whose CRC failed on a lane of the link is marked. -/
def Obligations.SamplesReachTheirRings : Prop :=
  ∀ (n : Fin 4) (k : Nat) (crc : BitVec 16) (frame : List (BitVec 16 × BitVec 3)) (s : State), Serving s → s.power.fatal = false →
    s.power.refclkLost = false → s.tb.state = 2 → (s.link n).state = 2 → (s.link n).nextK ≤ k → s.linkf n 0 12 1 = 0 →
    s.chanOn n = false → (∀ d, s.decOn n d = false) → s.flows.ctxs = [] →
    (∀ i, i < s.linkStreams n → bitN (s.linkf n 0xC 0 32) i = true → (s.ring (streamNo n 0 i)).next ≤ k ∧
      (s.ring (streamNo n 0 i)).data.length < (s.ring (streamNo n 0 i)).cap) →
    Completes (.sampleArrival n k crc [frame]) s (fun t =>
    let bad := ∃ l ∈ s.linkLanes n, crc.getLsbD l = true
    let value := fun (i : Nat) => sx (s.linkN n) (bitsN (frame.getD i (0, 0)).1.toNat (s.linkNp n - s.linkN n) (s.linkN n))
    (∀ i, i < s.linkStreams n → bitN (s.linkf n 0xC 0 32) i = true → i < 32 →
      let r := s.ring (streamNo n 0 i)
      (t.ring (streamNo n 0 i)).data = r.data ++ [(k, if s.linkIq n then (value (2 * i), value (2 * i + 1)) else (value i, 0))] ∧
      (t.ring (streamNo n 0 i)).next = k + 1 ∧ (t.ring (streamNo n 0 i)).cap = r.cap ∧
      (t.ring (streamNo n 0 i)).lost = (if r.next < k then r.lost ++ [(r.next, k)] else r.lost) ∧
      (bad → (t.ring (streamNo n 0 i)).bad = r.bad ++ [k]) ∧ (¬ bad → (t.ring (streamNo n 0 i)).bad = r.bad)) ∧
    (t.link n).nextK = k + 1 ∧ t.counter (linkCtr n 0) = min (s.counter (linkCtr n 0) + 1) (counterMax (linkCtr n 0)) ∧
    t.ingest.decs = s.ingest.decs ∧ t.ingest.coefs = s.ingest.coefs ∧ SameBut [.ingest, .counters] s t)

/-- The next window of a Bound flow lacks a sample that can no longer come: once the tick has passed its last tick, a gap record with
the flow's next sequence number takes its place, with cause 3 where the link was disabled within it and else 2 (R231, R246). -/
def Obligations.UnreceivedWindowsLeaveGaps : Prop :=
  ∀ (f : Fin 16384) (s : State) (c : Ctx) (b : Binding) (o : Nat), Serving s → s.power.refclkLost = false → s.ctx? f = some c →
    c.isCmd = false → c.state = 2 → c.closing = none → c.bindings = [b] → b.origin = some o → 1 ≤ winHop b.window →
    let st := winStream b.window
    let start := o + winHop b.window * b.formed
    let last := fun (j : Nat) => (s.streamStamp st (o + winHop b.window * j + winLen b.window - 1)).toNat
    (s.link (streamLink st)).state ≠ 2 → (s.ring st).next < start + winLen b.window →
    last b.formed < 256 * s.tick → 256 * s.tick ≤ last (b.formed + 1) → Completes (.linkDownDrop f) s (fun t =>
    let first := (s.streamStamp st start).toNat
    let disabled := ∃ e ∈ (s.link (streamLink st)).disabledAt, e.1 * 256 ≤ last b.formed ∧ (∀ z, e.2 = some z → first < z * 256)
    (∃ k, (t.funnel c.part).waiting = (s.funnel c.part).waiting ++ [k] ∧ k.kind = 2 ∧ k.flow = f.val ∧ k.seq = c.resultSeq ∧
      k.first256 = first ∧ k.last256 = last b.formed ∧ (disabled → k.body = [d64 3]) ∧ (¬ disabled → k.body = [d64 2])) ∧
    (∃ d, t.ctx? f = some d ∧ d.resultSeq = (c.resultSeq + 1) % 2 ^ 64 ∧ d.bindings = [{ b with formed := b.formed + 1 }] ∧
      d.ready = c.ready ∧ d.run = c.run) ∧ (∀ p, p ≠ c.part → t.funnel p = s.funnel p) ∧
    (∀ g, g ≠ f.val → t.ctx? g = s.ctx? g) ∧ SameBut [.flows, .funnels, .trace] s t)

/-- A commit tick (R293 to R295): a set of register writes takes effect at it, advances the partition's configuration epoch alone, and the
COMMIT gets its reply with the epochs; a set that fails a check leaves everything as it was and the reply names the status and the
TAG at fault; before its tick nothing happens. -/
def Obligations.CommitTicksApplyOrDiscard : Prop :=
  ∀ (p : Fin 8) (q : Pending) (c : Cmd) (s : State), Serving s → s.pre.pending = [q] → q.part = p → q.globalSet = none →
    s.pre.cmds = [c] → c.id = q.cmd → s.ringOn c.h = true → s.pre.models = [] → s.flows.ctxs = [] →
    (s.tick < q.tick → exec (.commitTick p) s = .next s) ∧
    (∀ v : Word, q.tick ≤ s.tick → q.set = { cmds := [], regs := [(0x10000 * (p.val + 1) + 0x304, 0xFFFFFFFF, v)] } →
      (∀ n, n < 4 → s.ringPlan n = s.ringNow n) → Completes (.commitTick p) s (fun t =>
      t.reg (0x10000 * (p.val + 1) + 0x304) = v ∧ (∀ x, x ≠ 0x10000 * (p.val + 1) + 0x304 → t.reg x = s.reg x) ∧
      t.epochs p = ((s.epochs p).1, (s.epochs p).2 + 1) ∧ (∀ r, r < 8 → r ≠ p.val → t.epochs r = s.epochs r) ∧
      t.pre.pending = [] ∧ t.pre.cmds = [] ∧
      t.host = (s.modLane c.h.fn c.h.queue.toNat (fun l => { l with
        held := l.held ++ [replyOf c.h c.op stOk [(s.epochs p).1, (s.epochs p).2 + 1, 0, 0] s] })).host ∧
      SameBut [.host, .pre, .trace] s t)) ∧
    (∀ (x : Staged) (regs : List RegWrite), q.tick ≤ s.tick → q.set = { cmds := [x], regs := regs } → x.op = 0x104 → x.cmd = none →
      Completes (.commitTick p) s (fun t =>
      t.pre = { s.pre with pending := [], cmds := [] } ∧
      t.host = (s.modLane c.h.fn c.h.queue.toNat (fun l => { l with held := l.held ++
        [replyOf c.h c.op stNoResource [(s.epochs p).1, (s.epochs p).2, 0x10000, x.h.tag] s] })).host ∧
      SameBut [.host, .pre, .trace] s t))

/-- A Closing flow whose last window has finished is Closed: its line is freed and FLOW_CLOSE replies with the windows cancelled; one
with a window in progress stays (R253). -/
def Obligations.ClosingFlowsEnd : Prop :=
  ∀ (f : Fin 16384) (s : State) (c : Ctx) (z : Closing) (cmd : Cmd), Serving s → s.ctx? f = some c → c.isCmd = false →
    c.closing = some z → z.drain = false → c.ready = [] →
    (c.run ≠ none → exec (.flowClosed f) s = .next s) ∧
    (c.run = none → s.pre.cmds = [cmd] → z.cmd = some cmd.id → s.ringOn cmd.h = true → Completes (.flowClosed f) s (fun t =>
      t.ctx? f = none ∧ (∀ g, g ≠ f.val → t.ctx? g = s.ctx? g) ∧ t.pre = { s.pre with cmds := [] } ∧
      t.host = (s.modLane cmd.h.fn cmd.h.queue.toNat (fun l => { l with
        held := l.held ++ [replyOf cmd.h cmd.op stOk [w32 z.cancelled] s] })).host ∧
      t.flows.runs = s.flows.runs ∧ (∀ e ∈ t.flows.spillLines, e ∈ s.flows.spillLines ∧ e.1 ≠ f.val) ∧
      SameBut [.flows, .host, .pre, .trace] s t))

/-- A slicer cycle with one flow whose oldest window is ready dispatches it (R259, R260, R303): the first part enters queue 0 of its
core; a partition without contexts does nothing. An overloaded partition clears after 1 ms without a drop, not before (R268). A
part that has not entered within the timeout of Q0 fires the entry watchdog: its window is abandoned with a WATCHDOG record that
names the part, and is counted (R257). -/
def Obligations.SlicerCyclesDispatchWindows : Prop :=
  (∀ (p : Fin 8) (s : State), s.coresRun = true → s.partOn p = true → s.pre.pending = [] → s.flows.ctxs = [] →
    (∀ c, (s.core c).prefetch = []) → exec (.slicerCycle p) s = .next s) ∧
  (∀ (p : Fin 8) (s : State) (n : Nat) (c : Ctx) (w : Window) (rest : List Window) (part : Part), s.coresRun = true → s.partOn p = true →
    s.pre.pending = [] → s.flows.ctxs = [(n, c)] → c.part = p → c.isCmd = false → c.state = 2 → c.run = none →
    c.ready = w :: rest → bit (w.sched.getD 1 0) 4 = false → (∀ v ∈ rest, bit (v.sched.getD 1 0) 4 = false) → w.kernel.parts = [part] →
    part.entryAtDispatch = true → part.queue = none → part.steps ≠ [] → (s.core part.core).queues = [] → s.coreOpen part.core = true →
    (∀ t ∈ s.allTiles w.kernel, s.tileUsable t.1 t.2 = true) → s.funnelFull p = false → s.regf (partOff p 0x300) 0 1 = 0 →
    Completes (.slicerCycle p) s (fun t =>
    (∃ v, (t.core part.core).queues = [(0, v)] ∧ v.ctx = n ∧ v.run = s.flows.nextRun ∧ v.part = 0 ∧ v.step = 0 ∧ v.entryClk = s.clk) ∧
    (∃ d, t.ctx? n = some d ∧ d.run = some s.flows.nextRun ∧ d.ready = rest ∧ d.bindings = c.bindings) ∧
    (∃ r, t.run? s.flows.nextRun = some r ∧ r.ctx = n ∧ r.window = some w ∧ r.kernel = w.kernel ∧
      r.deadline = w.last256 + 256 * (w.sched.getD 0 0).toNat ∧ r.abandoned = false) ∧
    t.counter (partCtr p 1) = min (s.counter (partCtr p 1) + 1) (counterMax (partCtr p 1)) ∧
    SameBut [.flows, .cores, .counters, .trace] s t)) ∧
  (∀ (p : Fin 8) (s : State) (clk : Nat), Serving s → tget? s.flows.overload p = some clk →
    (s.clk < clk + msClk → exec (.overloadClear p) s = .next s) ∧
    (clk + msClk ≤ s.clk → exec (.overloadClear p) s =
      .next { s with flows := { s.flows with overload := tdel s.flows.overload p } })) ∧
  (∀ (p : Fin 8) (n : Fin 16384) (s : State) (c : Ctx) (rid : Nat) (r : Run) (part : Part) (v : SaveRec), s.coresRun = true →
    s.ctx? n = some c → c.part = p → c.isCmd = false → c.run = some rid → s.run? rid = some r → r.ctx = n.val → part.core < 32 → r.abandoned = false →
    r.status = none → r.kernel.parts[0]? = some part → tget? c.saves 0 = some v → v.started = false → v.left = false →
    (s.clk < r.dispatchClk + s.timeout p 0 → exec (.flowEntryWatchdog p n) s = .next s) ∧
    (r.dispatchClk + s.timeout p 0 ≤ s.clk → Completes (.flowEntryWatchdog p n) s (fun t =>
      let value := (tget c.sync (48 * part.core + part.entryCounter) (0, 0)).1.toNat
      (∃ k ∈ (t.funnel p).waiting, k.kind = 3 ∧ k.flow = n.val ∧ k.seq = c.resultSeq ∧
        k.body = [d64 (part.core + 65536 * part.entryCounter + 2 ^ 32 * v.eEntry), d64 value]) ∧
      (∃ d, t.ctx? n = some d ∧ d.run = none) ∧
      t.counter (partCtr p 13) = min (s.counter (partCtr p 13) + 1) (counterMax (partCtr p 13)) ∧
      t.counter (coreCtr part.core 45) = min (s.counter (coreCtr part.core 45) + 1) (counterMax (coreCtr part.core 45)) ∧
      SameBut [.trace, .counters, .cores, .flows, .funnels] s t)))

/-! ## The commands of the opcode map -/

/-- A packet that a check refuses gets its status and has no other effect; the level of the function is checked before what a function
bound to no partition may issue; a packet whose reply ring is not enabled gets no reply and is counted (R272, R280, R286). -/
def Obligations.RefusedCommandsOnlyReply : Prop :=
  ∀ (i : Instr) (op : Nat) (h : Hdr) (w : List Word) (s : State), packetOf i = some (op, h, w) → WellFormed.payload w = true →
    s.laneTakes h.fn h.lane = true →
    (∀ st, s.ringOn h = true → firstFail h op w true true s = some st → Completes i s (fun t =>
      t.host = (s.modLane h.fn h.queue.toNat (fun l => { l with held := l.held ++ [replyOf h op st [] s] })).host ∧
      (2 < op → h.level.toNat ≠ s.level h.fn → st = stBadLevel) ∧
      (2 < op → h.level = 2 → s.level h.fn = 2 → s.fnPart? h.fn = none → st = stSecurity) ∧ SameBut [.host, .trace] s t)) ∧
    (s.ringOn h = false → Completes i s (fun t =>
      t.counter (devCtr 7) = min (s.counter (devCtr 7) + 1) (counterMax (devCtr 7)) ∧ SameBut [.funnels, .counters, .trace] s t))

/-- NOP, GET_CAPS, TICK_READ, NET_STATUS and SET_LEVEL (R289, R290, R345, Tables 10.6 to 10.9): each answers at once with its record;
the first four change nothing else, SET_LEVEL sets the level of its function, and only while nothing of it is under way. -/
def Obligations.QueriesAndLevelsAnswerAtOnce : Prop :=
  ∀ (h : Hdr) (w : List Word) (s : State),
    (TakenAtOnce 0x000 h w s → Completes (.nop h w) s (Replied h 0x000 stOk [] s)) ∧
    (TakenAtOnce 0x001 h w s → Completes (.getCaps h w) s (fun t => ∃ r : List Word, Replied h 0x001 stOk r s t ∧
      (pf w 0 0 8 = 0 → r.length = 14) ∧ (pf w 0 0 8 = 1 → r = toWords 32 s.sec.card.bytes) ∧
      (pf w 0 0 8 = 2 → r.length = 33 ∧ ∀ n k, n < 32 → k < 32 → (r.getD n 0).getLsbD k = !s.tileOut n k) ∧
      (pf w 0 0 8 = 3 → r.length = 17 ∧ ∀ j, j < 536 → (r.getD (j / 32) 0).getLsbD (j % 32) =
        s.colRetired (pf w 1 0 5) (pf w 1 5 6) j))) ∧
    (TakenAtOnce 0x503 h w s → Completes (.tickRead h w) s (fun t =>
      let pt := s.ptpOf (256 * s.tick)
      Replied h 0x503 stOk [w32 (s.tick % 2 ^ 32), w32 (s.tick / 2 ^ 32), w32 (pt.1 % 2 ^ 32), w32 (pt.1 / 2 ^ 32), w32 pt.2.1,
        w32 (s.tb.state + 4 * b2n pt.2.2)] s t)) ∧
    (TakenAtOnce 0xB02 h w s → Completes (.netStatus h w) s (fun t => ∃ a b c d e g : Word,
      Replied h 0xB02 stOk [a, b, c, d, e, g] s t ∧ b = w32 (min (s.port (pf w 0 0 1)).fecCorr 0xFFFFFFFF) ∧
      c = w32 (min (s.port (pf w 0 0 1)).fecUncorr 0xFFFFFFFF) ∧ a.getLsbD 4 = s.net.ptpLocked ∧
      ((s.port (pf w 0 0 1)).link < 4 → a.toNat % 4 = (s.port (pf w 0 0 1)).link) ∧
      (∀ i, i < 32 → e.getLsbD i = (s.peer h.partition.toNat i).down ∧ g.getLsbD i = (s.peer h.partition.toNat (32 + i)).down))) ∧
    (TakenAtOnce 0x002 h w s → Completes (.setLevel h w) s (fun t =>
      let v := pf w 0 0 4
      let busy := (∃ c ∈ s.pre.cmds, c.h.fn = h.fn) ∨ ∃ p, s.fnPart? h.fn = some p ∧ s.partInUse p = true
      (v = 3 → Replied h 0x002 stBadLevel [] s t) ∧ (v ≠ 1 → v ≠ 2 → v ≠ 3 → Replied h 0x002 stBadParam [] s t) ∧
      (v = 1 ∨ v = 2 → busy → Replied h 0x002 stNoResource [] s t) ∧
      (v = 1 ∨ v = 2 → ¬ busy → t.level h.fn = v ∧ Replied h 0x002 stOk [w32 v]
        { s with host := { s.host with level := tset s.host.level h.fn v } } t)))

/-- COMMIT, CMD_CANCEL and STAGE_DISCARD (R293 to R295, R298): a COMMIT whose tick has come applies the open set and advances the
epochs; one with a tick to come closes the set and waits; CMD_CANCEL withdraws the waiting commands of its function that carry the
TAG and counts them; STAGE_DISCARD empties the open set, the global one for the physical function only. -/
def Obligations.SetsAreCommittedCancelledDiscarded : Prop :=
  (∀ (h : Hdr) (w : List Word) (s : State) (p : Fin 8) (v : Word), TakenAtOnce 0x003 h w s → h.partition.toNat = p → s.pre.pending = [] →
    s.openSet p = { cmds := [], regs := [(0x10000 * (p.val + 1) + 0x304, 0xFFFFFFFF, v)] } → s.openSet 8 = { cmds := [], regs := [] } →
    s.pre.models = [] → s.flows.ctxs = [] → (∀ n, n < 4 → s.ringPlan n = s.ringNow n) → Completes (.commit h w) s (fun t =>
    t.reg (0x10000 * (p.val + 1) + 0x304) = v ∧ (∀ x, x ≠ 0x10000 * (p.val + 1) + 0x304 → t.reg x = s.reg x) ∧
    t.epochs p = ((s.epochs p).1, (s.epochs p).2 + 1) ∧ t.openSet p = { cmds := [], regs := [] } ∧ t.pre.pending = [] ∧
    t.pre.cmds = s.pre.cmds ∧ t.host = (s.modLane h.fn h.queue.toNat (fun l => { l with
      held := l.held ++ [replyOf h 0x003 stOk [(s.epochs p).1, (s.epochs p).2 + 1, 0, 0] s] })).host ∧
    SameBut [.host, .pre, .trace] s t)) ∧
  (∀ (h : Hdr) (w : List Word) (s : State) (p : Fin 8), WellFormed.payload w = true → s.laneTakes h.fn h.lane = true →
    s.ringOn h = true → firstFail h 0x003 w true true s = none → h.fence = false → s.power.state = 0 → s.power.refclkLost = false →
    FreshNumbers s → h.partition.toNat = p → s.pre.pending = [] → s.tick < h.atTick.toNat → Completes (.commit h w) s (fun t =>
    t.pre.pending = [{ part := p, tick := h.atTick.toNat, cmd := s.pre.nextCmd, set := s.openSet p,
                       globalSet := if h.fn.val = 0 then some (s.openSet 8) else none }] ∧
    t.openSet p = { cmds := [], regs := [] } ∧ t.pre.cmds = s.pre.cmds ++ [{ taken 0x003 h w s with wait := .atTick }] ∧
    t.pre.regs = s.pre.regs ∧ SameBut [.pre, .trace] s t)) ∧
  (∀ (h : Hdr) (w : List Word) (s : State) (x : Cmd), TakenAtOnce 0x004 h w s → s.pre.cmds = [x] → x.h.fn = h.fn →
    x.h.queue = h.queue → s.pre.pending = [] → s.pre.models = [] → s.waiting = [] → x.wait = .atTick →
    (x.h.tag ≠ pw w 0 → Completes (.cmdCancel h w) s (Replied h 0x004 stOk [0] s)) ∧
    (x.h.tag = pw w 0 → Completes (.cmdCancel h w) s (fun t => t.pre.cmds = [] ∧
      (t.lane h.fn h.queue.toNat).held = (s.lane h.fn h.queue.toNat).held ++
        [replyOf x.h x.op stCancelled [] s, replyOf h 0x004 stOk [1] s] ∧ SameBut [.host, .pre, .cores, .trace] s t))) ∧
  (∀ (h : Hdr) (w : List Word) (s : State), TakenAtOnce 0x005 h w s →
    let global := pf w 0 0 1 = 1
    let n := if global then 8 else h.partition.toNat
    (global → h.fn.val ≠ 0 → Completes (.stageDiscard h w) s (Replied h 0x005 stSecurity [] s)) ∧
    (global → h.fn.val = 0 ∨ ¬ global → (∀ x ∈ (s.openSet n).cmds, x.cmd = none ∧ x.op ≠ 0x103) →
      Completes (.stageDiscard h w) s (Replied h 0x005 stOk [w32 (s.openSet n).cmds.length]
        { s with pre := { s.pre with sets := tdel s.pre.sets n } })))

/-- A staged command that passes its check joins the open set of its partition, or the global set, in place of an earlier change of the
same object, and takes effect only at a commit; one that fails gets its status (R291, R292, R300, R301). FLOW_CLOSE keeps its reply
for the end of its flow (R253); MODEL_COMMIT marks the model staged; MODEL_RETIRE is staged for a committed model and releases a held
one at once, whose held tile is then erased (R130). -/
def Obligations.StagedCommandsJoinTheirSet : Prop :=
  ∀ (i : Instr) (op : Nat) (h : Hdr) (w : List Word) (s : State), packetOf i = some (op, h, w) → TakenAtOnce op h w s →
    let p := h.partition.toNat
    let n := if op = 0x600 ∨ op = 0x601 ∨ op = 0xB00 then 8 else p
    let rest := (s.openSet n).cmds.filter (fun x => objectOf x.op x.w ≠ objectOf op w)
    let put := fun (keep : Option Nat) => { s with pre := { s.pre with
      sets := tset s.pre.sets n { s.openSet n with cmds := rest ++ [{ h := h, op := op, w := w, cmd := keep }] } } }
    rest.length < 1024 → (∀ x ∈ (s.openSet n).cmds, x.cmd = none) →
    (op ∈ [0x105, 0x201, 0x302, 0x501, 0x502, 0x600, 0x601, 0xB00, 0xB01] →
      (stageCheck s p op w = none → Completes i s (Replied h op stOk [] (put none))) ∧
      (∀ st, stageCheck s p op w = some st → Completes i s (Replied h op st [] s))) ∧
    (op = 0x202 → stageCheck s p op w = none → Completes i s (UnderWay op h w .staged s (put (some s.pre.nextCmd)))) ∧
    (op = 0x103 → stageCheck s p op w = none → Completes i s (Replied h op stOk []
      (modModel p (pq w 0) (fun m => if m.state = 0 then { m with state := 1 } else m) (put none)))) ∧
    (∀ m, op = 0x104 → s.model? p (pq w 0) = some m → m.loading = none →
      s.stagedAny p (fun x => x.op == 0x103 && pq x.w 0 == pq w 0) = false →
      (m.state = 2 → Completes i s (Replied h op stOk [0] (put none))) ∧
      (m.state ≠ 2 → ∀ r, m.records = [r] → (s.tile r.core r.tile).state = .held → (s.tile r.core r.tile).owner = some (p, pq w 0) →
        (s.tile r.core r.tile).job = none → r.tile ≠ 32 → s.running = [] → s.waiting = [] → Completes i s (fun t =>
        t.model? p (pq w 0) = none ∧ (t.tile r.core r.tile).owner = none ∧ (t.tile r.core r.tile).job = some .erase ∧
        t.running = [actTile 3 1 r.core r.tile (s.corePartNo r.core) none] ∧
        t.host = (s.modLane h.fn h.queue.toNat (fun l => { l with held := l.held ++ [replyOf h op stOk [1] s] })).host ∧
        SameBut [.host, .pre, .tiles, .running, .trace] s t)))

/-- Commands whose work Whisk, the calibration engine and the self-test do (R131, R141, R146, R376, R385, R390): with nothing running
that conflicts the activity begins and the command is under way; with a conflict it replies DEFERRED and waits. MODEL_LOAD takes a
sound image, gives its tiles their programming and refuses any other with its status (R127, R128). -/
def Obligations.ActivitiesBeginOrWait : Prop :=
  ∀ (h : Hdr) (w : List Word) (s : State), s.waiting = [] →
    let p := h.partition.toNat
    let core := pf w 0 0 5
    let tile := pf w 0 5 6
    let id := some s.pre.nextCmd
    (TakenAtOnce 0x102 h w s → bitN (s.partCores p) core = true → (s.tile core tile).state = .ready → s.tileOut core tile = false →
      let a := actTile 1 0 core tile p id
      (s.running = [] → Completes (.tileVerify h w) s (UnderWay 0x102 h w .running s { s with running := [a] })) ∧
      (∀ b, s.running = [b] → conflict a b = true → Completes (.tileVerify h w) s (UnderWay 0x102 h w .deferred s { s with
        waiting := [a], host := (s.modLane h.fn h.queue.toNat (fun l => { l with held := l.held ++
          [{ words := replyWords h 0x102 stDeferred [] s, irq := h.irq, lane := h.lane, final := false }] })).host }))) ∧
    (TakenAtOnce 0x702 h w s → s.running = [] → bitN (s.partCores p) core = true → s.tileOut core tile = false →
      (s.tile core tile).state ≠ .awaiting → tile ≠ 63 →
      (pf w 0 11 1 = 0 → Completes (.recal h w) s (UnderWay 0x702 h w .running s { (s.modTile core tile (fun v => { v with refDue := true })) with
          running := [actTile 2 0 core tile (s.corePartNo core) id] })) ∧
      (pf w 0 11 1 = 1 → Completes (.recal h w) s (UnderWay 0x702 h w .running s { (s.modTile core tile (fun v => { v with calDue := true })) with
          running := [actTile 4 0 core tile (s.corePartNo core) id] }))) ∧
    (TakenAtOnce 0x701 h w s → s.running = [] →
      (s.coreRetired core = true → Completes (.selftest h w) s (Replied h 0x701 stNoResource [] s)) ∧
      (s.coreRetired core = false → bitN (s.partCores p) core = true → Completes (.selftest h w) s (fun t =>
        t.running = [{ code := 1, sort := 1, core := core, tile := 63, part := s.corePartNo core, cmd := id }] ∧
        (t.core core).testCmd = id ∧ (t.core core).testStart = s.clk ∧ (t.core core).testSlices = 0 ∧ (t.core core).testFails = 0 ∧
        t.pre = { s.pre with cmds := s.pre.cmds ++ [taken 0x701 h w s], nextCmd := s.pre.nextCmd + 1 } ∧
        SameBut [.pre, .cores, .running, .trace] s t))) ∧
    (TakenAtOnce 0x700 h w s → s.running = [] →
      (pf w 0 0 4 = 7 → Completes (.maintStart h w) s (UnderWay 0x700 h w .running s { s with running := [actPlain 7 255 s.pre.nextCmd] })) ∧
      (pf w 0 0 4 = 6 → Completes (.maintStart h w) s (fun t => t.running = [actPlain 6 255 s.pre.nextCmd] ∧
        (∃ j, t.crock.save = some j ∧ j.cmd = id ∧ j.lastHalt = 4 ∧ j.target = 1 - s.crock.newest ∧
          (t.crock.copy j.target).complete = 0) ∧ SameBut [.pre, .crock, .running, .trace] s t)) ∧
      (pf w 0 0 4 = 5 → p < 8 → s.flows.ctxs = [] → Completes (.maintStart h w) s (Replied h 0x700 stOk [] s))) ∧
    (∀ m r, TakenAtOnce 0x101 h w s → s.running = [] →
      let core := pf w 2 0 5
      let tile := pf w 2 5 6
      s.model? p (pq w 0) = some m → m.loading = none → tile ≠ 32 → m.records = [r] → r.core = core → r.tile = tile →
      s.placeable p r = true → s.claimed p (pq w 0) r = false → (s.tile core tile).job = none → (s.tile core tile).state ≠ .programming →
      let under := fun (j : WhiskJob) => Completes (.tileProgram h w) s (UnderWay 0x101 h w .running s
        { (s.modTile core tile (fun v => { v with job := some j })) with running := [actTile 3 0 core tile p id] })
      (s.holdsDigest r = true → under (.refresh (s.tile core tile).state id)) ∧
      (s.holdsDigest r = false → under (.program r (pq w 0) p id))) ∧
    (TakenAtOnce 0x100 h w s → s.running = [] →
      let b := s.hostRead (pq w 0) (pq w 2)
      (s.imageLeft p < pq w 2 → Completes (.modelLoad h w) s (Replied h 0x100 stNoResource [] s)) ∧
      (∀ st, pq w 2 ≤ s.imageLeft p → imageCheck s p b = some st → Completes (.modelLoad h w) s (Replied h 0x100 st [] s)) ∧
      (∀ im r, pq w 2 ≤ s.imageLeft p → imageCheck s p b = none → parseImage b = some im → im.records = [r] →
        s.model? p im.id = none → s.pkg.poison = [] → (s.tile r.core r.tile).state = .blank → (s.tile r.core r.tile).job = none →
        Completes (.modelLoad h w) s (UnderWay 0x100 h w .running s { (s.modTile r.core r.tile (fun v => { v with
            job := some (.program r im.id p id) })) with
          pre := { s.pre with models := s.pre.models ++ [newModel p s.pre.nextCmd (pq w 2) im] },
          running := [actTile 3 0 r.core r.tile p id] })))

/-- The flow, kernel and synchronisation commands (R190, R211, R212, R251, R254, R300 to R303): FLOW_OPEN opens a Closed flow;
FLOW_SNAPSHOT and SYNC_READ write what they show to host memory; SYNC_SET adds to a sync counter like a signal or sets a work
counter; KRN_DEFINE keeps a sound descriptor; KRN_SUBMIT gives the kernel the lowest free line of its partition. -/
def Obligations.FlowsKernelsAndCountersAreCommanded : Prop :=
  ∀ (h : Hdr) (w : List Word) (s : State),
    let p := h.partition.toNat
    let n := pf w 0 0 14
    let core := pf w 0 16 5
    (TakenAtOnce 0x200 h w s → s.inShare p n = true →
      (s.ctx? n ≠ none → Completes (.flowOpen h w) s (Replied h 0x200 stNoResource [] s)) ∧
      (s.ctx? n = none → (∀ e ∈ s.flows.spillLines, e.2 ≠ n) → s.contextFits p (pw w 1).toNat = true →
        Completes (.flowOpen h w) s (fun t => ∃ base, ((pw w 1).toNat = 0 → base = 0) ∧ Replied h 0x200 stOk []
          (s.nextDraw.setCtx n { Ctx.blank p 1 with coldBytes := (pw w 1).toNat, coldBase := base }) t))) ∧
    (∀ c, TakenAtOnce 0x203 h w s → s.inShare p n = true → s.ctx? n = some c → c.isCmd = false → c.state = 1 ∨ c.state = 2 →
      Completes (.flowSnapshot h w) s (fun t => ∃ b : Bytes, b.length = 1024 + min (pw w 1).toNat c.coldBytes ∧
        b.take 4 = leBytes 2 n ++ leBytes 1 c.part ++ leBytes 1 c.state ∧
        Replied h 0x203 stOk [w32 b.length] (s.hostWrite (pq w 2) b) t)) ∧
    (∀ c, TakenAtOnce 0x400 h w s → s.ctx? n = some c → c.part = p → bitN (s.partCores p) core = true →
      Completes (.syncRead h w) s (fun t => ∃ b : Bytes, b.length = 448 ∧
        (∀ i, i < 48 → (b.drop (8 * i)).take 8 = wordBytes [(c.vb core i).1, (c.vb core i).2]) ∧
        (s.residentOn core n = false → b.drop 384 = List.replicate 64 0) ∧
        Replied h 0x400 stOk [w32 448] (s.hostWrite (pq w 1) b) t)) ∧
    (TakenAtOnce 0x401 h w s → core < 32 →
      let k := pf w 0 22 6
      let v := (pw w 1).toNat
      let done := fun (t : State) => t.counter (coreCtr core 46) = min (s.counter (coreCtr core 46) + 1) (counterMax (coreCtr core 46)) ∧
        t.host = (s.modLane h.fn h.queue.toNat (fun l => { l with held := l.held ++ [replyOf h 0x401 stOk [] s] })).host ∧
        SameBut [.host, .pre, .flows, .funnels, .counters, .trace] s t
      (pf w 0 21 1 = 1 → s.workOwned p k = true → Completes (.syncSet h w) s (fun t => tget t.flows.node.counters k 0 = v ∧ done t)) ∧
      (∀ c, pf w 0 21 1 = 0 → s.ctx? n = some c → c.part = p → c.state ≠ 3 → bitN (s.partCores p) core = true →
        (s.residentOn core n = false → Completes (.syncSet h w) s (fun t =>
          t.flows = { s.flows with pot := s.flows.pot ++ [{ core := core, ctx := n, counter := k, inc := v }] } ∧ done t)) ∧
        (∀ q x, (s.core core).queues = [(q, x)] → x.ctx = n → x.stall = .none → Completes (.syncSet h w) s (fun t =>
          (∃ d, t.ctx? n = some d ∧ d.vb core k = ((c.vb core k).1 + w32 v, (c.vb core k).2)) ∧ done t)))) ∧
    (TakenAtOnce 0x301 h w s →
      let b := s.hostRead (pq w 1) (pw w 3).toNat
      (parseKernel p (pw w 0).toNat b = none → Completes (.krnDefine h w) s (Replied h 0x301 stBadParam [] s)) ∧
      (∀ k, parseKernel p (pw w 0).toNat b = some k →
        (∀ st, defineCheck s p (pw w 0).toNat (pw w 3).toNat k = some st → Completes (.krnDefine h w) s (Replied h 0x301 st [] s)) ∧
        (defineCheck s p (pw w 0).toNat (pw w 3).toNat k = none → Completes (.krnDefine h w) s
          (Replied h 0x301 (if k.spills then stAccSpill else stOk) [w32 k.parts.length]
            { s with pre := { s.pre with kernels := s.pre.kernels ++ [k] } })))) ∧
    (∀ k line, TakenAtOnce 0x300 h w s → h.level = 2 → s.kernel? p (pw w 0).toNat = some k → k.level1 = false → inputFits
        { taken 0x300 h w s with wait := .running } k = true → modelCheck s false true k = none → useCheck s k = none →
      s.contextFits p (inboxBytes k) = true → (s.freeLines p).head? = some line → Completes (.krnSubmit h w) s (fun t =>
      ∃ c, UnderWay 0x300 h w .running s { s with flows := { s.flows with
          ctxs := tset s.flows.ctxs line c, nextOrder := s.flows.nextOrder + 1 } } t ∧
        c.isCmd = true ∧ c.part = p ∧ c.state = 2 ∧ c.cmd = some s.pre.nextCmd ∧ c.tag = h.tag ∧ c.kernel = some k ∧
        c.deadline = 256 * (s.tick + (pw w 1).toNat) ∧ c.run = none))

/-- TRIG_PULSE puts its assertion in the schedule of a pin its partition owns, with the timebase Running (R239, R301); IG_COEF_LOAD
writes Q1.15 values from host memory (R222); HK_SEQ puts entry words, whose results are then not valid; HK_CAL_ZERO and HK_CAL_FULL
begin a capture, one at a time, the second only after the first (R424, R426). -/
def Obligations.PinsCoefficientsAndProbeAreCommanded : Prop :=
  ∀ (h : Hdr) (w : List Word) (s : State),
    (TakenAtOnce 0x500 h w s →
      let pin := pf w 0 0 3
      (s.tb.state ≠ 2 → Completes (.trigPulse h w) s (Replied h 0x500 stNoTimebase [] s)) ∧
      (s.tb.state = 2 → s.trigOutf pin 2 3 ≠ h.partition.toNat ∨ s.trigOutf pin 0 1 = 0 →
        Completes (.trigPulse h w) s (Replied h 0x500 stNoResource [] s)) ∧
      (s.tb.state = 2 → s.trigOutf pin 2 3 = h.partition.toNat → s.trigOutf pin 0 1 = 1 → (s.pin pin).schedule.length < 64 →
        s.instNow + 1600 ≤ s.pinInst (pq w 1) → Completes (.trigPulse h w) s (fun t =>
        Replied h 0x500 stOk [] { s with tb := { s.tb with trigOut := t.tb.trigOut } } t ∧
        (∀ a, a ∈ (t.pin pin).schedule ↔ a = { tick := pq w 1, at_ := s.pinInst (pq w 1), source := none } ∨
          a ∈ (s.pin pin).schedule) ∧ (t.pin pin).schedule.length = (s.pin pin).schedule.length + 1 ∧
        (t.pin pin).activeUntil = (s.pin pin).activeUntil ∧ ∀ q, q ≠ pin → t.pin q = s.pin q))) ∧
    (TakenAtOnce 0x602 h w s → (∀ k, s.chanOn k = false) → s.pre.pending = [] → (∀ x ∈ (s.openSet 8).cmds, x.op ≠ 0x600) →
      Completes (.igCoefLoad h w) s (fun t =>
      let first := pf w 0 0 17
      let n := pf w 1 0 18
      let b := s.hostRead (pq w 2) (2 * n)
      Replied h 0x602 stOk [] { s with ingest := { s.ingest with coefs := t.ingest.coefs } } t ∧
      (∀ i, i < n → tget t.ingest.coefs (first + i) 0 = sx 16 (leAt b (2 * i) 2)) ∧
      (∀ i, i < first ∨ first + n ≤ i → tget t.ingest.coefs i 0 = tget s.ingest.coefs i 0))) ∧
    (TakenAtOnce 0x800 h w s → Completes (.hkSeq h w) s (fun t =>
      let first := pf w 0 0 4
      Replied h 0x800 stOk [] { s with probe := t.probe } t ∧
      (∀ i, i + 1 < w.length → tget? t.probe.entries (first + i) = some (w.getD (i + 1) 0) ∧
        ∃ r, tget? t.probe.results (first + i) = some r ∧ r.valid = false) ∧
      (∀ e, e < first ∨ first + (w.length - 1) ≤ e → tget? t.probe.entries e = tget? s.probe.entries e ∧
        tget? t.probe.results e = tget? s.probe.results e) ∧
      t.probe.alert = s.probe.alert ∧ t.probe.capture = s.probe.capture ∧ t.probe.zero = s.probe.zero)) ∧
    (TakenAtOnce 0x801 h w s →
      (s.probe.capture ≠ none → Completes (.hkCalZero h w) s (Replied h 0x801 stNoResource [] s)) ∧
      (s.probe.capture = none → Completes (.hkCalZero h w) s (UnderWay 0x801 h w .running s { s with probe := { s.probe with
        capture := some { pin := pf w 0 0 3, full := false, vfs := 0, n := 0, sum := 0, spoiled := false, cmd := s.pre.nextCmd } } }))) ∧
    (TakenAtOnce 0x802 h w s →
      (s.probe.capture ≠ none ∨ tget? s.probe.zero (pf w 0 0 3) = none → Completes (.hkCalFull h w) s (Replied h 0x802 stNoResource [] s)) ∧
      (s.probe.capture = none → tget? s.probe.zero (pf w 0 0 3) ≠ none → Completes (.hkCalFull h w) s (UnderWay 0x802 h w .running s
        { s with probe := { s.probe with capture := some { pin := pf w 0 0 3, full := true, vfs := (pw w 1).toNat, n := 0, sum := 0,
                                                           spoiled := false, cmd := s.pre.nextCmd } } })))

/-- ATTEST writes the report and a signature of 512 bytes, as much as the buffer takes (R284, R418); FAULT_READ and FAULT_EXPORT write the
records the issuer may see (R384); FW_STAGE fills the spare slot only with an image that verifies (R412, R413); FW_ACTIVATE needs a
staged image (R414). -/
def Obligations.ReportsFaultsAndFirmwareAreCommanded : Prop :=
  ∀ (h : Hdr) (w : List Word) (s : State),
    (TakenAtOnce 0x900 h w s → Completes (.attest h w) s (fun t =>
      let body := s.report (if h.fn.val = 0 then 0xFF else h.partition.toNat) (wordBytes (w.take 16))
      ∃ sig : Bytes, sig.length = 512 ∧ Replied h 0x900 stOk [w32 (body.length + 512)]
        (s.hostWrite (pq w 16) ((body ++ sig).take (pw w 18).toNat)) t)) ∧
    (let rs := (s.crock.mirror.faults.filter (fun r => decide ((pw w 0).toNat ≤ r.index) &&
        (h.fn.val == 0 || r.partition == h.partition.toNat))).take (pw w 1).toNat
     (TakenAtOnce 0xA00 h w s → Completes (.faultRead h w) s (
        let fit := rs.take ((pw w 4).toNat / 64)
        Replied h 0xA00 stOk [w32 fit.length] (s.hostWrite (pq w 2) (fit.flatMap FaultRec.bytes)))) ∧
     (TakenAtOnce 0xA01 h w s → Completes (.faultExport h w) s (
        Replied h 0xA01 stOk [w32 (s.faultCbor rs).length] (s.hostWrite (pq w 2) ((s.faultCbor rs).take (pw w 4).toNat))))) ∧
    (TakenAtOnce 0x901 h w s → (pw w 2).toNat ≤ 8388608 →
      let n := (pw w 2).toNat
      let b := s.hostRead (pq w 0) n
      let spare := fun (t : State) => if t.sec.active = 0 then t.sec.slotB else t.sec.slotA
      let kept := fun (t : State) => t.sec.active = s.sec.active ∧ t.sec.slot s.sec.active = s.sec.slot s.sec.active ∧
        t.sec.keySlots = s.sec.keySlots ∧ t.sec.svn = s.sec.svn ∧ t.sec.card = s.sec.card
      (s.sec.active < 2 → Completes (.fwStage h w) s (fun t =>
        (fwFormOk s.sec b n = false → Replied h 0x901 stBadParam [] s t) ∧
        (fwFormOk s.sec b n = true → fwSound s.sec b n = true → Replied h 0x901 stOk [] { s with sec := t.sec } t ∧ kept t ∧
          t.sec.staged = true ∧ t.sec.activatePending = false ∧ (spare t).bootable = true ∧ (spare t).version = leAt b 0xC 4 ∧
          t.sec.stagedVersion = leAt b 0xC 4) ∧
        (fwFormOk s.sec b n = true → fwSound s.sec b n = false → Replied h 0x901 stSecurity [] { s with sec := t.sec } t ∧ kept t ∧
          t.sec.staged = false ∧ (spare t).bootable = false)))) ∧
    (TakenAtOnce 0x902 h w s →
      (s.sec.staged = true → Completes (.fwActivate h w) s (Replied h 0x902 stOk [] { s with sec := { s.sec with activatePending := true } })) ∧
      (s.sec.staged = false → Completes (.fwActivate h w) s (Replied h 0x902 stNoResource [] s)))

/-- UNIT_RETIRE retires the unit it names, a column or tile as reprogramming under the arbiter, with a HOST_RETIRE record; UNIT_RESTORE
gives a retired column or tile to Whisk and a retired core to the self-test, restores a lane provisionally, and refuses a unit that is
not retired (R377, R378). -/
def Obligations.UnitsAreRetiredAndRestored : Prop :=
  ∀ (h : Hdr) (w : List Word) (s : State), s.running = [] → s.waiting = [] → s.flows.runs = [] →
    let kind := bits (pw w 0) 0 2
    let core := bits (pw w 0) 2 5
    let tile := bits (pw w 0) 7 6
    let column := bits (pw w 0) 13 10
    let lane := bits (pw w 0) 23 4
    let id := some s.pre.nextCmd
    (TakenAtOnce 0xA02 h w s → s.crock.mirror.faults.length < 1024 →
      let done := fun (kind' : Nat) (t : State) =>
        t.host = (s.modLane h.fn h.queue.toNat (fun l => { l with held := l.held ++ [replyOf h 0xA02 stOk [] s] })).host ∧
        (∃ r ∈ t.crock.mirror.faults, r.kind = 0x0F ∧ r.outcome = 4 ∧ r.unitKind = kind' ∧ r.core = core) ∧
        SameBut [.draw, .crock, .host, .pre, .tiles, .ingest, .funnels, .trace] s t
      (kind = 0 → tile ≤ 32 → column < 512 → s.colRetired core tile column = false → s.colsRetired < 4048 →
        s.tileColsRetired core tile < 16 → Completes (.unitRetire h w) s (fun t => t.colRetired core tile column = true ∧ done 0 t)) ∧
      (kind = 1 → tile < 32 → (s.tile core tile).state ≠ .retired → Completes (.unitRetire h w) s (fun t =>
        (t.tile core tile).state = .retired ∧ done 3 t)) ∧
      (kind = 2 → s.coreRetired core = false → Completes (.unitRetire h w) s (fun t => t.coreRetired core = true ∧ done 4 t)) ∧
      (kind = 3 → s.laneRetired lane = false → Completes (.unitRetire h w) s (fun t => t.laneRetired lane = true ∧
        (∀ n, n < 4 → s.linkOn n = true → lane ∈ s.linkLanes n → (t.link n).state = 3)))) ∧
    (TakenAtOnce 0xA03 h w s →
      let under := fun (job : WhiskJob) => Completes (.unitRestore h w) s (UnderWay 0xA03 h w .running s
        { (s.modTile core tile (fun v => { v with job := some job })) with running := [actTile 3 0 core tile (s.corePartNo core) id] })
      (kind = 0 → tile < 32 → column < 528 → s.colRetired core tile column = true → s.coreRetired core = false →
        (s.tile core tile).job = none → (s.tile core tile).state = .ready → (s.tile core tile).shadow = true →
        under (.restoreColumn column .ready id)) ∧
      (kind = 1 → tile ≤ 32 → s.coreRetired core = false → (s.tile core tile).job = none → (s.tile core tile).state = .retired →
        under (.restoreTile id)) ∧
      (kind = 2 → s.coreRetired core = true → Completes (.unitRestore h w) s (fun t =>
        t.running = [{ code := 1, sort := 1, core := core, tile := 63, part := s.corePartNo core, cmd := id }] ∧
        (t.core core).testCmd = id ∧ (t.core core).marginClock = false ∧ t.coreRetired core = true)) ∧
      (kind = 3 → s.laneRetired lane = true → Completes (.unitRestore h w) s (fun t => t.laneRetired lane = false ∧
        lane ∈ t.ingest.provisional ∧ Replied h 0xA03 stOk [] { s with crock := t.crock, ingest := t.ingest } t)) ∧
      (kind = 2 ∧ s.coreRetired core = false ∨ kind = 3 ∧ s.laneRetired lane = false →
        Completes (.unitRestore h w) s (Replied h 0xA03 stNoResource [] s)))

/-! ## Queues, messages and layers -/

/-- The head step of a queue starts (R149, R161, R165, R172, R191, R194, R195, R198 to R200): a LAYER begins its batch loop, or claims
its items first; a SIGNAL adds to its own core's counter at once or leaves on the Ladle; a WAIT goes on when V has reached E in
circular order and else stalls with its E; LID_ARRIVE asserts the core's arrival once all the queue sent has been written; FENCE
and WORK_RESET stall the queue until they are acknowledged. -/
def Obligations.StepsOfAQueueRun : Prop :=
  ∀ (core : Fin 32) (q : Fin 4) (s : State) (h : Head), s.head? core q = some h → s.coreUp core = true → h.idle = true →
    h.v.step + 1 < h.part.steps.length →
    let next := { h.v with step := h.v.step + 1, stall := .none, loop := none, readout := none, progressClk := s.clk, resumptions := 0 }
    let now := fun (v : Queue) (t : State) => t.queue? core q = some v ∧
      ∀ c r, ¬ (c = core.val ∧ r = q.val) → t.queue? c r = s.queue? c r
    let stalled := fun (x : Stall) => now { h.v with stall := x, stallClk := s.clk }
    let claim := fun (counter amount : Nat) (reset : Option Nat) => ClaimMsg.mk core q
      (tget s.flows.node.nextSeq (4 * core.val + q.val) 0) counter amount reset none
    let one := fun (i : Nat) (t : State) => t.counter (coreCtr core i) = min (s.counter (coreCtr core i) + 1) (counterMax (coreCtr core i))
    (∀ l, h.step = .layer l → l.useWork = false → Completes (.layer core q) s (fun t =>
      (∃ x, now { h.v with loop := some x } t ∧ x.items = upTo l.batch ∧ x.issued = 0 ∧ x.codes = []) ∧ SameBut [.cores, .trace] s t)) ∧
    (∀ l, h.step = .layer l → l.useWork = true → Completes (.layer core q) s (fun t =>
      (∃ x, now { h.v with loop := some x } t ∧ x.items = [] ∧ x.claiming = true) ∧
      t.flows.claims = s.flows.claims ++ [claim l.workCounter l.claimSize none] ∧ t.flows.ctxs = s.flows.ctxs ∧
      t.flows.node.nextSeq = tset s.flows.node.nextSeq (4 * core.val + q.val)
        ((tget s.flows.node.nextSeq (4 * core.val + q.val) 0 + 1) % 256) ∧
      one 26 t ∧ one 34 t ∧ SameBut [.cores, .flows, .counters, .trace] s t)) ∧
    (∀ dst counter inc, h.step = .signal dst counter inc →
      (dst ≠ core.val → Completes (.signal core q) s (fun t => now next t ∧ one 26 t ∧
        t.flows = { s.flows with ladle := s.flows.ladle ++
          [{ src := core, dst := dst, queue := q, body := .signal h.v.ctx counter inc }] } ∧
        SameBut [.cores, .flows, .counters, .trace] s t)) ∧
      (dst = core.val → (s.core core).queues = [(q.val, h.v)] → Completes (.signal core q) s (fun t => now next t ∧ one 36 t ∧
        (∃ d, t.ctx? h.v.ctx = some d ∧ d.vb core counter = ((h.ctx.vb core counter).1 + w32 inc, (h.ctx.vb core counter).2)) ∧
        (∀ n, n ≠ h.v.ctx → t.ctx? n = s.ctx? n) ∧ t.flows.ladle = s.flows.ladle ∧
        SameBut [.cores, .flows, .counters, .trace] s t))) ∧
    (∀ counter relative shared value, h.step = .wait counter relative shared value →
      let x := h.ctx.vb core counter
      let e := if relative then x.2 + w32 value else w32 value
      Completes (.wait core q) s (fun t => one 38 t ∧ ((x.1 - e).toNat < 2 ^ 31 → now next t) ∧
        (¬ (x.1 - e).toNat < 2 ^ 31 → stalled (.wait counter e.toNat shared) t) ∧ SameBut [.cores, .counters, .trace] s t)) ∧
    (∀ counter value, h.step = .workReset counter value → Completes (.workReset core q) s (fun t => stalled .work t ∧ one 26 t ∧
      t.flows = { s.flows with claims := s.flows.claims ++ [claim counter 0 (some value)] } ∧
      SameBut [.cores, .flows, .counters, .trace] s t)) ∧
    (∀ line mask, h.step = .lid line mask →
      ((∃ m ∈ s.flows.ladle, m.src = core.val ∧ m.queue = q.val) ∨ (∃ x ∈ s.flows.pot, x.ctx = h.v.ctx) ∨
        (∃ m ∈ s.flows.claims, m.core = core.val ∧ m.queue = q.val) → exec (.lidArrive core q) s = .next s) ∧
      ((∀ m ∈ s.flows.ladle, ¬ (m.src = core.val ∧ m.queue = q.val)) → (∀ x ∈ s.flows.pot, x.ctx ≠ h.v.ctx) →
        (∀ m ∈ s.flows.claims, ¬ (m.core = core.val ∧ m.queue = q.val)) → Completes (.lidArrive core q) s (fun t =>
        stalled (.lid line true) t ∧ bitN (t.core core).arrivals line = true ∧
        (∀ j, j ≠ line → bitN (t.core core).arrivals j = bitN (s.core core).arrivals j) ∧
        (∀ c, c ≠ core.val → t.core c = s.core c) ∧ SameBut [.cores, .trace] s t))) ∧
    (h.step = .fence → Completes (.fence core q) s (fun t => stalled (.fence (s.core core).fenceNext) t ∧
      (t.core core).fenceNext = (s.core core).fenceNext + 1 ∧ SameBut [.cores, .trace] s t))

/-- What queues wait for arrives (R165 to R169, R172, R174, R195, R199, R200, R208, R209): the edge of a line realigns B to V for the
counters of the mask and releases its core; an acknowledged FENCE and a reply let the queue go on; a signal reaches its counter,
or the Stockpot for a context that is not resident; the node answers each claim once, a repeated one with the same value; a queue
without progress for its timeout is taken off with a WATCHDOG record. -/
def Obligations.SynchronisationMessagesArrive : Prop :=
  ∀ (core : Fin 32) (q : Fin 4) (s : State), s.coresRun = true →
    let one := fun (i : Nat) (t : State) => t.counter (coreCtr core i) = min (s.counter (coreCtr core i) + 1) (counterMax (coreCtr core i))
    let next := fun (h : Head) (t : State) => t.queue? core q = some
      { h.v with step := h.v.step + 1, stall := .none, loop := none, readout := none, progressClk := s.clk, resumptions := 0 }
    let goes := fun (h : Head) => s.head? core q = some h ∧ h.v.step + 1 < h.part.steps.length
    let plain := SameBut [.cores, .flows, .counters, .trace] s
    (∀ (line : Fin 16) h mask, goes h → (s.core core).queues = [(q.val, h.v)] → h.v.stall = .lid line true → h.step = .lid line mask →
      bitN (s.core core).arrivals line = true → s.coreUp core = true → (∀ c, c ≠ core.val → (s.core c).queues = []) →
      (s.lidLevel line = false → exec (.lidEdge line) s = .next s) ∧
      (s.lidLevel line = true → Completes (.lidEdge line) s (fun t => next h t ∧ one 42 t ∧
        (∃ d, t.ctx? h.v.ctx = some d ∧ ∀ n, n < 48 → d.vb core n = ((h.ctx.vb core n).1,
          if bitN mask n then (h.ctx.vb core n).1 else (h.ctx.vb core n).2)) ∧
        bitN (t.core core).arrivals line = false ∧
        (∀ j, j ≠ line.val → bitN (t.core core).arrivals j = bitN (s.core core).arrivals j) ∧ plain t))) ∧
    (∀ h n, goes h → h.v.stall = .fence n →
      ((∃ m ∈ s.flows.ladle, m.src = core.val ∧ m.queue = q.val ∧ ∀ a b c, m.body ≠ .signal a b c) →
        exec (.fenceAck core q) s = .next s) ∧
      ((∀ m ∈ s.flows.ladle, m.src = core.val → m.queue = q.val → ∃ a b c, m.body = .signal a b c) →
        Completes (.fenceAck core q) s (fun t => next h t ∧ one 44 t ∧ SameBut [.cores, .counters, .trace] s t))) ∧
    (∀ (src : Fin 32) fate (l1 l2 : List LadleMsg) m n counter inc, s.flows.ladle = l1 ++ m :: l2 →
      (∀ x ∈ l1, ¬ (x.src = src.val ∧ x.dst = core.val)) → m.src = src.val → m.dst = core.val → m.body = .signal n counter inc →
      let more := fun (i n : Nat) (t : State) => t.counter (coreCtr core i) =
        if n = 0 then s.counter (coreCtr core i) else min (s.counter (coreCtr core i) + n) (counterMax (coreCtr core i))
      let took := fun (t : State) => more 27 fate.corrected t ∧ more 28 (min fate.failures 2) t
      (fate.failures < 3 → (∀ e ∈ (s.core core).queues, e.2.ctx ≠ n) → Completes (.signalArrival src core fate) s (fun t =>
        t.flows = { s.flows with ladle := l1 ++ l2, pot := s.flows.pot ++ [{ core := core, ctx := n, counter := counter, inc := inc }] } ∧
        took t ∧ SameBut [.flows, .counters, .trace] s t)) ∧
      (∀ v c, fate.failures < 3 → (s.core core).queues = [(q.val, v)] → v.ctx = n → v.stall = .none → s.ctx? n = some c →
        Completes (.signalArrival src core fate) s (fun t => t.flows.ladle = l1 ++ l2 ∧ t.flows.pot = s.flows.pot ∧
          (∃ d, t.ctx? n = some d ∧ d.vb core counter = ((c.vb core counter).1 + w32 inc, (c.vb core counter).2)) ∧
          took t ∧ one 36 t ∧ SameBut [.flows, .counters, .trace] s t)) ∧
      (3 ≤ fate.failures → s.crock.mirror.faults.length < 1024 → Completes (.signalArrival src core fate) s (fun t =>
        ∃ r ∈ t.crock.mirror.faults, r.kind = 11 ∧ r.unitKind = 4 ∧ r.core = core.val))) ∧
    (∀ (l1 l2 : List PotSignal) x c, s.flows.pot = l1 ++ x :: l2 → (∀ y ∈ l1, y.core ≠ core.val) → x.core = core.val →
      s.ctx? x.ctx = some c → (∀ e ∈ (s.core core).queues, e.2.stall = .none) → Completes (.stockpotSignalApply core) s (fun t =>
        t.flows.pot = l1 ++ l2 ∧ one 37 t ∧ (∃ d, t.ctx? x.ctx = some d ∧
          d.vb core x.counter = ((c.vb core x.counter).1 + w32 x.inc, (c.vb core x.counter).2)) ∧
        (∀ n, n ≠ x.ctx → t.ctx? n = s.ctx? n) ∧ SameBut [.flows, .counters, .trace] s t)) ∧
    (∀ (l1 l2 : List ClaimMsg) m, s.flows.claims = l1 ++ m :: l2 → m.core = core.val → m.queue = q.val →
      (m.reply = none → (∀ y ∈ l1, ¬ (y.core = core.val ∧ y.queue = q.val ∧ y.reply = none)) →
        let old := tget s.flows.node.counters m.counter 0
        let answers := fun (v : Nat) (t : State) => t.flows.claims = l1 ++ { m with reply := some v } :: l2 ∧
          t.flows.ctxs = s.flows.ctxs ∧ SameBut [.flows, .counters] s t
        Completes (.workClaim core q) s (fun t =>
          (∀ v, m.reset = some v → answers 0 t ∧ tget t.flows.node.counters m.counter 0 = v) ∧
          (∀ r, m.reset = none → tget? s.flows.node.last (4 * core.val + q.val) = some (m.seq, r) →
            answers r t ∧ t.flows.node = s.flows.node ∧ one 35 t) ∧
          (m.reset = none → (∀ r, tget? s.flows.node.last (4 * core.val + q.val) ≠ some (m.seq, r)) → answers old t ∧
            tget t.flows.node.counters m.counter 0 = min (old + m.amount) 0xFFFFFFFF ∧
            (∀ k, k ≠ m.counter → tget t.flows.node.counters k 0 = tget s.flows.node.counters k 0) ∧
            tget? t.flows.node.last (4 * core.val + q.val) = some (m.seq, old)))) ∧
      (∀ v, m.reply = some v → (∀ y ∈ l1, ¬ (y.core = core.val ∧ y.queue = q.val ∧ y.reply ≠ none)) → ∀ h, goes h →
        (∀ z, m.reset = some z → h.v.stall = .work → Completes (.workClaimReply core q) s (fun t => next h t ∧
          t.flows = { s.flows with claims := l1 ++ l2 } ∧ SameBut [.cores, .flows, .trace] s t)) ∧
        (∀ l x, m.reset = none → h.step = .layer l → h.v.loop = some x → h.v.readout = none → l.useWork = true → x.claiming = true →
          x.opened = [] → x.ended = false → x.fresh = true → m.seq = (tget s.flows.node.nextSeq (4 * core.val + q.val) 0 + 255) % 256 →
          (v < l.batch → 1 ≤ l.claimSize → (∀ c ∈ x.codes, c.item ≠ v) → Completes (.workClaimReply core q) s (fun t =>
            ∃ y, t.queue? core q = some { h.v with loop := some y } ∧ y.claiming = false ∧ y.ended = false ∧ y.issued = 0 ∧
              (∀ b, b ∈ y.items ↔ v ≤ b ∧ b < v + l.claimSize ∧ b < l.batch) ∧ t.flows = { s.flows with claims := l1 ++ l2 } ∧
              SameBut [.cores, .flows, .trace] s t)) ∧
          (l.batch ≤ v → x.items = [] → Completes (.workClaimReply core q) s (fun t => next h t ∧
            t.flows.claims = l1 ++ l2 ∧ plain t))))) ∧
    (∀ h, s.head? core q = some h → s.running = [] → h.ctx.isCmd = false → h.run.status = none → h.run.ctx = h.v.ctx → h.ctx.part < 8 →
      (s.clk < h.v.progressClk + s.timeout h.ctx.part q → exec (.queueWatchdog core q) s = .next s) ∧
      (h.v.progressClk + s.timeout h.ctx.part q ≤ s.clk → Completes (.queueWatchdog core q) s (fun t =>
        t.queue? core q = none ∧ one 45 t ∧
        (∃ k ∈ (t.funnel h.ctx.part).waiting, k.kind = 3 ∧ k.flow = h.v.ctx ∧ k.seq = h.ctx.resultSeq ∧
          ((∀ a b c, h.v.stall ≠ .wait a b c) → k.body = [d64 (core + 32 * q + 256 * h.step.op), 0]) ∧
          (∀ a e sh, h.v.stall = .wait a e sh → k.body =
            [d64 (core + 32 * q + 256 * h.step.op + 65536 * h.part.counterOn q a + 2 ^ 32 * e), d64 (h.ctx.vb core a).1.toNat])))))
/-- A layer is computed (R33, R34, R36 to R39, R45, R92, R93, R96, R149 to R158, R160, R176, R186): Scoop forms the next item's codes
under a static scale, Thaum admits the next operation to its tile and opens its slot, a tile starts its phases in order, a phase
latches the 536 codes nearest to its sums and adds its contributions, or is retried in halves where an operand column is over
range; a Skillet step rewrites the row and the last one stores it; Tongs adds the golden sums. -/
def Obligations.LayersAreComputed : Prop :=
  (∀ (core : Fin 32) (q : Fin 4) (s : State) (h : Head) (l : Layer) (x : Loop), s.head? core q = some h → h.step = .layer l →
    h.v.loop = some x → s.coresRun = true →
    let one := fun (i n : Nat) (t : State) => t.counter (coreCtr core i) =
      if n = 0 then s.counter (coreCtr core i) else min (s.counter (coreCtr core i) + n) (counterMax (coreCtr core i))
    (∀ w b b', s.coreUp core = true → uncoded x = some b → b' ∈ x.items → b' ≠ b → (∀ c ∈ x.codes, c.item ≠ b') → h.run.window = some w →
      l.inSource = 0 → l.scaleSource = 2 → (scaleOf l.staticScale).mant ≠ 0 → l.zpMode ≤ 1 → l.satThreshold = 0 → x.fresh = true →
      x.opened = [] → l.useWork = false → x.out.length < l.batch → h.v.readout = none → Completes (.scoopCodes core q) s (fun t =>
      ∃ y c, t.queue? core q = some { h.v with loop := some y } ∧ y.codes = x.codes ++ [c] ∧ y.items = x.items ∧ c.item = b ∧
        (∀ i v, i < l.nBlocks * l.kParts → l.templates[i]? = some v → ∀ r e, (r, e) ∈ s.rowsNow h.part q v → r < 512 →
          let signed := cfgSigned ((s.tile core v.tile).cfgAt (h.run.first256 / 256))
          h.part.core = core.val → (r, (codeOf l.actBits8 signed (if signed = false ∧ l.zpMode = 1 then l.staticZp else 0)
            (scaleOf l.staticScale) (s.winElement w (l.inBase + b * l.inStride + e))).code) ∈ c.templ.getD i []) ∧
        SameBut [.cores, .flows, .counters] s t)) ∧
    (∀ b n k v c, nextOp l x = some ((b, n, k), v, c) → s.coreUp core = true → checkAssured h.run.check = false → v.pair = false →
      l.useWork = false → s.tileOut core v.tile = false → s.tileUsable core v.tile = true →
      s.completed core h.v.run h.v.step b n = false → s.parked? core h.v.run b n = none → (s.slot core (slotOf l b n)).state = 0 →
      (∀ j ∈ s.colsNow h.part q v, s.colRetired core v.tile j = false) →
      (128 ≤ (s.tile core v.tile).inFlight.length → exec (.tileOpAdmit core q) s = .next s) ∧
      ((s.tile core v.tile).inFlight.length < 128 → Completes (.tileOpAdmit core q) s (fun t => ∃ op,
        (t.tile core v.tile).inFlight = (s.tile core v.tile).inFlight ++ [op] ∧
        op.tag = { run := h.v.run, item := b, block := n, part := v.part, attempt := x.attempt } ∧ op.queue = q.val ∧ op.half = 0 ∧
        op.rows = c.templ.getD (n * l.kParts + k) [] ∧ op.scales = c.scales.getD (n * l.kParts + k) [] ∧ op.cols = s.colsNow h.part q v ∧
        op.cfg = (s.tile core v.tile).cfgAt (h.run.first256 / 256) ∧ op.slot = slotOf l b n ∧ op.a8 = l.actBits8 ∧
        (t.slot core (slotOf l b n)).isOf h.v.run b n = true ∧ (t.slot core (slotOf l b n)).state = 1 ∧
        (t.slot core (slotOf l b n)).ledger = [] ∧ (t.slot core (slotOf l b n)).expMax = c.expMax.getD n 0 ∧
        (∃ y, t.queue? core q = some { h.v with loop := some y, progressClk := s.clk } ∧ y.issued = x.issued + 1 ∧ y.items = x.items) ∧
        (∀ d u, ¬ (d = core.val ∧ u = v.tile) → d < 32 → u < 33 → t.tile d u = s.tile d u) ∧ SameBut [.tiles, .cores, .flows] s t))) ∧
    (∀ ro k st macs, h.v.readout = some ro → l.chain[ro.index]? = some k → s.runStep h.part q k ro.row = some (st, macs) →
      (ro.index + 1 < l.chain.length → Completes (.skilletStep core q) s (fun t => t.queue? core q =
          some { h.v with readout := some { ro with row := st.row, index := ro.index + 1 }, progressClk := s.clk } ∧
        one 30 1 t ∧ one 31 st.sat t ∧ one 32 macs t ∧ SameBut [.cores, .counters] s t)) ∧
      (∀ o, ro.index + 1 = l.chain.length → l.golden = false → l.outTarget = 0 → l.toFunnel = false → x.fresh = true →
        s.lastOutput h.part q l k st.row = some o → l.satThreshold = 0 → x.opened = [] → x.out.length + 1 < l.batch →
        l.useWork = false → Memory.wf (s.core core).act = true →
        let a := l.outBase + ro.item * outStep l + h.part.bank q
        h.part.ownBytes q a o.data.length = true → a + o.data.length ≤ 131072 → Completes (.skilletStep core q) s (fun t =>
        t.getAct core a o.data.length = o.data ∧
        (∀ b, (b < a ∨ a + o.data.length ≤ b) → t.getAct core b 1 = s.getAct core b 1) ∧
        (∃ y, t.queue? core q = some { h.v with readout := none, loop := some y, progressClk := s.clk } ∧ y.out = x.out ++ [ro.item]) ∧
        one 30 1 t ∧ SameBut [.cores, .flows, .counters] s t))) ∧
    (∀ ro b c rest, h.v.readout = some ro → (s.core core).tongs = .golden q b :: rest → ro.item = b →
      x.codes.find? (fun c => c.item == b) = some c → Completes (.tongsDone core [] []) s (fun t =>
      let g := s.goldenOf core q h l c
      t.queue? core q = some { h.v with readout := some { ro with golden := some (g.1, g.2.1) } } ∧ (t.core core).tongs = rest ∧
      one 33 g.2.2 t ∧ SameBut [.cores, .counters] s t))) ∧
  (∀ (core : Fin 32) (tile : Fin 33) (s : State), s.coresRun = true →
    let v := s.tile core tile
    let others := fun (t : State) => ∀ d u, d < 32 → u < 33 → ¬ (d = core.val ∧ u = tile.val) → t.tile d u = s.tile d u
    let stat := fun (i : Nat) (t : State) => t.counter (tileCtr core tile i) =
      min (s.counter (tileCtr core tile i) + 1) (counterMax (tileCtr core tile i))
    (∀ r p rest, v.running = some r → r.phase = none → r.rest = p :: rest → Completes (.phaseStart core tile) s (fun t =>
      t.tile core tile = { v with running := some { r with phase := some p, rest := rest } } ∧ stat 0 t ∧ others t ∧
      SameBut [.tiles, .counters] s t)) ∧
    (∀ op ops p rest, v.running = none → v.inFlight = op :: ops → s.tileClear core tile = true →
      (admissions op.cfg (s.weightMax core tile) op).flatMap (·.phases) = p :: rest → Completes (.phaseStart core tile) s (fun t =>
      t.tile core tile =
        { v with inFlight := ops, lastCfg := op.cfg, running := some (Running.mk op v.gainCorr (some p) rest []) } ∧ stat 0 t ∧ others t ∧
      SameBut [.tiles, .counters] s t)) ∧
    (v.running = none → v.inFlight = [] → exec (.phaseStart core tile) s = .next s) ∧
    (∀ r p dev, v.running = some r → r.phase = some p → r.rest ≠ [] → r.op.cols.Nodup → (∀ j ∈ r.op.cols, j < 512) →
      WellFormed.deviation dev = true →
      let gi := cfgGi r.op.cfg
      let u : Int := ((256 * 2 ^ gi : Nat) : Int)
      let m := fun (j : Nat) => s.sum256 core tile j p.rows + dev.foldl (fun a d => if d.1 = j then a + d.2 else a) 0
      let ovr := fun (j : Nat) => 127 * u ≤ 2 * m j ∨ 2 * m j < -129 * u
      let sc := (r.op.scales.getD p.group (Scale.zero, 0)).1
      Completes (.phaseLatch core tile dev) s (fun t => ∃ code : Nat → Int,
      (∀ j, j < 536 → (127 * u ≤ 2 * m j → code j = 63) ∧ (2 * m j < -129 * u → code j = -64) ∧
        (¬ ovr j → -64 ≤ code j ∧ code j ≤ 63 ∧ (2 * (m j - code j * u)).natAbs ≤ u.natAbs) ∧
        (ovr j → tget (t.tile core tile).outReg j 0 = field 7 (code j) + 128) ∧
        (¬ ovr j → tget (t.tile core tile).outReg j 0 = field 7 (code j))) ∧
      ((∃ j ∈ s.opCols core tile r.op, ovr j) → p.half = 0 →
        (t.tile core tile).running = some { r with phase := none, rest := halves (cfgG r.op.cfg) p.group p.pass p.rows true ++ r.rest } ∧
        stat 4 t ∧ others t ∧ SameBut [.draw, .tiles, .counters] s t) ∧
      ((∀ j ∈ s.opCols core tile r.op, ¬ ovr j) → (∃ bad, (t.tile core tile).running = some { r with phase := none, failed := r.failed ++ bad }) ∧
        (∀ j, s.join? core r.op = some j → ∃ k, t.join? core r.op = some k ∧ ∀ c, tget (tget k.regs (regKey r.op.copy r.op.half) []) c 0 =
          tget (tget j.regs (regKey r.op.copy r.op.half) []) c 0 + (if c ∈ s.opCols core tile r.op then
            rneShift (code c * factor (cfgSigned r.op.cfg) p.pass v.role * sc.mant * r.gain) ((gi : Int) + sc.exp - 15 - r.op.expMax - r.op.accShift)
            else 0)) ∧
        SameBut [.draw, .tiles, .cores, .counters, .running, .waiting, .trace] s t))))

/-- Data messages arrive (R154, R158, R168, R171, R175, R305, R369): a partial sum is added to its slot once, a repeated one is
discarded and counted, an activation message is written where its part is resident or into its inbox, and an uncorrectable SRAM
error is attributed to its core while the queue there resumes its step, the third time giving it up. -/
def Obligations.DataMessagesArriveOnce : Prop :=
  (∀ (src dst : Fin 32) (fate : FlitFate) (s : State) (l1 l2 : List LadleMsg) (m : LadleMsg), s.coresRun = true → fate.failures < 3 →
    s.flows.ladle = l1 ++ m :: l2 → (∀ x ∈ l1, ¬ (x.src = src.val ∧ x.dst = dst.val)) → m.src = src.val → m.dst = dst.val →
    (∀ rid b n slot parts lanes em sh total r i home st l q v, m.body = .psum rid b n slot parts lanes em sh total → s.run? rid = some r →
      r.abandoned = false → r.partOn dst = some (i, home) → receiverOf home slot = some (st, l) →
      s.completed dst rid st b n = false → (s.slot dst slot).isOf rid b n = true → (s.core dst).queues = [(q, v)] → v.run = rid →
      v.part = i → v.loop = none → (lanes.map (·.1)).Nodup →
      let old := s.slot dst slot
      let one := fun (k : Nat) (t : State) => t.counter (coreCtr dst k) = min (s.counter (coreCtr dst k) + 1) (counterMax (coreCtr dst k))
      Completes (.psumArrival src dst fate) s (fun t => t.flows.ladle = l1 ++ l2 ∧
        ((∀ x ∈ parts, x ∉ old.ledger) → one 19 t ∧ (t.slot dst slot).ledger = old.ledger ++ parts ∧
          (t.slot dst slot).state = (if old.partTotal + 1 ≤ old.ledger.length + parts.length then 2 else 1) ∧
          ∀ j, tget (t.slot dst slot).lanes j 0 =
            (if j ∈ lanes.map (·.1) then wrap40 (tget old.lanes j 0 + tget lanes j 0) else tget old.lanes j 0)) ∧
        ((∃ x ∈ parts, x ∈ old.ledger) → t.slot dst slot = old ∧ one 29 t) ∧
        SameBut [.cores, .flows, .funnels, .trace, .counters] s t)) ∧
    (∀ n part off data, m.body = .act n part off data → data ≠ [] →
      (∀ q v r p, (s.core dst).queues = [(q, v)] → v.ctx = n → v.part = part → s.run? v.run = some r → r.kernel.parts[part]? = some p →
        off + p.bank q + data.length ≤ 131072 → Memory.wf (s.core dst).act = true → Completes (.activationArrival src dst fate) s (fun t =>
        t.flows = { s.flows with ladle := l1 ++ l2 } ∧ t.getAct dst (off + p.bank q) data.length = data ∧
        (∀ b, (b < off + p.bank q ∨ off + p.bank q + data.length ≤ b) → t.getAct dst b 1 = s.getAct dst b 1) ∧
        (∀ c, c ≠ dst.val → t.core c = s.core c) ∧ SameBut [.cores, .flows, .counters] s t)) ∧
      (∀ c rid r p, (s.core dst).queues = [] → s.ctx? n = some c → c.run = some rid → s.run? rid = some r →
        r.kernel.parts[part]? = some p → Memory.wf (tget c.inbox part []) = true →
        p.inboxBase ≤ off → off + data.length ≤ p.inboxBase + p.inboxBytes → Completes (.activationArrival src dst fate) s (fun t =>
        (∃ d, t.ctx? n = some d ∧ Memory.readBytes (tget d.inbox part []) (off - p.inboxBase) data.length = data) ∧
        (∀ k, k ≠ n → t.ctx? k = s.ctx? k) ∧ t.flows.ladle = l1 ++ l2 ∧ SameBut [.flows, .counters] s t)))) ∧
  (∀ (core : Fin 32) (q : Fin 4) (array : BitVec 4) (address : BitVec 24) (s : State) (h : Head), s.coresRun = true →
    s.head? core q = some h → (∀ r ∈ s.crock.mirror.faults, ¬ (r.unitKind = 4 ∧ r.core = core.val)) →
    s.crock.mirror.faults.length + 2 ≤ 1024 → h.v.loop = none → h.v.stall ≠ .work → h.ctx.isCmd = false → h.run.ctx = h.v.ctx →
    Completes (.coreSram core q array address) s (fun t =>
      (∃ r ∈ t.crock.mirror.faults, r.kind = 9 ∧ r.unitKind = 4 ∧ r.core = core.val ∧ r.flow = h.v.ctx ∧
        r.outcome = (if 2 ≤ h.v.resumptions then 2 else 1) ∧ r.detail = address.toNat + 2 ^ 24 * array.toNat) ∧
      (h.v.resumptions < 2 → t.queue? core q =
        some { h.v with resumptions := h.v.resumptions + 1, readout := none, progressClk := s.clk }) ∧
      (2 ≤ h.v.resumptions → t.queue? core q = none)))

/-- Checks settle and records move on (R319, R325, R326, R328, R357, R359, R360, R365): a full batch that fails asks Whisk for a block
scan and a clean one is forgotten; a scan that finds no stored fault leaves a BATCH fault and a calibration due; a record whose
checks have finished is confirmed, or retracted with its cause; the oldest waiting packet enters the FIFO, waits, or is dropped
with the next one marked; a burst writes the FIFO's packet to the host ring and its new write offset after it. -/
def Obligations.ChecksSettleAndRecordsLeave : Prop :=
  (∀ (core : Fin 32) (tile : Fin 33) (block : Fin 16) (s : State) (x : Batch), s.coresRun = true →
    tget? (s.tile core tile).batches block = some x →
    let v := s.tile core tile
    (x.count < 256 → exec (.sieveBatchEnd core tile block) s = .next s) ∧
    (256 ≤ x.count → s.batchFails x = true → v.job = none → s.running = [] → s.waiting = [] →
      Completes (.sieveBatchEnd core tile block) s (fun t =>
      t.tile core tile = { v with batches := tdel v.batches block, job := some (.scan block x.mean16) } ∧
      t.running = [actTile 3 2 core tile (s.actPart core) none] ∧
      t.counter (coreCtr core 49) = min (s.counter (coreCtr core 49) + 1) (counterMax (coreCtr core 49)) ∧
      SameBut [.tiles, .running, .trace, .counters] s t)) ∧
    (256 ≤ x.count → s.batchFails x = false → Completes (.sieveBatchEnd core tile block) s (fun t =>
      tget? (t.tile core tile).batches block = none ∧ block.val ∉ (t.tile core tile).retractLost ∧
      (∀ e ∈ (t.tile core tile).retractList, block.val ∉ e.waiting ∧ e.waiting ≠ []) ∧ SameBut [.tiles] s t))) ∧
  (∀ (core : Fin 32) (tile : Fin 33) (s : State) (b : Nat) (m : Int) (a : Activity), s.coresRun = true → s.act? 3 2 core tile = some a →
    (s.tile core tile).job = some (.scan b m) → (s.tile core tile).running = none → s.crock.mirror.faults = [] → s.running = [a] →
    s.waiting = [] → (s.tile core tile).state = .ready → Completes (.blockScan core tile []) s (fun t => (t.tile core tile).job = none ∧
      (t.tile core tile).calDue = true ∧ (∃ r ∈ t.crock.mirror.faults, r.kind = 2 ∧ r.unitKind = 3 ∧ r.core = core.val ∧
        r.tile = tile.val ∧ r.detail = b + 16 * field 32 m) ∧ actTile 4 0 core tile (s.actPart core) none ∈ t.running ++ t.waiting)) ∧
  (∀ (p : Fin 8) (s : State) (o : Outstanding) (rid : Nat) (r : Run), s.coresRun = true → (s.funnel p).outstanding = [o] →
    o.verdict = none → o.pkt.part = p → o.pkt.run = some rid → s.run? rid = some r →
    let one := fun (i : Nat) (t : State) => t.counter (partCtr p i) = min (s.counter (partCtr p i) + 1) (counterMax (partCtr p i))
    let follows := fun (kind : Nat) (t : State) => ∃ k ∈ (t.funnel p).waiting, k.kind = kind ∧ k.flow = o.pkt.flow ∧ k.seq = o.pkt.seq ∧
      k.first256 = o.pkt.first256 ∧ k.prov = false
    (0 < r.openChecks → exec (.checksDone p) s = .next s) ∧
    (r.openChecks = 0 → r.failCause = none → Completes (.checksDone p) s (fun t => follows 5 t ∧ one 19 t ∧
      (t.funnel p).outstanding = [{ o with verdict := some 5 }])) ∧
    (∀ cause, r.openChecks = 0 → r.failCause = some cause → Completes (.checksDone p) s (fun t => follows 6 t ∧ one 20 t ∧
      (∀ k, k < 8 → ∀ x ∈ (t.pin k).schedule, x.source ≠ some o.pkt.src)))) ∧
  (∀ (p : Fin 8) (s : State), Serving s →
    let f := s.funnel p
    (f.waiting = [] → exec (.funnelReserve p) s = .next s) ∧
    (∀ k rest, f.waiting = k :: rest → k.kind ≤ 8 →
      let n := 8 * (8 + k.body.length)
      let room := if 2 ≤ k.kind then 262144 else 245760
      (f.used + n ≤ room → Completes (.funnelReserve p) s (fun t => t.funnel p =
        { f with waiting := rest, lost := false, fifo := f.fifo ++ [FifoPkt.mk { k with lost := f.lost } 0 0 0] } ∧ (∀ r, r ≠ p.val → t.funnel r = s.funnel r) ∧
        SameBut [.funnels] s t)) ∧
      (room < f.used + n → k.kind = 2 ∨ k.kind = 7 ∨ k.kind = 8 → Completes (.funnelReserve p) s (fun t =>
        t.funnel p = { f with waiting := rest, lost := true } ∧
        t.counter (partCtr p 16) = min (s.counter (partCtr p 16) + 1) (counterMax (partCtr p 16)) ∧ SameBut [.funnels, .counters] s t)) ∧
      (room < f.used + n → ¬ (k.kind = 2 ∨ k.kind = 7 ∨ k.kind = 8) → exec (.funnelReserve p) s = .next s))) ∧
  (∀ (p : Fin 8) (s : State) (k : Pkt), Serving s → s.fnCtrl p 0 1 = 1 → s.fnCtrl p 1 1 = 0 → s.fnCtrl p 2 1 = 0 →
    s.peerUp p (s.fnCtrl p 3 6) = false → s.master (s.partFn p) = true → s.partOn p = true → k.kind ≤ 4 →
    (s.funnel p).fifo = [FifoPkt.mk k 0 0 0] → Memory.wf s.host.mem = true →
    let w := (s.funnel p).writeOff
    let size := s.ringSize p
    let base := (s.reg (partOff p 0x404)).toNat + 2 ^ 32 * (s.reg (partOff p 0x408)).toNat
    let widx := (s.reg (partOff p 0x410)).toNat + 2 ^ 32 * (s.reg (partOff p 0x414)).toNat
    let lines := (8 + k.body.length + 7) / 8
    w + 64 * lines ≤ size → w % 64 = 0 → w + 64 * lines < size + (s.reg (partOff p 0x418)).toNat → size = 4096 →
    (s.reg (partOff p 0x418)).toNat = w → (widx + 8 ≤ base ∨ base + size ≤ widx) → Completes (.funnelDmaBurst p) s (fun t =>
      let next := (w + 64 * lines) % size
      (t.funnel p).fifo = [] ∧ (t.funnel p).writeOff = next ∧ t.hostRead widx 8 = leBytes 8 next ∧
      t.hostRead (base + w) (8 * (8 + k.body.length)) = dwordBytes (k.dwords false) ∧
      t.counter (partCtr p 14) = min (s.counter (partCtr p 14) + 1) (counterMax (partCtr p 14))))

/-! ## Maintenance, programming and package memory -/

/-- Reference samples, calibrations, tests and the arbiter (R78, R79, R81 to R83, R138 to R141, R372, R374, R375, R385): what falls due is
asked of the arbiter, a sample sets the gain correction, the feed-forward moves it with the temperature within its limits, a
calibration replaces trims and baselines, a clean test brings a Suspect tile nearer to Ready, a failing slice is repeated and
confirmed, and the arbiter begins the waiting activity of the highest priority that nothing running conflicts with. -/
def Obligations.MaintenanceKeepsTilesInTrim : Prop :=
  (∀ (core : Fin 32) (tile : Fin 33) (s : State), s.coresRun = true →
    let v := s.tile core tile
    let asked := fun (code : Nat) (w : Tile) (t : State) => t.tile core tile = w ∧
      t.running = [actTile code 0 core tile (s.corePartNo core) none] ∧ SameBut [.tiles, .running, .trace] s t
    (v.state = .ready ∨ v.state = .suspect ∨ v.state = .held ∨ v.state = .blank → s.running = [] → s.waiting = [] →
      Completes (.refSampleDue core tile) s (asked 2 { v with refDue := true }) ∧
      Completes (.convCalDue core tile) s (asked 4 { v with calDue := true }) ∧
      Completes (.tileTestDue core tile) s (asked 1 { v with testDue := true })) ∧
    (v.state = .programming ∨ v.state = .retired ∨ v.state = .awaiting → exec (.refSampleDue core tile) s = .next s ∧
      exec (.convCalDue core tile) s = .next s ∧ exec (.tileTestDue core tile) s = .next s) ∧
    (v.refDue = true ∨ v.calDue = true ∨ v.testDue = true → Completes (.calWithhold core tile) s (fun t =>
      t.tile core tile = { v with withheld := true } ∧ SameBut [.tiles] s t)) ∧
    (v.refDue = false → v.calDue = false → v.testDue = false → exec (.calWithhold core tile) s = .next s) ∧
    (v.state = .ready ∨ v.state = .suspect ∨ v.state = .held ∨ v.state = .blank → v.running = none →
      (∀ r a g, s.act? 2 0 core tile = some a → a.cmd = none → gammaOf (s.calRec core tile) r = some g →
        (0x7333 ≤ g → g ≤ 0x8CCD → v.settled = true → Completes (.refSampleDone core tile r) s (fun t =>
          (t.tile core tile).gammaS = g ∧ (t.tile core tile).gainCorr = g ∧ (t.tile core tile).tempS = r.temp ∧
          (t.tile core tile).refDue = false ∧ (t.tile core tile).withheld = false ∧ (t.tile core tile).state = v.state ∧
          (t.crock = s.crock))) ∧
        (g < 0x4000 ∨ 0xFFFF < g → s.crock.mirror.faults = [] → Completes (.refSampleDone core tile r) s (fun t =>
          (t.tile core tile).refDue = false ∧ (t.tile core tile).testDue = true ∧ (t.tile core tile).gainCorr = v.gainCorr ∧
          ∃ x ∈ t.crock.mirror.faults, x.kind = 8 ∧ x.unitKind = 3 ∧ x.core = core.val ∧ x.tile = tile.val ∧ x.detail = 0x10000))) ∧
      (∀ r again temp a, s.act? 4 0 core tile = some a → a.cmd = none → WellFormed.cal r = true → WellFormed.cal again = true →
        (calFails r = [] → (r.offsets.map (·.1)).Nodup → (r.baselines.map (·.1)).Nodup →
          Completes (.convCalDone core tile r again temp) s (fun t =>
          (∀ x ∈ r.offsets, tget (t.tile core tile).offsetTrim x.1 0 = clampI x.2 (-64) 64) ∧
          (∀ x ∈ r.baselines, tget (t.tile core tile).beta x.1 0 = x.2) ∧ (t.tile core tile).calTemp = temp ∧
          (t.tile core tile).calDue = false ∧ (t.tile core tile).withheld = false ∧ a ∉ t.running ∧
          SameBut [.tiles, .running, .trace] s t)) ∧
        (∀ col d, calFails r = [(col, d)] → calFails again = [] → col < 536 → s.colRetired core tile col = false →
          s.crock.mirror.faults = [] → Completes (.convCalDone core tile r again temp) s (fun t =>
          ∃ x ∈ t.crock.mirror.faults, x.kind = 6 ∧ x.core = core.val ∧ x.tile = tile.val ∧ x.detail = d ∧ x.outcome = 0))) ∧
      (∀ first second a, s.act? 1 0 core tile = some a → a.cmd = none → WellFormed.kats first = true → WellFormed.kats second = true →
        tile.val ≠ 32 → (s.core core).testCmd = none → s.katFails core tile first 16 (s.core core).lfsr = [] →
        s.crock.mirror.faults = [] → Completes (.tileTestDone core tile first second) s (fun t =>
        (t.tile core tile).testDue = false ∧ (t.tile core tile).withheld = false ∧
        t.counter (coreCtr core 54) = min (s.counter (coreCtr core 54) + 33) (counterMax (coreCtr core 54)) ∧
        (v.state ≠ .suspect → (t.tile core tile).state = v.state ∧ t.crock = s.crock) ∧
        (v.state = .suspect → v.cleanTests + 1 < s.regf 0xD04 16 16 → (t.tile core tile).state = .suspect ∧
          (t.tile core tile).cleanTests = v.cleanTests + 1) ∧
        (v.state = .suspect → s.regf 0xD04 16 16 ≤ v.cleanTests + 1 → (t.tile core tile).state = .ready ∧
          (t.calRec core tile).state = 2 ∧ ∃ x ∈ t.crock.mirror.faults, x.outcome = 6 ∧ x.core = core.val ∧ x.tile = tile.val))))) ∧
  (∀ (core : Fin 32) (temp : Int) (s : State), s.coresRun = true → Completes (.gainFeedforward core temp) s (fun t =>
    (∀ u, u < 33 → s.refPhases core u = true →
      let v := s.tile core u
      ((t.tile core u).gainCorr : Int) =
        clampI ((v.gammaS : Int) * (10000000 - s.kappa * (temp - v.tempS)) / 10000000) 0x4000 0xFFFF ∧
      ((t.tile core u).refDue = true ↔ v.refDue = true ∨ 20 ≤ (temp - v.tempS).natAbs)) ∧
    (∀ c u, c < 32 → u < 33 → (c ≠ core.val ∨ s.refPhases core u = false) → t.tile c u = s.tile c u) ∧
    SameBut [.tiles, .running, .waiting, .counters, .trace] s t)) ∧
  (∀ (core : Fin 32) (failed : Option (BitVec 16)) (s : State), s.coresRun = true → s.quiesced core = false → s.coreIdle core = true →
    s.coreRetired core = false → s.running = [] → (s.core core).testCmd = none → (∀ e ∈ s.cores, e.1 ≠ core.val → e.2.testSlices = 0) →
    bitN (s.coreState core) 0 = false → s.crock.mirror.faults = [] → (∀ e ∈ s.cores, e.2.queues = []) →
    Completes (.coreSelftestSlice core failed false) s (fun t =>
      t.counter (coreCtr core 56) = min (s.counter (coreCtr core 56) + 1) (counterMax (coreCtr core 56)) ∧
      (failed = none → (s.core core).repeatCode = none → (t.core core).testSlices = (s.core core).testSlices + 1 ∧
        t.running = [] ∧ (∀ c, c ≠ core.val → t.core c = s.core c) ∧ SameBut [.cores, .counters, .trace] s t) ∧
      (∀ f, failed = some f → (s.core core).repeatCode = none → (t.core core).repeatCode = some f.toNat ∧
        t.running = [] ∧ t.crock = s.crock) ∧
      (∀ f, failed = some f → (s.core core).repeatCode = some f.toNat → t.coreRetired core = true ∧
        ∃ x ∈ t.crock.mirror.faults, x.kind = 10 ∧ x.unitKind = 4 ∧ x.core = core.val ∧ x.outcome = 2 ∧ x.detail = f.toNat) ∧
      (∀ r, failed = none → (s.core core).repeatCode = some r → (t.core core).repeatCode = none ∧
        ∃ x ∈ t.crock.mirror.faults, x.kind = 10 ∧ x.unitKind = 4 ∧ x.core = core.val ∧ x.outcome = 1))) ∧
  (∀ (s : State) (a b : Activity), Serving s → a.code = 2 ∨ a.code = 4 → b.code = 2 ∨ b.code = 4 →
    (s.waiting = [a] → s.blocked a = true → exec .maintArbiterRun s = .next s) ∧
    (s.waiting = [a] → s.blocked a = false → Completes .maintArbiterRun s (fun t => t.running = s.running ++ [a] ∧ t.waiting = [] ∧
      SameBut [.running, .waiting, .trace] s t)) ∧
    (s.waiting = [a, b] → s.blocked a = false → s.blocked b = false → a.code = 2 → b.code = 4 → Completes .maintArbiterRun s (fun t =>
      t.running = s.running ++ [b] ∧ t.waiting = [a] ∧ SameBut [.running, .waiting, .trace] s t)))

/-- Programming, erase and package memory (R118, R121, R130, R132, R134, R297, R347, R351, R352, R379): a tile enters Programming when
nothing runs on it, a verified one is Held with its record's weights and digest, an erased one is Blank; patrol scrub moves
on and counts its passes; an uncorrectable line is fatal in the firmware copies, resets the partition whose region it lies in, or
stays recorded as poisoned; one of the Stockpot resets the partition whose flows it holds. -/
def Obligations.ProgrammingAndMemoryErrorsAct : Prop :=
  (∀ (core : Fin 32) (tile : Fin 33) (s : State) (a : Activity), s.coresRun = true →
    let v := s.tile core tile
    let crock5 := fun (t : State) => (t.calRec core tile).state = 5 ∧
      (∀ c u, c < 32 → u < 33 → ¬ (c = core.val ∧ u = tile.val) → t.tile c u = s.tile c u ∧ t.calRec c u = s.calRec c u) ∧
      SameBut [.tiles, .crock] s t
    (s.act? 3 0 core tile = some a → v.state ≠ .programming →
      ((∃ r m p c, v.job = some (.program r m p c) ∧ s.needed core tile = false) ∨ (∃ b c, v.job = some (.refresh b c)) ∨
        (∃ k b c, v.job = some (.restoreColumn k b c)) ∨ (∃ c, v.job = some (.restoreTile c)) →
        v.inFlight = [] → v.running = none → Completes (.programmingStart core tile) s (fun t =>
          t.tile core tile = { v with state := .programming, refDue := false, calDue := false, testDue := false } ∧ crock5 t)) ∧
      (v.inFlight ≠ [] → exec (.programmingStart core tile) s = .next s)) ∧
    (∀ known cal r rec model p id k, s.act? 3 0 core tile = some a → v.state = .programming →
      v.job = some (.program rec model p (some id)) → s.pre.cmds = [k] → k.id = id → k.op = 0x101 → s.ringOn k.h = true →
      WellFormed.kats known = true → WellFormed.cal cal = true → calFails cal = [] → (s.tileStuck core tile).length ≤ 64 →
      s.waiting = [] → s.running = [a] →
      (s.modTile core tile (takeRecord (.program rec model p (some id)))).katFails core tile known 4 0 = [] →
      Completes (.programmingDone core tile [] known cal r) s (fun t =>
      (t.tile core tile).state = .held ∧ (t.tile core tile).weights = rec.weights ∧ (t.tile core tile).shadow = true ∧
      (t.tile core tile).owner = some (p, model) ∧ (t.tile core tile).gainCorr = 0x8000 ∧ (t.tile core tile).job = none ∧
      (t.calRec core tile).state = 1 ∧ (t.calRec core tile).digest = rec.digest ∧ (t.calRec core tile).age = 0 ∧
      (t.calRec core tile).e535 = r.m535 ∧ t.running = [] ∧ t.pre.cmds = [] ∧
      t.host = (s.modLane k.h.fn k.h.queue.toNat (fun l => { l with held := l.held ++ [replyOf k.h k.op stOk [0] s] })).host)) ∧
    (s.act? 3 1 core tile = some a → v.job = some .erase →
      (v.state ≠ .programming → s.usedByCommitted core tile = false → s.needed core tile = false →
        Completes (.modelEraseStart core tile) s (fun t => t.tile core tile = { v with state := .programming } ∧ crock5 t)) ∧
      (s.usedByCommitted core tile = true ∨ s.needed core tile = true → exec (.modelEraseStart core tile) s = .next s) ∧
      (v.state = .programming → Completes (.tileEraseDone core tile) s (fun t => (t.tile core tile).state = .blank ∧
        (t.tile core tile).weights = [] ∧ (t.tile core tile).owner = none ∧ (t.tile core tile).job = none ∧
        (t.tile core tile).shadow = false ∧ (t.calRec core tile).digest = [] ∧ a ∉ t.running ∧
        ((s.calRec core tile).state ≠ 4 → (t.calRec core tile).state = 0) ∧ SameBut [.tiles, .crock, .running, .trace] s t)))) ∧
  (∀ (line : Nat) (s : State), line < 503316480 → s.memRuns = true →
    let one := fun (i : Nat) (t : State) => t.counter (devCtr i) = min (s.counter (devCtr i) + 1) (counterMax (devCtr i))
    (∀ corrected, s.scrubOn = true → s.pkg.scrubNext ≤ line →
      (line + 1 < 503316480 → Completes (.patrolScrub line corrected) s (fun t => t.pkg = { s.pkg with scrubNext := line + 1 } ∧
        (corrected = true → one 1 t) ∧ (corrected = false → t.counters = s.counters) ∧ SameBut [.pkg, .counters] s t)) ∧
      (line + 1 = 503316480 → s.running = [] → Completes (.patrolScrub line corrected) s (fun t =>
        t.pkg = { s.pkg with scrubNext := 0 } ∧ one 3 t ∧ SameBut [.pkg, .counters] s t))) ∧
    (∀ corrected, s.scrubOn = false ∨ line < s.pkg.scrubNext → exec (.patrolScrub line corrected) s = .next s) ∧
    (∀ both, s.pkg.poison.contains line = true → exec (.memUncorrectable line both) s = .next s) ∧
    (∀ both, s.power.fatal = false → s.pkg.poison.contains line = false → s.crock.mirror.faults.length < 1000 →
      let unit := line / 1048576
      let noted := fun (outcome part : Nat) (t : State) => ∃ x ∈ t.crock.mirror.faults, x.kind = 13 ∧ x.outcome = outcome ∧
        x.partition = part ∧ x.address = 64 * line
      Completes (.memUncorrectable line both) s (fun t => one 2 t ∧
        (unit < 8 → both = false → SameBut [.counters] s t) ∧
        (unit < 8 → both = true → t.power.fatal = true ∧ t.crock.mirror.lastHalt = 2) ∧
        (8 ≤ unit → s.regionOf? unit = none → noted 2 255 t ∧ line ∈ t.pkg.poison) ∧
        (∀ p k, 8 ≤ unit → s.regionOf? unit = some (p, k) → noted 7 p t ∧ ∀ n c, t.ctx? n = some c → c.part ≠ p)))) ∧
  (∀ (line : Fin 16384) (s : State), s.coresRun = true → s.crock.mirror.faults.length < 1000 →
    Completes (.stockpotUncorr line) s (fun t =>
      let noted := fun (outcome part : Nat) => ∃ x ∈ t.crock.mirror.faults, x.kind = 14 ∧ x.outcome = outcome ∧
        x.partition = part ∧ x.detail = line.val
      (s.flowPart? line = none → noted 2 255) ∧
      (∀ p, s.flowPart? line = some p → noted 7 p ∧ ∀ n c, t.ctx? n = some c → c.part ≠ p)))

/-! ## The network -/

/-- Ports, node messages, RoCEv2 and PTP (R332, R333, R336 to R344): a port that comes up and every second says HELLO to its node peers;
ARP and neighbour solicitation are answered for the port's own addresses, other frames are dropped and counted; PFC holds a port
back; a HELLO settles the level, a RECORD is taken in order and acknowledged, an ACK frees what it covers, a resend happens eight
times before the peer is down; a RoCEv2 peer goes back on NAK and timeout and halves its rate on CNP; Sync, Follow_Up, Delay_Resp
and Announce move the PTP state as R342 and R343 say. -/
def Obligations.TheNetworkServesItsPeers : Prop :=
  (∀ (port : Fin 2) (s : State), s.netRuns = true →
    let v := s.port port
    let one := fun (i : Nat) (t : State) => t.counter (portCtr port i) = min (s.counter (portCtr port i) + 1) (counterMax (portCtr port i))
    let sent := fun (kind dest : Nat) (t : State) => ∃ b, t.host = { s.host with out := s.host.out ++ [.frame port kind dest b] }
    (bits (v.w 0) 0 2 ≠ 0 → v.link ≠ 2 →
      (s.nodePeers port = [] → Completes (.portLinkUp port) s (fun t => t.port port = { v with link := 2 } ∧ SameBut [.net] s t)) ∧
      (∀ p n, s.nodePeers port = [(p, n)] → (s.peer p n).port = port.val → Completes (.portLinkUp port) s (fun t =>
        t.port port = { v with link := 2 } ∧ sent 1 (64 * p + n) t ∧ one 0 t ∧ t.net.peers = s.net.peers ∧
        SameBut [.net, .host, .counters] s t))) ∧
    Completes (.portLinkDown port) s (fun t => t.port port = { v with link := 0 } ∧ (∀ k, k ≠ port.val → t.port k = s.port k) ∧
      SameBut [.net] s t) ∧
    (v.link = 2 →
      (∀ p n, (∀ k, k < 2 → k ≠ port.val → (s.port k).link ≠ 2) → s.nodePeers port = [(p, n)] → (s.peer p n).port = port.val →
        Completes .helloTimer s (fun t => sent 1 (64 * p + n) t ∧ one 0 t ∧ SameBut [.host, .counters] s t)) ∧
      Completes (.netRxDrop port) s (fun t => one 3 t ∧ SameBut [.counters] s t) ∧
      (∀ target, (target = v.w 3 → Completes (.arpRequest port target) s (fun t => SameBut [.host] s t ∧ t.host =
          { s.host with out := s.host.out ++ [.frame port 18 0 (leBytes 6 v.mac ++ leBytes 4 target.toNat)] })) ∧
        (target ≠ v.w 3 → Completes (.arpRequest port target) s (fun t => one 3 t ∧ SameBut [.counters] s t))) ∧
      (∀ target : BitVec 128, (target.toNat = v.ipv6 → Completes (.neighbourSolicitation port target) s (fun t => SameBut [.host] s t ∧
          t.host = { s.host with out := s.host.out ++ [.frame port 19 0 (leBytes 6 v.mac ++ leBytes 16 target.toNat)] })) ∧
        (target.toNat ≠ v.ipv6 → Completes (.neighbourSolicitation port target) s (fun t => one 3 t ∧ SameBut [.counters] s t))) ∧
      (∀ (prio : Fin 8) (quanta : BitVec 16), bit (v.w 0) 3 = true → bits (v.w 0) 4 3 = prio.val → Completes (.pfc port prio quanta) s
        (fun t => t.port port = { v with paused := s.clk + (512 * quanta.toNat + 399) / 400 } ∧ SameBut [.net] s t)) ∧
      (∀ (prio : Fin 8) quanta, bit (v.w 0) 3 = false ∨ bits (v.w 0) 4 3 ≠ prio.val → exec (.pfc port prio quanta) s = .next s))) ∧
  (∀ (m : MsgHdr) (s : State), s.netRuns = true → (s.port m.port).link = 2 →
    let one := fun (i : Nat) (t : State) =>
      t.counter (portCtr m.port i) = min (s.counter (portCtr m.port i) + 1) (counterMax (portCtr m.port i))
    let sent := fun (kind dest : Nat) (t : State) => ∃ b, t.host = { s.host with out := s.host.out ++ [.frame m.port kind dest b] }
    (∀ a b c d e, m.type = 1 → m.magic ≠ 0x4B54 → Completes (.hello m a b c d e) s (fun t => one 3 t ∧ SameBut [.counters] s t)) ∧
    (∀ a b c d e, m.magic = 0x4B54 → m.level.toNat ≠ 1 → m.level.toNat ≠ 2 → m.type = 1 → s.peerOf? m 1 = none →
      Completes (.hello m a b c d e) s (fun t => one 4 t ∧ sent 1 (65536 + m.srcNode.toNat) t ∧ SameBut [.host, .counters] s t)) ∧
    (∀ p n, m.magic = 0x4B54 → m.level.toNat = 1 ∨ m.level.toNat = 2 →
      let v := s.peer p n
      let kept := v.unacked.filter (fun u => decide (m.ack.toNat < u.seq))
      (s.peerOf? m 1 = some (p, n) →
        (∀ a highest c d e, m.type = 1 → v.down = false → Completes (.hello m a highest c d e) s (fun t => one 1 t ∧
          t.peer p n = { v with level := clampN highest.toNat 1 2, unacked := kept } ∧ SameBut [.net, .counters] s t)) ∧
        (∀ data, m.type = 2 → WellFormed.message data = true → v.port = m.port.val → Completes (.record m data) s (fun t => one 1 t ∧
          sent 3 (64 * p + n) t ∧ (t.peer p n).unacked = kept ∧ (t.peer p n).level = v.level ∧
          (t.peer p n).seqIn = (if m.seq.toNat = v.seqIn + 1 then m.seq.toNat else v.seqIn) ∧
          (m.seq.toNat ≠ v.seqIn + 1 → (t.peer p n).inbox = v.inbox) ∧ SameBut [.net, .host, .counters] s t)) ∧
        (m.type = 3 → Completes (.ack m) s (fun t => one 1 t ∧ t.peer p n = { v with unacked := kept } ∧
          SameBut [.net, .counters] s t))) ∧
      (s.peerOf? m 2 = some (p, n) → m.level.toNat = 2 → m.type = 4 → v.port = m.port.val → ∀ offset : BitVec 64,
        Completes (.ringCredit m offset) s (fun t => one 1 t ∧ sent 3 (64 * p + n) t ∧ (t.peer p n).sent = v.sent ∧
          (m.seq.toNat ≤ v.seqIn → t.peer p n = v) ∧
          (v.seqIn < m.seq.toNat → (t.peer p n).seqIn = m.seq.toNat ∧
            (t.peer p n).readOff = offset.toNat % 2 ^ clampN (bits (v.w 12) 0 5) 12 30 / 64 * 64) ∧
          SameBut [.net, .host, .counters] s t))) ∧
    (∀ offset n, m.type = 5 → m.magic = 0x4B54 → m.level.toNat = 2 →
      (bit ((s.port m.port).w 9) 11 = true → Completes (.traceRead m offset n) s (fun t =>
        sent 6 (65536 + m.srcNode.toNat) t ∧ SameBut [.host] s t)) ∧
      (bit ((s.port m.port).w 9) 11 = false → exec (.traceRead m offset n) s = .next s))) ∧
  (∀ (p : Fin 8) (n : Fin 64) (s : State), s.netRuns = true → (s.port (s.peer p n).port).link = 2 → (s.peer p n).down = false →
    let v := s.peer p n
    let one := fun (i : Nat) (t : State) => t.counter (portCtr v.port i) = min (s.counter (portCtr v.port i) + 1) (counterMax (portCtr v.port i))
    let again := fun (l : List (Nat × Bytes)) (t : State) => t.host =
      { s.host with out := s.host.out ++ l.map (fun e => .frame v.port (e.2.headD 0).toNat (64 * p.val + n.val) (e.2.drop 1)) }
    let back := fun (w : Peer) (c : Instr) =>
      (w.sent = [] → Completes c s (fun t => t.peer p n = w ∧ SameBut [.net] s t)) ∧
      (w.sent ≠ [] → w.retries < 7 → Completes c s (fun t => t.peer p n = { w with retries := w.retries + 1 } ∧ again w.sent t ∧ one 5 t ∧
        SameBut [.net, .host, .counters] s t)) ∧
      (w.sent ≠ [] → 7 ≤ w.retries → Completes c s (fun t => t.peer p n = { w with down := true } ∧ SameBut [.net, .funnels, .trace] s t))
    (∀ u rest, v.kind = 1 → v.unacked = u :: rest →
      (u.resends < 8 → Completes (.recordResend p n) s (fun t => one 2 t ∧
        t.peer p n = { v with unacked := { u with resends := u.resends + 1 } :: rest } ∧
        t.host = { s.host with out := s.host.out ++ [.frame v.port 2 (64 * p.val + n.val) u.data] } ∧
        SameBut [.net, .host, .counters] s t)) ∧
      (8 ≤ u.resends → Completes (.recordResend p n) s (fun t => t.peer p n = { v with down := true } ∧
        SameBut [.net, .funnels, .trace] s t))) ∧
    (v.kind = 2 → back v (.roceTimeout p n) ∧
      (∀ psn nak, v.sent.any (fun e => e.1 = psn.toNat) = true →
        back { v with sent := v.sent.dropWhile (fun e => e.1 ≠ psn.toNat) } (.roceNak p n psn nak)) ∧
      (∀ psn, v.sent.any (fun e => e.1 = psn.toNat) = true → Completes (.roceAck p n psn) s (fun t =>
        t.peer p n = { v with sent := (v.sent.dropWhile (fun e => e.1 ≠ psn.toNat)).drop 1, retries := 0 } ∧ SameBut [.net] s t)) ∧
      (∀ psn, v.sent.any (fun e => e.1 = psn.toNat) = false → Completes (.roceAck p n psn) s (fun t => t.peer p n = v ∧
        SameBut [.net] s t)) ∧
      Completes (.roceCnp p n) s (fun t => t.peer p n = { v with rate := v.rate / 2 } ∧ one 6 t ∧ SameBut [.net, .counters] s t) ∧
      Completes (.roceRateRecover p n) s (fun t => t.peer p n = { v with rate := min 1000 (v.rate + 50) } ∧ SameBut [.net] s t))) ∧
  (∀ (port : Fin 2) (domain : BitVec 8) (s : State), s.ptpTakes port domain.toNat = true →
    let off := fun (raw : Int) => raw - s.net.ptpDelay
    let taken := fun (raw : Int) (t : State) => t.net.ptpOffset = off raw ∧ t.net.ptpHeld = none ∧
      t.net.ptpGood = (if (off raw).natAbs < 100 then min (s.net.ptpGood + 1) 16 else 0) ∧
      (1000 < (off raw).natAbs → t.net.ptpLocked = false) ∧
      ((off raw).natAbs ≤ 1000 → (t.net.ptpLocked = true ↔ s.net.ptpLocked = true ∨ t.net.ptpGood = 16)) ∧
      t.net.master = s.net.master ∧ t.net.peers = s.net.peers ∧ t.tb.tick = s.tb.tick ∧ t.tb.state = s.tb.state ∧ SameBut [.net, .tb] s t
    (s.net.master.elim false (fun m => m.1 == port.val) = true →
      (∀ raw, Completes (.ptpSync port domain false raw) s (taken raw)) ∧
      (∀ raw, Completes (.ptpSync port domain true raw) s (fun t => t = { s with net := { s.net with ptpHeld := some raw } })) ∧
      (∀ raw, s.net.ptpHeld ≠ none → Completes (.followUp port domain raw) s (taken raw)) ∧
      (∀ raw, s.net.ptpHeld = none → exec (.followUp port domain raw) s = .next s) ∧
      (∀ delay, Completes (.delayResp port domain delay) s (fun t => t = { s with net := { s.net with ptpDelay := delay } }))) ∧
    (∀ rank master, (s.net.master = none ∨ (∃ r i, s.net.master = some (port.val, r, i) ∧ (rank < r ∨ (rank = r ∧ master.toNat < i))) →
        Completes (.announce port domain rank master) s (fun t =>
          t = { s with net := { s.net with master := some (port.val, rank, master.toNat) } })) ∧
      (∀ r i, s.net.master = some (port.val, r, i) → i ≠ master.toNat → r < rank → Completes (.announce port domain rank master) s
        (fun t => t = s)))) ∧
  (∀ s, Serving s → Completes .ptpSyncTimeout s (fun t =>
    t = { s with net := { s.net with ptpLocked := false, ptpGood := 0, ptpHeld := none } }))

end
end

