-- ==== Sys2Proof/Laws/State.lean ====
section
/-! SUPPORT. What each update of State leaves and changes, field by field: later proofs never unfold a record update. -/

namespace Sys2Proof.Machine

variable (s : State)

/-! ## modPower -/

@[simp] theorem State.modPower_pending (f : Power → Power) : (s.modPower f).pending = s.pending := rfl
@[simp] theorem State.modPower_clk (f : Power → Power) : (s.modPower f).clk = s.clk := rfl
@[simp] theorem State.modPower_draw (f : Power → Power) : (s.modPower f).draw = s.draw := rfl
@[simp] theorem State.modPower_power (f : Power → Power) : (s.modPower f).power = f s.power := rfl
@[simp] theorem State.modPower_crock (f : Power → Power) : (s.modPower f).crock = s.crock := rfl
@[simp] theorem State.modPower_sec (f : Power → Power) : (s.modPower f).sec = s.sec := rfl
@[simp] theorem State.modPower_host (f : Power → Power) : (s.modPower f).host = s.host := rfl
@[simp] theorem State.modPower_pre (f : Power → Power) : (s.modPower f).pre = s.pre := rfl
@[simp] theorem State.modPower_tiles (f : Power → Power) : (s.modPower f).tiles = s.tiles := rfl
@[simp] theorem State.modPower_cores (f : Power → Power) : (s.modPower f).cores = s.cores := rfl
@[simp] theorem State.modPower_flows (f : Power → Power) : (s.modPower f).flows = s.flows := rfl
@[simp] theorem State.modPower_ingest (f : Power → Power) : (s.modPower f).ingest = s.ingest := rfl
@[simp] theorem State.modPower_tb (f : Power → Power) : (s.modPower f).tb = s.tb := rfl
@[simp] theorem State.modPower_funnels (f : Power → Power) : (s.modPower f).funnels = s.funnels := rfl
@[simp] theorem State.modPower_running (f : Power → Power) : (s.modPower f).running = s.running := rfl
@[simp] theorem State.modPower_waiting (f : Power → Power) : (s.modPower f).waiting = s.waiting := rfl
@[simp] theorem State.modPower_net (f : Power → Power) : (s.modPower f).net = s.net := rfl
@[simp] theorem State.modPower_probe (f : Power → Power) : (s.modPower f).probe = s.probe := rfl
@[simp] theorem State.modPower_trace (f : Power → Power) : (s.modPower f).trace = s.trace := rfl
@[simp] theorem State.modPower_counters (f : Power → Power) : (s.modPower f).counters = s.counters := rfl
@[simp] theorem State.modPower_mgmt (f : Power → Power) : (s.modPower f).mgmt = s.mgmt := rfl
@[simp] theorem State.modPower_pkg (f : Power → Power) : (s.modPower f).pkg = s.pkg := rfl

/-! ## modCrock -/

@[simp] theorem State.modCrock_pending (f : Crock → Crock) : (s.modCrock f).pending = s.pending := rfl
@[simp] theorem State.modCrock_clk (f : Crock → Crock) : (s.modCrock f).clk = s.clk := rfl
@[simp] theorem State.modCrock_draw (f : Crock → Crock) : (s.modCrock f).draw = s.draw := rfl
@[simp] theorem State.modCrock_power (f : Crock → Crock) : (s.modCrock f).power = s.power := rfl
@[simp] theorem State.modCrock_crock (f : Crock → Crock) : (s.modCrock f).crock = f s.crock := rfl
@[simp] theorem State.modCrock_sec (f : Crock → Crock) : (s.modCrock f).sec = s.sec := rfl
@[simp] theorem State.modCrock_host (f : Crock → Crock) : (s.modCrock f).host = s.host := rfl
@[simp] theorem State.modCrock_pre (f : Crock → Crock) : (s.modCrock f).pre = s.pre := rfl
@[simp] theorem State.modCrock_tiles (f : Crock → Crock) : (s.modCrock f).tiles = s.tiles := rfl
@[simp] theorem State.modCrock_cores (f : Crock → Crock) : (s.modCrock f).cores = s.cores := rfl
@[simp] theorem State.modCrock_flows (f : Crock → Crock) : (s.modCrock f).flows = s.flows := rfl
@[simp] theorem State.modCrock_ingest (f : Crock → Crock) : (s.modCrock f).ingest = s.ingest := rfl
@[simp] theorem State.modCrock_tb (f : Crock → Crock) : (s.modCrock f).tb = s.tb := rfl
@[simp] theorem State.modCrock_funnels (f : Crock → Crock) : (s.modCrock f).funnels = s.funnels := rfl
@[simp] theorem State.modCrock_running (f : Crock → Crock) : (s.modCrock f).running = s.running := rfl
@[simp] theorem State.modCrock_waiting (f : Crock → Crock) : (s.modCrock f).waiting = s.waiting := rfl
@[simp] theorem State.modCrock_net (f : Crock → Crock) : (s.modCrock f).net = s.net := rfl
@[simp] theorem State.modCrock_probe (f : Crock → Crock) : (s.modCrock f).probe = s.probe := rfl
@[simp] theorem State.modCrock_trace (f : Crock → Crock) : (s.modCrock f).trace = s.trace := rfl
@[simp] theorem State.modCrock_counters (f : Crock → Crock) : (s.modCrock f).counters = s.counters := rfl
@[simp] theorem State.modCrock_mgmt (f : Crock → Crock) : (s.modCrock f).mgmt = s.mgmt := rfl
@[simp] theorem State.modCrock_pkg (f : Crock → Crock) : (s.modCrock f).pkg = s.pkg := rfl

/-! ## modSec -/

@[simp] theorem State.modSec_pending (f : Security → Security) : (s.modSec f).pending = s.pending := rfl
@[simp] theorem State.modSec_clk (f : Security → Security) : (s.modSec f).clk = s.clk := rfl
@[simp] theorem State.modSec_draw (f : Security → Security) : (s.modSec f).draw = s.draw := rfl
@[simp] theorem State.modSec_power (f : Security → Security) : (s.modSec f).power = s.power := rfl
@[simp] theorem State.modSec_crock (f : Security → Security) : (s.modSec f).crock = s.crock := rfl
@[simp] theorem State.modSec_sec (f : Security → Security) : (s.modSec f).sec = f s.sec := rfl
@[simp] theorem State.modSec_host (f : Security → Security) : (s.modSec f).host = s.host := rfl
@[simp] theorem State.modSec_pre (f : Security → Security) : (s.modSec f).pre = s.pre := rfl
@[simp] theorem State.modSec_tiles (f : Security → Security) : (s.modSec f).tiles = s.tiles := rfl
@[simp] theorem State.modSec_cores (f : Security → Security) : (s.modSec f).cores = s.cores := rfl
@[simp] theorem State.modSec_flows (f : Security → Security) : (s.modSec f).flows = s.flows := rfl
@[simp] theorem State.modSec_ingest (f : Security → Security) : (s.modSec f).ingest = s.ingest := rfl
@[simp] theorem State.modSec_tb (f : Security → Security) : (s.modSec f).tb = s.tb := rfl
@[simp] theorem State.modSec_funnels (f : Security → Security) : (s.modSec f).funnels = s.funnels := rfl
@[simp] theorem State.modSec_running (f : Security → Security) : (s.modSec f).running = s.running := rfl
@[simp] theorem State.modSec_waiting (f : Security → Security) : (s.modSec f).waiting = s.waiting := rfl
@[simp] theorem State.modSec_net (f : Security → Security) : (s.modSec f).net = s.net := rfl
@[simp] theorem State.modSec_probe (f : Security → Security) : (s.modSec f).probe = s.probe := rfl
@[simp] theorem State.modSec_trace (f : Security → Security) : (s.modSec f).trace = s.trace := rfl
@[simp] theorem State.modSec_counters (f : Security → Security) : (s.modSec f).counters = s.counters := rfl
@[simp] theorem State.modSec_mgmt (f : Security → Security) : (s.modSec f).mgmt = s.mgmt := rfl
@[simp] theorem State.modSec_pkg (f : Security → Security) : (s.modSec f).pkg = s.pkg := rfl

/-! ## modHost -/

@[simp] theorem State.modHost_pending (f : HostSide → HostSide) : (s.modHost f).pending = s.pending := rfl
@[simp] theorem State.modHost_clk (f : HostSide → HostSide) : (s.modHost f).clk = s.clk := rfl
@[simp] theorem State.modHost_draw (f : HostSide → HostSide) : (s.modHost f).draw = s.draw := rfl
@[simp] theorem State.modHost_power (f : HostSide → HostSide) : (s.modHost f).power = s.power := rfl
@[simp] theorem State.modHost_crock (f : HostSide → HostSide) : (s.modHost f).crock = s.crock := rfl
@[simp] theorem State.modHost_sec (f : HostSide → HostSide) : (s.modHost f).sec = s.sec := rfl
@[simp] theorem State.modHost_host (f : HostSide → HostSide) : (s.modHost f).host = f s.host := rfl
@[simp] theorem State.modHost_pre (f : HostSide → HostSide) : (s.modHost f).pre = s.pre := rfl
@[simp] theorem State.modHost_tiles (f : HostSide → HostSide) : (s.modHost f).tiles = s.tiles := rfl
@[simp] theorem State.modHost_cores (f : HostSide → HostSide) : (s.modHost f).cores = s.cores := rfl
@[simp] theorem State.modHost_flows (f : HostSide → HostSide) : (s.modHost f).flows = s.flows := rfl
@[simp] theorem State.modHost_ingest (f : HostSide → HostSide) : (s.modHost f).ingest = s.ingest := rfl
@[simp] theorem State.modHost_tb (f : HostSide → HostSide) : (s.modHost f).tb = s.tb := rfl
@[simp] theorem State.modHost_funnels (f : HostSide → HostSide) : (s.modHost f).funnels = s.funnels := rfl
@[simp] theorem State.modHost_running (f : HostSide → HostSide) : (s.modHost f).running = s.running := rfl
@[simp] theorem State.modHost_waiting (f : HostSide → HostSide) : (s.modHost f).waiting = s.waiting := rfl
@[simp] theorem State.modHost_net (f : HostSide → HostSide) : (s.modHost f).net = s.net := rfl
@[simp] theorem State.modHost_probe (f : HostSide → HostSide) : (s.modHost f).probe = s.probe := rfl
@[simp] theorem State.modHost_trace (f : HostSide → HostSide) : (s.modHost f).trace = s.trace := rfl
@[simp] theorem State.modHost_counters (f : HostSide → HostSide) : (s.modHost f).counters = s.counters := rfl
@[simp] theorem State.modHost_mgmt (f : HostSide → HostSide) : (s.modHost f).mgmt = s.mgmt := rfl
@[simp] theorem State.modHost_pkg (f : HostSide → HostSide) : (s.modHost f).pkg = s.pkg := rfl

/-! ## modPre -/

@[simp] theorem State.modPre_pending (f : Preoft → Preoft) : (s.modPre f).pending = s.pending := rfl
@[simp] theorem State.modPre_clk (f : Preoft → Preoft) : (s.modPre f).clk = s.clk := rfl
@[simp] theorem State.modPre_draw (f : Preoft → Preoft) : (s.modPre f).draw = s.draw := rfl
@[simp] theorem State.modPre_power (f : Preoft → Preoft) : (s.modPre f).power = s.power := rfl
@[simp] theorem State.modPre_crock (f : Preoft → Preoft) : (s.modPre f).crock = s.crock := rfl
@[simp] theorem State.modPre_sec (f : Preoft → Preoft) : (s.modPre f).sec = s.sec := rfl
@[simp] theorem State.modPre_host (f : Preoft → Preoft) : (s.modPre f).host = s.host := rfl
@[simp] theorem State.modPre_pre (f : Preoft → Preoft) : (s.modPre f).pre = f s.pre := rfl
@[simp] theorem State.modPre_tiles (f : Preoft → Preoft) : (s.modPre f).tiles = s.tiles := rfl
@[simp] theorem State.modPre_cores (f : Preoft → Preoft) : (s.modPre f).cores = s.cores := rfl
@[simp] theorem State.modPre_flows (f : Preoft → Preoft) : (s.modPre f).flows = s.flows := rfl
@[simp] theorem State.modPre_ingest (f : Preoft → Preoft) : (s.modPre f).ingest = s.ingest := rfl
@[simp] theorem State.modPre_tb (f : Preoft → Preoft) : (s.modPre f).tb = s.tb := rfl
@[simp] theorem State.modPre_funnels (f : Preoft → Preoft) : (s.modPre f).funnels = s.funnels := rfl
@[simp] theorem State.modPre_running (f : Preoft → Preoft) : (s.modPre f).running = s.running := rfl
@[simp] theorem State.modPre_waiting (f : Preoft → Preoft) : (s.modPre f).waiting = s.waiting := rfl
@[simp] theorem State.modPre_net (f : Preoft → Preoft) : (s.modPre f).net = s.net := rfl
@[simp] theorem State.modPre_probe (f : Preoft → Preoft) : (s.modPre f).probe = s.probe := rfl
@[simp] theorem State.modPre_trace (f : Preoft → Preoft) : (s.modPre f).trace = s.trace := rfl
@[simp] theorem State.modPre_counters (f : Preoft → Preoft) : (s.modPre f).counters = s.counters := rfl
@[simp] theorem State.modPre_mgmt (f : Preoft → Preoft) : (s.modPre f).mgmt = s.mgmt := rfl
@[simp] theorem State.modPre_pkg (f : Preoft → Preoft) : (s.modPre f).pkg = s.pkg := rfl

/-! ## modFlows -/

@[simp] theorem State.modFlows_pending (f : Flows → Flows) : (s.modFlows f).pending = s.pending := rfl
@[simp] theorem State.modFlows_clk (f : Flows → Flows) : (s.modFlows f).clk = s.clk := rfl
@[simp] theorem State.modFlows_draw (f : Flows → Flows) : (s.modFlows f).draw = s.draw := rfl
@[simp] theorem State.modFlows_power (f : Flows → Flows) : (s.modFlows f).power = s.power := rfl
@[simp] theorem State.modFlows_crock (f : Flows → Flows) : (s.modFlows f).crock = s.crock := rfl
@[simp] theorem State.modFlows_sec (f : Flows → Flows) : (s.modFlows f).sec = s.sec := rfl
@[simp] theorem State.modFlows_host (f : Flows → Flows) : (s.modFlows f).host = s.host := rfl
@[simp] theorem State.modFlows_pre (f : Flows → Flows) : (s.modFlows f).pre = s.pre := rfl
@[simp] theorem State.modFlows_tiles (f : Flows → Flows) : (s.modFlows f).tiles = s.tiles := rfl
@[simp] theorem State.modFlows_cores (f : Flows → Flows) : (s.modFlows f).cores = s.cores := rfl
@[simp] theorem State.modFlows_flows (f : Flows → Flows) : (s.modFlows f).flows = f s.flows := rfl
@[simp] theorem State.modFlows_ingest (f : Flows → Flows) : (s.modFlows f).ingest = s.ingest := rfl
@[simp] theorem State.modFlows_tb (f : Flows → Flows) : (s.modFlows f).tb = s.tb := rfl
@[simp] theorem State.modFlows_funnels (f : Flows → Flows) : (s.modFlows f).funnels = s.funnels := rfl
@[simp] theorem State.modFlows_running (f : Flows → Flows) : (s.modFlows f).running = s.running := rfl
@[simp] theorem State.modFlows_waiting (f : Flows → Flows) : (s.modFlows f).waiting = s.waiting := rfl
@[simp] theorem State.modFlows_net (f : Flows → Flows) : (s.modFlows f).net = s.net := rfl
@[simp] theorem State.modFlows_probe (f : Flows → Flows) : (s.modFlows f).probe = s.probe := rfl
@[simp] theorem State.modFlows_trace (f : Flows → Flows) : (s.modFlows f).trace = s.trace := rfl
@[simp] theorem State.modFlows_counters (f : Flows → Flows) : (s.modFlows f).counters = s.counters := rfl
@[simp] theorem State.modFlows_mgmt (f : Flows → Flows) : (s.modFlows f).mgmt = s.mgmt := rfl
@[simp] theorem State.modFlows_pkg (f : Flows → Flows) : (s.modFlows f).pkg = s.pkg := rfl

/-! ## modIngest -/

@[simp] theorem State.modIngest_pending (f : Ingest → Ingest) : (s.modIngest f).pending = s.pending := rfl
@[simp] theorem State.modIngest_clk (f : Ingest → Ingest) : (s.modIngest f).clk = s.clk := rfl
@[simp] theorem State.modIngest_draw (f : Ingest → Ingest) : (s.modIngest f).draw = s.draw := rfl
@[simp] theorem State.modIngest_power (f : Ingest → Ingest) : (s.modIngest f).power = s.power := rfl
@[simp] theorem State.modIngest_crock (f : Ingest → Ingest) : (s.modIngest f).crock = s.crock := rfl
@[simp] theorem State.modIngest_sec (f : Ingest → Ingest) : (s.modIngest f).sec = s.sec := rfl
@[simp] theorem State.modIngest_host (f : Ingest → Ingest) : (s.modIngest f).host = s.host := rfl
@[simp] theorem State.modIngest_pre (f : Ingest → Ingest) : (s.modIngest f).pre = s.pre := rfl
@[simp] theorem State.modIngest_tiles (f : Ingest → Ingest) : (s.modIngest f).tiles = s.tiles := rfl
@[simp] theorem State.modIngest_cores (f : Ingest → Ingest) : (s.modIngest f).cores = s.cores := rfl
@[simp] theorem State.modIngest_flows (f : Ingest → Ingest) : (s.modIngest f).flows = s.flows := rfl
@[simp] theorem State.modIngest_ingest (f : Ingest → Ingest) : (s.modIngest f).ingest = f s.ingest := rfl
@[simp] theorem State.modIngest_tb (f : Ingest → Ingest) : (s.modIngest f).tb = s.tb := rfl
@[simp] theorem State.modIngest_funnels (f : Ingest → Ingest) : (s.modIngest f).funnels = s.funnels := rfl
@[simp] theorem State.modIngest_running (f : Ingest → Ingest) : (s.modIngest f).running = s.running := rfl
@[simp] theorem State.modIngest_waiting (f : Ingest → Ingest) : (s.modIngest f).waiting = s.waiting := rfl
@[simp] theorem State.modIngest_net (f : Ingest → Ingest) : (s.modIngest f).net = s.net := rfl
@[simp] theorem State.modIngest_probe (f : Ingest → Ingest) : (s.modIngest f).probe = s.probe := rfl
@[simp] theorem State.modIngest_trace (f : Ingest → Ingest) : (s.modIngest f).trace = s.trace := rfl
@[simp] theorem State.modIngest_counters (f : Ingest → Ingest) : (s.modIngest f).counters = s.counters := rfl
@[simp] theorem State.modIngest_mgmt (f : Ingest → Ingest) : (s.modIngest f).mgmt = s.mgmt := rfl
@[simp] theorem State.modIngest_pkg (f : Ingest → Ingest) : (s.modIngest f).pkg = s.pkg := rfl

/-! ## modTb -/

@[simp] theorem State.modTb_pending (f : Timebase → Timebase) : (s.modTb f).pending = s.pending := rfl
@[simp] theorem State.modTb_clk (f : Timebase → Timebase) : (s.modTb f).clk = s.clk := rfl
@[simp] theorem State.modTb_draw (f : Timebase → Timebase) : (s.modTb f).draw = s.draw := rfl
@[simp] theorem State.modTb_power (f : Timebase → Timebase) : (s.modTb f).power = s.power := rfl
@[simp] theorem State.modTb_crock (f : Timebase → Timebase) : (s.modTb f).crock = s.crock := rfl
@[simp] theorem State.modTb_sec (f : Timebase → Timebase) : (s.modTb f).sec = s.sec := rfl
@[simp] theorem State.modTb_host (f : Timebase → Timebase) : (s.modTb f).host = s.host := rfl
@[simp] theorem State.modTb_pre (f : Timebase → Timebase) : (s.modTb f).pre = s.pre := rfl
@[simp] theorem State.modTb_tiles (f : Timebase → Timebase) : (s.modTb f).tiles = s.tiles := rfl
@[simp] theorem State.modTb_cores (f : Timebase → Timebase) : (s.modTb f).cores = s.cores := rfl
@[simp] theorem State.modTb_flows (f : Timebase → Timebase) : (s.modTb f).flows = s.flows := rfl
@[simp] theorem State.modTb_ingest (f : Timebase → Timebase) : (s.modTb f).ingest = s.ingest := rfl
@[simp] theorem State.modTb_tb (f : Timebase → Timebase) : (s.modTb f).tb = f s.tb := rfl
@[simp] theorem State.modTb_funnels (f : Timebase → Timebase) : (s.modTb f).funnels = s.funnels := rfl
@[simp] theorem State.modTb_running (f : Timebase → Timebase) : (s.modTb f).running = s.running := rfl
@[simp] theorem State.modTb_waiting (f : Timebase → Timebase) : (s.modTb f).waiting = s.waiting := rfl
@[simp] theorem State.modTb_net (f : Timebase → Timebase) : (s.modTb f).net = s.net := rfl
@[simp] theorem State.modTb_probe (f : Timebase → Timebase) : (s.modTb f).probe = s.probe := rfl
@[simp] theorem State.modTb_trace (f : Timebase → Timebase) : (s.modTb f).trace = s.trace := rfl
@[simp] theorem State.modTb_counters (f : Timebase → Timebase) : (s.modTb f).counters = s.counters := rfl
@[simp] theorem State.modTb_mgmt (f : Timebase → Timebase) : (s.modTb f).mgmt = s.mgmt := rfl
@[simp] theorem State.modTb_pkg (f : Timebase → Timebase) : (s.modTb f).pkg = s.pkg := rfl

/-! ## modNet -/

@[simp] theorem State.modNet_pending (f : Net → Net) : (s.modNet f).pending = s.pending := rfl
@[simp] theorem State.modNet_clk (f : Net → Net) : (s.modNet f).clk = s.clk := rfl
@[simp] theorem State.modNet_draw (f : Net → Net) : (s.modNet f).draw = s.draw := rfl
@[simp] theorem State.modNet_power (f : Net → Net) : (s.modNet f).power = s.power := rfl
@[simp] theorem State.modNet_crock (f : Net → Net) : (s.modNet f).crock = s.crock := rfl
@[simp] theorem State.modNet_sec (f : Net → Net) : (s.modNet f).sec = s.sec := rfl
@[simp] theorem State.modNet_host (f : Net → Net) : (s.modNet f).host = s.host := rfl
@[simp] theorem State.modNet_pre (f : Net → Net) : (s.modNet f).pre = s.pre := rfl
@[simp] theorem State.modNet_tiles (f : Net → Net) : (s.modNet f).tiles = s.tiles := rfl
@[simp] theorem State.modNet_cores (f : Net → Net) : (s.modNet f).cores = s.cores := rfl
@[simp] theorem State.modNet_flows (f : Net → Net) : (s.modNet f).flows = s.flows := rfl
@[simp] theorem State.modNet_ingest (f : Net → Net) : (s.modNet f).ingest = s.ingest := rfl
@[simp] theorem State.modNet_tb (f : Net → Net) : (s.modNet f).tb = s.tb := rfl
@[simp] theorem State.modNet_funnels (f : Net → Net) : (s.modNet f).funnels = s.funnels := rfl
@[simp] theorem State.modNet_running (f : Net → Net) : (s.modNet f).running = s.running := rfl
@[simp] theorem State.modNet_waiting (f : Net → Net) : (s.modNet f).waiting = s.waiting := rfl
@[simp] theorem State.modNet_net (f : Net → Net) : (s.modNet f).net = f s.net := rfl
@[simp] theorem State.modNet_probe (f : Net → Net) : (s.modNet f).probe = s.probe := rfl
@[simp] theorem State.modNet_trace (f : Net → Net) : (s.modNet f).trace = s.trace := rfl
@[simp] theorem State.modNet_counters (f : Net → Net) : (s.modNet f).counters = s.counters := rfl
@[simp] theorem State.modNet_mgmt (f : Net → Net) : (s.modNet f).mgmt = s.mgmt := rfl
@[simp] theorem State.modNet_pkg (f : Net → Net) : (s.modNet f).pkg = s.pkg := rfl

/-! ## modProbe -/

@[simp] theorem State.modProbe_pending (f : Probe → Probe) : (s.modProbe f).pending = s.pending := rfl
@[simp] theorem State.modProbe_clk (f : Probe → Probe) : (s.modProbe f).clk = s.clk := rfl
@[simp] theorem State.modProbe_draw (f : Probe → Probe) : (s.modProbe f).draw = s.draw := rfl
@[simp] theorem State.modProbe_power (f : Probe → Probe) : (s.modProbe f).power = s.power := rfl
@[simp] theorem State.modProbe_crock (f : Probe → Probe) : (s.modProbe f).crock = s.crock := rfl
@[simp] theorem State.modProbe_sec (f : Probe → Probe) : (s.modProbe f).sec = s.sec := rfl
@[simp] theorem State.modProbe_host (f : Probe → Probe) : (s.modProbe f).host = s.host := rfl
@[simp] theorem State.modProbe_pre (f : Probe → Probe) : (s.modProbe f).pre = s.pre := rfl
@[simp] theorem State.modProbe_tiles (f : Probe → Probe) : (s.modProbe f).tiles = s.tiles := rfl
@[simp] theorem State.modProbe_cores (f : Probe → Probe) : (s.modProbe f).cores = s.cores := rfl
@[simp] theorem State.modProbe_flows (f : Probe → Probe) : (s.modProbe f).flows = s.flows := rfl
@[simp] theorem State.modProbe_ingest (f : Probe → Probe) : (s.modProbe f).ingest = s.ingest := rfl
@[simp] theorem State.modProbe_tb (f : Probe → Probe) : (s.modProbe f).tb = s.tb := rfl
@[simp] theorem State.modProbe_funnels (f : Probe → Probe) : (s.modProbe f).funnels = s.funnels := rfl
@[simp] theorem State.modProbe_running (f : Probe → Probe) : (s.modProbe f).running = s.running := rfl
@[simp] theorem State.modProbe_waiting (f : Probe → Probe) : (s.modProbe f).waiting = s.waiting := rfl
@[simp] theorem State.modProbe_net (f : Probe → Probe) : (s.modProbe f).net = s.net := rfl
@[simp] theorem State.modProbe_probe (f : Probe → Probe) : (s.modProbe f).probe = f s.probe := rfl
@[simp] theorem State.modProbe_trace (f : Probe → Probe) : (s.modProbe f).trace = s.trace := rfl
@[simp] theorem State.modProbe_counters (f : Probe → Probe) : (s.modProbe f).counters = s.counters := rfl
@[simp] theorem State.modProbe_mgmt (f : Probe → Probe) : (s.modProbe f).mgmt = s.mgmt := rfl
@[simp] theorem State.modProbe_pkg (f : Probe → Probe) : (s.modProbe f).pkg = s.pkg := rfl

/-! ## modTrace -/

@[simp] theorem State.modTrace_pending (f : Trace → Trace) : (s.modTrace f).pending = s.pending := rfl
@[simp] theorem State.modTrace_clk (f : Trace → Trace) : (s.modTrace f).clk = s.clk := rfl
@[simp] theorem State.modTrace_draw (f : Trace → Trace) : (s.modTrace f).draw = s.draw := rfl
@[simp] theorem State.modTrace_power (f : Trace → Trace) : (s.modTrace f).power = s.power := rfl
@[simp] theorem State.modTrace_crock (f : Trace → Trace) : (s.modTrace f).crock = s.crock := rfl
@[simp] theorem State.modTrace_sec (f : Trace → Trace) : (s.modTrace f).sec = s.sec := rfl
@[simp] theorem State.modTrace_host (f : Trace → Trace) : (s.modTrace f).host = s.host := rfl
@[simp] theorem State.modTrace_pre (f : Trace → Trace) : (s.modTrace f).pre = s.pre := rfl
@[simp] theorem State.modTrace_tiles (f : Trace → Trace) : (s.modTrace f).tiles = s.tiles := rfl
@[simp] theorem State.modTrace_cores (f : Trace → Trace) : (s.modTrace f).cores = s.cores := rfl
@[simp] theorem State.modTrace_flows (f : Trace → Trace) : (s.modTrace f).flows = s.flows := rfl
@[simp] theorem State.modTrace_ingest (f : Trace → Trace) : (s.modTrace f).ingest = s.ingest := rfl
@[simp] theorem State.modTrace_tb (f : Trace → Trace) : (s.modTrace f).tb = s.tb := rfl
@[simp] theorem State.modTrace_funnels (f : Trace → Trace) : (s.modTrace f).funnels = s.funnels := rfl
@[simp] theorem State.modTrace_running (f : Trace → Trace) : (s.modTrace f).running = s.running := rfl
@[simp] theorem State.modTrace_waiting (f : Trace → Trace) : (s.modTrace f).waiting = s.waiting := rfl
@[simp] theorem State.modTrace_net (f : Trace → Trace) : (s.modTrace f).net = s.net := rfl
@[simp] theorem State.modTrace_probe (f : Trace → Trace) : (s.modTrace f).probe = s.probe := rfl
@[simp] theorem State.modTrace_trace (f : Trace → Trace) : (s.modTrace f).trace = f s.trace := rfl
@[simp] theorem State.modTrace_counters (f : Trace → Trace) : (s.modTrace f).counters = s.counters := rfl
@[simp] theorem State.modTrace_mgmt (f : Trace → Trace) : (s.modTrace f).mgmt = s.mgmt := rfl
@[simp] theorem State.modTrace_pkg (f : Trace → Trace) : (s.modTrace f).pkg = s.pkg := rfl

/-! ## modMgmt -/

@[simp] theorem State.modMgmt_pending (f : Mgmt → Mgmt) : (s.modMgmt f).pending = s.pending := rfl
@[simp] theorem State.modMgmt_clk (f : Mgmt → Mgmt) : (s.modMgmt f).clk = s.clk := rfl
@[simp] theorem State.modMgmt_draw (f : Mgmt → Mgmt) : (s.modMgmt f).draw = s.draw := rfl
@[simp] theorem State.modMgmt_power (f : Mgmt → Mgmt) : (s.modMgmt f).power = s.power := rfl
@[simp] theorem State.modMgmt_crock (f : Mgmt → Mgmt) : (s.modMgmt f).crock = s.crock := rfl
@[simp] theorem State.modMgmt_sec (f : Mgmt → Mgmt) : (s.modMgmt f).sec = s.sec := rfl
@[simp] theorem State.modMgmt_host (f : Mgmt → Mgmt) : (s.modMgmt f).host = s.host := rfl
@[simp] theorem State.modMgmt_pre (f : Mgmt → Mgmt) : (s.modMgmt f).pre = s.pre := rfl
@[simp] theorem State.modMgmt_tiles (f : Mgmt → Mgmt) : (s.modMgmt f).tiles = s.tiles := rfl
@[simp] theorem State.modMgmt_cores (f : Mgmt → Mgmt) : (s.modMgmt f).cores = s.cores := rfl
@[simp] theorem State.modMgmt_flows (f : Mgmt → Mgmt) : (s.modMgmt f).flows = s.flows := rfl
@[simp] theorem State.modMgmt_ingest (f : Mgmt → Mgmt) : (s.modMgmt f).ingest = s.ingest := rfl
@[simp] theorem State.modMgmt_tb (f : Mgmt → Mgmt) : (s.modMgmt f).tb = s.tb := rfl
@[simp] theorem State.modMgmt_funnels (f : Mgmt → Mgmt) : (s.modMgmt f).funnels = s.funnels := rfl
@[simp] theorem State.modMgmt_running (f : Mgmt → Mgmt) : (s.modMgmt f).running = s.running := rfl
@[simp] theorem State.modMgmt_waiting (f : Mgmt → Mgmt) : (s.modMgmt f).waiting = s.waiting := rfl
@[simp] theorem State.modMgmt_net (f : Mgmt → Mgmt) : (s.modMgmt f).net = s.net := rfl
@[simp] theorem State.modMgmt_probe (f : Mgmt → Mgmt) : (s.modMgmt f).probe = s.probe := rfl
@[simp] theorem State.modMgmt_trace (f : Mgmt → Mgmt) : (s.modMgmt f).trace = s.trace := rfl
@[simp] theorem State.modMgmt_counters (f : Mgmt → Mgmt) : (s.modMgmt f).counters = s.counters := rfl
@[simp] theorem State.modMgmt_mgmt (f : Mgmt → Mgmt) : (s.modMgmt f).mgmt = f s.mgmt := rfl
@[simp] theorem State.modMgmt_pkg (f : Mgmt → Mgmt) : (s.modMgmt f).pkg = s.pkg := rfl

/-! ## modPkg -/

@[simp] theorem State.modPkg_pending (f : PkgMem → PkgMem) : (s.modPkg f).pending = s.pending := rfl
@[simp] theorem State.modPkg_clk (f : PkgMem → PkgMem) : (s.modPkg f).clk = s.clk := rfl
@[simp] theorem State.modPkg_draw (f : PkgMem → PkgMem) : (s.modPkg f).draw = s.draw := rfl
@[simp] theorem State.modPkg_power (f : PkgMem → PkgMem) : (s.modPkg f).power = s.power := rfl
@[simp] theorem State.modPkg_crock (f : PkgMem → PkgMem) : (s.modPkg f).crock = s.crock := rfl
@[simp] theorem State.modPkg_sec (f : PkgMem → PkgMem) : (s.modPkg f).sec = s.sec := rfl
@[simp] theorem State.modPkg_host (f : PkgMem → PkgMem) : (s.modPkg f).host = s.host := rfl
@[simp] theorem State.modPkg_pre (f : PkgMem → PkgMem) : (s.modPkg f).pre = s.pre := rfl
@[simp] theorem State.modPkg_tiles (f : PkgMem → PkgMem) : (s.modPkg f).tiles = s.tiles := rfl
@[simp] theorem State.modPkg_cores (f : PkgMem → PkgMem) : (s.modPkg f).cores = s.cores := rfl
@[simp] theorem State.modPkg_flows (f : PkgMem → PkgMem) : (s.modPkg f).flows = s.flows := rfl
@[simp] theorem State.modPkg_ingest (f : PkgMem → PkgMem) : (s.modPkg f).ingest = s.ingest := rfl
@[simp] theorem State.modPkg_tb (f : PkgMem → PkgMem) : (s.modPkg f).tb = s.tb := rfl
@[simp] theorem State.modPkg_funnels (f : PkgMem → PkgMem) : (s.modPkg f).funnels = s.funnels := rfl
@[simp] theorem State.modPkg_running (f : PkgMem → PkgMem) : (s.modPkg f).running = s.running := rfl
@[simp] theorem State.modPkg_waiting (f : PkgMem → PkgMem) : (s.modPkg f).waiting = s.waiting := rfl
@[simp] theorem State.modPkg_net (f : PkgMem → PkgMem) : (s.modPkg f).net = s.net := rfl
@[simp] theorem State.modPkg_probe (f : PkgMem → PkgMem) : (s.modPkg f).probe = s.probe := rfl
@[simp] theorem State.modPkg_trace (f : PkgMem → PkgMem) : (s.modPkg f).trace = s.trace := rfl
@[simp] theorem State.modPkg_counters (f : PkgMem → PkgMem) : (s.modPkg f).counters = s.counters := rfl
@[simp] theorem State.modPkg_mgmt (f : PkgMem → PkgMem) : (s.modPkg f).mgmt = s.mgmt := rfl
@[simp] theorem State.modPkg_pkg (f : PkgMem → PkgMem) : (s.modPkg f).pkg = f s.pkg := rfl

/-! ## modMirror -/

@[simp] theorem State.modMirror_pending (f : Journal → Journal) : (s.modMirror f).pending = s.pending := rfl
@[simp] theorem State.modMirror_clk (f : Journal → Journal) : (s.modMirror f).clk = s.clk := rfl
@[simp] theorem State.modMirror_draw (f : Journal → Journal) : (s.modMirror f).draw = s.draw := rfl
@[simp] theorem State.modMirror_power (f : Journal → Journal) : (s.modMirror f).power = s.power := rfl
@[simp] theorem State.modMirror_crock (f : Journal → Journal) : (s.modMirror f).crock = { s.crock with mirror := f s.crock.mirror, dirty := true } := rfl
@[simp] theorem State.modMirror_sec (f : Journal → Journal) : (s.modMirror f).sec = s.sec := rfl
@[simp] theorem State.modMirror_host (f : Journal → Journal) : (s.modMirror f).host = s.host := rfl
@[simp] theorem State.modMirror_pre (f : Journal → Journal) : (s.modMirror f).pre = s.pre := rfl
@[simp] theorem State.modMirror_tiles (f : Journal → Journal) : (s.modMirror f).tiles = s.tiles := rfl
@[simp] theorem State.modMirror_cores (f : Journal → Journal) : (s.modMirror f).cores = s.cores := rfl
@[simp] theorem State.modMirror_flows (f : Journal → Journal) : (s.modMirror f).flows = s.flows := rfl
@[simp] theorem State.modMirror_ingest (f : Journal → Journal) : (s.modMirror f).ingest = s.ingest := rfl
@[simp] theorem State.modMirror_tb (f : Journal → Journal) : (s.modMirror f).tb = s.tb := rfl
@[simp] theorem State.modMirror_funnels (f : Journal → Journal) : (s.modMirror f).funnels = s.funnels := rfl
@[simp] theorem State.modMirror_running (f : Journal → Journal) : (s.modMirror f).running = s.running := rfl
@[simp] theorem State.modMirror_waiting (f : Journal → Journal) : (s.modMirror f).waiting = s.waiting := rfl
@[simp] theorem State.modMirror_net (f : Journal → Journal) : (s.modMirror f).net = s.net := rfl
@[simp] theorem State.modMirror_probe (f : Journal → Journal) : (s.modMirror f).probe = s.probe := rfl
@[simp] theorem State.modMirror_trace (f : Journal → Journal) : (s.modMirror f).trace = s.trace := rfl
@[simp] theorem State.modMirror_counters (f : Journal → Journal) : (s.modMirror f).counters = s.counters := rfl
@[simp] theorem State.modMirror_mgmt (f : Journal → Journal) : (s.modMirror f).mgmt = s.mgmt := rfl
@[simp] theorem State.modMirror_pkg (f : Journal → Journal) : (s.modMirror f).pkg = s.pkg := rfl

/-! ## setTile -/

@[simp] theorem State.setTile_pending (c t : Nat) (v : Tile) : (s.setTile c t v).pending = s.pending := rfl
@[simp] theorem State.setTile_clk (c t : Nat) (v : Tile) : (s.setTile c t v).clk = s.clk := rfl
@[simp] theorem State.setTile_draw (c t : Nat) (v : Tile) : (s.setTile c t v).draw = s.draw := rfl
@[simp] theorem State.setTile_power (c t : Nat) (v : Tile) : (s.setTile c t v).power = s.power := rfl
@[simp] theorem State.setTile_crock (c t : Nat) (v : Tile) : (s.setTile c t v).crock = s.crock := rfl
@[simp] theorem State.setTile_sec (c t : Nat) (v : Tile) : (s.setTile c t v).sec = s.sec := rfl
@[simp] theorem State.setTile_host (c t : Nat) (v : Tile) : (s.setTile c t v).host = s.host := rfl
@[simp] theorem State.setTile_pre (c t : Nat) (v : Tile) : (s.setTile c t v).pre = s.pre := rfl
@[simp] theorem State.setTile_tiles (c t : Nat) (v : Tile) : (s.setTile c t v).tiles = tset s.tiles (tileNo c t) v := rfl
@[simp] theorem State.setTile_cores (c t : Nat) (v : Tile) : (s.setTile c t v).cores = s.cores := rfl
@[simp] theorem State.setTile_flows (c t : Nat) (v : Tile) : (s.setTile c t v).flows = s.flows := rfl
@[simp] theorem State.setTile_ingest (c t : Nat) (v : Tile) : (s.setTile c t v).ingest = s.ingest := rfl
@[simp] theorem State.setTile_tb (c t : Nat) (v : Tile) : (s.setTile c t v).tb = s.tb := rfl
@[simp] theorem State.setTile_funnels (c t : Nat) (v : Tile) : (s.setTile c t v).funnels = s.funnels := rfl
@[simp] theorem State.setTile_running (c t : Nat) (v : Tile) : (s.setTile c t v).running = s.running := rfl
@[simp] theorem State.setTile_waiting (c t : Nat) (v : Tile) : (s.setTile c t v).waiting = s.waiting := rfl
@[simp] theorem State.setTile_net (c t : Nat) (v : Tile) : (s.setTile c t v).net = s.net := rfl
@[simp] theorem State.setTile_probe (c t : Nat) (v : Tile) : (s.setTile c t v).probe = s.probe := rfl
@[simp] theorem State.setTile_trace (c t : Nat) (v : Tile) : (s.setTile c t v).trace = s.trace := rfl
@[simp] theorem State.setTile_counters (c t : Nat) (v : Tile) : (s.setTile c t v).counters = s.counters := rfl
@[simp] theorem State.setTile_mgmt (c t : Nat) (v : Tile) : (s.setTile c t v).mgmt = s.mgmt := rfl
@[simp] theorem State.setTile_pkg (c t : Nat) (v : Tile) : (s.setTile c t v).pkg = s.pkg := rfl

/-! ## setCore -/

@[simp] theorem State.setCore_pending (c : Nat) (v : Core) : (s.setCore c v).pending = s.pending := rfl
@[simp] theorem State.setCore_clk (c : Nat) (v : Core) : (s.setCore c v).clk = s.clk := rfl
@[simp] theorem State.setCore_draw (c : Nat) (v : Core) : (s.setCore c v).draw = s.draw := rfl
@[simp] theorem State.setCore_power (c : Nat) (v : Core) : (s.setCore c v).power = s.power := rfl
@[simp] theorem State.setCore_crock (c : Nat) (v : Core) : (s.setCore c v).crock = s.crock := rfl
@[simp] theorem State.setCore_sec (c : Nat) (v : Core) : (s.setCore c v).sec = s.sec := rfl
@[simp] theorem State.setCore_host (c : Nat) (v : Core) : (s.setCore c v).host = s.host := rfl
@[simp] theorem State.setCore_pre (c : Nat) (v : Core) : (s.setCore c v).pre = s.pre := rfl
@[simp] theorem State.setCore_tiles (c : Nat) (v : Core) : (s.setCore c v).tiles = s.tiles := rfl
@[simp] theorem State.setCore_cores (c : Nat) (v : Core) : (s.setCore c v).cores = tset s.cores c v := rfl
@[simp] theorem State.setCore_flows (c : Nat) (v : Core) : (s.setCore c v).flows = s.flows := rfl
@[simp] theorem State.setCore_ingest (c : Nat) (v : Core) : (s.setCore c v).ingest = s.ingest := rfl
@[simp] theorem State.setCore_tb (c : Nat) (v : Core) : (s.setCore c v).tb = s.tb := rfl
@[simp] theorem State.setCore_funnels (c : Nat) (v : Core) : (s.setCore c v).funnels = s.funnels := rfl
@[simp] theorem State.setCore_running (c : Nat) (v : Core) : (s.setCore c v).running = s.running := rfl
@[simp] theorem State.setCore_waiting (c : Nat) (v : Core) : (s.setCore c v).waiting = s.waiting := rfl
@[simp] theorem State.setCore_net (c : Nat) (v : Core) : (s.setCore c v).net = s.net := rfl
@[simp] theorem State.setCore_probe (c : Nat) (v : Core) : (s.setCore c v).probe = s.probe := rfl
@[simp] theorem State.setCore_trace (c : Nat) (v : Core) : (s.setCore c v).trace = s.trace := rfl
@[simp] theorem State.setCore_counters (c : Nat) (v : Core) : (s.setCore c v).counters = s.counters := rfl
@[simp] theorem State.setCore_mgmt (c : Nat) (v : Core) : (s.setCore c v).mgmt = s.mgmt := rfl
@[simp] theorem State.setCore_pkg (c : Nat) (v : Core) : (s.setCore c v).pkg = s.pkg := rfl

/-! ## modLane -/

@[simp] theorem State.modLane_pending (fn k : Nat) (f : Lane → Lane) : (s.modLane fn k f).pending = s.pending := rfl
@[simp] theorem State.modLane_clk (fn k : Nat) (f : Lane → Lane) : (s.modLane fn k f).clk = s.clk := rfl
@[simp] theorem State.modLane_draw (fn k : Nat) (f : Lane → Lane) : (s.modLane fn k f).draw = s.draw := rfl
@[simp] theorem State.modLane_power (fn k : Nat) (f : Lane → Lane) : (s.modLane fn k f).power = s.power := rfl
@[simp] theorem State.modLane_crock (fn k : Nat) (f : Lane → Lane) : (s.modLane fn k f).crock = s.crock := rfl
@[simp] theorem State.modLane_sec (fn k : Nat) (f : Lane → Lane) : (s.modLane fn k f).sec = s.sec := rfl
@[simp] theorem State.modLane_host (fn k : Nat) (f : Lane → Lane) : (s.modLane fn k f).host = { s.host with lanes := tset s.host.lanes (laneNo fn k) (f (s.lane fn k)) } := rfl
@[simp] theorem State.modLane_pre (fn k : Nat) (f : Lane → Lane) : (s.modLane fn k f).pre = s.pre := rfl
@[simp] theorem State.modLane_tiles (fn k : Nat) (f : Lane → Lane) : (s.modLane fn k f).tiles = s.tiles := rfl
@[simp] theorem State.modLane_cores (fn k : Nat) (f : Lane → Lane) : (s.modLane fn k f).cores = s.cores := rfl
@[simp] theorem State.modLane_flows (fn k : Nat) (f : Lane → Lane) : (s.modLane fn k f).flows = s.flows := rfl
@[simp] theorem State.modLane_ingest (fn k : Nat) (f : Lane → Lane) : (s.modLane fn k f).ingest = s.ingest := rfl
@[simp] theorem State.modLane_tb (fn k : Nat) (f : Lane → Lane) : (s.modLane fn k f).tb = s.tb := rfl
@[simp] theorem State.modLane_funnels (fn k : Nat) (f : Lane → Lane) : (s.modLane fn k f).funnels = s.funnels := rfl
@[simp] theorem State.modLane_running (fn k : Nat) (f : Lane → Lane) : (s.modLane fn k f).running = s.running := rfl
@[simp] theorem State.modLane_waiting (fn k : Nat) (f : Lane → Lane) : (s.modLane fn k f).waiting = s.waiting := rfl
@[simp] theorem State.modLane_net (fn k : Nat) (f : Lane → Lane) : (s.modLane fn k f).net = s.net := rfl
@[simp] theorem State.modLane_probe (fn k : Nat) (f : Lane → Lane) : (s.modLane fn k f).probe = s.probe := rfl
@[simp] theorem State.modLane_trace (fn k : Nat) (f : Lane → Lane) : (s.modLane fn k f).trace = s.trace := rfl
@[simp] theorem State.modLane_counters (fn k : Nat) (f : Lane → Lane) : (s.modLane fn k f).counters = s.counters := rfl
@[simp] theorem State.modLane_mgmt (fn k : Nat) (f : Lane → Lane) : (s.modLane fn k f).mgmt = s.mgmt := rfl
@[simp] theorem State.modLane_pkg (fn k : Nat) (f : Lane → Lane) : (s.modLane fn k f).pkg = s.pkg := rfl

/-! ## modFunnel -/

@[simp] theorem State.modFunnel_pending (p : Nat) (f : Funnel → Funnel) : (s.modFunnel p f).pending = s.pending := rfl
@[simp] theorem State.modFunnel_clk (p : Nat) (f : Funnel → Funnel) : (s.modFunnel p f).clk = s.clk := rfl
@[simp] theorem State.modFunnel_draw (p : Nat) (f : Funnel → Funnel) : (s.modFunnel p f).draw = s.draw := rfl
@[simp] theorem State.modFunnel_power (p : Nat) (f : Funnel → Funnel) : (s.modFunnel p f).power = s.power := rfl
@[simp] theorem State.modFunnel_crock (p : Nat) (f : Funnel → Funnel) : (s.modFunnel p f).crock = s.crock := rfl
@[simp] theorem State.modFunnel_sec (p : Nat) (f : Funnel → Funnel) : (s.modFunnel p f).sec = s.sec := rfl
@[simp] theorem State.modFunnel_host (p : Nat) (f : Funnel → Funnel) : (s.modFunnel p f).host = s.host := rfl
@[simp] theorem State.modFunnel_pre (p : Nat) (f : Funnel → Funnel) : (s.modFunnel p f).pre = s.pre := rfl
@[simp] theorem State.modFunnel_tiles (p : Nat) (f : Funnel → Funnel) : (s.modFunnel p f).tiles = s.tiles := rfl
@[simp] theorem State.modFunnel_cores (p : Nat) (f : Funnel → Funnel) : (s.modFunnel p f).cores = s.cores := rfl
@[simp] theorem State.modFunnel_flows (p : Nat) (f : Funnel → Funnel) : (s.modFunnel p f).flows = s.flows := rfl
@[simp] theorem State.modFunnel_ingest (p : Nat) (f : Funnel → Funnel) : (s.modFunnel p f).ingest = s.ingest := rfl
@[simp] theorem State.modFunnel_tb (p : Nat) (f : Funnel → Funnel) : (s.modFunnel p f).tb = s.tb := rfl
@[simp] theorem State.modFunnel_funnels (p : Nat) (f : Funnel → Funnel) : (s.modFunnel p f).funnels = tset s.funnels p (f (s.funnel p)) := rfl
@[simp] theorem State.modFunnel_running (p : Nat) (f : Funnel → Funnel) : (s.modFunnel p f).running = s.running := rfl
@[simp] theorem State.modFunnel_waiting (p : Nat) (f : Funnel → Funnel) : (s.modFunnel p f).waiting = s.waiting := rfl
@[simp] theorem State.modFunnel_net (p : Nat) (f : Funnel → Funnel) : (s.modFunnel p f).net = s.net := rfl
@[simp] theorem State.modFunnel_probe (p : Nat) (f : Funnel → Funnel) : (s.modFunnel p f).probe = s.probe := rfl
@[simp] theorem State.modFunnel_trace (p : Nat) (f : Funnel → Funnel) : (s.modFunnel p f).trace = s.trace := rfl
@[simp] theorem State.modFunnel_counters (p : Nat) (f : Funnel → Funnel) : (s.modFunnel p f).counters = s.counters := rfl
@[simp] theorem State.modFunnel_mgmt (p : Nat) (f : Funnel → Funnel) : (s.modFunnel p f).mgmt = s.mgmt := rfl
@[simp] theorem State.modFunnel_pkg (p : Nat) (f : Funnel → Funnel) : (s.modFunnel p f).pkg = s.pkg := rfl

/-! ## emit -/

@[simp] theorem State.emit_pending (o : Out) : (s.emit o).pending = s.pending := rfl
@[simp] theorem State.emit_clk (o : Out) : (s.emit o).clk = s.clk := rfl
@[simp] theorem State.emit_draw (o : Out) : (s.emit o).draw = s.draw := rfl
@[simp] theorem State.emit_power (o : Out) : (s.emit o).power = s.power := rfl
@[simp] theorem State.emit_crock (o : Out) : (s.emit o).crock = s.crock := rfl
@[simp] theorem State.emit_sec (o : Out) : (s.emit o).sec = s.sec := rfl
@[simp] theorem State.emit_host (o : Out) : (s.emit o).host = { s.host with out := s.host.out ++ [o] } := rfl
@[simp] theorem State.emit_pre (o : Out) : (s.emit o).pre = s.pre := rfl
@[simp] theorem State.emit_tiles (o : Out) : (s.emit o).tiles = s.tiles := rfl
@[simp] theorem State.emit_cores (o : Out) : (s.emit o).cores = s.cores := rfl
@[simp] theorem State.emit_flows (o : Out) : (s.emit o).flows = s.flows := rfl
@[simp] theorem State.emit_ingest (o : Out) : (s.emit o).ingest = s.ingest := rfl
@[simp] theorem State.emit_tb (o : Out) : (s.emit o).tb = s.tb := rfl
@[simp] theorem State.emit_funnels (o : Out) : (s.emit o).funnels = s.funnels := rfl
@[simp] theorem State.emit_running (o : Out) : (s.emit o).running = s.running := rfl
@[simp] theorem State.emit_waiting (o : Out) : (s.emit o).waiting = s.waiting := rfl
@[simp] theorem State.emit_net (o : Out) : (s.emit o).net = s.net := rfl
@[simp] theorem State.emit_probe (o : Out) : (s.emit o).probe = s.probe := rfl
@[simp] theorem State.emit_trace (o : Out) : (s.emit o).trace = s.trace := rfl
@[simp] theorem State.emit_counters (o : Out) : (s.emit o).counters = s.counters := rfl
@[simp] theorem State.emit_mgmt (o : Out) : (s.emit o).mgmt = s.mgmt := rfl
@[simp] theorem State.emit_pkg (o : Out) : (s.emit o).pkg = s.pkg := rfl

/-! ## nextDraw -/

@[simp] theorem State.nextDraw_pending : s.nextDraw.pending = s.pending := rfl
@[simp] theorem State.nextDraw_clk : s.nextDraw.clk = s.clk := rfl
@[simp] theorem State.nextDraw_draw : s.nextDraw.draw = s.draw + 1 := rfl
@[simp] theorem State.nextDraw_power : s.nextDraw.power = s.power := rfl
@[simp] theorem State.nextDraw_crock : s.nextDraw.crock = s.crock := rfl
@[simp] theorem State.nextDraw_sec : s.nextDraw.sec = s.sec := rfl
@[simp] theorem State.nextDraw_host : s.nextDraw.host = s.host := rfl
@[simp] theorem State.nextDraw_pre : s.nextDraw.pre = s.pre := rfl
@[simp] theorem State.nextDraw_tiles : s.nextDraw.tiles = s.tiles := rfl
@[simp] theorem State.nextDraw_cores : s.nextDraw.cores = s.cores := rfl
@[simp] theorem State.nextDraw_flows : s.nextDraw.flows = s.flows := rfl
@[simp] theorem State.nextDraw_ingest : s.nextDraw.ingest = s.ingest := rfl
@[simp] theorem State.nextDraw_tb : s.nextDraw.tb = s.tb := rfl
@[simp] theorem State.nextDraw_funnels : s.nextDraw.funnels = s.funnels := rfl
@[simp] theorem State.nextDraw_running : s.nextDraw.running = s.running := rfl
@[simp] theorem State.nextDraw_waiting : s.nextDraw.waiting = s.waiting := rfl
@[simp] theorem State.nextDraw_net : s.nextDraw.net = s.net := rfl
@[simp] theorem State.nextDraw_probe : s.nextDraw.probe = s.probe := rfl
@[simp] theorem State.nextDraw_trace : s.nextDraw.trace = s.trace := rfl
@[simp] theorem State.nextDraw_counters : s.nextDraw.counters = s.counters := rfl
@[simp] theorem State.nextDraw_mgmt : s.nextDraw.mgmt = s.mgmt := rfl
@[simp] theorem State.nextDraw_pkg : s.nextDraw.pkg = s.pkg := rfl

/-! ## hostWrite -/

@[simp] theorem State.hostWrite_pending (a : Nat) (b : Bytes) : (s.hostWrite a b).pending = s.pending := rfl
@[simp] theorem State.hostWrite_clk (a : Nat) (b : Bytes) : (s.hostWrite a b).clk = s.clk := rfl
@[simp] theorem State.hostWrite_draw (a : Nat) (b : Bytes) : (s.hostWrite a b).draw = s.draw := rfl
@[simp] theorem State.hostWrite_power (a : Nat) (b : Bytes) : (s.hostWrite a b).power = s.power := rfl
@[simp] theorem State.hostWrite_crock (a : Nat) (b : Bytes) : (s.hostWrite a b).crock = s.crock := rfl
@[simp] theorem State.hostWrite_sec (a : Nat) (b : Bytes) : (s.hostWrite a b).sec = s.sec := rfl
@[simp] theorem State.hostWrite_host (a : Nat) (b : Bytes) : (s.hostWrite a b).host = { s.host with mem := Memory.writeBytes s.host.mem a b } := rfl
@[simp] theorem State.hostWrite_pre (a : Nat) (b : Bytes) : (s.hostWrite a b).pre = s.pre := rfl
@[simp] theorem State.hostWrite_tiles (a : Nat) (b : Bytes) : (s.hostWrite a b).tiles = s.tiles := rfl
@[simp] theorem State.hostWrite_cores (a : Nat) (b : Bytes) : (s.hostWrite a b).cores = s.cores := rfl
@[simp] theorem State.hostWrite_flows (a : Nat) (b : Bytes) : (s.hostWrite a b).flows = s.flows := rfl
@[simp] theorem State.hostWrite_ingest (a : Nat) (b : Bytes) : (s.hostWrite a b).ingest = s.ingest := rfl
@[simp] theorem State.hostWrite_tb (a : Nat) (b : Bytes) : (s.hostWrite a b).tb = s.tb := rfl
@[simp] theorem State.hostWrite_funnels (a : Nat) (b : Bytes) : (s.hostWrite a b).funnels = s.funnels := rfl
@[simp] theorem State.hostWrite_running (a : Nat) (b : Bytes) : (s.hostWrite a b).running = s.running := rfl
@[simp] theorem State.hostWrite_waiting (a : Nat) (b : Bytes) : (s.hostWrite a b).waiting = s.waiting := rfl
@[simp] theorem State.hostWrite_net (a : Nat) (b : Bytes) : (s.hostWrite a b).net = s.net := rfl
@[simp] theorem State.hostWrite_probe (a : Nat) (b : Bytes) : (s.hostWrite a b).probe = s.probe := rfl
@[simp] theorem State.hostWrite_trace (a : Nat) (b : Bytes) : (s.hostWrite a b).trace = s.trace := rfl
@[simp] theorem State.hostWrite_counters (a : Nat) (b : Bytes) : (s.hostWrite a b).counters = s.counters := rfl
@[simp] theorem State.hostWrite_mgmt (a : Nat) (b : Bytes) : (s.hostWrite a b).mgmt = s.mgmt := rfl
@[simp] theorem State.hostWrite_pkg (a : Nat) (b : Bytes) : (s.hostWrite a b).pkg = s.pkg := rfl

/-! ## setReg -/

@[simp] theorem State.setReg_pending (off : Nat) (v : Word) : (s.setReg off v).pending = s.pending := rfl
@[simp] theorem State.setReg_clk (off : Nat) (v : Word) : (s.setReg off v).clk = s.clk := rfl
@[simp] theorem State.setReg_draw (off : Nat) (v : Word) : (s.setReg off v).draw = s.draw := rfl
@[simp] theorem State.setReg_power (off : Nat) (v : Word) : (s.setReg off v).power = s.power := rfl
@[simp] theorem State.setReg_crock (off : Nat) (v : Word) : (s.setReg off v).crock = s.crock := rfl
@[simp] theorem State.setReg_sec (off : Nat) (v : Word) : (s.setReg off v).sec = s.sec := rfl
@[simp] theorem State.setReg_host (off : Nat) (v : Word) : (s.setReg off v).host = s.host := rfl
@[simp] theorem State.setReg_pre (off : Nat) (v : Word) : (s.setReg off v).pre = { s.pre with regs := tset s.pre.regs off v } := rfl
@[simp] theorem State.setReg_tiles (off : Nat) (v : Word) : (s.setReg off v).tiles = s.tiles := rfl
@[simp] theorem State.setReg_cores (off : Nat) (v : Word) : (s.setReg off v).cores = s.cores := rfl
@[simp] theorem State.setReg_flows (off : Nat) (v : Word) : (s.setReg off v).flows = s.flows := rfl
@[simp] theorem State.setReg_ingest (off : Nat) (v : Word) : (s.setReg off v).ingest = s.ingest := rfl
@[simp] theorem State.setReg_tb (off : Nat) (v : Word) : (s.setReg off v).tb = s.tb := rfl
@[simp] theorem State.setReg_funnels (off : Nat) (v : Word) : (s.setReg off v).funnels = s.funnels := rfl
@[simp] theorem State.setReg_running (off : Nat) (v : Word) : (s.setReg off v).running = s.running := rfl
@[simp] theorem State.setReg_waiting (off : Nat) (v : Word) : (s.setReg off v).waiting = s.waiting := rfl
@[simp] theorem State.setReg_net (off : Nat) (v : Word) : (s.setReg off v).net = s.net := rfl
@[simp] theorem State.setReg_probe (off : Nat) (v : Word) : (s.setReg off v).probe = s.probe := rfl
@[simp] theorem State.setReg_trace (off : Nat) (v : Word) : (s.setReg off v).trace = s.trace := rfl
@[simp] theorem State.setReg_counters (off : Nat) (v : Word) : (s.setReg off v).counters = s.counters := rfl
@[simp] theorem State.setReg_mgmt (off : Nat) (v : Word) : (s.setReg off v).mgmt = s.mgmt := rfl
@[simp] theorem State.setReg_pkg (off : Nat) (v : Word) : (s.setReg off v).pkg = s.pkg := rfl

end Sys2Proof.Machine
end

