-- ==== Sys2Proof/Laws/Tables.lean ====
section
/-! SUPPORT. Tables by number, `each`, and the two shapes of an answer: what they give, said once. -/

namespace Sys2Proof.Machine

variable {α σ : Type}

/-! ## Tables -/

/-- What an entry reads after one is set. -/
theorem tget?_tset (t : Tbl α) (k j : Nat) (v : α) : tget? (tset t k v) j = if j = k then some v else tget? t j := by
  induction t with
  | nil =>
    by_cases h : j = k
    · subst h; simp [tset, tget?]
    · have : k ≠ j := fun e => h e.symm
      simp [tset, tget?, h, this]
  | cons c r ih =>
    obtain ⟨i, u⟩ := c
    unfold tset
    split
    · by_cases h : j = k
      · subst h; simp [tget?]
      · have : k ≠ j := fun e => h e.symm
        simp [tget?, h, this]
    · split
      · subst_vars
        by_cases h : j = i
        · subst h; simp [tget?]
        · have : i ≠ j := fun e => h e.symm
          simp [tget?, h, this]
      · by_cases hi : i = j
        · subst hi
          have : i ≠ k := by omega
          simp [tget?, this]
        · simp only [tget?, hi, if_false]
          exact ih

/-- What an entry with a default reads after one is set. -/
theorem tget_tset (t : Tbl α) (k j : Nat) (v d : α) : tget (tset t k v) j d = if j = k then v else tget t j d := by
  induction t with
  | nil =>
    by_cases h : j = k
    · subst h; simp [tset, tget]
    · have : k ≠ j := fun e => h e.symm
      simp [tset, tget, h, this]
  | cons c r ih =>
    obtain ⟨i, u⟩ := c
    unfold tset
    split
    · by_cases h : j = k
      · subst h; simp [tget]
      · have : k ≠ j := fun e => h e.symm
        simp [tget, h, this]
    · split
      · subst_vars
        by_cases h : j = i
        · subst h; simp [tget]
        · have : i ≠ j := fun e => h e.symm
          simp [tget, h, this]
      · by_cases hi : i = j
        · subst hi
          have : i ≠ k := by omega
          simp [tget, this]
        · simp only [tget, hi, if_false]
          exact ih

@[simp] theorem tget?_tset_same (t : Tbl α) (k : Nat) (v : α) : tget? (tset t k v) k = some v := by simp [tget?_tset]

@[simp] theorem tget_tset_same (t : Tbl α) (k : Nat) (v d : α) : tget (tset t k v) k d = v := by simp [tget_tset]

/-- A removed entry is not listed; the others stand. -/
theorem tget?_tdel (t : Tbl α) (k j : Nat) : tget? (tdel t k) j = if j = k then none else tget? t j := by
  induction t with
  | nil => simp [tdel, tget?]
  | cons c r ih =>
    obtain ⟨i, u⟩ := c
    unfold tdel at ih ⊢
    rw [List.filter_cons]
    by_cases hik : i = k
    · subst hik
      simp only [ne_eq, not_true, decide_false]
      rw [if_neg (by simp), ih]
      by_cases hj : j = i
      · subst hj; simp
      · have : i ≠ j := fun e => hj e.symm
        simp [tget?, hj, this]
    · simp only [ne_eq, hik, not_false_eq_true, decide_true, if_true]
      by_cases hij : i = j
      · subst hij; simp [tget?, hik]
      · simp only [tget?, hij, if_false]
        exact ih

/-- With a default, a table reads what is listed or the default. -/
theorem tget_eq_getD (t : Tbl α) (k : Nat) (d : α) : tget t k d = (tget? t k).getD d := by
  induction t with
  | nil => rfl
  | cons c r ih =>
    obtain ⟨i, u⟩ := c
    by_cases h : i = k
    · simp [tget, tget?, h]
    · simp only [tget, tget?, h, if_false]; exact ih

/-! ## each -/

@[simp] theorem each_nil (f : α → σ → σ) (s : σ) : each [] f s = s := rfl

@[simp] theorem each_cons (x : α) (l : List α) (f : α → σ → σ) (s : σ) : each (x :: l) f s = each l f (f x s) := rfl

/-- A property every change keeps holds after them all. -/
theorem each_keeps (P : σ → Prop) {f : α → σ → σ} (l : List α) (h : ∀ x s, P s → P (f x s)) {s : σ} (hs : P s) :
    P (each l f s) := by
  induction l generalizing s with
  | nil => exact hs
  | cons x r ih => exact ih (h x s hs)

/-- What no change alters stands after them all. -/
theorem each_same {β : Type} (g : σ → β) {f : α → σ → σ} (l : List α) (h : ∀ x s, g (f x s) = g s) (s : σ) :
    g (each l f s) = g s := by
  induction l generalizing s with
  | nil => rfl
  | cons x r ih => exact (ih (f x s)).trans (h x s)

/-! ## Answers -/

/-- An event that is due has its effect. -/
theorem ifDue_true (f : State → State) (s : State) : ifDue true f s = .next (f s) := rfl

/-- One that is not due changes nothing. -/
theorem ifDue_false (f : State → State) (s : State) : ifDue false f s = .next s := rfl

/-- An event always answers a next state. -/
theorem ifDue_next (b : Bool) (f : State → State) (s : State) :
    ifDue b f s = .next (f s) ∧ b = true ∨ ifDue b f s = .next s ∧ b = false := by
  cases b
  · exact .inr ⟨rfl, rfl⟩
  · exact .inl ⟨rfl, rfl⟩

/-- A well-formed command has its effect. -/
theorem checked_true (f : State → State) (s : State) : checked true f s = .next (f s) := rfl

/-- An ill-formed one is refused by name. -/
theorem checked_false (f : State → State) (s : State) : checked false f s = .fault .illFormed := rfl

/-- What a checked command answers. -/
theorem checked_next {wf : Bool} {f : State → State} {s t : State} (h : checked wf f s = .next t) : wf = true ∧ t = f s := by
  cases wf
  · cases h
  · cases h; exact ⟨rfl, rfl⟩

end Sys2Proof.Machine
end

