-- ==== Sys2Proof/Laws/Commands.lean ====
section
/-! SUPPORT. What the shared operations of the command processor do, said once: tracing and counting change their own
group only; a command that a lane takes at once is performed on the machine that has noted it; its final reply adds one
held reply and takes the command off the list. -/

namespace Sys2Proof.Machine

open Sys2Proof.Safety

/-! ## Tracing and counting -/

/-- A trace record changes the trace alone. -/
theorem trace_eq (r : TraceRec) (s : State) : ∃ x, trace r s = { s with trace := x } := by
  unfold trace
  split
  · exact ⟨s.trace, rfl⟩
  · split
    · exact ⟨_, rfl⟩
    · simp only [tracePin]
      split
      · split <;> exact ⟨_, rfl⟩
      · exact ⟨_, rfl⟩

/-- So does a trace-only record. -/
theorem traceOnly_eq (type cls part unit p0 p1 p2 p3 : Nat) (s : State) :
    ∃ x, traceOnly type cls part unit p0 p1 p2 p3 s = { s with trace := x } := trace_eq _ s

/-- A count changes the counters alone. -/
theorem count_eq (off n : Nat) (s : State) : ∃ x, count off n s = { s with counters := x } := by
  unfold count
  split
  · exact ⟨s.counters, rfl⟩
  · exact ⟨_, rfl⟩

/-- What a counter reads after a count (R431). -/
theorem counter_count (off n : Nat) (s : State) (h : n ≠ 0) :
    (count off n s).counter off = min (s.counter off + n) (counterMax off) := by
  simp [count, h, State.counter]

/-- A count leaves the other counters. -/
theorem counter_count_other (off x n : Nat) (s : State) (h : x ≠ off) : (count off n s).counter x = s.counter x := by
  unfold count
  split
  · rfl
  · simp [State.counter, tget_tset, h]

/-! ## A command taken at once -/

/-- The machine once a lane has taken a command: the command is listed, its number used, the packet traced. -/
def entered (op : Nat) (h : Hdr) (w : List Word) (s : State) : State :=
  let s1 := traceOnly 0x130 4 ((s.fnPart? h.fn.val).getD 255) noUnit h.fn.val h.lane.val op h.tag.toNat s
  { s1 with pre := { s.pre with cmds := s.pre.cmds ++ [taken op h w s], nextCmd := s.pre.nextCmd + 1 } }

/-- It differs from the machine before in the command list and the trace. -/
theorem entered_eq (op : Nat) (h : Hdr) (w : List Word) (s : State) :
    ∃ x, entered op h w s =
      { s with pre := { s.pre with cmds := s.pre.cmds ++ [taken op h w s], nextCmd := s.pre.nextCmd + 1 }, trace := x } := by
  obtain ⟨x, hx⟩ := traceOnly_eq 0x130 4 ((s.fnPart? h.fn.val).getD 255) noUnit h.fn.val h.lane.val op h.tag.toNat s
  exact ⟨x, by simp only [entered, hx]⟩

/-- A command whose at-tick has come is begun (R278). -/
theorem proceed_now (go : Perform) (c : Cmd) (s : State) (h : c.h.atTick.toNat ≤ s.tick) :
    proceed go c s = startCmd go c s := by
  have h1 : (decide (c.op ≠ 3) && decide (s.tick < c.h.atTick.toNat)) = false := by
    have : ¬ s.tick < c.h.atTick.toNat := by omega
    simp [this]
  unfold proceed
  rw [h1]
  rfl

/-- A command is performed at once while the device is Active and REFCLK runs (R402, R410). -/
theorem startCmd_now (go : Perform) (c : Cmd) (s : State) (hp : s.power.state = 0) (hc : s.power.refclkLost = false) :
    startCmd go c s = go c (setWait c.id .running s) := by
  unfold startCmd
  simp [hp, hc]

/-- Marking the newest command as running changes nothing: it was entered so. -/
theorem setWait_newest {c : Cmd} {l : List Cmd} {u : State} (hl : u.pre.cmds = l ++ [c]) (hid : ∀ x ∈ l, x.id < c.id)
    (hw : c.wait = .running) : setWait c.id .running u = u := by
  have hmap : u.pre.cmds.map (fun x => if x.id = c.id then { x with wait := CmdWait.running } else x) = u.pre.cmds := by
    refine (List.map_congr_left (g := id) ?_).trans (List.map_id _)
    intro x hx
    rw [hl] at hx
    simp only [id]
    rcases List.mem_append.mp hx with h1 | h1
    · have := hid x h1
      rw [if_neg (by omega)]
    · have : x = c := by simpa using h1
      subst this
      rw [if_pos rfl, ← hw]
  simp only [setWait, State.modPre, hmap]

/-- A command that a lane takes at once is performed on the machine that has noted it (R277, R278, R286). -/
theorem submit_taken {op : Nat} {h : Hdr} {w : List Word} {s : State} (ht : TakenAtOnce op h w s) :
    submit op h w s = .next (performAny (taken op h w s) (entered op h w s)) := by
  obtain ⟨hw, hl, hr, hf, hfe, hat, hp, hc, hid⟩ := ht
  obtain ⟨x, hx⟩ := traceOnly_eq 0x130 4 ((s.fnPart? h.fn.val).getD 255) noUnit h.fn.val h.lane.val op h.tag.toNat s
  have hf1 : firstFail h op w true true { s with trace := x } = none := hf
  have ht : take performAny h op w true true s =
      proceed performAny (taken op h w s) (entered op h w s) := by
    unfold take
    simp only [hr, Bool.not_true, Bool.false_eq_true, if_false, hx, hf1, hfe, Bool.false_and, entered]
    rfl
  have hnew := setWait_newest (c := taken op h w s) (l := s.pre.cmds) (u := entered op h w s) rfl hid rfl
  unfold submit checked
  rw [if_pos hw]
  simp only [hl, if_true, ht]
  rw [proceed_now, startCmd_now, hnew]
  · simp only [entered, hx]; exact hp
  · simp only [entered, hx]; exact hc
  · simp only [entered, hx, taken]; exact hat

/-- The final reply of a command that stands last in the list: the reply is held for its ring, the command is off the list,
and nothing else but the trace changes (R280, R281, R284). -/
theorem finish_last {c : Cmd} {l : List Cmd} {st : Nat} {payload : List Word} {u : State} (hl : u.pre.cmds = l ++ [c])
    (hid : ∀ x ∈ l, x.id < c.id) (hr : u.ringOn c.h = true) :
    ∃ x, finish c.id st payload u =
      { (u.modLane c.h.fn.val c.h.queue.toNat (fun k => { k with held := k.held ++ [replyOf c.h c.op st payload u] })) with
        pre := { u.pre with cmds := l }, trace := x } := by
  have hfind : u.cmd? c.id = some c := by
    unfold State.cmd?
    rw [hl, List.find?_append]
    have : l.find? (fun x => x.id == c.id) = none := by
      rw [List.find?_eq_none]
      intro x hx
      have := hid x hx
      simp only [beq_iff_eq]; omega
    rw [this]
    simp
  have hfilter : u.pre.cmds.filter (fun x => x.id ≠ c.id) = l := by
    rw [hl, List.filter_append]
    have h1 : l.filter (fun x => decide (x.id ≠ c.id)) = l := by
      rw [List.filter_eq_self]
      intro x hx
      have := hid x hx
      simp only [ne_eq, decide_eq_true_eq]; omega
    rw [h1]
    simp
  unfold finish
  simp only [hfind]
  unfold answer reply dropCmd
  simp only [State.modPre, hfilter]
  have hr2 : ({ u with pre := { u.pre with cmds := l } } : State).ringOn c.h = true := hr
  rw [if_pos hr2]
  obtain ⟨x, hx⟩ := traceOnly_eq 0x131 4 ((({ u with pre := { u.pre with cmds := l } } : State).fnPart? c.h.fn.val).getD 255)
    noUnit c.h.fn.val st c.op c.h.tag.toNat
    (State.modLane { u with pre := { u.pre with cmds := l } } c.h.fn.val c.h.queue.toNat (fun k =>
      { k with held := k.held ++ [{ words := replyWords c.h c.op st payload { u with pre := { u.pre with cmds := l } },
                                    irq := c.h.irq || statusIrq st, lane := c.h.lane.val, final := true }] }))
  refine ⟨x, ?_⟩
  simp only [] at hx ⊢
  exact hx

/-- A command that ends at once with a reply: what its performance leaves is its effect and the reply. -/
theorem replied_of_finish {op st : Nat} {h : Hdr} {w payload : List Word} {s u t v : State} (ht : TakenAtOnce op h w s)
    (hpre : v.pre = { u.pre with cmds := s.pre.cmds ++ [taken op h w s], nextCmd := u.pre.nextCmd + 1 })
    (hc : u.pre.cmds = s.pre.cmds) (hregs : u.ringOn h = true) (htick : v.tb = u.tb) (hhost : v.host = u.host)
    (hsame : SameBut [.host, .pre, .trace] u v)
    (hfin : t = finish (taken op h w s).id st payload v) : Replied h op st payload u t := by
  have hr : v.ringOn h = true := by
    simpa [State.ringOn, State.lane, hhost] using hregs
  obtain ⟨x, hx⟩ := finish_last (c := taken op h w s) (l := s.pre.cmds) (st := st) (payload := payload) (u := v)
    (by rw [hpre]) ht.2.2.2.2.2.2.2.2 hr
  rw [hfin, hx]
  have hrep : replyOf h op st payload v = replyOf h op st payload u := by
    simp [replyOf, replyWords, State.tick, htick]
  refine ⟨?_, ?_, ?_⟩
  · simp only [taken, hrep, State.modLane, State.lane, hhost]
  · simp only [hpre]
    rw [← hc]
  · intro p hp
    have h1 := hsame p hp
    cases p <;> simp_all [Piece.same]

end Sys2Proof.Machine
end

