-- ==== Sys2Proof/Laws/Report.lean ====
section
/-! SUPPORT. Frames composed, and the groups of State that the shared reporting operations touch: traces, counts, packets,
events, replies, fault records, pins. -/

namespace Sys2Proof.Safety

open Sys2Proof.Machine

/-! ## Frames composed -/

theorem SameBut.refl (l : List Piece) (s : State) : SameBut l s s := fun p _ => by cases p <;> rfl

theorem Piece.same_trans {p : Piece} {s t u : State} (h : p.same s t) (k : p.same t u) : p.same s u := by
  cases p <;> exact Eq.trans k h

theorem SameBut.trans {l : List Piece} {s t u : State} (h : SameBut l s t) (k : SameBut l t u) : SameBut l s u :=
  fun p hp => Piece.same_trans (h p hp) (k p hp)

theorem SameBut.mono {l m : List Piece} {s t : State} (h : SameBut l s t) (hs : ∀ p, p ∈ l → p ∈ m) : SameBut m s t :=
  fun p hp => h p (fun hl => hp (hs p hl))

/-- A frame that every change of a list keeps holds of them all. -/
theorem SameBut.each {α : Type} {l : List Piece} {f : α → State → State} (xs : List α) (h : ∀ x s, SameBut l s (f x s))
    (s : State) : SameBut l s (each xs f s) := by
  induction xs generalizing s with
  | nil => exact .refl l s
  | cons x r ih => exact (h x s).trans (ih (f x s))

end Sys2Proof.Safety

namespace Sys2Proof.Machine

open Sys2Proof.Safety

/-! ## What the updates of one group touch -/

theorem modPower_same (f : Power → Power) (s : State) : SameBut [.power] s (s.modPower f) := by
  intro p hp; cases p <;> first | rfl | simp at hp

theorem modCrock_same (f : Crock → Crock) (s : State) : SameBut [.crock] s (s.modCrock f) := by
  intro p hp; cases p <;> first | rfl | simp at hp

theorem modMirror_same (f : Journal → Journal) (s : State) : SameBut [.crock] s (s.modMirror f) := by
  intro p hp; cases p <;> first | rfl | simp at hp

theorem modSec_same (f : Security → Security) (s : State) : SameBut [.sec] s (s.modSec f) := by
  intro p hp; cases p <;> first | rfl | simp at hp

theorem modHost_same (f : HostSide → HostSide) (s : State) : SameBut [.host] s (s.modHost f) := by
  intro p hp; cases p <;> first | rfl | simp at hp

theorem emit_same (o : Out) (s : State) : SameBut [.host] s (s.emit o) := by
  intro p hp; cases p <;> first | rfl | simp at hp

theorem modLane_same (fn k : Nat) (f : Lane → Lane) (s : State) : SameBut [.host] s (s.modLane fn k f) := by
  intro p hp; cases p <;> first | rfl | simp at hp

theorem modPre_same (f : Preoft → Preoft) (s : State) : SameBut [.pre] s (s.modPre f) := by
  intro p hp; cases p <;> first | rfl | simp at hp

theorem modFlows_same (f : Flows → Flows) (s : State) : SameBut [.flows] s (s.modFlows f) := by
  intro p hp; cases p <;> first | rfl | simp at hp

theorem modTb_same (f : Timebase → Timebase) (s : State) : SameBut [.tb] s (s.modTb f) := by
  intro p hp; cases p <;> first | rfl | simp at hp

theorem modPin_same (k : Nat) (f : TrigOut → TrigOut) (s : State) : SameBut [.tb] s (s.modPin k f) := by
  intro p hp; cases p <;> first | rfl | simp at hp

theorem modFunnel_same (k : Nat) (f : Funnel → Funnel) (s : State) : SameBut [.funnels] s (s.modFunnel k f) := by
  intro p hp; cases p <;> first | rfl | simp at hp

theorem modTile_same (c t : Nat) (f : Tile → Tile) (s : State) : SameBut [.tiles] s (s.modTile c t f) := by
  intro p hp; cases p <;> first | rfl | simp at hp

theorem modCore_same (c : Nat) (f : Core → Core) (s : State) : SameBut [.cores] s (s.modCore c f) := by
  intro p hp; cases p <;> first | rfl | simp at hp

theorem modTrace_same (f : Trace → Trace) (s : State) : SameBut [.trace] s (s.modTrace f) := by
  intro p hp; cases p <;> first | rfl | simp at hp

theorem nextDraw_same (s : State) : SameBut [.draw] s s.nextDraw := by
  intro p hp; cases p <;> first | rfl | simp at hp

theorem modCal_same (c t : Nat) (f : CalRec → CalRec) (s : State) : SameBut [.crock] s (s.modCal c t f) :=
  modMirror_same _ s

theorem modCtx_same (n : Nat) (g : Ctx → Ctx) (s : State) : SameBut [.flows] s (s.modCtx n g) := by
  unfold State.modCtx; split
  · exact modFlows_same _ s
  · exact .refl _ s

theorem modRun_same (n : Nat) (g : Run → Run) (s : State) : SameBut [.flows] s (s.modRun n g) := by
  unfold State.modRun; split
  · exact modFlows_same _ s
  · exact .refl _ s

/-! ## Traces, counts, events -/

theorem trace_same (r : TraceRec) (s : State) : SameBut [.trace] s (trace r s) := by
  obtain ⟨x, hx⟩ := trace_eq r s
  rw [hx]; intro p hp; cases p <;> first | rfl | simp at hp

theorem traceOnly_same (a b c d e f g h : Nat) (s : State) : SameBut [.trace] s (traceOnly a b c d e f g h s) := trace_same _ s

theorem count_same (off n : Nat) (s : State) : SameBut [.counters] s (count off n s) := by
  obtain ⟨x, hx⟩ := count_eq off n s
  rw [hx]; intro p hp; cases p <;> first | rfl | simp at hp

theorem form_same (p : Nat) (k : Pkt) (s : State) : SameBut [.funnels] s (form p k s) := modFunnel_same p _ s

theorem formStamped_same (p k t : Nat) (b : List DWord) (s : State) : SameBut [.funnels] s (formStamped p k t b s) :=
  (form_same p _ s).trans (modFunnel_same p _ _)

/-- An event touches the trace and the Funnels. -/
theorem raiseTo_same (ps : List Nat) (tp unit : Nat) (e : EventRec) (s : State) :
    SameBut [.trace, .funnels] s (raiseTo ps tp unit e s) :=
  ((trace_same _ s).mono (by simp)).trans
    (SameBut.each ps (fun p t => (formStamped_same p 8 _ _ t).mono (by simp)) _)

theorem raisePart_same (p unit : Nat) (e : EventRec) (s : State) : SameBut [.trace, .funnels] s (raisePart p unit e s) :=
  raiseTo_same _ _ _ _ s

/-- With READY set a device-wide event does not wait. -/
theorem raiseDev_ready (unit : Nat) (e : EventRec) {s : State} (h : s.power.ready = true) :
    SameBut [.trace, .funnels] s (raiseDev unit e s) := by
  unfold raiseDev; rw [if_pos h]; exact raiseTo_same _ _ _ _ s

theorem raiseDev_same (unit : Nat) (e : EventRec) (s : State) : SameBut [.trace, .funnels, .power] s (raiseDev unit e s) := by
  unfold raiseDev; split
  · exact (raiseTo_same _ _ _ _ s).mono (by simp)
  · exact (modPower_same _ s).mono (by simp)

theorem raiseUnit_ready (part unit : Nat) (e : EventRec) {s : State} (h : s.power.ready = true) :
    SameBut [.trace, .funnels] s (raiseUnit part unit e s) := by
  unfold raiseUnit; split
  · exact raisePart_same _ _ _ s
  · exact raiseDev_ready _ _ h

theorem raiseUnit_same (part unit : Nat) (e : EventRec) (s : State) :
    SameBut [.trace, .funnels, .power] s (raiseUnit part unit e s) := by
  unfold raiseUnit; split
  · exact (raisePart_same _ _ _ s).mono (by simp)
  · exact raiseDev_same _ _ s

/-! ## Replies -/

theorem noRing_same (h : Hdr) (s : State) : SameBut [.counters, .trace, .funnels] s (noRing h s) := by
  have h1 : SameBut [.counters, .trace, .funnels] s (count (devCtr 7) 1 s) := (count_same _ _ s).mono (by simp)
  unfold noRing
  simp only
  split
  · exact h1.trans ((raisePart_same _ _ _ _).mono (by simp))
  · exact h1.trans ((traceOnly_same _ _ _ _ _ _ _ _ _).mono (by simp))

/-- A reply touches the host side, or where its ring is off the report of that. -/
theorem reply_same (h : Hdr) (op st : Nat) (final : Bool) (w : List Word) (s : State) :
    SameBut [.host, .counters, .trace, .funnels] s (reply h op st final w s) := by
  unfold reply; split
  · exact ((modLane_same _ _ _ s).mono (by simp)).trans ((traceOnly_same _ _ _ _ _ _ _ _ _).mono (by simp))
  · exact (noRing_same h s).mono (by simp)

theorem dropCmd_same (id : Nat) (s : State) : SameBut [.pre] s (dropCmd id s) := modPre_same _ s

theorem finish_same (id st : Nat) (w : List Word) (s : State) :
    SameBut [.pre, .host, .counters, .trace, .funnels] s (finish id st w s) := by
  unfold finish; split
  · exact ((dropCmd_same _ s).mono (by simp)).trans ((reply_same _ _ _ _ _ _).mono (by simp))
  · exact .refl _ s

theorem finishOpt_same (id : Option Nat) (st : Nat) (w : List Word) (s : State) :
    SameBut [.pre, .host, .counters, .trace, .funnels] s (finishOpt id st w s) := by
  cases id
  · exact .refl _ s
  · exact finish_same _ _ _ s

theorem setWait_same (id : Nat) (w : CmdWait) (s : State) : SameBut [.pre] s (setWait id w s) := modPre_same _ s

/-! ## Fault records and pins -/

theorem addRecord_same (u : Unit) (kind outcome part : Nat) (w : Work) (d a : Nat) (s : State) :
    SameBut [.draw, .crock, .trace, .funnels, .power] s (addRecord u kind outcome part w d a s).2 := by
  have h1 (f : Journal → Journal) : SameBut [.draw, .crock, .trace, .funnels, .power] s (s.nextDraw.modMirror f) :=
    ((nextDraw_same s).mono (by simp)).trans ((modMirror_same f _).mono (by simp))
  unfold addRecord
  simp only
  split
  · split
    · exact (h1 _).trans ((raiseDev_same _ _ _).mono (by simp))
    · exact h1 _
  · exact h1 _

theorem suppressPin_same (p : Nat) (s : State) : SameBut [.counters, .tb, .host] s (suppressPin p s) := by
  have h1 (f : TrigOut → TrigOut) : SameBut [.counters, .tb, .host] s
      ((count (trigOutCtr p 2) (s.pin p).schedule.length s).modPin p f) :=
    ((count_same _ _ s).mono (by simp)).trans ((modPin_same _ _ _).mono (by simp))
  unfold suppressPin
  simp only
  split
  · exact (h1 _).trans ((emit_same _ _).mono (by simp))
  · exact h1 _

theorem suppressAll_same (s : State) : SameBut [.counters, .tb, .host] s (suppressAll s) :=
  SameBut.each _ suppressPin_same s

theorem foldTick_same (s : State) : SameBut [.crock] s s.foldTick := by
  unfold State.foldTick; split
  · exact modMirror_same _ s
  · exact .refl _ s

end Sys2Proof.Machine
end

