-- ==== Sys2Proof/Laws/Frames.lean ====
section
/-! SUPPORT. The frame of every function that answers a machine: `frame_<function>` says that a machine which differed from u
in the groups L alone still does after the function, where L holds the groups the function may touch. One lemma a function, in
the order of the model's files; the lemma of a meaning (frame_exec...) gives the frame of its command. -/

namespace Sys2Proof.Machine
open Sys2Proof.Safety
/-- Whether every group of one list is in the other. -/
def Frame.within (a b : List Piece) : Bool := a.all (fun p => decide (p ∈ b))
theorem frame_sub {a b L : List Piece} (h : Frame.within a b = true) (hL : ∀ p, p ∈ b → p ∈ L) : ∀ p, p ∈ a → p ∈ L := by
  intro p hp; exact hL p (by simpa using List.all_eq_true.mp h p hp)
theorem frame_nil {L : List Piece} : ∀ p, p ∈ ([] : List Piece) → p ∈ L := by intro p hp; cases hp
/-- The machine differs from u in the groups L at most. -/
structure Framed (L : List Piece) (u s : State) : Prop where
  it : SameBut L u s
/-- A machine built anew from v, its untouched groups taken from v. -/
theorem frame_mk {L : List Piece} {u v : State} {p c d pw cr se ho pr ti co fl ing tb fu ru wa ne pb tr ct mg pk}
  (h0 : p = v.pending ∨ .pending ∈ L) (h1 : c = v.clk ∨ .clk ∈ L) (h2 : d = v.draw ∨ .draw ∈ L) (h3 : pw = v.power ∨ .power ∈ L)
  (h4 : cr = v.crock ∨ .crock ∈ L) (h5 : se = v.sec ∨ .sec ∈ L) (h6 : ho = v.host ∨ .host ∈ L) (h7 : pr = v.pre ∨ .pre ∈ L)
  (h8 : ti = v.tiles ∨ .tiles ∈ L) (h9 : co = v.cores ∨ .cores ∈ L) (h10 : fl = v.flows ∨ .flows ∈ L) (h11 : ing = v.ingest ∨ .ingest ∈ L)
  (h12 : tb = v.tb ∨ .tb ∈ L) (h13 : fu = v.funnels ∨ .funnels ∈ L) (h14 : ru = v.running ∨ .running ∈ L) (h15 : wa = v.waiting ∨ .waiting ∈ L)
  (h16 : ne = v.net ∨ .net ∈ L) (h17 : pb = v.probe ∨ .probe ∈ L) (h18 : tr = v.trace ∨ .trace ∈ L) (h19 : ct = v.counters ∨ .counters ∈ L)
  (h20 : mg = v.mgmt ∨ .mgmt ∈ L) (h21 : pk = v.pkg ∨ .pkg ∈ L) (h : Framed L u v) :
  Framed L u (State.mk p c d pw cr se ho pr ti co fl ing tb fu ru wa ne pb tr ct mg pk) := by
  refine ⟨?_⟩
  intro q hq
  have hv := h.it q hq
  cases q <;> simp only [Piece.same] at hv ⊢ <;> rw [← hv]
  · exact h0.resolve_right hq
  · exact h1.resolve_right hq
  · exact h2.resolve_right hq
  · exact h3.resolve_right hq
  · exact h4.resolve_right hq
  · exact h5.resolve_right hq
  · exact h6.resolve_right hq
  · exact h7.resolve_right hq
  · exact h8.resolve_right hq
  · exact h9.resolve_right hq
  · exact h10.resolve_right hq
  · exact h11.resolve_right hq
  · exact h12.resolve_right hq
  · exact h13.resolve_right hq
  · exact h14.resolve_right hq
  · exact h15.resolve_right hq
  · exact h16.resolve_right hq
  · exact h17.resolve_right hq
  · exact h18.resolve_right hq
  · exact h19.resolve_right hq
  · exact h20.resolve_right hq
  · exact h21.resolve_right hq
theorem frame_each {α} {L : List Piece} {u : State} {f : α → State → State} {l : List α} {s : State} (hf : ∀ x t, Framed L u t → Framed L u (f x t)) (h : Framed L u s) : Framed L u (each l f s) := by
  induction l generalizing s with
  | nil => exact h
  | cons x r ih => exact ih (hf x s h)
/-- So does every next state an outcome answers. -/
structure FramedAnswer (L : List Piece) (u : State) (a : Answer) : Prop where
  it : ∀ t, a = .next t → Framed L u t
/-- So does the machine of an optional answer. -/
structure FramedOption (L : List Piece) (u : State) (a : Option State) : Prop where
  it : ∀ t, a = some t → Framed L u t
theorem frame_ifDue {L : List Piece} {u : State} {b f} {s : State} (h : Framed L u s) (hf : ∀ t, Framed L u t → Framed L u (f t)) : FramedAnswer L u (ifDue b f s) := by
  refine ⟨?_⟩
  intro t e; unfold ifDue at e; split at e <;> cases e <;> first | exact hf _ h | exact h
theorem frame_checked {L : List Piece} {u : State} {b f} {s : State} (h : Framed L u s) (hf : ∀ t, Framed L u t → Framed L u (f t)) : FramedAnswer L u (checked b f s) := by
  refine ⟨?_⟩
  intro t e; unfold checked at e; split at e <;> cases e; exact hf _ h
theorem frame_next {L : List Piece} {u s : State} (h : Framed L u s) : FramedAnswer L u (Host.Outcome.next s) := ⟨by
  intro t e; cases e; exact h⟩
theorem frame_fault {L : List Piece} {u : State} {x : Fault} : FramedAnswer L u (Host.Outcome.fault x) := ⟨by
  intro t e; cases e⟩
theorem frame_some {L : List Piece} {u s : State} (h : Framed L u s) : FramedOption L u (some s) := ⟨by
  intro t e; cases e; exact h⟩
theorem frame_none {L : List Piece} {u : State} : FramedOption L u none := ⟨by
  intro t e; cases e⟩
theorem frame_foldl {α} {L : List Piece} {u : State} {f : State → α → State} {l : List α} {s : State} (hf : ∀ t x, Framed L u t → Framed L u (f t x)) (h : Framed L u s) : Framed L u (l.foldl f s) := by
  induction l generalizing s with
  | nil => exact h
  | cons x r ih => exact ih (hf s x h)
theorem frame_foldl2 {α β} {L : List Piece} {u : State} {f : β × State → α → β × State} {l : List α} {s : β × State} (hf : ∀ t x, Framed L u t.2 → Framed L u (f t x).2) (h : Framed L u s.2) : Framed L u (l.foldl f s).2 := by
  induction l generalizing s with
  | nil => exact h
  | cons x r ih => exact ih (hf s x h)
theorem frame_foldl1 {α β} {L : List Piece} {u : State} {f : State × β → α → State × β} {l : List α} {s : State × β} (hf : ∀ t x, Framed L u t.1 → Framed L u (f t x).1) (h : Framed L u s.1) : Framed L u (l.foldl f s).1 := by
  induction l generalizing s with
  | nil => exact h
  | cons x r ih => exact ih (hf s x h)
theorem frame_of {L M : List Piece} {u s t : State} (h2 : SameBut M s t) (hL : ∀ p, p ∈ M → p ∈ L) (h : Framed L u s) : Framed L u t :=
  ⟨h.it.trans (h2.mono hL)⟩

theorem frame_State_setTile {L : List Piece} {u : State} {s : State} (x1 : _) (x2 : _) (x3 : _) (hL : ∀ p, p ∈ ([.tiles] : List Piece) → p ∈ L)  (h : Framed L u s) : Framed L u (State.setTile s x1 x2 x3) := by
  unfold State.setTile
  repeat (first | with_reducible assumption | with_reducible apply frame_foldl | with_reducible apply frame_foldl2 | with_reducible apply frame_foldl1 | split | intro _ | dsimp only | (with_reducible apply frame_mk; iterate 22 (first | exact Or.inr (hL _ (by decide)) | with_reducible exact Or.inl rfl)))

theorem frame_State_modTile {L : List Piece} {u : State} {s : State} (x1 : _) (x2 : _) (x3 : _) (hL : ∀ p, p ∈ ([.tiles] : List Piece) → p ∈ L)  (h : Framed L u s) : Framed L u (State.modTile s x1 x2 x3) := by
  unfold State.modTile
  repeat (first | with_reducible assumption | (with_reducible apply frame_State_setTile <;> first | exact frame_sub rfl hL | skip) | with_reducible apply frame_foldl | with_reducible apply frame_foldl2 | with_reducible apply frame_foldl1 | split | intro _ | dsimp only)

theorem frame_State_setCore {L : List Piece} {u : State} {s : State} (x1 : _) (x2 : _) (hL : ∀ p, p ∈ ([.cores] : List Piece) → p ∈ L)  (h : Framed L u s) : Framed L u (State.setCore s x1 x2) := by
  unfold State.setCore
  repeat (first | with_reducible assumption | with_reducible apply frame_foldl | with_reducible apply frame_foldl2 | with_reducible apply frame_foldl1 | split | intro _ | dsimp only | (with_reducible apply frame_mk; iterate 22 (first | exact Or.inr (hL _ (by decide)) | with_reducible exact Or.inl rfl)))

theorem frame_State_modCore {L : List Piece} {u : State} {s : State} (x1 : _) (x2 : _) (hL : ∀ p, p ∈ ([.cores] : List Piece) → p ∈ L)  (h : Framed L u s) : Framed L u (State.modCore s x1 x2) := by
  unfold State.modCore
  repeat (first | with_reducible assumption | (with_reducible apply frame_State_setCore <;> first | exact frame_sub rfl hL | skip) | with_reducible apply frame_foldl | with_reducible apply frame_foldl2 | with_reducible apply frame_foldl1 | split | intro _ | dsimp only)

theorem frame_State_modLane {L : List Piece} {u : State} {s : State} (x1 : _) (x2 : _) (x3 : _) (hL : ∀ p, p ∈ ([.host] : List Piece) → p ∈ L)  (h : Framed L u s) : Framed L u (State.modLane s x1 x2 x3) := by
  unfold State.modLane
  repeat (first | with_reducible assumption | with_reducible apply frame_foldl | with_reducible apply frame_foldl2 | with_reducible apply frame_foldl1 | split | intro _ | dsimp only | (with_reducible apply frame_mk; iterate 22 (first | exact Or.inr (hL _ (by decide)) | with_reducible exact Or.inl rfl)))

theorem frame_State_modFunnel {L : List Piece} {u : State} {s : State} (x1 : _) (x2 : _) (hL : ∀ p, p ∈ ([.funnels] : List Piece) → p ∈ L)  (h : Framed L u s) : Framed L u (State.modFunnel s x1 x2) := by
  unfold State.modFunnel
  repeat (first | with_reducible assumption | with_reducible apply frame_foldl | with_reducible apply frame_foldl2 | with_reducible apply frame_foldl1 | split | intro _ | dsimp only | (with_reducible apply frame_mk; iterate 22 (first | exact Or.inr (hL _ (by decide)) | with_reducible exact Or.inl rfl)))

theorem frame_State_modPower {L : List Piece} {u : State} {s : State} (x1 : _) (hL : ∀ p, p ∈ ([.power] : List Piece) → p ∈ L)  (h : Framed L u s) : Framed L u (State.modPower s x1) := by
  unfold State.modPower
  repeat (first | with_reducible assumption | with_reducible apply frame_foldl | with_reducible apply frame_foldl2 | with_reducible apply frame_foldl1 | split | intro _ | dsimp only | (with_reducible apply frame_mk; iterate 22 (first | exact Or.inr (hL _ (by decide)) | with_reducible exact Or.inl rfl)))

theorem frame_State_modCrock {L : List Piece} {u : State} {s : State} (x1 : _) (hL : ∀ p, p ∈ ([.crock] : List Piece) → p ∈ L)  (h : Framed L u s) : Framed L u (State.modCrock s x1) := by
  unfold State.modCrock
  repeat (first | with_reducible assumption | with_reducible apply frame_foldl | with_reducible apply frame_foldl2 | with_reducible apply frame_foldl1 | split | intro _ | dsimp only | (with_reducible apply frame_mk; iterate 22 (first | exact Or.inr (hL _ (by decide)) | with_reducible exact Or.inl rfl)))

theorem frame_State_modSec {L : List Piece} {u : State} {s : State} (x1 : _) (hL : ∀ p, p ∈ ([.sec] : List Piece) → p ∈ L)  (h : Framed L u s) : Framed L u (State.modSec s x1) := by
  unfold State.modSec
  repeat (first | with_reducible assumption | with_reducible apply frame_foldl | with_reducible apply frame_foldl2 | with_reducible apply frame_foldl1 | split | intro _ | dsimp only | (with_reducible apply frame_mk; iterate 22 (first | exact Or.inr (hL _ (by decide)) | with_reducible exact Or.inl rfl)))

theorem frame_State_modHost {L : List Piece} {u : State} {s : State} (x1 : _) (hL : ∀ p, p ∈ ([.host] : List Piece) → p ∈ L)  (h : Framed L u s) : Framed L u (State.modHost s x1) := by
  unfold State.modHost
  repeat (first | with_reducible assumption | with_reducible apply frame_foldl | with_reducible apply frame_foldl2 | with_reducible apply frame_foldl1 | split | intro _ | dsimp only | (with_reducible apply frame_mk; iterate 22 (first | exact Or.inr (hL _ (by decide)) | with_reducible exact Or.inl rfl)))

theorem frame_State_modPre {L : List Piece} {u : State} {s : State} (x1 : _) (hL : ∀ p, p ∈ ([.pre] : List Piece) → p ∈ L)  (h : Framed L u s) : Framed L u (State.modPre s x1) := by
  unfold State.modPre
  repeat (first | with_reducible assumption | with_reducible apply frame_foldl | with_reducible apply frame_foldl2 | with_reducible apply frame_foldl1 | split | intro _ | dsimp only | (with_reducible apply frame_mk; iterate 22 (first | exact Or.inr (hL _ (by decide)) | with_reducible exact Or.inl rfl)))

theorem frame_State_modFlows {L : List Piece} {u : State} {s : State} (x1 : _) (hL : ∀ p, p ∈ ([.flows] : List Piece) → p ∈ L)  (h : Framed L u s) : Framed L u (State.modFlows s x1) := by
  unfold State.modFlows
  repeat (first | with_reducible assumption | with_reducible apply frame_foldl | with_reducible apply frame_foldl2 | with_reducible apply frame_foldl1 | split | intro _ | dsimp only | (with_reducible apply frame_mk; iterate 22 (first | exact Or.inr (hL _ (by decide)) | with_reducible exact Or.inl rfl)))

theorem frame_State_modIngest {L : List Piece} {u : State} {s : State} (x1 : _) (hL : ∀ p, p ∈ ([.ingest] : List Piece) → p ∈ L)  (h : Framed L u s) : Framed L u (State.modIngest s x1) := by
  unfold State.modIngest
  repeat (first | with_reducible assumption | with_reducible apply frame_foldl | with_reducible apply frame_foldl2 | with_reducible apply frame_foldl1 | split | intro _ | dsimp only | (with_reducible apply frame_mk; iterate 22 (first | exact Or.inr (hL _ (by decide)) | with_reducible exact Or.inl rfl)))

theorem frame_State_modTb {L : List Piece} {u : State} {s : State} (x1 : _) (hL : ∀ p, p ∈ ([.tb] : List Piece) → p ∈ L)  (h : Framed L u s) : Framed L u (State.modTb s x1) := by
  unfold State.modTb
  repeat (first | with_reducible assumption | with_reducible apply frame_foldl | with_reducible apply frame_foldl2 | with_reducible apply frame_foldl1 | split | intro _ | dsimp only | (with_reducible apply frame_mk; iterate 22 (first | exact Or.inr (hL _ (by decide)) | with_reducible exact Or.inl rfl)))

theorem frame_State_modNet {L : List Piece} {u : State} {s : State} (x1 : _) (hL : ∀ p, p ∈ ([.net] : List Piece) → p ∈ L)  (h : Framed L u s) : Framed L u (State.modNet s x1) := by
  unfold State.modNet
  repeat (first | with_reducible assumption | with_reducible apply frame_foldl | with_reducible apply frame_foldl2 | with_reducible apply frame_foldl1 | split | intro _ | dsimp only | (with_reducible apply frame_mk; iterate 22 (first | exact Or.inr (hL _ (by decide)) | with_reducible exact Or.inl rfl)))

theorem frame_State_modProbe {L : List Piece} {u : State} {s : State} (x1 : _) (hL : ∀ p, p ∈ ([.probe] : List Piece) → p ∈ L)  (h : Framed L u s) : Framed L u (State.modProbe s x1) := by
  unfold State.modProbe
  repeat (first | with_reducible assumption | with_reducible apply frame_foldl | with_reducible apply frame_foldl2 | with_reducible apply frame_foldl1 | split | intro _ | dsimp only | (with_reducible apply frame_mk; iterate 22 (first | exact Or.inr (hL _ (by decide)) | with_reducible exact Or.inl rfl)))

theorem frame_State_modTrace {L : List Piece} {u : State} {s : State} (x1 : _) (hL : ∀ p, p ∈ ([.trace] : List Piece) → p ∈ L)  (h : Framed L u s) : Framed L u (State.modTrace s x1) := by
  unfold State.modTrace
  repeat (first | with_reducible assumption | with_reducible apply frame_foldl | with_reducible apply frame_foldl2 | with_reducible apply frame_foldl1 | split | intro _ | dsimp only | (with_reducible apply frame_mk; iterate 22 (first | exact Or.inr (hL _ (by decide)) | with_reducible exact Or.inl rfl)))

theorem frame_State_modMgmt {L : List Piece} {u : State} {s : State} (x1 : _) (hL : ∀ p, p ∈ ([.mgmt] : List Piece) → p ∈ L)  (h : Framed L u s) : Framed L u (State.modMgmt s x1) := by
  unfold State.modMgmt
  repeat (first | with_reducible assumption | with_reducible apply frame_foldl | with_reducible apply frame_foldl2 | with_reducible apply frame_foldl1 | split | intro _ | dsimp only | (with_reducible apply frame_mk; iterate 22 (first | exact Or.inr (hL _ (by decide)) | with_reducible exact Or.inl rfl)))

theorem frame_State_modPkg {L : List Piece} {u : State} {s : State} (x1 : _) (hL : ∀ p, p ∈ ([.pkg] : List Piece) → p ∈ L)  (h : Framed L u s) : Framed L u (State.modPkg s x1) := by
  unfold State.modPkg
  repeat (first | with_reducible assumption | with_reducible apply frame_foldl | with_reducible apply frame_foldl2 | with_reducible apply frame_foldl1 | split | intro _ | dsimp only | (with_reducible apply frame_mk; iterate 22 (first | exact Or.inr (hL _ (by decide)) | with_reducible exact Or.inl rfl)))

theorem frame_State_modMirror {L : List Piece} {u : State} {s : State} (x1 : _) (hL : ∀ p, p ∈ ([.crock] : List Piece) → p ∈ L)  (h : Framed L u s) : Framed L u (State.modMirror s x1) := by
  unfold State.modMirror
  repeat (first | with_reducible assumption | with_reducible apply frame_foldl | with_reducible apply frame_foldl2 | with_reducible apply frame_foldl1 | split | intro _ | dsimp only | (with_reducible apply frame_mk; iterate 22 (first | exact Or.inr (hL _ (by decide)) | with_reducible exact Or.inl rfl)))

theorem frame_State_modCal {L : List Piece} {u : State} {s : State} (x1 : _) (x2 : _) (x3 : _) (hL : ∀ p, p ∈ ([.crock] : List Piece) → p ∈ L)  (h : Framed L u s) : Framed L u (State.modCal s x1 x2 x3) := by
  unfold State.modCal
  repeat (first | with_reducible assumption | (with_reducible apply frame_State_modMirror <;> first | exact frame_sub rfl hL | skip) | with_reducible apply frame_foldl | with_reducible apply frame_foldl2 | with_reducible apply frame_foldl1 | split | intro _ | dsimp only)

theorem frame_State_setCtx {L : List Piece} {u : State} {s : State} (x1 : _) (x2 : _) (hL : ∀ p, p ∈ ([.flows] : List Piece) → p ∈ L)  (h : Framed L u s) : Framed L u (State.setCtx s x1 x2) := by
  unfold State.setCtx
  repeat (first | with_reducible assumption | (with_reducible apply frame_State_modFlows <;> first | exact frame_sub rfl hL | skip) | with_reducible apply frame_foldl | with_reducible apply frame_foldl2 | with_reducible apply frame_foldl1 | split | intro _ | dsimp only)

theorem frame_State_modCtx {L : List Piece} {u : State} {s : State} (x1 : _) (x2 : _) (hL : ∀ p, p ∈ ([.flows] : List Piece) → p ∈ L)  (h : Framed L u s) : Framed L u (State.modCtx s x1 x2) := by
  unfold State.modCtx
  repeat (first | with_reducible assumption | (with_reducible apply frame_State_setCtx <;> first | exact frame_sub rfl hL | skip) | with_reducible apply frame_foldl | with_reducible apply frame_foldl2 | with_reducible apply frame_foldl1 | split | intro _ | dsimp only)

theorem frame_State_setRun {L : List Piece} {u : State} {s : State} (x1 : _) (x2 : _) (hL : ∀ p, p ∈ ([.flows] : List Piece) → p ∈ L)  (h : Framed L u s) : Framed L u (State.setRun s x1 x2) := by
  unfold State.setRun
  repeat (first | with_reducible assumption | (with_reducible apply frame_State_modFlows <;> first | exact frame_sub rfl hL | skip) | with_reducible apply frame_foldl | with_reducible apply frame_foldl2 | with_reducible apply frame_foldl1 | split | intro _ | dsimp only)

theorem frame_State_modRun {L : List Piece} {u : State} {s : State} (x1 : _) (x2 : _) (hL : ∀ p, p ∈ ([.flows] : List Piece) → p ∈ L)  (h : Framed L u s) : Framed L u (State.modRun s x1 x2) := by
  unfold State.modRun
  repeat (first | with_reducible assumption | (with_reducible apply frame_State_setRun <;> first | exact frame_sub rfl hL | skip) | with_reducible apply frame_foldl | with_reducible apply frame_foldl2 | with_reducible apply frame_foldl1 | split | intro _ | dsimp only)

theorem frame_State_setQueue {L : List Piece} {u : State} {s : State} (x1 : _) (x2 : _) (x3 : _) (hL : ∀ p, p ∈ ([.cores] : List Piece) → p ∈ L)  (h : Framed L u s) : Framed L u (State.setQueue s x1 x2 x3) := by
  unfold State.setQueue
  repeat (first | with_reducible assumption | (with_reducible apply frame_State_modCore <;> first | exact frame_sub rfl hL | skip) | with_reducible apply frame_foldl | with_reducible apply frame_foldl2 | with_reducible apply frame_foldl1 | split | intro _ | dsimp only)

theorem frame_State_modQueue {L : List Piece} {u : State} {s : State} (x1 : _) (x2 : _) (x3 : _) (hL : ∀ p, p ∈ ([.cores] : List Piece) → p ∈ L)  (h : Framed L u s) : Framed L u (State.modQueue s x1 x2 x3) := by
  unfold State.modQueue
  repeat (first | with_reducible assumption | (with_reducible apply frame_State_setQueue <;> first | exact frame_sub rfl hL | skip) | with_reducible apply frame_foldl | with_reducible apply frame_foldl2 | with_reducible apply frame_foldl1 | split | intro _ | dsimp only)

theorem frame_State_modLink {L : List Piece} {u : State} {s : State} (x1 : _) (x2 : _) (hL : ∀ p, p ∈ ([.ingest] : List Piece) → p ∈ L)  (h : Framed L u s) : Framed L u (State.modLink s x1 x2) := by
  unfold State.modLink
  repeat (first | with_reducible assumption | (with_reducible apply frame_State_modIngest <;> first | exact frame_sub rfl hL | skip) | with_reducible apply frame_foldl | with_reducible apply frame_foldl2 | with_reducible apply frame_foldl1 | split | intro _ | dsimp only)

theorem frame_State_modPort {L : List Piece} {u : State} {s : State} (x1 : _) (x2 : _) (hL : ∀ p, p ∈ ([.net] : List Piece) → p ∈ L)  (h : Framed L u s) : Framed L u (State.modPort s x1 x2) := by
  unfold State.modPort
  repeat (first | with_reducible assumption | (with_reducible apply frame_State_modNet <;> first | exact frame_sub rfl hL | skip) | with_reducible apply frame_foldl | with_reducible apply frame_foldl2 | with_reducible apply frame_foldl1 | split | intro _ | dsimp only)

theorem frame_State_modPeer {L : List Piece} {u : State} {s : State} (x1 : _) (x2 : _) (x3 : _) (hL : ∀ p, p ∈ ([.net] : List Piece) → p ∈ L)  (h : Framed L u s) : Framed L u (State.modPeer s x1 x2 x3) := by
  unfold State.modPeer
  repeat (first | with_reducible assumption | (with_reducible apply frame_State_modNet <;> first | exact frame_sub rfl hL | skip) | with_reducible apply frame_foldl | with_reducible apply frame_foldl2 | with_reducible apply frame_foldl1 | split | intro _ | dsimp only)

theorem frame_State_emit {L : List Piece} {u : State} {s : State} (x1 : _) (hL : ∀ p, p ∈ ([.host] : List Piece) → p ∈ L)  (h : Framed L u s) : Framed L u (State.emit s x1) := by
  unfold State.emit
  repeat (first | with_reducible assumption | with_reducible apply frame_foldl | with_reducible apply frame_foldl2 | with_reducible apply frame_foldl1 | split | intro _ | dsimp only | (with_reducible apply frame_mk; iterate 22 (first | exact Or.inr (hL _ (by decide)) | with_reducible exact Or.inl rfl)))

theorem frame_State_nextDraw {L : List Piece} {u : State} {s : State} (hL : ∀ p, p ∈ ([.draw] : List Piece) → p ∈ L)  (h : Framed L u s) : Framed L u (State.nextDraw s) := by
  unfold State.nextDraw
  repeat (first | with_reducible assumption | with_reducible apply frame_foldl | with_reducible apply frame_foldl2 | with_reducible apply frame_foldl1 | split | intro _ | dsimp only | (with_reducible apply frame_mk; iterate 22 (first | exact Or.inr (hL _ (by decide)) | with_reducible exact Or.inl rfl)))

theorem frame_State_hostWrite {L : List Piece} {u : State} {s : State} (x1 : _) (x2 : _) (hL : ∀ p, p ∈ ([.host] : List Piece) → p ∈ L)  (h : Framed L u s) : Framed L u (State.hostWrite s x1 x2) := by
  unfold State.hostWrite
  repeat (first | with_reducible assumption | with_reducible apply frame_foldl | with_reducible apply frame_foldl2 | with_reducible apply frame_foldl1 | split | intro _ | dsimp only | (with_reducible apply frame_mk; iterate 22 (first | exact Or.inr (hL _ (by decide)) | with_reducible exact Or.inl rfl)))

theorem frame_State_setReg {L : List Piece} {u : State} {s : State} (x1 : _) (x2 : _) (hL : ∀ p, p ∈ ([.pre] : List Piece) → p ∈ L)  (h : Framed L u s) : Framed L u (State.setReg s x1 x2) := by
  unfold State.setReg
  repeat (first | with_reducible assumption | with_reducible apply frame_foldl | with_reducible apply frame_foldl2 | with_reducible apply frame_foldl1 | split | intro _ | dsimp only | (with_reducible apply frame_mk; iterate 22 (first | exact Or.inr (hL _ (by decide)) | with_reducible exact Or.inl rfl)))

theorem frame_State_setRegf {L : List Piece} {u : State} {s : State} (x1 : _) (x2 : _) (x3 : _) (x4 : _) (hL : ∀ p, p ∈ ([.pre] : List Piece) → p ∈ L)  (h : Framed L u s) : Framed L u (State.setRegf s x1 x2 x3 x4) := by
  unfold State.setRegf
  repeat (first | with_reducible assumption | (with_reducible apply frame_State_setReg <;> first | exact frame_sub rfl hL | skip) | with_reducible apply frame_foldl | with_reducible apply frame_foldl2 | with_reducible apply frame_foldl1 | split | intro _ | dsimp only)

theorem frame_idlePeriod {L : List Piece} {u : State} {s : State} (hL : ∀ p, p ∈ ([.clk, .tb] : List Piece) → p ∈ L)  (h : Framed L u s) : Framed L u (idlePeriod s) := by
  unfold idlePeriod
  repeat (first | with_reducible assumption | with_reducible apply frame_foldl | with_reducible apply frame_foldl2 | with_reducible apply frame_foldl1 | split | intro _ | dsimp only | (with_reducible apply frame_mk; iterate 22 (first | exact Or.inr (hL _ (by decide)) | with_reducible exact Or.inl rfl)))

theorem frame_State_foldTick {L : List Piece} {u : State} {s : State} (hL : ∀ p, p ∈ ([.crock] : List Piece) → p ∈ L)  (h : Framed L u s) : Framed L u (State.foldTick s) := by
  unfold State.foldTick
  repeat (first | with_reducible assumption | (with_reducible apply frame_State_modMirror <;> first | exact frame_sub rfl hL | skip) | with_reducible apply frame_foldl | with_reducible apply frame_foldl2 | with_reducible apply frame_foldl1 | split | intro _ | dsimp only)

theorem frame_count {L : List Piece} {u : State} (x0 : _) (x1 : _) {s : State} (hL : ∀ p, p ∈ ([.counters] : List Piece) → p ∈ L)  (h : Framed L u s) : Framed L u (count x0 x1 s) := by
  exact frame_of (count_same _ _ _) hL h

theorem frame_tracePin {L : List Piece} {u : State} (x0 : _) {s : State} (hL : ∀ p, p ∈ ([.trace] : List Piece) → p ∈ L)  (h : Framed L u s) : Framed L u (tracePin x0 s) := by
  unfold tracePin
  repeat (first | with_reducible assumption | (with_reducible apply frame_State_modTrace <;> first | exact frame_sub rfl hL | skip) | with_reducible apply frame_foldl | with_reducible apply frame_foldl2 | with_reducible apply frame_foldl1 | split | intro _ | dsimp only)

theorem frame_trace {L : List Piece} {u : State} (x0 : _) {s : State} (hL : ∀ p, p ∈ ([.trace] : List Piece) → p ∈ L)  (h : Framed L u s) : Framed L u (trace x0 s) := by
  unfold trace
  repeat (first | with_reducible assumption | (with_reducible apply frame_State_modTrace <;> first | exact frame_sub rfl hL | skip) | (with_reducible apply frame_tracePin <;> first | exact frame_sub rfl hL | skip) | with_reducible apply frame_foldl | with_reducible apply frame_foldl2 | with_reducible apply frame_foldl1 | split | intro _ | dsimp only)

theorem frame_traceOnly {L : List Piece} {u : State} (x0 : _) (x1 : _) (x2 : _) (x3 : _) (x4 : _) (x5 : _) (x6 : _) (x7 : _) {s : State} (hL : ∀ p, p ∈ ([.trace] : List Piece) → p ∈ L)  (h : Framed L u s) : Framed L u (traceOnly x0 x1 x2 x3 x4 x5 x6 x7 s) := by
  unfold traceOnly
  repeat (first | with_reducible assumption | (with_reducible apply frame_trace <;> first | exact frame_sub rfl hL | skip) | with_reducible apply frame_foldl | with_reducible apply frame_foldl2 | with_reducible apply frame_foldl1 | split | intro _ | dsimp only)

theorem frame_form {L : List Piece} {u : State} (x0 : _) (x1 : _) {s : State} (hL : ∀ p, p ∈ ([.funnels] : List Piece) → p ∈ L)  (h : Framed L u s) : Framed L u (form x0 x1 s) := by
  unfold form
  repeat (first | with_reducible assumption | (with_reducible apply frame_State_modFunnel <;> first | exact frame_sub rfl hL | skip) | with_reducible apply frame_foldl | with_reducible apply frame_foldl2 | with_reducible apply frame_foldl1 | split | intro _ | dsimp only)

theorem frame_formStamped {L : List Piece} {u : State} (x0 : _) (x1 : _) (x2 : _) (x3 : _) {s : State} (hL : ∀ p, p ∈ ([.funnels] : List Piece) → p ∈ L)  (h : Framed L u s) : Framed L u (formStamped x0 x1 x2 x3 s) := by
  unfold formStamped
  repeat (first | with_reducible assumption | (with_reducible apply frame_form <;> first | exact frame_sub rfl hL | skip) | (with_reducible apply frame_State_modFunnel <;> first | exact frame_sub rfl hL | skip) | with_reducible apply frame_foldl | with_reducible apply frame_foldl2 | with_reducible apply frame_foldl1 | split | intro _ | dsimp only)

theorem frame_raiseTo {L : List Piece} {u : State} (x0 : _) (x1 : _) (x2 : _) (x3 : _) {s : State} (hL : ∀ p, p ∈ ([.funnels, .trace] : List Piece) → p ∈ L)  (h : Framed L u s) : Framed L u (raiseTo x0 x1 x2 x3 s) := by
  unfold raiseTo
  repeat (first | with_reducible assumption | (with_reducible apply frame_trace <;> first | exact frame_sub rfl hL | skip) | (with_reducible apply frame_formStamped <;> first | exact frame_sub rfl hL | skip) | with_reducible apply frame_each | with_reducible apply frame_foldl | with_reducible apply frame_foldl2 | with_reducible apply frame_foldl1 | split | intro _ | dsimp only)

theorem frame_raiseDev {L : List Piece} {u : State} (x0 : _) (x1 : _) {s : State} (hL : ∀ p, p ∈ ([.power, .funnels, .trace] : List Piece) → p ∈ L)  (h : Framed L u s) : Framed L u (raiseDev x0 x1 s) := by
  unfold raiseDev
  repeat (first | with_reducible assumption | (with_reducible apply frame_raiseTo <;> first | exact frame_sub rfl hL | skip) | (with_reducible apply frame_State_modPower <;> first | exact frame_sub rfl hL | skip) | with_reducible apply frame_foldl | with_reducible apply frame_foldl2 | with_reducible apply frame_foldl1 | split | intro _ | dsimp only)

theorem frame_raisePart {L : List Piece} {u : State} (x0 : _) (x1 : _) (x2 : _) {s : State} (hL : ∀ p, p ∈ ([.funnels, .trace] : List Piece) → p ∈ L)  (h : Framed L u s) : Framed L u (raisePart x0 x1 x2 s) := by
  unfold raisePart
  repeat (first | with_reducible assumption | (with_reducible apply frame_raiseTo <;> first | exact frame_sub rfl hL | skip) | with_reducible apply frame_foldl | with_reducible apply frame_foldl2 | with_reducible apply frame_foldl1 | split | intro _ | dsimp only)

theorem frame_raiseUnit {L : List Piece} {u : State} (x0 : _) (x1 : _) (x2 : _) {s : State} (hL : ∀ p, p ∈ ([.power, .funnels, .trace] : List Piece) → p ∈ L)  (h : Framed L u s) : Framed L u (raiseUnit x0 x1 x2 s) := by
  unfold raiseUnit
  repeat (first | with_reducible assumption | (with_reducible apply frame_raisePart <;> first | exact frame_sub rfl hL | skip) | (with_reducible apply frame_raiseDev <;> first | exact frame_sub rfl hL | skip) | with_reducible apply frame_foldl | with_reducible apply frame_foldl2 | with_reducible apply frame_foldl1 | split | intro _ | dsimp only)

theorem frame_noRing {L : List Piece} {u : State} (x0 : _) {s : State} (hL : ∀ p, p ∈ ([.funnels, .trace, .counters] : List Piece) → p ∈ L)  (h : Framed L u s) : Framed L u (noRing x0 s) := by
  unfold noRing
  repeat (first | with_reducible assumption | (with_reducible apply frame_count <;> first | exact frame_sub rfl hL | skip) | (with_reducible apply frame_raisePart <;> first | exact frame_sub rfl hL | skip) | (with_reducible apply frame_traceOnly <;> first | exact frame_sub rfl hL | skip) | with_reducible apply frame_foldl | with_reducible apply frame_foldl2 | with_reducible apply frame_foldl1 | split | intro _ | dsimp only)

theorem frame_reply {L : List Piece} {u : State} (x0 : _) (x1 : _) (x2 : _) (x3 : _) (x4 : _) {s : State} (hL : ∀ p, p ∈ ([.host, .funnels, .trace, .counters] : List Piece) → p ∈ L)  (h : Framed L u s) : Framed L u (reply x0 x1 x2 x3 x4 s) := by
  unfold reply
  repeat (first | with_reducible assumption | (with_reducible apply frame_State_modLane <;> first | exact frame_sub rfl hL | skip) | (with_reducible apply frame_traceOnly <;> first | exact frame_sub rfl hL | skip) | (with_reducible apply frame_noRing <;> first | exact frame_sub rfl hL | skip) | with_reducible apply frame_foldl | with_reducible apply frame_foldl2 | with_reducible apply frame_foldl1 | split | intro _ | dsimp only)

theorem frame_answer {L : List Piece} {u : State} (x0 : _) (x1 : _) (x2 : _) (x3 : _) {s : State} (hL : ∀ p, p ∈ ([.host, .funnels, .trace, .counters] : List Piece) → p ∈ L)  (h : Framed L u s) : Framed L u (answer x0 x1 x2 x3 s) := by
  unfold answer
  repeat (first | with_reducible assumption | (with_reducible apply frame_reply <;> first | exact frame_sub rfl hL | skip) | with_reducible apply frame_foldl | with_reducible apply frame_foldl2 | with_reducible apply frame_foldl1 | split | intro _ | dsimp only)

theorem frame_dropCmd {L : List Piece} {u : State} (x0 : _) {s : State} (hL : ∀ p, p ∈ ([.pre] : List Piece) → p ∈ L)  (h : Framed L u s) : Framed L u (dropCmd x0 s) := by
  unfold dropCmd
  repeat (first | with_reducible assumption | (with_reducible apply frame_State_modPre <;> first | exact frame_sub rfl hL | skip) | with_reducible apply frame_foldl | with_reducible apply frame_foldl2 | with_reducible apply frame_foldl1 | split | intro _ | dsimp only)

theorem frame_finish {L : List Piece} {u : State} (x0 : _) (x1 : _) (x2 : _) {s : State} (hL : ∀ p, p ∈ ([.host, .pre, .funnels, .trace, .counters] : List Piece) → p ∈ L)  (h : Framed L u s) : Framed L u (finish x0 x1 x2 s) := by
  unfold finish
  repeat (first | with_reducible assumption | (with_reducible apply frame_answer <;> first | exact frame_sub rfl hL | skip) | (with_reducible apply frame_dropCmd <;> first | exact frame_sub rfl hL | skip) | with_reducible apply frame_foldl | with_reducible apply frame_foldl2 | with_reducible apply frame_foldl1 | split | intro _ | dsimp only)

theorem frame_finishOpt {L : List Piece} {u : State} (x0 : _) (x1 : _) (x2 : _) {s : State} (hL : ∀ p, p ∈ ([.host, .pre, .funnels, .trace, .counters] : List Piece) → p ∈ L)  (h : Framed L u s) : Framed L u (finishOpt x0 x1 x2 s) := by
  unfold finishOpt
  repeat (first | with_reducible assumption | (with_reducible apply frame_finish <;> first | exact frame_sub rfl hL | skip) | with_reducible apply frame_foldl | with_reducible apply frame_foldl2 | with_reducible apply frame_foldl1 | split | intro _ | dsimp only)

theorem frame_setWait {L : List Piece} {u : State} (x0 : _) (x1 : _) {s : State} (hL : ∀ p, p ∈ ([.pre] : List Piece) → p ∈ L)  (h : Framed L u s) : Framed L u (setWait x0 x1 s) := by
  unfold setWait
  repeat (first | with_reducible assumption | (with_reducible apply frame_State_modPre <;> first | exact frame_sub rfl hL | skip) | with_reducible apply frame_foldl | with_reducible apply frame_foldl2 | with_reducible apply frame_foldl1 | split | intro _ | dsimp only)

theorem frame_State_modPin {L : List Piece} {u : State} {s : State} (x1 : _) (x2 : _) (hL : ∀ p, p ∈ ([.tb] : List Piece) → p ∈ L)  (h : Framed L u s) : Framed L u (State.modPin s x1 x2) := by
  unfold State.modPin
  repeat (first | with_reducible assumption | (with_reducible apply frame_State_modTb <;> first | exact frame_sub rfl hL | skip) | with_reducible apply frame_foldl | with_reducible apply frame_foldl2 | with_reducible apply frame_foldl1 | split | intro _ | dsimp only)

theorem frame_drivePin {L : List Piece} {u : State} (x0 : _) (x1 : _) (x2 : _) {s : State} (hL : ∀ p, p ∈ ([.host, .tb, .counters] : List Piece) → p ∈ L)  (h : Framed L u s) : Framed L u (drivePin x0 x1 x2 s) := by
  unfold drivePin
  repeat (first | with_reducible assumption | (with_reducible apply frame_State_modPin <;> first | exact frame_sub rfl hL | skip) | (with_reducible apply frame_count <;> first | exact frame_sub rfl hL | skip) | (with_reducible apply frame_State_emit <;> first | exact frame_sub rfl hL | skip) | with_reducible apply frame_foldl | with_reducible apply frame_foldl2 | with_reducible apply frame_foldl1 | split | intro _ | dsimp only)

theorem frame_schedulePin {L : List Piece} {u : State} (x0 : _) (x1 : _) (x2 : _) {s : State} (hL : ∀ p, p ∈ ([.host, .tb, .counters] : List Piece) → p ∈ L)  (h : Framed L u s) : Framed L u (schedulePin x0 x1 x2 s) := by
  unfold schedulePin
  repeat (first | with_reducible assumption | (with_reducible apply frame_count <;> first | exact frame_sub rfl hL | skip) | (with_reducible apply frame_drivePin <;> first | exact frame_sub rfl hL | skip) | (with_reducible apply frame_State_modPin <;> first | exact frame_sub rfl hL | skip) | with_reducible apply frame_foldl | with_reducible apply frame_foldl2 | with_reducible apply frame_foldl1 | split | intro _ | dsimp only)

theorem frame_suppressPin {L : List Piece} {u : State} (x0 : _) {s : State} (hL : ∀ p, p ∈ ([.host, .tb, .counters] : List Piece) → p ∈ L)  (h : Framed L u s) : Framed L u (suppressPin x0 s) := by
  unfold suppressPin
  repeat (first | with_reducible assumption | (with_reducible apply frame_count <;> first | exact frame_sub rfl hL | skip) | (with_reducible apply frame_State_modPin <;> first | exact frame_sub rfl hL | skip) | (with_reducible apply frame_State_emit <;> first | exact frame_sub rfl hL | skip) | with_reducible apply frame_foldl | with_reducible apply frame_foldl2 | with_reducible apply frame_foldl1 | split | intro _ | dsimp only)

theorem frame_suppressAll {L : List Piece} {u : State} {s : State} (hL : ∀ p, p ∈ ([.host, .tb, .counters] : List Piece) → p ∈ L)  (h : Framed L u s) : Framed L u (suppressAll s) := by
  unfold suppressAll
  repeat (first | with_reducible assumption | (with_reducible apply frame_suppressPin <;> first | exact frame_sub rfl hL | skip) | with_reducible apply frame_each | with_reducible apply frame_foldl | with_reducible apply frame_foldl2 | with_reducible apply frame_foldl1 | split | intro _ | dsimp only)

theorem frame_suppressPart {L : List Piece} {u : State} (x0 : _) {s : State} (hL : ∀ p, p ∈ ([.host, .tb, .counters] : List Piece) → p ∈ L)  (h : Framed L u s) : Framed L u (suppressPart x0 s) := by
  unfold suppressPart
  repeat (first | with_reducible assumption | (with_reducible apply frame_suppressPin <;> first | exact frame_sub rfl hL | skip) | with_reducible apply frame_each | with_reducible apply frame_foldl | with_reducible apply frame_foldl2 | with_reducible apply frame_foldl1 | split | intro _ | dsimp only)

theorem frame_retractPins {L : List Piece} {u : State} (x0 : _) {s : State} (hL : ∀ p, p ∈ ([.tb] : List Piece) → p ∈ L)  (h : Framed L u s) : Framed L u (retractPins x0 s).1 := by
  unfold retractPins
  repeat (first | with_reducible assumption | (with_reducible apply frame_State_modPin <;> first | exact frame_sub rfl hL | skip) | with_reducible apply frame_each | with_reducible apply frame_foldl | with_reducible apply frame_foldl2 | with_reducible apply frame_foldl1 | split | intro _ | dsimp only)

theorem frame_takeSeq {L : List Piece} {u : State} (x0 : _) {s : State} (hL : ∀ p, p ∈ ([.flows] : List Piece) → p ∈ L)  (h : Framed L u s) : Framed L u (takeSeq x0 s).2 := by
  unfold takeSeq
  repeat (first | with_reducible assumption | (with_reducible apply frame_State_setCtx <;> first | exact frame_sub rfl hL | skip) | with_reducible apply frame_foldl | with_reducible apply frame_foldl2 | with_reducible apply frame_foldl1 | split | intro _ | dsimp only)

theorem frame_takeRunSeq {L : List Piece} {u : State} (x0 : _) {s : State} (hL : ∀ p, p ∈ ([.flows] : List Piece) → p ∈ L)  (h : Framed L u s) : Framed L u (takeRunSeq x0 s).2 := by
  unfold takeRunSeq
  repeat (first | with_reducible assumption | (with_reducible apply frame_State_setRun <;> first | exact frame_sub rfl hL | skip) | (with_reducible apply frame_takeSeq <;> first | exact frame_sub rfl hL | skip) | with_reducible apply frame_foldl | with_reducible apply frame_foldl2 | with_reducible apply frame_foldl1 | split | intro _ | dsimp only)

theorem frame_runPkt {L : List Piece} {u : State} (x0 : _) (x1 : _) (x2 : _) {s : State} (hL : ∀ p, p ∈ ([.flows] : List Piece) → p ∈ L)  (h : Framed L u s) : Framed L u (runPkt x0 x1 x2 s).1 := by
  unfold runPkt
  repeat (first | with_reducible assumption | (with_reducible apply frame_takeRunSeq <;> first | exact frame_sub rfl hL | skip) | with_reducible apply frame_foldl | with_reducible apply frame_foldl2 | with_reducible apply frame_foldl1 | split | intro _ | dsimp only)

theorem frame_formRun {L : List Piece} {u : State} (x0 : _) (x1 : _) (x2 : _) {s : State} (hL : ∀ p, p ∈ ([.flows, .funnels] : List Piece) → p ∈ L)  (h : Framed L u s) : Framed L u (formRun x0 x1 x2 s) := by
  have hw := frame_runPkt x0 x1 x2 (frame_sub rfl hL) h
  unfold formRun
  split <;> rename_i he <;> rw [he] at hw
  · exact frame_form _ _ (frame_sub rfl hL) hw
  · exact hw

theorem frame_formGap {L : List Piece} {u : State} (x0 : _) (x1 : _) (x2 : _) {s : State} (hL : ∀ p, p ∈ ([.flows, .funnels, .trace] : List Piece) → p ∈ L)  (h : Framed L u s) : Framed L u (formGap x0 x1 x2 s) := by
  unfold formGap
  repeat (first | with_reducible assumption | (with_reducible apply frame_takeSeq <;> first | exact frame_sub rfl hL | skip) | (with_reducible apply frame_form <;> first | exact frame_sub rfl hL | skip) | (with_reducible apply frame_traceOnly <;> first | exact frame_sub rfl hL | skip) | with_reducible apply frame_foldl | with_reducible apply frame_foldl2 | with_reducible apply frame_foldl1 | split | intro _ | dsimp only)

theorem frame_slicerDrop {L : List Piece} {u : State} (x0 : _) (x1 : _) (x2 : _) {s : State} (hL : ∀ p, p ∈ ([.flows, .funnels, .trace, .counters] : List Piece) → p ∈ L)  (h : Framed L u s) : Framed L u (slicerDrop x0 x1 x2 s) := by
  unfold slicerDrop
  repeat (first | with_reducible assumption | (with_reducible apply frame_formGap <;> first | exact frame_sub rfl hL | skip) | (with_reducible apply frame_count <;> first | exact frame_sub rfl hL | skip) | (with_reducible apply frame_State_modFlows <;> first | exact frame_sub rfl hL | skip) | (with_reducible apply frame_raisePart <;> first | exact frame_sub rfl hL | skip) | with_reducible apply frame_foldl | with_reducible apply frame_foldl2 | with_reducible apply frame_foldl1 | split | intro _ | dsimp only)

theorem frame_dropArrival {L : List Piece} {u : State} (x0 : _) (x1 : _) {s : State} (hL : ∀ p, p ∈ ([.cores] : List Piece) → p ∈ L)  (h : Framed L u s) : Framed L u (dropArrival x0 x1 s) := by
  unfold dropArrival
  repeat (first | with_reducible assumption | (with_reducible apply frame_State_modCore <;> first | exact frame_sub rfl hL | skip) | with_reducible apply frame_foldl | with_reducible apply frame_foldl2 | with_reducible apply frame_foldl1 | split | intro _ | dsimp only)

theorem frame_dropQueue {L : List Piece} {u : State} (x0 : _) (x1 : _) {s : State} (hL : ∀ p, p ∈ ([.cores] : List Piece) → p ∈ L)  (h : Framed L u s) : Framed L u (dropQueue x0 x1 s) := by
  unfold dropQueue
  repeat (first | with_reducible assumption | (with_reducible apply frame_dropArrival <;> first | exact frame_sub rfl hL | skip) | (with_reducible apply frame_State_modCore <;> first | exact frame_sub rfl hL | skip) | with_reducible apply frame_foldl | with_reducible apply frame_foldl2 | with_reducible apply frame_foldl1 | split | intro _ | dsimp only)

theorem frame_freeCtx {L : List Piece} {u : State} (x0 : _) {s : State} (hL : ∀ p, p ∈ ([.flows] : List Piece) → p ∈ L)  (h : Framed L u s) : Framed L u (freeCtx x0 s) := by
  unfold freeCtx
  repeat (first | with_reducible assumption | (with_reducible apply frame_State_modFlows <;> first | exact frame_sub rfl hL | skip) | with_reducible apply frame_foldl | with_reducible apply frame_foldl2 | with_reducible apply frame_foldl1 | split | intro _ | dsimp only)

theorem frame_settleRun {L : List Piece} {u : State} (x0 : _) {s : State} (hL : ∀ p, p ∈ ([.host, .pre, .flows, .funnels, .trace, .counters] : List Piece) → p ∈ L)  (h : Framed L u s) : Framed L u (settleRun x0 s) := by
  unfold settleRun
  repeat (first | with_reducible assumption | (with_reducible apply frame_State_modFlows <;> first | exact frame_sub rfl hL | skip) | (with_reducible apply frame_finishOpt <;> first | exact frame_sub rfl hL | skip) | (with_reducible apply frame_freeCtx <;> first | exact frame_sub rfl hL | skip) | with_reducible apply frame_foldl | with_reducible apply frame_foldl2 | with_reducible apply frame_foldl1 | split | intro _ | dsimp only)

theorem frame_freeSpill {L : List Piece} {u : State} (x0 : _) {s : State} (hL : ∀ p, p ∈ ([.flows] : List Piece) → p ∈ L)  (h : Framed L u s) : Framed L u (freeSpill x0 s) := by
  unfold freeSpill
  repeat (first | with_reducible assumption | (with_reducible apply frame_State_modFlows <;> first | exact frame_sub rfl hL | skip) | with_reducible apply frame_foldl | with_reducible apply frame_foldl2 | with_reducible apply frame_foldl1 | split | intro _ | dsimp only)

theorem frame_endWindow {L : List Piece} {u : State} (x0 : _) {s : State} (hL : ∀ p, p ∈ ([.host, .pre, .flows, .funnels, .trace, .counters] : List Piece) → p ∈ L)  (h : Framed L u s) : Framed L u (endWindow x0 s) := by
  unfold endWindow
  repeat (first | with_reducible assumption | (with_reducible apply frame_freeSpill <;> first | exact frame_sub rfl hL | skip) | (with_reducible apply frame_settleRun <;> first | exact frame_sub rfl hL | skip) | (with_reducible apply frame_State_setCtx <;> first | exact frame_sub rfl hL | skip) | with_reducible apply frame_foldl | with_reducible apply frame_foldl2 | with_reducible apply frame_foldl1 | split | intro _ | dsimp only)

theorem frame_markAbandoned {L : List Piece} {u : State} (x0 : _) (x1 : _) {s : State} (hL : ∀ p, p ∈ ([.flows] : List Piece) → p ∈ L)  (h : Framed L u s) : Framed L u (markAbandoned x0 x1 s) := by
  unfold markAbandoned
  repeat (first | with_reducible assumption | (with_reducible apply frame_State_modRun <;> first | exact frame_sub rfl hL | skip) | with_reducible apply frame_foldl | with_reducible apply frame_foldl2 | with_reducible apply frame_foldl1 | split | intro _ | dsimp only)

theorem frame_abandonRun {L : List Piece} {u : State} (x0 : _) (x1 : _) (x2 : _) (x3 : _) (x4 : _) {s : State} (hL : ∀ p, p ∈ ([.host, .pre, .cores, .flows, .funnels, .trace, .counters] : List Piece) → p ∈ L)  (h : Framed L u s) : Framed L u (abandonRun x0 x1 x2 x3 x4 s) := by
  unfold abandonRun
  repeat (first | with_reducible assumption | (with_reducible apply frame_markAbandoned <;> first | exact frame_sub rfl hL | skip) | (with_reducible apply frame_formRun <;> first | exact frame_sub rfl hL | skip) | (with_reducible apply frame_dropQueue <;> first | exact frame_sub rfl hL | skip) | (with_reducible apply frame_endWindow <;> first | exact frame_sub rfl hL | skip) | with_reducible apply frame_each | with_reducible apply frame_foldl | with_reducible apply frame_foldl2 | with_reducible apply frame_foldl1 | split | intro _ | dsimp only | (with_reducible apply frame_mk; iterate 22 (first | exact Or.inr (hL _ (by decide)) | with_reducible exact Or.inl rfl)))

theorem frame_cancelRun {L : List Piece} {u : State} (x0 : _) (x1 : _) (x2 : _) {s : State} (hL : ∀ p, p ∈ ([.host, .pre, .cores, .flows, .funnels, .trace, .counters] : List Piece) → p ∈ L)  (h : Framed L u s) : Framed L u (cancelRun x0 x1 x2 s) := by
  unfold cancelRun
  repeat (first | with_reducible assumption | (with_reducible apply frame_abandonRun <;> first | exact frame_sub rfl hL | skip) | (with_reducible apply frame_count <;> first | exact frame_sub rfl hL | skip) | with_reducible apply frame_foldl | with_reducible apply frame_foldl2 | with_reducible apply frame_foldl1 | split | intro _ | dsimp only)

theorem frame_dropRun {L : List Piece} {u : State} (x0 : _) (x1 : _) {s : State} (hL : ∀ p, p ∈ ([.host, .pre, .cores, .flows, .funnels, .trace, .counters] : List Piece) → p ∈ L)  (h : Framed L u s) : Framed L u (dropRun x0 x1 s) := by
  unfold dropRun
  repeat (first | with_reducible assumption | (with_reducible apply frame_abandonRun <;> first | exact frame_sub rfl hL | skip) | (with_reducible apply frame_State_modRun <;> first | exact frame_sub rfl hL | skip) | with_reducible apply frame_foldl | with_reducible apply frame_foldl2 | with_reducible apply frame_foldl1 | split | intro _ | dsimp only)

theorem frame_closeFlow {L : List Piece} {u : State} (x0 : _) (x1 : _) (x2 : _) (x3 : _) (x4 : _) {s : State} (hL : ∀ p, p ∈ ([.host, .pre, .cores, .flows, .funnels, .trace, .counters] : List Piece) → p ∈ L)  (h : Framed L u s) : Framed L u (closeFlow x0 x1 x2 x3 x4 s) := by
  unfold closeFlow
  repeat (first | with_reducible assumption | (with_reducible apply frame_State_setCtx <;> first | exact frame_sub rfl hL | skip) | (with_reducible apply frame_count <;> first | exact frame_sub rfl hL | skip) | (with_reducible apply frame_cancelRun <;> first | exact frame_sub rfl hL | skip) | with_reducible apply frame_foldl | with_reducible apply frame_foldl2 | with_reducible apply frame_foldl1 | split | intro _ | dsimp only)

theorem frame_setVerdict {L : List Piece} {u : State} (x0 : _) (x1 : _) {s : State} (hL : ∀ p, p ∈ ([.funnels] : List Piece) → p ∈ L)  (h : Framed L u s) : Framed L u (setVerdict x0 x1 s) := by
  unfold setVerdict
  repeat (first | with_reducible assumption | (with_reducible apply frame_State_modFunnel <;> first | exact frame_sub rfl hL | skip) | with_reducible apply frame_foldl | with_reducible apply frame_foldl2 | with_reducible apply frame_foldl1 | split | intro _ | dsimp only)

theorem frame_retractRec {L : List Piece} {u : State} (x0 : _) (x1 : _) {s : State} (hL : ∀ p, p ∈ ([.tb, .funnels, .counters] : List Piece) → p ∈ L)  (h : Framed L u s) : Framed L u (retractRec x0 x1 s) := by
  unfold retractRec
  repeat (first | with_reducible assumption | (with_reducible apply frame_retractPins <;> first | exact frame_sub rfl hL | skip) | (with_reducible apply frame_form <;> first | exact frame_sub rfl hL | skip) | (with_reducible apply frame_setVerdict <;> first | exact frame_sub rfl hL | skip) | (with_reducible apply frame_count <;> first | exact frame_sub rfl hL | skip) | with_reducible apply frame_foldl | with_reducible apply frame_foldl2 | with_reducible apply frame_foldl1 | split | intro _ | dsimp only)

theorem frame_confirmRec {L : List Piece} {u : State} (x0 : _) {s : State} (hL : ∀ p, p ∈ ([.funnels, .counters] : List Piece) → p ∈ L)  (h : Framed L u s) : Framed L u (confirmRec x0 s) := by
  unfold confirmRec
  repeat (first | with_reducible assumption | (with_reducible apply frame_setVerdict <;> first | exact frame_sub rfl hL | skip) | (with_reducible apply frame_count <;> first | exact frame_sub rfl hL | skip) | (with_reducible apply frame_form <;> first | exact frame_sub rfl hL | skip) | with_reducible apply frame_foldl | with_reducible apply frame_foldl2 | with_reducible apply frame_foldl1 | split | intro _ | dsimp only)

theorem frame_retractOpen {L : List Piece} {u : State} (x0 : _) (x1 : _) (x2 : _) {s : State} (hL : ∀ p, p ∈ ([.tb, .funnels, .counters] : List Piece) → p ∈ L)  (h : Framed L u s) : Framed L u (retractOpen x0 x1 x2 s) := by
  unfold retractOpen
  repeat (first | with_reducible assumption | (with_reducible apply frame_retractRec <;> first | exact frame_sub rfl hL | skip) | with_reducible apply frame_each | with_reducible apply frame_foldl | with_reducible apply frame_foldl2 | with_reducible apply frame_foldl1 | split | intro _ | dsimp only)

theorem frame_addRecord {L : List Piece} {u : State} (x0 : _) (x1 : _) (x2 : _) (x3 : _) (x4 : _) (x5 : _) (x6 : _) {s : State} (hL : ∀ p, p ∈ ([.draw, .power, .crock, .funnels, .trace] : List Piece) → p ∈ L)  (h : Framed L u s) : Framed L u (addRecord x0 x1 x2 x3 x4 x5 x6 s).2 := by
  unfold addRecord
  repeat (first | with_reducible assumption | (with_reducible apply frame_State_modMirror <;> first | exact frame_sub rfl hL | skip) | (with_reducible apply frame_State_nextDraw <;> first | exact frame_sub rfl hL | skip) | (with_reducible apply frame_raiseDev <;> first | exact frame_sub rfl hL | skip) | with_reducible apply frame_foldl | with_reducible apply frame_foldl2 | with_reducible apply frame_foldl1 | split | intro _ | dsimp only)

theorem frame_note {L : List Piece} {u : State} (x0 : _) (x1 : _) (x2 : _) (x3 : _) (x4 : _) {s : State} (hL : ∀ p, p ∈ ([.draw, .power, .crock, .funnels, .trace] : List Piece) → p ∈ L)  (h : Framed L u s) : Framed L u (note x0 x1 x2 x3 x4 s) := by
  unfold note
  repeat (first | with_reducible assumption | (with_reducible apply frame_addRecord <;> first | exact frame_sub rfl hL | skip) | with_reducible apply frame_foldl | with_reducible apply frame_foldl2 | with_reducible apply frame_foldl1 | split | intro _ | dsimp only)

theorem frame_lateFault {L : List Piece} {u : State} (x0 : _) (x1 : _) (x2 : _) {s : State} (hL : ∀ p, p ∈ ([.power, .tiles, .tb, .funnels, .trace, .counters] : List Piece) → p ∈ L)  (h : Framed L u s) : Framed L u (lateFault x0 x1 x2 s) := by
  unfold lateFault
  repeat (first | with_reducible assumption | (with_reducible apply frame_State_modTile <;> first | exact frame_sub rfl hL | skip) | (with_reducible apply frame_retractRec <;> first | exact frame_sub rfl hL | skip) | (with_reducible apply frame_raiseUnit <;> first | exact frame_sub rfl hL | skip) | with_reducible apply frame_each | with_reducible apply frame_foldl | with_reducible apply frame_foldl2 | with_reducible apply frame_foldl1 | split | intro _ | dsimp only)

theorem frame_raiseRetired {L : List Piece} {u : State} (x0 : _) (x1 : _) (x2 : _) (x3 : _) {s : State} (hL : ∀ p, p ∈ ([.draw, .power, .crock, .funnels, .trace] : List Piece) → p ∈ L)  (h : Framed L u s) : Framed L u (raiseRetired x0 x1 x2 x3 s) := by
  unfold raiseRetired
  repeat (first | with_reducible assumption | (with_reducible apply frame_addRecord <;> first | exact frame_sub rfl hL | skip) | (with_reducible apply frame_raiseUnit <;> first | exact frame_sub rfl hL | skip) | with_reducible apply frame_foldl | with_reducible apply frame_foldl2 | with_reducible apply frame_foldl1 | split | intro _ | dsimp only)

theorem frame_retireTile {L : List Piece} {u : State} (x0 : _) (x1 : _) (x2 : _) (x3 : _) (x4 : _) {s : State} (hL : ∀ p, p ∈ ([.draw, .power, .crock, .tiles, .funnels, .trace] : List Piece) → p ∈ L)  (h : Framed L u s) : Framed L u (retireTile x0 x1 x2 x3 x4 s) := by
  unfold retireTile
  repeat (first | with_reducible assumption | (with_reducible apply frame_State_modTile <;> first | exact frame_sub rfl hL | skip) | (with_reducible apply frame_State_modCal <;> first | exact frame_sub rfl hL | skip) | (with_reducible apply frame_raiseRetired <;> first | exact frame_sub rfl hL | skip) | (with_reducible apply frame_raiseDev <;> first | exact frame_sub rfl hL | skip) | with_reducible apply frame_foldl | with_reducible apply frame_foldl2 | with_reducible apply frame_foldl1 | split | intro _ | dsimp only)

theorem frame_retireColumn {L : List Piece} {u : State} (x0 : _) (x1 : _) (x2 : _) (x3 : _) (x4 : _) (x5 : _) (x6 : _) {s : State} (hL : ∀ p, p ∈ ([.draw, .power, .crock, .tiles, .tb, .funnels, .trace, .counters] : List Piece) → p ∈ L)  (h : Framed L u s) : Framed L u (retireColumn x0 x1 x2 x3 x4 x5 x6 s) := by
  unfold retireColumn
  repeat (first | with_reducible assumption | (with_reducible apply frame_retireTile <;> first | exact frame_sub rfl hL | skip) | (with_reducible apply frame_State_modMirror <;> first | exact frame_sub rfl hL | skip) | (with_reducible apply frame_raiseRetired <;> first | exact frame_sub rfl hL | skip) | (with_reducible apply frame_lateFault <;> first | exact frame_sub rfl hL | skip) | with_reducible apply frame_foldl | with_reducible apply frame_foldl2 | with_reducible apply frame_foldl1 | split | intro _ | dsimp only)

theorem frame_retireCore {L : List Piece} {u : State} (x0 : _) (x1 : _) (x2 : _) (x3 : _) {s : State} (hL : ∀ p, p ∈ ([.draw, .power, .crock, .host, .pre, .cores, .flows, .funnels, .trace, .counters] : List Piece) → p ∈ L)  (h : Framed L u s) : Framed L u (retireCore x0 x1 x2 x3 s) := by
  unfold retireCore
  repeat (first | with_reducible assumption | (with_reducible apply frame_State_modMirror <;> first | exact frame_sub rfl hL | skip) | (with_reducible apply frame_raiseRetired <;> first | exact frame_sub rfl hL | skip) | (with_reducible apply frame_cancelRun <;> first | exact frame_sub rfl hL | skip) | with_reducible apply frame_each | with_reducible apply frame_foldl | with_reducible apply frame_foldl2 | with_reducible apply frame_foldl1 | split | intro _ | dsimp only)

theorem frame_linkFault {L : List Piece} {u : State} (x0 : _) {s : State} (hL : ∀ p, p ∈ ([.ingest] : List Piece) → p ∈ L)  (h : Framed L u s) : Framed L u (linkFault x0 s) := by
  unfold linkFault
  repeat (first | with_reducible assumption | (with_reducible apply frame_State_modLink <;> first | exact frame_sub rfl hL | skip) | with_reducible apply frame_foldl | with_reducible apply frame_foldl2 | with_reducible apply frame_foldl1 | split | intro _ | dsimp only)

theorem frame_retireLane {L : List Piece} {u : State} (x0 : _) (x1 : _) (x2 : _) (x3 : _) {s : State} (hL : ∀ p, p ∈ ([.draw, .power, .crock, .ingest, .funnels, .trace] : List Piece) → p ∈ L)  (h : Framed L u s) : Framed L u (retireLane x0 x1 x2 x3 s) := by
  unfold retireLane
  repeat (first | with_reducible assumption | (with_reducible apply frame_State_modMirror <;> first | exact frame_sub rfl hL | skip) | (with_reducible apply frame_raiseRetired <;> first | exact frame_sub rfl hL | skip) | (with_reducible apply frame_linkFault <;> first | exact frame_sub rfl hL | skip) | with_reducible apply frame_each | with_reducible apply frame_foldl | with_reducible apply frame_foldl2 | with_reducible apply frame_foldl1 | split | intro _ | dsimp only)

theorem frame_retireUnit {L : List Piece} {u : State} (x0 : _) (x1 : _) (x2 : _) (x3 : _) (x4 : _) {s : State} (hL : ∀ p, p ∈ ([.draw, .power, .crock, .host, .pre, .tiles, .cores, .flows, .ingest, .tb, .funnels, .trace, .counters] : List Piece) → p ∈ L)  (h : Framed L u s) : Framed L u (retireUnit x0 x1 x2 x3 x4 s) := by
  unfold retireUnit
  repeat (first | with_reducible assumption | (with_reducible apply frame_retireColumn <;> first | exact frame_sub rfl hL | skip) | (with_reducible apply frame_retireTile <;> first | exact frame_sub rfl hL | skip) | (with_reducible apply frame_retireCore <;> first | exact frame_sub rfl hL | skip) | (with_reducible apply frame_retireLane <;> first | exact frame_sub rfl hL | skip) | with_reducible apply frame_foldl | with_reducible apply frame_foldl2 | with_reducible apply frame_foldl1 | split | intro _ | dsimp only)

theorem frame_suspectTile {L : List Piece} {u : State} (x0 : _) (x1 : _) (x2 : _) (x3 : _) (x4 : _) {s : State} (hL : ∀ p, p ∈ ([.draw, .power, .crock, .tiles, .funnels, .trace] : List Piece) → p ∈ L)  (h : Framed L u s) : Framed L u (suspectTile x0 x1 x2 x3 x4 s) := by
  unfold suspectTile
  repeat (first | with_reducible assumption | (with_reducible apply frame_State_modTile <;> first | exact frame_sub rfl hL | skip) | (with_reducible apply frame_State_modCal <;> first | exact frame_sub rfl hL | skip) | (with_reducible apply frame_addRecord <;> first | exact frame_sub rfl hL | skip) | (with_reducible apply frame_raiseUnit <;> first | exact frame_sub rfl hL | skip) | with_reducible apply frame_foldl | with_reducible apply frame_foldl2 | with_reducible apply frame_foldl1 | split | intro _ | dsimp only)

theorem frame_State_modCoreState {L : List Piece} {u : State} {s : State} (x1 : _) (x2 : _) (hL : ∀ p, p ∈ ([.crock] : List Piece) → p ∈ L)  (h : Framed L u s) : Framed L u (State.modCoreState s x1 x2) := by
  unfold State.modCoreState
  repeat (first | with_reducible assumption | (with_reducible apply frame_State_modMirror <;> first | exact frame_sub rfl hL | skip) | with_reducible apply frame_foldl | with_reducible apply frame_foldl2 | with_reducible apply frame_foldl1 | split | intro _ | dsimp only)

theorem frame_suspectCore {L : List Piece} {u : State} (x0 : _) (x1 : _) (x2 : _) (x3 : _) {s : State} (hL : ∀ p, p ∈ ([.draw, .power, .crock, .cores, .funnels, .trace] : List Piece) → p ∈ L)  (h : Framed L u s) : Framed L u (suspectCore x0 x1 x2 x3 s) := by
  unfold suspectCore
  repeat (first | with_reducible assumption | (with_reducible apply frame_State_modCore <;> first | exact frame_sub rfl hL | skip) | (with_reducible apply frame_State_modCoreState <;> first | exact frame_sub rfl hL | skip) | (with_reducible apply frame_addRecord <;> first | exact frame_sub rfl hL | skip) | (with_reducible apply frame_raiseUnit <;> first | exact frame_sub rfl hL | skip) | with_reducible apply frame_foldl | with_reducible apply frame_foldl2 | with_reducible apply frame_foldl1 | split | intro _ | dsimp only)

theorem frame_attribute_ {L : List Piece} {u : State} (x0 : _) (x1 : _) (x2 : _) (x3 : _) (x4 : _) (x5 : _) (x6 : _) {s : State} (hL : ∀ p, p ∈ ([.draw, .power, .crock, .host, .pre, .tiles, .cores, .flows, .ingest, .tb, .funnels, .trace, .counters] : List Piece) → p ∈ L)  (h : Framed L u s) : Framed L u (attribute_ x0 x1 x2 x3 x4 x5 x6 s) := by
  unfold attribute_
  repeat (first | with_reducible assumption | (with_reducible apply frame_addRecord <;> first | exact frame_sub rfl hL | skip) | (with_reducible apply frame_count <;> first | exact frame_sub rfl hL | skip) | (with_reducible apply frame_raiseUnit <;> first | exact frame_sub rfl hL | skip) | (with_reducible apply frame_retireUnit <;> first | exact frame_sub rfl hL | skip) | (with_reducible apply frame_suspectTile <;> first | exact frame_sub rfl hL | skip) | (with_reducible apply frame_suspectCore <;> first | exact frame_sub rfl hL | skip) | with_reducible apply frame_foldl | with_reducible apply frame_foldl2 | with_reducible apply frame_foldl1 | split | intro _ | dsimp only)

theorem frame_recordOnly {L : List Piece} {u : State} (x0 : _) (x1 : _) (x2 : _) (x3 : _) (x4 : _) (x5 : _) {s : State} (hL : ∀ p, p ∈ ([.draw, .power, .crock, .funnels, .trace] : List Piece) → p ∈ L)  (h : Framed L u s) : Framed L u (recordOnly x0 x1 x2 x3 x4 x5 s) := by
  unfold recordOnly
  repeat (first | with_reducible assumption | (with_reducible apply frame_addRecord <;> first | exact frame_sub rfl hL | skip) | with_reducible apply frame_foldl | with_reducible apply frame_foldl2 | with_reducible apply frame_foldl1 | split | intro _ | dsimp only)

theorem frame_fatal {L : List Piece} {u : State} (x0 : _) {s : State} (hL : ∀ p, p ∈ ([.draw, .power, .crock, .host, .tb, .funnels, .trace, .counters] : List Piece) → p ∈ L)  (h : Framed L u s) : Framed L u (fatal x0 s) := by
  unfold fatal
  repeat (first | with_reducible assumption | (with_reducible apply frame_addRecord <;> first | exact frame_sub rfl hL | skip) | (with_reducible apply frame_State_modPower <;> first | exact frame_sub rfl hL | skip) | (with_reducible apply frame_State_modMirror <;> first | exact frame_sub rfl hL | skip) | (with_reducible apply frame_raiseDev <;> first | exact frame_sub rfl hL | skip) | (with_reducible apply frame_suppressAll <;> first | exact frame_sub rfl hL | skip) | (with_reducible apply frame_State_emit <;> first | exact frame_sub rfl hL | skip) | with_reducible apply frame_foldl | with_reducible apply frame_foldl2 | with_reducible apply frame_foldl1 | split | intro _ | dsimp only)

theorem frame_beginAct {L : List Piece} {u : State} (x0 : _) {s : State} (hL : ∀ p, p ∈ ([.running, .trace] : List Piece) → p ∈ L)  (h : Framed L u s) : Framed L u (beginAct x0 s) := by
  unfold beginAct
  repeat (first | with_reducible assumption | (with_reducible apply frame_traceOnly <;> first | exact frame_sub rfl hL | skip) | with_reducible apply frame_foldl | with_reducible apply frame_foldl2 | with_reducible apply frame_foldl1 | split | intro _ | dsimp only | (with_reducible apply frame_mk; iterate 22 (first | exact Or.inr (hL _ (by decide)) | with_reducible exact Or.inl rfl)))

theorem frame_endAct {L : List Piece} {u : State} (x0 : _) {s : State} (hL : ∀ p, p ∈ ([.running, .trace] : List Piece) → p ∈ L)  (h : Framed L u s) : Framed L u (endAct x0 s) := by
  unfold endAct
  repeat (first | with_reducible assumption | (with_reducible apply frame_traceOnly <;> first | exact frame_sub rfl hL | skip) | with_reducible apply frame_foldl | with_reducible apply frame_foldl2 | with_reducible apply frame_foldl1 | split | intro _ | dsimp only | (with_reducible apply frame_mk; iterate 22 (first | exact Or.inr (hL _ (by decide)) | with_reducible exact Or.inl rfl)))

theorem frame_askAuto {L : List Piece} {u : State} (x0 : _) {s : State} (hL : ∀ p, p ∈ ([.running, .waiting, .trace, .counters] : List Piece) → p ∈ L)  (h : Framed L u s) : Framed L u (askAuto x0 s) := by
  unfold askAuto
  repeat (first | with_reducible assumption | (with_reducible apply frame_count <;> first | exact frame_sub rfl hL | skip) | (with_reducible apply frame_beginAct <;> first | exact frame_sub rfl hL | skip) | with_reducible apply frame_foldl | with_reducible apply frame_foldl2 | with_reducible apply frame_foldl1 | split | intro _ | dsimp only | (with_reducible apply frame_mk; iterate 22 (first | exact Or.inr (hL _ (by decide)) | with_reducible exact Or.inl rfl)))

theorem frame_queueAct {L : List Piece} {u : State} (x0 : _) {s : State} (hL : ∀ p, p ∈ ([.running, .waiting, .trace] : List Piece) → p ∈ L)  (h : Framed L u s) : Framed L u (queueAct x0 s) := by
  unfold queueAct
  repeat (first | with_reducible assumption | (with_reducible apply frame_beginAct <;> first | exact frame_sub rfl hL | skip) | with_reducible apply frame_foldl | with_reducible apply frame_foldl2 | with_reducible apply frame_foldl1 | split | intro _ | dsimp only | (with_reducible apply frame_mk; iterate 22 (first | exact Or.inr (hL _ (by decide)) | with_reducible exact Or.inl rfl)))

theorem frame_askCmd {L : List Piece} {u : State} (x0 : _) (x1 : _) {s : State} (hL : ∀ p, p ∈ ([.host, .pre, .funnels, .running, .waiting, .trace, .counters] : List Piece) → p ∈ L)  (h : Framed L u s) : Framed L u (askCmd x0 x1 s) := by
  unfold askCmd
  repeat (first | with_reducible assumption | (with_reducible apply frame_setWait <;> first | exact frame_sub rfl hL | skip) | (with_reducible apply frame_reply <;> first | exact frame_sub rfl hL | skip) | (with_reducible apply frame_queueAct <;> first | exact frame_sub rfl hL | skip) | with_reducible apply frame_each | with_reducible apply frame_foldl | with_reducible apply frame_foldl2 | with_reducible apply frame_foldl1 | split | intro _ | dsimp only)

theorem frame_finishIdle {L : List Piece} {u : State} (x0 : _) (x1 : _) (x2 : _) {s : State} (hL : ∀ p, p ∈ ([.host, .pre, .funnels, .trace, .counters] : List Piece) → p ∈ L)  (h : Framed L u s) : Framed L u (finishIdle x0 x1 x2 s) := by
  unfold finishIdle
  repeat (first | with_reducible assumption | (with_reducible apply frame_finish <;> first | exact frame_sub rfl hL | skip) | with_reducible apply frame_foldl | with_reducible apply frame_foldl2 | with_reducible apply frame_foldl1 | split | intro _ | dsimp only)

theorem frame_foldAges {L : List Piece} {u : State} {s : State} (hL : ∀ p, p ∈ ([.crock] : List Piece) → p ∈ L)  (h : Framed L u s) : Framed L u (foldAges s) := by
  unfold foldAges
  repeat (first | with_reducible assumption | (with_reducible apply frame_State_modMirror <;> first | exact frame_sub rfl hL | skip) | (with_reducible apply frame_State_modCrock <;> first | exact frame_sub rfl hL | skip) | with_reducible apply frame_foldl | with_reducible apply frame_foldl2 | with_reducible apply frame_foldl1 | split | intro _ | dsimp only)

theorem frame_restartAge {L : List Piece} {u : State} (x0 : _) (x1 : _) {s : State} (hL : ∀ p, p ∈ ([.crock] : List Piece) → p ∈ L)  (h : Framed L u s) : Framed L u (restartAge x0 x1 s) := by
  unfold restartAge
  repeat (first | with_reducible assumption | (with_reducible apply frame_State_modCal <;> first | exact frame_sub rfl hL | skip) | (with_reducible apply frame_foldAges <;> first | exact frame_sub rfl hL | skip) | with_reducible apply frame_foldl | with_reducible apply frame_foldl2 | with_reducible apply frame_foldl1 | split | intro _ | dsimp only)

theorem frame_refDue {L : List Piece} {u : State} (x0 : _) (x1 : _) (x2 : _) {s : State} (hL : ∀ p, p ∈ ([.tiles, .running, .waiting, .trace, .counters] : List Piece) → p ∈ L)  (h : Framed L u s) : Framed L u (refDue x0 x1 x2 s) := by
  unfold refDue
  repeat (first | with_reducible assumption | (with_reducible apply frame_State_modTile <;> first | exact frame_sub rfl hL | skip) | (with_reducible apply frame_askAuto <;> first | exact frame_sub rfl hL | skip) | with_reducible apply frame_foldl | with_reducible apply frame_foldl2 | with_reducible apply frame_foldl1 | split | intro _ | dsimp only)

theorem frame_refreshCheck {L : List Piece} {u : State} (x0 : _) (x1 : _) {s : State} (hL : ∀ p, p ∈ ([.power, .tiles, .funnels, .running, .waiting, .trace, .counters] : List Piece) → p ∈ L)  (h : Framed L u s) : Framed L u (refreshCheck x0 x1 s) := by
  unfold refreshCheck
  repeat (first | with_reducible assumption | (with_reducible apply frame_State_modTile <;> first | exact frame_sub rfl hL | skip) | (with_reducible apply frame_raiseUnit <;> first | exact frame_sub rfl hL | skip) | (with_reducible apply frame_askAuto <;> first | exact frame_sub rfl hL | skip) | with_reducible apply frame_foldl | with_reducible apply frame_foldl2 | with_reducible apply frame_foldl1 | split | intro _ | dsimp only)

theorem frame_applySample {L : List Piece} {u : State} (x0 : _) (x1 : _) (x2 : _) {s : State} (hL : ∀ p, p ∈ ([.draw, .power, .crock, .host, .pre, .tiles, .cores, .flows, .ingest, .tb, .funnels, .running, .waiting, .trace, .counters] : List Piece) → p ∈ L)  (h : Framed L u s) : Framed L u (applySample x0 x1 x2 s) := by
  unfold applySample
  repeat (first | with_reducible assumption | (with_reducible apply frame_attribute_ <;> first | exact frame_sub rfl hL | skip) | (with_reducible apply frame_State_modTile <;> first | exact frame_sub rfl hL | skip) | (with_reducible apply frame_State_modCal <;> first | exact frame_sub rfl hL | skip) | (with_reducible apply frame_refreshCheck <;> first | exact frame_sub rfl hL | skip) | with_reducible apply frame_foldl | with_reducible apply frame_foldl2 | with_reducible apply frame_foldl1 | split | intro _ | dsimp only)

theorem frame_applyCal {L : List Piece} {u : State} (x0 : _) (x1 : _) (x2 : _) (x3 : _) {s : State} (hL : ∀ p, p ∈ ([.tiles] : List Piece) → p ∈ L)  (h : Framed L u s) : Framed L u (applyCal x0 x1 x2 x3 s) := by
  unfold applyCal
  repeat (first | with_reducible assumption | (with_reducible apply frame_State_modTile <;> first | exact frame_sub rfl hL | skip) | with_reducible apply frame_foldl | with_reducible apply frame_foldl2 | with_reducible apply frame_foldl1 | split | intro _ | dsimp only)

theorem frame_calFaults {L : List Piece} {u : State} (x0 : _) (x1 : _) (x2 : _) (x3 : _) {s : State} (hL : ∀ p, p ∈ ([.draw, .power, .crock, .host, .pre, .tiles, .cores, .flows, .ingest, .tb, .funnels, .trace, .counters] : List Piece) → p ∈ L)  (h : Framed L u s) : Framed L u (calFaults x0 x1 x2 x3 s) := by
  unfold calFaults
  repeat (first | with_reducible assumption | (with_reducible apply frame_attribute_ <;> first | exact frame_sub rfl hL | skip) | with_reducible apply frame_each | with_reducible apply frame_foldl | with_reducible apply frame_foldl2 | with_reducible apply frame_foldl1 | split | intro _ | dsimp only)

theorem frame_katJudge {L : List Piece} {u : State} (x0 : _) (x1 : _) (x2 : _) (x3 : _) (x4 : _) (x5 : _) {s : State} (hL : ∀ p, p ∈ ([.draw, .power, .crock, .host, .pre, .tiles, .cores, .flows, .ingest, .tb, .funnels, .trace, .counters] : List Piece) → p ∈ L)  (h : Framed L u s) : Framed L u (katJudge x0 x1 x2 x3 x4 x5 s) := by
  unfold katJudge
  repeat (first | with_reducible assumption | (with_reducible apply frame_count <;> first | exact frame_sub rfl hL | skip) | (with_reducible apply frame_attribute_ <;> first | exact frame_sub rfl hL | skip) | with_reducible apply frame_each | with_reducible apply frame_foldl | with_reducible apply frame_foldl2 | with_reducible apply frame_foldl1 | split | intro _ | dsimp only)

theorem frame_cleanTest {L : List Piece} {u : State} (x0 : _) (x1 : _) {s : State} (hL : ∀ p, p ∈ ([.draw, .power, .crock, .tiles, .funnels, .trace] : List Piece) → p ∈ L)  (h : Framed L u s) : Framed L u (cleanTest x0 x1 s) := by
  unfold cleanTest
  repeat (first | with_reducible assumption | (with_reducible apply frame_State_modTile <;> first | exact frame_sub rfl hL | skip) | (with_reducible apply frame_State_modCal <;> first | exact frame_sub rfl hL | skip) | (with_reducible apply frame_addRecord <;> first | exact frame_sub rfl hL | skip) | (with_reducible apply frame_raiseUnit <;> first | exact frame_sub rfl hL | skip) | with_reducible apply frame_foldl | with_reducible apply frame_foldl2 | with_reducible apply frame_foldl1 | split | intro _ | dsimp only)

theorem frame_lfsrAdvance {L : List Piece} {u : State} (x0 : _) {s : State} (hL : ∀ p, p ∈ ([.cores] : List Piece) → p ∈ L)  (h : Framed L u s) : Framed L u (lfsrAdvance x0 s) := by
  unfold lfsrAdvance
  repeat (first | with_reducible assumption | (with_reducible apply frame_State_modCore <;> first | exact frame_sub rfl hL | skip) | with_reducible apply frame_foldl | with_reducible apply frame_foldl2 | with_reducible apply frame_foldl1 | split | intro _ | dsimp only)

theorem frame_latchCell {L : List Piece} {u : State} (x0 : _) (x1 : _) (x2 : _) (x3 : _) (x4 : _) {s : State} (hL : ∀ p, p ∈ ([.crock] : List Piece) → p ∈ L)  (h : Framed L u s) : FramedOption L u (latchCell x0 x1 x2 x3 x4 s) := by
  unfold latchCell
  repeat (first | with_reducible assumption | (with_reducible apply frame_State_modMirror <;> first | exact frame_sub rfl hL | skip) | with_reducible exact frame_none | with_reducible apply frame_some | with_reducible apply frame_foldl | with_reducible apply frame_foldl2 | with_reducible apply frame_foldl1 | split | intro _ | dsimp only)

theorem frame_askErase {L : List Piece} {u : State} (x0 : _) (x1 : _) {s : State} (hL : ∀ p, p ∈ ([.tiles, .running, .waiting, .trace, .counters] : List Piece) → p ∈ L)  (h : Framed L u s) : Framed L u (askErase x0 x1 s) := by
  unfold askErase
  repeat (first | with_reducible assumption | (with_reducible apply frame_State_modTile <;> first | exact frame_sub rfl hL | skip) | (with_reducible apply frame_askAuto <;> first | exact frame_sub rfl hL | skip) | with_reducible apply frame_foldl | with_reducible apply frame_foldl2 | with_reducible apply frame_foldl1 | split | intro _ | dsimp only)

theorem frame_blankTile {L : List Piece} {u : State} (x0 : _) (x1 : _) {s : State} (hL : ∀ p, p ∈ ([.crock, .tiles] : List Piece) → p ∈ L)  (h : Framed L u s) : Framed L u (blankTile x0 x1 s) := by
  unfold blankTile
  repeat (first | with_reducible assumption | (with_reducible apply frame_State_modTile <;> first | exact frame_sub rfl hL | skip) | (with_reducible apply frame_State_modCal <;> first | exact frame_sub rfl hL | skip) | with_reducible apply frame_foldl | with_reducible apply frame_foldl2 | with_reducible apply frame_foldl1 | split | intro _ | dsimp only)

theorem frame_modModel {L : List Piece} {u : State} (x0 : _) (x1 : _) (x2 : _) {s : State} (hL : ∀ p, p ∈ ([.pre] : List Piece) → p ∈ L)  (h : Framed L u s) : Framed L u (modModel x0 x1 x2 s) := by
  unfold modModel
  repeat (first | with_reducible assumption | (with_reducible apply frame_State_modPre <;> first | exact frame_sub rfl hL | skip) | with_reducible apply frame_foldl | with_reducible apply frame_foldl2 | with_reducible apply frame_foldl1 | split | intro _ | dsimp only)

theorem frame_modelDone {L : List Piece} {u : State} (x0 : _) (x1 : _) {s : State} (hL : ∀ p, p ∈ ([.host, .pre, .funnels, .trace, .counters] : List Piece) → p ∈ L)  (h : Framed L u s) : Framed L u (modelDone x0 x1 s) := by
  unfold modelDone
  repeat (first | with_reducible assumption | (with_reducible apply frame_finish <;> first | exact frame_sub rfl hL | skip) | (with_reducible apply frame_modModel <;> first | exact frame_sub rfl hL | skip) | with_reducible apply frame_foldl | with_reducible apply frame_foldl2 | with_reducible apply frame_foldl1 | split | intro _ | dsimp only)

theorem frame_eraseOwed {L : List Piece} {u : State} (x0 : _) (x1 : _) {s : State} (hL : ∀ p, p ∈ ([.tiles, .running, .waiting, .trace, .counters] : List Piece) → p ∈ L)  (h : Framed L u s) : Framed L u (eraseOwed x0 x1 s) := by
  unfold eraseOwed
  repeat (first | with_reducible assumption | (with_reducible apply frame_askErase <;> first | exact frame_sub rfl hL | skip) | with_reducible apply frame_foldl | with_reducible apply frame_foldl2 | with_reducible apply frame_foldl1 | split | intro _ | dsimp only)

theorem frame_attachDone {L : List Piece} {u : State} (x0 : _) (x1 : _) (x2 : _) {s : State} (hL : ∀ p, p ∈ ([.host, .pre, .tiles, .funnels, .running, .trace, .counters] : List Piece) → p ∈ L)  (h : Framed L u s) : Framed L u (attachDone x0 x1 x2 s) := by
  unfold attachDone
  repeat (first | with_reducible assumption | (with_reducible apply frame_State_modTile <;> first | exact frame_sub rfl hL | skip) | (with_reducible apply frame_endAct <;> first | exact frame_sub rfl hL | skip) | (with_reducible apply frame_modelDone <;> first | exact frame_sub rfl hL | skip) | (with_reducible apply frame_modModel <;> first | exact frame_sub rfl hL | skip) | with_reducible apply frame_foldl | with_reducible apply frame_foldl2 | with_reducible apply frame_foldl1 | split | intro _ | dsimp only)

theorem frame_jobReply {L : List Piece} {u : State} (x0 : _) (x1 : _) (x2 : _) (x3 : _) (x4 : _) {s : State} (hL : ∀ p, p ∈ ([.host, .pre, .tiles, .funnels, .running, .waiting, .trace, .counters] : List Piece) → p ∈ L)  (h : Framed L u s) : Framed L u (jobReply x0 x1 x2 x3 x4 s) := by
  unfold jobReply
  repeat (first | with_reducible assumption | (with_reducible apply frame_modelDone <;> first | exact frame_sub rfl hL | skip) | (with_reducible apply frame_modModel <;> first | exact frame_sub rfl hL | skip) | (with_reducible apply frame_eraseOwed <;> first | exact frame_sub rfl hL | skip) | (with_reducible apply frame_finish <;> first | exact frame_sub rfl hL | skip) | (with_reducible apply frame_askErase <;> first | exact frame_sub rfl hL | skip) | (with_reducible apply frame_finishOpt <;> first | exact frame_sub rfl hL | skip) | with_reducible apply frame_foldl | with_reducible apply frame_foldl2 | with_reducible apply frame_foldl1 | split | intro _ | dsimp only)

theorem frame_verified {L : List Piece} {u : State} (x0 : _) (x1 : _) (x2 : _) (x3 : _) (x4 : _) (x5 : _) (x6 : _) {s : State} (hL : ∀ p, p ∈ ([.crock, .tiles] : List Piece) → p ∈ L)  (h : Framed L u s) : Framed L u (verified x0 x1 x2 x3 x4 x5 x6 s) := by
  unfold verified
  repeat (first | with_reducible assumption | (with_reducible apply frame_restartAge <;> first | exact frame_sub rfl hL | skip) | (with_reducible apply frame_applyCal <;> first | exact frame_sub rfl hL | skip) | (with_reducible apply frame_State_modCal <;> first | exact frame_sub rfl hL | skip) | (with_reducible apply frame_State_modTile <;> first | exact frame_sub rfl hL | skip) | with_reducible apply frame_foldl | with_reducible apply frame_foldl2 | with_reducible apply frame_foldl1 | split | intro _ | dsimp only)

theorem frame_restored {L : List Piece} {u : State} (x0 : _) {s : State} (hL : ∀ p, p ∈ ([.draw, .power, .crock, .funnels, .trace] : List Piece) → p ∈ L)  (h : Framed L u s) : Framed L u (restored x0 s) := by
  unfold restored
  repeat (first | with_reducible assumption | (with_reducible apply frame_addRecord <;> first | exact frame_sub rfl hL | skip) | (with_reducible apply frame_raiseUnit <;> first | exact frame_sub rfl hL | skip) | with_reducible apply frame_foldl | with_reducible apply frame_foldl2 | with_reducible apply frame_foldl1 | split | intro _ | dsimp only)

theorem frame_restoring {L : List Piece} {u : State} (x0 : _) (x1 : _) (x2 : _) {s : State} (hL : ∀ p, p ∈ ([.crock] : List Piece) → p ∈ L)  (h : Framed L u s) : Framed L u (restoring x0 x1 x2 s) := by
  unfold restoring
  repeat (first | with_reducible assumption | (with_reducible apply frame_State_modMirror <;> first | exact frame_sub rfl hL | skip) | with_reducible apply frame_foldl | with_reducible apply frame_foldl2 | with_reducible apply frame_foldl1 | split | intro _ | dsimp only)

theorem frame_restoreFailed {L : List Piece} {u : State} (x0 : _) (x1 : _) (x2 : _) {s : State} (hL : ∀ p, p ∈ ([.crock, .tiles] : List Piece) → p ∈ L)  (h : Framed L u s) : Framed L u (restoreFailed x0 x1 x2 s) := by
  unfold restoreFailed
  repeat (first | with_reducible assumption | (with_reducible apply frame_State_modCal <;> first | exact frame_sub rfl hL | skip) | (with_reducible apply frame_State_modTile <;> first | exact frame_sub rfl hL | skip) | with_reducible apply frame_foldl | with_reducible apply frame_foldl2 | with_reducible apply frame_foldl1 | split | intro _ | dsimp only)

theorem frame_programDone {L : List Piece} {u : State} (x0 : _) (x1 : _) (x2 : _) (x3 : _) (x4 : _) (x5 : _) (x6 : _) {s : State} (hL : ∀ p, p ∈ ([.draw, .power, .crock, .host, .pre, .tiles, .cores, .flows, .ingest, .tb, .funnels, .running, .waiting, .trace, .counters] : List Piece) → p ∈ L)  (h : Framed L u s) : Framed L u (programDone x0 x1 x2 x3 x4 x5 x6 s) := by
  have hlat : ∀ w cells t, Framed L u t → Framed L u (latchAll x0 x1 w cells t).s := by
    intro w cells t ht
    have ha : ∀ (cs : List (Nat × Nat)) (a : Latching), Framed L u a.s → Framed L u (cs.foldl (fun (a : Latching) x =>
        if a.full || a.s.latched x0 x1 x.1 x.2 || 512 ≤ x.1 || 536 ≤ x.2 then a
        else match latchCell x0 x1 x.1 x.2 0 a.s with
          | some u => { s := u, cells := a.cells + 1, fail := a.fail || decide (512 ≤ x.2), full := false }
          | none => { a with full := true }) a).s := by
      intro cs
      induction cs with
      | nil => intro a h; exact h
      | cons c r ih =>
        intro a h
        refine ih _ ?_
        dsimp only
        split
        · exact h
        · split
          · rename_i he
            exact (frame_latchCell x0 x1 c.1 c.2 0 (frame_sub rfl hL) h).it _ he
          · exact h
    have hb : ∀ (cs : List Nat) (b : Latching), Framed L u b.s → Framed L u (cs.foldl (fun (b : Latching) col =>
        if b.s.overBudget x0 x1 col w && !b.s.colRetired x0 x1 col then
          { b with s := attribute_ (latchUnit x0 x1 col) 5 2 noWork 0 true false b.s, fail := true }
        else b) b).s := by
      intro cs
      induction cs with
      | nil => intro a h; exact h
      | cons c r ih =>
        intro a h
        refine ih _ ?_
        dsimp only
        split
        · dsimp only
          exact frame_attribute_ _ _ _ _ _ _ _ (frame_sub rfl hL) h
        · exact h
    have h2 := fun cols => hb cols _ (ha cells { s := t, cells := 0, fail := false, full := false } ht)
    unfold latchAll
    dsimp only
    split
    · dsimp only
      exact frame_attribute_ _ _ _ _ _ _ _ (frame_sub rfl hL) (h2 _)
    · exact h2 _
  have h0 : Framed L u ((restoring x0 x1 x2 s).modTile x0 x1 (takeRecord x2)) :=
    frame_State_modTile _ _ _ (frame_sub rfl hL) (frame_restoring _ _ _ (frame_sub rfl hL) h)
  have hl := hlat (jobWeights (s.tile x0 x1) x2) x3 _ h0
  have hjr : ∀ a b c d e t, Framed L u t → Framed L u (jobReply a b c d e t) := fun _ _ _ _ _ _ ht => frame_jobReply _ _ _ _ _ (frame_sub rfl hL) ht
  have hbl : ∀ a b t, Framed L u t → Framed L u (blankTile a b t) := fun _ _ _ ht => frame_blankTile _ _ (frame_sub rfl hL) ht
  have hrf : ∀ a b c t, Framed L u t → Framed L u (restoreFailed a b c t) := fun _ _ _ _ ht => frame_restoreFailed _ _ _ (frame_sub rfl hL) ht
  have hat : ∀ a b c d e f g t, Framed L u t → Framed L u (attribute_ a b c d e f g t) := fun _ _ _ _ _ _ _ _ ht => frame_attribute_ _ _ _ _ _ _ _ (frame_sub rfl hL) ht
  have hmt : ∀ a b c t, Framed L u t → Framed L u (State.modTile t a b c) := fun _ _ _ _ ht => frame_State_modTile _ _ _ (frame_sub rfl hL) ht
  have hre : ∀ a t, Framed L u t → Framed L u (restored a t) := fun _ _ ht => frame_restored _ (frame_sub rfl hL) ht
  have hve : ∀ a b c d e f g t, Framed L u t → Framed L u (verified a b c d e f g t) := fun _ _ _ _ _ _ _ _ ht => frame_verified _ _ _ _ _ _ _ (frame_sub rfl hL) ht
  unfold programDone
  dsimp only
  repeat (first | with_reducible assumption | with_reducible apply hjr | with_reducible apply hbl | with_reducible apply hrf | with_reducible apply hat | with_reducible apply hmt | with_reducible apply hre | with_reducible apply hve | with_reducible apply frame_each | split | intro _)

theorem frame_askScan {L : List Piece} {u : State} (x0 : _) (x1 : _) (x2 : _) (x3 : _) {s : State} (hL : ∀ p, p ∈ ([.tiles, .running, .waiting, .trace, .counters] : List Piece) → p ∈ L)  (h : Framed L u s) : Framed L u (askScan x0 x1 x2 x3 s) := by
  unfold askScan
  repeat (first | with_reducible assumption | (with_reducible apply frame_askAuto <;> first | exact frame_sub rfl hL | skip) | (with_reducible apply frame_State_modTile <;> first | exact frame_sub rfl hL | skip) | with_reducible apply frame_foldl | with_reducible apply frame_foldl2 | with_reducible apply frame_foldl1 | split | intro _ | dsimp only)

theorem frame_scanLatch {L : List Piece} {u : State} (x0 : _) (x1 : _) (x2 : _) (x3 : _) {s : State} (hL : ∀ p, p ∈ ([.draw, .power, .crock, .host, .pre, .tiles, .cores, .flows, .ingest, .tb, .funnels, .trace, .counters] : List Piece) → p ∈ L)  (h : Framed L u s) : Framed L u (scanLatch x0 x1 x2 x3 s) := by
  unfold scanLatch
  repeat (first | with_reducible assumption | (with_reducible apply frame_attribute_ <;> first | exact frame_sub rfl hL | skip) | (refine FramedOption.it ?_ _ (by with_reducible assumption); with_reducible apply frame_latchCell <;> first | exact frame_sub rfl hL | skip) | with_reducible apply frame_foldl | with_reducible apply frame_foldl2 | with_reducible apply frame_foldl1 | split | intro _ | dsimp only)

theorem frame_scanDone {L : List Piece} {u : State} (x0 : _) (x1 : _) (x2 : _) (x3 : _) (x4 : _) {s : State} (hL : ∀ p, p ∈ ([.draw, .power, .crock, .host, .pre, .tiles, .cores, .flows, .ingest, .tb, .funnels, .running, .waiting, .trace, .counters] : List Piece) → p ∈ L)  (h : Framed L u s) : Framed L u (scanDone x0 x1 x2 x3 x4 s) := by
  unfold scanDone
  repeat (first | with_reducible assumption | (with_reducible apply frame_State_modTile <;> first | exact frame_sub rfl hL | skip) | (with_reducible apply frame_attribute_ <;> first | exact frame_sub rfl hL | skip) | (with_reducible apply frame_askAuto <;> first | exact frame_sub rfl hL | skip) | (with_reducible apply frame_scanLatch <;> first | exact frame_sub rfl hL | skip) | (with_reducible apply frame_lateFault <;> first | exact frame_sub rfl hL | skip) | with_reducible apply frame_each | with_reducible apply frame_foldl | with_reducible apply frame_foldl2 | with_reducible apply frame_foldl1 | split | intro _ | dsimp only)

theorem frame_execRefSampleDue {L : List Piece} {u : State} (x0 : _) (x1 : _) {s : State} (hL : ∀ p, p ∈ ([.tiles, .running, .waiting, .trace, .counters] : List Piece) → p ∈ L)  (h : Framed L u s) : FramedAnswer L u (execRefSampleDue x0 x1 s) := by
  unfold execRefSampleDue
  repeat (first | with_reducible assumption | (with_reducible apply frame_refDue <;> first | exact frame_sub rfl hL | skip) | with_reducible apply frame_ifDue | with_reducible exact frame_fault | with_reducible apply frame_next | with_reducible apply frame_foldl | with_reducible apply frame_foldl2 | with_reducible apply frame_foldl1 | split | intro _ | dsimp only)

theorem frame_execRefSampleDone {L : List Piece} {u : State} (x0 : _) (x1 : _) (x2 : _) {s : State} (hL : ∀ p, p ∈ ([.draw, .power, .crock, .host, .pre, .tiles, .cores, .flows, .ingest, .tb, .funnels, .running, .waiting, .trace, .counters] : List Piece) → p ∈ L)  (h : Framed L u s) : FramedAnswer L u (execRefSampleDone x0 x1 x2 s) := by
  unfold execRefSampleDone
  repeat (first | with_reducible assumption | (with_reducible apply frame_finishIdle <;> first | exact frame_sub rfl hL | skip) | (with_reducible apply frame_applySample <;> first | exact frame_sub rfl hL | skip) | (with_reducible apply frame_endAct <;> first | exact frame_sub rfl hL | skip) | with_reducible apply frame_ifDue | with_reducible exact frame_fault | with_reducible apply frame_next | with_reducible apply frame_foldl | with_reducible apply frame_foldl2 | with_reducible apply frame_foldl1 | split | intro _ | dsimp only)

theorem frame_feedTile {L : List Piece} {u : State} (x0 : _) (x1 : _) (x2 : _) {s : State} (hL : ∀ p, p ∈ ([.tiles, .running, .waiting, .trace, .counters] : List Piece) → p ∈ L)  (h : Framed L u s) : Framed L u (feedTile x0 x1 x2 s) := by
  unfold feedTile
  repeat (first | with_reducible assumption | (with_reducible apply frame_State_modTile <;> first | exact frame_sub rfl hL | skip) | (with_reducible apply frame_refDue <;> first | exact frame_sub rfl hL | skip) | with_reducible apply frame_foldl | with_reducible apply frame_foldl2 | with_reducible apply frame_foldl1 | split | intro _ | dsimp only)

theorem frame_execGainFeedforward {L : List Piece} {u : State} (x0 : _) (x1 : _) {s : State} (hL : ∀ p, p ∈ ([.tiles, .running, .waiting, .trace, .counters] : List Piece) → p ∈ L)  (h : Framed L u s) : FramedAnswer L u (execGainFeedforward x0 x1 s) := by
  unfold execGainFeedforward
  repeat (first | with_reducible assumption | (with_reducible apply frame_feedTile <;> first | exact frame_sub rfl hL | skip) | with_reducible apply frame_each | with_reducible apply frame_ifDue | with_reducible exact frame_fault | with_reducible apply frame_next | with_reducible apply frame_foldl | with_reducible apply frame_foldl2 | with_reducible apply frame_foldl1 | split | intro _ | dsimp only)

theorem frame_execCalWithhold {L : List Piece} {u : State} (x0 : _) (x1 : _) {s : State} (hL : ∀ p, p ∈ ([.tiles] : List Piece) → p ∈ L)  (h : Framed L u s) : FramedAnswer L u (execCalWithhold x0 x1 s) := by
  unfold execCalWithhold
  repeat (first | with_reducible assumption | (with_reducible apply frame_State_modTile <;> first | exact frame_sub rfl hL | skip) | with_reducible apply frame_ifDue | with_reducible exact frame_fault | with_reducible apply frame_next | with_reducible apply frame_foldl | with_reducible apply frame_foldl2 | with_reducible apply frame_foldl1 | split | intro _ | dsimp only)

theorem frame_execConvCalDue {L : List Piece} {u : State} (x0 : _) (x1 : _) {s : State} (hL : ∀ p, p ∈ ([.tiles, .running, .waiting, .trace, .counters] : List Piece) → p ∈ L)  (h : Framed L u s) : FramedAnswer L u (execConvCalDue x0 x1 s) := by
  unfold execConvCalDue
  repeat (first | with_reducible assumption | (with_reducible apply frame_askAuto <;> first | exact frame_sub rfl hL | skip) | (with_reducible apply frame_State_modTile <;> first | exact frame_sub rfl hL | skip) | with_reducible apply frame_ifDue | with_reducible exact frame_fault | with_reducible apply frame_next | with_reducible apply frame_foldl | with_reducible apply frame_foldl2 | with_reducible apply frame_foldl1 | split | intro _ | dsimp only)

theorem frame_convCalDone {L : List Piece} {u : State} (x0 : _) (x1 : _) (x2 : _) (x3 : _) (x4 : _) (x5 : _) {s : State} (hL : ∀ p, p ∈ ([.draw, .power, .crock, .host, .pre, .tiles, .cores, .flows, .ingest, .tb, .funnels, .running, .trace, .counters] : List Piece) → p ∈ L)  (h : Framed L u s) : Framed L u (convCalDone x0 x1 x2 x3 x4 x5 s) := by
  unfold convCalDone
  repeat (first | with_reducible assumption | (with_reducible apply frame_applyCal <;> first | exact frame_sub rfl hL | skip) | (with_reducible apply frame_endAct <;> first | exact frame_sub rfl hL | skip) | (with_reducible apply frame_finishIdle <;> first | exact frame_sub rfl hL | skip) | (with_reducible apply frame_calFaults <;> first | exact frame_sub rfl hL | skip) | with_reducible apply frame_foldl | with_reducible apply frame_foldl2 | with_reducible apply frame_foldl1 | split | intro _ | dsimp only)

theorem frame_execConvCalDone {L : List Piece} {u : State} (x0 : _) (x1 : _) (x2 : _) (x3 : _) (x4 : _) {s : State} (hL : ∀ p, p ∈ ([.draw, .power, .crock, .host, .pre, .tiles, .cores, .flows, .ingest, .tb, .funnels, .running, .trace, .counters] : List Piece) → p ∈ L)  (h : Framed L u s) : FramedAnswer L u (execConvCalDone x0 x1 x2 x3 x4 s) := by
  unfold execConvCalDone
  repeat (first | with_reducible assumption | (with_reducible apply frame_convCalDone <;> first | exact frame_sub rfl hL | skip) | with_reducible apply frame_ifDue | with_reducible exact frame_fault | with_reducible apply frame_next | with_reducible apply frame_foldl | with_reducible apply frame_foldl2 | with_reducible apply frame_foldl1 | split | intro _ | dsimp only)

theorem frame_execTileTestDue {L : List Piece} {u : State} (x0 : _) (x1 : _) {s : State} (hL : ∀ p, p ∈ ([.tiles, .running, .waiting, .trace, .counters] : List Piece) → p ∈ L)  (h : Framed L u s) : FramedAnswer L u (execTileTestDue x0 x1 s) := by
  unfold execTileTestDue
  repeat (first | with_reducible assumption | (with_reducible apply frame_askAuto <;> first | exact frame_sub rfl hL | skip) | (with_reducible apply frame_State_modTile <;> first | exact frame_sub rfl hL | skip) | with_reducible apply frame_ifDue | with_reducible exact frame_fault | with_reducible apply frame_next | with_reducible apply frame_foldl | with_reducible apply frame_foldl2 | with_reducible apply frame_foldl1 | split | intro _ | dsimp only)

theorem frame_tileTestDone {L : List Piece} {u : State} (x0 : _) (x1 : _) (x2 : _) (x3 : _) (x4 : _) {s : State} (hL : ∀ p, p ∈ ([.draw, .power, .crock, .host, .pre, .tiles, .cores, .flows, .ingest, .tb, .funnels, .running, .trace, .counters] : List Piece) → p ∈ L)  (h : Framed L u s) : Framed L u (tileTestDone x0 x1 x2 x3 x4 s) := by
  unfold tileTestDone
  repeat (first | with_reducible assumption | (with_reducible apply frame_endAct <;> first | exact frame_sub rfl hL | skip) | (with_reducible apply frame_count <;> first | exact frame_sub rfl hL | skip) | (with_reducible apply frame_finishIdle <;> first | exact frame_sub rfl hL | skip) | (with_reducible apply frame_lfsrAdvance <;> first | exact frame_sub rfl hL | skip) | (with_reducible apply frame_katJudge <;> first | exact frame_sub rfl hL | skip) | (with_reducible apply frame_State_modTile <;> first | exact frame_sub rfl hL | skip) | (with_reducible apply frame_cleanTest <;> first | exact frame_sub rfl hL | skip) | (with_reducible apply frame_State_modCore <;> first | exact frame_sub rfl hL | skip) | (with_reducible apply frame_finish <;> first | exact frame_sub rfl hL | skip) | with_reducible apply frame_foldl | with_reducible apply frame_foldl2 | with_reducible apply frame_foldl1 | split | intro _ | dsimp only)

theorem frame_execTileTestDone {L : List Piece} {u : State} (x0 : _) (x1 : _) (x2 : _) (x3 : _) {s : State} (hL : ∀ p, p ∈ ([.draw, .power, .crock, .host, .pre, .tiles, .cores, .flows, .ingest, .tb, .funnels, .running, .trace, .counters] : List Piece) → p ∈ L)  (h : Framed L u s) : FramedAnswer L u (execTileTestDone x0 x1 x2 x3 s) := by
  unfold execTileTestDone
  repeat (first | with_reducible assumption | (with_reducible apply frame_tileTestDone <;> first | exact frame_sub rfl hL | skip) | with_reducible apply frame_ifDue | with_reducible exact frame_fault | with_reducible apply frame_next | with_reducible apply frame_foldl | with_reducible apply frame_foldl2 | with_reducible apply frame_foldl1 | split | intro _ | dsimp only)

theorem frame_cleanSlice {L : List Piece} {u : State} (x0 : _) {s : State} (hL : ∀ p, p ∈ ([.draw, .power, .crock, .cores, .funnels, .trace] : List Piece) → p ∈ L)  (h : Framed L u s) : Framed L u (cleanSlice x0 s) := by
  unfold cleanSlice
  repeat (first | with_reducible assumption | (with_reducible apply frame_State_modCore <;> first | exact frame_sub rfl hL | skip) | (with_reducible apply frame_State_modCoreState <;> first | exact frame_sub rfl hL | skip) | (with_reducible apply frame_addRecord <;> first | exact frame_sub rfl hL | skip) | (with_reducible apply frame_raiseUnit <;> first | exact frame_sub rfl hL | skip) | with_reducible apply frame_foldl | with_reducible apply frame_foldl2 | with_reducible apply frame_foldl1 | split | intro _ | dsimp only)

theorem frame_sliceJudge {L : List Piece} {u : State} (x0 : _) (x1 : _) {s : State} (hL : ∀ p, p ∈ ([.draw, .power, .crock, .host, .pre, .tiles, .cores, .flows, .ingest, .tb, .funnels, .trace, .counters] : List Piece) → p ∈ L)  (h : Framed L u s) : Framed L u (sliceJudge x0 x1 s) := by
  unfold sliceJudge
  repeat (first | with_reducible assumption | (with_reducible apply frame_State_modCore <;> first | exact frame_sub rfl hL | skip) | (with_reducible apply frame_attribute_ <;> first | exact frame_sub rfl hL | skip) | (with_reducible apply frame_cleanSlice <;> first | exact frame_sub rfl hL | skip) | with_reducible apply frame_foldl | with_reducible apply frame_foldl2 | with_reducible apply frame_foldl1 | split | intro _ | dsimp only)

theorem frame_passEnd {L : List Piece} {u : State} (x0 : _) {s : State} (hL : ∀ p, p ∈ ([.draw, .power, .crock, .host, .pre, .cores, .funnels, .running, .waiting, .trace, .counters] : List Piece) → p ∈ L)  (h : Framed L u s) : Framed L u (passEnd x0 s) := by
  unfold passEnd
  repeat (first | with_reducible assumption | (with_reducible apply frame_State_modCore <;> first | exact frame_sub rfl hL | skip) | (with_reducible apply frame_State_modMirror <;> first | exact frame_sub rfl hL | skip) | (with_reducible apply frame_finish <;> first | exact frame_sub rfl hL | skip) | (with_reducible apply frame_restored <;> first | exact frame_sub rfl hL | skip) | (with_reducible apply frame_queueAct <;> first | exact frame_sub rfl hL | skip) | with_reducible apply frame_each | with_reducible apply frame_foldl | with_reducible apply frame_foldl2 | with_reducible apply frame_foldl1 | split | intro _ | dsimp only)

theorem frame_holdWatchdogs {L : List Piece} {u : State} (x0 : _) {s : State} (hL : ∀ p, p ∈ ([.cores] : List Piece) → p ∈ L)  (h : Framed L u s) : Framed L u (holdWatchdogs x0 s) :=
  frame_State_modCore _ _ (frame_sub rfl hL) h

theorem frame_coreSlice {L : List Piece} {u : State} (x0 : _) (x1 : _) (x2 : _) {s : State} (hL : ∀ p, p ∈ ([.draw, .power, .crock, .host, .pre, .tiles, .cores, .flows, .ingest, .tb, .funnels, .running, .waiting, .trace, .counters] : List Piece) → p ∈ L)  (h : Framed L u s) : Framed L u (coreSlice x0 x1 x2 s) := by
  unfold coreSlice
  repeat (first | with_reducible assumption | (with_reducible apply frame_beginAct <;> first | exact frame_sub rfl hL | skip) | (with_reducible apply frame_State_modCore <;> first | exact frame_sub rfl hL | skip) | (with_reducible apply frame_sliceJudge <;> first | exact frame_sub rfl hL | skip) | (with_reducible apply frame_count <;> first | exact frame_sub rfl hL | skip) | (with_reducible apply frame_endAct <;> first | exact frame_sub rfl hL | skip) | (with_reducible apply frame_holdWatchdogs <;> first | exact frame_sub rfl hL | skip) | (with_reducible apply frame_passEnd <;> first | exact frame_sub rfl hL | skip) | with_reducible apply frame_foldl | with_reducible apply frame_foldl2 | with_reducible apply frame_foldl1 | split | intro _ | dsimp only)

theorem frame_execCoreSelftestSlice {L : List Piece} {u : State} (x0 : _) (x1 : _) (x2 : _) {s : State} (hL : ∀ p, p ∈ ([.draw, .power, .crock, .host, .pre, .tiles, .cores, .flows, .ingest, .tb, .funnels, .running, .waiting, .trace, .counters] : List Piece) → p ∈ L)  (h : Framed L u s) : FramedAnswer L u (execCoreSelftestSlice x0 x1 x2 s) := by
  unfold execCoreSelftestSlice
  repeat (first | with_reducible assumption | (with_reducible apply frame_coreSlice <;> first | exact frame_sub rfl hL | skip) | with_reducible apply frame_ifDue | with_reducible exact frame_fault | with_reducible apply frame_next | with_reducible apply frame_foldl | with_reducible apply frame_foldl2 | with_reducible apply frame_foldl1 | split | intro _ | dsimp only)

theorem frame_compact {L : List Piece} {u : State} (x0 : _) {s : State} (hL : ∀ p, p ∈ ([.draw, .flows] : List Piece) → p ∈ L)  (h : Framed L u s) : Framed L u (compact x0 s) := by
  unfold compact
  repeat (first | with_reducible assumption | (with_reducible apply frame_State_modCtx <;> first | exact frame_sub rfl hL | skip) | (with_reducible apply frame_State_nextDraw <;> first | exact frame_sub rfl hL | skip) | with_reducible apply frame_each | with_reducible apply frame_foldl | with_reducible apply frame_foldl2 | with_reducible apply frame_foldl1 | split | intro _ | dsimp only)

theorem frame_startAct {L : List Piece} {u : State} (x0 : _) {s : State} (hL : ∀ p, p ∈ ([.draw, .host, .pre, .tiles, .cores, .flows, .funnels, .running, .waiting, .trace, .counters] : List Piece) → p ∈ L)  (h : Framed L u s) : Framed L u (startAct x0 s) := by
  unfold startAct
  repeat (first | with_reducible assumption | (with_reducible apply frame_beginAct <;> first | exact frame_sub rfl hL | skip) | (with_reducible apply frame_finishIdle <;> first | exact frame_sub rfl hL | skip) | (with_reducible apply frame_endAct <;> first | exact frame_sub rfl hL | skip) | (with_reducible apply frame_compact <;> first | exact frame_sub rfl hL | skip) | (with_reducible apply frame_attachDone <;> first | exact frame_sub rfl hL | skip) | (with_reducible apply frame_State_modCore <;> first | exact frame_sub rfl hL | skip) | with_reducible apply frame_foldl | with_reducible apply frame_foldl2 | with_reducible apply frame_foldl1 | split | intro _ | dsimp only | (with_reducible apply frame_mk; iterate 22 (first | exact Or.inr (hL _ (by decide)) | with_reducible exact Or.inl rfl)))

theorem frame_execProgrammingStart {L : List Piece} {u : State} (x0 : _) (x1 : _) {s : State} (hL : ∀ p, p ∈ ([.crock, .tiles] : List Piece) → p ∈ L)  (h : Framed L u s) : FramedAnswer L u (execProgrammingStart x0 x1 s) := by
  unfold execProgrammingStart
  repeat (first | with_reducible assumption | (with_reducible apply frame_State_modCal <;> first | exact frame_sub rfl hL | skip) | (with_reducible apply frame_State_modTile <;> first | exact frame_sub rfl hL | skip) | with_reducible apply frame_ifDue | with_reducible exact frame_fault | with_reducible apply frame_next | with_reducible apply frame_foldl | with_reducible apply frame_foldl2 | with_reducible apply frame_foldl1 | split | intro _ | dsimp only)

theorem frame_execProgrammingDone {L : List Piece} {u : State} (x0 : _) (x1 : _) (x2 : _) (x3 : _) (x4 : _) (x5 : _) {s : State} (hL : ∀ p, p ∈ ([.draw, .power, .crock, .host, .pre, .tiles, .cores, .flows, .ingest, .tb, .funnels, .running, .waiting, .trace, .counters] : List Piece) → p ∈ L)  (h : Framed L u s) : FramedAnswer L u (execProgrammingDone x0 x1 x2 x3 x4 x5 s) := by
  unfold execProgrammingDone
  repeat (first | with_reducible assumption | (with_reducible apply frame_programDone <;> first | exact frame_sub rfl hL | skip) | (with_reducible apply frame_endAct <;> first | exact frame_sub rfl hL | skip) | with_reducible apply frame_ifDue | with_reducible exact frame_fault | with_reducible apply frame_next | with_reducible apply frame_foldl | with_reducible apply frame_foldl2 | with_reducible apply frame_foldl1 | split | intro _ | dsimp only)

theorem frame_execModelEraseStart {L : List Piece} {u : State} (x0 : _) (x1 : _) {s : State} (hL : ∀ p, p ∈ ([.crock, .tiles] : List Piece) → p ∈ L)  (h : Framed L u s) : FramedAnswer L u (execModelEraseStart x0 x1 s) := by
  unfold execModelEraseStart
  repeat (first | with_reducible assumption | (with_reducible apply frame_State_modCal <;> first | exact frame_sub rfl hL | skip) | (with_reducible apply frame_State_modTile <;> first | exact frame_sub rfl hL | skip) | with_reducible apply frame_ifDue | with_reducible exact frame_fault | with_reducible apply frame_next | with_reducible apply frame_foldl | with_reducible apply frame_foldl2 | with_reducible apply frame_foldl1 | split | intro _ | dsimp only)

theorem frame_execTileEraseDone {L : List Piece} {u : State} (x0 : _) (x1 : _) {s : State} (hL : ∀ p, p ∈ ([.crock, .tiles, .running, .trace] : List Piece) → p ∈ L)  (h : Framed L u s) : FramedAnswer L u (execTileEraseDone x0 x1 s) := by
  unfold execTileEraseDone
  repeat (first | with_reducible assumption | (with_reducible apply frame_blankTile <;> first | exact frame_sub rfl hL | skip) | (with_reducible apply frame_endAct <;> first | exact frame_sub rfl hL | skip) | with_reducible apply frame_ifDue | with_reducible exact frame_fault | with_reducible apply frame_next | with_reducible apply frame_foldl | with_reducible apply frame_foldl2 | with_reducible apply frame_foldl1 | split | intro _ | dsimp only)

theorem frame_execBlockScan {L : List Piece} {u : State} (x0 : _) (x1 : _) (x2 : _) {s : State} (hL : ∀ p, p ∈ ([.draw, .power, .crock, .host, .pre, .tiles, .cores, .flows, .ingest, .tb, .funnels, .running, .waiting, .trace, .counters] : List Piece) → p ∈ L)  (h : Framed L u s) : FramedAnswer L u (execBlockScan x0 x1 x2 s) := by
  unfold execBlockScan
  repeat (first | with_reducible assumption | (with_reducible apply frame_scanDone <;> first | exact frame_sub rfl hL | skip) | (with_reducible apply frame_endAct <;> first | exact frame_sub rfl hL | skip) | with_reducible apply frame_ifDue | with_reducible exact frame_fault | with_reducible apply frame_next | with_reducible apply frame_foldl | with_reducible apply frame_foldl2 | with_reducible apply frame_foldl1 | split | intro _ | dsimp only)

theorem frame_beginSave {L : List Piece} {u : State} (x0 : _) (x1 : _) {s : State} (hL : ∀ p, p ∈ ([.crock] : List Piece) → p ∈ L)  (h : Framed L u s) : Framed L u (beginSave x0 x1 s) := by
  unfold beginSave
  repeat (first | with_reducible assumption | (with_reducible apply frame_State_foldTick <;> first | exact frame_sub rfl hL | skip) | (with_reducible apply frame_foldAges <;> first | exact frame_sub rfl hL | skip) | (with_reducible apply frame_State_modCrock <;> first | exact frame_sub rfl hL | skip) | with_reducible apply frame_foldl | with_reducible apply frame_foldl2 | with_reducible apply frame_foldl1 | split | intro _ | dsimp only)

theorem frame_endSave {L : List Piece} {u : State} (x0 : _) {s : State} (hL : ∀ p, p ∈ ([.crock] : List Piece) → p ∈ L)  (h : Framed L u s) : Framed L u (endSave x0 s) := by
  unfold endSave
  repeat (first | with_reducible assumption | (with_reducible apply frame_State_modCrock <;> first | exact frame_sub rfl hL | skip) | with_reducible apply frame_foldl | with_reducible apply frame_foldl2 | with_reducible apply frame_foldl1 | split | intro _ | dsimp only)

theorem frame_haltWith {L : List Piece} {u : State} (x0 : _) {s : State} (hL : ∀ p, p ∈ ([.power, .crock, .host, .tb, .counters] : List Piece) → p ∈ L)  (h : Framed L u s) : Framed L u (haltWith x0 s) := by
  unfold haltWith
  repeat (first | with_reducible assumption | (with_reducible apply frame_suppressAll <;> first | exact frame_sub rfl hL | skip) | (with_reducible apply frame_State_modPower <;> first | exact frame_sub rfl hL | skip) | (with_reducible apply frame_beginSave <;> first | exact frame_sub rfl hL | skip) | (with_reducible apply frame_State_modMirror <;> first | exact frame_sub rfl hL | skip) | (with_reducible apply frame_foldAges <;> first | exact frame_sub rfl hL | skip) | with_reducible apply frame_foldl | with_reducible apply frame_foldl2 | with_reducible apply frame_foldl1 | split | intro _ | dsimp only)

theorem frame_restart {L : List Piece} {u : State} (x0 : _) {s : State} (hL : ∀ p, p ∈ ([.pending, .clk, .draw, .power, .crock, .sec, .host, .pre, .tiles, .cores, .flows, .ingest, .tb, .funnels, .running, .waiting, .net, .probe, .trace, .counters, .mgmt, .pkg] : List Piece) → p ∈ L)  (h : Framed L u s) : Framed L u (restart x0 s) := by
  unfold restart
  repeat (first | with_reducible assumption | with_reducible apply frame_foldl | with_reducible apply frame_foldl2 | with_reducible apply frame_foldl1 | split | intro _ | dsimp only | (with_reducible apply frame_mk; iterate 22 (first | exact Or.inr (hL _ (by decide)) | with_reducible exact Or.inl rfl)))

theorem frame_dropFunnelRegs {L : List Piece} {u : State} (x0 : _) {s : State} (hL : ∀ p, p ∈ ([.pre] : List Piece) → p ∈ L)  (h : Framed L u s) : Framed L u (dropFunnelRegs x0 s) := by
  unfold dropFunnelRegs
  repeat (first | with_reducible assumption | (with_reducible apply frame_State_modPre <;> first | exact frame_sub rfl hL | skip) | with_reducible apply frame_foldl | with_reducible apply frame_foldl2 | with_reducible apply frame_foldl1 | split | intro _ | dsimp only)

theorem frame_recoverCrock {L : List Piece} {u : State} {s : State} (hL : ∀ p, p ∈ ([.power, .crock, .tiles] : List Piece) → p ∈ L)  (h : Framed L u s) : Framed L u (recoverCrock s) := by
  unfold recoverCrock
  repeat (first | with_reducible assumption | (with_reducible apply frame_State_modCrock <;> first | exact frame_sub rfl hL | skip) | (with_reducible apply frame_State_modPower <;> first | exact frame_sub rfl hL | skip) | (with_reducible apply frame_State_modMirror <;> first | exact frame_sub rfl hL | skip) | with_reducible apply frame_foldl | with_reducible apply frame_foldl2 | with_reducible apply frame_foldl1 | split | intro _ | dsimp only | (with_reducible apply frame_mk; iterate 22 (first | exact Or.inr (hL _ (by decide)) | with_reducible exact Or.inl rfl)))

theorem frame_tryPending {L : List Piece} {u : State} {s : State} (hL : ∀ p, p ∈ ([.sec] : List Piece) → p ∈ L)  (h : Framed L u s) : Framed L u (tryPending s) := by
  unfold tryPending
  repeat (first | with_reducible assumption | (with_reducible apply frame_State_modSec <;> first | exact frame_sub rfl hL | skip) | with_reducible apply frame_foldl | with_reducible apply frame_foldl2 | with_reducible apply frame_foldl1 | split | intro _ | dsimp only)

theorem frame_coldPowerOn {L : List Piece} {u : State} {s : State} (hL : ∀ p, p ∈ ([.pending, .clk, .draw, .power, .crock, .sec, .host, .pre, .tiles, .cores, .flows, .ingest, .tb, .funnels, .running, .waiting, .net, .probe, .trace, .counters, .mgmt, .pkg] : List Piece) → p ∈ L)  (h : Framed L u s) : Framed L u (coldPowerOn s) := by
  unfold coldPowerOn
  repeat (first | with_reducible assumption | (with_reducible apply frame_restart <;> first | exact frame_sub rfl hL | skip) | (with_reducible apply frame_State_modCrock <;> first | exact frame_sub rfl hL | skip) | (with_reducible apply frame_State_modPower <;> first | exact frame_sub rfl hL | skip) | (with_reducible apply frame_tryPending <;> first | exact frame_sub rfl hL | skip) | (with_reducible apply frame_recoverCrock <;> first | exact frame_sub rfl hL | skip) | with_reducible apply frame_foldl | with_reducible apply frame_foldl2 | with_reducible apply frame_foldl1 | split | intro _ | dsimp only)

theorem frame_execColdPowerOn {L : List Piece} {u : State} {s : State} (hL : ∀ p, p ∈ ([.pending, .clk, .draw, .power, .crock, .sec, .host, .pre, .tiles, .cores, .flows, .ingest, .tb, .funnels, .running, .waiting, .net, .probe, .trace, .counters, .mgmt, .pkg] : List Piece) → p ∈ L)  (h : Framed L u s) : FramedAnswer L u (execColdPowerOn s) := by
  unfold execColdPowerOn
  repeat (first | with_reducible assumption | (with_reducible apply frame_coldPowerOn <;> first | exact frame_sub rfl hL | skip) | with_reducible exact frame_fault | with_reducible apply frame_next | with_reducible apply frame_foldl | with_reducible apply frame_foldl2 | with_reducible apply frame_foldl1 | split | intro _ | dsimp only)

theorem frame_execResetNAssert {L : List Piece} {u : State} {s : State} (hL : ∀ p, p ∈ ([.pending, .clk, .draw, .power, .crock, .sec, .host, .pre, .tiles, .cores, .flows, .ingest, .tb, .funnels, .running, .waiting, .net, .probe, .trace, .counters, .mgmt, .pkg] : List Piece) → p ∈ L)  (h : Framed L u s) : FramedAnswer L u (execResetNAssert s) := by
  unfold execResetNAssert
  repeat (first | with_reducible assumption | (with_reducible apply frame_restart <;> first | exact frame_sub rfl hL | skip) | (with_reducible apply frame_State_foldTick <;> first | exact frame_sub rfl hL | skip) | (with_reducible apply frame_foldAges <;> first | exact frame_sub rfl hL | skip) | (with_reducible apply frame_State_modPower <;> first | exact frame_sub rfl hL | skip) | (with_reducible apply frame_dropFunnelRegs <;> first | exact frame_sub rfl hL | skip) | with_reducible apply frame_each | with_reducible apply frame_ifDue | with_reducible exact frame_fault | with_reducible apply frame_next | with_reducible apply frame_foldl | with_reducible apply frame_foldl2 | with_reducible apply frame_foldl1 | split | intro _ | dsimp only)

theorem frame_execResetNRelease {L : List Piece} {u : State} {s : State} (hL : ∀ p, p ∈ ([.power, .sec, .tb, .mgmt] : List Piece) → p ∈ L)  (h : Framed L u s) : FramedAnswer L u (execResetNRelease s) := by
  unfold execResetNRelease
  repeat (first | with_reducible assumption | (with_reducible apply frame_State_modPower <;> first | exact frame_sub rfl hL | skip) | (with_reducible apply frame_State_modMgmt <;> first | exact frame_sub rfl hL | skip) | (with_reducible apply frame_tryPending <;> first | exact frame_sub rfl hL | skip) | (with_reducible apply frame_State_modTb <;> first | exact frame_sub rfl hL | skip) | with_reducible apply frame_ifDue | with_reducible exact frame_fault | with_reducible apply frame_next | with_reducible apply frame_foldl | with_reducible apply frame_foldl2 | with_reducible apply frame_foldl1 | split | intro _ | dsimp only)

theorem frame_fuseCommit {L : List Piece} {u : State} {s : State} (hL : ∀ p, p ∈ ([.power, .sec, .funnels, .trace] : List Piece) → p ∈ L)  (h : Framed L u s) : Framed L u (fuseCommit s) := by
  unfold fuseCommit
  repeat (first | with_reducible assumption | (with_reducible apply frame_State_modSec <;> first | exact frame_sub rfl hL | skip) | (with_reducible apply frame_raiseDev <;> first | exact frame_sub rfl hL | skip) | with_reducible apply frame_foldl | with_reducible apply frame_foldl2 | with_reducible apply frame_foldl1 | split | intro _ | dsimp only)

theorem frame_bootTiles {L : List Piece} {u : State} {s : State} (hL : ∀ p, p ∈ ([.crock, .tiles] : List Piece) → p ∈ L)  (h : Framed L u s) : Framed L u (bootTiles s) := by
  unfold bootTiles
  repeat (first | with_reducible assumption | (with_reducible apply frame_State_modMirror <;> first | exact frame_sub rfl hL | skip) | with_reducible apply frame_foldl | with_reducible apply frame_foldl2 | with_reducible apply frame_foldl1 | split | intro _ | dsimp only | (with_reducible apply frame_mk; iterate 22 (first | exact Or.inr (hL _ (by decide)) | with_reducible exact Or.inl rfl)))

theorem frame_bootCores {L : List Piece} {u : State} {s : State} (hL : ∀ p, p ∈ ([.pre] : List Piece) → p ∈ L)  (h : Framed L u s) : Framed L u (bootCores s) := by
  unfold bootCores
  repeat (first | with_reducible assumption | (with_reducible apply frame_State_setReg <;> first | exact frame_sub rfl hL | skip) | with_reducible apply frame_foldl | with_reducible apply frame_foldl2 | with_reducible apply frame_foldl1 | split | intro _ | dsimp only)

theorem frame_startupReady {L : List Piece} {u : State} {s : State} (hL : ∀ p, p ∈ ([.power, .crock, .sec, .host, .pre, .tiles, .funnels, .trace, .pkg] : List Piece) → p ∈ L)  (h : Framed L u s) : Framed L u (startupReady s) := by
  unfold startupReady
  repeat (first | with_reducible assumption | (with_reducible apply frame_State_modSec <;> first | exact frame_sub rfl hL | skip) | (with_reducible apply frame_bootCores <;> first | exact frame_sub rfl hL | skip) | (with_reducible apply frame_bootTiles <;> first | exact frame_sub rfl hL | skip) | (with_reducible apply frame_State_modPower <;> first | exact frame_sub rfl hL | skip) | (with_reducible apply frame_State_modMirror <;> first | exact frame_sub rfl hL | skip) | (with_reducible apply frame_fuseCommit <;> first | exact frame_sub rfl hL | skip) | (with_reducible apply frame_raiseDev <;> first | exact frame_sub rfl hL | skip) | with_reducible apply frame_each | with_reducible apply frame_foldl | with_reducible apply frame_foldl2 | with_reducible apply frame_foldl1 | split | intro _ | dsimp only | (with_reducible apply frame_mk; iterate 22 (first | exact Or.inr (hL _ (by decide)) | with_reducible exact Or.inl rfl)))

theorem frame_execStartupReady {L : List Piece} {u : State} {s : State} (hL : ∀ p, p ∈ ([.power, .crock, .sec, .host, .pre, .tiles, .funnels, .trace, .pkg] : List Piece) → p ∈ L)  (h : Framed L u s) : FramedAnswer L u (execStartupReady s) := by
  unfold execStartupReady
  repeat (first | with_reducible assumption | (with_reducible apply frame_startupReady <;> first | exact frame_sub rfl hL | skip) | with_reducible apply frame_ifDue | with_reducible exact frame_fault | with_reducible apply frame_next | with_reducible apply frame_foldl | with_reducible apply frame_foldl2 | with_reducible apply frame_foldl1 | split | intro _ | dsimp only)

theorem frame_execFwFallback {L : List Piece} {u : State} (x0 : _) {s : State} (hL : ∀ p, p ∈ ([.power, .sec] : List Piece) → p ∈ L)  (h : Framed L u s) : FramedAnswer L u (execFwFallback x0 s) := by
  unfold execFwFallback
  repeat (first | with_reducible assumption | (with_reducible apply frame_State_modSec <;> first | exact frame_sub rfl hL | skip) | (with_reducible apply frame_State_modPower <;> first | exact frame_sub rfl hL | skip) | with_reducible apply frame_ifDue | with_reducible exact frame_fault | with_reducible apply frame_next | with_reducible apply frame_foldl | with_reducible apply frame_foldl2 | with_reducible apply frame_foldl1 | split | intro _ | dsimp only)

theorem frame_execPwrFailNAssert {L : List Piece} {u : State} {s : State} (hL : ∀ p, p ∈ ([.power, .crock, .host, .tb, .counters] : List Piece) → p ∈ L)  (h : Framed L u s) : FramedAnswer L u (execPwrFailNAssert s) := by
  unfold execPwrFailNAssert
  repeat (first | with_reducible assumption | (with_reducible apply frame_State_modPower <;> first | exact frame_sub rfl hL | skip) | (with_reducible apply frame_haltWith <;> first | exact frame_sub rfl hL | skip) | (with_reducible apply frame_State_modCrock <;> first | exact frame_sub rfl hL | skip) | with_reducible apply frame_ifDue | with_reducible exact frame_fault | with_reducible apply frame_next | with_reducible apply frame_foldl | with_reducible apply frame_foldl2 | with_reducible apply frame_foldl1 | split | intro _ | dsimp only)

theorem frame_execPwrFailNDeassert {L : List Piece} {u : State} {s : State} (hL : ∀ p, p ∈ ([.power] : List Piece) → p ∈ L)  (h : Framed L u s) : FramedAnswer L u (execPwrFailNDeassert s) := by
  unfold execPwrFailNDeassert
  repeat (first | with_reducible assumption | (with_reducible apply frame_State_modPower <;> first | exact frame_sub rfl hL | skip) | with_reducible apply frame_ifDue | with_reducible exact frame_fault | with_reducible apply frame_next | with_reducible apply frame_foldl | with_reducible apply frame_foldl2 | with_reducible apply frame_foldl1 | split | intro _ | dsimp only)

theorem frame_execCrockSaveDone {L : List Piece} {u : State} {s : State} (hL : ∀ p, p ∈ ([.power, .crock, .host, .pre, .funnels, .running, .trace, .counters] : List Piece) → p ∈ L)  (h : Framed L u s) : FramedAnswer L u (execCrockSaveDone s) := by
  unfold execCrockSaveDone
  repeat (first | with_reducible assumption | (with_reducible apply frame_endSave <;> first | exact frame_sub rfl hL | skip) | (with_reducible apply frame_raiseDev <;> first | exact frame_sub rfl hL | skip) | (with_reducible apply frame_endAct <;> first | exact frame_sub rfl hL | skip) | (with_reducible apply frame_finish <;> first | exact frame_sub rfl hL | skip) | with_reducible apply frame_each | with_reducible apply frame_ifDue | with_reducible exact frame_fault | with_reducible apply frame_next | with_reducible apply frame_foldl | with_reducible apply frame_foldl2 | with_reducible apply frame_foldl1 | split | intro _ | dsimp only)

theorem frame_execVddAonFall {L : List Piece} {u : State} {s : State} (hL : ∀ p, p ∈ ([.power, .crock] : List Piece) → p ∈ L)  (h : Framed L u s) : FramedAnswer L u (execVddAonFall s) := by
  unfold execVddAonFall
  repeat (first | with_reducible assumption | (with_reducible apply frame_State_modCrock <;> first | exact frame_sub rfl hL | skip) | (with_reducible apply frame_State_modPower <;> first | exact frame_sub rfl hL | skip) | with_reducible apply frame_ifDue | with_reducible exact frame_fault | with_reducible apply frame_next | with_reducible apply frame_foldl | with_reducible apply frame_foldl2 | with_reducible apply frame_foldl1 | split | intro _ | dsimp only)

theorem frame_execMirrorUncorrectable {L : List Piece} {u : State} {s : State} (hL : ∀ p, p ∈ ([.draw, .power, .crock, .host, .tb, .funnels, .trace, .counters] : List Piece) → p ∈ L)  (h : Framed L u s) : FramedAnswer L u (execMirrorUncorrectable s) := by
  unfold execMirrorUncorrectable
  repeat (first | with_reducible assumption | (with_reducible apply frame_fatal <;> first | exact frame_sub rfl hL | skip) | with_reducible apply frame_ifDue | with_reducible exact frame_fault | with_reducible apply frame_next | with_reducible apply frame_foldl | with_reducible apply frame_foldl2 | with_reducible apply frame_foldl1 | split | intro _ | dsimp only)

theorem frame_retractLoad {L : List Piece} {u : State} (x0 : _) {s : State} (hL : ∀ p, p ∈ ([.pre, .tiles, .running, .waiting, .trace, .counters] : List Piece) → p ∈ L)  (h : Framed L u s) : Framed L u (retractLoad x0 s) := by
  unfold retractLoad
  repeat (first | with_reducible assumption | (with_reducible apply frame_State_modPre <;> first | exact frame_sub rfl hL | skip) | (with_reducible apply frame_State_modTile <;> first | exact frame_sub rfl hL | skip) | (with_reducible apply frame_askErase <;> first | exact frame_sub rfl hL | skip) | with_reducible apply frame_each | with_reducible apply frame_foldl | with_reducible apply frame_foldl2 | with_reducible apply frame_foldl1 | split | intro _ | dsimp only | (with_reducible apply frame_mk; iterate 22 (first | exact Or.inr (hL _ (by decide)) | with_reducible exact Or.inl rfl)))

theorem frame_dropCtx {L : List Piece} {u : State} (x0 : _) {s : State} (hL : ∀ p, p ∈ ([.host, .pre, .cores, .flows, .funnels, .trace, .counters] : List Piece) → p ∈ L)  (h : Framed L u s) : Framed L u (dropCtx x0 s) := by
  unfold dropCtx
  repeat (first | with_reducible assumption | (with_reducible apply frame_State_modFlows <;> first | exact frame_sub rfl hL | skip) | (with_reducible apply frame_cancelRun <;> first | exact frame_sub rfl hL | skip) | with_reducible apply frame_foldl | with_reducible apply frame_foldl2 | with_reducible apply frame_foldl1 | split | intro _ | dsimp only)

theorem frame_clearPart {L : List Piece} {u : State} (x0 : _) {s : State} (hL : ∀ p, p ∈ ([.host, .pre, .cores, .flows, .tb, .funnels, .trace, .counters] : List Piece) → p ∈ L)  (h : Framed L u s) : Framed L u (clearPart x0 s) := by
  unfold clearPart
  repeat (first | with_reducible assumption | (with_reducible apply frame_suppressPart <;> first | exact frame_sub rfl hL | skip) | (with_reducible apply frame_dropCtx <;> first | exact frame_sub rfl hL | skip) | (with_reducible apply frame_State_modPre <;> first | exact frame_sub rfl hL | skip) | (with_reducible apply frame_State_modFunnel <;> first | exact frame_sub rfl hL | skip) | with_reducible apply frame_each | with_reducible apply frame_foldl | with_reducible apply frame_foldl2 | with_reducible apply frame_foldl1 | split | intro _ | dsimp only)

theorem frame_clearCore {L : List Piece} {u : State} (x0 : _) {s : State} (hL : ∀ p, p ∈ ([.cores] : List Piece) → p ∈ L)  (h : Framed L u s) : Framed L u (clearCore x0 s) := by
  unfold clearCore
  repeat (first | with_reducible assumption | (with_reducible apply frame_State_modCore <;> first | exact frame_sub rfl hL | skip) | (with_reducible apply frame_dropQueue <;> first | exact frame_sub rfl hL | skip) | with_reducible apply frame_each | with_reducible apply frame_foldl | with_reducible apply frame_foldl2 | with_reducible apply frame_foldl1 | split | intro _ | dsimp only)

theorem frame_clearCores {L : List Piece} {u : State} (x0 : _) {s : State} (hL : ∀ p, p ∈ ([.cores] : List Piece) → p ∈ L)  (h : Framed L u s) : Framed L u (clearCores x0 s) := by
  unfold clearCores
  repeat (first | with_reducible assumption | (with_reducible apply frame_clearCore <;> first | exact frame_sub rfl hL | skip) | with_reducible apply frame_each | with_reducible apply frame_foldl | with_reducible apply frame_foldl2 | with_reducible apply frame_foldl1 | split | intro _ | dsimp only)

theorem frame_forgetFns {L : List Piece} {u : State} (x0 : _) {s : State} (hL : ∀ p, p ∈ ([.host, .pre] : List Piece) → p ∈ L)  (h : Framed L u s) : Framed L u (forgetFns x0 s) := by
  unfold forgetFns
  repeat (first | with_reducible assumption | (with_reducible apply frame_State_modHost <;> first | exact frame_sub rfl hL | skip) | (with_reducible apply frame_State_modPre <;> first | exact frame_sub rfl hL | skip) | with_reducible apply frame_foldl | with_reducible apply frame_foldl2 | with_reducible apply frame_foldl1 | split | intro _ | dsimp only)

theorem frame_flrFn {L : List Piece} {u : State} (x0 : _) {s : State} (hL : ∀ p, p ∈ ([.host, .pre, .tiles, .cores, .flows, .tb, .funnels, .running, .waiting, .trace, .counters] : List Piece) → p ∈ L)  (h : Framed L u s) : Framed L u (flrFn x0 s) := by
  unfold flrFn
  repeat (first | with_reducible assumption | (with_reducible apply frame_retractLoad <;> first | exact frame_sub rfl hL | skip) | (with_reducible apply frame_State_modPre <;> first | exact frame_sub rfl hL | skip) | (with_reducible apply frame_dropFunnelRegs <;> first | exact frame_sub rfl hL | skip) | (with_reducible apply frame_clearCores <;> first | exact frame_sub rfl hL | skip) | (with_reducible apply frame_State_modFunnel <;> first | exact frame_sub rfl hL | skip) | (with_reducible apply frame_clearPart <;> first | exact frame_sub rfl hL | skip) | (with_reducible apply frame_forgetFns <;> first | exact frame_sub rfl hL | skip) | with_reducible apply frame_each | with_reducible apply frame_foldl | with_reducible apply frame_foldl2 | with_reducible apply frame_foldl1 | split | intro _ | dsimp only | (with_reducible apply frame_mk; iterate 22 (first | exact Or.inr (hL _ (by decide)) | with_reducible exact Or.inl rfl)))

theorem frame_flrAll {L : List Piece} {u : State} {s : State} (hL : ∀ p, p ∈ ([.host, .pre, .tiles, .cores, .flows, .tb, .funnels, .running, .waiting, .trace, .counters] : List Piece) → p ∈ L)  (h : Framed L u s) : Framed L u (flrAll s) := by
  unfold flrAll
  repeat (first | with_reducible assumption | (with_reducible apply frame_flrFn <;> first | exact frame_sub rfl hL | skip) | (with_reducible apply frame_dropFunnelRegs <;> first | exact frame_sub rfl hL | skip) | (with_reducible apply frame_clearCores <;> first | exact frame_sub rfl hL | skip) | (with_reducible apply frame_clearPart <;> first | exact frame_sub rfl hL | skip) | (with_reducible apply frame_forgetFns <;> first | exact frame_sub rfl hL | skip) | (with_reducible apply frame_State_modHost <;> first | exact frame_sub rfl hL | skip) | (with_reducible apply frame_State_modPre <;> first | exact frame_sub rfl hL | skip) | with_reducible apply frame_each | with_reducible apply frame_foldl | with_reducible apply frame_foldl2 | with_reducible apply frame_foldl1 | split | intro _ | dsimp only)

theorem frame_execFlrVf {L : List Piece} {u : State} (x0 : _) {s : State} (hL : ∀ p, p ∈ ([.host, .pre, .tiles, .cores, .flows, .tb, .funnels, .running, .waiting, .trace, .counters] : List Piece) → p ∈ L)  (h : Framed L u s) : FramedAnswer L u (execFlrVf x0 s) := by
  unfold execFlrVf
  repeat (first | with_reducible assumption | (with_reducible apply frame_flrFn <;> first | exact frame_sub rfl hL | skip) | with_reducible apply frame_ifDue | with_reducible exact frame_fault | with_reducible apply frame_next | with_reducible apply frame_foldl | with_reducible apply frame_foldl2 | with_reducible apply frame_foldl1 | split | intro _ | dsimp only)

theorem frame_execFlrPf {L : List Piece} {u : State} {s : State} (hL : ∀ p, p ∈ ([.host, .pre, .tiles, .cores, .flows, .tb, .funnels, .running, .waiting, .trace, .counters] : List Piece) → p ∈ L)  (h : Framed L u s) : FramedAnswer L u (execFlrPf s) := by
  unfold execFlrPf
  repeat (first | with_reducible assumption | (with_reducible apply frame_flrAll <;> first | exact frame_sub rfl hL | skip) | with_reducible apply frame_ifDue | with_reducible exact frame_fault | with_reducible apply frame_next | with_reducible apply frame_foldl | with_reducible apply frame_foldl2 | with_reducible apply frame_foldl1 | split | intro _ | dsimp only)

theorem frame_execPciePerstNAssert {L : List Piece} {u : State} {s : State} (hL : ∀ p, p ∈ ([.power, .host, .pre, .tiles, .cores, .flows, .tb, .funnels, .running, .waiting, .trace, .counters] : List Piece) → p ∈ L)  (h : Framed L u s) : FramedAnswer L u (execPciePerstNAssert s) := by
  unfold execPciePerstNAssert
  repeat (first | with_reducible assumption | (with_reducible apply frame_flrAll <;> first | exact frame_sub rfl hL | skip) | (with_reducible apply frame_State_modHost <;> first | exact frame_sub rfl hL | skip) | (with_reducible apply frame_State_modPower <;> first | exact frame_sub rfl hL | skip) | with_reducible apply frame_ifDue | with_reducible exact frame_fault | with_reducible apply frame_next | with_reducible apply frame_foldl | with_reducible apply frame_foldl2 | with_reducible apply frame_foldl1 | split | intro _ | dsimp only)

theorem frame_execPciePerstNRelease {L : List Piece} {u : State} {s : State} (hL : ∀ p, p ∈ ([.power, .host] : List Piece) → p ∈ L)  (h : Framed L u s) : FramedAnswer L u (execPciePerstNRelease s) := by
  unfold execPciePerstNRelease
  repeat (first | with_reducible assumption | (with_reducible apply frame_State_modHost <;> first | exact frame_sub rfl hL | skip) | (with_reducible apply frame_State_modPower <;> first | exact frame_sub rfl hL | skip) | with_reducible apply frame_ifDue | with_reducible exact frame_fault | with_reducible apply frame_next | with_reducible apply frame_foldl | with_reducible apply frame_foldl2 | with_reducible apply frame_foldl1 | split | intro _ | dsimp only)

theorem frame_execVfEnable {L : List Piece} {u : State} (x0 : _) {s : State} (hL : ∀ p, p ∈ ([.host, .pre, .tiles, .cores, .flows, .tb, .funnels, .running, .waiting, .trace, .counters] : List Piece) → p ∈ L)  (h : Framed L u s) : FramedAnswer L u (execVfEnable x0 s) := by
  unfold execVfEnable
  repeat (first | with_reducible assumption | (with_reducible apply frame_forgetFns <;> first | exact frame_sub rfl hL | skip) | (with_reducible apply frame_State_modHost <;> first | exact frame_sub rfl hL | skip) | (with_reducible apply frame_flrFn <;> first | exact frame_sub rfl hL | skip) | with_reducible apply frame_each | with_reducible apply frame_ifDue | with_reducible exact frame_fault | with_reducible apply frame_next | with_reducible apply frame_foldl | with_reducible apply frame_foldl2 | with_reducible apply frame_foldl1 | split | intro _ | dsimp only)

theorem frame_execBusMasterEnable {L : List Piece} {u : State} (x0 : _) (x1 : _) {s : State} (hL : ∀ p, p ∈ ([.host] : List Piece) → p ∈ L)  (h : Framed L u s) : FramedAnswer L u (execBusMasterEnable x0 x1 s) := by
  unfold execBusMasterEnable
  repeat (first | with_reducible assumption | (with_reducible apply frame_State_modHost <;> first | exact frame_sub rfl hL | skip) | with_reducible apply frame_ifDue | with_reducible exact frame_fault | with_reducible apply frame_next | with_reducible apply frame_foldl | with_reducible apply frame_foldl2 | with_reducible apply frame_foldl1 | split | intro _ | dsimp only)

theorem frame_resendVerdict {L : List Piece} {u : State} (x0 : _) {s : State} (hL : ∀ p, p ∈ ([.tb, .funnels, .counters] : List Piece) → p ∈ L)  (h : Framed L u s) : Framed L u (resendVerdict x0 s) := by
  unfold resendVerdict
  repeat (first | with_reducible assumption | (with_reducible apply frame_retractPins <;> first | exact frame_sub rfl hL | skip) | (with_reducible apply frame_form <;> first | exact frame_sub rfl hL | skip) | (with_reducible apply frame_setVerdict <;> first | exact frame_sub rfl hL | skip) | (with_reducible apply frame_count <;> first | exact frame_sub rfl hL | skip) | with_reducible apply frame_foldl | with_reducible apply frame_foldl2 | with_reducible apply frame_foldl1 | split | intro _ | dsimp only)

theorem frame_zeroRings {L : List Piece} {u : State} (x0 : _) {s : State} (hL : ∀ p, p ∈ ([.ingest] : List Piece) → p ∈ L)  (h : Framed L u s) : Framed L u (zeroRings x0 s) := by
  unfold zeroRings
  repeat (first | with_reducible assumption | (with_reducible apply frame_State_modIngest <;> first | exact frame_sub rfl hL | skip) | with_reducible apply frame_foldl | with_reducible apply frame_foldl2 | with_reducible apply frame_foldl1 | split | intro _ | dsimp only)

theorem frame_partitionReset {L : List Piece} {u : State} (x0 : _) (x1 : _) (x2 : _) (x3 : _) (x4 : _) {s : State} (hL : ∀ p, p ∈ ([.host, .pre, .tiles, .cores, .flows, .ingest, .tb, .funnels, .running, .waiting, .trace, .counters] : List Piece) → p ∈ L)  (h : Framed L u s) : Framed L u (partitionReset x0 x1 x2 x3 x4 s) := by
  unfold partitionReset
  repeat (first | with_reducible assumption | (with_reducible apply frame_retractLoad <;> first | exact frame_sub rfl hL | skip) | (with_reducible apply frame_clearCores <;> first | exact frame_sub rfl hL | skip) | (with_reducible apply frame_clearPart <;> first | exact frame_sub rfl hL | skip) | (with_reducible apply frame_finish <;> first | exact frame_sub rfl hL | skip) | (with_reducible apply frame_State_modFunnel <;> first | exact frame_sub rfl hL | skip) | (with_reducible apply frame_resendVerdict <;> first | exact frame_sub rfl hL | skip) | (with_reducible apply frame_raisePart <;> first | exact frame_sub rfl hL | skip) | (with_reducible apply frame_zeroRings <;> first | exact frame_sub rfl hL | skip) | with_reducible apply frame_each | with_reducible apply frame_foldl | with_reducible apply frame_foldl2 | with_reducible apply frame_foldl1 | split | intro _ | dsimp only | (with_reducible apply frame_mk; iterate 22 (first | exact Or.inr (hL _ (by decide)) | with_reducible exact Or.inl rfl)))

theorem frame_requestState {L : List Piece} {u : State} (x0 : _) (x1 : _) {s : State} (hL : ∀ p, p ∈ ([.power, .pre] : List Piece) → p ∈ L)  (h : Framed L u s) : Framed L u (requestState x0 x1 s) := by
  unfold requestState
  repeat (first | with_reducible assumption | (with_reducible apply frame_State_setRegf <;> first | exact frame_sub rfl hL | skip) | (with_reducible apply frame_State_modPower <;> first | exact frame_sub rfl hL | skip) | with_reducible apply frame_foldl | with_reducible apply frame_foldl2 | with_reducible apply frame_foldl1 | split | intro _ | dsimp only)

theorem frame_execPowerTargetActive {L : List Piece} {u : State} (x0 : _) {s : State} (hL : ∀ p, p ∈ ([.power, .pre] : List Piece) → p ∈ L)  (h : Framed L u s) : FramedAnswer L u (execPowerTargetActive x0 s) := by
  unfold execPowerTargetActive
  repeat (first | with_reducible assumption | (with_reducible apply frame_requestState <;> first | exact frame_sub rfl hL | skip) | with_reducible apply frame_ifDue | with_reducible exact frame_fault | with_reducible apply frame_next | with_reducible apply frame_foldl | with_reducible apply frame_foldl2 | with_reducible apply frame_foldl1 | split | intro _ | dsimp only)

theorem frame_execPowerTargetIdle {L : List Piece} {u : State} (x0 : _) {s : State} (hL : ∀ p, p ∈ ([.power, .pre] : List Piece) → p ∈ L)  (h : Framed L u s) : FramedAnswer L u (execPowerTargetIdle x0 s) := by
  unfold execPowerTargetIdle
  repeat (first | with_reducible assumption | (with_reducible apply frame_requestState <;> first | exact frame_sub rfl hL | skip) | with_reducible apply frame_ifDue | with_reducible exact frame_fault | with_reducible apply frame_next | with_reducible apply frame_foldl | with_reducible apply frame_foldl2 | with_reducible apply frame_foldl1 | split | intro _ | dsimp only)

theorem frame_execPowerTargetArrayRetain {L : List Piece} {u : State} (x0 : _) {s : State} (hL : ∀ p, p ∈ ([.power, .pre] : List Piece) → p ∈ L)  (h : Framed L u s) : FramedAnswer L u (execPowerTargetArrayRetain x0 s) := by
  unfold execPowerTargetArrayRetain
  repeat (first | with_reducible assumption | (with_reducible apply frame_requestState <;> first | exact frame_sub rfl hL | skip) | with_reducible apply frame_ifDue | with_reducible exact frame_fault | with_reducible apply frame_next | with_reducible apply frame_foldl | with_reducible apply frame_foldl2 | with_reducible apply frame_foldl1 | split | intro _ | dsimp only)

theorem frame_execPowerTargetStandby {L : List Piece} {u : State} (x0 : _) {s : State} (hL : ∀ p, p ∈ ([.power, .pre] : List Piece) → p ∈ L)  (h : Framed L u s) : FramedAnswer L u (execPowerTargetStandby x0 s) := by
  unfold execPowerTargetStandby
  repeat (first | with_reducible assumption | (with_reducible apply frame_requestState <;> first | exact frame_sub rfl hL | skip) | with_reducible apply frame_ifDue | with_reducible exact frame_fault | with_reducible apply frame_next | with_reducible apply frame_foldl | with_reducible apply frame_foldl2 | with_reducible apply frame_foldl1 | split | intro _ | dsimp only)

theorem frame_quiesceCore {L : List Piece} {u : State} (x0 : _) {s : State} (hL : ∀ p, p ∈ ([.crock, .host, .pre, .cores, .flows, .funnels, .trace, .counters] : List Piece) → p ∈ L)  (h : Framed L u s) : Framed L u (quiesceCore x0 s) := by
  unfold quiesceCore
  repeat (first | with_reducible assumption | (with_reducible apply frame_State_setRegf <;> first | exact frame_sub rfl hL | skip) | (with_reducible apply frame_State_modCoreState <;> first | exact frame_sub rfl hL | skip) | (with_reducible apply frame_clearCore <;> first | exact frame_sub rfl hL | skip) | (with_reducible apply frame_cancelRun <;> first | exact frame_sub rfl hL | skip) | with_reducible apply frame_each | with_reducible apply frame_foldl | with_reducible apply frame_foldl2 | with_reducible apply frame_foldl1 | split | intro _ | dsimp only)

theorem frame_unquiesceCore {L : List Piece} {u : State} (x0 : _) {s : State} (hL : ∀ p, p ∈ ([.crock, .pre] : List Piece) → p ∈ L)  (h : Framed L u s) : Framed L u (unquiesceCore x0 s) := by
  unfold unquiesceCore
  repeat (first | with_reducible assumption | (with_reducible apply frame_State_setRegf <;> first | exact frame_sub rfl hL | skip) | (with_reducible apply frame_State_modCoreState <;> first | exact frame_sub rfl hL | skip) | with_reducible apply frame_foldl | with_reducible apply frame_foldl2 | with_reducible apply frame_foldl1 | split | intro _ | dsimp only)

theorem frame_execCoreQuiesce {L : List Piece} {u : State} (x0 : _) (x1 : _) {s : State} (hL : ∀ p, p ∈ ([.crock, .host, .pre, .cores, .flows, .funnels, .trace, .counters] : List Piece) → p ∈ L)  (h : Framed L u s) : FramedAnswer L u (execCoreQuiesce x0 x1 s) := by
  unfold execCoreQuiesce
  repeat (first | with_reducible assumption | (with_reducible apply frame_quiesceCore <;> first | exact frame_sub rfl hL | skip) | with_reducible apply frame_ifDue | with_reducible exact frame_fault | with_reducible apply frame_next | with_reducible apply frame_foldl | with_reducible apply frame_foldl2 | with_reducible apply frame_foldl1 | split | intro _ | dsimp only)

theorem frame_execCoreUnquiesce {L : List Piece} {u : State} (x0 : _) (x1 : _) {s : State} (hL : ∀ p, p ∈ ([.crock, .pre] : List Piece) → p ∈ L)  (h : Framed L u s) : FramedAnswer L u (execCoreUnquiesce x0 x1 s) := by
  unfold execCoreUnquiesce
  repeat (first | with_reducible assumption | (with_reducible apply frame_unquiesceCore <;> first | exact frame_sub rfl hL | skip) | with_reducible apply frame_ifDue | with_reducible exact frame_fault | with_reducible apply frame_next | with_reducible apply frame_foldl | with_reducible apply frame_foldl2 | with_reducible apply frame_foldl1 | split | intro _ | dsimp only)

theorem frame_setStep {L : List Piece} {u : State} (x0 : _) {s : State} (hL : ∀ p, p ∈ ([.power, .cores] : List Piece) → p ∈ L)  (h : Framed L u s) : Framed L u (setStep x0 s) := by
  unfold setStep
  repeat (first | with_reducible assumption | (with_reducible apply frame_State_modPower <;> first | exact frame_sub rfl hL | skip) | with_reducible apply frame_foldl | with_reducible apply frame_foldl2 | with_reducible apply frame_foldl1 | split | intro _ | dsimp only | (with_reducible apply frame_mk; iterate 22 (first | exact Or.inr (hL _ (by decide)) | with_reducible exact Or.inl rfl)))

theorem frame_powerMeasure {L : List Piece} {u : State} (x0 : _) {s : State} (hL : ∀ p, p ∈ ([.power, .cores, .funnels, .trace] : List Piece) → p ∈ L)  (h : Framed L u s) : Framed L u (powerMeasure x0 s) := by
  unfold powerMeasure
  repeat (first | with_reducible assumption | (with_reducible apply frame_State_modPower <;> first | exact frame_sub rfl hL | skip) | (with_reducible apply frame_setStep <;> first | exact frame_sub rfl hL | skip) | (with_reducible apply frame_raiseDev <;> first | exact frame_sub rfl hL | skip) | with_reducible apply frame_foldl | with_reducible apply frame_foldl2 | with_reducible apply frame_foldl1 | split | intro _ | dsimp only)

theorem frame_execPowerMeasure {L : List Piece} {u : State} (x0 : _) {s : State} (hL : ∀ p, p ∈ ([.power, .cores, .funnels, .trace] : List Piece) → p ∈ L)  (h : Framed L u s) : FramedAnswer L u (execPowerMeasure x0 s) := by
  unfold execPowerMeasure
  repeat (first | with_reducible assumption | (with_reducible apply frame_powerMeasure <;> first | exact frame_sub rfl hL | skip) | with_reducible apply frame_ifDue | with_reducible exact frame_fault | with_reducible apply frame_next | with_reducible apply frame_foldl | with_reducible apply frame_foldl2 | with_reducible apply frame_foldl1 | split | intro _ | dsimp only)

theorem frame_execFastLimiter {L : List Piece} {u : State} (x0 : _) {s : State} (hL : ∀ p, p ∈ ([.power] : List Piece) → p ∈ L)  (h : Framed L u s) : FramedAnswer L u (execFastLimiter x0 s) := by
  unfold execFastLimiter
  repeat (first | with_reducible assumption | (with_reducible apply frame_State_modPower <;> first | exact frame_sub rfl hL | skip) | with_reducible apply frame_ifDue | with_reducible exact frame_fault | with_reducible apply frame_next | with_reducible apply frame_foldl | with_reducible apply frame_foldl2 | with_reducible apply frame_foldl1 | split | intro _ | dsimp only)

theorem frame_thermalStep {L : List Piece} {u : State} (x0 : _) {s : State} (hL : ∀ p, p ∈ ([.power, .cores, .funnels, .trace] : List Piece) → p ∈ L)  (h : Framed L u s) : Framed L u (thermalStep x0 s) := by
  unfold thermalStep
  repeat (first | with_reducible assumption | (with_reducible apply frame_setStep <;> first | exact frame_sub rfl hL | skip) | (with_reducible apply frame_State_modPower <;> first | exact frame_sub rfl hL | skip) | (with_reducible apply frame_raiseDev <;> first | exact frame_sub rfl hL | skip) | with_reducible apply frame_foldl | with_reducible apply frame_foldl2 | with_reducible apply frame_foldl1 | split | intro _ | dsimp only)

theorem frame_thermalSample {L : List Piece} {u : State} (x0 : _) {s : State} (hL : ∀ p, p ∈ ([.power, .crock, .host, .cores, .tb, .funnels, .trace, .counters] : List Piece) → p ∈ L)  (h : Framed L u s) : Framed L u (thermalSample x0 s) := by
  unfold thermalSample
  repeat (first | with_reducible assumption | (with_reducible apply frame_State_modPower <;> first | exact frame_sub rfl hL | skip) | (with_reducible apply frame_haltWith <;> first | exact frame_sub rfl hL | skip) | (with_reducible apply frame_State_modCrock <;> first | exact frame_sub rfl hL | skip) | (with_reducible apply frame_thermalStep <;> first | exact frame_sub rfl hL | skip) | (with_reducible apply frame_raiseDev <;> first | exact frame_sub rfl hL | skip) | with_reducible apply frame_foldl | with_reducible apply frame_foldl2 | with_reducible apply frame_foldl1 | split | intro _ | dsimp only)

theorem frame_execThermalSample {L : List Piece} {u : State} (x0 : _) {s : State} (hL : ∀ p, p ∈ ([.power, .crock, .host, .cores, .tb, .funnels, .trace, .counters] : List Piece) → p ∈ L)  (h : Framed L u s) : FramedAnswer L u (execThermalSample x0 s) := by
  unfold execThermalSample
  repeat (first | with_reducible assumption | (with_reducible apply frame_thermalSample <;> first | exact frame_sub rfl hL | skip) | with_reducible apply frame_ifDue | with_reducible exact frame_fault | with_reducible apply frame_next | with_reducible apply frame_foldl | with_reducible apply frame_foldl2 | with_reducible apply frame_foldl1 | split | intro _ | dsimp only)

theorem frame_State_setRing {L : List Piece} {u : State} {s : State} (x1 : _) (x2 : _) (hL : ∀ p, p ∈ ([.ingest] : List Piece) → p ∈ L)  (h : Framed L u s) : Framed L u (State.setRing s x1 x2) := by
  unfold State.setRing
  repeat (first | with_reducible assumption | (with_reducible apply frame_State_modIngest <;> first | exact frame_sub rfl hL | skip) | with_reducible apply frame_foldl | with_reducible apply frame_foldl2 | with_reducible apply frame_foldl1 | split | intro _ | dsimp only)

theorem frame_dropCurrent {L : List Piece} {u : State} (x0 : _) (x1 : _) (x2 : _) {s : State} (hL : ∀ p, p ∈ ([.host, .pre, .cores, .flows, .funnels, .trace, .counters] : List Piece) → p ∈ L)  (h : Framed L u s) : Framed L u (dropCurrent x0 x1 x2 s) := by
  unfold dropCurrent
  repeat (first | with_reducible assumption | (with_reducible apply frame_dropRun <;> first | exact frame_sub rfl hL | skip) | (with_reducible apply frame_count <;> first | exact frame_sub rfl hL | skip) | with_reducible apply frame_foldl | with_reducible apply frame_foldl2 | with_reducible apply frame_foldl1 | split | intro _ | dsimp only)

theorem frame_dropWindows {L : List Piece} {u : State} (x0 : _) (x1 : _) (x2 : _) {s : State} (hL : ∀ p, p ∈ ([.host, .pre, .cores, .flows, .funnels, .trace, .counters] : List Piece) → p ∈ L)  (h : Framed L u s) : Framed L u (dropWindows x0 x1 x2 s) := by
  unfold dropWindows
  repeat (first | with_reducible assumption | (with_reducible apply frame_dropCurrent <;> first | exact frame_sub rfl hL | skip) | (with_reducible apply frame_State_setCtx <;> first | exact frame_sub rfl hL | skip) | (with_reducible apply frame_formGap <;> first | exact frame_sub rfl hL | skip) | (with_reducible apply frame_count <;> first | exact frame_sub rfl hL | skip) | with_reducible apply frame_each | with_reducible apply frame_foldl | with_reducible apply frame_foldl2 | with_reducible apply frame_foldl1 | split | intro _ | dsimp only)

theorem frame_linkBad {L : List Piece} {u : State} (x0 : _) {s : State} (hL : ∀ p, p ∈ ([.power, .ingest, .funnels, .trace] : List Piece) → p ∈ L)  (h : Framed L u s) : Framed L u (linkBad x0 s) := by
  unfold linkBad
  repeat (first | with_reducible assumption | (with_reducible apply frame_raiseDev <;> first | exact frame_sub rfl hL | skip) | (with_reducible apply frame_linkFault <;> first | exact frame_sub rfl hL | skip) | with_reducible apply frame_foldl | with_reducible apply frame_foldl2 | with_reducible apply frame_foldl1 | split | intro _ | dsimp only)

theorem frame_tryUp {L : List Piece} {u : State} (x0 : _) {s : State} (hL : ∀ p, p ∈ ([.power, .ingest, .funnels, .trace] : List Piece) → p ∈ L)  (h : Framed L u s) : Framed L u (tryUp x0 s) := by
  unfold tryUp
  repeat (first | with_reducible assumption | (with_reducible apply frame_State_modLink <;> first | exact frame_sub rfl hL | skip) | (with_reducible apply frame_linkBad <;> first | exact frame_sub rfl hL | skip) | with_reducible apply frame_foldl | with_reducible apply frame_foldl2 | with_reducible apply frame_foldl1 | split | intro _ | dsimp only)

theorem frame_enableLink {L : List Piece} {u : State} (x0 : _) {s : State} (hL : ∀ p, p ∈ ([.power, .ingest, .funnels, .trace] : List Piece) → p ∈ L)  (h : Framed L u s) : Framed L u (enableLink x0 s) := by
  unfold enableLink
  repeat (first | with_reducible assumption | (with_reducible apply frame_State_modLink <;> first | exact frame_sub rfl hL | skip) | (with_reducible apply frame_linkBad <;> first | exact frame_sub rfl hL | skip) | with_reducible apply frame_foldl | with_reducible apply frame_foldl2 | with_reducible apply frame_foldl1 | split | intro _ | dsimp only)

theorem frame_offer {L : List Piece} {u : State} (x0 : _) (x1 : _) {s : State} (hL : ∀ p, p ∈ ([.flows, .funnels, .trace, .counters] : List Piece) → p ∈ L)  (h : Framed L u s) : Framed L u (offer x0 x1 s) := by
  unfold offer
  repeat (first | with_reducible assumption | (with_reducible apply frame_count <;> first | exact frame_sub rfl hL | skip) | (with_reducible apply frame_slicerDrop <;> first | exact frame_sub rfl hL | skip) | (with_reducible apply frame_State_setCtx <;> first | exact frame_sub rfl hL | skip) | with_reducible apply frame_foldl | with_reducible apply frame_foldl2 | with_reducible apply frame_foldl1 | split | intro _ | dsimp only)

theorem frame_nextWin {L : List Piece} {u : State} (x0 : _) {s : State} (hL : ∀ p, p ∈ ([.flows] : List Piece) → p ∈ L)  (h : Framed L u s) : Framed L u (nextWin x0 s).1 := by
  unfold nextWin
  repeat (first | with_reducible assumption | (with_reducible apply frame_State_setCtx <;> first | exact frame_sub rfl hL | skip) | with_reducible apply frame_foldl | with_reducible apply frame_foldl2 | with_reducible apply frame_foldl1 | split | intro _ | dsimp only)

theorem frame_passWindow {L : List Piece} {u : State} (x0 : _) (x1 : _) {s : State} (hL : ∀ p, p ∈ ([.flows] : List Piece) → p ∈ L)  (h : Framed L u s) : Framed L u (passWindow x0 x1 s) := by
  unfold passWindow
  repeat (first | with_reducible assumption | (with_reducible apply frame_State_modCtx <;> first | exact frame_sub rfl hL | skip) | with_reducible apply frame_foldl | with_reducible apply frame_foldl2 | with_reducible apply frame_foldl1 | split | intro _ | dsimp only)

theorem frame_dropFormed {L : List Piece} {u : State} (x0 : _) (x1 : _) (x2 : _) {s : State} (hL : ∀ p, p ∈ ([.flows, .funnels, .trace, .counters] : List Piece) → p ∈ L)  (h : Framed L u s) : Framed L u (dropFormed x0 x1 x2 s) := by
  unfold dropFormed
  repeat (first | with_reducible assumption | (with_reducible apply frame_formGap <;> first | exact frame_sub rfl hL | skip) | (with_reducible apply frame_count <;> first | exact frame_sub rfl hL | skip) | with_reducible apply frame_foldl | with_reducible apply frame_foldl2 | with_reducible apply frame_foldl1 | split | intro _ | dsimp only)

theorem frame_formWindows {L : List Piece} {u : State} (x0 : _) (x1 : _) {s : State} (hL : ∀ p, p ∈ ([.flows, .funnels, .trace, .counters] : List Piece) → p ∈ L)  (h : Framed L u s) : Framed L u (formWindows x0 x1 s) := by
  induction x0 generalizing s with
  | zero => exact h
  | succ k ih =>
    have hw := frame_nextWin x1 (frame_sub rfl hL) h
    unfold formWindows
    split <;> rename_i he <;> rw [he] at hw
    · exact hw
    · exact ih (frame_passWindow _ _ (frame_sub rfl hL) (frame_offer _ _ (frame_sub rfl hL) hw))
    · exact ih (frame_passWindow _ _ (frame_sub rfl hL) (frame_dropFormed _ _ _ (frame_sub rfl hL) hw))

theorem frame_formLink {L : List Piece} {u : State} (x0 : _) (x1 : _) {s : State} (hL : ∀ p, p ∈ ([.flows, .funnels, .trace, .counters] : List Piece) → p ∈ L)  (h : Framed L u s) : Framed L u (formLink x0 x1 s) := by
  unfold formLink
  repeat (first | with_reducible assumption | (with_reducible apply frame_formWindows <;> first | exact frame_sub rfl hL | skip) | with_reducible apply frame_each | with_reducible apply frame_foldl | with_reducible apply frame_foldl2 | with_reducible apply frame_foldl1 | split | intro _ | dsimp only)

theorem frame_execLinkDownDrop {L : List Piece} {u : State} (x0 : _) {s : State} (hL : ∀ p, p ∈ ([.flows, .funnels, .trace, .counters] : List Piece) → p ∈ L)  (h : Framed L u s) : FramedAnswer L u (execLinkDownDrop x0 s) := by
  unfold execLinkDownDrop
  repeat (first | with_reducible assumption | (with_reducible apply frame_nextWin <;> first | exact frame_sub rfl hL | skip) | (with_reducible apply frame_formWindows <;> first | exact frame_sub rfl hL | skip) | with_reducible apply frame_ifDue | with_reducible exact frame_fault | with_reducible apply frame_next | with_reducible apply frame_foldl | with_reducible apply frame_foldl2 | with_reducible apply frame_foldl1 | split | intro _ | dsimp only)

theorem frame_dropBegun {L : List Piece} {u : State} (x0 : _) (x1 : _) (x2 : _) {s : State} (hL : ∀ p, p ∈ ([.flows, .funnels, .trace] : List Piece) → p ∈ L)  (h : Framed L u s) : Framed L u (dropBegun x0 x1 x2 s) := by
  induction x1 generalizing s with
  | zero => exact h
  | succ k ih =>
    have hw := frame_nextWin x2 (frame_sub rfl hL) h
    unfold dropBegun
    split <;> rename_i he <;> rw [he] at hw
    · split
      · exact ih (frame_passWindow _ _ (frame_sub rfl hL) (frame_formGap _ _ _ (frame_sub rfl hL) hw))
      · exact hw
    · exact ih (frame_passWindow _ _ (frame_sub rfl hL) (frame_formGap _ _ _ (frame_sub rfl hL) hw))
    · exact ih (frame_passWindow _ _ (frame_sub rfl hL) (frame_formGap _ _ _ (frame_sub rfl hL) hw))

theorem frame_dropIncomplete {L : List Piece} {u : State} (x0 : _) (x1 : _) (x2 : _) {s : State} (hL : ∀ p, p ∈ ([.flows, .funnels, .trace, .counters] : List Piece) → p ∈ L)  (h : Framed L u s) : Framed L u (dropIncomplete x0 x1 x2 s) := by
  induction x1 generalizing s with
  | zero => exact h
  | succ k ih =>
    have hw := frame_nextWin x2 (frame_sub rfl hL) h
    unfold dropIncomplete
    split <;> rename_i he <;> rw [he] at hw
    · split
      · exact ih (frame_passWindow _ _ (frame_sub rfl hL) (frame_formGap _ _ _ (frame_sub rfl hL) hw))
      · exact hw
    · exact ih (frame_passWindow _ _ (frame_sub rfl hL) (frame_offer _ _ (frame_sub rfl hL) hw))
    · exact ih (frame_passWindow _ _ (frame_sub rfl hL) (frame_dropFormed _ _ _ (frame_sub rfl hL) hw))

theorem frame_disableLink {L : List Piece} {u : State} (x0 : _) {s : State} (hL : ∀ p, p ∈ ([.flows, .ingest, .funnels, .trace, .counters] : List Piece) → p ∈ L)  (h : Framed L u s) : Framed L u (disableLink x0 s) := by
  unfold disableLink
  repeat (first | with_reducible assumption | (with_reducible apply frame_State_modLink <;> first | exact frame_sub rfl hL | skip) | (with_reducible apply frame_dropIncomplete <;> first | exact frame_sub rfl hL | skip) | with_reducible apply frame_each | with_reducible apply frame_foldl | with_reducible apply frame_foldl2 | with_reducible apply frame_foldl1 | split | intro _ | dsimp only)

theorem frame_redivide {L : List Piece} {u : State} (x0 : _) {s : State} (hL : ∀ p, p ∈ ([.host, .pre, .cores, .flows, .ingest, .funnels, .trace, .counters] : List Piece) → p ∈ L)  (h : Framed L u s) : Framed L u (redivide x0 s) := by
  unfold redivide
  repeat (first | with_reducible assumption | (with_reducible apply frame_dropWindows <;> first | exact frame_sub rfl hL | skip) | (with_reducible apply frame_dropBegun <;> first | exact frame_sub rfl hL | skip) | (with_reducible apply frame_State_modIngest <;> first | exact frame_sub rfl hL | skip) | (with_reducible apply frame_State_setRing <;> first | exact frame_sub rfl hL | skip) | with_reducible apply frame_each | with_reducible apply frame_foldl | with_reducible apply frame_foldl2 | with_reducible apply frame_foldl1 | split | intro _ | dsimp only)

theorem frame_regrid {L : List Piece} {u : State} (x0 : _) {s : State} (hL : ∀ p, p ∈ ([.flows] : List Piece) → p ∈ L)  (h : Framed L u s) : Framed L u (regrid x0 s) := by
  unfold regrid
  repeat (first | with_reducible assumption | (with_reducible apply frame_State_modFlows <;> first | exact frame_sub rfl hL | skip) | with_reducible apply frame_foldl | with_reducible apply frame_foldl2 | with_reducible apply frame_foldl1 | split | intro _ | dsimp only)

theorem frame_overrun {L : List Piece} {u : State} (x0 : _) (x1 : _) {s : State} (hL : ∀ p, p ∈ ([.host, .pre, .cores, .flows, .funnels, .trace, .counters] : List Piece) → p ∈ L)  (h : Framed L u s) : Framed L u (overrun x0 x1 s) := by
  unfold overrun
  repeat (first | with_reducible assumption | (with_reducible apply frame_dropWindows <;> first | exact frame_sub rfl hL | skip) | with_reducible apply frame_each | with_reducible apply frame_foldl | with_reducible apply frame_foldl2 | with_reducible apply frame_foldl1 | split | intro _ | dsimp only)

theorem frame_writeSample {L : List Piece} {u : State} (x0 : _) (x1 : _) (x2 : _) (x3 : _) (x4 : _) {s : State} (hL : ∀ p, p ∈ ([.host, .pre, .cores, .flows, .ingest, .funnels, .trace, .counters] : List Piece) → p ∈ L)  (h : Framed L u s) : Framed L u (writeSample x0 x1 x2 x3 x4 s) := by
  unfold writeSample
  repeat (first | with_reducible assumption | (with_reducible apply frame_overrun <;> first | exact frame_sub rfl hL | skip) | (with_reducible apply frame_State_setRing <;> first | exact frame_sub rfl hL | skip) | with_reducible apply frame_foldl | with_reducible apply frame_foldl2 | with_reducible apply frame_foldl1 | split | intro _ | dsimp only)

theorem frame_channelise {L : List Piece} {u : State} (x0 : _) (x1 : _) (x2 : _) (x3 : _) (x4 : _) {s : State} (hL : ∀ p, p ∈ ([.host, .pre, .cores, .flows, .ingest, .funnels, .trace, .counters] : List Piece) → p ∈ L)  (h : Framed L u s) : Framed L u (channelise x0 x1 x2 x3 x4 s) := by
  unfold channelise
  repeat (first | with_reducible assumption | (with_reducible apply frame_State_setRing <;> first | exact frame_sub rfl hL | skip) | (with_reducible apply frame_writeSample <;> first | exact frame_sub rfl hL | skip) | (with_reducible apply frame_count <;> first | exact frame_sub rfl hL | skip) | with_reducible apply frame_each | with_reducible apply frame_foldl | with_reducible apply frame_foldl2 | with_reducible apply frame_foldl1 | split | intro _ | dsimp only)

theorem frame_decimate {L : List Piece} {u : State} (x0 : _) (x1 : _) (x2 : _) (x3 : _) (x4 : _) {s : State} (hL : ∀ p, p ∈ ([.draw, .host, .pre, .cores, .flows, .ingest, .funnels, .trace, .counters] : List Piece) → p ∈ L)  (h : Framed L u s) : Framed L u (decimate x0 x1 x2 x3 x4 s) := by
  unfold decimate
  repeat (first | with_reducible assumption | (with_reducible apply frame_State_setRing <;> first | exact frame_sub rfl hL | skip) | (with_reducible apply frame_writeSample <;> first | exact frame_sub rfl hL | skip) | (with_reducible apply frame_count <;> first | exact frame_sub rfl hL | skip) | (with_reducible apply frame_State_nextDraw <;> first | exact frame_sub rfl hL | skip) | with_reducible apply frame_foldl | with_reducible apply frame_foldl2 | with_reducible apply frame_foldl1 | split | intro _ | dsimp only)

theorem frame_takeFrame {L : List Piece} {u : State} (x0 : _) (x1 : _) (x2 : _) (x3 : _) {s : State} (hL : ∀ p, p ∈ ([.draw, .host, .pre, .cores, .flows, .ingest, .funnels, .trace, .counters] : List Piece) → p ∈ L)  (h : Framed L u s) : Framed L u (takeFrame x0 x1 x2 x3 s) := by
  unfold takeFrame
  repeat (first | with_reducible assumption | (with_reducible apply frame_count <;> first | exact frame_sub rfl hL | skip) | (with_reducible apply frame_writeSample <;> first | exact frame_sub rfl hL | skip) | (with_reducible apply frame_channelise <;> first | exact frame_sub rfl hL | skip) | (with_reducible apply frame_decimate <;> first | exact frame_sub rfl hL | skip) | with_reducible apply frame_each | with_reducible apply frame_foldl | with_reducible apply frame_foldl2 | with_reducible apply frame_foldl1 | split | intro _ | dsimp only)

theorem frame_takeFrames {L : List Piece} {u : State} (x0 : _) (x1 : _) (x2 : _) (x3 : _) {s : State} (hL : ∀ p, p ∈ ([.draw, .host, .pre, .cores, .flows, .ingest, .funnels, .trace, .counters] : List Piece) → p ∈ L)  (h : Framed L u s) : Framed L u (takeFrames x0 x1 x2 x3 s) := by
  induction x3 generalizing x1 s with
  | nil => exact h
  | cons v r ih => exact ih _ (frame_takeFrame _ _ _ _ (frame_sub rfl hL) h)

theorem frame_sampleArrival {L : List Piece} {u : State} (x0 : _) (x1 : _) (x2 : _) (x3 : _) {s : State} (hL : ∀ p, p ∈ ([.draw, .host, .pre, .cores, .flows, .ingest, .funnels, .trace, .counters] : List Piece) → p ∈ L)  (h : Framed L u s) : Framed L u (sampleArrival x0 x1 x2 x3 s) := by
  unfold sampleArrival
  repeat (first | with_reducible assumption | (with_reducible apply frame_count <;> first | exact frame_sub rfl hL | skip) | (with_reducible apply frame_takeFrames <;> first | exact frame_sub rfl hL | skip) | (with_reducible apply frame_State_modLink <;> first | exact frame_sub rfl hL | skip) | (with_reducible apply frame_formLink <;> first | exact frame_sub rfl hL | skip) | with_reducible apply frame_each | with_reducible apply frame_foldl | with_reducible apply frame_foldl2 | with_reducible apply frame_foldl1 | split | intro _ | dsimp only)

theorem frame_execSampleArrival {L : List Piece} {u : State} (x0 : _) (x1 : _) (x2 : _) (x3 : _) {s : State} (hL : ∀ p, p ∈ ([.draw, .host, .pre, .cores, .flows, .ingest, .funnels, .trace, .counters] : List Piece) → p ∈ L)  (h : Framed L u s) : FramedAnswer L u (execSampleArrival x0 x1 x2 x3 s) := by
  unfold execSampleArrival
  repeat (first | with_reducible assumption | (with_reducible apply frame_sampleArrival <;> first | exact frame_sub rfl hL | skip) | with_reducible apply frame_ifDue | with_reducible exact frame_fault | with_reducible apply frame_next | with_reducible apply frame_foldl | with_reducible apply frame_foldl2 | with_reducible apply frame_foldl1 | split | intro _ | dsimp only)

theorem frame_laneProven {L : List Piece} {u : State} (x0 : _) {s : State} (hL : ∀ p, p ∈ ([.draw, .power, .crock, .ingest, .funnels, .trace] : List Piece) → p ∈ L)  (h : Framed L u s) : Framed L u (laneProven x0 s) := by
  unfold laneProven
  repeat (first | with_reducible assumption | (with_reducible apply frame_restored <;> first | exact frame_sub rfl hL | skip) | (with_reducible apply frame_State_modIngest <;> first | exact frame_sub rfl hL | skip) | with_reducible apply frame_foldl | with_reducible apply frame_foldl2 | with_reducible apply frame_foldl1 | split | intro _ | dsimp only)

theorem frame_execLaneSyncLock {L : List Piece} {u : State} (x0 : _) {s : State} (hL : ∀ p, p ∈ ([.draw, .power, .crock, .ingest, .funnels, .trace] : List Piece) → p ∈ L)  (h : Framed L u s) : FramedAnswer L u (execLaneSyncLock x0 s) := by
  unfold execLaneSyncLock
  repeat (first | with_reducible assumption | (with_reducible apply frame_tryUp <;> first | exact frame_sub rfl hL | skip) | (with_reducible apply frame_State_modLink <;> first | exact frame_sub rfl hL | skip) | (with_reducible apply frame_laneProven <;> first | exact frame_sub rfl hL | skip) | with_reducible apply frame_ifDue | with_reducible exact frame_fault | with_reducible apply frame_next | with_reducible apply frame_foldl | with_reducible apply frame_foldl2 | with_reducible apply frame_foldl1 | split | intro _ | dsimp only)

theorem frame_execLaneLockLoss {L : List Piece} {u : State} (x0 : _) {s : State} (hL : ∀ p, p ∈ ([.draw, .power, .crock, .host, .pre, .tiles, .cores, .flows, .ingest, .tb, .funnels, .trace, .counters] : List Piece) → p ∈ L)  (h : Framed L u s) : FramedAnswer L u (execLaneLockLoss x0 s) := by
  unfold execLaneLockLoss
  repeat (first | with_reducible assumption | (with_reducible apply frame_State_modLink <;> first | exact frame_sub rfl hL | skip) | (with_reducible apply frame_count <;> first | exact frame_sub rfl hL | skip) | (with_reducible apply frame_attribute_ <;> first | exact frame_sub rfl hL | skip) | with_reducible apply frame_ifDue | with_reducible exact frame_fault | with_reducible apply frame_next | with_reducible apply frame_foldl | with_reducible apply frame_foldl2 | with_reducible apply frame_foldl1 | split | intro _ | dsimp only)

theorem frame_armTb {L : List Piece} {u : State} {s : State} (hL : ∀ p, p ∈ ([.tb] : List Piece) → p ∈ L)  (h : Framed L u s) : Framed L u (armTb s) := by
  unfold armTb
  repeat (first | with_reducible assumption | (with_reducible apply frame_State_modTb <;> first | exact frame_sub rfl hL | skip) | with_reducible apply frame_foldl | with_reducible apply frame_foldl2 | with_reducible apply frame_foldl1 | split | intro _ | dsimp only)

theorem frame_stopTb {L : List Piece} {u : State} {s : State} (hL : ∀ p, p ∈ ([.crock, .tb] : List Piece) → p ∈ L)  (h : Framed L u s) : Framed L u (stopTb s) := by
  unfold stopTb
  repeat (first | with_reducible assumption | (with_reducible apply frame_State_modTb <;> first | exact frame_sub rfl hL | skip) | (with_reducible apply frame_State_foldTick <;> first | exact frame_sub rfl hL | skip) | with_reducible apply frame_foldl | with_reducible apply frame_foldl2 | with_reducible apply frame_foldl1 | split | intro _ | dsimp only)

theorem frame_execTbArm {L : List Piece} {u : State} (x0 : _) {s : State} (hL : ∀ p, p ∈ ([.tb] : List Piece) → p ∈ L)  (h : Framed L u s) : FramedAnswer L u (execTbArm x0 s) := by
  unfold execTbArm
  repeat (first | with_reducible assumption | (with_reducible apply frame_armTb <;> first | exact frame_sub rfl hL | skip) | with_reducible apply frame_ifDue | with_reducible exact frame_fault | with_reducible apply frame_next | with_reducible apply frame_foldl | with_reducible apply frame_foldl2 | with_reducible apply frame_foldl1 | split | intro _ | dsimp only)

theorem frame_execTbStop {L : List Piece} {u : State} (x0 : _) {s : State} (hL : ∀ p, p ∈ ([.crock, .tb] : List Piece) → p ∈ L)  (h : Framed L u s) : FramedAnswer L u (execTbStop x0 s) := by
  unfold execTbStop
  repeat (first | with_reducible assumption | (with_reducible apply frame_stopTb <;> first | exact frame_sub rfl hL | skip) | with_reducible apply frame_ifDue | with_reducible exact frame_fault | with_reducible apply frame_next | with_reducible apply frame_foldl | with_reducible apply frame_foldl2 | with_reducible apply frame_foldl1 | split | intro _ | dsimp only)

theorem frame_loadTick {L : List Piece} {u : State} (x0 : _) {s : State} (hL : ∀ p, p ∈ ([.power, .crock, .flows, .ingest, .tb, .funnels, .trace] : List Piece) → p ∈ L)  (h : Framed L u s) : Framed L u (loadTick x0 s) := by
  unfold loadTick
  repeat (first | with_reducible assumption | (with_reducible apply frame_State_modTb <;> first | exact frame_sub rfl hL | skip) | (with_reducible apply frame_State_modMirror <;> first | exact frame_sub rfl hL | skip) | (with_reducible apply frame_State_modIngest <;> first | exact frame_sub rfl hL | skip) | (with_reducible apply frame_State_modFlows <;> first | exact frame_sub rfl hL | skip) | (with_reducible apply frame_tryUp <;> first | exact frame_sub rfl hL | skip) | with_reducible apply frame_each | with_reducible apply frame_foldl | with_reducible apply frame_foldl2 | with_reducible apply frame_foldl1 | split | intro _ | dsimp only)

theorem frame_sysrefEdge {L : List Piece} {u : State} (x0 : _) {s : State} (hL : ∀ p, p ∈ ([.draw, .power, .crock, .flows, .ingest, .tb, .funnels, .trace, .counters] : List Piece) → p ∈ L)  (h : Framed L u s) : Framed L u (sysrefEdge x0 s) := by
  unfold sysrefEdge
  repeat (first | with_reducible assumption | (with_reducible apply frame_State_nextDraw <;> first | exact frame_sub rfl hL | skip) | (with_reducible apply frame_loadTick <;> first | exact frame_sub rfl hL | skip) | (with_reducible apply frame_State_modTb <;> first | exact frame_sub rfl hL | skip) | (with_reducible apply frame_raiseDev <;> first | exact frame_sub rfl hL | skip) | (with_reducible apply frame_count <;> first | exact frame_sub rfl hL | skip) | with_reducible apply frame_foldl | with_reducible apply frame_foldl2 | with_reducible apply frame_foldl1 | split | intro _ | dsimp only)

theorem frame_execSysrefEdge {L : List Piece} {u : State} (x0 : _) {s : State} (hL : ∀ p, p ∈ ([.draw, .power, .crock, .flows, .ingest, .tb, .funnels, .trace, .counters] : List Piece) → p ∈ L)  (h : Framed L u s) : FramedAnswer L u (execSysrefEdge x0 s) := by
  unfold execSysrefEdge
  repeat (first | with_reducible assumption | (with_reducible apply frame_sysrefEdge <;> first | exact frame_sub rfl hL | skip) | with_reducible apply frame_ifDue | with_reducible exact frame_fault | with_reducible apply frame_next | with_reducible apply frame_foldl | with_reducible apply frame_foldl2 | with_reducible apply frame_foldl1 | split | intro _ | dsimp only)

theorem frame_execTbTickLoRead {L : List Piece} {u : State} (x0 : _) {s : State} (hL : ∀ p, p ∈ ([.host, .tb] : List Piece) → p ∈ L)  (h : Framed L u s) : FramedAnswer L u (execTbTickLoRead x0 s) := by
  unfold execTbTickLoRead
  repeat (first | with_reducible assumption | (with_reducible apply frame_State_emit <;> first | exact frame_sub rfl hL | skip) | (with_reducible apply frame_State_modTb <;> first | exact frame_sub rfl hL | skip) | with_reducible apply frame_ifDue | with_reducible exact frame_fault | with_reducible apply frame_next | with_reducible apply frame_foldl | with_reducible apply frame_foldl2 | with_reducible apply frame_foldl1 | split | intro _ | dsimp only)

theorem frame_trigInEdge {L : List Piece} {u : State} (x0 : _) (x1 : _) (x2 : _) (x3 : _) {s : State} (hL : ∀ p, p ∈ ([.draw, .tb, .funnels, .counters] : List Piece) → p ∈ L)  (h : Framed L u s) : Framed L u (trigInEdge x0 x1 x2 x3 s) := by
  unfold trigInEdge
  repeat (first | with_reducible assumption | (with_reducible apply frame_State_nextDraw <;> first | exact frame_sub rfl hL | skip) | (with_reducible apply frame_count <;> first | exact frame_sub rfl hL | skip) | (with_reducible apply frame_State_modTb <;> first | exact frame_sub rfl hL | skip) | (with_reducible apply frame_formStamped <;> first | exact frame_sub rfl hL | skip) | with_reducible apply frame_foldl | with_reducible apply frame_foldl2 | with_reducible apply frame_foldl1 | split | intro _ | dsimp only)

theorem frame_execTrigInEdge {L : List Piece} {u : State} (x0 : _) (x1 : _) (x2 : _) (x3 : _) {s : State} (hL : ∀ p, p ∈ ([.draw, .tb, .funnels, .counters] : List Piece) → p ∈ L)  (h : Framed L u s) : FramedAnswer L u (execTrigInEdge x0 x1 x2 x3 s) := by
  unfold execTrigInEdge
  repeat (first | with_reducible assumption | (with_reducible apply frame_trigInEdge <;> first | exact frame_sub rfl hL | skip) | with_reducible apply frame_ifDue | with_reducible exact frame_fault | with_reducible apply frame_next | with_reducible apply frame_foldl | with_reducible apply frame_foldl2 | with_reducible apply frame_foldl1 | split | intro _ | dsimp only)

theorem frame_execTrigOutAssert {L : List Piece} {u : State} (x0 : _) {s : State} (hL : ∀ p, p ∈ ([.host, .tb, .counters] : List Piece) → p ∈ L)  (h : Framed L u s) : FramedAnswer L u (execTrigOutAssert x0 s) := by
  unfold execTrigOutAssert
  repeat (first | with_reducible assumption | (with_reducible apply frame_drivePin <;> first | exact frame_sub rfl hL | skip) | (with_reducible apply frame_State_modPin <;> first | exact frame_sub rfl hL | skip) | with_reducible apply frame_ifDue | with_reducible exact frame_fault | with_reducible apply frame_next | with_reducible apply frame_foldl | with_reducible apply frame_foldl2 | with_reducible apply frame_foldl1 | split | intro _ | dsimp only)

theorem frame_execTickPtpCapture {L : List Piece} {u : State} {s : State} (hL : ∀ p, p ∈ ([.tb] : List Piece) → p ∈ L)  (h : Framed L u s) : FramedAnswer L u (execTickPtpCapture s) := by
  unfold execTickPtpCapture
  repeat (first | with_reducible assumption | (with_reducible apply frame_State_modTb <;> first | exact frame_sub rfl hL | skip) | with_reducible apply frame_ifDue | with_reducible exact frame_fault | with_reducible apply frame_next | with_reducible apply frame_foldl | with_reducible apply frame_foldl2 | with_reducible apply frame_foldl1 | split | intro _ | dsimp only)

theorem frame_refclkLost {L : List Piece} {u : State} {s : State} (hL : ∀ p, p ∈ ([.power, .crock, .host, .pre, .tiles, .cores, .flows, .ingest, .tb, .funnels, .net, .trace, .counters, .pkg] : List Piece) → p ∈ L)  (h : Framed L u s) : Framed L u (refclkLost s) := by
  unfold refclkLost
  repeat (first | with_reducible assumption | (with_reducible apply frame_State_modPower <;> first | exact frame_sub rfl hL | skip) | (with_reducible apply frame_dropBegun <;> first | exact frame_sub rfl hL | skip) | (with_reducible apply frame_State_modTb <;> first | exact frame_sub rfl hL | skip) | (with_reducible apply frame_State_foldTick <;> first | exact frame_sub rfl hL | skip) | (with_reducible apply frame_State_modIngest <;> first | exact frame_sub rfl hL | skip) | (with_reducible apply frame_suppressAll <;> first | exact frame_sub rfl hL | skip) | (with_reducible apply frame_cancelRun <;> first | exact frame_sub rfl hL | skip) | (with_reducible apply frame_retractRec <;> first | exact frame_sub rfl hL | skip) | (with_reducible apply frame_State_modFlows <;> first | exact frame_sub rfl hL | skip) | (with_reducible apply frame_raiseDev <;> first | exact frame_sub rfl hL | skip) | (with_reducible apply frame_settleRun <;> first | exact frame_sub rfl hL | skip) | with_reducible apply frame_each | with_reducible apply frame_foldl | with_reducible apply frame_foldl2 | with_reducible apply frame_foldl1 | split | intro _ | dsimp only | (with_reducible apply frame_mk; iterate 22 (first | exact Or.inr (hL _ (by decide)) | with_reducible exact Or.inl rfl)))

theorem frame_execRefclkLost {L : List Piece} {u : State} {s : State} (hL : ∀ p, p ∈ ([.power, .crock, .host, .pre, .tiles, .cores, .flows, .ingest, .tb, .funnels, .net, .trace, .counters, .pkg] : List Piece) → p ∈ L)  (h : Framed L u s) : FramedAnswer L u (execRefclkLost s) := by
  unfold execRefclkLost
  repeat (first | with_reducible assumption | (with_reducible apply frame_refclkLost <;> first | exact frame_sub rfl hL | skip) | with_reducible apply frame_ifDue | with_reducible exact frame_fault | with_reducible apply frame_next | with_reducible apply frame_foldl | with_reducible apply frame_foldl2 | with_reducible apply frame_foldl1 | split | intro _ | dsimp only)

theorem frame_raiseMsix {L : List Piece} {u : State} (x0 : _) (x1 : _) {s : State} (hL : ∀ p, p ∈ ([.host] : List Piece) → p ∈ L)  (h : Framed L u s) : Framed L u (raiseMsix x0 x1 s) := by
  unfold raiseMsix
  repeat (first | with_reducible assumption | (with_reducible apply frame_State_emit <;> first | exact frame_sub rfl hL | skip) | (with_reducible apply frame_State_modHost <;> first | exact frame_sub rfl hL | skip) | with_reducible apply frame_foldl | with_reducible apply frame_foldl2 | with_reducible apply frame_foldl1 | split | intro _ | dsimp only)

theorem frame_raiseHeld {L : List Piece} {u : State} (x0 : _) (x1 : _) (x2 : _) {s : State} (hL : ∀ p, p ∈ ([.host] : List Piece) → p ∈ L)  (h : Framed L u s) : Framed L u (raiseHeld x0 x1 x2 s) := by
  unfold raiseHeld
  repeat (first | with_reducible assumption | (with_reducible apply frame_State_modHost <;> first | exact frame_sub rfl hL | skip) | (with_reducible apply frame_raiseMsix <;> first | exact frame_sub rfl hL | skip) | with_reducible apply frame_foldl | with_reducible apply frame_foldl2 | with_reducible apply frame_foldl1 | split | intro _ | dsimp only)

theorem frame_execMsixHoldoffEnd {L : List Piece} {u : State} (x0 : _) (x1 : _) {s : State} (hL : ∀ p, p ∈ ([.host] : List Piece) → p ∈ L)  (h : Framed L u s) : FramedAnswer L u (execMsixHoldoffEnd x0 x1 s) := by
  unfold execMsixHoldoffEnd
  repeat (first | with_reducible assumption | (with_reducible apply frame_State_modHost <;> first | exact frame_sub rfl hL | skip) | (with_reducible apply frame_raiseHeld <;> first | exact frame_sub rfl hL | skip) | with_reducible apply frame_ifDue | with_reducible exact frame_fault | with_reducible apply frame_next | with_reducible apply frame_foldl | with_reducible apply frame_foldl2 | with_reducible apply frame_foldl1 | split | intro _ | dsimp only)

theorem frame_flushPba {L : List Piece} {u : State} (x0 : _) {s : State} (hL : ∀ p, p ∈ ([.host] : List Piece) → p ∈ L)  (h : Framed L u s) : Framed L u (flushPba x0 s) := by
  unfold flushPba
  repeat (first | with_reducible assumption | (with_reducible apply frame_State_emit <;> first | exact frame_sub rfl hL | skip) | (with_reducible apply frame_State_modHost <;> first | exact frame_sub rfl hL | skip) | with_reducible apply frame_each | with_reducible apply frame_foldl | with_reducible apply frame_foldl2 | with_reducible apply frame_foldl1 | split | intro _ | dsimp only)

theorem frame_writeMsix {L : List Piece} {u : State} (x0 : _) (x1 : _) (x2 : _) {s : State} (hL : ∀ p, p ∈ ([.host] : List Piece) → p ∈ L)  (h : Framed L u s) : Framed L u (writeMsix x0 x1 x2 s) := by
  unfold writeMsix
  repeat (first | with_reducible assumption | (with_reducible apply frame_flushPba <;> first | exact frame_sub rfl hL | skip) | (with_reducible apply frame_State_modHost <;> first | exact frame_sub rfl hL | skip) | with_reducible apply frame_foldl | with_reducible apply frame_foldl2 | with_reducible apply frame_foldl1 | split | intro _ | dsimp only)

theorem frame_writeSlot {L : List Piece} {u : State} (x0 : _) (x1 : _) (x2 : _) (x3 : _) (x4 : _) {s : State} (hL : ∀ p, p ∈ ([.host] : List Piece) → p ∈ L)  (h : Framed L u s) : Framed L u (writeSlot x0 x1 x2 x3 x4 s) := by
  unfold writeSlot
  repeat (first | with_reducible assumption | (with_reducible apply frame_State_hostWrite <;> first | exact frame_sub rfl hL | skip) | (with_reducible apply frame_State_modLane <;> first | exact frame_sub rfl hL | skip) | with_reducible apply frame_foldl | with_reducible apply frame_foldl2 | with_reducible apply frame_foldl1 | split | intro _ | dsimp only)

theorem frame_execReplyWrite {L : List Piece} {u : State} (x0 : _) (x1 : _) {s : State} (hL : ∀ p, p ∈ ([.host] : List Piece) → p ∈ L)  (h : Framed L u s) : FramedAnswer L u (execReplyWrite x0 x1 s) := by
  unfold execReplyWrite
  repeat (first | with_reducible assumption | (with_reducible apply frame_writeSlot <;> first | exact frame_sub rfl hL | skip) | (with_reducible apply frame_State_modLane <;> first | exact frame_sub rfl hL | skip) | (with_reducible apply frame_raiseHeld <;> first | exact frame_sub rfl hL | skip) | with_reducible apply frame_each | with_reducible apply frame_ifDue | with_reducible exact frame_fault | with_reducible apply frame_next | with_reducible apply frame_foldl | with_reducible apply frame_foldl2 | with_reducible apply frame_foldl1 | split | intro _ | dsimp only)

theorem frame_replyRead {L : List Piece} {u : State} (x0 : _) (x1 : _) (x2 : _) {s : State} (hL : ∀ p, p ∈ ([.host] : List Piece) → p ∈ L)  (h : Framed L u s) : Framed L u (replyRead x0 x1 x2 s) := by
  unfold replyRead
  repeat (first | with_reducible assumption | (with_reducible apply frame_State_modLane <;> first | exact frame_sub rfl hL | skip) | with_reducible apply frame_foldl | with_reducible apply frame_foldl2 | with_reducible apply frame_foldl1 | split | intro _ | dsimp only)

theorem frame_execPtReplyRead {L : List Piece} {u : State} (x0 : _) (x1 : _) (x2 : _) {s : State} (hL : ∀ p, p ∈ ([.host] : List Piece) → p ∈ L)  (h : Framed L u s) : FramedAnswer L u (execPtReplyRead x0 x1 x2 s) := by
  unfold execPtReplyRead
  repeat (first | with_reducible assumption | (with_reducible apply frame_replyRead <;> first | exact frame_sub rfl hL | skip) | with_reducible apply frame_ifDue | with_reducible exact frame_fault | with_reducible apply frame_next | with_reducible apply frame_foldl | with_reducible apply frame_foldl2 | with_reducible apply frame_foldl1 | split | intro _ | dsimp only)

theorem frame_laneEnable {L : List Piece} {u : State} (x0 : _) (x1 : _) {s : State} (hL : ∀ p, p ∈ ([.host] : List Piece) → p ∈ L)  (h : Framed L u s) : Framed L u (laneEnable x0 x1 s) := by
  unfold laneEnable
  repeat (first | with_reducible assumption | (with_reducible apply frame_State_modLane <;> first | exact frame_sub rfl hL | skip) | with_reducible apply frame_foldl | with_reducible apply frame_foldl2 | with_reducible apply frame_foldl1 | split | intro _ | dsimp only)

theorem frame_cancelWaiting {L : List Piece} {u : State} (x0 : _) {s : State} (hL : ∀ p, p ∈ ([.host, .pre, .tiles, .cores, .funnels, .running, .waiting, .trace, .counters] : List Piece) → p ∈ L)  (h : Framed L u s) : Framed L u (cancelWaiting x0 s) := by
  unfold cancelWaiting
  repeat (first | with_reducible assumption | (with_reducible apply frame_State_modTile <;> first | exact frame_sub rfl hL | skip) | (with_reducible apply frame_retractLoad <;> first | exact frame_sub rfl hL | skip) | (with_reducible apply frame_finish <;> first | exact frame_sub rfl hL | skip) | with_reducible apply frame_each | with_reducible apply frame_foldl | with_reducible apply frame_foldl2 | with_reducible apply frame_foldl1 | split | intro _ | dsimp only | (with_reducible apply frame_mk; iterate 22 (first | exact Or.inr (hL _ (by decide)) | with_reducible exact Or.inl rfl)))

theorem frame_returnSet {L : List Piece} {u : State} (x0 : _) {s : State} (hL : ∀ p, p ∈ ([.pre] : List Piece) → p ∈ L)  (h : Framed L u s) : Framed L u (returnSet x0 s) := by
  unfold returnSet
  repeat (first | with_reducible assumption | (with_reducible apply frame_State_modPre <;> first | exact frame_sub rfl hL | skip) | with_reducible apply frame_foldl | with_reducible apply frame_foldl2 | with_reducible apply frame_foldl1 | split | intro _ | dsimp only)

theorem frame_withdraw {L : List Piece} {u : State} (x0 : _) {s : State} (hL : ∀ p, p ∈ ([.host, .pre, .tiles, .cores, .funnels, .running, .waiting, .trace, .counters] : List Piece) → p ∈ L)  (h : Framed L u s) : Framed L u (withdraw x0 s) := by
  unfold withdraw
  repeat (first | with_reducible assumption | (with_reducible apply frame_finish <;> first | exact frame_sub rfl hL | skip) | (with_reducible apply frame_returnSet <;> first | exact frame_sub rfl hL | skip) | (with_reducible apply frame_cancelWaiting <;> first | exact frame_sub rfl hL | skip) | with_reducible apply frame_foldl | with_reducible apply frame_foldl2 | with_reducible apply frame_foldl1 | split | intro _ | dsimp only)

theorem frame_laneDisable {L : List Piece} {u : State} (x0 : _) (x1 : _) {s : State} (hL : ∀ p, p ∈ ([.host, .pre, .tiles, .cores, .funnels, .running, .waiting, .trace, .counters] : List Piece) → p ∈ L)  (h : Framed L u s) : Framed L u (laneDisable x0 x1 s) := by
  unfold laneDisable
  repeat (first | with_reducible assumption | (with_reducible apply frame_State_modLane <;> first | exact frame_sub rfl hL | skip) | (with_reducible apply frame_withdraw <;> first | exact frame_sub rfl hL | skip) | with_reducible apply frame_each | with_reducible apply frame_foldl | with_reducible apply frame_foldl2 | with_reducible apply frame_foldl1 | split | intro _ | dsimp only)

theorem frame_replyEnable {L : List Piece} {u : State} (x0 : _) (x1 : _) {s : State} (hL : ∀ p, p ∈ ([.host] : List Piece) → p ∈ L)  (h : Framed L u s) : Framed L u (replyEnable x0 x1 s) := by
  unfold replyEnable
  repeat (first | with_reducible assumption | (with_reducible apply frame_State_modLane <;> first | exact frame_sub rfl hL | skip) | with_reducible apply frame_foldl | with_reducible apply frame_foldl2 | with_reducible apply frame_foldl1 | split | intro _ | dsimp only)

theorem frame_replyDisable {L : List Piece} {u : State} (x0 : _) (x1 : _) {s : State} (hL : ∀ p, p ∈ ([.host, .funnels, .trace, .counters] : List Piece) → p ∈ L)  (h : Framed L u s) : Framed L u (replyDisable x0 x1 s) := by
  unfold replyDisable
  repeat (first | with_reducible assumption | (with_reducible apply frame_State_modLane <;> first | exact frame_sub rfl hL | skip) | (with_reducible apply frame_count <;> first | exact frame_sub rfl hL | skip) | (with_reducible apply frame_raisePart <;> first | exact frame_sub rfl hL | skip) | (with_reducible apply frame_traceOnly <;> first | exact frame_sub rfl hL | skip) | with_reducible apply frame_each | with_reducible apply frame_foldl | with_reducible apply frame_foldl2 | with_reducible apply frame_foldl1 | split | intro _ | dsimp only)

theorem frame_execLaneEnable {L : List Piece} {u : State} (x0 : _) (x1 : _) {s : State} (hL : ∀ p, p ∈ ([.host] : List Piece) → p ∈ L)  (h : Framed L u s) : FramedAnswer L u (execLaneEnable x0 x1 s) := by
  unfold execLaneEnable
  repeat (first | with_reducible assumption | (with_reducible apply frame_laneEnable <;> first | exact frame_sub rfl hL | skip) | with_reducible apply frame_ifDue | with_reducible exact frame_fault | with_reducible apply frame_next | with_reducible apply frame_foldl | with_reducible apply frame_foldl2 | with_reducible apply frame_foldl1 | split | intro _ | dsimp only)

theorem frame_execLaneDisable {L : List Piece} {u : State} (x0 : _) (x1 : _) {s : State} (hL : ∀ p, p ∈ ([.host, .pre, .tiles, .cores, .funnels, .running, .waiting, .trace, .counters] : List Piece) → p ∈ L)  (h : Framed L u s) : FramedAnswer L u (execLaneDisable x0 x1 s) := by
  unfold execLaneDisable
  repeat (first | with_reducible assumption | (with_reducible apply frame_laneDisable <;> first | exact frame_sub rfl hL | skip) | with_reducible apply frame_ifDue | with_reducible exact frame_fault | with_reducible apply frame_next | with_reducible apply frame_foldl | with_reducible apply frame_foldl2 | with_reducible apply frame_foldl1 | split | intro _ | dsimp only)

theorem frame_execReplyEnable {L : List Piece} {u : State} (x0 : _) (x1 : _) {s : State} (hL : ∀ p, p ∈ ([.host] : List Piece) → p ∈ L)  (h : Framed L u s) : FramedAnswer L u (execReplyEnable x0 x1 s) := by
  unfold execReplyEnable
  repeat (first | with_reducible assumption | (with_reducible apply frame_replyEnable <;> first | exact frame_sub rfl hL | skip) | with_reducible apply frame_ifDue | with_reducible exact frame_fault | with_reducible apply frame_next | with_reducible apply frame_foldl | with_reducible apply frame_foldl2 | with_reducible apply frame_foldl1 | split | intro _ | dsimp only)

theorem frame_writeLane {L : List Piece} {u : State} (x0 : _) (x1 : _) (x2 : _) (x3 : _) {s : State} (hL : ∀ p, p ∈ ([.host, .pre, .tiles, .cores, .funnels, .running, .waiting, .trace, .counters] : List Piece) → p ∈ L)  (h : Framed L u s) : Framed L u (writeLane x0 x1 x2 x3 s) := by
  unfold writeLane
  repeat (first | with_reducible assumption | (with_reducible apply frame_State_modLane <;> first | exact frame_sub rfl hL | skip) | (with_reducible apply frame_laneEnable <;> first | exact frame_sub rfl hL | skip) | (with_reducible apply frame_laneDisable <;> first | exact frame_sub rfl hL | skip) | (with_reducible apply frame_replyEnable <;> first | exact frame_sub rfl hL | skip) | (with_reducible apply frame_replyDisable <;> first | exact frame_sub rfl hL | skip) | (with_reducible apply frame_replyRead <;> first | exact frame_sub rfl hL | skip) | with_reducible apply frame_foldl | with_reducible apply frame_foldl2 | with_reducible apply frame_foldl1 | split | intro _ | dsimp only)

theorem frame_pushWord {L : List Piece} {u : State} (x0 : _) (x1 : _) (x2 : _) (x3 : _) (x4 : _) {s : State} (hL : ∀ p, p ∈ ([.host] : List Piece) → p ∈ L)  (h : Framed L u s) : Framed L u (pushWord x0 x1 x2 x3 x4 s) := by
  unfold pushWord
  repeat (first | with_reducible assumption | (with_reducible apply frame_State_modLane <;> first | exact frame_sub rfl hL | skip) | with_reducible apply frame_foldl | with_reducible apply frame_foldl2 | with_reducible apply frame_foldl1 | split | intro _ | dsimp only)

theorem frame_pushWords {L : List Piece} {u : State} (x0 : _) (x1 : _) (x2 : _) {s : State} (hL : ∀ p, p ∈ ([.host] : List Piece) → p ∈ L)  (h : Framed L u s) : Framed L u (pushWords x0 x1 x2 s) := by
  induction x2 generalizing x1 s with
  | nil => exact h
  | cons v r ih => exact ih _ (frame_pushWord _ _ _ _ _ hL h)

theorem frame_pushWrite {L : List Piece} {u : State} (x0 : _) (x1 : _) (x2 : _) {s : State} (hL : ∀ p, p ∈ ([.host, .counters] : List Piece) → p ∈ L)  (h : Framed L u s) : Framed L u (pushWrite x0 x1 x2 s) := by
  unfold pushWrite
  repeat (first | with_reducible assumption | (with_reducible apply frame_pushWords <;> first | exact frame_sub rfl hL | skip) | (with_reducible apply frame_count <;> first | exact frame_sub rfl hL | skip) | with_reducible apply frame_foldl | with_reducible apply frame_foldl2 | with_reducible apply frame_foldl1 | split | intro _ | dsimp only)

theorem frame_execPushWindowWrite {L : List Piece} {u : State} (x0 : _) (x1 : _) (x2 : _) {s : State} (hL : ∀ p, p ∈ ([.host, .counters] : List Piece) → p ∈ L)  (h : Framed L u s) : FramedAnswer L u (execPushWindowWrite x0 x1 x2 s) := by
  unfold execPushWindowWrite
  repeat (first | with_reducible assumption | (with_reducible apply frame_pushWrite <;> first | exact frame_sub rfl hL | skip) | with_reducible apply frame_checked | with_reducible exact frame_fault | with_reducible apply frame_next | with_reducible apply frame_foldl | with_reducible apply frame_foldl2 | with_reducible apply frame_foldl1 | split | intro _ | dsimp only)

theorem frame_execPullRingPoll {L : List Piece} {u : State} (x0 : _) (x1 : _) {s : State} (hL : ∀ p, p ∈ ([.host] : List Piece) → p ∈ L)  (h : Framed L u s) : FramedAnswer L u (execPullRingPoll x0 x1 s) := by
  unfold execPullRingPoll
  repeat (first | with_reducible assumption | (with_reducible apply frame_State_modLane <;> first | exact frame_sub rfl hL | skip) | with_reducible apply frame_ifDue | with_reducible exact frame_fault | with_reducible apply frame_next | with_reducible apply frame_foldl | with_reducible apply frame_foldl2 | with_reducible apply frame_foldl1 | split | intro _ | dsimp only)

theorem frame_stageReg {L : List Piece} {u : State} (x0 : _) (x1 : _) (x2 : _) (x3 : _) {s : State} (hL : ∀ p, p ∈ ([.pre] : List Piece) → p ∈ L)  (h : Framed L u s) : Framed L u (stageReg x0 x1 x2 x3 s) := by
  unfold stageReg
  repeat (first | with_reducible assumption | (with_reducible apply frame_State_modPre <;> first | exact frame_sub rfl hL | skip) | with_reducible apply frame_foldl | with_reducible apply frame_foldl2 | with_reducible apply frame_foldl1 | split | intro _ | dsimp only)

theorem frame_writeTbCtrl {L : List Piece} {u : State} (x0 : _) {s : State} (hL : ∀ p, p ∈ ([.crock, .pre, .tb] : List Piece) → p ∈ L)  (h : Framed L u s) : Framed L u (writeTbCtrl x0 s) := by
  unfold writeTbCtrl
  repeat (first | with_reducible assumption | (with_reducible apply frame_State_setReg <;> first | exact frame_sub rfl hL | skip) | (with_reducible apply frame_stopTb <;> first | exact frame_sub rfl hL | skip) | (with_reducible apply frame_armTb <;> first | exact frame_sub rfl hL | skip) | with_reducible apply frame_foldl | with_reducible apply frame_foldl2 | with_reducible apply frame_foldl1 | split | intro _ | dsimp only)

theorem frame_writePowerCtrl {L : List Piece} {u : State} (x0 : _) {s : State} (hL : ∀ p, p ∈ ([.power, .pre, .cores] : List Piece) → p ∈ L)  (h : Framed L u s) : Framed L u (writePowerCtrl x0 s) := by
  unfold writePowerCtrl
  repeat (first | with_reducible assumption | (with_reducible apply frame_State_setRegf <;> first | exact frame_sub rfl hL | skip) | (with_reducible apply frame_setStep <;> first | exact frame_sub rfl hL | skip) | (with_reducible apply frame_requestState <;> first | exact frame_sub rfl hL | skip) | with_reducible apply frame_foldl | with_reducible apply frame_foldl2 | with_reducible apply frame_foldl1 | split | intro _ | dsimp only)

theorem frame_writeQuiesce {L : List Piece} {u : State} (x0 : _) {s : State} (hL : ∀ p, p ∈ ([.crock, .host, .pre, .cores, .flows, .funnels, .trace, .counters] : List Piece) → p ∈ L)  (h : Framed L u s) : Framed L u (writeQuiesce x0 s) := by
  unfold writeQuiesce
  repeat (first | with_reducible assumption | (with_reducible apply frame_quiesceCore <;> first | exact frame_sub rfl hL | skip) | (with_reducible apply frame_unquiesceCore <;> first | exact frame_sub rfl hL | skip) | with_reducible apply frame_each | with_reducible apply frame_foldl | with_reducible apply frame_foldl2 | with_reducible apply frame_foldl1 | split | intro _ | dsimp only)

theorem frame_alertClear {L : List Piece} {u : State} (x0 : _) {s : State} (hL : ∀ p, p ∈ ([.probe] : List Piece) → p ∈ L)  (h : Framed L u s) : Framed L u (alertClear x0 s) := by
  unfold alertClear
  repeat (first | with_reducible assumption | (with_reducible apply frame_State_modProbe <;> first | exact frame_sub rfl hL | skip) | with_reducible apply frame_foldl | with_reducible apply frame_foldl2 | with_reducible apply frame_foldl1 | split | intro _ | dsimp only)

theorem frame_fnRead {L : List Piece} {u : State} (x0 : _) (x1 : _) {s : State} (hL : ∀ p, p ∈ ([.pre] : List Piece) → p ∈ L)  (h : Framed L u s) : Framed L u (fnRead x0 x1 s) := by
  unfold fnRead
  repeat (first | with_reducible assumption | (with_reducible apply frame_State_setReg <;> first | exact frame_sub rfl hL | skip) | with_reducible apply frame_foldl | with_reducible apply frame_foldl2 | with_reducible apply frame_foldl1 | split | intro _ | dsimp only)

theorem frame_writeGlobal {L : List Piece} {u : State} (x0 : _) (x1 : _) {s : State} (hL : ∀ p, p ∈ ([.power, .crock, .host, .pre, .tiles, .cores, .flows, .tb, .funnels, .running, .waiting, .probe, .trace, .counters] : List Piece) → p ∈ L)  (h : Framed L u s) : Framed L u (writeGlobal x0 x1 s) := by
  unfold writeGlobal
  repeat (first | with_reducible assumption | (with_reducible apply frame_writeLane <;> first | exact frame_sub rfl hL | skip) | (with_reducible apply frame_writeMsix <;> first | exact frame_sub rfl hL | skip) | (with_reducible apply frame_writeTbCtrl <;> first | exact frame_sub rfl hL | skip) | (with_reducible apply frame_writePowerCtrl <;> first | exact frame_sub rfl hL | skip) | (with_reducible apply frame_writeQuiesce <;> first | exact frame_sub rfl hL | skip) | (with_reducible apply frame_alertClear <;> first | exact frame_sub rfl hL | skip) | (with_reducible apply frame_stageReg <;> first | exact frame_sub rfl hL | skip) | (with_reducible apply frame_State_setReg <;> first | exact frame_sub rfl hL | skip) | with_reducible apply frame_foldl | with_reducible apply frame_foldl2 | with_reducible apply frame_foldl1 | split | intro _ | dsimp only)

theorem frame_writePart {L : List Piece} {u : State} (x0 : _) (x1 : _) (x2 : _) {s : State} (hL : ∀ p, p ∈ ([.pre] : List Piece) → p ∈ L)  (h : Framed L u s) : Framed L u (writePart x0 x1 x2 s) := by
  unfold writePart
  repeat (first | with_reducible assumption | (with_reducible apply frame_fnRead <;> first | exact frame_sub rfl hL | skip) | (with_reducible apply frame_stageReg <;> first | exact frame_sub rfl hL | skip) | (with_reducible apply frame_State_setReg <;> first | exact frame_sub rfl hL | skip) | with_reducible apply frame_foldl | with_reducible apply frame_foldl2 | with_reducible apply frame_foldl1 | split | intro _ | dsimp only)

theorem frame_writeReg {L : List Piece} {u : State} (x0 : _) (x1 : _) (x2 : _) {s : State} (hL : ∀ p, p ∈ ([.power, .crock, .host, .pre, .tiles, .cores, .flows, .tb, .funnels, .running, .waiting, .probe, .trace, .counters] : List Piece) → p ∈ L)  (h : Framed L u s) : Framed L u (writeReg x0 x1 x2 s) := by
  unfold writeReg
  repeat (first | with_reducible assumption | (with_reducible apply frame_writeGlobal <;> first | exact frame_sub rfl hL | skip) | (with_reducible apply frame_writePart <;> first | exact frame_sub rfl hL | skip) | (with_reducible apply frame_writeLane <;> first | exact frame_sub rfl hL | skip) | (with_reducible apply frame_writeMsix <;> first | exact frame_sub rfl hL | skip) | with_reducible apply frame_foldl | with_reducible apply frame_foldl2 | with_reducible apply frame_foldl1 | split | intro _ | dsimp only)

theorem frame_execRegisterWrite {L : List Piece} {u : State} (x0 : _) (x1 : _) (x2 : _) (x3 : _) {s : State} (hL : ∀ p, p ∈ ([.power, .crock, .host, .pre, .tiles, .cores, .flows, .tb, .funnels, .running, .waiting, .probe, .trace, .counters] : List Piece) → p ∈ L)  (h : Framed L u s) : FramedAnswer L u (execRegisterWrite x0 x1 x2 x3 s) := by
  unfold execRegisterWrite
  repeat (first | with_reducible assumption | (with_reducible apply frame_writeReg <;> first | exact frame_sub rfl hL | skip) | with_reducible apply frame_checked | with_reducible exact frame_fault | with_reducible apply frame_next | with_reducible apply frame_foldl | with_reducible apply frame_foldl2 | with_reducible apply frame_foldl1 | split | intro _ | dsimp only)

theorem frame_execHkAlertClear {L : List Piece} {u : State} (x0 : _) (x1 : _) {s : State} (hL : ∀ p, p ∈ ([.probe] : List Piece) → p ∈ L)  (h : Framed L u s) : FramedAnswer L u (execHkAlertClear x0 x1 s) := by
  unfold execHkAlertClear
  repeat (first | with_reducible assumption | (with_reducible apply frame_alertClear <;> first | exact frame_sub rfl hL | skip) | with_reducible apply frame_ifDue | with_reducible exact frame_fault | with_reducible apply frame_next | with_reducible apply frame_foldl | with_reducible apply frame_foldl2 | with_reducible apply frame_foldl1 | split | intro _ | dsimp only)

theorem frame_execPtFnRead {L : List Piece} {u : State} (x0 : _) (x1 : _) (x2 : _) {s : State} (hL : ∀ p, p ∈ ([.pre] : List Piece) → p ∈ L)  (h : Framed L u s) : FramedAnswer L u (execPtFnRead x0 x1 x2 s) := by
  unfold execPtFnRead
  repeat (first | with_reducible assumption | (with_reducible apply frame_fnRead <;> first | exact frame_sub rfl hL | skip) | with_reducible apply frame_ifDue | with_reducible exact frame_fault | with_reducible apply frame_next | with_reducible apply frame_foldl | with_reducible apply frame_foldl2 | with_reducible apply frame_foldl1 | split | intro _ | dsimp only)

theorem frame_wake {L : List Piece} {u : State} (x0 : _) {s : State} (hL : ∀ p, p ∈ ([.power, .pre] : List Piece) → p ∈ L)  (h : Framed L u s) : Framed L u (wake x0 s) := by
  unfold wake
  repeat (first | with_reducible assumption | (with_reducible apply frame_setWait <;> first | exact frame_sub rfl hL | skip) | (with_reducible apply frame_State_modPower <;> first | exact frame_sub rfl hL | skip) | (with_reducible apply frame_State_setRegf <;> first | exact frame_sub rfl hL | skip) | with_reducible apply frame_foldl | with_reducible apply frame_foldl2 | with_reducible apply frame_foldl1 | split | intro _ | dsimp only)

theorem frame_startCmd {L : List Piece} {u : State} (x0 : _) (x1 : _) {s : State} (hL : ∀ p, p ∈ ([.power, .host, .pre, .funnels, .trace, .counters] : List Piece) → p ∈ L) (h0 : ∀ y0 t, Framed L u t → Framed L u (x0 y0 t)) (h : Framed L u s) : Framed L u (startCmd x0 x1 s) := by
  unfold startCmd
  repeat (first | with_reducible assumption | apply h0 | (with_reducible apply frame_setWait <;> first | exact frame_sub rfl hL | skip) | (with_reducible apply frame_finish <;> first | exact frame_sub rfl hL | skip) | (with_reducible apply frame_wake <;> first | exact frame_sub rfl hL | skip) | with_reducible apply frame_foldl | with_reducible apply frame_foldl2 | with_reducible apply frame_foldl1 | split | intro _ | dsimp only)

theorem frame_proceed {L : List Piece} {u : State} (x0 : _) (x1 : _) {s : State} (hL : ∀ p, p ∈ ([.power, .host, .pre, .funnels, .trace, .counters] : List Piece) → p ∈ L) (h0 : ∀ y0 t, Framed L u t → Framed L u (x0 y0 t)) (h : Framed L u s) : Framed L u (proceed x0 x1 s) := by
  unfold proceed
  repeat (first | with_reducible assumption | apply h0 | (with_reducible apply frame_finish <;> first | exact frame_sub rfl hL | skip) | (with_reducible apply frame_setWait <;> first | exact frame_sub rfl hL | skip) | (with_reducible apply frame_startCmd <;> first | exact frame_sub rfl hL | skip) | with_reducible apply frame_foldl | with_reducible apply frame_foldl2 | with_reducible apply frame_foldl1 | split | intro _ | dsimp only)

theorem frame_take {L : List Piece} {u : State} (x0 : _) (x1 : _) (x2 : _) (x3 : _) (x4 : _) (x5 : _) {s : State} (hL : ∀ p, p ∈ ([.power, .host, .pre, .funnels, .trace, .counters] : List Piece) → p ∈ L) (h0 : ∀ y0 t, Framed L u t → Framed L u (x0 y0 t)) (h : Framed L u s) : Framed L u (take x0 x1 x2 x3 x4 x5 s) := by
  unfold take
  repeat (first | with_reducible assumption | apply h0 | (with_reducible apply frame_noRing <;> first | exact frame_sub rfl hL | skip) | (with_reducible apply frame_traceOnly <;> first | exact frame_sub rfl hL | skip) | (with_reducible apply frame_answer <;> first | exact frame_sub rfl hL | skip) | (with_reducible apply frame_State_modPre <;> first | exact frame_sub rfl hL | skip) | (with_reducible apply frame_setWait <;> first | exact frame_sub rfl hL | skip) | (with_reducible apply frame_State_modLane <;> first | exact frame_sub rfl hL | skip) | (with_reducible apply frame_proceed <;> first | exact frame_sub rfl hL | skip) | with_reducible apply frame_foldl | with_reducible apply frame_foldl2 | with_reducible apply frame_foldl1 | split | intro _ | dsimp only)

theorem frame_packetTake {L : List Piece} {u : State} (x0 : _) (x1 : _) (x2 : _) {s : State} (hL : ∀ p, p ∈ ([.power, .host, .pre, .funnels, .trace, .counters] : List Piece) → p ∈ L) (h0 : ∀ y0 t, Framed L u t → Framed L u (x0 y0 t)) (h : Framed L u s) : Framed L u (packetTake x0 x1 x2 s) := by
  unfold packetTake
  split
  · rename_i he
    refine frame_take _ _ _ _ _ _ (frame_sub rfl hL) h0 ?_
    unfold nextPacket at he
    dsimp only at he
    split at he
    · split at he
      · cases he
        split
        · exact frame_State_hostWrite _ _ (frame_sub rfl hL) (frame_State_modLane _ _ _ (frame_sub rfl hL) h)
        · exact frame_State_modLane _ _ _ (frame_sub rfl hL) h
      · cases he
    · split at he
      · cases he
        exact frame_State_modLane _ _ _ (frame_sub rfl hL) h
      · cases he
  · exact h

theorem frame_unpark {L : List Piece} {u : State} (x0 : _) {s : State} (hL : ∀ p, p ∈ ([.power, .host, .pre, .funnels, .trace, .counters] : List Piece) → p ∈ L) (h0 : ∀ y0 t, Framed L u t → Framed L u (x0 y0 t)) (h : Framed L u s) : Framed L u (unpark x0 s) := by
  unfold unpark
  repeat (first | with_reducible assumption | apply h0 | (with_reducible apply frame_startCmd <;> first | exact frame_sub rfl hL | skip) | with_reducible apply frame_each | with_reducible apply frame_foldl | with_reducible apply frame_foldl2 | with_reducible apply frame_foldl1 | split | intro _ | dsimp only)

theorem frame_stage {L : List Piece} {u : State} (x0 : _) (x1 : _) {s : State} (hL : ∀ p, p ∈ ([.host, .pre, .funnels, .trace, .counters] : List Piece) → p ∈ L)  (h : Framed L u s) : Framed L u (stage x0 x1 s) := by
  unfold stage
  repeat (first | with_reducible assumption | (with_reducible apply frame_finish <;> first | exact frame_sub rfl hL | skip) | (with_reducible apply frame_finishOpt <;> first | exact frame_sub rfl hL | skip) | (with_reducible apply frame_State_modPre <;> first | exact frame_sub rfl hL | skip) | (with_reducible apply frame_setWait <;> first | exact frame_sub rfl hL | skip) | with_reducible apply frame_each | with_reducible apply frame_foldl | with_reducible apply frame_foldl2 | with_reducible apply frame_foldl1 | split | intro _ | dsimp only)

theorem frame_State_stagedView {L : List Piece} {u : State} {s : State} (x1 : _) (hL : ∀ p, p ∈ ([.tiles] : List Piece) → p ∈ L)  (h : Framed L u s) : Framed L u (State.stagedView s x1) := by
  unfold State.stagedView
  repeat (first | with_reducible assumption | (with_reducible apply frame_State_modTile <;> first | exact frame_sub rfl hL | skip) | with_reducible apply frame_each | with_reducible apply frame_foldl | with_reducible apply frame_foldl2 | with_reducible apply frame_foldl1 | split | intro _ | dsimp only)

theorem frame_putAct {L : List Piece} {u : State} (x0 : _) (x1 : _) (x2 : _) {s : State} (hL : ∀ p, p ∈ ([.cores] : List Piece) → p ∈ L)  (h : Framed L u s) : Framed L u (putAct x0 x1 x2 s) := by
  unfold putAct
  repeat (first | with_reducible assumption | (with_reducible apply frame_State_modCore <;> first | exact frame_sub rfl hL | skip) | with_reducible apply frame_foldl | with_reducible apply frame_foldl2 | with_reducible apply frame_foldl1 | split | intro _ | dsimp only)

theorem frame_spillOut {L : List Piece} {u : State} (x0 : _) (x1 : _) (x2 : _) {s : State} (hL : ∀ p, p ∈ ([.flows, .counters] : List Piece) → p ∈ L)  (h : Framed L u s) : Framed L u (spillOut x0 x1 x2 s).2 := by
  unfold spillOut
  repeat (first | with_reducible assumption | (with_reducible apply frame_count <;> first | exact frame_sub rfl hL | skip) | (with_reducible apply frame_State_modFlows <;> first | exact frame_sub rfl hL | skip) | with_reducible apply frame_foldl | with_reducible apply frame_foldl2 | with_reducible apply frame_foldl1 | split | intro _ | dsimp only)

theorem frame_spillIn {L : List Piece} {u : State} (x0 : _) (x1 : _) {s : State} (hL : ∀ p, p ∈ ([.flows, .counters] : List Piece) → p ∈ L)  (h : Framed L u s) : Framed L u (spillIn x0 x1 s) := by
  unfold spillIn
  repeat (first | with_reducible assumption | (with_reducible apply frame_count <;> first | exact frame_sub rfl hL | skip) | (with_reducible apply frame_State_modFlows <;> first | exact frame_sub rfl hL | skip) | with_reducible apply frame_foldl | with_reducible apply frame_foldl2 | with_reducible apply frame_foldl1 | split | intro _ | dsimp only)

theorem frame_unparkSlots {L : List Piece} {u : State} (x0 : _) (x1 : _) {s : State} (hL : ∀ p, p ∈ ([.cores, .flows, .counters] : List Piece) → p ∈ L)  (h : Framed L u s) : Framed L u (unparkSlots x0 x1 s) := by
  unfold unparkSlots
  repeat (first | with_reducible assumption | (with_reducible apply frame_State_setRun <;> first | exact frame_sub rfl hL | skip) | (with_reducible apply frame_spillIn <;> first | exact frame_sub rfl hL | skip) | (with_reducible apply frame_State_modCore <;> first | exact frame_sub rfl hL | skip) | with_reducible apply frame_each | with_reducible apply frame_foldl | with_reducible apply frame_foldl2 | with_reducible apply frame_foldl1 | split | intro _ | dsimp only)

theorem frame_partOver {L : List Piece} {u : State} (x0 : _) (x1 : _) {s : State} (hL : ∀ p, p ∈ ([.host, .pre, .flows, .funnels, .trace, .counters] : List Piece) → p ∈ L)  (h : Framed L u s) : Framed L u (partOver x0 x1 s) := by
  unfold partOver
  repeat (first | with_reducible assumption | (with_reducible apply frame_State_setRun <;> first | exact frame_sub rfl hL | skip) | (with_reducible apply frame_endWindow <;> first | exact frame_sub rfl hL | skip) | (with_reducible apply frame_State_modCtx <;> first | exact frame_sub rfl hL | skip) | with_reducible apply frame_foldl | with_reducible apply frame_foldl2 | with_reducible apply frame_foldl1 | split | intro _ | dsimp only)

theorem frame_leavePart {L : List Piece} {u : State} (x0 : _) (x1 : _) {s : State} (hL : ∀ p, p ∈ ([.host, .pre, .cores, .flows, .funnels, .trace, .counters] : List Piece) → p ∈ L)  (h : Framed L u s) : Framed L u (leavePart x0 x1 s) := by
  unfold leavePart
  repeat (first | with_reducible assumption | (with_reducible apply frame_State_setCtx <;> first | exact frame_sub rfl hL | skip) | (with_reducible apply frame_State_modCtx <;> first | exact frame_sub rfl hL | skip) | (with_reducible apply frame_dropQueue <;> first | exact frame_sub rfl hL | skip) | (with_reducible apply frame_count <;> first | exact frame_sub rfl hL | skip) | (with_reducible apply frame_traceOnly <;> first | exact frame_sub rfl hL | skip) | (with_reducible apply frame_partOver <;> first | exact frame_sub rfl hL | skip) | with_reducible apply frame_foldl | with_reducible apply frame_foldl2 | with_reducible apply frame_foldl1 | split | intro _ | dsimp only)

theorem frame_enterPart {L : List Piece} {u : State} (x0 : _) (x1 : _) (x2 : _) (x3 : _) {s : State} (hL : ∀ p, p ∈ ([.host, .pre, .cores, .flows, .funnels, .trace, .counters] : List Piece) → p ∈ L)  (h : Framed L u s) : Framed L u (enterPart x0 x1 x2 x3 s) := by
  unfold enterPart
  repeat (first | with_reducible assumption | (with_reducible apply frame_State_setCtx <;> first | exact frame_sub rfl hL | skip) | (with_reducible apply frame_putAct <;> first | exact frame_sub rfl hL | skip) | (with_reducible apply frame_unparkSlots <;> first | exact frame_sub rfl hL | skip) | (with_reducible apply frame_count <;> first | exact frame_sub rfl hL | skip) | (with_reducible apply frame_traceOnly <;> first | exact frame_sub rfl hL | skip) | (with_reducible apply frame_State_setQueue <;> first | exact frame_sub rfl hL | skip) | (with_reducible apply frame_State_modCore <;> first | exact frame_sub rfl hL | skip) | (with_reducible apply frame_leavePart <;> first | exact frame_sub rfl hL | skip) | with_reducible apply frame_foldl | with_reducible apply frame_foldl2 | with_reducible apply frame_foldl1 | split | intro _ | dsimp only)

theorem frame_enterAll {L : List Piece} {u : State} (x0 : _) {s : State} (hL : ∀ p, p ∈ ([.host, .pre, .cores, .flows, .funnels, .trace, .counters] : List Piece) → p ∈ L)  (h : Framed L u s) : Framed L u (enterAll x0 s) := by
  unfold enterAll
  repeat (first | with_reducible assumption | (with_reducible apply frame_enterPart <;> first | exact frame_sub rfl hL | skip) | with_reducible apply frame_each | with_reducible apply frame_foldl | with_reducible apply frame_foldl2 | with_reducible apply frame_foldl1 | split | intro _ | dsimp only)

theorem frame_dispatch {L : List Piece} {u : State} (x0 : _) {s : State} (hL : ∀ p, p ∈ ([.host, .pre, .cores, .flows, .funnels, .trace, .counters] : List Piece) → p ∈ L)  (h : Framed L u s) : Framed L u (dispatch x0 s) := by
  unfold dispatch
  repeat (first | with_reducible assumption | (with_reducible apply frame_State_modFlows <;> first | exact frame_sub rfl hL | skip) | (with_reducible apply frame_State_setCtx <;> first | exact frame_sub rfl hL | skip) | (with_reducible apply frame_count <;> first | exact frame_sub rfl hL | skip) | (with_reducible apply frame_enterAll <;> first | exact frame_sub rfl hL | skip) | (with_reducible apply frame_traceOnly <;> first | exact frame_sub rfl hL | skip) | with_reducible apply frame_foldl | with_reducible apply frame_foldl2 | with_reducible apply frame_foldl1 | split | intro _ | dsimp only)

theorem frame_place {L : List Piece} {u : State} (x0 : _) (x1 : _) {s : State} (hL : ∀ p, p ∈ ([.host, .pre, .cores, .flows, .funnels, .trace, .counters] : List Piece) → p ∈ L)  (h : Framed L u s) : Framed L u (place x0 x1 s) := by
  unfold place
  repeat (first | with_reducible assumption | (with_reducible apply frame_dispatch <;> first | exact frame_sub rfl hL | skip) | (with_reducible apply frame_enterAll <;> first | exact frame_sub rfl hL | skip) | (with_reducible apply frame_count <;> first | exact frame_sub rfl hL | skip) | with_reducible apply frame_foldl | with_reducible apply frame_foldl2 | with_reducible apply frame_foldl1 | split | intro _ | dsimp only)

theorem frame_mark {L : List Piece} {u : State} (x0 : _) (x1 : _) {s : State} (hL : ∀ p, p ∈ ([.flows] : List Piece) → p ∈ L)  (h : Framed L u s) : Framed L u (mark x0 x1 s) := by
  unfold mark
  repeat (first | with_reducible assumption | (with_reducible apply frame_State_modRun <;> first | exact frame_sub rfl hL | skip) | with_reducible apply frame_foldl | with_reducible apply frame_foldl2 | with_reducible apply frame_foldl1 | split | intro _ | dsimp only)

theorem frame_parkSlots {L : List Piece} {u : State} (x0 : _) (x1 : _) (x2 : _) (x3 : _) {s : State} (hL : ∀ p, p ∈ ([.cores, .flows, .counters] : List Piece) → p ∈ L)  (h : Framed L u s) : Framed L u (parkSlots x0 x1 x2 x3 s) := by
  unfold parkSlots
  repeat (first | with_reducible assumption | (with_reducible apply frame_mark <;> first | exact frame_sub rfl hL | skip) | (with_reducible apply frame_spillOut <;> first | exact frame_sub rfl hL | skip) | (with_reducible apply frame_State_modRun <;> first | exact frame_sub rfl hL | skip) | (with_reducible apply frame_State_modCore <;> first | exact frame_sub rfl hL | skip) | with_reducible apply frame_each | with_reducible apply frame_foldl | with_reducible apply frame_foldl2 | with_reducible apply frame_foldl1 | split | intro _ | dsimp only)

theorem frame_switchOut {L : List Piece} {u : State} (x0 : _) (x1 : _) (x2 : _) {s : State} (hL : ∀ p, p ∈ ([.cores, .flows, .trace, .counters] : List Piece) → p ∈ L)  (h : Framed L u s) : Framed L u (switchOut x0 x1 x2 s) := by
  unfold switchOut
  repeat (first | with_reducible assumption | (with_reducible apply frame_State_setCtx <;> first | exact frame_sub rfl hL | skip) | (with_reducible apply frame_parkSlots <;> first | exact frame_sub rfl hL | skip) | (with_reducible apply frame_dropQueue <;> first | exact frame_sub rfl hL | skip) | (with_reducible apply frame_count <;> first | exact frame_sub rfl hL | skip) | (with_reducible apply frame_traceOnly <;> first | exact frame_sub rfl hL | skip) | with_reducible apply frame_foldl | with_reducible apply frame_foldl2 | with_reducible apply frame_foldl1 | split | intro _ | dsimp only)

theorem frame_preempt {L : List Piece} {u : State} (x0 : _) {s : State} (hL : ∀ p, p ∈ ([.cores, .flows, .trace, .counters] : List Piece) → p ∈ L)  (h : Framed L u s) : Framed L u (preempt x0 s) := by
  unfold preempt
  repeat (first | with_reducible assumption | (with_reducible apply frame_switchOut <;> first | exact frame_sub rfl hL | skip) | with_reducible apply frame_foldl | with_reducible apply frame_foldl2 | with_reducible apply frame_foldl1 | split | intro _ | dsimp only)

theorem frame_prefetch {L : List Piece} {u : State} (x0 : _) {s : State} (hL : ∀ p, p ∈ ([.cores] : List Piece) → p ∈ L)  (h : Framed L u s) : Framed L u (prefetch x0 s) := by
  unfold prefetch
  repeat (first | with_reducible assumption | (with_reducible apply frame_State_modCore <;> first | exact frame_sub rfl hL | skip) | with_reducible apply frame_each | with_reducible apply frame_foldl | with_reducible apply frame_foldl2 | with_reducible apply frame_foldl1 | split | intro _ | dsimp only)

theorem frame_lateDrops {L : List Piece} {u : State} (x0 : _) {s : State} (hL : ∀ p, p ∈ ([.flows, .funnels, .trace, .counters] : List Piece) → p ∈ L)  (h : Framed L u s) : Framed L u (lateDrops x0 s) := by
  unfold lateDrops
  repeat (first | with_reducible assumption | (with_reducible apply frame_slicerDrop <;> first | exact frame_sub rfl hL | skip) | (with_reducible apply frame_State_modCtx <;> first | exact frame_sub rfl hL | skip) | with_reducible apply frame_each | with_reducible apply frame_foldl | with_reducible apply frame_foldl2 | with_reducible apply frame_foldl1 | split | intro _ | dsimp only)

theorem frame_coreCancels {L : List Piece} {u : State} (x0 : _) {s : State} (hL : ∀ p, p ∈ ([.host, .pre, .cores, .flows, .funnels, .trace, .counters] : List Piece) → p ∈ L)  (h : Framed L u s) : Framed L u (coreCancels x0 s) := by
  unfold coreCancels
  repeat (first | with_reducible assumption | (with_reducible apply frame_cancelRun <;> first | exact frame_sub rfl hL | skip) | (with_reducible apply frame_State_modFlows <;> first | exact frame_sub rfl hL | skip) | (with_reducible apply frame_State_setCtx <;> first | exact frame_sub rfl hL | skip) | with_reducible apply frame_each | with_reducible apply frame_foldl | with_reducible apply frame_foldl2 | with_reducible apply frame_foldl1 | split | intro _ | dsimp only)

theorem frame_slice {L : List Piece} {u : State} (x0 : _) {s : State} (hL : ∀ p, p ∈ ([.host, .pre, .cores, .flows, .funnels, .trace, .counters] : List Piece) → p ∈ L)  (h : Framed L u s) : Framed L u (slice x0 s) := by
  unfold slice
  repeat (first | with_reducible assumption | (with_reducible apply frame_coreCancels <;> first | exact frame_sub rfl hL | skip) | (with_reducible apply frame_lateDrops <;> first | exact frame_sub rfl hL | skip) | (with_reducible apply frame_place <;> first | exact frame_sub rfl hL | skip) | (with_reducible apply frame_prefetch <;> first | exact frame_sub rfl hL | skip) | (with_reducible apply frame_preempt <;> first | exact frame_sub rfl hL | skip) | with_reducible apply frame_foldl | with_reducible apply frame_foldl2 | with_reducible apply frame_foldl1 | split | intro _ | dsimp only)

theorem frame_execOverloadClear {L : List Piece} {u : State} (x0 : _) {s : State} (hL : ∀ p, p ∈ ([.flows] : List Piece) → p ∈ L)  (h : Framed L u s) : FramedAnswer L u (execOverloadClear x0 s) := by
  unfold execOverloadClear
  repeat (first | with_reducible assumption | (with_reducible apply frame_State_modFlows <;> first | exact frame_sub rfl hL | skip) | with_reducible apply frame_ifDue | with_reducible exact frame_fault | with_reducible apply frame_next | with_reducible apply frame_foldl | with_reducible apply frame_foldl2 | with_reducible apply frame_foldl1 | split | intro _ | dsimp only)

theorem frame_raiseWatchdog {L : List Piece} {u : State} (x0 : _) (x1 : _) (x2 : _) (x3 : _) (x4 : _) (x5 : _) {s : State} (hL : ∀ p, p ∈ ([.funnels, .trace, .counters] : List Piece) → p ∈ L)  (h : Framed L u s) : Framed L u (raiseWatchdog x0 x1 x2 x3 x4 x5 s) := by
  unfold raiseWatchdog
  repeat (first | with_reducible assumption | (with_reducible apply frame_raisePart <;> first | exact frame_sub rfl hL | skip) | (with_reducible apply frame_count <;> first | exact frame_sub rfl hL | skip) | with_reducible apply frame_foldl | with_reducible apply frame_foldl2 | with_reducible apply frame_foldl1 | split | intro _ | dsimp only)

theorem frame_entryWatchdog {L : List Piece} {u : State} (x0 : _) (x1 : _) (x2 : _) {s : State} (hL : ∀ p, p ∈ ([.host, .pre, .cores, .flows, .funnels, .trace, .counters] : List Piece) → p ∈ L)  (h : Framed L u s) : Framed L u (entryWatchdog x0 x1 x2 s) := by
  unfold entryWatchdog
  repeat (first | with_reducible assumption | (with_reducible apply frame_count <;> first | exact frame_sub rfl hL | skip) | (with_reducible apply frame_raiseWatchdog <;> first | exact frame_sub rfl hL | skip) | (with_reducible apply frame_abandonRun <;> first | exact frame_sub rfl hL | skip) | with_reducible apply frame_foldl | with_reducible apply frame_foldl2 | with_reducible apply frame_foldl1 | split | intro _ | dsimp only)

theorem frame_execFlowEntryWatchdog {L : List Piece} {u : State} (x0 : _) (x1 : _) {s : State} (hL : ∀ p, p ∈ ([.host, .pre, .cores, .flows, .funnels, .trace, .counters] : List Piece) → p ∈ L)  (h : Framed L u s) : FramedAnswer L u (execFlowEntryWatchdog x0 x1 s) := by
  unfold execFlowEntryWatchdog
  repeat (first | with_reducible assumption | (with_reducible apply frame_entryWatchdog <;> first | exact frame_sub rfl hL | skip) | with_reducible apply frame_ifDue | with_reducible exact frame_fault | with_reducible apply frame_next | with_reducible apply frame_foldl | with_reducible apply frame_foldl2 | with_reducible apply frame_foldl1 | split | intro _ | dsimp only)

theorem frame_traceStep {L : List Piece} {u : State} (x0 : _) (x1 : _) (x2 : _) (x3 : _) {s : State} (hL : ∀ p, p ∈ ([.trace] : List Piece) → p ∈ L)  (h : Framed L u s) : Framed L u (traceStep x0 x1 x2 x3 s) := by
  unfold traceStep
  repeat (first | with_reducible assumption | (with_reducible apply frame_traceOnly <;> first | exact frame_sub rfl hL | skip) | with_reducible apply frame_foldl | with_reducible apply frame_foldl2 | with_reducible apply frame_foldl1 | split | intro _ | dsimp only)

theorem frame_progress {L : List Piece} {u : State} (x0 : _) (x1 : _) {s : State} (hL : ∀ p, p ∈ ([.cores] : List Piece) → p ∈ L)  (h : Framed L u s) : Framed L u (progress x0 x1 s) := by
  unfold progress
  repeat (first | with_reducible assumption | (with_reducible apply frame_State_modQueue <;> first | exact frame_sub rfl hL | skip) | with_reducible apply frame_foldl | with_reducible apply frame_foldl2 | with_reducible apply frame_foldl1 | split | intro _ | dsimp only)

theorem frame_stepDone {L : List Piece} {u : State} (x0 : _) (x1 : _) {s : State} (hL : ∀ p, p ∈ ([.host, .pre, .cores, .flows, .funnels, .trace, .counters] : List Piece) → p ∈ L)  (h : Framed L u s) : Framed L u (stepDone x0 x1 s) := by
  unfold stepDone
  repeat (first | with_reducible assumption | (with_reducible apply frame_traceStep <;> first | exact frame_sub rfl hL | skip) | (with_reducible apply frame_State_setQueue <;> first | exact frame_sub rfl hL | skip) | (with_reducible apply frame_leavePart <;> first | exact frame_sub rfl hL | skip) | with_reducible apply frame_foldl | with_reducible apply frame_foldl2 | with_reducible apply frame_foldl1 | split | intro _ | dsimp only)

theorem frame_stallQueue {L : List Piece} {u : State} (x0 : _) (x1 : _) (x2 : _) {s : State} (hL : ∀ p, p ∈ ([.cores] : List Piece) → p ∈ L)  (h : Framed L u s) : Framed L u (stallQueue x0 x1 x2 s) := by
  unfold stallQueue
  repeat (first | with_reducible assumption | (with_reducible apply frame_State_modQueue <;> first | exact frame_sub rfl hL | skip) | with_reducible apply frame_foldl | with_reducible apply frame_foldl2 | with_reducible apply frame_foldl1 | split | intro _ | dsimp only)

theorem frame_release {L : List Piece} {u : State} (x0 : _) (x1 : _) (x2 : _) (x3 : _) (x4 : _) (x5 : _) {s : State} (hL : ∀ p, p ∈ ([.host, .pre, .cores, .flows, .funnels, .trace, .counters] : List Piece) → p ∈ L)  (h : Framed L u s) : Framed L u (release x0 x1 x2 x3 x4 x5 s) := by
  unfold release
  repeat (first | with_reducible assumption | (with_reducible apply frame_stepDone <;> first | exact frame_sub rfl hL | skip) | (with_reducible apply frame_traceOnly <;> first | exact frame_sub rfl hL | skip) | with_reducible apply frame_foldl | with_reducible apply frame_foldl2 | with_reducible apply frame_foldl1 | split | intro _ | dsimp only)

theorem frame_releaseAll {L : List Piece} {u : State} (x0 : _) (x1 : _) (x2 : _) {s : State} (hL : ∀ p, p ∈ ([.host, .pre, .cores, .flows, .funnels, .trace, .counters] : List Piece) → p ∈ L)  (h : Framed L u s) : Framed L u (releaseAll x0 x1 x2 s) := by
  unfold releaseAll
  repeat (first | with_reducible assumption | (with_reducible apply frame_release <;> first | exact frame_sub rfl hL | skip) | (with_reducible apply frame_raisePart <;> first | exact frame_sub rfl hL | skip) | (with_reducible apply frame_count <;> first | exact frame_sub rfl hL | skip) | with_reducible apply frame_each | with_reducible apply frame_foldl | with_reducible apply frame_foldl2 | with_reducible apply frame_foldl1 | split | intro _ | dsimp only)

theorem frame_addV {L : List Piece} {u : State} (x0 : _) (x1 : _) (x2 : _) (x3 : _) {s : State} (hL : ∀ p, p ∈ ([.flows] : List Piece) → p ∈ L)  (h : Framed L u s) : Framed L u (addV x0 x1 x2 x3 s) := by
  unfold addV
  repeat (first | with_reducible assumption | (with_reducible apply frame_State_modCtx <;> first | exact frame_sub rfl hL | skip) | with_reducible apply frame_foldl | with_reducible apply frame_foldl2 | with_reducible apply frame_foldl1 | split | intro _ | dsimp only)

theorem frame_signalAt {L : List Piece} {u : State} (x0 : _) (x1 : _) (x2 : _) (x3 : _) {s : State} (hL : ∀ p, p ∈ ([.host, .pre, .cores, .flows, .funnels, .trace, .counters] : List Piece) → p ∈ L)  (h : Framed L u s) : Framed L u (signalAt x0 x1 x2 x3 s) := by
  unfold signalAt
  repeat (first | with_reducible assumption | (with_reducible apply frame_releaseAll <;> first | exact frame_sub rfl hL | skip) | (with_reducible apply frame_count <;> first | exact frame_sub rfl hL | skip) | (with_reducible apply frame_addV <;> first | exact frame_sub rfl hL | skip) | (with_reducible apply frame_State_modFlows <;> first | exact frame_sub rfl hL | skip) | with_reducible apply frame_foldl | with_reducible apply frame_foldl2 | with_reducible apply frame_foldl1 | split | intro _ | dsimp only)

theorem frame_sendLadle {L : List Piece} {u : State} (x0 : _) (x1 : _) {s : State} (hL : ∀ p, p ∈ ([.flows, .counters] : List Piece) → p ∈ L)  (h : Framed L u s) : Framed L u (sendLadle x0 x1 s) := by
  unfold sendLadle
  repeat (first | with_reducible assumption | (with_reducible apply frame_count <;> first | exact frame_sub rfl hL | skip) | (with_reducible apply frame_State_modFlows <;> first | exact frame_sub rfl hL | skip) | with_reducible apply frame_foldl | with_reducible apply frame_foldl2 | with_reducible apply frame_foldl1 | split | intro _ | dsimp only)

theorem frame_execSignal {L : List Piece} {u : State} (x0 : _) (x1 : _) {s : State} (hL : ∀ p, p ∈ ([.host, .pre, .cores, .flows, .funnels, .trace, .counters] : List Piece) → p ∈ L)  (h : Framed L u s) : FramedAnswer L u (execSignal x0 x1 s) := by
  unfold execSignal
  repeat (first | with_reducible assumption | (with_reducible apply frame_traceStep <;> first | exact frame_sub rfl hL | skip) | (with_reducible apply frame_stepDone <;> first | exact frame_sub rfl hL | skip) | (with_reducible apply frame_signalAt <;> first | exact frame_sub rfl hL | skip) | (with_reducible apply frame_sendLadle <;> first | exact frame_sub rfl hL | skip) | with_reducible apply frame_ifDue | with_reducible exact frame_fault | with_reducible apply frame_next | with_reducible apply frame_foldl | with_reducible apply frame_foldl2 | with_reducible apply frame_foldl1 | split | intro _ | dsimp only)

theorem frame_execWait {L : List Piece} {u : State} (x0 : _) (x1 : _) {s : State} (hL : ∀ p, p ∈ ([.host, .pre, .cores, .flows, .funnels, .trace, .counters] : List Piece) → p ∈ L)  (h : Framed L u s) : FramedAnswer L u (execWait x0 x1 s) := by
  unfold execWait
  repeat (first | with_reducible assumption | (with_reducible apply frame_count <;> first | exact frame_sub rfl hL | skip) | (with_reducible apply frame_traceStep <;> first | exact frame_sub rfl hL | skip) | (with_reducible apply frame_stepDone <;> first | exact frame_sub rfl hL | skip) | (with_reducible apply frame_traceOnly <;> first | exact frame_sub rfl hL | skip) | (with_reducible apply frame_stallQueue <;> first | exact frame_sub rfl hL | skip) | with_reducible apply frame_ifDue | with_reducible exact frame_fault | with_reducible apply frame_next | with_reducible apply frame_foldl | with_reducible apply frame_foldl2 | with_reducible apply frame_foldl1 | split | intro _ | dsimp only)

theorem frame_execLidArrive {L : List Piece} {u : State} (x0 : _) (x1 : _) {s : State} (hL : ∀ p, p ∈ ([.cores, .trace] : List Piece) → p ∈ L)  (h : Framed L u s) : FramedAnswer L u (execLidArrive x0 x1 s) := by
  unfold execLidArrive
  repeat (first | with_reducible assumption | (with_reducible apply frame_traceStep <;> first | exact frame_sub rfl hL | skip) | (with_reducible apply frame_stallQueue <;> first | exact frame_sub rfl hL | skip) | (with_reducible apply frame_State_modCore <;> first | exact frame_sub rfl hL | skip) | with_reducible apply frame_ifDue | with_reducible exact frame_fault | with_reducible apply frame_next | with_reducible apply frame_foldl | with_reducible apply frame_foldl2 | with_reducible apply frame_foldl1 | split | intro _ | dsimp only)

theorem frame_lidCore {L : List Piece} {u : State} (x0 : _) (x1 : _) {s : State} (hL : ∀ p, p ∈ ([.host, .pre, .cores, .flows, .funnels, .trace, .counters] : List Piece) → p ∈ L)  (h : Framed L u s) : Framed L u (lidCore x0 x1 s) := by
  unfold lidCore
  repeat (first | with_reducible assumption | (with_reducible apply frame_State_modCtx <;> first | exact frame_sub rfl hL | skip) | (with_reducible apply frame_count <;> first | exact frame_sub rfl hL | skip) | (with_reducible apply frame_stepDone <;> first | exact frame_sub rfl hL | skip) | (with_reducible apply frame_dropArrival <;> first | exact frame_sub rfl hL | skip) | with_reducible apply frame_each | with_reducible apply frame_foldl | with_reducible apply frame_foldl2 | with_reducible apply frame_foldl1 | split | intro _ | dsimp only)

theorem frame_execLidEdge {L : List Piece} {u : State} (x0 : _) {s : State} (hL : ∀ p, p ∈ ([.host, .pre, .cores, .flows, .funnels, .trace, .counters] : List Piece) → p ∈ L)  (h : Framed L u s) : FramedAnswer L u (execLidEdge x0 s) := by
  unfold execLidEdge
  repeat (first | with_reducible assumption | (with_reducible apply frame_traceOnly <;> first | exact frame_sub rfl hL | skip) | (with_reducible apply frame_lidCore <;> first | exact frame_sub rfl hL | skip) | with_reducible apply frame_each | with_reducible apply frame_ifDue | with_reducible exact frame_fault | with_reducible apply frame_next | with_reducible apply frame_foldl | with_reducible apply frame_foldl2 | with_reducible apply frame_foldl1 | split | intro _ | dsimp only)

theorem frame_execFence {L : List Piece} {u : State} (x0 : _) (x1 : _) {s : State} (hL : ∀ p, p ∈ ([.cores, .trace] : List Piece) → p ∈ L)  (h : Framed L u s) : FramedAnswer L u (execFence x0 x1 s) := by
  unfold execFence
  repeat (first | with_reducible assumption | (with_reducible apply frame_traceStep <;> first | exact frame_sub rfl hL | skip) | (with_reducible apply frame_stallQueue <;> first | exact frame_sub rfl hL | skip) | (with_reducible apply frame_State_modCore <;> first | exact frame_sub rfl hL | skip) | with_reducible apply frame_ifDue | with_reducible exact frame_fault | with_reducible apply frame_next | with_reducible apply frame_foldl | with_reducible apply frame_foldl2 | with_reducible apply frame_foldl1 | split | intro _ | dsimp only)

theorem frame_execFenceAck {L : List Piece} {u : State} (x0 : _) (x1 : _) {s : State} (hL : ∀ p, p ∈ ([.host, .pre, .cores, .flows, .funnels, .trace, .counters] : List Piece) → p ∈ L)  (h : Framed L u s) : FramedAnswer L u (execFenceAck x0 x1 s) := by
  unfold execFenceAck
  repeat (first | with_reducible assumption | (with_reducible apply frame_traceOnly <;> first | exact frame_sub rfl hL | skip) | (with_reducible apply frame_count <;> first | exact frame_sub rfl hL | skip) | (with_reducible apply frame_stepDone <;> first | exact frame_sub rfl hL | skip) | with_reducible apply frame_ifDue | with_reducible exact frame_fault | with_reducible apply frame_next | with_reducible apply frame_foldl | with_reducible apply frame_foldl2 | with_reducible apply frame_foldl1 | split | intro _ | dsimp only)

theorem frame_sendClaim {L : List Piece} {u : State} (x0 : _) (x1 : _) (x2 : _) (x3 : _) (x4 : _) {s : State} (hL : ∀ p, p ∈ ([.flows, .counters] : List Piece) → p ∈ L)  (h : Framed L u s) : Framed L u (sendClaim x0 x1 x2 x3 x4 s) := by
  unfold sendClaim
  repeat (first | with_reducible assumption | (with_reducible apply frame_count <;> first | exact frame_sub rfl hL | skip) | (with_reducible apply frame_State_modFlows <;> first | exact frame_sub rfl hL | skip) | with_reducible apply frame_foldl | with_reducible apply frame_foldl2 | with_reducible apply frame_foldl1 | split | intro _ | dsimp only)

theorem frame_execWorkReset {L : List Piece} {u : State} (x0 : _) (x1 : _) {s : State} (hL : ∀ p, p ∈ ([.cores, .flows, .trace, .counters] : List Piece) → p ∈ L)  (h : Framed L u s) : FramedAnswer L u (execWorkReset x0 x1 s) := by
  unfold execWorkReset
  repeat (first | with_reducible assumption | (with_reducible apply frame_stallQueue <;> first | exact frame_sub rfl hL | skip) | (with_reducible apply frame_sendClaim <;> first | exact frame_sub rfl hL | skip) | (with_reducible apply frame_traceStep <;> first | exact frame_sub rfl hL | skip) | with_reducible apply frame_ifDue | with_reducible exact frame_fault | with_reducible apply frame_next | with_reducible apply frame_foldl | with_reducible apply frame_foldl2 | with_reducible apply frame_foldl1 | split | intro _ | dsimp only)

theorem frame_execWorkClaim {L : List Piece} {u : State} (x0 : _) (x1 : _) {s : State} (hL : ∀ p, p ∈ ([.flows, .counters] : List Piece) → p ∈ L)  (h : Framed L u s) : FramedAnswer L u (execWorkClaim x0 x1 s) := by
  unfold execWorkClaim
  repeat (first | with_reducible assumption | (with_reducible apply frame_count <;> first | exact frame_sub rfl hL | skip) | (with_reducible apply frame_State_modFlows <;> first | exact frame_sub rfl hL | skip) | with_reducible apply frame_ifDue | with_reducible exact frame_fault | with_reducible apply frame_next | with_reducible apply frame_foldl | with_reducible apply frame_foldl2 | with_reducible apply frame_foldl1 | split | intro _ | dsimp only)

theorem frame_flitFate {L : List Piece} {u : State} (x0 : _) (x1 : _) (x2 : _) {s : State} (hL : ∀ p, p ∈ ([.draw, .power, .crock, .host, .pre, .tiles, .cores, .flows, .ingest, .tb, .funnels, .trace, .counters] : List Piece) → p ∈ L)  (h : Framed L u s) : Framed L u (flitFate x0 x1 x2 s) := by
  unfold flitFate
  repeat (first | with_reducible assumption | (with_reducible apply frame_count <;> first | exact frame_sub rfl hL | skip) | (with_reducible apply frame_attribute_ <;> first | exact frame_sub rfl hL | skip) | with_reducible apply frame_foldl | with_reducible apply frame_foldl2 | with_reducible apply frame_foldl1 | split | intro _ | dsimp only)

theorem frame_popRoute {L : List Piece} {u : State} (x0 : _) (x1 : _) {s : State} (hL : ∀ p, p ∈ ([.flows] : List Piece) → p ∈ L)  (h : Framed L u s) : Framed L u (popRoute x0 x1 s) := by
  unfold popRoute
  repeat (first | with_reducible assumption | (with_reducible apply frame_State_modFlows <;> first | exact frame_sub rfl hL | skip) | with_reducible apply frame_foldl | with_reducible apply frame_foldl2 | with_reducible apply frame_foldl1 | split | intro _ | dsimp only)

theorem frame_execSignalArrival {L : List Piece} {u : State} (x0 : _) (x1 : _) (x2 : _) {s : State} (hL : ∀ p, p ∈ ([.draw, .power, .crock, .host, .pre, .tiles, .cores, .flows, .ingest, .tb, .funnels, .trace, .counters] : List Piece) → p ∈ L)  (h : Framed L u s) : FramedAnswer L u (execSignalArrival x0 x1 x2 s) := by
  unfold execSignalArrival
  repeat (first | with_reducible assumption | (with_reducible apply frame_signalAt <;> first | exact frame_sub rfl hL | skip) | (with_reducible apply frame_flitFate <;> first | exact frame_sub rfl hL | skip) | (with_reducible apply frame_popRoute <;> first | exact frame_sub rfl hL | skip) | with_reducible apply frame_ifDue | with_reducible exact frame_fault | with_reducible apply frame_next | with_reducible apply frame_foldl | with_reducible apply frame_foldl2 | with_reducible apply frame_foldl1 | split | intro _ | dsimp only)

theorem frame_execStockpotSignalApply {L : List Piece} {u : State} (x0 : _) {s : State} (hL : ∀ p, p ∈ ([.host, .pre, .cores, .flows, .funnels, .trace, .counters] : List Piece) → p ∈ L)  (h : Framed L u s) : FramedAnswer L u (execStockpotSignalApply x0 s) := by
  unfold execStockpotSignalApply
  repeat (first | with_reducible assumption | (with_reducible apply frame_State_modFlows <;> first | exact frame_sub rfl hL | skip) | (with_reducible apply frame_releaseAll <;> first | exact frame_sub rfl hL | skip) | (with_reducible apply frame_addV <;> first | exact frame_sub rfl hL | skip) | (with_reducible apply frame_count <;> first | exact frame_sub rfl hL | skip) | with_reducible apply frame_ifDue | with_reducible exact frame_fault | with_reducible apply frame_next | with_reducible apply frame_foldl | with_reducible apply frame_foldl2 | with_reducible apply frame_foldl1 | split | intro _ | dsimp only)

theorem frame_abandonPart {L : List Piece} {u : State} (x0 : _) (x1 : _) (x2 : _) {s : State} (hL : ∀ p, p ∈ ([.host, .pre, .cores, .flows, .funnels, .trace, .counters] : List Piece) → p ∈ L)  (h : Framed L u s) : Framed L u (abandonPart x0 x1 x2 s) := by
  unfold abandonPart
  repeat (first | with_reducible assumption | (with_reducible apply frame_State_modRun <;> first | exact frame_sub rfl hL | skip) | (with_reducible apply frame_State_modCore <;> first | exact frame_sub rfl hL | skip) | (with_reducible apply frame_dropQueue <;> first | exact frame_sub rfl hL | skip) | (with_reducible apply frame_State_modCtx <;> first | exact frame_sub rfl hL | skip) | (with_reducible apply frame_traceOnly <;> first | exact frame_sub rfl hL | skip) | (with_reducible apply frame_count <;> first | exact frame_sub rfl hL | skip) | (with_reducible apply frame_partOver <;> first | exact frame_sub rfl hL | skip) | with_reducible apply frame_foldl | with_reducible apply frame_foldl2 | with_reducible apply frame_foldl1 | split | intro _ | dsimp only)

theorem frame_queueWatchdog {L : List Piece} {u : State} (x0 : _) (x1 : _) {s : State} (hL : ∀ p, p ∈ ([.host, .pre, .cores, .flows, .funnels, .trace, .counters] : List Piece) → p ∈ L)  (h : Framed L u s) : Framed L u (queueWatchdog x0 x1 s) := by
  unfold queueWatchdog
  repeat (first | with_reducible assumption | (with_reducible apply frame_raiseWatchdog <;> first | exact frame_sub rfl hL | skip) | (with_reducible apply frame_formRun <;> first | exact frame_sub rfl hL | skip) | (with_reducible apply frame_abandonPart <;> first | exact frame_sub rfl hL | skip) | with_reducible apply frame_foldl | with_reducible apply frame_foldl2 | with_reducible apply frame_foldl1 | split | intro _ | dsimp only)

theorem frame_execQueueWatchdog {L : List Piece} {u : State} (x0 : _) (x1 : _) {s : State} (hL : ∀ p, p ∈ ([.host, .pre, .cores, .flows, .funnels, .trace, .counters] : List Piece) → p ∈ L)  (h : Framed L u s) : FramedAnswer L u (execQueueWatchdog x0 x1 s) := by
  unfold execQueueWatchdog
  repeat (first | with_reducible assumption | (with_reducible apply frame_queueWatchdog <;> first | exact frame_sub rfl hL | skip) | with_reducible apply frame_ifDue | with_reducible exact frame_fault | with_reducible apply frame_next | with_reducible apply frame_foldl | with_reducible apply frame_foldl2 | with_reducible apply frame_foldl1 | split | intro _ | dsimp only)

theorem frame_satCheck {L : List Piece} {u : State} (x0 : _) (x1 : _) (x2 : _) (x3 : _) {s : State} (hL : ∀ p, p ∈ ([.flows, .funnels, .trace, .counters] : List Piece) → p ∈ L)  (h : Framed L u s) : Framed L u (satCheck x0 x1 x2 x3 s) := by
  unfold satCheck
  repeat (first | with_reducible assumption | (with_reducible apply frame_State_setRun <;> first | exact frame_sub rfl hL | skip) | (with_reducible apply frame_raisePart <;> first | exact frame_sub rfl hL | skip) | (with_reducible apply frame_count <;> first | exact frame_sub rfl hL | skip) | (with_reducible apply frame_State_setCtx <;> first | exact frame_sub rfl hL | skip) | with_reducible apply frame_foldl | with_reducible apply frame_foldl2 | with_reducible apply frame_foldl1 | split | intro _ | dsimp only)

theorem frame_satRun {L : List Piece} {u : State} (x0 : _) (x1 : _) (x2 : _) (x3 : _) (x4 : _) {s : State} (hL : ∀ p, p ∈ ([.flows, .funnels, .trace, .counters] : List Piece) → p ∈ L)  (h : Framed L u s) : Framed L u (satRun x0 x1 x2 x3 x4 s) := by
  unfold satRun
  repeat (first | with_reducible assumption | (with_reducible apply frame_satCheck <;> first | exact frame_sub rfl hL | skip) | (with_reducible apply frame_State_modRun <;> first | exact frame_sub rfl hL | skip) | with_reducible apply frame_foldl | with_reducible apply frame_foldl2 | with_reducible apply frame_foldl1 | split | intro _ | dsimp only)

theorem frame_addSat {L : List Piece} {u : State} (x0 : _) (x1 : _) (x2 : _) {s : State} (hL : ∀ p, p ∈ ([.cores, .flows, .funnels, .trace, .counters] : List Piece) → p ∈ L)  (h : Framed L u s) : Framed L u (addSat x0 x1 x2 s) := by
  unfold addSat
  repeat (first | with_reducible assumption | (with_reducible apply frame_State_setQueue <;> first | exact frame_sub rfl hL | skip) | (with_reducible apply frame_satRun <;> first | exact frame_sub rfl hL | skip) | with_reducible apply frame_foldl | with_reducible apply frame_foldl2 | with_reducible apply frame_foldl1 | split | intro _ | dsimp only)

theorem frame_failRun {L : List Piece} {u : State} (x0 : _) (x1 : _) {s : State} (hL : ∀ p, p ∈ ([.flows] : List Piece) → p ∈ L)  (h : Framed L u s) : Framed L u (failRun x0 x1 s) := by
  unfold failRun
  repeat (first | with_reducible assumption | (with_reducible apply frame_State_modRun <;> first | exact frame_sub rfl hL | skip) | with_reducible apply frame_foldl | with_reducible apply frame_foldl2 | with_reducible apply frame_foldl1 | split | intro _ | dsimp only)

theorem frame_applyMark {L : List Piece} {u : State} (x0 : _) (x1 : _) {s : State} (hL : ∀ p, p ∈ ([.flows] : List Piece) → p ∈ L)  (h : Framed L u s) : Framed L u (applyMark x0 x1 s) := by
  unfold applyMark
  repeat (first | with_reducible assumption | (with_reducible apply frame_failRun <;> first | exact frame_sub rfl hL | skip) | (with_reducible apply frame_mark <;> first | exact frame_sub rfl hL | skip) | with_reducible apply frame_foldl | with_reducible apply frame_foldl2 | with_reducible apply frame_foldl1 | split | intro _ | dsimp only)

theorem frame_addMark {L : List Piece} {u : State} (x0 : _) (x1 : _) (x2 : _) {s : State} (hL : ∀ p, p ∈ ([.cores, .flows] : List Piece) → p ∈ L)  (h : Framed L u s) : Framed L u (addMark x0 x1 x2 s) := by
  unfold addMark
  repeat (first | with_reducible assumption | (with_reducible apply frame_State_setQueue <;> first | exact frame_sub rfl hL | skip) | (with_reducible apply frame_applyMark <;> first | exact frame_sub rfl hL | skip) | with_reducible apply frame_foldl | with_reducible apply frame_foldl2 | with_reducible apply frame_foldl1 | split | intro _ | dsimp only)

theorem frame_countGrps {L : List Piece} {u : State} (x0 : _) (x1 : _) (x2 : _) (x3 : _) {s : State} (hL : ∀ p, p ∈ ([.counters] : List Piece) → p ∈ L)  (h : Framed L u s) : Framed L u (countGrps x0 x1 x2 x3 s) := by
  unfold countGrps
  repeat (first | with_reducible assumption | (with_reducible apply frame_count <;> first | exact frame_sub rfl hL | skip) | with_reducible apply frame_foldl | with_reducible apply frame_foldl2 | with_reducible apply frame_foldl1 | split | intro _ | dsimp only)

theorem frame_execLayer {L : List Piece} {u : State} (x0 : _) (x1 : _) {s : State} (hL : ∀ p, p ∈ ([.cores, .flows, .trace, .counters] : List Piece) → p ∈ L)  (h : Framed L u s) : FramedAnswer L u (execLayer x0 x1 s) := by
  unfold execLayer
  repeat (first | with_reducible assumption | (with_reducible apply frame_State_setQueue <;> first | exact frame_sub rfl hL | skip) | (with_reducible apply frame_traceStep <;> first | exact frame_sub rfl hL | skip) | (with_reducible apply frame_sendClaim <;> first | exact frame_sub rfl hL | skip) | with_reducible apply frame_ifDue | with_reducible exact frame_fault | with_reducible apply frame_next | with_reducible apply frame_foldl | with_reducible apply frame_foldl2 | with_reducible apply frame_foldl1 | split | intro _ | dsimp only)

theorem frame_discardSlots {L : List Piece} {u : State} (x0 : _) (x1 : _) (x2 : _) (x3 : _) {s : State} (hL : ∀ p, p ∈ ([.cores, .flows] : List Piece) → p ∈ L)  (h : Framed L u s) : Framed L u (discardSlots x0 x1 x2 x3 s) := by
  unfold discardSlots
  repeat (first | with_reducible assumption | (with_reducible apply frame_State_modCore <;> first | exact frame_sub rfl hL | skip) | (with_reducible apply frame_State_modRun <;> first | exact frame_sub rfl hL | skip) | with_reducible apply frame_foldl | with_reducible apply frame_foldl2 | with_reducible apply frame_foldl1 | split | intro _ | dsimp only)

theorem frame_standAttempt {L : List Piece} {u : State} (x0 : _) (x1 : _) (x2 : _) (x3 : _) (x4 : _) {s : State} (hL : ∀ p, p ∈ ([.cores, .flows, .funnels, .trace, .counters] : List Piece) → p ∈ L)  (h : Framed L u s) : Framed L u (standAttempt x0 x1 x2 x3 x4 s) := by
  unfold standAttempt
  repeat (first | with_reducible assumption | (with_reducible apply frame_State_setQueue <;> first | exact frame_sub rfl hL | skip) | (with_reducible apply frame_satRun <;> first | exact frame_sub rfl hL | skip) | (with_reducible apply frame_applyMark <;> first | exact frame_sub rfl hL | skip) | with_reducible apply frame_each | with_reducible apply frame_foldl | with_reducible apply frame_foldl2 | with_reducible apply frame_foldl1 | split | intro _ | dsimp only)

theorem frame_windowRead {L : List Piece} {u : State} (x0 : _) (x1 : _) {s : State} (hL : ∀ p, p ∈ ([.flows] : List Piece) → p ∈ L)  (h : Framed L u s) : Framed L u (windowRead x0 x1 s) := by
  unfold windowRead
  repeat (first | with_reducible assumption | (with_reducible apply frame_State_modRun <;> first | exact frame_sub rfl hL | skip) | with_reducible apply frame_foldl | with_reducible apply frame_foldl2 | with_reducible apply frame_foldl1 | split | intro _ | dsimp only)

theorem frame_closeCoding {L : List Piece} {u : State} (x0 : _) (x1 : _) {s : State} (hL : ∀ p, p ∈ ([.cores, .flows, .funnels, .trace, .counters] : List Piece) → p ∈ L)  (h : Framed L u s) : Framed L u (closeCoding x0 x1 s) := by
  unfold closeCoding
  repeat (first | with_reducible assumption | (with_reducible apply frame_State_setCtx <;> first | exact frame_sub rfl hL | skip) | (with_reducible apply frame_windowRead <;> first | exact frame_sub rfl hL | skip) | (with_reducible apply frame_count <;> first | exact frame_sub rfl hL | skip) | (with_reducible apply frame_standAttempt <;> first | exact frame_sub rfl hL | skip) | (with_reducible apply frame_discardSlots <;> first | exact frame_sub rfl hL | skip) | (with_reducible apply frame_mark <;> first | exact frame_sub rfl hL | skip) | (with_reducible apply frame_State_setQueue <;> first | exact frame_sub rfl hL | skip) | with_reducible apply frame_foldl | with_reducible apply frame_foldl2 | with_reducible apply frame_foldl1 | split | intro _ | dsimp only)

theorem frame_runParam {L : List Piece} {u : State} (x0 : _) (x1 : _) (x2 : _) {s : State} (hL : ∀ p, p ∈ ([.host, .pre, .cores, .flows, .funnels, .trace, .counters] : List Piece) → p ∈ L)  (h : Framed L u s) : Framed L u (runParam x0 x1 x2 s) := by
  unfold runParam
  repeat (first | with_reducible assumption | (with_reducible apply frame_raisePart <;> first | exact frame_sub rfl hL | skip) | (with_reducible apply frame_formRun <;> first | exact frame_sub rfl hL | skip) | (with_reducible apply frame_abandonPart <;> first | exact frame_sub rfl hL | skip) | with_reducible apply frame_foldl | with_reducible apply frame_foldl2 | with_reducible apply frame_foldl1 | split | intro _ | dsimp only)

theorem frame_scoop {L : List Piece} {u : State} (x0 : _) (x1 : _) (x2 : _) (x3 : _) (x4 : _) (x5 : _) {s : State} (hL : ∀ p, p ∈ ([.host, .pre, .cores, .flows, .funnels, .trace, .counters] : List Piece) → p ∈ L)  (h : Framed L u s) : Framed L u (scoop x0 x1 x2 x3 x4 x5 s) := by
  unfold scoop
  repeat (first | with_reducible assumption | (with_reducible apply frame_runParam <;> first | exact frame_sub rfl hL | skip) | (with_reducible apply frame_countGrps <;> first | exact frame_sub rfl hL | skip) | (with_reducible apply frame_addSat <;> first | exact frame_sub rfl hL | skip) | (with_reducible apply frame_State_setQueue <;> first | exact frame_sub rfl hL | skip) | (with_reducible apply frame_closeCoding <;> first | exact frame_sub rfl hL | skip) | with_reducible apply frame_foldl | with_reducible apply frame_foldl2 | with_reducible apply frame_foldl1 | split | intro _ | dsimp only)

theorem frame_putSlot {L : List Piece} {u : State} (x0 : _) (x1 : _) (x2 : _) (x3 : _) (x4 : _) (x5 : _) {s : State} (hL : ∀ p, p ∈ ([.cores, .flows] : List Piece) → p ∈ L)  (h : Framed L u s) : Framed L u (putSlot x0 x1 x2 x3 x4 x5 s) := by
  unfold putSlot
  repeat (first | with_reducible assumption | (with_reducible apply frame_State_modCore <;> first | exact frame_sub rfl hL | skip) | (with_reducible apply frame_State_modRun <;> first | exact frame_sub rfl hL | skip) | with_reducible apply frame_foldl | with_reducible apply frame_foldl2 | with_reducible apply frame_foldl1 | split | intro _ | dsimp only)

theorem frame_spillSlot {L : List Piece} {u : State} (x0 : _) (x1 : _) {s : State} (hL : ∀ p, p ∈ ([.cores, .flows, .counters] : List Piece) → p ∈ L)  (h : Framed L u s) : Framed L u (spillSlot x0 x1 s) := by
  unfold spillSlot
  repeat (first | with_reducible assumption | (with_reducible apply frame_mark <;> first | exact frame_sub rfl hL | skip) | (with_reducible apply frame_spillOut <;> first | exact frame_sub rfl hL | skip) | (with_reducible apply frame_State_modRun <;> first | exact frame_sub rfl hL | skip) | (with_reducible apply frame_State_modCore <;> first | exact frame_sub rfl hL | skip) | with_reducible apply frame_foldl | with_reducible apply frame_foldl2 | with_reducible apply frame_foldl1 | split | intro _ | dsimp only)

theorem frame_restoreSlot {L : List Piece} {u : State} (x0 : _) (x1 : _) (x2 : _) (x3 : _) (x4 : _) (x5 : _) {s : State} (hL : ∀ p, p ∈ ([.cores, .flows, .counters] : List Piece) → p ∈ L)  (h : Framed L u s) : Framed L u (restoreSlot x0 x1 x2 x3 x4 x5 s) := by
  unfold restoreSlot
  repeat (first | with_reducible assumption | (with_reducible apply frame_State_modRun <;> first | exact frame_sub rfl hL | skip) | (with_reducible apply frame_spillIn <;> first | exact frame_sub rfl hL | skip) | (with_reducible apply frame_State_modCore <;> first | exact frame_sub rfl hL | skip) | with_reducible apply frame_foldl | with_reducible apply frame_foldl2 | with_reducible apply frame_foldl1 | split | intro _ | dsimp only)

theorem frame_setCompleted {L : List Piece} {u : State} (x0 : _) (x1 : _) (x2 : _) (x3 : _) (x4 : _) {s : State} (hL : ∀ p, p ∈ ([.cores] : List Piece) → p ∈ L)  (h : Framed L u s) : Framed L u (setCompleted x0 x1 x2 x3 x4 s) := by
  unfold setCompleted
  repeat (first | with_reducible assumption | (with_reducible apply frame_State_modCore <;> first | exact frame_sub rfl hL | skip) | with_reducible apply frame_foldl | with_reducible apply frame_foldl2 | with_reducible apply frame_foldl1 | split | intro _ | dsimp only)

theorem frame_acquire {L : List Piece} {u : State} (x0 : _) (x1 : _) (x2 : _) (x3 : _) (x4 : _) (x5 : _) (x6 : _) (x7 : _) {s : State} (hL : ∀ p, p ∈ ([.cores, .flows, .counters] : List Piece) → p ∈ L)  (h : Framed L u s) : FramedOption L u (acquire x0 x1 x2 x3 x4 x5 x6 x7 s) := by
  unfold acquire
  repeat (first | with_reducible assumption | (with_reducible apply frame_restoreSlot <;> first | exact frame_sub rfl hL | skip) | (with_reducible apply frame_State_modCore <;> first | exact frame_sub rfl hL | skip) | (with_reducible apply frame_State_setQueue <;> first | exact frame_sub rfl hL | skip) | (with_reducible apply frame_spillSlot <;> first | exact frame_sub rfl hL | skip) | with_reducible exact frame_none | with_reducible apply frame_some | with_reducible apply frame_foldl | with_reducible apply frame_foldl2 | with_reducible apply frame_foldl1 | split | intro _ | dsimp only)

theorem frame_freeItem {L : List Piece} {u : State} (x0 : _) (x1 : _) (x2 : _) {s : State} (hL : ∀ p, p ∈ ([.cores] : List Piece) → p ∈ L)  (h : Framed L u s) : Framed L u (freeItem x0 x1 x2 s) := by
  unfold freeItem
  repeat (first | with_reducible assumption | (with_reducible apply frame_State_modCore <;> first | exact frame_sub rfl hL | skip) | with_reducible apply frame_foldl | with_reducible apply frame_foldl2 | with_reducible apply frame_foldl1 | split | intro _ | dsimp only)

theorem frame_sendPsums {L : List Piece} {u : State} (x0 : _) (x1 : _) (x2 : _) (x3 : _) (x4 : _) (x5 : _) {s : State} (hL : ∀ p, p ∈ ([.cores, .flows, .counters] : List Piece) → p ∈ L)  (h : Framed L u s) : Framed L u (sendPsums x0 x1 x2 x3 x4 x5 s) := by
  unfold sendPsums
  repeat (first | with_reducible assumption | (with_reducible apply frame_setCompleted <;> first | exact frame_sub rfl hL | skip) | (with_reducible apply frame_sendLadle <;> first | exact frame_sub rfl hL | skip) | (with_reducible apply frame_State_setQueue <;> first | exact frame_sub rfl hL | skip) | (with_reducible apply frame_freeItem <;> first | exact frame_sub rfl hL | skip) | with_reducible apply frame_each | with_reducible apply frame_foldl | with_reducible apply frame_foldl2 | with_reducible apply frame_foldl1 | split | intro _ | dsimp only)

theorem frame_readOut {L : List Piece} {u : State} (x0 : _) (x1 : _) (x2 : _) (x3 : _) (x4 : _) (x5 : _) {s : State} (hL : ∀ p, p ∈ ([.cores, .flows, .counters] : List Piece) → p ∈ L)  (h : Framed L u s) : Framed L u (readOut x0 x1 x2 x3 x4 x5 s) := by
  unfold readOut
  repeat (first | with_reducible assumption | (with_reducible apply frame_State_setQueue <;> first | exact frame_sub rfl hL | skip) | (with_reducible apply frame_freeItem <;> first | exact frame_sub rfl hL | skip) | (with_reducible apply frame_count <;> first | exact frame_sub rfl hL | skip) | (with_reducible apply frame_addMark <;> first | exact frame_sub rfl hL | skip) | (with_reducible apply frame_State_modCore <;> first | exact frame_sub rfl hL | skip) | with_reducible apply frame_foldl | with_reducible apply frame_foldl2 | with_reducible apply frame_foldl1 | split | intro _ | dsimp only)

theorem frame_advance {L : List Piece} {u : State} (x0 : _) (x1 : _) (x2 : _) {s : State} (hL : ∀ p, p ∈ ([.host, .pre, .cores, .flows, .funnels, .trace, .counters] : List Piece) → p ∈ L)  (h : Framed L u s) : Framed L u (advance x0 x1 x2 s) := by
  induction x0 generalizing s with
  | zero => exact h
  | succ k ih =>
    unfold advance
    split
    · split
      · split
        · split
          · split
            · exact h
            · exact ih (frame_sendPsums _ _ _ _ _ _ (frame_sub rfl hL) h)
          · exact frame_readOut _ _ _ _ _ _ (frame_sub rfl hL) h
        · split
          · exact frame_stepDone _ _ (frame_sub rfl hL) h
          · exact h
      · exact h
    · exact h

theorem frame_execScoopCodes {L : List Piece} {u : State} (x0 : _) (x1 : _) {s : State} (hL : ∀ p, p ∈ ([.host, .pre, .cores, .flows, .funnels, .trace, .counters] : List Piece) → p ∈ L)  (h : Framed L u s) : FramedAnswer L u (execScoopCodes x0 x1 s) := by
  unfold execScoopCodes
  repeat (first | with_reducible assumption | (with_reducible apply frame_advance <;> first | exact frame_sub rfl hL | skip) | (with_reducible apply frame_scoop <;> first | exact frame_sub rfl hL | skip) | with_reducible apply frame_ifDue | with_reducible exact frame_fault | with_reducible apply frame_next | with_reducible apply frame_foldl | with_reducible apply frame_foldl2 | with_reducible apply frame_foldl1 | split | intro _ | dsimp only)

theorem frame_execWorkClaimReply {L : List Piece} {u : State} (x0 : _) (x1 : _) {s : State} (hL : ∀ p, p ∈ ([.host, .pre, .cores, .flows, .funnels, .trace, .counters] : List Piece) → p ∈ L)  (h : Framed L u s) : FramedAnswer L u (execWorkClaimReply x0 x1 s) := by
  unfold execWorkClaimReply
  repeat (first | with_reducible assumption | (with_reducible apply frame_State_modFlows <;> first | exact frame_sub rfl hL | skip) | (with_reducible apply frame_stepDone <;> first | exact frame_sub rfl hL | skip) | (with_reducible apply frame_advance <;> first | exact frame_sub rfl hL | skip) | (with_reducible apply frame_closeCoding <;> first | exact frame_sub rfl hL | skip) | (with_reducible apply frame_State_setQueue <;> first | exact frame_sub rfl hL | skip) | with_reducible apply frame_ifDue | with_reducible exact frame_fault | with_reducible apply frame_next | with_reducible apply frame_foldl | with_reducible apply frame_foldl2 | with_reducible apply frame_foldl1 | split | intro _ | dsimp only)

theorem frame_commitOp {L : List Piece} {u : State} (x0 : _) (x1 : _) (x2 : _) {s : State} (hL : ∀ p, p ∈ ([.host, .pre, .cores, .flows, .funnels, .trace, .counters] : List Piece) → p ∈ L)  (h : Framed L u s) : Framed L u (commitOp x0 x1 x2 s) := by
  unfold commitOp
  repeat (first | with_reducible assumption | (with_reducible apply frame_count <;> first | exact frame_sub rfl hL | skip) | (with_reducible apply frame_progress <;> first | exact frame_sub rfl hL | skip) | (with_reducible apply frame_putSlot <;> first | exact frame_sub rfl hL | skip) | (with_reducible apply frame_setCompleted <;> first | exact frame_sub rfl hL | skip) | (with_reducible apply frame_advance <;> first | exact frame_sub rfl hL | skip) | with_reducible apply frame_foldl | with_reducible apply frame_foldl2 | with_reducible apply frame_foldl1 | split | intro _ | dsimp only)

theorem frame_claimNext {L : List Piece} {u : State} (x0 : _) (x1 : _) {s : State} (hL : ∀ p, p ∈ ([.cores, .flows, .counters] : List Piece) → p ∈ L)  (h : Framed L u s) : Framed L u (claimNext x0 x1 s) := by
  unfold claimNext
  repeat (first | with_reducible assumption | (with_reducible apply frame_sendClaim <;> first | exact frame_sub rfl hL | skip) | (with_reducible apply frame_State_setQueue <;> first | exact frame_sub rfl hL | skip) | with_reducible apply frame_foldl | with_reducible apply frame_foldl2 | with_reducible apply frame_foldl1 | split | intro _ | dsimp only)

theorem frame_noteTiles {L : List Piece} {u : State} (x0 : _) (x1 : _) (x2 : _) (x3 : _) {s : State} (hL : ∀ p, p ∈ ([.flows] : List Piece) → p ∈ L)  (h : Framed L u s) : Framed L u (noteTiles x0 x1 x2 x3 s) := by
  unfold noteTiles
  repeat (first | with_reducible assumption | (with_reducible apply frame_State_modRun <;> first | exact frame_sub rfl hL | skip) | with_reducible apply frame_foldl | with_reducible apply frame_foldl2 | with_reducible apply frame_foldl1 | split | intro _ | dsimp only)

theorem frame_issueOp {L : List Piece} {u : State} (x0 : _) (x1 : _) (x2 : _) (x3 : _) (x4 : _) (x5 : _) (x6 : _) (x7 : _) {s : State} (hL : ∀ p, p ∈ ([.host, .pre, .tiles, .cores, .flows, .funnels, .trace, .counters] : List Piece) → p ∈ L)  (h : Framed L u s) : Framed L u (issueOp x0 x1 x2 x3 x4 x5 x6 x7 s) := by
  unfold issueOp
  repeat (first | with_reducible assumption | (with_reducible apply frame_State_modTile <;> first | exact frame_sub rfl hL | skip) | (with_reducible apply frame_State_modQueue <;> first | exact frame_sub rfl hL | skip) | (with_reducible apply frame_noteTiles <;> first | exact frame_sub rfl hL | skip) | (with_reducible apply frame_addMark <;> first | exact frame_sub rfl hL | skip) | (with_reducible apply frame_claimNext <;> first | exact frame_sub rfl hL | skip) | (with_reducible apply frame_commitOp <;> first | exact frame_sub rfl hL | skip) | (with_reducible apply frame_State_modCore <;> first | exact frame_sub rfl hL | skip) | with_reducible apply frame_each | with_reducible apply frame_foldl | with_reducible apply frame_foldl2 | with_reducible apply frame_foldl1 | split | intro _ | dsimp only)

theorem frame_execTileOpAdmit {L : List Piece} {u : State} (x0 : _) (x1 : _) {s : State} (hL : ∀ p, p ∈ ([.host, .pre, .tiles, .cores, .flows, .funnels, .trace, .counters] : List Piece) → p ∈ L)  (h : Framed L u s) : FramedAnswer L u (execTileOpAdmit x0 x1 s) := by
  unfold execTileOpAdmit
  repeat (first | with_reducible assumption | (with_reducible apply frame_issueOp <;> first | exact frame_sub rfl hL | skip) | (refine FramedOption.it ?_ _ (by with_reducible assumption); with_reducible apply frame_acquire <;> first | exact frame_sub rfl hL | skip) | with_reducible exact frame_fault | with_reducible apply frame_next | with_reducible apply frame_foldl | with_reducible apply frame_foldl2 | with_reducible apply frame_foldl1 | split | intro _ | dsimp only)

theorem frame_dropPsum {L : List Piece} {u : State} (x0 : _) (x1 : _) (x2 : _) (x3 : _) (x4 : _) (x5 : _) {s : State} (hL : ∀ p, p ∈ ([.trace, .counters] : List Piece) → p ∈ L)  (h : Framed L u s) : Framed L u (dropPsum x0 x1 x2 x3 x4 x5 s) := by
  unfold dropPsum
  repeat (first | with_reducible assumption | (with_reducible apply frame_traceOnly <;> first | exact frame_sub rfl hL | skip) | (with_reducible apply frame_count <;> first | exact frame_sub rfl hL | skip) | with_reducible apply frame_foldl | with_reducible apply frame_foldl2 | with_reducible apply frame_foldl1 | split | intro _ | dsimp only)

theorem frame_openForPsum {L : List Piece} {u : State} (x0 : _) (x1 : _) (x2 : _) (x3 : _) (x4 : _) (x5 : _) (x6 : _) {s : State} (hL : ∀ p, p ∈ ([.cores, .flows, .counters] : List Piece) → p ∈ L)  (h : Framed L u s) : Framed L u (openForPsum x0 x1 x2 x3 x4 x5 x6 s) := by
  unfold openForPsum
  repeat (first | with_reducible assumption | (with_reducible apply frame_State_modCore <;> first | exact frame_sub rfl hL | skip) | (with_reducible apply frame_State_modRun <;> first | exact frame_sub rfl hL | skip) | (with_reducible apply frame_mark <;> first | exact frame_sub rfl hL | skip) | (with_reducible apply frame_spillOut <;> first | exact frame_sub rfl hL | skip) | with_reducible apply frame_foldl | with_reducible apply frame_foldl2 | with_reducible apply frame_foldl1 | split | intro _ | dsimp only)

theorem frame_psumTake {L : List Piece} {u : State} (x0 : _) (x1 : _) (x2 : _) (x3 : _) (x4 : _) (x5 : _) (x6 : _) (x7 : _) (x8 : _) (x9 : _) {s : State} (hL : ∀ p, p ∈ ([.host, .pre, .cores, .flows, .funnels, .trace, .counters] : List Piece) → p ∈ L)  (h : Framed L u s) : Framed L u (psumTake x0 x1 x2 x3 x4 x5 x6 x7 x8 x9 s) := by
  unfold psumTake
  repeat (first | with_reducible assumption | (with_reducible apply frame_dropPsum <;> first | exact frame_sub rfl hL | skip) | (with_reducible apply frame_openForPsum <;> first | exact frame_sub rfl hL | skip) | (with_reducible apply frame_count <;> first | exact frame_sub rfl hL | skip) | (with_reducible apply frame_putSlot <;> first | exact frame_sub rfl hL | skip) | (with_reducible apply frame_setCompleted <;> first | exact frame_sub rfl hL | skip) | (with_reducible apply frame_advance <;> first | exact frame_sub rfl hL | skip) | (with_reducible apply frame_progress <;> first | exact frame_sub rfl hL | skip) | (with_reducible apply frame_raisePart <;> first | exact frame_sub rfl hL | skip) | with_reducible apply frame_foldl | with_reducible apply frame_foldl2 | with_reducible apply frame_foldl1 | split | intro _ | dsimp only)

theorem frame_execPsumArrival {L : List Piece} {u : State} (x0 : _) (x1 : _) (x2 : _) {s : State} (hL : ∀ p, p ∈ ([.draw, .power, .crock, .host, .pre, .tiles, .cores, .flows, .ingest, .tb, .funnels, .trace, .counters] : List Piece) → p ∈ L)  (h : Framed L u s) : FramedAnswer L u (execPsumArrival x0 x1 x2 s) := by
  unfold execPsumArrival
  repeat (first | with_reducible assumption | (with_reducible apply frame_psumTake <;> first | exact frame_sub rfl hL | skip) | (with_reducible apply frame_flitFate <;> first | exact frame_sub rfl hL | skip) | (with_reducible apply frame_popRoute <;> first | exact frame_sub rfl hL | skip) | with_reducible apply frame_ifDue | with_reducible exact frame_fault | with_reducible apply frame_next | with_reducible apply frame_foldl | with_reducible apply frame_foldl2 | with_reducible apply frame_foldl1 | split | intro _ | dsimp only)

theorem frame_actTake {L : List Piece} {u : State} (x0 : _) (x1 : _) (x2 : _) (x3 : _) (x4 : _) {s : State} (hL : ∀ p, p ∈ ([.cores, .flows] : List Piece) → p ∈ L)  (h : Framed L u s) : Framed L u (actTake x0 x1 x2 x3 x4 s) := by
  unfold actTake
  repeat (first | with_reducible assumption | (with_reducible apply frame_putAct <;> first | exact frame_sub rfl hL | skip) | (with_reducible apply frame_State_modCtx <;> first | exact frame_sub rfl hL | skip) | with_reducible apply frame_foldl | with_reducible apply frame_foldl2 | with_reducible apply frame_foldl1 | split | intro _ | dsimp only)

theorem frame_execActivationArrival {L : List Piece} {u : State} (x0 : _) (x1 : _) (x2 : _) {s : State} (hL : ∀ p, p ∈ ([.draw, .power, .crock, .host, .pre, .tiles, .cores, .flows, .ingest, .tb, .funnels, .trace, .counters] : List Piece) → p ∈ L)  (h : Framed L u s) : FramedAnswer L u (execActivationArrival x0 x1 x2 s) := by
  unfold execActivationArrival
  repeat (first | with_reducible assumption | (with_reducible apply frame_actTake <;> first | exact frame_sub rfl hL | skip) | (with_reducible apply frame_flitFate <;> first | exact frame_sub rfl hL | skip) | (with_reducible apply frame_popRoute <;> first | exact frame_sub rfl hL | skip) | with_reducible apply frame_ifDue | with_reducible exact frame_fault | with_reducible apply frame_next | with_reducible apply frame_foldl | with_reducible apply frame_foldl2 | with_reducible apply frame_foldl1 | split | intro _ | dsimp only)

theorem frame_putRegs {L : List Piece} {u : State} (x0 : _) {s : State} (hL : ∀ p, p ∈ ([.pre] : List Piece) → p ∈ L)  (h : Framed L u s) : Framed L u (putRegs x0 s) := by
  unfold putRegs
  repeat (first | with_reducible assumption | (with_reducible apply frame_State_setReg <;> first | exact frame_sub rfl hL | skip) | with_reducible apply frame_each | with_reducible apply frame_foldl | with_reducible apply frame_foldl2 | with_reducible apply frame_foldl1 | split | intro _ | dsimp only)

theorem frame_applyParts {L : List Piece} {u : State} (x0 : _) {s : State} (hL : ∀ p, p ∈ ([.power, .pre, .funnels, .trace] : List Piece) → p ∈ L)  (h : Framed L u s) : Framed L u (applyParts x0 s) := by
  unfold applyParts
  repeat (first | with_reducible assumption | (with_reducible apply frame_putRegs <;> first | exact frame_sub rfl hL | skip) | (with_reducible apply frame_raiseDev <;> first | exact frame_sub rfl hL | skip) | with_reducible apply frame_foldl | with_reducible apply frame_foldl2 | with_reducible apply frame_foldl1 | split | intro _ | dsimp only)

theorem frame_applyShare {L : List Piece} {u : State} (x0 : _) (x1 : _) {s : State} (hL : ∀ p, p ∈ ([.power, .pre, .funnels, .trace] : List Piece) → p ∈ L)  (h : Framed L u s) : Framed L u (applyShare x0 x1 s) := by
  unfold applyShare
  repeat (first | with_reducible assumption | (with_reducible apply frame_putRegs <;> first | exact frame_sub rfl hL | skip) | (with_reducible apply frame_State_setReg <;> first | exact frame_sub rfl hL | skip) | (with_reducible apply frame_raiseDev <;> first | exact frame_sub rfl hL | skip) | with_reducible apply frame_foldl | with_reducible apply frame_foldl2 | with_reducible apply frame_foldl1 | split | intro _ | dsimp only)

theorem frame_applyPot {L : List Piece} {u : State} (x0 : _) {s : State} (hL : ∀ p, p ∈ ([.power, .pre, .funnels, .trace] : List Piece) → p ∈ L)  (h : Framed L u s) : Framed L u (applyPot x0 s) := by
  unfold applyPot
  repeat (first | with_reducible assumption | (with_reducible apply frame_applyShare <;> first | exact frame_sub rfl hL | skip) | with_reducible apply frame_each | with_reducible apply frame_foldl | with_reducible apply frame_foldl2 | with_reducible apply frame_foldl1 | split | intro _ | dsimp only)

theorem frame_applyMem {L : List Piece} {u : State} (x0 : _) {s : State} (hL : ∀ p, p ∈ ([.power, .pre, .funnels, .trace] : List Piece) → p ∈ L)  (h : Framed L u s) : Framed L u (applyMem x0 s) := by
  unfold applyMem
  repeat (first | with_reducible assumption | (with_reducible apply frame_putRegs <;> first | exact frame_sub rfl hL | skip) | (with_reducible apply frame_raiseDev <;> first | exact frame_sub rfl hL | skip) | with_reducible apply frame_foldl | with_reducible apply frame_foldl2 | with_reducible apply frame_foldl1 | split | intro _ | dsimp only)

theorem frame_switchLinks {L : List Piece} {u : State} (x0 : _) {s : State} (hL : ∀ p, p ∈ ([.power, .flows, .ingest, .funnels, .trace, .counters] : List Piece) → p ∈ L)  (h : Framed L u s) : Framed L u (switchLinks x0 s) := by
  unfold switchLinks
  repeat (first | with_reducible assumption | (with_reducible apply frame_enableLink <;> first | exact frame_sub rfl hL | skip) | (with_reducible apply frame_disableLink <;> first | exact frame_sub rfl hL | skip) | with_reducible apply frame_each | with_reducible apply frame_foldl | with_reducible apply frame_foldl2 | with_reducible apply frame_foldl1 | split | intro _ | dsimp only)

theorem frame_applyPage {L : List Piece} {u : State} (x0 : _) (x1 : _) (x2 : _) {s : State} (hL : ∀ p, p ∈ ([.pre, .funnels] : List Piece) → p ∈ L)  (h : Framed L u s) : Framed L u (applyPage x0 x1 x2 s) := by
  unfold applyPage
  repeat (first | with_reducible assumption | (with_reducible apply frame_State_modFunnel <;> first | exact frame_sub rfl hL | skip) | (with_reducible apply frame_State_setReg <;> first | exact frame_sub rfl hL | skip) | (with_reducible apply frame_State_modPre <;> first | exact frame_sub rfl hL | skip) | with_reducible apply frame_each | with_reducible apply frame_foldl | with_reducible apply frame_foldl2 | with_reducible apply frame_foldl1 | split | intro _ | dsimp only)

theorem frame_applyPins {L : List Piece} {u : State} (x0 : _) {s : State} (hL : ∀ p, p ∈ ([.host, .pre, .tb, .counters] : List Piece) → p ∈ L)  (h : Framed L u s) : Framed L u (applyPins x0 s) := by
  unfold applyPins
  repeat (first | with_reducible assumption | (with_reducible apply frame_suppressPin <;> first | exact frame_sub rfl hL | skip) | (with_reducible apply frame_State_setReg <;> first | exact frame_sub rfl hL | skip) | with_reducible apply frame_each | with_reducible apply frame_foldl | with_reducible apply frame_foldl2 | with_reducible apply frame_foldl1 | split | intro _ | dsimp only)

theorem frame_applyRegs {L : List Piece} {u : State} (x0 : _) (x1 : _) {s : State} (hL : ∀ p, p ∈ ([.power, .host, .pre, .flows, .ingest, .tb, .funnels, .trace, .counters] : List Piece) → p ∈ L)  (h : Framed L u s) : Framed L u (applyRegs x0 x1 s) := by
  unfold applyRegs
  repeat (first | with_reducible assumption | (with_reducible apply frame_applyParts <;> first | exact frame_sub rfl hL | skip) | (with_reducible apply frame_applyPot <;> first | exact frame_sub rfl hL | skip) | (with_reducible apply frame_applyMem <;> first | exact frame_sub rfl hL | skip) | (with_reducible apply frame_applyPins <;> first | exact frame_sub rfl hL | skip) | (with_reducible apply frame_putRegs <;> first | exact frame_sub rfl hL | skip) | (with_reducible apply frame_applyPage <;> first | exact frame_sub rfl hL | skip) | (with_reducible apply frame_switchLinks <;> first | exact frame_sub rfl hL | skip) | with_reducible apply frame_each | with_reducible apply frame_foldl | with_reducible apply frame_foldl2 | with_reducible apply frame_foldl1 | split | intro _ | dsimp only)

theorem frame_opMark {L : List Piece} {u : State} (x0 : _) (x1 : _) (x2 : _) {s : State} (hL : ∀ p, p ∈ ([.cores, .flows] : List Piece) → p ∈ L)  (h : Framed L u s) : Framed L u (opMark x0 x1 x2 s) := by
  unfold opMark
  repeat (first | with_reducible assumption | (with_reducible apply frame_addMark <;> first | exact frame_sub rfl hL | skip) | (with_reducible apply frame_applyMark <;> first | exact frame_sub rfl hL | skip) | with_reducible apply frame_foldl | with_reducible apply frame_foldl2 | with_reducible apply frame_foldl1 | split | intro _ | dsimp only)

theorem frame_opSat {L : List Piece} {u : State} (x0 : _) (x1 : _) (x2 : _) {s : State} (hL : ∀ p, p ∈ ([.cores, .flows, .funnels, .trace, .counters] : List Piece) → p ∈ L)  (h : Framed L u s) : Framed L u (opSat x0 x1 x2 s) := by
  unfold opSat
  repeat (first | with_reducible assumption | (with_reducible apply frame_addSat <;> first | exact frame_sub rfl hL | skip) | (with_reducible apply frame_satRun <;> first | exact frame_sub rfl hL | skip) | with_reducible apply frame_foldl | with_reducible apply frame_foldl2 | with_reducible apply frame_foldl1 | split | intro _ | dsimp only)

theorem frame_closeCheck {L : List Piece} {u : State} (x0 : _) {s : State} (hL : ∀ p, p ∈ ([.host, .pre, .flows, .funnels, .trace, .counters] : List Piece) → p ∈ L)  (h : Framed L u s) : Framed L u (closeCheck x0 s) := by
  unfold closeCheck
  repeat (first | with_reducible assumption | (with_reducible apply frame_settleRun <;> first | exact frame_sub rfl hL | skip) | (with_reducible apply frame_State_modRun <;> first | exact frame_sub rfl hL | skip) | with_reducible apply frame_foldl | with_reducible apply frame_foldl2 | with_reducible apply frame_foldl1 | split | intro _ | dsimp only)

theorem frame_openCheck {L : List Piece} {u : State} (x0 : _) {s : State} (hL : ∀ p, p ∈ ([.flows] : List Piece) → p ∈ L)  (h : Framed L u s) : Framed L u (openCheck x0 s) := by
  unfold openCheck
  repeat (first | with_reducible assumption | (with_reducible apply frame_State_modRun <;> first | exact frame_sub rfl hL | skip) | with_reducible apply frame_foldl | with_reducible apply frame_foldl2 | with_reducible apply frame_foldl1 | split | intro _ | dsimp only)

theorem frame_putJoin {L : List Piece} {u : State} (x0 : _) (x1 : _) {s : State} (hL : ∀ p, p ∈ ([.cores] : List Piece) → p ∈ L)  (h : Framed L u s) : Framed L u (putJoin x0 x1 s) := by
  unfold putJoin
  repeat (first | with_reducible assumption | (with_reducible apply frame_State_modCore <;> first | exact frame_sub rfl hL | skip) | with_reducible apply frame_foldl | with_reducible apply frame_foldl2 | with_reducible apply frame_foldl1 | split | intro _ | dsimp only)

theorem frame_dropJoin {L : List Piece} {u : State} (x0 : _) (x1 : _) {s : State} (hL : ∀ p, p ∈ ([.cores] : List Piece) → p ∈ L)  (h : Framed L u s) : Framed L u (dropJoin x0 x1 s) := by
  unfold dropJoin
  repeat (first | with_reducible assumption | (with_reducible apply frame_State_modCore <;> first | exact frame_sub rfl hL | skip) | with_reducible apply frame_foldl | with_reducible apply frame_foldl2 | with_reducible apply frame_foldl1 | split | intro _ | dsimp only)

theorem frame_settleHalf {L : List Piece} {u : State} (x0 : _) (x1 : _) (x2 : _) {s : State} (hL : ∀ p, p ∈ ([.cores, .counters] : List Piece) → p ∈ L)  (h : Framed L u s) : Framed L u (settleHalf x0 x1 x2 s) := by
  unfold settleHalf
  repeat (first | with_reducible assumption | (with_reducible apply frame_putJoin <;> first | exact frame_sub rfl hL | skip) | (with_reducible apply frame_count <;> first | exact frame_sub rfl hL | skip) | (with_reducible apply frame_State_modCore <;> first | exact frame_sub rfl hL | skip) | with_reducible apply frame_foldl | with_reducible apply frame_foldl2 | with_reducible apply frame_foldl1 | split | intro _ | dsimp only)

theorem frame_closeJoin {L : List Piece} {u : State} (x0 : _) (x1 : _) {s : State} (hL : ∀ p, p ∈ ([.host, .pre, .cores, .flows, .funnels, .trace, .counters] : List Piece) → p ∈ L)  (h : Framed L u s) : Framed L u (closeJoin x0 x1 s) := by
  unfold closeJoin
  repeat (first | with_reducible assumption | (with_reducible apply frame_dropJoin <;> first | exact frame_sub rfl hL | skip) | (with_reducible apply frame_closeCheck <;> first | exact frame_sub rfl hL | skip) | (with_reducible apply frame_commitOp <;> first | exact frame_sub rfl hL | skip) | with_reducible apply frame_foldl | with_reducible apply frame_foldl2 | with_reducible apply frame_foldl1 | split | intro _ | dsimp only)

theorem frame_commitEarly {L : List Piece} {u : State} (x0 : _) (x1 : _) {s : State} (hL : ∀ p, p ∈ ([.host, .pre, .cores, .flows, .funnels, .trace, .counters] : List Piece) → p ∈ L)  (h : Framed L u s) : Framed L u (commitEarly x0 x1 s) := by
  unfold commitEarly
  repeat (first | with_reducible assumption | (with_reducible apply frame_commitOp <;> first | exact frame_sub rfl hL | skip) | (with_reducible apply frame_openCheck <;> first | exact frame_sub rfl hL | skip) | (with_reducible apply frame_putJoin <;> first | exact frame_sub rfl hL | skip) | with_reducible apply frame_foldl | with_reducible apply frame_foldl2 | with_reducible apply frame_foldl1 | split | intro _ | dsimp only)

theorem frame_finishHalf {L : List Piece} {u : State} (x0 : _) (x1 : _) (x2 : _) {s : State} (hL : ∀ p, p ∈ ([.host, .pre, .cores, .flows, .funnels, .trace, .counters] : List Piece) → p ∈ L)  (h : Framed L u s) : Framed L u (finishHalf x0 x1 x2 s) := by
  unfold finishHalf
  repeat (first | with_reducible assumption | (with_reducible apply frame_putJoin <;> first | exact frame_sub rfl hL | skip) | (with_reducible apply frame_commitEarly <;> first | exact frame_sub rfl hL | skip) | (with_reducible apply frame_closeJoin <;> first | exact frame_sub rfl hL | skip) | (with_reducible apply frame_settleHalf <;> first | exact frame_sub rfl hL | skip) | with_reducible apply frame_foldl | with_reducible apply frame_foldl2 | with_reducible apply frame_foldl1 | split | intro _ | dsimp only)

theorem frame_grossFault {L : List Piece} {u : State} (x0 : _) (x1 : _) (x2 : _) (x3 : _) (x4 : _) {s : State} (hL : ∀ p, p ∈ ([.draw, .power, .crock, .host, .pre, .tiles, .cores, .flows, .ingest, .tb, .funnels, .trace, .counters] : List Piece) → p ∈ L)  (h : Framed L u s) : Framed L u (grossFault x0 x1 x2 x3 x4 s) := by
  unfold grossFault
  repeat (first | with_reducible assumption | (with_reducible apply frame_attribute_ <;> first | exact frame_sub rfl hL | skip) | with_reducible apply frame_foldl | with_reducible apply frame_foldl2 | with_reducible apply frame_foldl1 | split | intro _ | dsimp only)

theorem frame_settleOp {L : List Piece} {u : State} (x0 : _) (x1 : _) (x2 : _) (x3 : _) (x4 : _) {s : State} (hL : ∀ p, p ∈ ([.draw, .power, .crock, .host, .pre, .tiles, .cores, .flows, .ingest, .tb, .funnels, .trace, .counters] : List Piece) → p ∈ L)  (h : Framed L u s) : Framed L u (settleOp x0 x1 x2 x3 x4 s) := by
  unfold settleOp
  repeat (first | with_reducible assumption | (with_reducible apply frame_putJoin <;> first | exact frame_sub rfl hL | skip) | (with_reducible apply frame_count <;> first | exact frame_sub rfl hL | skip) | (with_reducible apply frame_State_modTile <;> first | exact frame_sub rfl hL | skip) | (with_reducible apply frame_finishHalf <;> first | exact frame_sub rfl hL | skip) | (with_reducible apply frame_grossFault <;> first | exact frame_sub rfl hL | skip) | (with_reducible apply frame_closeCheck <;> first | exact frame_sub rfl hL | skip) | (with_reducible apply frame_opMark <;> first | exact frame_sub rfl hL | skip) | (with_reducible apply frame_openCheck <;> first | exact frame_sub rfl hL | skip) | (with_reducible apply frame_State_modCore <;> first | exact frame_sub rfl hL | skip) | with_reducible apply frame_foldl | with_reducible apply frame_foldl2 | with_reducible apply frame_foldl1 | split | intro _ | dsimp only)

theorem frame_endOp {L : List Piece} {u : State} (x0 : _) (x1 : _) (x2 : _) (x3 : _) (x4 : _) {s : State} (hL : ∀ p, p ∈ ([.draw, .power, .crock, .host, .pre, .tiles, .cores, .flows, .ingest, .tb, .funnels, .trace, .counters] : List Piece) → p ∈ L)  (h : Framed L u s) : Framed L u (endOp x0 x1 x2 x3 x4 s) := by
  exact frame_settleOp _ _ _ _ _ hL (frame_State_modCore _ _ (frame_sub rfl hL) h)

theorem frame_tileCount {L : List Piece} {u : State} (x0 : _) (x1 : _) (x2 : _) (x3 : _) {s : State} (hL : ∀ p, p ∈ ([.counters] : List Piece) → p ∈ L)  (h : Framed L u s) : Framed L u (tileCount x0 x1 x2 x3 s) := by
  unfold tileCount
  repeat (first | with_reducible assumption | (with_reducible apply frame_count <;> first | exact frame_sub rfl hL | skip) | with_reducible apply frame_foldl | with_reducible apply frame_foldl2 | with_reducible apply frame_foldl1 | split | intro _ | dsimp only)

theorem frame_beginOp {L : List Piece} {u : State} (x0 : _) (x1 : _) (x2 : _) {s : State} (hL : ∀ p, p ∈ ([.draw, .power, .crock, .host, .pre, .tiles, .cores, .flows, .ingest, .tb, .funnels, .trace, .counters] : List Piece) → p ∈ L)  (h : Framed L u s) : Framed L u (beginOp x0 x1 x2 s) := by
  unfold beginOp
  repeat (first | with_reducible assumption | (with_reducible apply frame_State_modTile <;> first | exact frame_sub rfl hL | skip) | (with_reducible apply frame_tileCount <;> first | exact frame_sub rfl hL | skip) | (with_reducible apply frame_endOp <;> first | exact frame_sub rfl hL | skip) | with_reducible apply frame_foldl | with_reducible apply frame_foldl2 | with_reducible apply frame_foldl1 | split | intro _ | dsimp only)

theorem frame_execPhaseStart {L : List Piece} {u : State} (x0 : _) (x1 : _) {s : State} (hL : ∀ p, p ∈ ([.draw, .power, .crock, .host, .pre, .tiles, .cores, .flows, .ingest, .tb, .funnels, .trace, .counters] : List Piece) → p ∈ L)  (h : Framed L u s) : FramedAnswer L u (execPhaseStart x0 x1 s) := by
  unfold execPhaseStart
  repeat (first | with_reducible assumption | (with_reducible apply frame_tileCount <;> first | exact frame_sub rfl hL | skip) | (with_reducible apply frame_State_modTile <;> first | exact frame_sub rfl hL | skip) | (with_reducible apply frame_beginOp <;> first | exact frame_sub rfl hL | skip) | with_reducible apply frame_ifDue | with_reducible exact frame_fault | with_reducible apply frame_next | with_reducible apply frame_foldl | with_reducible apply frame_foldl2 | with_reducible apply frame_foldl1 | split | intro _ | dsimp only)

theorem frame_cleanBlock {L : List Piece} {u : State} (x0 : _) (x1 : _) (x2 : _) {s : State} (hL : ∀ p, p ∈ ([.tiles] : List Piece) → p ∈ L)  (h : Framed L u s) : Framed L u (cleanBlock x0 x1 x2 s) := by
  unfold cleanBlock
  repeat (first | with_reducible assumption | (with_reducible apply frame_State_modTile <;> first | exact frame_sub rfl hL | skip) | with_reducible apply frame_foldl | with_reducible apply frame_foldl2 | with_reducible apply frame_foldl1 | split | intro _ | dsimp only)

theorem frame_batchEnd {L : List Piece} {u : State} (x0 : _) (x1 : _) (x2 : _) {s : State} (hL : ∀ p, p ∈ ([.tiles, .running, .waiting, .trace, .counters] : List Piece) → p ∈ L)  (h : Framed L u s) : Framed L u (batchEnd x0 x1 x2 s) := by
  unfold batchEnd
  repeat (first | with_reducible assumption | (with_reducible apply frame_State_modTile <;> first | exact frame_sub rfl hL | skip) | (with_reducible apply frame_askScan <;> first | exact frame_sub rfl hL | skip) | (with_reducible apply frame_count <;> first | exact frame_sub rfl hL | skip) | (with_reducible apply frame_cleanBlock <;> first | exact frame_sub rfl hL | skip) | with_reducible apply frame_foldl | with_reducible apply frame_foldl2 | with_reducible apply frame_foldl1 | split | intro _ | dsimp only)

theorem frame_execSieveBatchEnd {L : List Piece} {u : State} (x0 : _) (x1 : _) (x2 : _) {s : State} (hL : ∀ p, p ∈ ([.tiles, .running, .waiting, .trace, .counters] : List Piece) → p ∈ L)  (h : Framed L u s) : FramedAnswer L u (execSieveBatchEnd x0 x1 x2 s) := by
  unfold execSieveBatchEnd
  repeat (first | with_reducible assumption | (with_reducible apply frame_batchEnd <;> first | exact frame_sub rfl hL | skip) | with_reducible apply frame_ifDue | with_reducible exact frame_fault | with_reducible apply frame_next | with_reducible apply frame_foldl | with_reducible apply frame_foldl2 | with_reducible apply frame_foldl1 | split | intro _ | dsimp only)

theorem frame_judge {L : List Piece} {u : State} (x0 : _) (x1 : _) (x2 : _) (x3 : _) (x4 : _) {s : State} (hL : ∀ p, p ∈ ([.tiles, .running, .waiting, .trace, .counters] : List Piece) → p ∈ L)  (h : Framed L u s) : Framed L u (judge x0 x1 x2 x3 x4 s).2.2 := by
  unfold judge
  repeat (first | with_reducible assumption | (with_reducible apply frame_batchEnd <;> first | exact frame_sub rfl hL | skip) | (with_reducible apply frame_State_modTile <;> first | exact frame_sub rfl hL | skip) | (with_reducible apply frame_count <;> first | exact frame_sub rfl hL | skip) | with_reducible apply frame_foldl | with_reducible apply frame_foldl2 | with_reducible apply frame_foldl1 | split | intro _ | dsimp only)

theorem frame_judgeAll {L : List Piece} {u : State} (x0 : _) (x1 : _) (x2 : _) (x3 : _) {s : State} (hL : ∀ p, p ∈ ([.tiles, .running, .waiting, .trace, .counters] : List Piece) → p ∈ L)  (h : Framed L u s) : Framed L u (judgeAll x0 x1 x2 x3 s).2 := by
  unfold judgeAll
  repeat (first | with_reducible assumption | (with_reducible apply frame_tileCount <;> first | exact frame_sub rfl hL | skip) | (with_reducible apply frame_judge <;> first | exact frame_sub rfl hL | skip) | with_reducible apply frame_foldl | with_reducible apply frame_foldl2 | with_reducible apply frame_foldl1 | split | intro _ | dsimp only)

theorem frame_accumulate {L : List Piece} {u : State} (x0 : _) (x1 : _) (x2 : _) (x3 : _) (x4 : _) {s : State} (hL : ∀ p, p ∈ ([.cores] : List Piece) → p ∈ L)  (h : Framed L u s) : Framed L u (accumulate x0 x1 x2 x3 x4 s) := by
  unfold accumulate
  repeat (first | with_reducible assumption | (with_reducible apply frame_putJoin <;> first | exact frame_sub rfl hL | skip) | with_reducible apply frame_foldl | with_reducible apply frame_foldl2 | with_reducible apply frame_foldl1 | split | intro _ | dsimp only)

theorem frame_latch {L : List Piece} {u : State} (x0 : _) (x1 : _) (x2 : _) (x3 : _) (x4 : _) {s : State} (hL : ∀ p, p ∈ ([.draw, .power, .crock, .host, .pre, .tiles, .cores, .flows, .ingest, .tb, .funnels, .running, .waiting, .trace, .counters] : List Piece) → p ∈ L)  (h : Framed L u s) : Framed L u (latch x0 x1 x2 x3 x4 s) := by
  unfold latch
  repeat (first | with_reducible assumption | (with_reducible apply frame_State_modTile <;> first | exact frame_sub rfl hL | skip) | (with_reducible apply frame_State_nextDraw <;> first | exact frame_sub rfl hL | skip) | (with_reducible apply frame_tileCount <;> first | exact frame_sub rfl hL | skip) | (with_reducible apply frame_opMark <;> first | exact frame_sub rfl hL | skip) | (with_reducible apply frame_opSat <;> first | exact frame_sub rfl hL | skip) | (with_reducible apply frame_judgeAll <;> first | exact frame_sub rfl hL | skip) | (with_reducible apply frame_accumulate <;> first | exact frame_sub rfl hL | skip) | (with_reducible apply frame_endOp <;> first | exact frame_sub rfl hL | skip) | with_reducible apply frame_foldl | with_reducible apply frame_foldl2 | with_reducible apply frame_foldl1 | split | intro _ | dsimp only)

theorem frame_execPhaseLatch {L : List Piece} {u : State} (x0 : _) (x1 : _) (x2 : _) {s : State} (hL : ∀ p, p ∈ ([.draw, .power, .crock, .host, .pre, .tiles, .cores, .flows, .ingest, .tb, .funnels, .running, .waiting, .trace, .counters] : List Piece) → p ∈ L)  (h : Framed L u s) : FramedAnswer L u (execPhaseLatch x0 x1 x2 s) := by
  unfold execPhaseLatch
  repeat (first | with_reducible assumption | (with_reducible apply frame_latch <;> first | exact frame_sub rfl hL | skip) | with_reducible apply frame_ifDue | with_reducible exact frame_fault | with_reducible apply frame_next | with_reducible apply frame_foldl | with_reducible apply frame_foldl2 | with_reducible apply frame_foldl1 | split | intro _ | dsimp only)

theorem frame_disputeFaults {L : List Piece} {u : State} (x0 : _) (x1 : _) (x2 : _) (x3 : _) (x4 : _) (x5 : _) {s : State} (hL : ∀ p, p ∈ ([.draw, .power, .crock, .host, .pre, .tiles, .cores, .flows, .ingest, .tb, .funnels, .trace, .counters] : List Piece) → p ∈ L)  (h : Framed L u s) : Framed L u (disputeFaults x0 x1 x2 x3 x4 x5 s) := by
  unfold disputeFaults
  repeat (first | with_reducible assumption | (with_reducible apply frame_count <;> first | exact frame_sub rfl hL | skip) | (with_reducible apply frame_grossFault <;> first | exact frame_sub rfl hL | skip) | (with_reducible apply frame_attribute_ <;> first | exact frame_sub rfl hL | skip) | with_reducible apply frame_each | with_reducible apply frame_foldl | with_reducible apply frame_foldl2 | with_reducible apply frame_foldl1 | split | intro _ | dsimp only)

theorem frame_disputeDone {L : List Piece} {u : State} (x0 : _) (x1 : _) (x2 : _) (x3 : _) (x4 : _) (x5 : _) {s : State} (hL : ∀ p, p ∈ ([.draw, .power, .crock, .host, .pre, .tiles, .cores, .flows, .ingest, .tb, .funnels, .trace, .counters] : List Piece) → p ∈ L)  (h : Framed L u s) : Framed L u (disputeDone x0 x1 x2 x3 x4 x5 s) := by
  unfold disputeDone
  repeat (first | with_reducible assumption | (with_reducible apply frame_disputeFaults <;> first | exact frame_sub rfl hL | skip) | (with_reducible apply frame_opMark <;> first | exact frame_sub rfl hL | skip) | (with_reducible apply frame_closeCheck <;> first | exact frame_sub rfl hL | skip) | (with_reducible apply frame_finishHalf <;> first | exact frame_sub rfl hL | skip) | (with_reducible apply frame_count <;> first | exact frame_sub rfl hL | skip) | with_reducible apply frame_foldl | with_reducible apply frame_foldl2 | with_reducible apply frame_foldl1 | split | intro _ | dsimp only)

theorem frame_assuredLane {L : List Piece} {u : State} (x0 : _) (x1 : _) (x2 : _) (x3 : _) {s : State} (hL : ∀ p, p ∈ ([.draw, .power, .crock, .host, .pre, .tiles, .cores, .flows, .ingest, .tb, .funnels, .trace, .counters] : List Piece) → p ∈ L)  (h : Framed L u s) : Framed L u (assuredLane x0 x1 x2 x3 s).2.2 := by
  unfold assuredLane
  repeat (first | with_reducible assumption | (with_reducible apply frame_attribute_ <;> first | exact frame_sub rfl hL | skip) | with_reducible apply frame_each | with_reducible apply frame_foldl | with_reducible apply frame_foldl2 | with_reducible apply frame_foldl1 | split | intro _ | dsimp only)

theorem frame_assuredDone {L : List Piece} {u : State} (x0 : _) (x1 : _) (x2 : _) {s : State} (hL : ∀ p, p ∈ ([.draw, .power, .crock, .host, .pre, .tiles, .cores, .flows, .ingest, .tb, .funnels, .trace, .counters] : List Piece) → p ∈ L)  (h : Framed L u s) : Framed L u (assuredDone x0 x1 x2 s) := by
  unfold assuredDone
  split
  · dsimp only
    rename_i j _
    have key : ∀ (l : List Nat) (a : Tbl Int × Bool × State), Framed L u a.2.2 → Framed L u (l.foldl (fun (a : Tbl Int × Bool × State) c =>
      (if (assuredLane x0 x1.half c j a.2.2).1 = 0 then a.1 else tset a.1 c (assuredLane x0 x1.half c j a.2.2).1,
        a.2.1 || (assuredLane x0 x1.half c j a.2.2).2.1, (assuredLane x0 x1.half c j a.2.2).2.2)) a).2.2 := by
      intro l
      induction l with
      | nil => intro a ha; exact ha
      | cons c r ih => intro a ha; exact ih _ (frame_assuredLane _ _ _ _ (frame_sub rfl hL) ha)
    have hk := key x2 (tget j.regs (regKey 2 x1.half) [], false, count (coreCtr x0 33) (lanesMacs x1 x2.length) s) (frame_count _ _ (frame_sub rfl hL) h)
    have ho : ∀ a b c t, Framed L u t → Framed L u (opMark a b c t) := fun _ _ _ _ ht => frame_opMark _ _ _ (frame_sub rfl hL) ht
    have hb : ∀ (b : Bool) (t : State), Framed L u t → Framed L u (if b = true then opMark x0 x1 (256 + 1) t else t) := by
      intro b t ht; cases b
      · exact ht
      · exact ho _ _ _ _ ht
    split
    · exact frame_closeJoin _ _ (frame_sub rfl hL) (frame_putJoin _ _ (frame_sub rfl hL) (hb _ _ hk))
    · exact hb _ _ hk
  · exact h

theorem frame_goldenDone {L : List Piece} {u : State} (x0 : _) (x1 : _) (x2 : _) {s : State} (hL : ∀ p, p ∈ ([.cores, .counters] : List Piece) → p ∈ L)  (h : Framed L u s) : Framed L u (goldenDone x0 x1 x2 s) := by
  unfold goldenDone
  repeat (first | with_reducible assumption | (with_reducible apply frame_count <;> first | exact frame_sub rfl hL | skip) | (with_reducible apply frame_State_setQueue <;> first | exact frame_sub rfl hL | skip) | with_reducible apply frame_foldl | with_reducible apply frame_foldl2 | with_reducible apply frame_foldl1 | split | intro _ | dsimp only)

theorem frame_execTongsDone {L : List Piece} {u : State} (x0 : _) (x1 : _) (x2 : _) {s : State} (hL : ∀ p, p ∈ ([.draw, .power, .crock, .host, .pre, .tiles, .cores, .flows, .ingest, .tb, .funnels, .trace, .counters] : List Piece) → p ∈ L)  (h : Framed L u s) : FramedAnswer L u (execTongsDone x0 x1 x2 s) := by
  unfold execTongsDone
  repeat (first | with_reducible assumption | (with_reducible apply frame_State_modCore <;> first | exact frame_sub rfl hL | skip) | (with_reducible apply frame_disputeDone <;> first | exact frame_sub rfl hL | skip) | (with_reducible apply frame_assuredDone <;> first | exact frame_sub rfl hL | skip) | (with_reducible apply frame_goldenDone <;> first | exact frame_sub rfl hL | skip) | with_reducible apply frame_ifDue | with_reducible exact frame_fault | with_reducible apply frame_next | with_reducible apply frame_foldl | with_reducible apply frame_foldl2 | with_reducible apply frame_foldl1 | split | intro _ | dsimp only)

theorem frame_fireRules {L : List Piece} {u : State} (x0 : _) (x1 : _) {s : State} (hL : ∀ p, p ∈ ([.host, .tb, .counters] : List Piece) → p ∈ L)  (h : Framed L u s) : Framed L u (fireRules x0 x1 s) := by
  unfold fireRules
  repeat (first | with_reducible assumption | (with_reducible apply frame_schedulePin <;> first | exact frame_sub rfl hL | skip) | with_reducible apply frame_each | with_reducible apply frame_foldl | with_reducible apply frame_foldl2 | with_reducible apply frame_foldl1 | split | intro _ | dsimp only)

theorem frame_noteConfirmed {L : List Piece} {u : State} (x0 : _) {s : State} (hL : ∀ p, p ∈ ([.tiles] : List Piece) → p ∈ L)  (h : Framed L u s) : Framed L u (noteConfirmed x0 s) := by
  unfold noteConfirmed
  repeat (first | with_reducible assumption | (with_reducible apply frame_State_modTile <;> first | exact frame_sub rfl hL | skip) | with_reducible apply frame_each | with_reducible apply frame_foldl | with_reducible apply frame_foldl2 | with_reducible apply frame_foldl1 | split | intro _ | dsimp only)

theorem frame_noteRecord {L : List Piece} {u : State} (x0 : _) (x1 : _) {s : State} (hL : ∀ p, p ∈ ([.funnels] : List Piece) → p ∈ L)  (h : Framed L u s) : Framed L u (noteRecord x0 x1 s) := by
  unfold noteRecord
  repeat (first | with_reducible assumption | (with_reducible apply frame_State_modFunnel <;> first | exact frame_sub rfl hL | skip) | with_reducible apply frame_foldl | with_reducible apply frame_foldl2 | with_reducible apply frame_foldl1 | split | intro _ | dsimp only)

theorem frame_formResult {L : List Piece} {u : State} (x0 : _) (x1 : _) (x2 : _) (x3 : _) (x4 : _) (x5 : _) {s : State} (hL : ∀ p, p ∈ ([.host, .tiles, .flows, .tb, .funnels, .counters] : List Piece) → p ∈ L)  (h : Framed L u s) : Framed L u (formResult x0 x1 x2 x3 x4 x5 s) := by
  unfold formResult
  split
  · dsimp only
    split
    · exact h
    · rename_i r _ _
      have hw := frame_runPkt x0 1 [] (frame_sub rfl hL) h
      split <;> rename_i he <;> rw [he] at hw
      · have h3 : ∀ (t : State), Framed L u t → Framed L u t := fun _ a => a
        have hc : ∀ a b c d t, Framed L u t → Framed L u (count a b (count c d t)) := fun a b c d t ht =>
          frame_count _ _ (frame_sub rfl hL) (frame_count _ _ (frame_sub rfl hL) ht)
        have hf : ∀ p k t, Framed L u t → Framed L u (form p k t) := fun p k t ht => frame_form _ _ (frame_sub rfl hL) ht
        have hm : ∀ p k t, Framed L u t → Framed L u (State.modFunnel t p k) := fun p k t ht => frame_State_modFunnel _ _ (frame_sub rfl hL) ht
        have hr : ∀ k i t, Framed L u t → Framed L u (fireRules k i t) := fun p k t ht => frame_fireRules _ _ (frame_sub rfl hL) ht
        have hn : ∀ k i t, Framed L u t → Framed L u (noteRecord k i t) := fun p k t ht => frame_noteRecord _ _ (frame_sub rfl hL) ht
        have hq : ∀ k i t, Framed L u t → Framed L u (retractRec k i t) := fun p k t ht => frame_retractRec _ _ (frame_sub rfl hL) ht
        have hz : ∀ k t, Framed L u t → Framed L u (noteConfirmed k t) := fun k t ht => frame_noteConfirmed _ (frame_sub rfl hL) ht
        repeat (first | with_reducible assumption | with_reducible apply hq | with_reducible apply hz | with_reducible apply hr | with_reducible apply hn | with_reducible apply hf | with_reducible apply hm | with_reducible apply hc | split)
      · exact h
  · exact h

theorem frame_settleRecord {L : List Piece} {u : State} (x0 : _) {s : State} (hL : ∀ p, p ∈ ([.host, .tiles, .tb, .funnels, .counters] : List Piece) → p ∈ L)  (h : Framed L u s) : Framed L u (settleRecord x0 s) := by
  unfold settleRecord
  repeat (first | with_reducible assumption | (with_reducible apply frame_retractRec <;> first | exact frame_sub rfl hL | skip) | (with_reducible apply frame_fireRules <;> first | exact frame_sub rfl hL | skip) | (with_reducible apply frame_noteConfirmed <;> first | exact frame_sub rfl hL | skip) | (with_reducible apply frame_confirmRec <;> first | exact frame_sub rfl hL | skip) | with_reducible apply frame_foldl | with_reducible apply frame_foldl2 | with_reducible apply frame_foldl1 | split | intro _ | dsimp only)

theorem frame_execChecksDone {L : List Piece} {u : State} (x0 : _) {s : State} (hL : ∀ p, p ∈ ([.host, .pre, .tiles, .flows, .tb, .funnels, .trace, .counters] : List Piece) → p ∈ L)  (h : Framed L u s) : FramedAnswer L u (execChecksDone x0 s) := by
  unfold execChecksDone
  repeat (first | with_reducible assumption | (with_reducible apply frame_settleRun <;> first | exact frame_sub rfl hL | skip) | (with_reducible apply frame_settleRecord <;> first | exact frame_sub rfl hL | skip) | with_reducible apply frame_each | with_reducible apply frame_ifDue | with_reducible exact frame_fault | with_reducible apply frame_next | with_reducible apply frame_foldl | with_reducible apply frame_foldl2 | with_reducible apply frame_foldl1 | split | intro _ | dsimp only)

theorem frame_reserve {L : List Piece} {u : State} (x0 : _) {s : State} (hL : ∀ p, p ∈ ([.funnels, .counters] : List Piece) → p ∈ L)  (h : Framed L u s) : Framed L u (reserve x0 s) := by
  unfold reserve
  repeat (first | with_reducible assumption | (with_reducible apply frame_State_modFunnel <;> first | exact frame_sub rfl hL | skip) | (with_reducible apply frame_count <;> first | exact frame_sub rfl hL | skip) | with_reducible apply frame_foldl | with_reducible apply frame_foldl2 | with_reducible apply frame_foldl1 | split | intro _ | dsimp only)

theorem frame_execFunnelReserve {L : List Piece} {u : State} (x0 : _) {s : State} (hL : ∀ p, p ∈ ([.funnels, .counters] : List Piece) → p ∈ L)  (h : Framed L u s) : FramedAnswer L u (execFunnelReserve x0 s) := by
  unfold execFunnelReserve
  repeat (first | with_reducible assumption | (with_reducible apply frame_reserve <;> first | exact frame_sub rfl hL | skip) | with_reducible apply frame_ifDue | with_reducible exact frame_fault | with_reducible apply frame_next | with_reducible apply frame_foldl | with_reducible apply frame_foldl2 | with_reducible apply frame_foldl1 | split | intro _ | dsimp only)

theorem frame_putFifo {L : List Piece} {u : State} (x0 : _) (x1 : _) {s : State} (hL : ∀ p, p ∈ ([.funnels, .counters] : List Piece) → p ∈ L)  (h : Framed L u s) : Framed L u (putFifo x0 x1 s) := by
  unfold putFifo
  repeat (first | with_reducible assumption | (with_reducible apply frame_count <;> first | exact frame_sub rfl hL | skip) | (with_reducible apply frame_State_modFunnel <;> first | exact frame_sub rfl hL | skip) | with_reducible apply frame_foldl | with_reducible apply frame_foldl2 | with_reducible apply frame_foldl1 | split | intro _ | dsimp only)

theorem frame_readLine {L : List Piece} {u : State} (x0 : _) (x1 : _) {s : State} (hL : ∀ p, p ∈ ([.funnels, .counters] : List Piece) → p ∈ L)  (h : Framed L u s) : Framed L u (readLine x0 x1 s).2 := by
  unfold readLine
  repeat (first | with_reducible assumption | (with_reducible apply frame_putFifo <;> first | exact frame_sub rfl hL | skip) | with_reducible apply frame_foldl | with_reducible apply frame_foldl2 | with_reducible apply frame_foldl1 | split | intro _ | dsimp only)

theorem frame_dmaLine {L : List Piece} {u : State} (x0 : _) {s : State} (hL : ∀ p, p ∈ ([.host, .funnels, .counters] : List Piece) → p ∈ L)  (h : Framed L u s) : Framed L u (dmaLine x0 s) := by
  unfold dmaLine
  repeat (first | with_reducible assumption | (with_reducible apply frame_readLine <;> first | exact frame_sub rfl hL | skip) | (with_reducible apply frame_State_modFunnel <;> first | exact frame_sub rfl hL | skip) | (with_reducible apply frame_State_hostWrite <;> first | exact frame_sub rfl hL | skip) | with_reducible apply frame_foldl | with_reducible apply frame_foldl2 | with_reducible apply frame_foldl1 | split | intro _ | dsimp only)

theorem frame_dmaHost {L : List Piece} {u : State} (x0 : _) {s : State} (hL : ∀ p, p ∈ ([.host, .funnels, .counters] : List Piece) → p ∈ L)  (h : Framed L u s) : Framed L u (dmaHost x0 s) := by
  unfold dmaHost
  repeat (first | with_reducible assumption | (with_reducible apply frame_dmaLine <;> first | exact frame_sub rfl hL | skip) | (with_reducible apply frame_raiseHeld <;> first | exact frame_sub rfl hL | skip) | (with_reducible apply frame_State_hostWrite <;> first | exact frame_sub rfl hL | skip) | (with_reducible apply frame_count <;> first | exact frame_sub rfl hL | skip) | (with_reducible apply frame_State_modFunnel <;> first | exact frame_sub rfl hL | skip) | with_reducible apply frame_each | with_reducible apply frame_foldl | with_reducible apply frame_foldl2 | with_reducible apply frame_foldl1 | split | intro _ | dsimp only)

theorem frame_sendRecord {L : List Piece} {u : State} (x0 : _) (x1 : _) (x2 : _) {s : State} (hL : ∀ p, p ∈ ([.host, .net, .counters] : List Piece) → p ∈ L)  (h : Framed L u s) : Framed L u (sendRecord x0 x1 x2 s) := by
  unfold sendRecord
  repeat (first | with_reducible assumption | (with_reducible apply frame_count <;> first | exact frame_sub rfl hL | skip) | (with_reducible apply frame_State_modPeer <;> first | exact frame_sub rfl hL | skip) | (with_reducible apply frame_State_emit <;> first | exact frame_sub rfl hL | skip) | with_reducible apply frame_foldl | with_reducible apply frame_foldl2 | with_reducible apply frame_foldl1 | split | intro _ | dsimp only)

theorem frame_toNode {L : List Piece} {u : State} (x0 : _) (x1 : _) (x2 : _) {s : State} (hL : ∀ p, p ∈ ([.host, .funnels, .net, .counters] : List Piece) → p ∈ L)  (h : Framed L u s) : Framed L u (toNode x0 x1 x2 s) := by
  induction x0 generalizing s with
  | zero => exact h
  | succ k ih =>
    unfold toNode
    split
    · dsimp only
      split
      · exact h
      · exact ih (frame_putFifo _ _ (frame_sub rfl hL) (frame_each (fun x t ht => frame_sendRecord _ _ _ (frame_sub rfl hL) ht) h))
    · exact h

theorem frame_sendRdma {L : List Piece} {u : State} (x0 : _) (x1 : _) (x2 : _) (x3 : _) {s : State} (hL : ∀ p, p ∈ ([.host, .net] : List Piece) → p ∈ L)  (h : Framed L u s) : Framed L u (sendRdma x0 x1 x2 x3 s) := by
  unfold sendRdma
  repeat (first | with_reducible assumption | (with_reducible apply frame_State_emit <;> first | exact frame_sub rfl hL | skip) | (with_reducible apply frame_State_modPeer <;> first | exact frame_sub rfl hL | skip) | with_reducible apply frame_foldl | with_reducible apply frame_foldl2 | with_reducible apply frame_foldl1 | split | intro _ | dsimp only)

theorem frame_rdmaLines {L : List Piece} {u : State} (x0 : _) (x1 : _) {s : State} (hL : ∀ p, p ∈ ([.funnels, .counters] : List Piece) → p ∈ L)  (h : Framed L u s) : Framed L u (rdmaLines x0 x1 s).2 := by
  induction x0 generalizing s with
  | zero => exact h
  | succ m ih => exact ih (frame_readLine _ _ (frame_sub rfl hL) h)

theorem frame_toRoce {L : List Piece} {u : State} (x0 : _) (x1 : _) {s : State} (hL : ∀ p, p ∈ ([.host, .funnels, .net, .counters] : List Piece) → p ∈ L)  (h : Framed L u s) : Framed L u (toRoce x0 x1 s) := by
  unfold toRoce
  repeat (first | with_reducible assumption | (with_reducible apply frame_rdmaLines <;> first | exact frame_sub rfl hL | skip) | (with_reducible apply frame_sendRdma <;> first | exact frame_sub rfl hL | skip) | (with_reducible apply frame_State_modPeer <;> first | exact frame_sub rfl hL | skip) | with_reducible apply frame_each | with_reducible apply frame_foldl | with_reducible apply frame_foldl2 | with_reducible apply frame_foldl1 | split | intro _ | dsimp only)

theorem frame_toNet {L : List Piece} {u : State} (x0 : _) {s : State} (hL : ∀ p, p ∈ ([.host, .funnels, .net, .counters] : List Piece) → p ∈ L)  (h : Framed L u s) : Framed L u (toNet x0 s) := by
  unfold toNet
  repeat (first | with_reducible assumption | (with_reducible apply frame_toNode <;> first | exact frame_sub rfl hL | skip) | (with_reducible apply frame_toRoce <;> first | exact frame_sub rfl hL | skip) | with_reducible apply frame_foldl | with_reducible apply frame_foldl2 | with_reducible apply frame_foldl1 | split | intro _ | dsimp only)

theorem frame_execFunnelDmaBurst {L : List Piece} {u : State} (x0 : _) {s : State} (hL : ∀ p, p ∈ ([.host, .funnels, .net, .counters] : List Piece) → p ∈ L)  (h : Framed L u s) : FramedAnswer L u (execFunnelDmaBurst x0 s) := by
  unfold execFunnelDmaBurst
  repeat (first | with_reducible assumption | (with_reducible apply frame_toNet <;> first | exact frame_sub rfl hL | skip) | (with_reducible apply frame_dmaHost <;> first | exact frame_sub rfl hL | skip) | with_reducible apply frame_ifDue | with_reducible exact frame_fault | with_reducible apply frame_next | with_reducible apply frame_foldl | with_reducible apply frame_foldl2 | with_reducible apply frame_foldl1 | split | intro _ | dsimp only)

theorem frame_execPtFnPio {L : List Piece} {u : State} (x0 : _) (x1 : _) (x2 : _) (x3 : _) {s : State} (hL : ∀ p, p ∈ ([.host, .funnels, .counters] : List Piece) → p ∈ L)  (h : Framed L u s) : FramedAnswer L u (execPtFnPio x0 x1 x2 x3 s) := by
  unfold execPtFnPio
  repeat (first | with_reducible assumption | (with_reducible apply frame_readLine <;> first | exact frame_sub rfl hL | skip) | (with_reducible apply frame_State_emit <;> first | exact frame_sub rfl hL | skip) | with_reducible apply frame_checked | with_reducible exact frame_fault | with_reducible apply frame_next | with_reducible apply frame_foldl | with_reducible apply frame_foldl2 | with_reducible apply frame_foldl1 | split | intro _ | dsimp only)

theorem frame_putChan {L : List Piece} {u : State} (x0 : _) {s : State} (hL : ∀ p, p ∈ ([.ingest] : List Piece) → p ∈ L)  (h : Framed L u s) : Framed L u (putChan x0 s) := by
  unfold putChan
  repeat (first | with_reducible assumption | (with_reducible apply frame_State_modLink <;> first | exact frame_sub rfl hL | skip) | with_reducible apply frame_foldl | with_reducible apply frame_foldl2 | with_reducible apply frame_foldl1 | split | intro _ | dsimp only)

theorem frame_putDec {L : List Piece} {u : State} (x0 : _) {s : State} (hL : ∀ p, p ∈ ([.ingest] : List Piece) → p ∈ L)  (h : Framed L u s) : Framed L u (putDec x0 s) := by
  unfold putDec
  repeat (first | with_reducible assumption | (with_reducible apply frame_State_modIngest <;> first | exact frame_sub rfl hL | skip) | with_reducible apply frame_foldl | with_reducible apply frame_foldl2 | with_reducible apply frame_foldl1 | split | intro _ | dsimp only)

theorem frame_State_ingestStaged {L : List Piece} {u : State} {s : State} (hL : ∀ p, p ∈ ([.ingest] : List Piece) → p ∈ L)  (h : Framed L u s) : Framed L u (State.ingestStaged s) := by
  unfold State.ingestStaged
  repeat (first | with_reducible assumption | (with_reducible apply frame_putChan <;> first | exact frame_sub rfl hL | skip) | (with_reducible apply frame_putDec <;> first | exact frame_sub rfl hL | skip) | with_reducible apply frame_each | with_reducible apply frame_foldl | with_reducible apply frame_foldl2 | with_reducible apply frame_foldl1 | split | intro _ | dsimp only)

theorem frame_commitRecord {L : List Piece} {u : State} (x0 : _) (x1 : _) (x2 : _) (x3 : _) {s : State} (hL : ∀ p, p ∈ ([.crock, .tiles] : List Piece) → p ∈ L)  (h : Framed L u s) : Framed L u (commitRecord x0 x1 x2 x3 s) := by
  unfold commitRecord
  repeat (first | with_reducible assumption | (with_reducible apply frame_State_modTile <;> first | exact frame_sub rfl hL | skip) | (with_reducible apply frame_State_modCal <;> first | exact frame_sub rfl hL | skip) | with_reducible apply frame_foldl | with_reducible apply frame_foldl2 | with_reducible apply frame_foldl1 | split | intro _ | dsimp only)

theorem frame_commitModel {L : List Piece} {u : State} (x0 : _) (x1 : _) (x2 : _) {s : State} (hL : ∀ p, p ∈ ([.crock, .pre, .tiles] : List Piece) → p ∈ L)  (h : Framed L u s) : Framed L u (commitModel x0 x1 x2 s) := by
  unfold commitModel
  repeat (first | with_reducible assumption | (with_reducible apply frame_modModel <;> first | exact frame_sub rfl hL | skip) | (with_reducible apply frame_commitRecord <;> first | exact frame_sub rfl hL | skip) | with_reducible apply frame_each | with_reducible apply frame_foldl | with_reducible apply frame_foldl2 | with_reducible apply frame_foldl1 | split | intro _ | dsimp only)

theorem frame_releaseTile {L : List Piece} {u : State} (x0 : _) (x1 : _) {s : State} (hL : ∀ p, p ∈ ([.tiles, .running, .waiting, .trace, .counters] : List Piece) → p ∈ L)  (h : Framed L u s) : Framed L u (releaseTile x0 x1 s) := by
  unfold releaseTile
  repeat (first | with_reducible assumption | (with_reducible apply frame_eraseOwed <;> first | exact frame_sub rfl hL | skip) | (with_reducible apply frame_State_modTile <;> first | exact frame_sub rfl hL | skip) | with_reducible apply frame_foldl | with_reducible apply frame_foldl2 | with_reducible apply frame_foldl1 | split | intro _ | dsimp only)

theorem frame_retireModel {L : List Piece} {u : State} (x0 : _) (x1 : _) {s : State} (hL : ∀ p, p ∈ ([.pre, .tiles, .running, .waiting, .trace, .counters] : List Piece) → p ∈ L)  (h : Framed L u s) : Framed L u (retireModel x0 x1 s) := by
  unfold retireModel
  repeat (first | with_reducible assumption | (with_reducible apply frame_State_modPre <;> first | exact frame_sub rfl hL | skip) | (with_reducible apply frame_releaseTile <;> first | exact frame_sub rfl hL | skip) | with_reducible apply frame_each | with_reducible apply frame_foldl | with_reducible apply frame_foldl2 | with_reducible apply frame_foldl1 | split | intro _ | dsimp only)

theorem frame_configTile {L : List Piece} {u : State} (x0 : _) (x1 : _) {s : State} (hL : ∀ p, p ∈ ([.tiles] : List Piece) → p ∈ L)  (h : Framed L u s) : Framed L u (configTile x0 x1 s) := by
  unfold configTile
  repeat (first | with_reducible assumption | (with_reducible apply frame_State_modTile <;> first | exact frame_sub rfl hL | skip) | with_reducible apply frame_foldl | with_reducible apply frame_foldl2 | with_reducible apply frame_foldl1 | split | intro _ | dsimp only)

theorem frame_bindFlow {L : List Piece} {u : State} (x0 : _) (x1 : _) (x2 : _) {s : State} (hL : ∀ p, p ∈ ([.flows] : List Piece) → p ∈ L)  (h : Framed L u s) : Framed L u (bindFlow x0 x1 x2 s) := by
  unfold bindFlow
  repeat (first | with_reducible assumption | (with_reducible apply frame_State_modCtx <;> first | exact frame_sub rfl hL | skip) | with_reducible apply frame_foldl | with_reducible apply frame_foldl2 | with_reducible apply frame_foldl1 | split | intro _ | dsimp only)

theorem frame_putRule {L : List Piece} {u : State} (x0 : _) (x1 : _) (x2 : _) (x3 : _) {s : State} (hL : ∀ p, p ∈ ([.pre] : List Piece) → p ∈ L)  (h : Framed L u s) : Framed L u (putRule x0 x1 x2 x3 s) := by
  unfold putRule
  repeat (first | with_reducible assumption | (with_reducible apply frame_State_modPre <;> first | exact frame_sub rfl hL | skip) | with_reducible apply frame_foldl | with_reducible apply frame_foldl2 | with_reducible apply frame_foldl1 | split | intro _ | dsimp only)

theorem frame_putPort {L : List Piece} {u : State} (x0 : _) {s : State} (hL : ∀ p, p ∈ ([.net] : List Piece) → p ∈ L)  (h : Framed L u s) : Framed L u (putPort x0 s) := by
  unfold putPort
  repeat (first | with_reducible assumption | (with_reducible apply frame_State_modPort <;> first | exact frame_sub rfl hL | skip) | with_reducible apply frame_foldl | with_reducible apply frame_foldl2 | with_reducible apply frame_foldl1 | split | intro _ | dsimp only)

theorem frame_putPeer {L : List Piece} {u : State} (x0 : _) (x1 : _) {s : State} (hL : ∀ p, p ∈ ([.net] : List Piece) → p ∈ L)  (h : Framed L u s) : Framed L u (putPeer x0 x1 s) := by
  unfold putPeer
  repeat (first | with_reducible assumption | (with_reducible apply frame_State_modPeer <;> first | exact frame_sub rfl hL | skip) | with_reducible apply frame_foldl | with_reducible apply frame_foldl2 | with_reducible apply frame_foldl1 | split | intro _ | dsimp only)

theorem frame_applyCmd {L : List Piece} {u : State} (x0 : _) (x1 : _) {s : State} (hL : ∀ p, p ∈ ([.crock, .host, .pre, .tiles, .cores, .flows, .ingest, .funnels, .running, .waiting, .net, .trace, .counters] : List Piece) → p ∈ L)  (h : Framed L u s) : Framed L u (applyCmd x0 x1 s) := by
  unfold applyCmd
  repeat (first | with_reducible assumption | (with_reducible apply frame_commitModel <;> first | exact frame_sub rfl hL | skip) | (with_reducible apply frame_retireModel <;> first | exact frame_sub rfl hL | skip) | (with_reducible apply frame_configTile <;> first | exact frame_sub rfl hL | skip) | (with_reducible apply frame_bindFlow <;> first | exact frame_sub rfl hL | skip) | (with_reducible apply frame_closeFlow <;> first | exact frame_sub rfl hL | skip) | (with_reducible apply frame_State_modPre <;> first | exact frame_sub rfl hL | skip) | (with_reducible apply frame_putRule <;> first | exact frame_sub rfl hL | skip) | (with_reducible apply frame_putChan <;> first | exact frame_sub rfl hL | skip) | (with_reducible apply frame_putDec <;> first | exact frame_sub rfl hL | skip) | (with_reducible apply frame_putPort <;> first | exact frame_sub rfl hL | skip) | (with_reducible apply frame_putPeer <;> first | exact frame_sub rfl hL | skip) | with_reducible apply frame_foldl | with_reducible apply frame_foldl2 | with_reducible apply frame_foldl1 | split | intro _ | dsimp only)

theorem frame_produce {L : List Piece} {u : State} (x0 : _) (x1 : _) (x2 : _) {s : State} (hL : ∀ p, p ∈ ([.power, .crock, .host, .pre, .tiles, .cores, .flows, .ingest, .tb, .funnels, .running, .waiting, .net, .trace, .counters] : List Piece) → p ∈ L)  (h : Framed L u s) : Framed L u (produce x0 x1 x2 s) := by
  unfold produce
  repeat (first | with_reducible assumption | (with_reducible apply frame_applyCmd <;> first | exact frame_sub rfl hL | skip) | (with_reducible apply frame_applyRegs <;> first | exact frame_sub rfl hL | skip) | with_reducible apply frame_each | with_reducible apply frame_foldl | with_reducible apply frame_foldl2 | with_reducible apply frame_foldl1 | split | intro _ | dsimp only)

theorem frame_unstage {L : List Piece} {u : State} (x0 : _) {s : State} (hL : ∀ p, p ∈ ([.pre] : List Piece) → p ∈ L)  (h : Framed L u s) : Framed L u (unstage x0 s) := by
  unfold unstage
  repeat (first | with_reducible assumption | (with_reducible apply frame_modModel <;> first | exact frame_sub rfl hL | skip) | with_reducible apply frame_each | with_reducible apply frame_foldl | with_reducible apply frame_foldl2 | with_reducible apply frame_foldl1 | split | intro _ | dsimp only)

theorem frame_discardCmds {L : List Piece} {u : State} (x0 : _) {s : State} (hL : ∀ p, p ∈ ([.host, .pre, .funnels, .trace, .counters] : List Piece) → p ∈ L)  (h : Framed L u s) : Framed L u (discardCmds x0 s) := by
  unfold discardCmds
  repeat (first | with_reducible assumption | (with_reducible apply frame_finishOpt <;> first | exact frame_sub rfl hL | skip) | (with_reducible apply frame_unstage <;> first | exact frame_sub rfl hL | skip) | with_reducible apply frame_each | with_reducible apply frame_foldl | with_reducible apply frame_foldl2 | with_reducible apply frame_foldl1 | split | intro _ | dsimp only)

theorem frame_advanceEpoch {L : List Piece} {u : State} (x0 : _) (x1 : _) (x2 : _) (x3 : _) {s : State} (hL : ∀ p, p ∈ ([.pre] : List Piece) → p ∈ L)  (h : Framed L u s) : Framed L u (advanceEpoch x0 x1 x2 x3 s) := by
  unfold advanceEpoch
  repeat (first | with_reducible assumption | (with_reducible apply frame_State_modPre <;> first | exact frame_sub rfl hL | skip) | with_reducible apply frame_foldl | with_reducible apply frame_foldl2 | with_reducible apply frame_foldl1 | split | intro _ | dsimp only)

theorem frame_advanceAll {L : List Piece} {u : State} (x0 : _) (x1 : _) (x2 : _) (x3 : _) {s : State} (hL : ∀ p, p ∈ ([.pre] : List Piece) → p ∈ L)  (h : Framed L u s) : Framed L u (advanceAll x0 x1 x2 x3 s) := by
  unfold advanceAll
  repeat (first | with_reducible assumption | (with_reducible apply frame_advanceEpoch <;> first | exact frame_sub rfl hL | skip) | with_reducible apply frame_each | with_reducible apply frame_foldl | with_reducible apply frame_foldl2 | with_reducible apply frame_foldl1 | split | intro _ | dsimp only)

theorem frame_finishClosing {L : List Piece} {u : State} (x0 : _) {s : State} (hL : ∀ p, p ∈ ([.host, .pre, .flows, .funnels, .trace, .counters] : List Piece) → p ∈ L)  (h : Framed L u s) : Framed L u (finishClosing x0 s) := by
  unfold finishClosing
  repeat (first | with_reducible assumption | (with_reducible apply frame_freeSpill <;> first | exact frame_sub rfl hL | skip) | (with_reducible apply frame_State_modFlows <;> first | exact frame_sub rfl hL | skip) | (with_reducible apply frame_finishOpt <;> first | exact frame_sub rfl hL | skip) | with_reducible apply frame_foldl | with_reducible apply frame_foldl2 | with_reducible apply frame_foldl1 | split | intro _ | dsimp only)

theorem frame_closeIfDone {L : List Piece} {u : State} (x0 : _) {s : State} (hL : ∀ p, p ∈ ([.host, .pre, .flows, .funnels, .trace, .counters] : List Piece) → p ∈ L)  (h : Framed L u s) : Framed L u (closeIfDone x0 s) := by
  unfold closeIfDone
  repeat (first | with_reducible assumption | (with_reducible apply frame_finishClosing <;> first | exact frame_sub rfl hL | skip) | with_reducible apply frame_foldl | with_reducible apply frame_foldl2 | with_reducible apply frame_foldl1 | split | intro _ | dsimp only)

theorem frame_dropPending {L : List Piece} {u : State} (x0 : _) {s : State} (hL : ∀ p, p ∈ ([.pre] : List Piece) → p ∈ L)  (h : Framed L u s) : Framed L u (dropPending x0 s) := by
  unfold dropPending
  repeat (first | with_reducible assumption | (with_reducible apply frame_State_modPre <;> first | exact frame_sub rfl hL | skip) | with_reducible apply frame_foldl | with_reducible apply frame_foldl2 | with_reducible apply frame_foldl1 | split | intro _ | dsimp only)

theorem frame_applyCommit {L : List Piece} {u : State} (x0 : _) {s : State} (hL : ∀ p, p ∈ ([.power, .crock, .host, .pre, .tiles, .cores, .flows, .ingest, .tb, .funnels, .running, .waiting, .net, .trace, .counters] : List Piece) → p ∈ L)  (h : Framed L u s) : Framed L u (applyCommit x0 s) := by
  unfold applyCommit
  repeat (first | with_reducible assumption | (with_reducible apply frame_dropPending <;> first | exact frame_sub rfl hL | skip) | (with_reducible apply frame_produce <;> first | exact frame_sub rfl hL | skip) | (with_reducible apply frame_finish <;> first | exact frame_sub rfl hL | skip) | (with_reducible apply frame_discardCmds <;> first | exact frame_sub rfl hL | skip) | (with_reducible apply frame_advanceAll <;> first | exact frame_sub rfl hL | skip) | (with_reducible apply frame_redivide <;> first | exact frame_sub rfl hL | skip) | (with_reducible apply frame_regrid <;> first | exact frame_sub rfl hL | skip) | (with_reducible apply frame_formWindows <;> first | exact frame_sub rfl hL | skip) | (with_reducible apply frame_closeIfDone <;> first | exact frame_sub rfl hL | skip) | (with_reducible apply frame_traceOnly <;> first | exact frame_sub rfl hL | skip) | with_reducible apply frame_each | with_reducible apply frame_foldl | with_reducible apply frame_foldl2 | with_reducible apply frame_foldl1 | split | intro _ | dsimp only)

theorem frame_applyDue {L : List Piece} {u : State} (x0 : _) (x1 : _) {s : State} (hL : ∀ p, p ∈ ([.power, .crock, .host, .pre, .tiles, .cores, .flows, .ingest, .tb, .funnels, .running, .waiting, .net, .trace, .counters] : List Piece) → p ∈ L)  (h : Framed L u s) : Framed L u (applyDue x0 x1 s) := by
  induction x0 generalizing s with
  | zero => exact h
  | succ k ih =>
    unfold applyDue
    split
    · split
      · exact ih (frame_applyCommit _ (frame_sub rfl hL) h)
      · exact h
    · exact h

theorem frame_performCommit {L : List Piece} {u : State} (x0 : _) {s : State} (hL : ∀ p, p ∈ ([.power, .crock, .host, .pre, .tiles, .cores, .flows, .ingest, .tb, .funnels, .running, .waiting, .net, .trace, .counters] : List Piece) → p ∈ L)  (h : Framed L u s) : Framed L u (performCommit x0 s) := by
  unfold performCommit
  repeat (first | with_reducible assumption | (with_reducible apply frame_applyDue <;> first | exact frame_sub rfl hL | skip) | (with_reducible apply frame_finish <;> first | exact frame_sub rfl hL | skip) | (with_reducible apply frame_State_modPre <;> first | exact frame_sub rfl hL | skip) | (with_reducible apply frame_setWait <;> first | exact frame_sub rfl hL | skip) | with_reducible apply frame_foldl | with_reducible apply frame_foldl2 | with_reducible apply frame_foldl1 | split | intro _ | dsimp only)

theorem frame_execCommitTick {L : List Piece} {u : State} (x0 : _) {s : State} (hL : ∀ p, p ∈ ([.power, .crock, .host, .pre, .tiles, .cores, .flows, .ingest, .tb, .funnels, .running, .waiting, .net, .trace, .counters] : List Piece) → p ∈ L)  (h : Framed L u s) : FramedAnswer L u (execCommitTick x0 s) := by
  unfold execCommitTick
  repeat (first | with_reducible assumption | (with_reducible apply frame_applyDue <;> first | exact frame_sub rfl hL | skip) | with_reducible apply frame_ifDue | with_reducible exact frame_fault | with_reducible apply frame_next | with_reducible apply frame_foldl | with_reducible apply frame_foldl2 | with_reducible apply frame_foldl1 | split | intro _ | dsimp only)

theorem frame_execSlicerCycle {L : List Piece} {u : State} (x0 : _) {s : State} (hL : ∀ p, p ∈ ([.power, .crock, .host, .pre, .tiles, .cores, .flows, .ingest, .tb, .funnels, .running, .waiting, .net, .trace, .counters] : List Piece) → p ∈ L)  (h : Framed L u s) : FramedAnswer L u (execSlicerCycle x0 s) := by
  unfold execSlicerCycle
  repeat (first | with_reducible assumption | (with_reducible apply frame_slice <;> first | exact frame_sub rfl hL | skip) | (with_reducible apply frame_applyDue <;> first | exact frame_sub rfl hL | skip) | with_reducible apply frame_ifDue | with_reducible exact frame_fault | with_reducible apply frame_next | with_reducible apply frame_foldl | with_reducible apply frame_foldl2 | with_reducible apply frame_foldl1 | split | intro _ | dsimp only)

theorem frame_execFlowClosed {L : List Piece} {u : State} (x0 : _) {s : State} (hL : ∀ p, p ∈ ([.host, .pre, .flows, .funnels, .trace, .counters] : List Piece) → p ∈ L)  (h : Framed L u s) : FramedAnswer L u (execFlowClosed x0 s) := by
  unfold execFlowClosed
  repeat (first | with_reducible assumption | (with_reducible apply frame_closeIfDone <;> first | exact frame_sub rfl hL | skip) | with_reducible apply frame_ifDue | with_reducible exact frame_fault | with_reducible apply frame_next | with_reducible apply frame_foldl | with_reducible apply frame_foldl2 | with_reducible apply frame_foldl1 | split | intro _ | dsimp only)

theorem frame_dropJob {L : List Piece} {u : State} (x0 : _) (x1 : _) {s : State} (hL : ∀ p, p ∈ ([.tiles, .running, .waiting, .trace] : List Piece) → p ∈ L)  (h : Framed L u s) : Framed L u (dropJob x0 x1 s) := by
  unfold dropJob
  repeat (first | with_reducible assumption | (with_reducible apply frame_endAct <;> first | exact frame_sub rfl hL | skip) | (with_reducible apply frame_State_modTile <;> first | exact frame_sub rfl hL | skip) | with_reducible apply frame_each | with_reducible apply frame_foldl | with_reducible apply frame_foldl2 | with_reducible apply frame_foldl1 | split | intro _ | dsimp only | (with_reducible apply frame_mk; iterate 22 (first | exact Or.inr (hL _ (by decide)) | with_reducible exact Or.inl rfl)))

theorem frame_keepTile {L : List Piece} {u : State} (x0 : _) (x1 : _) (x2 : _) {s : State} (hL : ∀ p, p ∈ ([.pre, .tiles, .running, .waiting, .trace] : List Piece) → p ∈ L)  (h : Framed L u s) : Framed L u (keepTile x0 x1 x2 s) := by
  unfold keepTile
  repeat (first | with_reducible assumption | (with_reducible apply frame_dropJob <;> first | exact frame_sub rfl hL | skip) | (with_reducible apply frame_modModel <;> first | exact frame_sub rfl hL | skip) | (with_reducible apply frame_State_modTile <;> first | exact frame_sub rfl hL | skip) | with_reducible apply frame_foldl | with_reducible apply frame_foldl2 | with_reducible apply frame_foldl1 | split | intro _ | dsimp only)

theorem frame_placeRecord {L : List Piece} {u : State} (x0 : _) (x1 : _) (x2 : _) (x3 : _) {s : State} (hL : ∀ p, p ∈ ([.pre, .tiles, .running, .waiting, .trace] : List Piece) → p ∈ L)  (h : Framed L u s) : Framed L u (placeRecord x0 x1 x2 x3 s).2 := by
  unfold placeRecord
  repeat (first | with_reducible assumption | (with_reducible apply frame_keepTile <;> first | exact frame_sub rfl hL | skip) | (with_reducible apply frame_State_modTile <;> first | exact frame_sub rfl hL | skip) | (with_reducible apply frame_dropJob <;> first | exact frame_sub rfl hL | skip) | with_reducible apply frame_foldl | with_reducible apply frame_foldl2 | with_reducible apply frame_foldl1 | split | intro _ | dsimp only)

theorem frame_placeAll {L : List Piece} {u : State} (x0 : _) (x1 : _) (x2 : _) (x3 : _) {s : State} (hL : ∀ p, p ∈ ([.pre, .tiles, .running, .waiting, .trace] : List Piece) → p ∈ L)  (h : Framed L u s) : Framed L u (placeAll x0 x1 x2 x3 s).2 := by
  induction x3 generalizing s with
  | nil => exact h
  | cons r l ih => exact ih (frame_placeRecord _ _ _ _ (frame_sub rfl hL) h)

theorem frame_askTiles {L : List Piece} {u : State} (x0 : _) (x1 : _) {s : State} (hL : ∀ p, p ∈ ([.draw, .host, .pre, .tiles, .cores, .flows, .funnels, .running, .waiting, .trace, .counters] : List Piece) → p ∈ L)  (h : Framed L u s) : Framed L u (askTiles x0 x1 s) := by
  unfold askTiles
  repeat (first | with_reducible assumption | (with_reducible apply frame_setWait <;> first | exact frame_sub rfl hL | skip) | (with_reducible apply frame_reply <;> first | exact frame_sub rfl hL | skip) | (with_reducible apply frame_startAct <;> first | exact frame_sub rfl hL | skip) | with_reducible apply frame_each | with_reducible apply frame_foldl | with_reducible apply frame_foldl2 | with_reducible apply frame_foldl1 | split | intro _ | dsimp only | (with_reducible apply frame_mk; iterate 22 (first | exact Or.inr (hL _ (by decide)) | with_reducible exact Or.inl rfl)))

theorem frame_releaseHeld {L : List Piece} {u : State} (x0 : _) (x1 : _) {s : State} (hL : ∀ p, p ∈ ([.tiles, .running, .waiting, .trace, .counters] : List Piece) → p ∈ L)  (h : Framed L u s) : Framed L u (releaseHeld x0 x1 s).2 := by
  unfold releaseHeld
  repeat (first | with_reducible assumption | (with_reducible apply frame_eraseOwed <;> first | exact frame_sub rfl hL | skip) | (with_reducible apply frame_State_modTile <;> first | exact frame_sub rfl hL | skip) | with_reducible apply frame_each | with_reducible apply frame_foldl | with_reducible apply frame_foldl2 | with_reducible apply frame_foldl1 | split | intro _ | dsimp only)

theorem frame_startLoad {L : List Piece} {u : State} (x0 : _) (x1 : _) (x2 : _) (x3 : _) {s : State} (hL : ∀ p, p ∈ ([.draw, .host, .pre, .tiles, .cores, .flows, .funnels, .running, .waiting, .trace, .counters, .pkg] : List Piece) → p ∈ L)  (h : Framed L u s) : Framed L u (startLoad x0 x1 x2 x3 s) := by
  unfold startLoad
  repeat (first | with_reducible assumption | (with_reducible apply frame_State_modPre <;> first | exact frame_sub rfl hL | skip) | (with_reducible apply frame_releaseHeld <;> first | exact frame_sub rfl hL | skip) | (with_reducible apply frame_placeAll <;> first | exact frame_sub rfl hL | skip) | (with_reducible apply frame_State_modPkg <;> first | exact frame_sub rfl hL | skip) | (with_reducible apply frame_modelDone <;> first | exact frame_sub rfl hL | skip) | (with_reducible apply frame_askTiles <;> first | exact frame_sub rfl hL | skip) | with_reducible apply frame_foldl | with_reducible apply frame_foldl2 | with_reducible apply frame_foldl1 | split | intro _ | dsimp only)

theorem frame_performModelLoad {L : List Piece} {u : State} (x0 : _) {s : State} (hL : ∀ p, p ∈ ([.draw, .host, .pre, .tiles, .cores, .flows, .funnels, .running, .waiting, .trace, .counters, .pkg] : List Piece) → p ∈ L)  (h : Framed L u s) : Framed L u (performModelLoad x0 s) := by
  unfold performModelLoad
  repeat (first | with_reducible assumption | (with_reducible apply frame_finish <;> first | exact frame_sub rfl hL | skip) | (with_reducible apply frame_startLoad <;> first | exact frame_sub rfl hL | skip) | with_reducible apply frame_foldl | with_reducible apply frame_foldl2 | with_reducible apply frame_foldl1 | split | intro _ | dsimp only)

theorem frame_performTileProgram {L : List Piece} {u : State} (x0 : _) {s : State} (hL : ∀ p, p ∈ ([.draw, .host, .pre, .tiles, .cores, .flows, .funnels, .running, .waiting, .trace, .counters] : List Piece) → p ∈ L)  (h : Framed L u s) : Framed L u (performTileProgram x0 s) := by
  unfold performTileProgram
  repeat (first | with_reducible assumption | (with_reducible apply frame_finish <;> first | exact frame_sub rfl hL | skip) | (with_reducible apply frame_askTiles <;> first | exact frame_sub rfl hL | skip) | (with_reducible apply frame_State_modTile <;> first | exact frame_sub rfl hL | skip) | (with_reducible apply frame_dropJob <;> first | exact frame_sub rfl hL | skip) | with_reducible apply frame_foldl | with_reducible apply frame_foldl2 | with_reducible apply frame_foldl1 | split | intro _ | dsimp only)

theorem frame_performTileVerify {L : List Piece} {u : State} (x0 : _) {s : State} (hL : ∀ p, p ∈ ([.host, .pre, .funnels, .running, .waiting, .trace, .counters] : List Piece) → p ∈ L)  (h : Framed L u s) : Framed L u (performTileVerify x0 s) := by
  unfold performTileVerify
  repeat (first | with_reducible assumption | (with_reducible apply frame_askCmd <;> first | exact frame_sub rfl hL | skip) | (with_reducible apply frame_finish <;> first | exact frame_sub rfl hL | skip) | with_reducible apply frame_foldl | with_reducible apply frame_foldl2 | with_reducible apply frame_foldl1 | split | intro _ | dsimp only)

theorem frame_performStaged {L : List Piece} {u : State} (x0 : _) (x1 : _) {s : State} (hL : ∀ p, p ∈ ([.host, .pre, .tiles, .ingest, .funnels, .trace, .counters] : List Piece) → p ∈ L)  (h : Framed L u s) : Framed L u (performStaged x0 x1 s) := by
  unfold performStaged
  repeat (first | with_reducible assumption | (with_reducible apply frame_finish <;> first | exact frame_sub rfl hL | skip) | (with_reducible apply frame_stage <;> first | exact frame_sub rfl hL | skip) | with_reducible apply frame_foldl | with_reducible apply frame_foldl2 | with_reducible apply frame_foldl1 | split | intro _ | dsimp only)

theorem frame_performModelCommit {L : List Piece} {u : State} (x0 : _) {s : State} (hL : ∀ p, p ∈ ([.host, .pre, .tiles, .ingest, .funnels, .trace, .counters] : List Piece) → p ∈ L)  (h : Framed L u s) : Framed L u (performModelCommit x0 s) := by
  unfold performModelCommit
  repeat (first | with_reducible assumption | (with_reducible apply frame_finish <;> first | exact frame_sub rfl hL | skip) | (with_reducible apply frame_stage <;> first | exact frame_sub rfl hL | skip) | (with_reducible apply frame_modModel <;> first | exact frame_sub rfl hL | skip) | with_reducible apply frame_foldl | with_reducible apply frame_foldl2 | with_reducible apply frame_foldl1 | split | intro _ | dsimp only)

theorem frame_performModelRetire {L : List Piece} {u : State} (x0 : _) {s : State} (hL : ∀ p, p ∈ ([.host, .pre, .tiles, .funnels, .running, .waiting, .trace, .counters] : List Piece) → p ∈ L)  (h : Framed L u s) : Framed L u (performModelRetire x0 s) := by
  unfold performModelRetire
  repeat (first | with_reducible assumption | (with_reducible apply frame_finish <;> first | exact frame_sub rfl hL | skip) | (with_reducible apply frame_stage <;> first | exact frame_sub rfl hL | skip) | (with_reducible apply frame_releaseHeld <;> first | exact frame_sub rfl hL | skip) | (with_reducible apply frame_State_modPre <;> first | exact frame_sub rfl hL | skip) | with_reducible apply frame_foldl | with_reducible apply frame_foldl2 | with_reducible apply frame_foldl1 | split | intro _ | dsimp only)

theorem frame_performTileConfig {L : List Piece} {u : State} (x0 : _) {s : State} (hL : ∀ p, p ∈ ([.host, .pre, .tiles, .ingest, .funnels, .trace, .counters] : List Piece) → p ∈ L)  (h : Framed L u s) : Framed L u (performTileConfig x0 s) := by
  unfold performTileConfig
  repeat (first | with_reducible assumption | (with_reducible apply frame_performStaged <;> first | exact frame_sub rfl hL | skip) | with_reducible apply frame_foldl | with_reducible apply frame_foldl2 | with_reducible apply frame_foldl1 | split | intro _ | dsimp only)

theorem frame_performFlowOpen {L : List Piece} {u : State} (x0 : _) {s : State} (hL : ∀ p, p ∈ ([.draw, .host, .pre, .flows, .funnels, .trace, .counters] : List Piece) → p ∈ L)  (h : Framed L u s) : Framed L u (performFlowOpen x0 s) := by
  unfold performFlowOpen
  repeat (first | with_reducible assumption | (with_reducible apply frame_finish <;> first | exact frame_sub rfl hL | skip) | (with_reducible apply frame_State_setCtx <;> first | exact frame_sub rfl hL | skip) | (with_reducible apply frame_State_nextDraw <;> first | exact frame_sub rfl hL | skip) | with_reducible apply frame_foldl | with_reducible apply frame_foldl2 | with_reducible apply frame_foldl1 | split | intro _ | dsimp only)

theorem frame_performFlowBind {L : List Piece} {u : State} (x0 : _) {s : State} (hL : ∀ p, p ∈ ([.host, .pre, .tiles, .ingest, .funnels, .trace, .counters] : List Piece) → p ∈ L)  (h : Framed L u s) : Framed L u (performFlowBind x0 s) := by
  unfold performFlowBind
  repeat (first | with_reducible assumption | (with_reducible apply frame_performStaged <;> first | exact frame_sub rfl hL | skip) | with_reducible apply frame_foldl | with_reducible apply frame_foldl2 | with_reducible apply frame_foldl1 | split | intro _ | dsimp only)

theorem frame_performFlowClose {L : List Piece} {u : State} (x0 : _) {s : State} (hL : ∀ p, p ∈ ([.host, .pre, .tiles, .ingest, .funnels, .trace, .counters] : List Piece) → p ∈ L)  (h : Framed L u s) : Framed L u (performFlowClose x0 s) := by
  unfold performFlowClose
  repeat (first | with_reducible assumption | (with_reducible apply frame_performStaged <;> first | exact frame_sub rfl hL | skip) | with_reducible apply frame_foldl | with_reducible apply frame_foldl2 | with_reducible apply frame_foldl1 | split | intro _ | dsimp only)

theorem frame_performFlowSnapshot {L : List Piece} {u : State} (x0 : _) {s : State} (hL : ∀ p, p ∈ ([.host, .pre, .funnels, .trace, .counters] : List Piece) → p ∈ L)  (h : Framed L u s) : Framed L u (performFlowSnapshot x0 s) := by
  unfold performFlowSnapshot
  repeat (first | with_reducible assumption | (with_reducible apply frame_finish <;> first | exact frame_sub rfl hL | skip) | (with_reducible apply frame_State_hostWrite <;> first | exact frame_sub rfl hL | skip) | with_reducible apply frame_foldl | with_reducible apply frame_foldl2 | with_reducible apply frame_foldl1 | split | intro _ | dsimp only)

theorem frame_performKrnDefine {L : List Piece} {u : State} (x0 : _) {s : State} (hL : ∀ p, p ∈ ([.host, .pre, .tiles, .funnels, .trace, .counters] : List Piece) → p ∈ L)  (h : Framed L u s) : Framed L u (performKrnDefine x0 s) := by
  unfold performKrnDefine
  repeat (first | with_reducible assumption | (with_reducible apply frame_finish <;> first | exact frame_sub rfl hL | skip) | (with_reducible apply frame_State_modPre <;> first | exact frame_sub rfl hL | skip) | with_reducible apply frame_foldl | with_reducible apply frame_foldl2 | with_reducible apply frame_foldl1 | split | intro _ | dsimp only)

theorem frame_performKrnRelease {L : List Piece} {u : State} (x0 : _) {s : State} (hL : ∀ p, p ∈ ([.host, .pre, .tiles, .ingest, .funnels, .trace, .counters] : List Piece) → p ∈ L)  (h : Framed L u s) : Framed L u (performKrnRelease x0 s) := by
  unfold performKrnRelease
  repeat (first | with_reducible assumption | (with_reducible apply frame_performStaged <;> first | exact frame_sub rfl hL | skip) | with_reducible apply frame_foldl | with_reducible apply frame_foldl2 | with_reducible apply frame_foldl1 | split | intro _ | dsimp only)

theorem frame_performKrnSubmit {L : List Piece} {u : State} (x0 : _) {s : State} (hL : ∀ p, p ∈ ([.host, .pre, .tiles, .flows, .funnels, .trace, .counters] : List Piece) → p ∈ L)  (h : Framed L u s) : Framed L u (performKrnSubmit x0 s) := by
  unfold performKrnSubmit
  repeat (first | with_reducible assumption | (with_reducible apply frame_finish <;> first | exact frame_sub rfl hL | skip) | (with_reducible apply frame_State_modFlows <;> first | exact frame_sub rfl hL | skip) | (with_reducible apply frame_State_setCtx <;> first | exact frame_sub rfl hL | skip) | with_reducible apply frame_foldl | with_reducible apply frame_foldl2 | with_reducible apply frame_foldl1 | split | intro _ | dsimp only)

theorem frame_performSyncRead {L : List Piece} {u : State} (x0 : _) {s : State} (hL : ∀ p, p ∈ ([.host, .pre, .funnels, .trace, .counters] : List Piece) → p ∈ L)  (h : Framed L u s) : Framed L u (performSyncRead x0 s) := by
  unfold performSyncRead
  repeat (first | with_reducible assumption | (with_reducible apply frame_finish <;> first | exact frame_sub rfl hL | skip) | (with_reducible apply frame_State_hostWrite <;> first | exact frame_sub rfl hL | skip) | with_reducible apply frame_foldl | with_reducible apply frame_foldl2 | with_reducible apply frame_foldl1 | split | intro _ | dsimp only)

theorem frame_syncManual {L : List Piece} {u : State} (x0 : _) (x1 : _) (x2 : _) (x3 : _) {s : State} (hL : ∀ p, p ∈ ([.funnels, .trace, .counters] : List Piece) → p ∈ L)  (h : Framed L u s) : Framed L u (syncManual x0 x1 x2 x3 s) := by
  unfold syncManual
  repeat (first | with_reducible assumption | (with_reducible apply frame_raisePart <;> first | exact frame_sub rfl hL | skip) | (with_reducible apply frame_count <;> first | exact frame_sub rfl hL | skip) | with_reducible apply frame_foldl | with_reducible apply frame_foldl2 | with_reducible apply frame_foldl1 | split | intro _ | dsimp only)

theorem frame_performSyncSet {L : List Piece} {u : State} (x0 : _) {s : State} (hL : ∀ p, p ∈ ([.host, .pre, .cores, .flows, .funnels, .trace, .counters] : List Piece) → p ∈ L)  (h : Framed L u s) : Framed L u (performSyncSet x0 s) := by
  unfold performSyncSet
  repeat (first | with_reducible assumption | (with_reducible apply frame_finish <;> first | exact frame_sub rfl hL | skip) | (with_reducible apply frame_syncManual <;> first | exact frame_sub rfl hL | skip) | (with_reducible apply frame_State_modFlows <;> first | exact frame_sub rfl hL | skip) | (with_reducible apply frame_signalAt <;> first | exact frame_sub rfl hL | skip) | with_reducible apply frame_foldl | with_reducible apply frame_foldl2 | with_reducible apply frame_foldl1 | split | intro _ | dsimp only)

theorem frame_performNop {L : List Piece} {u : State} (x0 : _) {s : State} (hL : ∀ p, p ∈ ([.host, .pre, .funnels, .trace, .counters] : List Piece) → p ∈ L)  (h : Framed L u s) : Framed L u (performNop x0 s) := by
  unfold performNop
  repeat (first | with_reducible assumption | (with_reducible apply frame_finish <;> first | exact frame_sub rfl hL | skip) | with_reducible apply frame_foldl | with_reducible apply frame_foldl2 | with_reducible apply frame_foldl1 | split | intro _ | dsimp only)

theorem frame_performGetCaps {L : List Piece} {u : State} (x0 : _) {s : State} (hL : ∀ p, p ∈ ([.host, .pre, .funnels, .trace, .counters] : List Piece) → p ∈ L)  (h : Framed L u s) : Framed L u (performGetCaps x0 s) := by
  unfold performGetCaps
  repeat (first | with_reducible assumption | (with_reducible apply frame_finish <;> first | exact frame_sub rfl hL | skip) | with_reducible apply frame_foldl | with_reducible apply frame_foldl2 | with_reducible apply frame_foldl1 | split | intro _ | dsimp only)

theorem frame_performSetLevel {L : List Piece} {u : State} (x0 : _) {s : State} (hL : ∀ p, p ∈ ([.host, .pre, .funnels, .trace, .counters] : List Piece) → p ∈ L)  (h : Framed L u s) : Framed L u (performSetLevel x0 s) := by
  unfold performSetLevel
  repeat (first | with_reducible assumption | (with_reducible apply frame_finish <;> first | exact frame_sub rfl hL | skip) | (with_reducible apply frame_State_modHost <;> first | exact frame_sub rfl hL | skip) | with_reducible apply frame_foldl | with_reducible apply frame_foldl2 | with_reducible apply frame_foldl1 | split | intro _ | dsimp only)

theorem frame_withdrawTag {L : List Piece} {u : State} (x0 : _) {s : State} (hL : ∀ p, p ∈ ([.host, .pre, .tiles, .cores, .funnels, .running, .waiting, .trace, .counters] : List Piece) → p ∈ L)  (h : Framed L u s) : Framed L u (withdrawTag x0 s) := by
  unfold withdrawTag
  repeat (first | with_reducible assumption | (with_reducible apply frame_State_modLane <;> first | exact frame_sub rfl hL | skip) | (with_reducible apply frame_withdraw <;> first | exact frame_sub rfl hL | skip) | with_reducible apply frame_foldl | with_reducible apply frame_foldl2 | with_reducible apply frame_foldl1 | split | intro _ | dsimp only)

theorem frame_performCmdCancel {L : List Piece} {u : State} (x0 : _) {s : State} (hL : ∀ p, p ∈ ([.host, .pre, .tiles, .cores, .funnels, .running, .waiting, .trace, .counters] : List Piece) → p ∈ L)  (h : Framed L u s) : Framed L u (performCmdCancel x0 s) := by
  unfold performCmdCancel
  repeat (first | with_reducible assumption | (with_reducible apply frame_finish <;> first | exact frame_sub rfl hL | skip) | (with_reducible apply frame_withdrawTag <;> first | exact frame_sub rfl hL | skip) | with_reducible apply frame_each | with_reducible apply frame_foldl | with_reducible apply frame_foldl2 | with_reducible apply frame_foldl1 | split | intro _ | dsimp only)

theorem frame_performStageDiscard {L : List Piece} {u : State} (x0 : _) {s : State} (hL : ∀ p, p ∈ ([.host, .pre, .funnels, .trace, .counters] : List Piece) → p ∈ L)  (h : Framed L u s) : Framed L u (performStageDiscard x0 s) := by
  unfold performStageDiscard
  repeat (first | with_reducible assumption | (with_reducible apply frame_finish <;> first | exact frame_sub rfl hL | skip) | (with_reducible apply frame_discardCmds <;> first | exact frame_sub rfl hL | skip) | (with_reducible apply frame_State_modPre <;> first | exact frame_sub rfl hL | skip) | with_reducible apply frame_foldl | with_reducible apply frame_foldl2 | with_reducible apply frame_foldl1 | split | intro _ | dsimp only)

theorem frame_performTrigPulse {L : List Piece} {u : State} (x0 : _) {s : State} (hL : ∀ p, p ∈ ([.host, .pre, .tb, .funnels, .trace, .counters] : List Piece) → p ∈ L)  (h : Framed L u s) : Framed L u (performTrigPulse x0 s) := by
  unfold performTrigPulse
  repeat (first | with_reducible assumption | (with_reducible apply frame_finish <;> first | exact frame_sub rfl hL | skip) | (with_reducible apply frame_count <;> first | exact frame_sub rfl hL | skip) | (with_reducible apply frame_schedulePin <;> first | exact frame_sub rfl hL | skip) | with_reducible apply frame_foldl | with_reducible apply frame_foldl2 | with_reducible apply frame_foldl1 | split | intro _ | dsimp only)

theorem frame_performRuleSet {L : List Piece} {u : State} (x0 : _) {s : State} (hL : ∀ p, p ∈ ([.host, .pre, .tiles, .ingest, .funnels, .trace, .counters] : List Piece) → p ∈ L)  (h : Framed L u s) : Framed L u (performRuleSet x0 s) := by
  unfold performRuleSet
  repeat (first | with_reducible assumption | (with_reducible apply frame_performStaged <;> first | exact frame_sub rfl hL | skip) | with_reducible apply frame_foldl | with_reducible apply frame_foldl2 | with_reducible apply frame_foldl1 | split | intro _ | dsimp only)

theorem frame_performRuleClear {L : List Piece} {u : State} (x0 : _) {s : State} (hL : ∀ p, p ∈ ([.host, .pre, .tiles, .ingest, .funnels, .trace, .counters] : List Piece) → p ∈ L)  (h : Framed L u s) : Framed L u (performRuleClear x0 s) := by
  unfold performRuleClear
  repeat (first | with_reducible assumption | (with_reducible apply frame_performStaged <;> first | exact frame_sub rfl hL | skip) | with_reducible apply frame_foldl | with_reducible apply frame_foldl2 | with_reducible apply frame_foldl1 | split | intro _ | dsimp only)

theorem frame_performTickRead {L : List Piece} {u : State} (x0 : _) {s : State} (hL : ∀ p, p ∈ ([.host, .pre, .funnels, .trace, .counters] : List Piece) → p ∈ L)  (h : Framed L u s) : Framed L u (performTickRead x0 s) := by
  unfold performTickRead
  repeat (first | with_reducible assumption | (with_reducible apply frame_finish <;> first | exact frame_sub rfl hL | skip) | with_reducible apply frame_foldl | with_reducible apply frame_foldl2 | with_reducible apply frame_foldl1 | split | intro _ | dsimp only)

theorem frame_performIgChanSet {L : List Piece} {u : State} (x0 : _) {s : State} (hL : ∀ p, p ∈ ([.host, .pre, .tiles, .ingest, .funnels, .trace, .counters] : List Piece) → p ∈ L)  (h : Framed L u s) : Framed L u (performIgChanSet x0 s) := by
  unfold performIgChanSet
  repeat (first | with_reducible assumption | (with_reducible apply frame_performStaged <;> first | exact frame_sub rfl hL | skip) | with_reducible apply frame_foldl | with_reducible apply frame_foldl2 | with_reducible apply frame_foldl1 | split | intro _ | dsimp only)

theorem frame_performIgDecSet {L : List Piece} {u : State} (x0 : _) {s : State} (hL : ∀ p, p ∈ ([.host, .pre, .tiles, .ingest, .funnels, .trace, .counters] : List Piece) → p ∈ L)  (h : Framed L u s) : Framed L u (performIgDecSet x0 s) := by
  unfold performIgDecSet
  repeat (first | with_reducible assumption | (with_reducible apply frame_performStaged <;> first | exact frame_sub rfl hL | skip) | with_reducible apply frame_foldl | with_reducible apply frame_foldl2 | with_reducible apply frame_foldl1 | split | intro _ | dsimp only)

theorem frame_performIgCoefLoad {L : List Piece} {u : State} (x0 : _) {s : State} (hL : ∀ p, p ∈ ([.host, .pre, .ingest, .funnels, .trace, .counters] : List Piece) → p ∈ L)  (h : Framed L u s) : Framed L u (performIgCoefLoad x0 s) := by
  unfold performIgCoefLoad
  repeat (first | with_reducible assumption | (with_reducible apply frame_finish <;> first | exact frame_sub rfl hL | skip) | (with_reducible apply frame_State_modIngest <;> first | exact frame_sub rfl hL | skip) | with_reducible apply frame_foldl | with_reducible apply frame_foldl2 | with_reducible apply frame_foldl1 | split | intro _ | dsimp only)

theorem frame_retireNow {L : List Piece} {u : State} (x0 : _) {s : State} (hL : ∀ p, p ∈ ([.draw, .power, .crock, .host, .pre, .tiles, .cores, .flows, .ingest, .tb, .funnels, .running, .trace, .counters] : List Piece) → p ∈ L)  (h : Framed L u s) : Framed L u (retireNow x0 s) := by
  unfold retireNow
  repeat (first | with_reducible assumption | (with_reducible apply frame_finishIdle <;> first | exact frame_sub rfl hL | skip) | (with_reducible apply frame_retireUnit <;> first | exact frame_sub rfl hL | skip) | (with_reducible apply frame_endAct <;> first | exact frame_sub rfl hL | skip) | with_reducible apply frame_foldl | with_reducible apply frame_foldl2 | with_reducible apply frame_foldl1 | split | intro _ | dsimp only)

theorem frame_beginAny {L : List Piece} {u : State} (x0 : _) {s : State} (hL : ∀ p, p ∈ ([.draw, .power, .crock, .host, .pre, .tiles, .cores, .flows, .ingest, .tb, .funnels, .running, .waiting, .trace, .counters] : List Piece) → p ∈ L)  (h : Framed L u s) : Framed L u (beginAny x0 s) := by
  unfold beginAny
  repeat (first | with_reducible assumption | (with_reducible apply frame_startAct <;> first | exact frame_sub rfl hL | skip) | (with_reducible apply frame_beginSave <;> first | exact frame_sub rfl hL | skip) | (with_reducible apply frame_retireNow <;> first | exact frame_sub rfl hL | skip) | with_reducible apply frame_foldl | with_reducible apply frame_foldl2 | with_reducible apply frame_foldl1 | split | intro _ | dsimp only)

theorem frame_execMaintArbiterRun {L : List Piece} {u : State} {s : State} (hL : ∀ p, p ∈ ([.draw, .power, .crock, .host, .pre, .tiles, .cores, .flows, .ingest, .tb, .funnels, .running, .waiting, .trace, .counters] : List Piece) → p ∈ L)  (h : Framed L u s) : FramedAnswer L u (execMaintArbiterRun s) := by
  unfold execMaintArbiterRun
  repeat (first | with_reducible assumption | (with_reducible apply frame_beginAny <;> first | exact frame_sub rfl hL | skip) | with_reducible apply frame_ifDue | with_reducible exact frame_fault | with_reducible apply frame_next | with_reducible apply frame_foldl | with_reducible apply frame_foldl2 | with_reducible apply frame_foldl1 | split | intro _ | dsimp only)

theorem frame_askAny {L : List Piece} {u : State} (x0 : _) (x1 : _) {s : State} (hL : ∀ p, p ∈ ([.draw, .power, .crock, .host, .pre, .tiles, .cores, .flows, .ingest, .tb, .funnels, .running, .waiting, .trace, .counters] : List Piece) → p ∈ L)  (h : Framed L u s) : Framed L u (askAny x0 x1 s) := by
  unfold askAny
  repeat (first | with_reducible assumption | (with_reducible apply frame_setWait <;> first | exact frame_sub rfl hL | skip) | (with_reducible apply frame_reply <;> first | exact frame_sub rfl hL | skip) | (with_reducible apply frame_beginAny <;> first | exact frame_sub rfl hL | skip) | with_reducible apply frame_foldl | with_reducible apply frame_foldl2 | with_reducible apply frame_foldl1 | split | intro _ | dsimp only | (with_reducible apply frame_mk; iterate 22 (first | exact Or.inr (hL _ (by decide)) | with_reducible exact Or.inl rfl)))

theorem frame_performMaintStart {L : List Piece} {u : State} (x0 : _) {s : State} (hL : ∀ p, p ∈ ([.draw, .power, .crock, .host, .pre, .tiles, .cores, .flows, .ingest, .tb, .funnels, .running, .waiting, .trace, .counters] : List Piece) → p ∈ L)  (h : Framed L u s) : Framed L u (performMaintStart x0 s) := by
  unfold performMaintStart
  repeat (first | with_reducible assumption | (with_reducible apply frame_finish <;> first | exact frame_sub rfl hL | skip) | (with_reducible apply frame_askAny <;> first | exact frame_sub rfl hL | skip) | with_reducible apply frame_foldl | with_reducible apply frame_foldl2 | with_reducible apply frame_foldl1 | split | intro _ | dsimp only)

theorem frame_performSelftest {L : List Piece} {u : State} (x0 : _) {s : State} (hL : ∀ p, p ∈ ([.draw, .power, .crock, .host, .pre, .tiles, .cores, .flows, .ingest, .tb, .funnels, .running, .waiting, .trace, .counters] : List Piece) → p ∈ L)  (h : Framed L u s) : Framed L u (performSelftest x0 s) := by
  unfold performSelftest
  repeat (first | with_reducible assumption | (with_reducible apply frame_finish <;> first | exact frame_sub rfl hL | skip) | (with_reducible apply frame_askAny <;> first | exact frame_sub rfl hL | skip) | with_reducible apply frame_foldl | with_reducible apply frame_foldl2 | with_reducible apply frame_foldl1 | split | intro _ | dsimp only)

theorem frame_performRecal {L : List Piece} {u : State} (x0 : _) {s : State} (hL : ∀ p, p ∈ ([.host, .pre, .tiles, .funnels, .running, .waiting, .trace, .counters] : List Piece) → p ∈ L)  (h : Framed L u s) : Framed L u (performRecal x0 s) := by
  unfold performRecal
  repeat (first | with_reducible assumption | (with_reducible apply frame_finish <;> first | exact frame_sub rfl hL | skip) | (with_reducible apply frame_State_modTile <;> first | exact frame_sub rfl hL | skip) | (with_reducible apply frame_askCmd <;> first | exact frame_sub rfl hL | skip) | with_reducible apply frame_each | with_reducible apply frame_foldl | with_reducible apply frame_foldl2 | with_reducible apply frame_foldl1 | split | intro _ | dsimp only)

theorem frame_performHkSeq {L : List Piece} {u : State} (x0 : _) {s : State} (hL : ∀ p, p ∈ ([.host, .pre, .funnels, .probe, .trace, .counters] : List Piece) → p ∈ L)  (h : Framed L u s) : Framed L u (performHkSeq x0 s) := by
  unfold performHkSeq
  repeat (first | with_reducible assumption | (with_reducible apply frame_finish <;> first | exact frame_sub rfl hL | skip) | (with_reducible apply frame_State_modProbe <;> first | exact frame_sub rfl hL | skip) | with_reducible apply frame_each | with_reducible apply frame_foldl | with_reducible apply frame_foldl2 | with_reducible apply frame_foldl1 | split | intro _ | dsimp only)

theorem frame_beginCapture {L : List Piece} {u : State} (x0 : _) (x1 : _) (x2 : _) {s : State} (hL : ∀ p, p ∈ ([.probe] : List Piece) → p ∈ L)  (h : Framed L u s) : Framed L u (beginCapture x0 x1 x2 s) := by
  unfold beginCapture
  repeat (first | with_reducible assumption | (with_reducible apply frame_State_modProbe <;> first | exact frame_sub rfl hL | skip) | with_reducible apply frame_foldl | with_reducible apply frame_foldl2 | with_reducible apply frame_foldl1 | split | intro _ | dsimp only)

theorem frame_performHkCalZero {L : List Piece} {u : State} (x0 : _) {s : State} (hL : ∀ p, p ∈ ([.host, .pre, .funnels, .probe, .trace, .counters] : List Piece) → p ∈ L)  (h : Framed L u s) : Framed L u (performHkCalZero x0 s) := by
  unfold performHkCalZero
  repeat (first | with_reducible assumption | (with_reducible apply frame_finish <;> first | exact frame_sub rfl hL | skip) | (with_reducible apply frame_beginCapture <;> first | exact frame_sub rfl hL | skip) | with_reducible apply frame_foldl | with_reducible apply frame_foldl2 | with_reducible apply frame_foldl1 | split | intro _ | dsimp only)

theorem frame_performHkCalFull {L : List Piece} {u : State} (x0 : _) {s : State} (hL : ∀ p, p ∈ ([.host, .pre, .funnels, .probe, .trace, .counters] : List Piece) → p ∈ L)  (h : Framed L u s) : Framed L u (performHkCalFull x0 s) := by
  unfold performHkCalFull
  repeat (first | with_reducible assumption | (with_reducible apply frame_finish <;> first | exact frame_sub rfl hL | skip) | (with_reducible apply frame_beginCapture <;> first | exact frame_sub rfl hL | skip) | with_reducible apply frame_foldl | with_reducible apply frame_foldl2 | with_reducible apply frame_foldl1 | split | intro _ | dsimp only)

theorem frame_performAttest {L : List Piece} {u : State} (x0 : _) {s : State} (hL : ∀ p, p ∈ ([.host, .pre, .funnels, .trace, .counters] : List Piece) → p ∈ L)  (h : Framed L u s) : Framed L u (performAttest x0 s) := by
  unfold performAttest
  repeat (first | with_reducible assumption | (with_reducible apply frame_finish <;> first | exact frame_sub rfl hL | skip) | (with_reducible apply frame_State_hostWrite <;> first | exact frame_sub rfl hL | skip) | with_reducible apply frame_foldl | with_reducible apply frame_foldl2 | with_reducible apply frame_foldl1 | split | intro _ | dsimp only)

theorem frame_putSpare {L : List Piece} {u : State} (x0 : _) (x1 : _) {s : State} (hL : ∀ p, p ∈ ([.sec] : List Piece) → p ∈ L)  (h : Framed L u s) : Framed L u (putSpare x0 x1 s) := by
  unfold putSpare
  repeat (first | with_reducible assumption | (with_reducible apply frame_State_modSec <;> first | exact frame_sub rfl hL | skip) | with_reducible apply frame_foldl | with_reducible apply frame_foldl2 | with_reducible apply frame_foldl1 | split | intro _ | dsimp only)

theorem frame_performFwStage {L : List Piece} {u : State} (x0 : _) {s : State} (hL : ∀ p, p ∈ ([.sec, .host, .pre, .funnels, .trace, .counters] : List Piece) → p ∈ L)  (h : Framed L u s) : Framed L u (performFwStage x0 s) := by
  unfold performFwStage
  repeat (first | with_reducible assumption | (with_reducible apply frame_finish <;> first | exact frame_sub rfl hL | skip) | (with_reducible apply frame_putSpare <;> first | exact frame_sub rfl hL | skip) | with_reducible apply frame_foldl | with_reducible apply frame_foldl2 | with_reducible apply frame_foldl1 | split | intro _ | dsimp only)

theorem frame_performFwActivate {L : List Piece} {u : State} (x0 : _) {s : State} (hL : ∀ p, p ∈ ([.sec, .host, .pre, .funnels, .trace, .counters] : List Piece) → p ∈ L)  (h : Framed L u s) : Framed L u (performFwActivate x0 s) := by
  unfold performFwActivate
  repeat (first | with_reducible assumption | (with_reducible apply frame_finish <;> first | exact frame_sub rfl hL | skip) | (with_reducible apply frame_State_modSec <;> first | exact frame_sub rfl hL | skip) | with_reducible apply frame_foldl | with_reducible apply frame_foldl2 | with_reducible apply frame_foldl1 | split | intro _ | dsimp only)

theorem frame_performFaultRead {L : List Piece} {u : State} (x0 : _) {s : State} (hL : ∀ p, p ∈ ([.host, .pre, .funnels, .trace, .counters] : List Piece) → p ∈ L)  (h : Framed L u s) : Framed L u (performFaultRead x0 s) := by
  unfold performFaultRead
  repeat (first | with_reducible assumption | (with_reducible apply frame_finish <;> first | exact frame_sub rfl hL | skip) | (with_reducible apply frame_State_hostWrite <;> first | exact frame_sub rfl hL | skip) | with_reducible apply frame_foldl | with_reducible apply frame_foldl2 | with_reducible apply frame_foldl1 | split | intro _ | dsimp only)

theorem frame_performFaultExport {L : List Piece} {u : State} (x0 : _) {s : State} (hL : ∀ p, p ∈ ([.host, .pre, .funnels, .trace, .counters] : List Piece) → p ∈ L)  (h : Framed L u s) : Framed L u (performFaultExport x0 s) := by
  unfold performFaultExport
  repeat (first | with_reducible assumption | (with_reducible apply frame_finish <;> first | exact frame_sub rfl hL | skip) | (with_reducible apply frame_State_hostWrite <;> first | exact frame_sub rfl hL | skip) | with_reducible apply frame_foldl | with_reducible apply frame_foldl2 | with_reducible apply frame_foldl1 | split | intro _ | dsimp only)

theorem frame_performUnitRetire {L : List Piece} {u : State} (x0 : _) {s : State} (hL : ∀ p, p ∈ ([.draw, .power, .crock, .host, .pre, .tiles, .cores, .flows, .ingest, .tb, .funnels, .running, .waiting, .trace, .counters] : List Piece) → p ∈ L)  (h : Framed L u s) : Framed L u (performUnitRetire x0 s) := by
  unfold performUnitRetire
  repeat (first | with_reducible assumption | (with_reducible apply frame_finish <;> first | exact frame_sub rfl hL | skip) | (with_reducible apply frame_askAny <;> first | exact frame_sub rfl hL | skip) | (with_reducible apply frame_retireUnit <;> first | exact frame_sub rfl hL | skip) | with_reducible apply frame_foldl | with_reducible apply frame_foldl2 | with_reducible apply frame_foldl1 | split | intro _ | dsimp only)

theorem frame_askRestore {L : List Piece} {u : State} (x0 : _) (x1 : _) (x2 : _) {s : State} (hL : ∀ p, p ∈ ([.draw, .host, .pre, .tiles, .cores, .flows, .funnels, .running, .waiting, .trace, .counters] : List Piece) → p ∈ L)  (h : Framed L u s) : Framed L u (askRestore x0 x1 x2 s) := by
  unfold askRestore
  repeat (first | with_reducible assumption | (with_reducible apply frame_askTiles <;> first | exact frame_sub rfl hL | skip) | (with_reducible apply frame_State_modTile <;> first | exact frame_sub rfl hL | skip) | with_reducible apply frame_foldl | with_reducible apply frame_foldl2 | with_reducible apply frame_foldl1 | split | intro _ | dsimp only)

theorem frame_restoreColumn {L : List Piece} {u : State} (x0 : _) (x1 : _) {s : State} (hL : ∀ p, p ∈ ([.draw, .host, .pre, .tiles, .cores, .flows, .funnels, .running, .waiting, .trace, .counters] : List Piece) → p ∈ L)  (h : Framed L u s) : Framed L u (restoreColumn x0 x1 s) := by
  unfold restoreColumn
  repeat (first | with_reducible assumption | (with_reducible apply frame_askRestore <;> first | exact frame_sub rfl hL | skip) | (with_reducible apply frame_finish <;> first | exact frame_sub rfl hL | skip) | with_reducible apply frame_foldl | with_reducible apply frame_foldl2 | with_reducible apply frame_foldl1 | split | intro _ | dsimp only)

theorem frame_restoreTileUnit {L : List Piece} {u : State} (x0 : _) (x1 : _) {s : State} (hL : ∀ p, p ∈ ([.draw, .host, .pre, .tiles, .cores, .flows, .funnels, .running, .waiting, .trace, .counters] : List Piece) → p ∈ L)  (h : Framed L u s) : Framed L u (restoreTileUnit x0 x1 s) := by
  unfold restoreTileUnit
  repeat (first | with_reducible assumption | (with_reducible apply frame_askRestore <;> first | exact frame_sub rfl hL | skip) | (with_reducible apply frame_finish <;> first | exact frame_sub rfl hL | skip) | with_reducible apply frame_foldl | with_reducible apply frame_foldl2 | with_reducible apply frame_foldl1 | split | intro _ | dsimp only)

theorem frame_restoreCore {L : List Piece} {u : State} (x0 : _) (x1 : _) {s : State} (hL : ∀ p, p ∈ ([.draw, .power, .crock, .host, .pre, .tiles, .cores, .flows, .ingest, .tb, .funnels, .running, .waiting, .trace, .counters] : List Piece) → p ∈ L)  (h : Framed L u s) : Framed L u (restoreCore x0 x1 s) := by
  unfold restoreCore
  repeat (first | with_reducible assumption | (with_reducible apply frame_askAny <;> first | exact frame_sub rfl hL | skip) | (with_reducible apply frame_State_modCore <;> first | exact frame_sub rfl hL | skip) | (with_reducible apply frame_finish <;> first | exact frame_sub rfl hL | skip) | with_reducible apply frame_foldl | with_reducible apply frame_foldl2 | with_reducible apply frame_foldl1 | split | intro _ | dsimp only)

theorem frame_restoreLane {L : List Piece} {u : State} (x0 : _) (x1 : _) {s : State} (hL : ∀ p, p ∈ ([.crock, .host, .pre, .ingest, .funnels, .trace, .counters] : List Piece) → p ∈ L)  (h : Framed L u s) : Framed L u (restoreLane x0 x1 s) := by
  unfold restoreLane
  repeat (first | with_reducible assumption | (with_reducible apply frame_State_modMirror <;> first | exact frame_sub rfl hL | skip) | (with_reducible apply frame_finish <;> first | exact frame_sub rfl hL | skip) | (with_reducible apply frame_State_modIngest <;> first | exact frame_sub rfl hL | skip) | with_reducible apply frame_foldl | with_reducible apply frame_foldl2 | with_reducible apply frame_foldl1 | split | intro _ | dsimp only)

theorem frame_performUnitRestore {L : List Piece} {u : State} (x0 : _) {s : State} (hL : ∀ p, p ∈ ([.draw, .power, .crock, .host, .pre, .tiles, .cores, .flows, .ingest, .tb, .funnels, .running, .waiting, .trace, .counters] : List Piece) → p ∈ L)  (h : Framed L u s) : Framed L u (performUnitRestore x0 s) := by
  unfold performUnitRestore
  repeat (first | with_reducible assumption | (with_reducible apply frame_finish <;> first | exact frame_sub rfl hL | skip) | (with_reducible apply frame_restoreColumn <;> first | exact frame_sub rfl hL | skip) | (with_reducible apply frame_restoreTileUnit <;> first | exact frame_sub rfl hL | skip) | (with_reducible apply frame_restoreCore <;> first | exact frame_sub rfl hL | skip) | (with_reducible apply frame_restoreLane <;> first | exact frame_sub rfl hL | skip) | with_reducible apply frame_foldl | with_reducible apply frame_foldl2 | with_reducible apply frame_foldl1 | split | intro _ | dsimp only)

theorem frame_performNetPortSet {L : List Piece} {u : State} (x0 : _) {s : State} (hL : ∀ p, p ∈ ([.host, .pre, .tiles, .ingest, .funnels, .trace, .counters] : List Piece) → p ∈ L)  (h : Framed L u s) : Framed L u (performNetPortSet x0 s) := by
  unfold performNetPortSet
  repeat (first | with_reducible assumption | (with_reducible apply frame_performStaged <;> first | exact frame_sub rfl hL | skip) | with_reducible apply frame_foldl | with_reducible apply frame_foldl2 | with_reducible apply frame_foldl1 | split | intro _ | dsimp only)

theorem frame_performNetPeerSet {L : List Piece} {u : State} (x0 : _) {s : State} (hL : ∀ p, p ∈ ([.host, .pre, .tiles, .ingest, .funnels, .trace, .counters] : List Piece) → p ∈ L)  (h : Framed L u s) : Framed L u (performNetPeerSet x0 s) := by
  unfold performNetPeerSet
  repeat (first | with_reducible assumption | (with_reducible apply frame_performStaged <;> first | exact frame_sub rfl hL | skip) | with_reducible apply frame_foldl | with_reducible apply frame_foldl2 | with_reducible apply frame_foldl1 | split | intro _ | dsimp only)

theorem frame_performNetStatus {L : List Piece} {u : State} (x0 : _) {s : State} (hL : ∀ p, p ∈ ([.host, .pre, .funnels, .trace, .counters] : List Piece) → p ∈ L)  (h : Framed L u s) : Framed L u (performNetStatus x0 s) := by
  unfold performNetStatus
  repeat (first | with_reducible assumption | (with_reducible apply frame_finish <;> first | exact frame_sub rfl hL | skip) | with_reducible apply frame_foldl | with_reducible apply frame_foldl2 | with_reducible apply frame_foldl1 | split | intro _ | dsimp only)

theorem frame_performAny {L : List Piece} {u : State} (x0 : _) {s : State} (hL : ∀ p, p ∈ ([.draw, .power, .crock, .sec, .host, .pre, .tiles, .cores, .flows, .ingest, .tb, .funnels, .running, .waiting, .net, .probe, .trace, .counters, .pkg] : List Piece) → p ∈ L)  (h : Framed L u s) : Framed L u (performAny x0 s) := by
  unfold performAny
  repeat (first | with_reducible assumption | (with_reducible apply frame_performNop <;> first | exact frame_sub rfl hL | skip) | (with_reducible apply frame_performGetCaps <;> first | exact frame_sub rfl hL | skip) | (with_reducible apply frame_performSetLevel <;> first | exact frame_sub rfl hL | skip) | (with_reducible apply frame_performCommit <;> first | exact frame_sub rfl hL | skip) | (with_reducible apply frame_performCmdCancel <;> first | exact frame_sub rfl hL | skip) | (with_reducible apply frame_performStageDiscard <;> first | exact frame_sub rfl hL | skip) | (with_reducible apply frame_performModelLoad <;> first | exact frame_sub rfl hL | skip) | (with_reducible apply frame_performTileProgram <;> first | exact frame_sub rfl hL | skip) | (with_reducible apply frame_performTileVerify <;> first | exact frame_sub rfl hL | skip) | (with_reducible apply frame_performModelCommit <;> first | exact frame_sub rfl hL | skip) | (with_reducible apply frame_performModelRetire <;> first | exact frame_sub rfl hL | skip) | (with_reducible apply frame_performTileConfig <;> first | exact frame_sub rfl hL | skip) | (with_reducible apply frame_performFlowOpen <;> first | exact frame_sub rfl hL | skip) | (with_reducible apply frame_performFlowBind <;> first | exact frame_sub rfl hL | skip) | (with_reducible apply frame_performFlowClose <;> first | exact frame_sub rfl hL | skip) | (with_reducible apply frame_performFlowSnapshot <;> first | exact frame_sub rfl hL | skip) | (with_reducible apply frame_performKrnSubmit <;> first | exact frame_sub rfl hL | skip) | (with_reducible apply frame_performKrnDefine <;> first | exact frame_sub rfl hL | skip) | (with_reducible apply frame_performKrnRelease <;> first | exact frame_sub rfl hL | skip) | (with_reducible apply frame_performSyncRead <;> first | exact frame_sub rfl hL | skip) | (with_reducible apply frame_performSyncSet <;> first | exact frame_sub rfl hL | skip) | (with_reducible apply frame_performTrigPulse <;> first | exact frame_sub rfl hL | skip) | (with_reducible apply frame_performRuleSet <;> first | exact frame_sub rfl hL | skip) | (with_reducible apply frame_performRuleClear <;> first | exact frame_sub rfl hL | skip) | (with_reducible apply frame_performTickRead <;> first | exact frame_sub rfl hL | skip) | (with_reducible apply frame_performIgChanSet <;> first | exact frame_sub rfl hL | skip) | (with_reducible apply frame_performIgDecSet <;> first | exact frame_sub rfl hL | skip) | (with_reducible apply frame_performIgCoefLoad <;> first | exact frame_sub rfl hL | skip) | (with_reducible apply frame_performMaintStart <;> first | exact frame_sub rfl hL | skip) | (with_reducible apply frame_performSelftest <;> first | exact frame_sub rfl hL | skip) | (with_reducible apply frame_performRecal <;> first | exact frame_sub rfl hL | skip) | (with_reducible apply frame_performHkSeq <;> first | exact frame_sub rfl hL | skip) | (with_reducible apply frame_performHkCalZero <;> first | exact frame_sub rfl hL | skip) | (with_reducible apply frame_performHkCalFull <;> first | exact frame_sub rfl hL | skip) | (with_reducible apply frame_performAttest <;> first | exact frame_sub rfl hL | skip) | (with_reducible apply frame_performFwStage <;> first | exact frame_sub rfl hL | skip) | (with_reducible apply frame_performFwActivate <;> first | exact frame_sub rfl hL | skip) | (with_reducible apply frame_performFaultRead <;> first | exact frame_sub rfl hL | skip) | (with_reducible apply frame_performFaultExport <;> first | exact frame_sub rfl hL | skip) | (with_reducible apply frame_performUnitRetire <;> first | exact frame_sub rfl hL | skip) | (with_reducible apply frame_performUnitRestore <;> first | exact frame_sub rfl hL | skip) | (with_reducible apply frame_performNetPortSet <;> first | exact frame_sub rfl hL | skip) | (with_reducible apply frame_performNetPeerSet <;> first | exact frame_sub rfl hL | skip) | (with_reducible apply frame_performNetStatus <;> first | exact frame_sub rfl hL | skip) | with_reducible apply frame_foldl | with_reducible apply frame_foldl2 | with_reducible apply frame_foldl1 | split | intro _ | dsimp only)

theorem frame_submit {L : List Piece} {u : State} (x0 : _) (x1 : _) (x2 : _) {s : State} (hL : ∀ p, p ∈ ([.draw, .power, .crock, .sec, .host, .pre, .tiles, .cores, .flows, .ingest, .tb, .funnels, .running, .waiting, .net, .probe, .trace, .counters, .pkg] : List Piece) → p ∈ L)  (h : Framed L u s) : FramedAnswer L u (submit x0 x1 x2 s) := by
  unfold submit
  repeat (first | with_reducible assumption | (with_reducible apply frame_take <;> first | exact frame_sub rfl hL | skip) | (with_reducible apply frame_performAny <;> first | exact frame_sub rfl hL | skip) | with_reducible apply frame_checked | with_reducible exact frame_fault | with_reducible apply frame_next | with_reducible apply frame_foldl | with_reducible apply frame_foldl2 | with_reducible apply frame_foldl1 | split | intro _ | dsimp only)

theorem frame_execNop {L : List Piece} {u : State} (x0 : _) (x1 : _) {s : State} (hL : ∀ p, p ∈ ([.draw, .power, .crock, .sec, .host, .pre, .tiles, .cores, .flows, .ingest, .tb, .funnels, .running, .waiting, .net, .probe, .trace, .counters, .pkg] : List Piece) → p ∈ L)  (h : Framed L u s) : FramedAnswer L u (execNop x0 x1 s) := by
  unfold execNop
  repeat (first | with_reducible assumption | (with_reducible apply frame_submit <;> first | exact frame_sub rfl hL | skip) | with_reducible exact frame_fault | with_reducible apply frame_next | with_reducible apply frame_foldl | with_reducible apply frame_foldl2 | with_reducible apply frame_foldl1 | split | intro _ | dsimp only)

theorem frame_execGetCaps {L : List Piece} {u : State} (x0 : _) (x1 : _) {s : State} (hL : ∀ p, p ∈ ([.draw, .power, .crock, .sec, .host, .pre, .tiles, .cores, .flows, .ingest, .tb, .funnels, .running, .waiting, .net, .probe, .trace, .counters, .pkg] : List Piece) → p ∈ L)  (h : Framed L u s) : FramedAnswer L u (execGetCaps x0 x1 s) := by
  unfold execGetCaps
  repeat (first | with_reducible assumption | (with_reducible apply frame_submit <;> first | exact frame_sub rfl hL | skip) | with_reducible exact frame_fault | with_reducible apply frame_next | with_reducible apply frame_foldl | with_reducible apply frame_foldl2 | with_reducible apply frame_foldl1 | split | intro _ | dsimp only)

theorem frame_execSetLevel {L : List Piece} {u : State} (x0 : _) (x1 : _) {s : State} (hL : ∀ p, p ∈ ([.draw, .power, .crock, .sec, .host, .pre, .tiles, .cores, .flows, .ingest, .tb, .funnels, .running, .waiting, .net, .probe, .trace, .counters, .pkg] : List Piece) → p ∈ L)  (h : Framed L u s) : FramedAnswer L u (execSetLevel x0 x1 s) := by
  unfold execSetLevel
  repeat (first | with_reducible assumption | (with_reducible apply frame_submit <;> first | exact frame_sub rfl hL | skip) | with_reducible exact frame_fault | with_reducible apply frame_next | with_reducible apply frame_foldl | with_reducible apply frame_foldl2 | with_reducible apply frame_foldl1 | split | intro _ | dsimp only)

theorem frame_execCommit {L : List Piece} {u : State} (x0 : _) (x1 : _) {s : State} (hL : ∀ p, p ∈ ([.draw, .power, .crock, .sec, .host, .pre, .tiles, .cores, .flows, .ingest, .tb, .funnels, .running, .waiting, .net, .probe, .trace, .counters, .pkg] : List Piece) → p ∈ L)  (h : Framed L u s) : FramedAnswer L u (execCommit x0 x1 s) := by
  unfold execCommit
  repeat (first | with_reducible assumption | (with_reducible apply frame_submit <;> first | exact frame_sub rfl hL | skip) | with_reducible exact frame_fault | with_reducible apply frame_next | with_reducible apply frame_foldl | with_reducible apply frame_foldl2 | with_reducible apply frame_foldl1 | split | intro _ | dsimp only)

theorem frame_execCmdCancel {L : List Piece} {u : State} (x0 : _) (x1 : _) {s : State} (hL : ∀ p, p ∈ ([.draw, .power, .crock, .sec, .host, .pre, .tiles, .cores, .flows, .ingest, .tb, .funnels, .running, .waiting, .net, .probe, .trace, .counters, .pkg] : List Piece) → p ∈ L)  (h : Framed L u s) : FramedAnswer L u (execCmdCancel x0 x1 s) := by
  unfold execCmdCancel
  repeat (first | with_reducible assumption | (with_reducible apply frame_submit <;> first | exact frame_sub rfl hL | skip) | with_reducible exact frame_fault | with_reducible apply frame_next | with_reducible apply frame_foldl | with_reducible apply frame_foldl2 | with_reducible apply frame_foldl1 | split | intro _ | dsimp only)

theorem frame_execStageDiscard {L : List Piece} {u : State} (x0 : _) (x1 : _) {s : State} (hL : ∀ p, p ∈ ([.draw, .power, .crock, .sec, .host, .pre, .tiles, .cores, .flows, .ingest, .tb, .funnels, .running, .waiting, .net, .probe, .trace, .counters, .pkg] : List Piece) → p ∈ L)  (h : Framed L u s) : FramedAnswer L u (execStageDiscard x0 x1 s) := by
  unfold execStageDiscard
  repeat (first | with_reducible assumption | (with_reducible apply frame_submit <;> first | exact frame_sub rfl hL | skip) | with_reducible exact frame_fault | with_reducible apply frame_next | with_reducible apply frame_foldl | with_reducible apply frame_foldl2 | with_reducible apply frame_foldl1 | split | intro _ | dsimp only)

theorem frame_execModelLoad {L : List Piece} {u : State} (x0 : _) (x1 : _) {s : State} (hL : ∀ p, p ∈ ([.draw, .power, .crock, .sec, .host, .pre, .tiles, .cores, .flows, .ingest, .tb, .funnels, .running, .waiting, .net, .probe, .trace, .counters, .pkg] : List Piece) → p ∈ L)  (h : Framed L u s) : FramedAnswer L u (execModelLoad x0 x1 s) := by
  unfold execModelLoad
  repeat (first | with_reducible assumption | (with_reducible apply frame_submit <;> first | exact frame_sub rfl hL | skip) | with_reducible exact frame_fault | with_reducible apply frame_next | with_reducible apply frame_foldl | with_reducible apply frame_foldl2 | with_reducible apply frame_foldl1 | split | intro _ | dsimp only)

theorem frame_execTileProgram {L : List Piece} {u : State} (x0 : _) (x1 : _) {s : State} (hL : ∀ p, p ∈ ([.draw, .power, .crock, .sec, .host, .pre, .tiles, .cores, .flows, .ingest, .tb, .funnels, .running, .waiting, .net, .probe, .trace, .counters, .pkg] : List Piece) → p ∈ L)  (h : Framed L u s) : FramedAnswer L u (execTileProgram x0 x1 s) := by
  unfold execTileProgram
  repeat (first | with_reducible assumption | (with_reducible apply frame_submit <;> first | exact frame_sub rfl hL | skip) | with_reducible exact frame_fault | with_reducible apply frame_next | with_reducible apply frame_foldl | with_reducible apply frame_foldl2 | with_reducible apply frame_foldl1 | split | intro _ | dsimp only)

theorem frame_execTileVerify {L : List Piece} {u : State} (x0 : _) (x1 : _) {s : State} (hL : ∀ p, p ∈ ([.draw, .power, .crock, .sec, .host, .pre, .tiles, .cores, .flows, .ingest, .tb, .funnels, .running, .waiting, .net, .probe, .trace, .counters, .pkg] : List Piece) → p ∈ L)  (h : Framed L u s) : FramedAnswer L u (execTileVerify x0 x1 s) := by
  unfold execTileVerify
  repeat (first | with_reducible assumption | (with_reducible apply frame_submit <;> first | exact frame_sub rfl hL | skip) | with_reducible exact frame_fault | with_reducible apply frame_next | with_reducible apply frame_foldl | with_reducible apply frame_foldl2 | with_reducible apply frame_foldl1 | split | intro _ | dsimp only)

theorem frame_execModelCommit {L : List Piece} {u : State} (x0 : _) (x1 : _) {s : State} (hL : ∀ p, p ∈ ([.draw, .power, .crock, .sec, .host, .pre, .tiles, .cores, .flows, .ingest, .tb, .funnels, .running, .waiting, .net, .probe, .trace, .counters, .pkg] : List Piece) → p ∈ L)  (h : Framed L u s) : FramedAnswer L u (execModelCommit x0 x1 s) := by
  unfold execModelCommit
  repeat (first | with_reducible assumption | (with_reducible apply frame_submit <;> first | exact frame_sub rfl hL | skip) | with_reducible exact frame_fault | with_reducible apply frame_next | with_reducible apply frame_foldl | with_reducible apply frame_foldl2 | with_reducible apply frame_foldl1 | split | intro _ | dsimp only)

theorem frame_execModelRetire {L : List Piece} {u : State} (x0 : _) (x1 : _) {s : State} (hL : ∀ p, p ∈ ([.draw, .power, .crock, .sec, .host, .pre, .tiles, .cores, .flows, .ingest, .tb, .funnels, .running, .waiting, .net, .probe, .trace, .counters, .pkg] : List Piece) → p ∈ L)  (h : Framed L u s) : FramedAnswer L u (execModelRetire x0 x1 s) := by
  unfold execModelRetire
  repeat (first | with_reducible assumption | (with_reducible apply frame_submit <;> first | exact frame_sub rfl hL | skip) | with_reducible exact frame_fault | with_reducible apply frame_next | with_reducible apply frame_foldl | with_reducible apply frame_foldl2 | with_reducible apply frame_foldl1 | split | intro _ | dsimp only)

theorem frame_execTileConfig {L : List Piece} {u : State} (x0 : _) (x1 : _) {s : State} (hL : ∀ p, p ∈ ([.draw, .power, .crock, .sec, .host, .pre, .tiles, .cores, .flows, .ingest, .tb, .funnels, .running, .waiting, .net, .probe, .trace, .counters, .pkg] : List Piece) → p ∈ L)  (h : Framed L u s) : FramedAnswer L u (execTileConfig x0 x1 s) := by
  unfold execTileConfig
  repeat (first | with_reducible assumption | (with_reducible apply frame_submit <;> first | exact frame_sub rfl hL | skip) | with_reducible exact frame_fault | with_reducible apply frame_next | with_reducible apply frame_foldl | with_reducible apply frame_foldl2 | with_reducible apply frame_foldl1 | split | intro _ | dsimp only)

theorem frame_execFlowOpen {L : List Piece} {u : State} (x0 : _) (x1 : _) {s : State} (hL : ∀ p, p ∈ ([.draw, .power, .crock, .sec, .host, .pre, .tiles, .cores, .flows, .ingest, .tb, .funnels, .running, .waiting, .net, .probe, .trace, .counters, .pkg] : List Piece) → p ∈ L)  (h : Framed L u s) : FramedAnswer L u (execFlowOpen x0 x1 s) := by
  unfold execFlowOpen
  repeat (first | with_reducible assumption | (with_reducible apply frame_submit <;> first | exact frame_sub rfl hL | skip) | with_reducible exact frame_fault | with_reducible apply frame_next | with_reducible apply frame_foldl | with_reducible apply frame_foldl2 | with_reducible apply frame_foldl1 | split | intro _ | dsimp only)

theorem frame_execFlowBind {L : List Piece} {u : State} (x0 : _) (x1 : _) {s : State} (hL : ∀ p, p ∈ ([.draw, .power, .crock, .sec, .host, .pre, .tiles, .cores, .flows, .ingest, .tb, .funnels, .running, .waiting, .net, .probe, .trace, .counters, .pkg] : List Piece) → p ∈ L)  (h : Framed L u s) : FramedAnswer L u (execFlowBind x0 x1 s) := by
  unfold execFlowBind
  repeat (first | with_reducible assumption | (with_reducible apply frame_submit <;> first | exact frame_sub rfl hL | skip) | with_reducible exact frame_fault | with_reducible apply frame_next | with_reducible apply frame_foldl | with_reducible apply frame_foldl2 | with_reducible apply frame_foldl1 | split | intro _ | dsimp only)

theorem frame_execFlowClose {L : List Piece} {u : State} (x0 : _) (x1 : _) {s : State} (hL : ∀ p, p ∈ ([.draw, .power, .crock, .sec, .host, .pre, .tiles, .cores, .flows, .ingest, .tb, .funnels, .running, .waiting, .net, .probe, .trace, .counters, .pkg] : List Piece) → p ∈ L)  (h : Framed L u s) : FramedAnswer L u (execFlowClose x0 x1 s) := by
  unfold execFlowClose
  repeat (first | with_reducible assumption | (with_reducible apply frame_submit <;> first | exact frame_sub rfl hL | skip) | with_reducible exact frame_fault | with_reducible apply frame_next | with_reducible apply frame_foldl | with_reducible apply frame_foldl2 | with_reducible apply frame_foldl1 | split | intro _ | dsimp only)

theorem frame_execFlowSnapshot {L : List Piece} {u : State} (x0 : _) (x1 : _) {s : State} (hL : ∀ p, p ∈ ([.draw, .power, .crock, .sec, .host, .pre, .tiles, .cores, .flows, .ingest, .tb, .funnels, .running, .waiting, .net, .probe, .trace, .counters, .pkg] : List Piece) → p ∈ L)  (h : Framed L u s) : FramedAnswer L u (execFlowSnapshot x0 x1 s) := by
  unfold execFlowSnapshot
  repeat (first | with_reducible assumption | (with_reducible apply frame_submit <;> first | exact frame_sub rfl hL | skip) | with_reducible exact frame_fault | with_reducible apply frame_next | with_reducible apply frame_foldl | with_reducible apply frame_foldl2 | with_reducible apply frame_foldl1 | split | intro _ | dsimp only)

theorem frame_execKrnSubmit {L : List Piece} {u : State} (x0 : _) (x1 : _) {s : State} (hL : ∀ p, p ∈ ([.draw, .power, .crock, .sec, .host, .pre, .tiles, .cores, .flows, .ingest, .tb, .funnels, .running, .waiting, .net, .probe, .trace, .counters, .pkg] : List Piece) → p ∈ L)  (h : Framed L u s) : FramedAnswer L u (execKrnSubmit x0 x1 s) := by
  unfold execKrnSubmit
  repeat (first | with_reducible assumption | (with_reducible apply frame_submit <;> first | exact frame_sub rfl hL | skip) | with_reducible exact frame_fault | with_reducible apply frame_next | with_reducible apply frame_foldl | with_reducible apply frame_foldl2 | with_reducible apply frame_foldl1 | split | intro _ | dsimp only)

theorem frame_execKrnDefine {L : List Piece} {u : State} (x0 : _) (x1 : _) {s : State} (hL : ∀ p, p ∈ ([.draw, .power, .crock, .sec, .host, .pre, .tiles, .cores, .flows, .ingest, .tb, .funnels, .running, .waiting, .net, .probe, .trace, .counters, .pkg] : List Piece) → p ∈ L)  (h : Framed L u s) : FramedAnswer L u (execKrnDefine x0 x1 s) := by
  unfold execKrnDefine
  repeat (first | with_reducible assumption | (with_reducible apply frame_submit <;> first | exact frame_sub rfl hL | skip) | with_reducible exact frame_fault | with_reducible apply frame_next | with_reducible apply frame_foldl | with_reducible apply frame_foldl2 | with_reducible apply frame_foldl1 | split | intro _ | dsimp only)

theorem frame_execKrnRelease {L : List Piece} {u : State} (x0 : _) (x1 : _) {s : State} (hL : ∀ p, p ∈ ([.draw, .power, .crock, .sec, .host, .pre, .tiles, .cores, .flows, .ingest, .tb, .funnels, .running, .waiting, .net, .probe, .trace, .counters, .pkg] : List Piece) → p ∈ L)  (h : Framed L u s) : FramedAnswer L u (execKrnRelease x0 x1 s) := by
  unfold execKrnRelease
  repeat (first | with_reducible assumption | (with_reducible apply frame_submit <;> first | exact frame_sub rfl hL | skip) | with_reducible exact frame_fault | with_reducible apply frame_next | with_reducible apply frame_foldl | with_reducible apply frame_foldl2 | with_reducible apply frame_foldl1 | split | intro _ | dsimp only)

theorem frame_execSyncRead {L : List Piece} {u : State} (x0 : _) (x1 : _) {s : State} (hL : ∀ p, p ∈ ([.draw, .power, .crock, .sec, .host, .pre, .tiles, .cores, .flows, .ingest, .tb, .funnels, .running, .waiting, .net, .probe, .trace, .counters, .pkg] : List Piece) → p ∈ L)  (h : Framed L u s) : FramedAnswer L u (execSyncRead x0 x1 s) := by
  unfold execSyncRead
  repeat (first | with_reducible assumption | (with_reducible apply frame_submit <;> first | exact frame_sub rfl hL | skip) | with_reducible exact frame_fault | with_reducible apply frame_next | with_reducible apply frame_foldl | with_reducible apply frame_foldl2 | with_reducible apply frame_foldl1 | split | intro _ | dsimp only)

theorem frame_execSyncSet {L : List Piece} {u : State} (x0 : _) (x1 : _) {s : State} (hL : ∀ p, p ∈ ([.draw, .power, .crock, .sec, .host, .pre, .tiles, .cores, .flows, .ingest, .tb, .funnels, .running, .waiting, .net, .probe, .trace, .counters, .pkg] : List Piece) → p ∈ L)  (h : Framed L u s) : FramedAnswer L u (execSyncSet x0 x1 s) := by
  unfold execSyncSet
  repeat (first | with_reducible assumption | (with_reducible apply frame_submit <;> first | exact frame_sub rfl hL | skip) | with_reducible exact frame_fault | with_reducible apply frame_next | with_reducible apply frame_foldl | with_reducible apply frame_foldl2 | with_reducible apply frame_foldl1 | split | intro _ | dsimp only)

theorem frame_execTrigPulse {L : List Piece} {u : State} (x0 : _) (x1 : _) {s : State} (hL : ∀ p, p ∈ ([.draw, .power, .crock, .sec, .host, .pre, .tiles, .cores, .flows, .ingest, .tb, .funnels, .running, .waiting, .net, .probe, .trace, .counters, .pkg] : List Piece) → p ∈ L)  (h : Framed L u s) : FramedAnswer L u (execTrigPulse x0 x1 s) := by
  unfold execTrigPulse
  repeat (first | with_reducible assumption | (with_reducible apply frame_submit <;> first | exact frame_sub rfl hL | skip) | with_reducible exact frame_fault | with_reducible apply frame_next | with_reducible apply frame_foldl | with_reducible apply frame_foldl2 | with_reducible apply frame_foldl1 | split | intro _ | dsimp only)

theorem frame_execRuleSet {L : List Piece} {u : State} (x0 : _) (x1 : _) {s : State} (hL : ∀ p, p ∈ ([.draw, .power, .crock, .sec, .host, .pre, .tiles, .cores, .flows, .ingest, .tb, .funnels, .running, .waiting, .net, .probe, .trace, .counters, .pkg] : List Piece) → p ∈ L)  (h : Framed L u s) : FramedAnswer L u (execRuleSet x0 x1 s) := by
  unfold execRuleSet
  repeat (first | with_reducible assumption | (with_reducible apply frame_submit <;> first | exact frame_sub rfl hL | skip) | with_reducible exact frame_fault | with_reducible apply frame_next | with_reducible apply frame_foldl | with_reducible apply frame_foldl2 | with_reducible apply frame_foldl1 | split | intro _ | dsimp only)

theorem frame_execRuleClear {L : List Piece} {u : State} (x0 : _) (x1 : _) {s : State} (hL : ∀ p, p ∈ ([.draw, .power, .crock, .sec, .host, .pre, .tiles, .cores, .flows, .ingest, .tb, .funnels, .running, .waiting, .net, .probe, .trace, .counters, .pkg] : List Piece) → p ∈ L)  (h : Framed L u s) : FramedAnswer L u (execRuleClear x0 x1 s) := by
  unfold execRuleClear
  repeat (first | with_reducible assumption | (with_reducible apply frame_submit <;> first | exact frame_sub rfl hL | skip) | with_reducible exact frame_fault | with_reducible apply frame_next | with_reducible apply frame_foldl | with_reducible apply frame_foldl2 | with_reducible apply frame_foldl1 | split | intro _ | dsimp only)

theorem frame_execTickRead {L : List Piece} {u : State} (x0 : _) (x1 : _) {s : State} (hL : ∀ p, p ∈ ([.draw, .power, .crock, .sec, .host, .pre, .tiles, .cores, .flows, .ingest, .tb, .funnels, .running, .waiting, .net, .probe, .trace, .counters, .pkg] : List Piece) → p ∈ L)  (h : Framed L u s) : FramedAnswer L u (execTickRead x0 x1 s) := by
  unfold execTickRead
  repeat (first | with_reducible assumption | (with_reducible apply frame_submit <;> first | exact frame_sub rfl hL | skip) | with_reducible exact frame_fault | with_reducible apply frame_next | with_reducible apply frame_foldl | with_reducible apply frame_foldl2 | with_reducible apply frame_foldl1 | split | intro _ | dsimp only)

theorem frame_execIgChanSet {L : List Piece} {u : State} (x0 : _) (x1 : _) {s : State} (hL : ∀ p, p ∈ ([.draw, .power, .crock, .sec, .host, .pre, .tiles, .cores, .flows, .ingest, .tb, .funnels, .running, .waiting, .net, .probe, .trace, .counters, .pkg] : List Piece) → p ∈ L)  (h : Framed L u s) : FramedAnswer L u (execIgChanSet x0 x1 s) := by
  unfold execIgChanSet
  repeat (first | with_reducible assumption | (with_reducible apply frame_submit <;> first | exact frame_sub rfl hL | skip) | with_reducible exact frame_fault | with_reducible apply frame_next | with_reducible apply frame_foldl | with_reducible apply frame_foldl2 | with_reducible apply frame_foldl1 | split | intro _ | dsimp only)

theorem frame_execIgDecSet {L : List Piece} {u : State} (x0 : _) (x1 : _) {s : State} (hL : ∀ p, p ∈ ([.draw, .power, .crock, .sec, .host, .pre, .tiles, .cores, .flows, .ingest, .tb, .funnels, .running, .waiting, .net, .probe, .trace, .counters, .pkg] : List Piece) → p ∈ L)  (h : Framed L u s) : FramedAnswer L u (execIgDecSet x0 x1 s) := by
  unfold execIgDecSet
  repeat (first | with_reducible assumption | (with_reducible apply frame_submit <;> first | exact frame_sub rfl hL | skip) | with_reducible exact frame_fault | with_reducible apply frame_next | with_reducible apply frame_foldl | with_reducible apply frame_foldl2 | with_reducible apply frame_foldl1 | split | intro _ | dsimp only)

theorem frame_execIgCoefLoad {L : List Piece} {u : State} (x0 : _) (x1 : _) {s : State} (hL : ∀ p, p ∈ ([.draw, .power, .crock, .sec, .host, .pre, .tiles, .cores, .flows, .ingest, .tb, .funnels, .running, .waiting, .net, .probe, .trace, .counters, .pkg] : List Piece) → p ∈ L)  (h : Framed L u s) : FramedAnswer L u (execIgCoefLoad x0 x1 s) := by
  unfold execIgCoefLoad
  repeat (first | with_reducible assumption | (with_reducible apply frame_submit <;> first | exact frame_sub rfl hL | skip) | with_reducible exact frame_fault | with_reducible apply frame_next | with_reducible apply frame_foldl | with_reducible apply frame_foldl2 | with_reducible apply frame_foldl1 | split | intro _ | dsimp only)

theorem frame_execMaintStart {L : List Piece} {u : State} (x0 : _) (x1 : _) {s : State} (hL : ∀ p, p ∈ ([.draw, .power, .crock, .sec, .host, .pre, .tiles, .cores, .flows, .ingest, .tb, .funnels, .running, .waiting, .net, .probe, .trace, .counters, .pkg] : List Piece) → p ∈ L)  (h : Framed L u s) : FramedAnswer L u (execMaintStart x0 x1 s) := by
  unfold execMaintStart
  repeat (first | with_reducible assumption | (with_reducible apply frame_submit <;> first | exact frame_sub rfl hL | skip) | with_reducible exact frame_fault | with_reducible apply frame_next | with_reducible apply frame_foldl | with_reducible apply frame_foldl2 | with_reducible apply frame_foldl1 | split | intro _ | dsimp only)

theorem frame_execSelftest {L : List Piece} {u : State} (x0 : _) (x1 : _) {s : State} (hL : ∀ p, p ∈ ([.draw, .power, .crock, .sec, .host, .pre, .tiles, .cores, .flows, .ingest, .tb, .funnels, .running, .waiting, .net, .probe, .trace, .counters, .pkg] : List Piece) → p ∈ L)  (h : Framed L u s) : FramedAnswer L u (execSelftest x0 x1 s) := by
  unfold execSelftest
  repeat (first | with_reducible assumption | (with_reducible apply frame_submit <;> first | exact frame_sub rfl hL | skip) | with_reducible exact frame_fault | with_reducible apply frame_next | with_reducible apply frame_foldl | with_reducible apply frame_foldl2 | with_reducible apply frame_foldl1 | split | intro _ | dsimp only)

theorem frame_execRecal {L : List Piece} {u : State} (x0 : _) (x1 : _) {s : State} (hL : ∀ p, p ∈ ([.draw, .power, .crock, .sec, .host, .pre, .tiles, .cores, .flows, .ingest, .tb, .funnels, .running, .waiting, .net, .probe, .trace, .counters, .pkg] : List Piece) → p ∈ L)  (h : Framed L u s) : FramedAnswer L u (execRecal x0 x1 s) := by
  unfold execRecal
  repeat (first | with_reducible assumption | (with_reducible apply frame_submit <;> first | exact frame_sub rfl hL | skip) | with_reducible exact frame_fault | with_reducible apply frame_next | with_reducible apply frame_foldl | with_reducible apply frame_foldl2 | with_reducible apply frame_foldl1 | split | intro _ | dsimp only)

theorem frame_execHkSeq {L : List Piece} {u : State} (x0 : _) (x1 : _) {s : State} (hL : ∀ p, p ∈ ([.draw, .power, .crock, .sec, .host, .pre, .tiles, .cores, .flows, .ingest, .tb, .funnels, .running, .waiting, .net, .probe, .trace, .counters, .pkg] : List Piece) → p ∈ L)  (h : Framed L u s) : FramedAnswer L u (execHkSeq x0 x1 s) := by
  unfold execHkSeq
  repeat (first | with_reducible assumption | (with_reducible apply frame_submit <;> first | exact frame_sub rfl hL | skip) | with_reducible exact frame_fault | with_reducible apply frame_next | with_reducible apply frame_foldl | with_reducible apply frame_foldl2 | with_reducible apply frame_foldl1 | split | intro _ | dsimp only)

theorem frame_execHkCalZero {L : List Piece} {u : State} (x0 : _) (x1 : _) {s : State} (hL : ∀ p, p ∈ ([.draw, .power, .crock, .sec, .host, .pre, .tiles, .cores, .flows, .ingest, .tb, .funnels, .running, .waiting, .net, .probe, .trace, .counters, .pkg] : List Piece) → p ∈ L)  (h : Framed L u s) : FramedAnswer L u (execHkCalZero x0 x1 s) := by
  unfold execHkCalZero
  repeat (first | with_reducible assumption | (with_reducible apply frame_submit <;> first | exact frame_sub rfl hL | skip) | with_reducible exact frame_fault | with_reducible apply frame_next | with_reducible apply frame_foldl | with_reducible apply frame_foldl2 | with_reducible apply frame_foldl1 | split | intro _ | dsimp only)

theorem frame_execHkCalFull {L : List Piece} {u : State} (x0 : _) (x1 : _) {s : State} (hL : ∀ p, p ∈ ([.draw, .power, .crock, .sec, .host, .pre, .tiles, .cores, .flows, .ingest, .tb, .funnels, .running, .waiting, .net, .probe, .trace, .counters, .pkg] : List Piece) → p ∈ L)  (h : Framed L u s) : FramedAnswer L u (execHkCalFull x0 x1 s) := by
  unfold execHkCalFull
  repeat (first | with_reducible assumption | (with_reducible apply frame_submit <;> first | exact frame_sub rfl hL | skip) | with_reducible exact frame_fault | with_reducible apply frame_next | with_reducible apply frame_foldl | with_reducible apply frame_foldl2 | with_reducible apply frame_foldl1 | split | intro _ | dsimp only)

theorem frame_execAttest {L : List Piece} {u : State} (x0 : _) (x1 : _) {s : State} (hL : ∀ p, p ∈ ([.draw, .power, .crock, .sec, .host, .pre, .tiles, .cores, .flows, .ingest, .tb, .funnels, .running, .waiting, .net, .probe, .trace, .counters, .pkg] : List Piece) → p ∈ L)  (h : Framed L u s) : FramedAnswer L u (execAttest x0 x1 s) := by
  unfold execAttest
  repeat (first | with_reducible assumption | (with_reducible apply frame_submit <;> first | exact frame_sub rfl hL | skip) | with_reducible exact frame_fault | with_reducible apply frame_next | with_reducible apply frame_foldl | with_reducible apply frame_foldl2 | with_reducible apply frame_foldl1 | split | intro _ | dsimp only)

theorem frame_execFwStage {L : List Piece} {u : State} (x0 : _) (x1 : _) {s : State} (hL : ∀ p, p ∈ ([.draw, .power, .crock, .sec, .host, .pre, .tiles, .cores, .flows, .ingest, .tb, .funnels, .running, .waiting, .net, .probe, .trace, .counters, .pkg] : List Piece) → p ∈ L)  (h : Framed L u s) : FramedAnswer L u (execFwStage x0 x1 s) := by
  unfold execFwStage
  repeat (first | with_reducible assumption | (with_reducible apply frame_submit <;> first | exact frame_sub rfl hL | skip) | with_reducible exact frame_fault | with_reducible apply frame_next | with_reducible apply frame_foldl | with_reducible apply frame_foldl2 | with_reducible apply frame_foldl1 | split | intro _ | dsimp only)

theorem frame_execFwActivate {L : List Piece} {u : State} (x0 : _) (x1 : _) {s : State} (hL : ∀ p, p ∈ ([.draw, .power, .crock, .sec, .host, .pre, .tiles, .cores, .flows, .ingest, .tb, .funnels, .running, .waiting, .net, .probe, .trace, .counters, .pkg] : List Piece) → p ∈ L)  (h : Framed L u s) : FramedAnswer L u (execFwActivate x0 x1 s) := by
  unfold execFwActivate
  repeat (first | with_reducible assumption | (with_reducible apply frame_submit <;> first | exact frame_sub rfl hL | skip) | with_reducible exact frame_fault | with_reducible apply frame_next | with_reducible apply frame_foldl | with_reducible apply frame_foldl2 | with_reducible apply frame_foldl1 | split | intro _ | dsimp only)

theorem frame_execFaultRead {L : List Piece} {u : State} (x0 : _) (x1 : _) {s : State} (hL : ∀ p, p ∈ ([.draw, .power, .crock, .sec, .host, .pre, .tiles, .cores, .flows, .ingest, .tb, .funnels, .running, .waiting, .net, .probe, .trace, .counters, .pkg] : List Piece) → p ∈ L)  (h : Framed L u s) : FramedAnswer L u (execFaultRead x0 x1 s) := by
  unfold execFaultRead
  repeat (first | with_reducible assumption | (with_reducible apply frame_submit <;> first | exact frame_sub rfl hL | skip) | with_reducible exact frame_fault | with_reducible apply frame_next | with_reducible apply frame_foldl | with_reducible apply frame_foldl2 | with_reducible apply frame_foldl1 | split | intro _ | dsimp only)

theorem frame_execFaultExport {L : List Piece} {u : State} (x0 : _) (x1 : _) {s : State} (hL : ∀ p, p ∈ ([.draw, .power, .crock, .sec, .host, .pre, .tiles, .cores, .flows, .ingest, .tb, .funnels, .running, .waiting, .net, .probe, .trace, .counters, .pkg] : List Piece) → p ∈ L)  (h : Framed L u s) : FramedAnswer L u (execFaultExport x0 x1 s) := by
  unfold execFaultExport
  repeat (first | with_reducible assumption | (with_reducible apply frame_submit <;> first | exact frame_sub rfl hL | skip) | with_reducible exact frame_fault | with_reducible apply frame_next | with_reducible apply frame_foldl | with_reducible apply frame_foldl2 | with_reducible apply frame_foldl1 | split | intro _ | dsimp only)

theorem frame_execUnitRetire {L : List Piece} {u : State} (x0 : _) (x1 : _) {s : State} (hL : ∀ p, p ∈ ([.draw, .power, .crock, .sec, .host, .pre, .tiles, .cores, .flows, .ingest, .tb, .funnels, .running, .waiting, .net, .probe, .trace, .counters, .pkg] : List Piece) → p ∈ L)  (h : Framed L u s) : FramedAnswer L u (execUnitRetire x0 x1 s) := by
  unfold execUnitRetire
  repeat (first | with_reducible assumption | (with_reducible apply frame_submit <;> first | exact frame_sub rfl hL | skip) | with_reducible exact frame_fault | with_reducible apply frame_next | with_reducible apply frame_foldl | with_reducible apply frame_foldl2 | with_reducible apply frame_foldl1 | split | intro _ | dsimp only)

theorem frame_execUnitRestore {L : List Piece} {u : State} (x0 : _) (x1 : _) {s : State} (hL : ∀ p, p ∈ ([.draw, .power, .crock, .sec, .host, .pre, .tiles, .cores, .flows, .ingest, .tb, .funnels, .running, .waiting, .net, .probe, .trace, .counters, .pkg] : List Piece) → p ∈ L)  (h : Framed L u s) : FramedAnswer L u (execUnitRestore x0 x1 s) := by
  unfold execUnitRestore
  repeat (first | with_reducible assumption | (with_reducible apply frame_submit <;> first | exact frame_sub rfl hL | skip) | with_reducible exact frame_fault | with_reducible apply frame_next | with_reducible apply frame_foldl | with_reducible apply frame_foldl2 | with_reducible apply frame_foldl1 | split | intro _ | dsimp only)

theorem frame_execNetPortSet {L : List Piece} {u : State} (x0 : _) (x1 : _) {s : State} (hL : ∀ p, p ∈ ([.draw, .power, .crock, .sec, .host, .pre, .tiles, .cores, .flows, .ingest, .tb, .funnels, .running, .waiting, .net, .probe, .trace, .counters, .pkg] : List Piece) → p ∈ L)  (h : Framed L u s) : FramedAnswer L u (execNetPortSet x0 x1 s) := by
  unfold execNetPortSet
  repeat (first | with_reducible assumption | (with_reducible apply frame_submit <;> first | exact frame_sub rfl hL | skip) | with_reducible exact frame_fault | with_reducible apply frame_next | with_reducible apply frame_foldl | with_reducible apply frame_foldl2 | with_reducible apply frame_foldl1 | split | intro _ | dsimp only)

theorem frame_execNetPeerSet {L : List Piece} {u : State} (x0 : _) (x1 : _) {s : State} (hL : ∀ p, p ∈ ([.draw, .power, .crock, .sec, .host, .pre, .tiles, .cores, .flows, .ingest, .tb, .funnels, .running, .waiting, .net, .probe, .trace, .counters, .pkg] : List Piece) → p ∈ L)  (h : Framed L u s) : FramedAnswer L u (execNetPeerSet x0 x1 s) := by
  unfold execNetPeerSet
  repeat (first | with_reducible assumption | (with_reducible apply frame_submit <;> first | exact frame_sub rfl hL | skip) | with_reducible exact frame_fault | with_reducible apply frame_next | with_reducible apply frame_foldl | with_reducible apply frame_foldl2 | with_reducible apply frame_foldl1 | split | intro _ | dsimp only)

theorem frame_execNetStatus {L : List Piece} {u : State} (x0 : _) (x1 : _) {s : State} (hL : ∀ p, p ∈ ([.draw, .power, .crock, .sec, .host, .pre, .tiles, .cores, .flows, .ingest, .tb, .funnels, .running, .waiting, .net, .probe, .trace, .counters, .pkg] : List Piece) → p ∈ L)  (h : Framed L u s) : FramedAnswer L u (execNetStatus x0 x1 s) := by
  unfold execNetStatus
  repeat (first | with_reducible assumption | (with_reducible apply frame_submit <;> first | exact frame_sub rfl hL | skip) | with_reducible exact frame_fault | with_reducible apply frame_next | with_reducible apply frame_foldl | with_reducible apply frame_foldl2 | with_reducible apply frame_foldl1 | split | intro _ | dsimp only)

theorem frame_execPacketTake {L : List Piece} {u : State} (x0 : _) (x1 : _) {s : State} (hL : ∀ p, p ∈ ([.draw, .power, .crock, .sec, .host, .pre, .tiles, .cores, .flows, .ingest, .tb, .funnels, .running, .waiting, .net, .probe, .trace, .counters, .pkg] : List Piece) → p ∈ L)  (h : Framed L u s) : FramedAnswer L u (execPacketTake x0 x1 s) := by
  unfold execPacketTake
  repeat (first | with_reducible assumption | (with_reducible apply frame_packetTake <;> first | exact frame_sub rfl hL | skip) | (with_reducible apply frame_performAny <;> first | exact frame_sub rfl hL | skip) | with_reducible apply frame_ifDue | with_reducible exact frame_fault | with_reducible apply frame_next | with_reducible apply frame_foldl | with_reducible apply frame_foldl2 | with_reducible apply frame_foldl1 | split | intro _ | dsimp only)

theorem frame_execAtTickDue {L : List Piece} {u : State} {s : State} (hL : ∀ p, p ∈ ([.draw, .power, .crock, .sec, .host, .pre, .tiles, .cores, .flows, .ingest, .tb, .funnels, .running, .waiting, .net, .probe, .trace, .counters, .pkg] : List Piece) → p ∈ L)  (h : Framed L u s) : FramedAnswer L u (execAtTickDue s) := by
  unfold execAtTickDue
  repeat (first | with_reducible assumption | (with_reducible apply frame_applyDue <;> first | exact frame_sub rfl hL | skip) | (with_reducible apply frame_startCmd <;> first | exact frame_sub rfl hL | skip) | (with_reducible apply frame_performAny <;> first | exact frame_sub rfl hL | skip) | with_reducible apply frame_each | with_reducible apply frame_ifDue | with_reducible exact frame_fault | with_reducible apply frame_next | with_reducible apply frame_foldl | with_reducible apply frame_foldl2 | with_reducible apply frame_foldl1 | split | intro _ | dsimp only)

theorem frame_execFenceRelease {L : List Piece} {u : State} (x0 : _) (x1 : _) {s : State} (hL : ∀ p, p ∈ ([.draw, .power, .crock, .sec, .host, .pre, .tiles, .cores, .flows, .ingest, .tb, .funnels, .running, .waiting, .net, .probe, .trace, .counters, .pkg] : List Piece) → p ∈ L)  (h : Framed L u s) : FramedAnswer L u (execFenceRelease x0 x1 s) := by
  unfold execFenceRelease
  repeat (first | with_reducible assumption | (with_reducible apply frame_State_modLane <;> first | exact frame_sub rfl hL | skip) | (with_reducible apply frame_proceed <;> first | exact frame_sub rfl hL | skip) | (with_reducible apply frame_performAny <;> first | exact frame_sub rfl hL | skip) | with_reducible apply frame_ifDue | with_reducible exact frame_fault | with_reducible apply frame_next | with_reducible apply frame_foldl | with_reducible apply frame_foldl2 | with_reducible apply frame_foldl1 | split | intro _ | dsimp only)

theorem frame_renewTile {L : List Piece} {u : State} (x0 : _) (x1 : _) (x2 : _) {s : State} (hL : ∀ p, p ∈ ([.tiles, .running, .waiting, .trace, .counters] : List Piece) → p ∈ L)  (h : Framed L u s) : Framed L u (renewTile x0 x1 x2 s) := by
  unfold renewTile
  repeat (first | with_reducible assumption | (with_reducible apply frame_State_modTile <;> first | exact frame_sub rfl hL | skip) | (with_reducible apply frame_askAuto <;> first | exact frame_sub rfl hL | skip) | with_reducible apply frame_foldl | with_reducible apply frame_foldl2 | with_reducible apply frame_foldl1 | split | intro _ | dsimp only)

theorem frame_renewAll {L : List Piece} {u : State} (x0 : _) {s : State} (hL : ∀ p, p ∈ ([.tiles, .running, .waiting, .trace, .counters] : List Piece) → p ∈ L)  (h : Framed L u s) : Framed L u (renewAll x0 s) := by
  unfold renewAll
  repeat (first | with_reducible assumption | (with_reducible apply frame_renewTile <;> first | exact frame_sub rfl hL | skip) | with_reducible apply frame_each | with_reducible apply frame_foldl | with_reducible apply frame_foldl2 | with_reducible apply frame_foldl1 | split | intro _ | dsimp only)

theorem frame_holdDue {L : List Piece} {u : State} {s : State} (hL : ∀ p, p ∈ ([.tiles] : List Piece) → p ∈ L)  (h : Framed L u s) : Framed L u (holdDue s) := by
  unfold holdDue
  repeat (first | with_reducible assumption | with_reducible apply frame_foldl | with_reducible apply frame_foldl2 | with_reducible apply frame_foldl1 | split | intro _ | dsimp only | (with_reducible apply frame_mk; iterate 22 (first | exact Or.inr (hL _ (by decide)) | with_reducible exact Or.inl rfl)))

theorem frame_enterRetain {L : List Piece} {u : State} {s : State} (hL : ∀ p, p ∈ ([.host, .cores, .tb, .net, .counters, .pkg] : List Piece) → p ∈ L)  (h : Framed L u s) : Framed L u (enterRetain s) := by
  unfold enterRetain
  repeat (first | with_reducible assumption | (with_reducible apply frame_suppressAll <;> first | exact frame_sub rfl hL | skip) | with_reducible apply frame_foldl | with_reducible apply frame_foldl2 | with_reducible apply frame_foldl1 | split | intro _ | dsimp only | (with_reducible apply frame_mk; iterate 22 (first | exact Or.inr (hL _ (by decide)) | with_reducible exact Or.inl rfl)))

theorem frame_leaveRetain {L : List Piece} {u : State} {s : State} (hL : ∀ p, p ∈ ([.tiles, .running, .waiting, .net, .trace, .counters, .pkg] : List Piece) → p ∈ L)  (h : Framed L u s) : Framed L u (leaveRetain s) := by
  unfold leaveRetain
  repeat (first | with_reducible assumption | (with_reducible apply frame_renewAll <;> first | exact frame_sub rfl hL | skip) | with_reducible apply frame_foldl | with_reducible apply frame_foldl2 | with_reducible apply frame_foldl1 | split | intro _ | dsimp only | (with_reducible apply frame_mk; iterate 22 (first | exact Or.inr (hL _ (by decide)) | with_reducible exact Or.inl rfl)))

theorem frame_enterStandby {L : List Piece} {u : State} {s : State} (hL : ∀ p, p ∈ ([.power, .crock, .host, .cores, .tb, .net, .counters, .pkg] : List Piece) → p ∈ L)  (h : Framed L u s) : Framed L u (enterStandby s) := by
  unfold enterStandby
  repeat (first | with_reducible assumption | (with_reducible apply frame_State_modTb <;> first | exact frame_sub rfl hL | skip) | (with_reducible apply frame_State_foldTick <;> first | exact frame_sub rfl hL | skip) | (with_reducible apply frame_enterRetain <;> first | exact frame_sub rfl hL | skip) | (with_reducible apply frame_beginSave <;> first | exact frame_sub rfl hL | skip) | (with_reducible apply frame_State_modMirror <;> first | exact frame_sub rfl hL | skip) | (with_reducible apply frame_foldAges <;> first | exact frame_sub rfl hL | skip) | (with_reducible apply frame_endSave <;> first | exact frame_sub rfl hL | skip) | (with_reducible apply frame_State_modPower <;> first | exact frame_sub rfl hL | skip) | with_reducible apply frame_foldl | with_reducible apply frame_foldl2 | with_reducible apply frame_foldl1 | split | intro _ | dsimp only)

theorem frame_changeState {L : List Piece} {u : State} (x0 : _) {s : State} (hL : ∀ p, p ∈ ([.draw, .power, .crock, .sec, .host, .pre, .tiles, .cores, .flows, .ingest, .tb, .funnels, .running, .waiting, .net, .probe, .trace, .counters, .pkg] : List Piece) → p ∈ L)  (h : Framed L u s) : Framed L u (changeState x0 s) := by
  unfold changeState
  repeat (first | with_reducible assumption | (with_reducible apply frame_raiseDev <;> first | exact frame_sub rfl hL | skip) | (with_reducible apply frame_State_modPower <;> first | exact frame_sub rfl hL | skip) | (with_reducible apply frame_leaveRetain <;> first | exact frame_sub rfl hL | skip) | (with_reducible apply frame_enterRetain <;> first | exact frame_sub rfl hL | skip) | (with_reducible apply frame_enterStandby <;> first | exact frame_sub rfl hL | skip) | (with_reducible apply frame_unpark <;> first | exact frame_sub rfl hL | skip) | (with_reducible apply frame_performAny <;> first | exact frame_sub rfl hL | skip) | (with_reducible apply frame_holdDue <;> first | exact frame_sub rfl hL | skip) | with_reducible apply frame_foldl | with_reducible apply frame_foldl2 | with_reducible apply frame_foldl1 | split | intro _ | dsimp only)

theorem frame_execPowerState {L : List Piece} {u : State} {s : State} (hL : ∀ p, p ∈ ([.draw, .power, .crock, .sec, .host, .pre, .tiles, .cores, .flows, .ingest, .tb, .funnels, .running, .waiting, .net, .probe, .trace, .counters, .pkg] : List Piece) → p ∈ L)  (h : Framed L u s) : FramedAnswer L u (execPowerState s) := by
  unfold execPowerState
  repeat (first | with_reducible assumption | (with_reducible apply frame_changeState <;> first | exact frame_sub rfl hL | skip) | with_reducible apply frame_ifDue | with_reducible exact frame_fault | with_reducible apply frame_next | with_reducible apply frame_foldl | with_reducible apply frame_foldl2 | with_reducible apply frame_foldl1 | split | intro _ | dsimp only)

theorem frame_refclkRestored {L : List Piece} {u : State} {s : State} (hL : ∀ p, p ∈ ([.draw, .power, .crock, .sec, .host, .pre, .tiles, .cores, .flows, .ingest, .tb, .funnels, .running, .waiting, .net, .probe, .trace, .counters, .pkg] : List Piece) → p ∈ L)  (h : Framed L u s) : Framed L u (refclkRestored s) := by
  unfold refclkRestored
  repeat (first | with_reducible assumption | (with_reducible apply frame_State_modPkg <;> first | exact frame_sub rfl hL | skip) | (with_reducible apply frame_State_modPower <;> first | exact frame_sub rfl hL | skip) | (with_reducible apply frame_State_modNet <;> first | exact frame_sub rfl hL | skip) | (with_reducible apply frame_unpark <;> first | exact frame_sub rfl hL | skip) | (with_reducible apply frame_performAny <;> first | exact frame_sub rfl hL | skip) | (with_reducible apply frame_raiseDev <;> first | exact frame_sub rfl hL | skip) | (with_reducible apply frame_renewAll <;> first | exact frame_sub rfl hL | skip) | with_reducible apply frame_foldl | with_reducible apply frame_foldl2 | with_reducible apply frame_foldl1 | split | intro _ | dsimp only)

theorem frame_execRefclkRestored {L : List Piece} {u : State} {s : State} (hL : ∀ p, p ∈ ([.draw, .power, .crock, .sec, .host, .pre, .tiles, .cores, .flows, .ingest, .tb, .funnels, .running, .waiting, .net, .probe, .trace, .counters, .pkg] : List Piece) → p ∈ L)  (h : Framed L u s) : FramedAnswer L u (execRefclkRestored s) := by
  unfold execRefclkRestored
  repeat (first | with_reducible assumption | (with_reducible apply frame_refclkRestored <;> first | exact frame_sub rfl hL | skip) | with_reducible apply frame_ifDue | with_reducible exact frame_fault | with_reducible apply frame_next | with_reducible apply frame_foldl | with_reducible apply frame_foldl2 | with_reducible apply frame_foldl1 | split | intro _ | dsimp only)

theorem frame_scrubPass {L : List Piece} {u : State} {s : State} (hL : ∀ p, p ∈ ([.host, .pre, .funnels, .running, .trace, .counters, .pkg] : List Piece) → p ∈ L)  (h : Framed L u s) : Framed L u (scrubPass s) := by
  unfold scrubPass
  repeat (first | with_reducible assumption | (with_reducible apply frame_count <;> first | exact frame_sub rfl hL | skip) | (with_reducible apply frame_State_modPkg <;> first | exact frame_sub rfl hL | skip) | (with_reducible apply frame_finishIdle <;> first | exact frame_sub rfl hL | skip) | (with_reducible apply frame_endAct <;> first | exact frame_sub rfl hL | skip) | with_reducible apply frame_each | with_reducible apply frame_foldl | with_reducible apply frame_foldl2 | with_reducible apply frame_foldl1 | split | intro _ | dsimp only)

theorem frame_scrub {L : List Piece} {u : State} (x0 : _) (x1 : _) {s : State} (hL : ∀ p, p ∈ ([.host, .pre, .funnels, .running, .trace, .counters, .pkg] : List Piece) → p ∈ L)  (h : Framed L u s) : Framed L u (scrub x0 x1 s) := by
  unfold scrub
  repeat (first | with_reducible assumption | (with_reducible apply frame_count <;> first | exact frame_sub rfl hL | skip) | (with_reducible apply frame_scrubPass <;> first | exact frame_sub rfl hL | skip) | (with_reducible apply frame_State_modPkg <;> first | exact frame_sub rfl hL | skip) | with_reducible apply frame_foldl | with_reducible apply frame_foldl2 | with_reducible apply frame_foldl1 | split | intro _ | dsimp only)

theorem frame_execPatrolScrub {L : List Piece} {u : State} (x0 : _) (x1 : _) {s : State} (hL : ∀ p, p ∈ ([.host, .pre, .funnels, .running, .trace, .counters, .pkg] : List Piece) → p ∈ L)  (h : Framed L u s) : FramedAnswer L u (execPatrolScrub x0 x1 s) := by
  unfold execPatrolScrub
  repeat (first | with_reducible assumption | (with_reducible apply frame_scrub <;> first | exact frame_sub rfl hL | skip) | with_reducible apply frame_checked | with_reducible exact frame_fault | with_reducible apply frame_next | with_reducible apply frame_foldl | with_reducible apply frame_foldl2 | with_reducible apply frame_foldl1 | split | intro _ | dsimp only)

theorem frame_regionReset {L : List Piece} {u : State} (x0 : _) (x1 : _) (x2 : _) {s : State} (hL : ∀ p, p ∈ ([.draw, .power, .crock, .host, .pre, .tiles, .cores, .flows, .ingest, .tb, .funnels, .running, .waiting, .trace, .counters, .pkg] : List Piece) → p ∈ L)  (h : Framed L u s) : Framed L u (regionReset x0 x1 x2 s) := by
  unfold regionReset
  repeat (first | with_reducible assumption | (with_reducible apply frame_addRecord <;> first | exact frame_sub rfl hL | skip) | (with_reducible apply frame_partitionReset <;> first | exact frame_sub rfl hL | skip) | (with_reducible apply frame_State_modPkg <;> first | exact frame_sub rfl hL | skip) | with_reducible apply frame_foldl | with_reducible apply frame_foldl2 | with_reducible apply frame_foldl1 | split | intro _ | dsimp only)

theorem frame_memUncorr {L : List Piece} {u : State} (x0 : _) (x1 : _) {s : State} (hL : ∀ p, p ∈ ([.draw, .power, .crock, .host, .pre, .tiles, .cores, .flows, .ingest, .tb, .funnels, .running, .waiting, .trace, .counters, .pkg] : List Piece) → p ∈ L)  (h : Framed L u s) : Framed L u (memUncorr x0 x1 s) := by
  unfold memUncorr
  repeat (first | with_reducible assumption | (with_reducible apply frame_count <;> first | exact frame_sub rfl hL | skip) | (with_reducible apply frame_fatal <;> first | exact frame_sub rfl hL | skip) | (with_reducible apply frame_regionReset <;> first | exact frame_sub rfl hL | skip) | (with_reducible apply frame_State_modPkg <;> first | exact frame_sub rfl hL | skip) | (with_reducible apply frame_recordOnly <;> first | exact frame_sub rfl hL | skip) | with_reducible apply frame_foldl | with_reducible apply frame_foldl2 | with_reducible apply frame_foldl1 | split | intro _ | dsimp only)

theorem frame_execMemUncorrectable {L : List Piece} {u : State} (x0 : _) (x1 : _) {s : State} (hL : ∀ p, p ∈ ([.draw, .power, .crock, .host, .pre, .tiles, .cores, .flows, .ingest, .tb, .funnels, .running, .waiting, .trace, .counters, .pkg] : List Piece) → p ∈ L)  (h : Framed L u s) : FramedAnswer L u (execMemUncorrectable x0 x1 s) := by
  unfold execMemUncorrectable
  repeat (first | with_reducible assumption | (with_reducible apply frame_memUncorr <;> first | exact frame_sub rfl hL | skip) | with_reducible apply frame_checked | with_reducible exact frame_fault | with_reducible apply frame_next | with_reducible apply frame_foldl | with_reducible apply frame_foldl2 | with_reducible apply frame_foldl1 | split | intro _ | dsimp only)

theorem frame_execStockpotUncorr {L : List Piece} {u : State} (x0 : _) {s : State} (hL : ∀ p, p ∈ ([.draw, .power, .crock, .host, .pre, .tiles, .cores, .flows, .ingest, .tb, .funnels, .running, .waiting, .trace, .counters] : List Piece) → p ∈ L)  (h : Framed L u s) : FramedAnswer L u (execStockpotUncorr x0 s) := by
  unfold execStockpotUncorr
  repeat (first | with_reducible assumption | (with_reducible apply frame_addRecord <;> first | exact frame_sub rfl hL | skip) | (with_reducible apply frame_partitionReset <;> first | exact frame_sub rfl hL | skip) | (with_reducible apply frame_recordOnly <;> first | exact frame_sub rfl hL | skip) | with_reducible apply frame_ifDue | with_reducible exact frame_fault | with_reducible apply frame_next | with_reducible apply frame_foldl | with_reducible apply frame_foldl2 | with_reducible apply frame_foldl1 | split | intro _ | dsimp only)

theorem frame_sendHello {L : List Piece} {u : State} (x0 : _) (x1 : _) {s : State} (hL : ∀ p, p ∈ ([.host, .counters] : List Piece) → p ∈ L)  (h : Framed L u s) : Framed L u (sendHello x0 x1 s) := by
  unfold sendHello
  repeat (first | with_reducible assumption | (with_reducible apply frame_State_emit <;> first | exact frame_sub rfl hL | skip) | (with_reducible apply frame_count <;> first | exact frame_sub rfl hL | skip) | with_reducible apply frame_foldl | with_reducible apply frame_foldl2 | with_reducible apply frame_foldl1 | split | intro _ | dsimp only)

theorem frame_answerHello {L : List Piece} {u : State} (x0 : _) (x1 : _) {s : State} (hL : ∀ p, p ∈ ([.host, .counters] : List Piece) → p ∈ L)  (h : Framed L u s) : Framed L u (answerHello x0 x1 s) := by
  unfold answerHello
  repeat (first | with_reducible assumption | (with_reducible apply frame_State_emit <;> first | exact frame_sub rfl hL | skip) | (with_reducible apply frame_count <;> first | exact frame_sub rfl hL | skip) | with_reducible apply frame_foldl | with_reducible apply frame_foldl2 | with_reducible apply frame_foldl1 | split | intro _ | dsimp only)

theorem frame_sendAck {L : List Piece} {u : State} (x0 : _) (x1 : _) {s : State} (hL : ∀ p, p ∈ ([.host, .counters] : List Piece) → p ∈ L)  (h : Framed L u s) : Framed L u (sendAck x0 x1 s) := by
  unfold sendAck
  repeat (first | with_reducible assumption | (with_reducible apply frame_State_emit <;> first | exact frame_sub rfl hL | skip) | (with_reducible apply frame_count <;> first | exact frame_sub rfl hL | skip) | with_reducible apply frame_foldl | with_reducible apply frame_foldl2 | with_reducible apply frame_foldl1 | split | intro _ | dsimp only)

theorem frame_levelDrop {L : List Piece} {u : State} (x0 : _) {s : State} (hL : ∀ p, p ∈ ([.host, .counters] : List Piece) → p ∈ L)  (h : Framed L u s) : Framed L u (levelDrop x0 s) := by
  unfold levelDrop
  repeat (first | with_reducible assumption | (with_reducible apply frame_count <;> first | exact frame_sub rfl hL | skip) | (with_reducible apply frame_sendHello <;> first | exact frame_sub rfl hL | skip) | (with_reducible apply frame_answerHello <;> first | exact frame_sub rfl hL | skip) | with_reducible apply frame_foldl | with_reducible apply frame_foldl2 | with_reducible apply frame_foldl1 | split | intro _ | dsimp only)

theorem frame_receive {L : List Piece} {u : State} (x0 : _) (x1 : _) {s : State} (hL : ∀ p, p ∈ ([.host, .counters] : List Piece) → p ∈ L) (h1 : ∀ t, Framed L u t → Framed L u (x1 t)) (h : Framed L u s) : Framed L u (receive x0 x1 s) := by
  unfold receive
  repeat (first | with_reducible assumption | apply h1 | (with_reducible apply frame_count <;> first | exact frame_sub rfl hL | skip) | (with_reducible apply frame_levelDrop <;> first | exact frame_sub rfl hL | skip) | with_reducible apply frame_foldl | with_reducible apply frame_foldl2 | with_reducible apply frame_foldl1 | split | intro _ | dsimp only)

theorem frame_takeAck {L : List Piece} {u : State} (x0 : _) (x1 : _) (x2 : _) {s : State} (hL : ∀ p, p ∈ ([.net] : List Piece) → p ∈ L)  (h : Framed L u s) : Framed L u (takeAck x0 x1 x2 s) := by
  unfold takeAck
  repeat (first | with_reducible assumption | (with_reducible apply frame_State_modPeer <;> first | exact frame_sub rfl hL | skip) | with_reducible apply frame_foldl | with_reducible apply frame_foldl2 | with_reducible apply frame_foldl1 | split | intro _ | dsimp only)

theorem frame_resend {L : List Piece} {u : State} (x0 : _) (x1 : _) (x2 : _) {s : State} (hL : ∀ p, p ∈ ([.host, .counters] : List Piece) → p ∈ L)  (h : Framed L u s) : Framed L u (resend x0 x1 x2 s) := by
  unfold resend
  repeat (first | with_reducible assumption | (with_reducible apply frame_State_emit <;> first | exact frame_sub rfl hL | skip) | (with_reducible apply frame_count <;> first | exact frame_sub rfl hL | skip) | with_reducible apply frame_foldl | with_reducible apply frame_foldl2 | with_reducible apply frame_foldl1 | split | intro _ | dsimp only)

theorem frame_bringBack {L : List Piece} {u : State} (x0 : _) (x1 : _) {s : State} (hL : ∀ p, p ∈ ([.host, .net, .counters] : List Piece) → p ∈ L)  (h : Framed L u s) : Framed L u (bringBack x0 x1 s) := by
  unfold bringBack
  repeat (first | with_reducible assumption | (with_reducible apply frame_State_modPeer <;> first | exact frame_sub rfl hL | skip) | (with_reducible apply frame_resend <;> first | exact frame_sub rfl hL | skip) | with_reducible apply frame_each | with_reducible apply frame_foldl | with_reducible apply frame_foldl2 | with_reducible apply frame_foldl1 | split | intro _ | dsimp only)

theorem frame_takeHello {L : List Piece} {u : State} (x0 : _) (x1 : _) {s : State} (hL : ∀ p, p ∈ ([.host, .net, .counters] : List Piece) → p ∈ L)  (h : Framed L u s) : Framed L u (takeHello x0 x1 s) := by
  unfold takeHello
  repeat (first | with_reducible assumption | (with_reducible apply frame_bringBack <;> first | exact frame_sub rfl hL | skip) | (with_reducible apply frame_takeAck <;> first | exact frame_sub rfl hL | skip) | (with_reducible apply frame_State_modPeer <;> first | exact frame_sub rfl hL | skip) | with_reducible apply frame_foldl | with_reducible apply frame_foldl2 | with_reducible apply frame_foldl1 | split | intro _ | dsimp only)

theorem frame_execHello {L : List Piece} {u : State} (x0 : _) (x1 : _) (x2 : _) (x3 : _) (x4 : _) (x5 : _) {s : State} (hL : ∀ p, p ∈ ([.host, .net, .counters] : List Piece) → p ∈ L)  (h : Framed L u s) : FramedAnswer L u (execHello x0 x1 x2 x3 x4 x5 s) := by
  unfold execHello
  repeat (first | with_reducible assumption | (with_reducible apply frame_receive <;> first | exact frame_sub rfl hL | skip) | (with_reducible apply frame_takeHello <;> first | exact frame_sub rfl hL | skip) | with_reducible apply frame_checked | with_reducible exact frame_fault | with_reducible apply frame_next | with_reducible apply frame_foldl | with_reducible apply frame_foldl2 | with_reducible apply frame_foldl1 | split | intro _ | dsimp only)

theorem frame_takeRecord_ {L : List Piece} {u : State} (x0 : _) (x1 : _) {s : State} (hL : ∀ p, p ∈ ([.host, .net, .counters] : List Piece) → p ∈ L)  (h : Framed L u s) : Framed L u (takeRecord_ x0 x1 s) := by
  unfold takeRecord_
  repeat (first | with_reducible assumption | (with_reducible apply frame_takeAck <;> first | exact frame_sub rfl hL | skip) | (with_reducible apply frame_sendAck <;> first | exact frame_sub rfl hL | skip) | (with_reducible apply frame_State_modPeer <;> first | exact frame_sub rfl hL | skip) | with_reducible apply frame_foldl | with_reducible apply frame_foldl2 | with_reducible apply frame_foldl1 | split | intro _ | dsimp only)

theorem frame_execRecord {L : List Piece} {u : State} (x0 : _) (x1 : _) {s : State} (hL : ∀ p, p ∈ ([.host, .net, .counters] : List Piece) → p ∈ L)  (h : Framed L u s) : FramedAnswer L u (execRecord x0 x1 s) := by
  unfold execRecord
  repeat (first | with_reducible assumption | (with_reducible apply frame_receive <;> first | exact frame_sub rfl hL | skip) | (with_reducible apply frame_takeRecord_ <;> first | exact frame_sub rfl hL | skip) | with_reducible apply frame_checked | with_reducible exact frame_fault | with_reducible apply frame_next | with_reducible apply frame_foldl | with_reducible apply frame_foldl2 | with_reducible apply frame_foldl1 | split | intro _ | dsimp only)

theorem frame_execAck {L : List Piece} {u : State} (x0 : _) {s : State} (hL : ∀ p, p ∈ ([.host, .net, .counters] : List Piece) → p ∈ L)  (h : Framed L u s) : FramedAnswer L u (execAck x0 s) := by
  unfold execAck
  repeat (first | with_reducible assumption | (with_reducible apply frame_receive <;> first | exact frame_sub rfl hL | skip) | (with_reducible apply frame_takeAck <;> first | exact frame_sub rfl hL | skip) | with_reducible apply frame_checked | with_reducible exact frame_fault | with_reducible apply frame_next | with_reducible apply frame_foldl | with_reducible apply frame_foldl2 | with_reducible apply frame_foldl1 | split | intro _ | dsimp only)

theorem frame_takeCredit {L : List Piece} {u : State} (x0 : _) (x1 : _) {s : State} (hL : ∀ p, p ∈ ([.host, .net, .counters] : List Piece) → p ∈ L)  (h : Framed L u s) : Framed L u (takeCredit x0 x1 s) := by
  unfold takeCredit
  repeat (first | with_reducible assumption | (with_reducible apply frame_sendAck <;> first | exact frame_sub rfl hL | skip) | (with_reducible apply frame_State_modPeer <;> first | exact frame_sub rfl hL | skip) | with_reducible apply frame_foldl | with_reducible apply frame_foldl2 | with_reducible apply frame_foldl1 | split | intro _ | dsimp only)

theorem frame_execRingCredit {L : List Piece} {u : State} (x0 : _) (x1 : _) {s : State} (hL : ∀ p, p ∈ ([.host, .net, .counters] : List Piece) → p ∈ L)  (h : Framed L u s) : FramedAnswer L u (execRingCredit x0 x1 s) := by
  unfold execRingCredit
  repeat (first | with_reducible assumption | (with_reducible apply frame_receive <;> first | exact frame_sub rfl hL | skip) | (with_reducible apply frame_takeCredit <;> first | exact frame_sub rfl hL | skip) | with_reducible apply frame_checked | with_reducible exact frame_fault | with_reducible apply frame_next | with_reducible apply frame_foldl | with_reducible apply frame_foldl2 | with_reducible apply frame_foldl1 | split | intro _ | dsimp only)

theorem frame_execTraceRead {L : List Piece} {u : State} (x0 : _) (x1 : _) (x2 : _) {s : State} (hL : ∀ p, p ∈ ([.host, .counters] : List Piece) → p ∈ L)  (h : Framed L u s) : FramedAnswer L u (execTraceRead x0 x1 x2 s) := by
  unfold execTraceRead
  repeat (first | with_reducible assumption | (with_reducible apply frame_State_emit <;> first | exact frame_sub rfl hL | skip) | (with_reducible apply frame_levelDrop <;> first | exact frame_sub rfl hL | skip) | with_reducible apply frame_checked | with_reducible exact frame_fault | with_reducible apply frame_next | with_reducible apply frame_foldl | with_reducible apply frame_foldl2 | with_reducible apply frame_foldl1 | split | intro _ | dsimp only)

theorem frame_peerDown {L : List Piece} {u : State} (x0 : _) (x1 : _) {s : State} (hL : ∀ p, p ∈ ([.funnels, .net, .trace] : List Piece) → p ∈ L)  (h : Framed L u s) : Framed L u (peerDown x0 x1 s) := by
  unfold peerDown
  repeat (first | with_reducible assumption | (with_reducible apply frame_raisePart <;> first | exact frame_sub rfl hL | skip) | (with_reducible apply frame_State_modPeer <;> first | exact frame_sub rfl hL | skip) | with_reducible apply frame_foldl | with_reducible apply frame_foldl2 | with_reducible apply frame_foldl1 | split | intro _ | dsimp only)

theorem frame_recordResend {L : List Piece} {u : State} (x0 : _) (x1 : _) {s : State} (hL : ∀ p, p ∈ ([.host, .funnels, .net, .trace, .counters] : List Piece) → p ∈ L)  (h : Framed L u s) : Framed L u (recordResend x0 x1 s) := by
  unfold recordResend
  repeat (first | with_reducible assumption | (with_reducible apply frame_peerDown <;> first | exact frame_sub rfl hL | skip) | (with_reducible apply frame_resend <;> first | exact frame_sub rfl hL | skip) | (with_reducible apply frame_State_modPeer <;> first | exact frame_sub rfl hL | skip) | with_reducible apply frame_foldl | with_reducible apply frame_foldl2 | with_reducible apply frame_foldl1 | split | intro _ | dsimp only)

theorem frame_execRecordResend {L : List Piece} {u : State} (x0 : _) (x1 : _) {s : State} (hL : ∀ p, p ∈ ([.host, .funnels, .net, .trace, .counters] : List Piece) → p ∈ L)  (h : Framed L u s) : FramedAnswer L u (execRecordResend x0 x1 s) := by
  unfold execRecordResend
  repeat (first | with_reducible assumption | (with_reducible apply frame_recordResend <;> first | exact frame_sub rfl hL | skip) | with_reducible apply frame_ifDue | with_reducible exact frame_fault | with_reducible apply frame_next | with_reducible apply frame_foldl | with_reducible apply frame_foldl2 | with_reducible apply frame_foldl1 | split | intro _ | dsimp only)

theorem frame_execPortLinkUp {L : List Piece} {u : State} (x0 : _) {s : State} (hL : ∀ p, p ∈ ([.host, .net, .counters] : List Piece) → p ∈ L)  (h : Framed L u s) : FramedAnswer L u (execPortLinkUp x0 s) := by
  unfold execPortLinkUp
  repeat (first | with_reducible assumption | (with_reducible apply frame_State_modPort <;> first | exact frame_sub rfl hL | skip) | (with_reducible apply frame_sendHello <;> first | exact frame_sub rfl hL | skip) | with_reducible apply frame_each | with_reducible apply frame_ifDue | with_reducible exact frame_fault | with_reducible apply frame_next | with_reducible apply frame_foldl | with_reducible apply frame_foldl2 | with_reducible apply frame_foldl1 | split | intro _ | dsimp only)

theorem frame_execPortLinkDown {L : List Piece} {u : State} (x0 : _) {s : State} (hL : ∀ p, p ∈ ([.net] : List Piece) → p ∈ L)  (h : Framed L u s) : FramedAnswer L u (execPortLinkDown x0 s) := by
  unfold execPortLinkDown
  repeat (first | with_reducible assumption | (with_reducible apply frame_State_modPort <;> first | exact frame_sub rfl hL | skip) | with_reducible apply frame_ifDue | with_reducible exact frame_fault | with_reducible apply frame_next | with_reducible apply frame_foldl | with_reducible apply frame_foldl2 | with_reducible apply frame_foldl1 | split | intro _ | dsimp only)

theorem frame_execHelloTimer {L : List Piece} {u : State} {s : State} (hL : ∀ p, p ∈ ([.host, .counters] : List Piece) → p ∈ L)  (h : Framed L u s) : FramedAnswer L u (execHelloTimer s) := by
  unfold execHelloTimer
  repeat (first | with_reducible assumption | (with_reducible apply frame_sendHello <;> first | exact frame_sub rfl hL | skip) | with_reducible apply frame_each | with_reducible apply frame_ifDue | with_reducible exact frame_fault | with_reducible apply frame_next | with_reducible apply frame_foldl | with_reducible apply frame_foldl2 | with_reducible apply frame_foldl1 | split | intro _ | dsimp only)

theorem frame_execPfc {L : List Piece} {u : State} (x0 : _) (x1 : _) (x2 : _) {s : State} (hL : ∀ p, p ∈ ([.net] : List Piece) → p ∈ L)  (h : Framed L u s) : FramedAnswer L u (execPfc x0 x1 x2 s) := by
  unfold execPfc
  repeat (first | with_reducible assumption | (with_reducible apply frame_State_modPort <;> first | exact frame_sub rfl hL | skip) | with_reducible apply frame_ifDue | with_reducible exact frame_fault | with_reducible apply frame_next | with_reducible apply frame_foldl | with_reducible apply frame_foldl2 | with_reducible apply frame_foldl1 | split | intro _ | dsimp only)

theorem frame_answerAddr {L : List Piece} {u : State} (x0 : _) (x1 : _) (x2 : _) (x3 : _) {s : State} (hL : ∀ p, p ∈ ([.host, .counters] : List Piece) → p ∈ L)  (h : Framed L u s) : Framed L u (answerAddr x0 x1 x2 x3 s) := by
  unfold answerAddr
  repeat (first | with_reducible assumption | (with_reducible apply frame_State_emit <;> first | exact frame_sub rfl hL | skip) | (with_reducible apply frame_count <;> first | exact frame_sub rfl hL | skip) | with_reducible apply frame_foldl | with_reducible apply frame_foldl2 | with_reducible apply frame_foldl1 | split | intro _ | dsimp only)

theorem frame_execArpRequest {L : List Piece} {u : State} (x0 : _) (x1 : _) {s : State} (hL : ∀ p, p ∈ ([.host, .counters] : List Piece) → p ∈ L)  (h : Framed L u s) : FramedAnswer L u (execArpRequest x0 x1 s) := by
  unfold execArpRequest
  repeat (first | with_reducible assumption | (with_reducible apply frame_answerAddr <;> first | exact frame_sub rfl hL | skip) | with_reducible apply frame_ifDue | with_reducible exact frame_fault | with_reducible apply frame_next | with_reducible apply frame_foldl | with_reducible apply frame_foldl2 | with_reducible apply frame_foldl1 | split | intro _ | dsimp only)

theorem frame_execNeighbourSolicitation {L : List Piece} {u : State} (x0 : _) (x1 : _) {s : State} (hL : ∀ p, p ∈ ([.host, .counters] : List Piece) → p ∈ L)  (h : Framed L u s) : FramedAnswer L u (execNeighbourSolicitation x0 x1 s) := by
  unfold execNeighbourSolicitation
  repeat (first | with_reducible assumption | (with_reducible apply frame_answerAddr <;> first | exact frame_sub rfl hL | skip) | with_reducible apply frame_ifDue | with_reducible exact frame_fault | with_reducible apply frame_next | with_reducible apply frame_foldl | with_reducible apply frame_foldl2 | with_reducible apply frame_foldl1 | split | intro _ | dsimp only)

theorem frame_execNetRxDrop {L : List Piece} {u : State} (x0 : _) {s : State} (hL : ∀ p, p ∈ ([.counters] : List Piece) → p ∈ L)  (h : Framed L u s) : FramedAnswer L u (execNetRxDrop x0 s) := by
  unfold execNetRxDrop
  repeat (first | with_reducible assumption | (with_reducible apply frame_count <;> first | exact frame_sub rfl hL | skip) | with_reducible apply frame_ifDue | with_reducible exact frame_fault | with_reducible apply frame_next | with_reducible apply frame_foldl | with_reducible apply frame_foldl2 | with_reducible apply frame_foldl1 | split | intro _ | dsimp only)

theorem frame_goBack {L : List Piece} {u : State} (x0 : _) (x1 : _) {s : State} (hL : ∀ p, p ∈ ([.host, .funnels, .net, .trace, .counters] : List Piece) → p ∈ L)  (h : Framed L u s) : Framed L u (goBack x0 x1 s) := by
  unfold goBack
  repeat (first | with_reducible assumption | (with_reducible apply frame_peerDown <;> first | exact frame_sub rfl hL | skip) | (with_reducible apply frame_count <;> first | exact frame_sub rfl hL | skip) | (with_reducible apply frame_State_modPeer <;> first | exact frame_sub rfl hL | skip) | (with_reducible apply frame_State_emit <;> first | exact frame_sub rfl hL | skip) | with_reducible apply frame_each | with_reducible apply frame_foldl | with_reducible apply frame_foldl2 | with_reducible apply frame_foldl1 | split | intro _ | dsimp only)

theorem frame_execRoceAck {L : List Piece} {u : State} (x0 : _) (x1 : _) (x2 : _) {s : State} (hL : ∀ p, p ∈ ([.net] : List Piece) → p ∈ L)  (h : Framed L u s) : FramedAnswer L u (execRoceAck x0 x1 x2 s) := by
  unfold execRoceAck
  repeat (first | with_reducible assumption | (with_reducible apply frame_State_modPeer <;> first | exact frame_sub rfl hL | skip) | with_reducible apply frame_ifDue | with_reducible exact frame_fault | with_reducible apply frame_next | with_reducible apply frame_foldl | with_reducible apply frame_foldl2 | with_reducible apply frame_foldl1 | split | intro _ | dsimp only)

theorem frame_execRoceNak {L : List Piece} {u : State} (x0 : _) (x1 : _) (x2 : _) (x3 : _) {s : State} (hL : ∀ p, p ∈ ([.host, .funnels, .net, .trace, .counters] : List Piece) → p ∈ L)  (h : Framed L u s) : FramedAnswer L u (execRoceNak x0 x1 x2 x3 s) := by
  unfold execRoceNak
  repeat (first | with_reducible assumption | (with_reducible apply frame_goBack <;> first | exact frame_sub rfl hL | skip) | (with_reducible apply frame_State_modPeer <;> first | exact frame_sub rfl hL | skip) | with_reducible apply frame_ifDue | with_reducible exact frame_fault | with_reducible apply frame_next | with_reducible apply frame_foldl | with_reducible apply frame_foldl2 | with_reducible apply frame_foldl1 | split | intro _ | dsimp only)

theorem frame_execRoceTimeout {L : List Piece} {u : State} (x0 : _) (x1 : _) {s : State} (hL : ∀ p, p ∈ ([.host, .funnels, .net, .trace, .counters] : List Piece) → p ∈ L)  (h : Framed L u s) : FramedAnswer L u (execRoceTimeout x0 x1 s) := by
  unfold execRoceTimeout
  repeat (first | with_reducible assumption | (with_reducible apply frame_goBack <;> first | exact frame_sub rfl hL | skip) | with_reducible apply frame_ifDue | with_reducible exact frame_fault | with_reducible apply frame_next | with_reducible apply frame_foldl | with_reducible apply frame_foldl2 | with_reducible apply frame_foldl1 | split | intro _ | dsimp only)

theorem frame_execRoceCnp {L : List Piece} {u : State} (x0 : _) (x1 : _) {s : State} (hL : ∀ p, p ∈ ([.net, .counters] : List Piece) → p ∈ L)  (h : Framed L u s) : FramedAnswer L u (execRoceCnp x0 x1 s) := by
  unfold execRoceCnp
  repeat (first | with_reducible assumption | (with_reducible apply frame_count <;> first | exact frame_sub rfl hL | skip) | (with_reducible apply frame_State_modPeer <;> first | exact frame_sub rfl hL | skip) | with_reducible apply frame_ifDue | with_reducible exact frame_fault | with_reducible apply frame_next | with_reducible apply frame_foldl | with_reducible apply frame_foldl2 | with_reducible apply frame_foldl1 | split | intro _ | dsimp only)

theorem frame_execRoceRateRecover {L : List Piece} {u : State} (x0 : _) (x1 : _) {s : State} (hL : ∀ p, p ∈ ([.net] : List Piece) → p ∈ L)  (h : Framed L u s) : FramedAnswer L u (execRoceRateRecover x0 x1 s) := by
  unfold execRoceRateRecover
  repeat (first | with_reducible assumption | (with_reducible apply frame_State_modPeer <;> first | exact frame_sub rfl hL | skip) | with_reducible apply frame_ifDue | with_reducible exact frame_fault | with_reducible apply frame_next | with_reducible apply frame_foldl | with_reducible apply frame_foldl2 | with_reducible apply frame_foldl1 | split | intro _ | dsimp only)

theorem frame_syncInterval {L : List Piece} {u : State} (x0 : _) {s : State} (hL : ∀ p, p ∈ ([.tb, .net] : List Piece) → p ∈ L)  (h : Framed L u s) : Framed L u (syncInterval x0 s) := by
  unfold syncInterval
  repeat (first | with_reducible assumption | (with_reducible apply frame_State_modNet <;> first | exact frame_sub rfl hL | skip) | (with_reducible apply frame_State_modTb <;> first | exact frame_sub rfl hL | skip) | with_reducible apply frame_foldl | with_reducible apply frame_foldl2 | with_reducible apply frame_foldl1 | split | intro _ | dsimp only)

theorem frame_execPtpSync {L : List Piece} {u : State} (x0 : _) (x1 : _) (x2 : _) (x3 : _) {s : State} (hL : ∀ p, p ∈ ([.tb, .net] : List Piece) → p ∈ L)  (h : Framed L u s) : FramedAnswer L u (execPtpSync x0 x1 x2 x3 s) := by
  unfold execPtpSync
  repeat (first | with_reducible assumption | (with_reducible apply frame_State_modNet <;> first | exact frame_sub rfl hL | skip) | (with_reducible apply frame_syncInterval <;> first | exact frame_sub rfl hL | skip) | with_reducible apply frame_ifDue | with_reducible exact frame_fault | with_reducible apply frame_next | with_reducible apply frame_foldl | with_reducible apply frame_foldl2 | with_reducible apply frame_foldl1 | split | intro _ | dsimp only)

theorem frame_execFollowUp {L : List Piece} {u : State} (x0 : _) (x1 : _) (x2 : _) {s : State} (hL : ∀ p, p ∈ ([.tb, .net] : List Piece) → p ∈ L)  (h : Framed L u s) : FramedAnswer L u (execFollowUp x0 x1 x2 s) := by
  unfold execFollowUp
  repeat (first | with_reducible assumption | (with_reducible apply frame_syncInterval <;> first | exact frame_sub rfl hL | skip) | with_reducible apply frame_ifDue | with_reducible exact frame_fault | with_reducible apply frame_next | with_reducible apply frame_foldl | with_reducible apply frame_foldl2 | with_reducible apply frame_foldl1 | split | intro _ | dsimp only)

theorem frame_execDelayResp {L : List Piece} {u : State} (x0 : _) (x1 : _) (x2 : _) {s : State} (hL : ∀ p, p ∈ ([.net] : List Piece) → p ∈ L)  (h : Framed L u s) : FramedAnswer L u (execDelayResp x0 x1 x2 s) := by
  unfold execDelayResp
  repeat (first | with_reducible assumption | (with_reducible apply frame_State_modNet <;> first | exact frame_sub rfl hL | skip) | with_reducible apply frame_ifDue | with_reducible exact frame_fault | with_reducible apply frame_next | with_reducible apply frame_foldl | with_reducible apply frame_foldl2 | with_reducible apply frame_foldl1 | split | intro _ | dsimp only)

theorem frame_execPtpSyncTimeout {L : List Piece} {u : State} {s : State} (hL : ∀ p, p ∈ ([.net] : List Piece) → p ∈ L)  (h : Framed L u s) : FramedAnswer L u (execPtpSyncTimeout s) := by
  unfold execPtpSyncTimeout
  repeat (first | with_reducible assumption | (with_reducible apply frame_State_modNet <;> first | exact frame_sub rfl hL | skip) | with_reducible apply frame_ifDue | with_reducible exact frame_fault | with_reducible apply frame_next | with_reducible apply frame_foldl | with_reducible apply frame_foldl2 | with_reducible apply frame_foldl1 | split | intro _ | dsimp only)

theorem frame_execAnnounce {L : List Piece} {u : State} (x0 : _) (x1 : _) (x2 : _) (x3 : _) {s : State} (hL : ∀ p, p ∈ ([.net] : List Piece) → p ∈ L)  (h : Framed L u s) : FramedAnswer L u (execAnnounce x0 x1 x2 x3 s) := by
  unfold execAnnounce
  repeat (first | with_reducible assumption | (with_reducible apply frame_State_modNet <;> first | exact frame_sub rfl hL | skip) | with_reducible apply frame_ifDue | with_reducible exact frame_fault | with_reducible apply frame_next | with_reducible apply frame_foldl | with_reducible apply frame_foldl2 | with_reducible apply frame_foldl1 | split | intro _ | dsimp only)

theorem frame_entryDone {L : List Piece} {u : State} (x0 : _) (x1 : _) (x2 : _) (x3 : _) {s : State} (hL : ∀ p, p ∈ ([.probe] : List Piece) → p ∈ L)  (h : Framed L u s) : Framed L u (entryDone x0 x1 x2 x3 s) := by
  unfold entryDone
  repeat (first | with_reducible assumption | (with_reducible apply frame_State_modProbe <;> first | exact frame_sub rfl hL | skip) | with_reducible apply frame_foldl | with_reducible apply frame_foldl2 | with_reducible apply frame_foldl1 | split | intro _ | dsimp only)

theorem frame_sequence {L : List Piece} {u : State} (x0 : _) {s : State} (hL : ∀ p, p ∈ ([.probe] : List Piece) → p ∈ L)  (h : Framed L u s) : Framed L u (sequence x0 s) := by
  unfold sequence
  repeat (first | with_reducible assumption | (with_reducible apply frame_State_modProbe <;> first | exact frame_sub rfl hL | skip) | (with_reducible apply frame_entryDone <;> first | exact frame_sub rfl hL | skip) | with_reducible apply frame_foldl | with_reducible apply frame_foldl2 | with_reducible apply frame_foldl1 | split | intro _ | dsimp only)

theorem frame_zeroDone {L : List Piece} {u : State} (x0 : _) (x1 : _) {s : State} (hL : ∀ p, p ∈ ([.probe] : List Piece) → p ∈ L)  (h : Framed L u s) : Framed L u (zeroDone x0 x1 s) := by
  unfold zeroDone
  repeat (first | with_reducible assumption | (with_reducible apply frame_State_modProbe <;> first | exact frame_sub rfl hL | skip) | with_reducible apply frame_foldl | with_reducible apply frame_foldl2 | with_reducible apply frame_foldl1 | split | intro _ | dsimp only)

theorem frame_fullDone {L : List Piece} {u : State} (x0 : _) (x1 : _) (x2 : _) {s : State} (hL : ∀ p, p ∈ ([.crock] : List Piece) → p ∈ L)  (h : Framed L u s) : Framed L u (fullDone x0 x1 x2 s) := by
  unfold fullDone
  repeat (first | with_reducible assumption | (with_reducible apply frame_State_modMirror <;> first | exact frame_sub rfl hL | skip) | with_reducible apply frame_foldl | with_reducible apply frame_foldl2 | with_reducible apply frame_foldl1 | split | intro _ | dsimp only)

theorem frame_captureDone {L : List Piece} {u : State} (x0 : _) {s : State} (hL : ∀ p, p ∈ ([.crock, .host, .pre, .funnels, .probe, .trace, .counters] : List Piece) → p ∈ L)  (h : Framed L u s) : Framed L u (captureDone x0 s) := by
  unfold captureDone
  repeat (first | with_reducible assumption | (with_reducible apply frame_State_modProbe <;> first | exact frame_sub rfl hL | skip) | (with_reducible apply frame_finish <;> first | exact frame_sub rfl hL | skip) | (with_reducible apply frame_zeroDone <;> first | exact frame_sub rfl hL | skip) | (with_reducible apply frame_fullDone <;> first | exact frame_sub rfl hL | skip) | with_reducible apply frame_foldl | with_reducible apply frame_foldl2 | with_reducible apply frame_foldl1 | split | intro _ | dsimp only)

theorem frame_captureOne {L : List Piece} {u : State} (x0 : _) (x1 : _) {s : State} (hL : ∀ p, p ∈ ([.crock, .host, .pre, .funnels, .probe, .trace, .counters] : List Piece) → p ∈ L)  (h : Framed L u s) : Framed L u (captureOne x0 x1 s) := by
  unfold captureOne
  repeat (first | with_reducible assumption | (with_reducible apply frame_State_modProbe <;> first | exact frame_sub rfl hL | skip) | (with_reducible apply frame_captureDone <;> first | exact frame_sub rfl hL | skip) | with_reducible apply frame_foldl | with_reducible apply frame_foldl2 | with_reducible apply frame_foldl1 | split | intro _ | dsimp only)

theorem frame_probeConversion {L : List Piece} {u : State} (x0 : _) {s : State} (hL : ∀ p, p ∈ ([.draw, .crock, .host, .pre, .funnels, .probe, .trace, .counters] : List Piece) → p ∈ L)  (h : Framed L u s) : Framed L u (probeConversion x0 s) := by
  unfold probeConversion
  repeat (first | with_reducible assumption | (with_reducible apply frame_State_nextDraw <;> first | exact frame_sub rfl hL | skip) | (with_reducible apply frame_captureOne <;> first | exact frame_sub rfl hL | skip) | (with_reducible apply frame_sequence <;> first | exact frame_sub rfl hL | skip) | with_reducible apply frame_foldl | with_reducible apply frame_foldl2 | with_reducible apply frame_foldl1 | split | intro _ | dsimp only)

theorem frame_execProbeConversion {L : List Piece} {u : State} (x0 : _) {s : State} (hL : ∀ p, p ∈ ([.draw, .crock, .host, .pre, .funnels, .probe, .trace, .counters] : List Piece) → p ∈ L)  (h : Framed L u s) : FramedAnswer L u (execProbeConversion x0 s) := by
  unfold execProbeConversion
  repeat (first | with_reducible assumption | (with_reducible apply frame_probeConversion <;> first | exact frame_sub rfl hL | skip) | with_reducible apply frame_ifDue | with_reducible exact frame_fault | with_reducible apply frame_next | with_reducible apply frame_foldl | with_reducible apply frame_foldl2 | with_reducible apply frame_foldl1 | split | intro _ | dsimp only)

theorem frame_tracePinSend {L : List Piece} {u : State} {s : State} (hL : ∀ p, p ∈ ([.host, .trace] : List Piece) → p ∈ L)  (h : Framed L u s) : Framed L u (tracePinSend s) := by
  unfold tracePinSend
  repeat (first | with_reducible assumption | (with_reducible apply frame_State_emit <;> first | exact frame_sub rfl hL | skip) | (with_reducible apply frame_State_modTrace <;> first | exact frame_sub rfl hL | skip) | with_reducible apply frame_foldl | with_reducible apply frame_foldl2 | with_reducible apply frame_foldl1 | split | intro _ | dsimp only)

theorem frame_execTracePinSend {L : List Piece} {u : State} {s : State} (hL : ∀ p, p ∈ ([.host, .trace] : List Piece) → p ∈ L)  (h : Framed L u s) : FramedAnswer L u (execTracePinSend s) := by
  unfold execTracePinSend
  repeat (first | with_reducible assumption | (with_reducible apply frame_tracePinSend <;> first | exact frame_sub rfl hL | skip) | with_reducible apply frame_ifDue | with_reducible exact frame_fault | with_reducible apply frame_next | with_reducible apply frame_foldl | with_reducible apply frame_foldl2 | with_reducible apply frame_foldl1 | split | intro _ | dsimp only)

theorem frame_smbGive {L : List Piece} {u : State} (x0 : _) {s : State} (hL : ∀ p, p ∈ ([.host] : List Piece) → p ∈ L)  (h : Framed L u s) : Framed L u (smbGive x0 s) := by
  unfold smbGive
  repeat (first | with_reducible assumption | (with_reducible apply frame_State_emit <;> first | exact frame_sub rfl hL | skip) | with_reducible apply frame_foldl | with_reducible apply frame_foldl2 | with_reducible apply frame_foldl1 | split | intro _ | dsimp only)

theorem frame_execSmbReadDevice {L : List Piece} {u : State} {s : State} (hL : ∀ p, p ∈ ([.host] : List Piece) → p ∈ L)  (h : Framed L u s) : FramedAnswer L u (execSmbReadDevice s) := by
  unfold execSmbReadDevice
  repeat (first | with_reducible assumption | (with_reducible apply frame_smbGive <;> first | exact frame_sub rfl hL | skip) | with_reducible apply frame_ifDue | with_reducible exact frame_fault | with_reducible apply frame_next | with_reducible apply frame_foldl | with_reducible apply frame_foldl2 | with_reducible apply frame_foldl1 | split | intro _ | dsimp only)

theorem frame_execSmbReadStatus {L : List Piece} {u : State} {s : State} (hL : ∀ p, p ∈ ([.host] : List Piece) → p ∈ L)  (h : Framed L u s) : FramedAnswer L u (execSmbReadStatus s) := by
  unfold execSmbReadStatus
  repeat (first | with_reducible assumption | (with_reducible apply frame_smbGive <;> first | exact frame_sub rfl hL | skip) | with_reducible apply frame_ifDue | with_reducible exact frame_fault | with_reducible apply frame_next | with_reducible apply frame_foldl | with_reducible apply frame_foldl2 | with_reducible apply frame_foldl1 | split | intro _ | dsimp only)

theorem frame_execSmbReadTjNow {L : List Piece} {u : State} {s : State} (hL : ∀ p, p ∈ ([.host] : List Piece) → p ∈ L)  (h : Framed L u s) : FramedAnswer L u (execSmbReadTjNow s) := by
  unfold execSmbReadTjNow
  repeat (first | with_reducible assumption | (with_reducible apply frame_smbGive <;> first | exact frame_sub rfl hL | skip) | with_reducible apply frame_ifDue | with_reducible exact frame_fault | with_reducible apply frame_next | with_reducible apply frame_foldl | with_reducible apply frame_foldl2 | with_reducible apply frame_foldl1 | split | intro _ | dsimp only)

theorem frame_execSmbReadTjPeak {L : List Piece} {u : State} {s : State} (hL : ∀ p, p ∈ ([.host] : List Piece) → p ∈ L)  (h : Framed L u s) : FramedAnswer L u (execSmbReadTjPeak s) := by
  unfold execSmbReadTjPeak
  repeat (first | with_reducible assumption | (with_reducible apply frame_smbGive <;> first | exact frame_sub rfl hL | skip) | with_reducible apply frame_ifDue | with_reducible exact frame_fault | with_reducible apply frame_next | with_reducible apply frame_foldl | with_reducible apply frame_foldl2 | with_reducible apply frame_foldl1 | split | intro _ | dsimp only)

theorem frame_execSmbReadPkgPower {L : List Piece} {u : State} {s : State} (hL : ∀ p, p ∈ ([.host] : List Piece) → p ∈ L)  (h : Framed L u s) : FramedAnswer L u (execSmbReadPkgPower s) := by
  unfold execSmbReadPkgPower
  repeat (first | with_reducible assumption | (with_reducible apply frame_smbGive <;> first | exact frame_sub rfl hL | skip) | with_reducible apply frame_ifDue | with_reducible exact frame_fault | with_reducible apply frame_next | with_reducible apply frame_foldl | with_reducible apply frame_foldl2 | with_reducible apply frame_foldl1 | split | intro _ | dsimp only)

theorem frame_execSmbReadStepping {L : List Piece} {u : State} {s : State} (hL : ∀ p, p ∈ ([.host] : List Piece) → p ∈ L)  (h : Framed L u s) : FramedAnswer L u (execSmbReadStepping s) := by
  unfold execSmbReadStepping
  repeat (first | with_reducible assumption | (with_reducible apply frame_smbGive <;> first | exact frame_sub rfl hL | skip) | with_reducible apply frame_ifDue | with_reducible exact frame_fault | with_reducible apply frame_next | with_reducible apply frame_foldl | with_reducible apply frame_foldl2 | with_reducible apply frame_foldl1 | split | intro _ | dsimp only)

theorem frame_execSmbReadPartSerial {L : List Piece} {u : State} {s : State} (hL : ∀ p, p ∈ ([.host] : List Piece) → p ∈ L)  (h : Framed L u s) : FramedAnswer L u (execSmbReadPartSerial s) := by
  unfold execSmbReadPartSerial
  repeat (first | with_reducible assumption | (with_reducible apply frame_smbGive <;> first | exact frame_sub rfl hL | skip) | with_reducible apply frame_ifDue | with_reducible exact frame_fault | with_reducible apply frame_next | with_reducible apply frame_foldl | with_reducible apply frame_foldl2 | with_reducible apply frame_foldl1 | split | intro _ | dsimp only)

theorem frame_execSmbReadFwVersion {L : List Piece} {u : State} {s : State} (hL : ∀ p, p ∈ ([.host] : List Piece) → p ∈ L)  (h : Framed L u s) : FramedAnswer L u (execSmbReadFwVersion s) := by
  unfold execSmbReadFwVersion
  repeat (first | with_reducible assumption | (with_reducible apply frame_smbGive <;> first | exact frame_sub rfl hL | skip) | with_reducible apply frame_ifDue | with_reducible exact frame_fault | with_reducible apply frame_next | with_reducible apply frame_foldl | with_reducible apply frame_foldl2 | with_reducible apply frame_foldl1 | split | intro _ | dsimp only)

theorem frame_execSmbReadHkEntry {L : List Piece} {u : State} (x0 : _) {s : State} (hL : ∀ p, p ∈ ([.host] : List Piece) → p ∈ L)  (h : Framed L u s) : FramedAnswer L u (execSmbReadHkEntry x0 s) := by
  unfold execSmbReadHkEntry
  repeat (first | with_reducible assumption | (with_reducible apply frame_smbGive <;> first | exact frame_sub rfl hL | skip) | with_reducible apply frame_ifDue | with_reducible exact frame_fault | with_reducible apply frame_next | with_reducible apply frame_foldl | with_reducible apply frame_foldl2 | with_reducible apply frame_foldl1 | split | intro _ | dsimp only)

theorem frame_execSmbReadHkAlert {L : List Piece} {u : State} {s : State} (hL : ∀ p, p ∈ ([.host] : List Piece) → p ∈ L)  (h : Framed L u s) : FramedAnswer L u (execSmbReadHkAlert s) := by
  unfold execSmbReadHkAlert
  repeat (first | with_reducible assumption | (with_reducible apply frame_smbGive <;> first | exact frame_sub rfl hL | skip) | with_reducible apply frame_ifDue | with_reducible exact frame_fault | with_reducible apply frame_next | with_reducible apply frame_foldl | with_reducible apply frame_foldl2 | with_reducible apply frame_foldl1 | split | intro _ | dsimp only)

theorem frame_execSmbusTimeout {L : List Piece} {u : State} {s : State} (hL : ∀ p, p ∈ ([] : List Piece) → p ∈ L)  (h : Framed L u s) : FramedAnswer L u (execSmbusTimeout s) := by
  unfold execSmbusTimeout
  repeat (first | with_reducible assumption | with_reducible exact frame_fault | with_reducible apply frame_next | with_reducible apply frame_foldl | with_reducible apply frame_foldl2 | with_reducible apply frame_foldl1 | split | intro _ | dsimp only)

theorem frame_tapSelect {L : List Piece} {u : State} (x0 : _) (x1 : _) {s : State} (hL : ∀ p, p ∈ ([.mgmt] : List Piece) → p ∈ L)  (h : Framed L u s) : Framed L u (tapSelect x0 x1 s) := by
  unfold tapSelect
  repeat (first | with_reducible assumption | (with_reducible apply frame_State_modMgmt <;> first | exact frame_sub rfl hL | skip) | with_reducible apply frame_foldl | with_reducible apply frame_foldl2 | with_reducible apply frame_foldl1 | split | intro _ | dsimp only)

theorem frame_execBypass {L : List Piece} {u : State} {s : State} (hL : ∀ p, p ∈ ([.host, .mgmt] : List Piece) → p ∈ L)  (h : Framed L u s) : FramedAnswer L u (execBypass s) := by
  unfold execBypass
  repeat (first | with_reducible assumption | (with_reducible apply frame_State_emit <;> first | exact frame_sub rfl hL | skip) | (with_reducible apply frame_tapSelect <;> first | exact frame_sub rfl hL | skip) | with_reducible apply frame_ifDue | with_reducible exact frame_fault | with_reducible apply frame_next | with_reducible apply frame_foldl | with_reducible apply frame_foldl2 | with_reducible apply frame_foldl1 | split | intro _ | dsimp only)

theorem frame_execIdcode {L : List Piece} {u : State} {s : State} (hL : ∀ p, p ∈ ([.host, .mgmt] : List Piece) → p ∈ L)  (h : Framed L u s) : FramedAnswer L u (execIdcode s) := by
  unfold execIdcode
  repeat (first | with_reducible assumption | (with_reducible apply frame_State_emit <;> first | exact frame_sub rfl hL | skip) | (with_reducible apply frame_tapSelect <;> first | exact frame_sub rfl hL | skip) | with_reducible apply frame_ifDue | with_reducible exact frame_fault | with_reducible apply frame_next | with_reducible apply frame_foldl | with_reducible apply frame_foldl2 | with_reducible apply frame_foldl1 | split | intro _ | dsimp only)

theorem frame_execSamplePreload {L : List Piece} {u : State} (x0 : _) {s : State} (hL : ∀ p, p ∈ ([.mgmt] : List Piece) → p ∈ L)  (h : Framed L u s) : FramedAnswer L u (execSamplePreload x0 s) := by
  unfold execSamplePreload
  repeat (first | with_reducible assumption | (with_reducible apply frame_State_modMgmt <;> first | exact frame_sub rfl hL | skip) | (with_reducible apply frame_tapSelect <;> first | exact frame_sub rfl hL | skip) | with_reducible apply frame_ifDue | with_reducible exact frame_fault | with_reducible apply frame_next | with_reducible apply frame_foldl | with_reducible apply frame_foldl2 | with_reducible apply frame_foldl1 | split | intro _ | dsimp only)

theorem frame_execExtest {L : List Piece} {u : State} {s : State} (hL : ∀ p, p ∈ ([.host, .mgmt] : List Piece) → p ∈ L)  (h : Framed L u s) : FramedAnswer L u (execExtest s) := by
  unfold execExtest
  repeat (first | with_reducible assumption | (with_reducible apply frame_State_emit <;> first | exact frame_sub rfl hL | skip) | (with_reducible apply frame_tapSelect <;> first | exact frame_sub rfl hL | skip) | with_reducible apply frame_ifDue | with_reducible exact frame_fault | with_reducible apply frame_next | with_reducible apply frame_foldl | with_reducible apply frame_foldl2 | with_reducible apply frame_foldl1 | split | intro _ | dsimp only)

theorem frame_execClamp {L : List Piece} {u : State} {s : State} (hL : ∀ p, p ∈ ([.host, .mgmt] : List Piece) → p ∈ L)  (h : Framed L u s) : FramedAnswer L u (execClamp s) := by
  unfold execClamp
  repeat (first | with_reducible assumption | (with_reducible apply frame_State_emit <;> first | exact frame_sub rfl hL | skip) | (with_reducible apply frame_tapSelect <;> first | exact frame_sub rfl hL | skip) | with_reducible apply frame_ifDue | with_reducible exact frame_fault | with_reducible apply frame_next | with_reducible apply frame_foldl | with_reducible apply frame_foldl2 | with_reducible apply frame_foldl1 | split | intro _ | dsimp only)

theorem frame_execHighz {L : List Piece} {u : State} {s : State} (hL : ∀ p, p ∈ ([.mgmt] : List Piece) → p ∈ L)  (h : Framed L u s) : FramedAnswer L u (execHighz s) := by
  unfold execHighz
  repeat (first | with_reducible assumption | (with_reducible apply frame_tapSelect <;> first | exact frame_sub rfl hL | skip) | with_reducible apply frame_ifDue | with_reducible exact frame_fault | with_reducible apply frame_next | with_reducible apply frame_foldl | with_reducible apply frame_foldl2 | with_reducible apply frame_foldl1 | split | intro _ | dsimp only)

theorem frame_sendOut {L : List Piece} {u : State} (x0 : _) (x1 : _) (x2 : _) (x3 : _) (x4 : _) (x5 : _) (x6 : _) {s : State} (hL : ∀ p, p ∈ ([.host, .tiles, .cores, .flows, .tb, .funnels, .counters] : List Piece) → p ∈ L)  (h : Framed L u s) : FramedOption L u (sendOut x0 x1 x2 x3 x4 x5 x6 s) := by
  unfold sendOut
  repeat (first | with_reducible assumption | (with_reducible apply frame_formResult <;> first | exact frame_sub rfl hL | skip) | (with_reducible apply frame_putAct <;> first | exact frame_sub rfl hL | skip) | (with_reducible apply frame_actTake <;> first | exact frame_sub rfl hL | skip) | (with_reducible apply frame_sendLadle <;> first | exact frame_sub rfl hL | skip) | with_reducible apply frame_each | with_reducible exact frame_none | with_reducible apply frame_some | with_reducible apply frame_foldl | with_reducible apply frame_foldl2 | with_reducible apply frame_foldl1 | split | intro _ | dsimp only)

theorem frame_finishItem {L : List Piece} {u : State} (x0 : _) (x1 : _) (x2 : _) (x3 : _) (x4 : _) (x5 : _) (x6 : _) (x7 : _) {s : State} (hL : ∀ p, p ∈ ([.host, .pre, .tiles, .cores, .flows, .tb, .funnels, .trace, .counters] : List Piece) → p ∈ L)  (h : Framed L u s) : Framed L u (finishItem x0 x1 x2 x3 x4 x5 x6 x7 s) := by
  unfold finishItem
  repeat (first | with_reducible assumption | (with_reducible apply frame_count <;> first | exact frame_sub rfl hL | skip) | (with_reducible apply frame_addSat <;> first | exact frame_sub rfl hL | skip) | (with_reducible apply frame_State_modQueue <;> first | exact frame_sub rfl hL | skip) | (with_reducible apply frame_advance <;> first | exact frame_sub rfl hL | skip) | (with_reducible apply frame_runParam <;> first | exact frame_sub rfl hL | skip) | (refine FramedOption.it ?_ _ (by with_reducible assumption); with_reducible apply frame_sendOut <;> first | exact frame_sub rfl hL | skip) | with_reducible apply frame_foldl | with_reducible apply frame_foldl2 | with_reducible apply frame_foldl1 | split | intro _ | dsimp only)

theorem frame_skStep {L : List Piece} {u : State} (x0 : _) (x1 : _) (x2 : _) (x3 : _) (x4 : _) (x5 : _) (x6 : _) {s : State} (hL : ∀ p, p ∈ ([.host, .pre, .tiles, .cores, .flows, .tb, .funnels, .trace, .counters] : List Piece) → p ∈ L)  (h : Framed L u s) : Framed L u (skStep x0 x1 x2 x3 x4 x5 x6 s) := by
  unfold skStep
  repeat (first | with_reducible assumption | (with_reducible apply frame_count <;> first | exact frame_sub rfl hL | skip) | (with_reducible apply frame_runParam <;> first | exact frame_sub rfl hL | skip) | (with_reducible apply frame_State_setQueue <;> first | exact frame_sub rfl hL | skip) | (with_reducible apply frame_finishItem <;> first | exact frame_sub rfl hL | skip) | with_reducible apply frame_foldl | with_reducible apply frame_foldl2 | with_reducible apply frame_foldl1 | split | intro _ | dsimp only)

theorem frame_execSkilletStep {L : List Piece} {u : State} (x0 : _) (x1 : _) {s : State} (hL : ∀ p, p ∈ ([.host, .pre, .tiles, .cores, .flows, .tb, .funnels, .trace, .counters] : List Piece) → p ∈ L)  (h : Framed L u s) : FramedAnswer L u (execSkilletStep x0 x1 s) := by
  unfold execSkilletStep
  repeat (first | with_reducible assumption | (with_reducible apply frame_skStep <;> first | exact frame_sub rfl hL | skip) | with_reducible apply frame_ifDue | with_reducible exact frame_fault | with_reducible apply frame_next | with_reducible apply frame_foldl | with_reducible apply frame_foldl2 | with_reducible apply frame_foldl1 | split | intro _ | dsimp only)

theorem frame_dropOps {L : List Piece} {u : State} (x0 : _) (x1 : _) (x2 : _) {s : State} (hL : ∀ p, p ∈ ([.tiles, .cores] : List Piece) → p ∈ L)  (h : Framed L u s) : Framed L u (dropOps x0 x1 x2 s) := by
  unfold dropOps
  repeat (first | with_reducible assumption | (with_reducible apply frame_State_modCore <;> first | exact frame_sub rfl hL | skip) | with_reducible apply frame_foldl | with_reducible apply frame_foldl2 | with_reducible apply frame_foldl1 | split | intro _ | dsimp only | (with_reducible apply frame_mk; iterate 22 (first | exact Or.inr (hL _ (by decide)) | with_reducible exact Or.inl rfl)))

theorem frame_forgetItem {L : List Piece} {u : State} (x0 : _) (x1 : _) (x2 : _) (x3 : _) (x4 : _) {s : State} (hL : ∀ p, p ∈ ([.cores] : List Piece) → p ∈ L)  (h : Framed L u s) : Framed L u (forgetItem x0 x1 x2 x3 x4 s) := by
  unfold forgetItem
  repeat (first | with_reducible assumption | (with_reducible apply frame_State_modCore <;> first | exact frame_sub rfl hL | skip) | with_reducible apply frame_foldl | with_reducible apply frame_foldl2 | with_reducible apply frame_foldl1 | split | intro _ | dsimp only)

theorem frame_resumeQueue {L : List Piece} {u : State} (x0 : _) (x1 : _) (x2 : _) {s : State} (hL : ∀ p, p ∈ ([.tiles, .cores, .flows] : List Piece) → p ∈ L)  (h : Framed L u s) : Framed L u (resumeQueue x0 x1 x2 s) := by
  unfold resumeQueue
  repeat (first | with_reducible assumption | (with_reducible apply frame_dropOps <;> first | exact frame_sub rfl hL | skip) | (with_reducible apply frame_State_modQueue <;> first | exact frame_sub rfl hL | skip) | (with_reducible apply frame_forgetItem <;> first | exact frame_sub rfl hL | skip) | (with_reducible apply frame_State_modFlows <;> first | exact frame_sub rfl hL | skip) | with_reducible apply frame_foldl | with_reducible apply frame_foldl2 | with_reducible apply frame_foldl1 | split | intro _ | dsimp only)

theorem frame_giveUp {L : List Piece} {u : State} (x0 : _) (x1 : _) (x2 : _) {s : State} (hL : ∀ p, p ∈ ([.host, .pre, .cores, .flows, .funnels, .trace, .counters] : List Piece) → p ∈ L)  (h : Framed L u s) : Framed L u (giveUp x0 x1 x2 s) := by
  unfold giveUp
  repeat (first | with_reducible assumption | (with_reducible apply frame_formRun <;> first | exact frame_sub rfl hL | skip) | (with_reducible apply frame_abandonPart <;> first | exact frame_sub rfl hL | skip) | with_reducible apply frame_foldl | with_reducible apply frame_foldl2 | with_reducible apply frame_foldl1 | split | intro _ | dsimp only)

theorem frame_execCoreSram {L : List Piece} {u : State} (x0 : _) (x1 : _) (x2 : _) (x3 : _) {s : State} (hL : ∀ p, p ∈ ([.draw, .power, .crock, .host, .pre, .tiles, .cores, .flows, .ingest, .tb, .funnels, .trace, .counters] : List Piece) → p ∈ L)  (h : Framed L u s) : FramedAnswer L u (execCoreSram x0 x1 x2 x3 s) := by
  unfold execCoreSram
  repeat (first | with_reducible assumption | (with_reducible apply frame_attribute_ <;> first | exact frame_sub rfl hL | skip) | (with_reducible apply frame_giveUp <;> first | exact frame_sub rfl hL | skip) | (with_reducible apply frame_resumeQueue <;> first | exact frame_sub rfl hL | skip) | with_reducible apply frame_ifDue | with_reducible exact frame_fault | with_reducible apply frame_next | with_reducible apply frame_foldl | with_reducible apply frame_foldl2 | with_reducible apply frame_foldl1 | split | intro _ | dsimp only)

end Sys2Proof.Machine
end

