-- ==== Sys2Proof/Laws/Memory.lean ====
section
/-! SUPPORT. Memory: every operation keeps the canonical form, a write is read back, and every other address reads
as before. -/

namespace Sys2Proof.Machine

/-! ## The canonical form -/

/-- A bound may be lowered. -/
theorem Memory.above_mono {lo hi : Nat} {m : List Host.Cell} (h : Memory.above hi m = true) (l : lo ≤ hi) :
    Memory.above lo m = true := by
  cases m with
  | nil => rfl
  | cons c r =>
    simp only [Memory.above, Bool.and_eq_true, decide_eq_true_eq] at h ⊢
    exact ⟨⟨by omega, h.1.2⟩, h.2⟩

/-- Putting a byte that is not 0 keeps the form. -/
theorem Memory.above_put {lo a : Nat} {b : Byte} (hb : b ≠ 0) (ha : lo ≤ a) :
    ∀ {m : List Host.Cell}, Memory.above lo m = true → Memory.above lo (Memory.put m a b) = true := by
  intro m
  induction m generalizing lo with
  | nil =>
    intro _
    simp only [Memory.put, Memory.above, Bool.and_eq_true, decide_eq_true_eq]
    exact ⟨⟨ha, hb⟩, trivial⟩
  | cons c r ih =>
    obtain ⟨k, v⟩ := c
    intro h
    simp only [Memory.above, Bool.and_eq_true, decide_eq_true_eq] at h
    unfold Memory.put
    split
    · simp only [Memory.above, Bool.and_eq_true, decide_eq_true_eq]
      exact ⟨⟨ha, hb⟩, ⟨by omega, h.1.2⟩, h.2⟩
    · split
      · subst_vars
        simp only [Memory.above, Bool.and_eq_true, decide_eq_true_eq]
        exact ⟨⟨ha, hb⟩, h.2⟩
      · simp only [Memory.above, Bool.and_eq_true, decide_eq_true_eq]
        exact ⟨h.1, ih (by omega) h.2⟩

/-- Removing a cell keeps the form. -/
theorem Memory.above_drop {lo a : Nat} :
    ∀ {m : List Host.Cell}, Memory.above lo m = true → Memory.above lo (Memory.drop m a) = true := by
  intro m
  induction m generalizing lo with
  | nil => intro h; exact h
  | cons c r ih =>
    obtain ⟨k, v⟩ := c
    intro h
    simp only [Memory.above, Bool.and_eq_true, decide_eq_true_eq] at h
    unfold Memory.drop
    split
    · exact Memory.above_mono h.2 (by omega)
    · simp only [Memory.above, Bool.and_eq_true, decide_eq_true_eq]
      exact ⟨h.1, ih h.2⟩

/-- A write keeps the canonical form. -/
theorem Memory.wf_write {m : List Host.Cell} (a : Nat) (b : Byte) (h : Memory.wf m = true) :
    Memory.wf (Memory.write m a b) = true := by
  unfold Memory.write
  split
  · exact Memory.above_drop h
  · exact Memory.above_put (by assumption) (Nat.zero_le a) h

/-- A write of bytes keeps the canonical form. -/
theorem Memory.wf_writeBytes {m : List Host.Cell} (a : Nat) (b : Bytes) (h : Memory.wf m = true) :
    Memory.wf (Memory.writeBytes m a b) = true := by
  induction b generalizing m a with
  | nil => exact h
  | cons x r ih => exact ih (a + 1) (Memory.wf_write a x h)

/-- Filtering keeps the form. -/
theorem Memory.above_filter {lo : Nat} (p : Host.Cell → Bool) :
    ∀ {m : List Host.Cell}, Memory.above lo m = true → Memory.above lo (m.filter p) = true := by
  intro m
  induction m generalizing lo with
  | nil => intro h; exact h
  | cons c r ih =>
    obtain ⟨k, v⟩ := c
    intro h
    simp only [Memory.above, Bool.and_eq_true, decide_eq_true_eq] at h
    rw [List.filter_cons]
    split
    · simp only [Memory.above, Bool.and_eq_true, decide_eq_true_eq]
      exact ⟨h.1, ih h.2⟩
    · exact Memory.above_mono (ih h.2) (by omega)

/-- Clearing keeps the canonical form. -/
theorem Memory.wf_clear {m : List Host.Cell} (a n : Nat) (h : Memory.wf m = true) :
    Memory.wf (Memory.clear m a n) = true := Memory.above_filter _ h

/-- Reset memory has the canonical form. -/
theorem Memory.wf_nil : Memory.wf [] = true := rfl

/-! ## What is read -/

/-- Below its bound a memory reads 0. -/
theorem Memory.read_below {lo a : Nat} (ha : a < lo) :
    ∀ {m : List Host.Cell}, Memory.above lo m = true → Memory.read m a = 0 := by
  intro m
  induction m generalizing lo with
  | nil => intro _; rfl
  | cons c r ih =>
    obtain ⟨k, v⟩ := c
    intro h
    simp only [Memory.above, Bool.and_eq_true, decide_eq_true_eq] at h
    have hk : k ≠ a := by omega
    simp only [Memory.read, hk, if_false]
    exact ih (by omega) h.2

/-- A put byte is read back, and no other address changes. -/
theorem Memory.read_put (a x : Nat) (b : Byte) :
    ∀ m : List Host.Cell, Memory.read (Memory.put m a b) x = if x = a then b else Memory.read m x := by
  intro m
  induction m with
  | nil =>
    by_cases hx : x = a
    · subst hx; simp [Memory.put, Memory.read]
    · have : a ≠ x := fun e => hx e.symm
      simp [Memory.put, Memory.read, hx, this]
  | cons c r ih =>
    obtain ⟨k, v⟩ := c
    unfold Memory.put
    split
    · by_cases hx : x = a
      · subst hx; simp [Memory.read]
      · have : a ≠ x := fun e => hx e.symm
        simp [Memory.read, hx, this]
    · split
      · subst_vars
        by_cases hx : x = k
        · subst hx; simp [Memory.read]
        · have : k ≠ x := fun e => hx e.symm
          simp [Memory.read, hx, this]
      · by_cases hk : k = x
        · subst hk
          have : k ≠ a := by omega
          simp [Memory.read, this]
        · simp only [Memory.read, hk, if_false]
          exact ih

/-- A removed cell reads 0, and no other address changes. -/
theorem Memory.read_drop (a x : Nat) {lo : Nat} :
    ∀ {m : List Host.Cell}, Memory.above lo m = true →
      Memory.read (Memory.drop m a) x = if x = a then 0 else Memory.read m x := by
  intro m
  induction m generalizing lo with
  | nil => intro _; simp [Memory.drop, Memory.read]
  | cons c r ih =>
    obtain ⟨k, v⟩ := c
    intro h
    simp only [Memory.above, Bool.and_eq_true, decide_eq_true_eq] at h
    unfold Memory.drop
    split
    · subst_vars
      by_cases hx : x = k
      · subst hx
        simp only [if_true]
        exact Memory.read_below (by omega) h.2
      · have : k ≠ x := fun e => hx e.symm
        simp [Memory.read, hx, this]
    · by_cases hk : k = x
      · subst hk
        have : k ≠ a := by omega
        simp [Memory.read, this]
      · simp only [Memory.read, hk, if_false]
        exact ih h.2

/-- A written byte is read back, and every other address reads as before. -/
theorem Memory.read_write {m : List Host.Cell} (a x : Nat) (b : Byte) (h : Memory.wf m = true) :
    Memory.read (Memory.write m a b) x = if x = a then b else Memory.read m x := by
  unfold Memory.write
  split
  · rename_i hb
    rw [Memory.read_drop a x h, hb]
  · exact Memory.read_put a x b m

/-- Bytes below what is written read as before. -/
theorem Memory.read_writeBytes_below {m : List Host.Cell} (a x : Nat) (b : Bytes) (h : Memory.wf m = true) (hx : x < a) :
    Memory.read (Memory.writeBytes m a b) x = Memory.read m x := by
  induction b generalizing m a with
  | nil => rfl
  | cons y r ih =>
    show Memory.read (Memory.writeBytes (Memory.write m a y) (a + 1) r) x = _
    rw [ih (a + 1) (Memory.wf_write a y h) (by omega), Memory.read_write a x y h, if_neg (by omega)]

/-- Every address outside the written bytes reads as before. -/
theorem Memory.read_writeBytes_other {m : List Host.Cell} (a x : Nat) (b : Bytes) (h : Memory.wf m = true)
    (hx : x < a ∨ a + b.length ≤ x) : Memory.read (Memory.writeBytes m a b) x = Memory.read m x := by
  induction b generalizing m a with
  | nil => rfl
  | cons y r ih =>
    show Memory.read (Memory.writeBytes (Memory.write m a y) (a + 1) r) x = _
    simp only [List.length_cons] at hx
    rw [ih (a + 1) (Memory.wf_write a y h) (by omega), Memory.read_write a x y h, if_neg (by omega)]

/-- Written bytes are read back. -/
theorem Memory.readBytes_writeBytes {m : List Host.Cell} (a : Nat) (b : Bytes) (h : Memory.wf m = true) :
    Memory.readBytes (Memory.writeBytes m a b) a b.length = b := by
  induction b generalizing m a with
  | nil => rfl
  | cons y r ih =>
    show Memory.read (Memory.writeBytes (Memory.write m a y) (a + 1) r) a ::
      Memory.readBytes (Memory.writeBytes (Memory.write m a y) (a + 1) r) (a + 1) r.length = y :: r
    rw [Memory.read_writeBytes_below (a + 1) a r (Memory.wf_write a y h) (by omega), Memory.read_write a a y h,
      if_pos rfl, ih (a + 1) (Memory.wf_write a y h)]

/-- The number of bytes read is the number asked for. -/
@[simp] theorem Memory.length_readBytes (m : List Host.Cell) (a n : Nat) : (Memory.readBytes m a n).length = n := by
  induction n generalizing a with
  | zero => rfl
  | succ k ih => simp [Memory.readBytes, ih]

/-- Two canonical memories that read alike everywhere are the same list. -/
theorem Memory.ext_wf {lo : Nat} : ∀ {m n : List Host.Cell}, Memory.above lo m = true → Memory.above lo n = true →
    (∀ a, Memory.read m a = Memory.read n a) → m = n := by
  intro m
  induction m generalizing lo with
  | nil =>
    intro n _ hn h
    cases n with
    | nil => rfl
    | cons c r =>
      obtain ⟨k, v⟩ := c
      simp only [Memory.above, Bool.and_eq_true, decide_eq_true_eq] at hn
      exact absurd (by simpa [Memory.read] using (h k).symm) hn.1.2
  | cons c r ih =>
    obtain ⟨k, v⟩ := c
    intro n hm hn h
    simp only [Memory.above, Bool.and_eq_true, decide_eq_true_eq] at hm
    cases n with
    | nil => exact absurd (by simpa [Memory.read] using h k) hm.1.2
    | cons d q =>
      obtain ⟨j, u⟩ := d
      simp only [Memory.above, Bool.and_eq_true, decide_eq_true_eq] at hn
      have hkj : k = j := by
        rcases Nat.lt_trichotomy k j with hlt | heq | hgt
        · have h1 := h k
          have hne : j ≠ k := by omega
          simp only [Memory.read, hne, if_false, if_true] at h1
          rw [Memory.read_below (by omega) hn.2] at h1
          exact absurd h1 hm.1.2
        · exact heq
        · have h1 := h j
          have hne : k ≠ j := by omega
          simp only [Memory.read, hne, if_false, if_true] at h1
          rw [Memory.read_below (by omega) hm.2] at h1
          exact absurd h1.symm hn.1.2
      subst hkj
      have hv : v = u := by simpa [Memory.read] using h k
      subst hv
      have hr : r = q := ih hm.2 hn.2 (fun a => by
        by_cases ha : a = k
        · subst ha
          rw [Memory.read_below (by omega) hm.2, Memory.read_below (by omega) hn.2]
        · have hne : k ≠ a := fun e => ha e.symm
          have h1 := h a
          simpa only [Memory.read, hne, if_false] using h1)
      rw [hr]

end Sys2Proof.Machine
end

