-- ==== Sys2Proof/Laws/PerInstr.lean ====
section
/-! SUPPORT. The family F, one lemma a command: a command that is a packet is well-formed exactly where its payload with the
six-word header stays within the 255 words LENGTH can state (Table 10.2). -/

namespace Sys2Proof.Laws.F

/-- What F says of a command. -/
def Statement (i : Instr) : Prop :=
  ∀ p, Safety.packetOf i = some p → (WellFormed.check i = true ↔ 6 + p.2.2.length ≤ 255)

/-- A packet's check is its length's. -/
theorem packet {i : Instr} {op : Nat} {h : Hdr} {w : List Word} (hp : Safety.packetOf i = some (op, h, w))
    (hc : WellFormed.check i = WellFormed.payload w) : Statement i := by
  intro p e
  rw [hp] at e
  cases e
  rw [hc]
  simp only [WellFormed.payload, decide_eq_true_eq]
  omega

/-- A command that is no packet has nothing to show. -/
theorem other {i : Instr} (hp : Safety.packetOf i = none) : Statement i := by
  intro p e
  rw [hp] at e
  cases e

theorem coldPowerOn : Statement .coldPowerOn := other rfl
theorem resetNAssert : Statement .resetNAssert := other rfl
theorem resetNRelease : Statement .resetNRelease := other rfl
theorem startupReady : Statement .startupReady := other rfl
theorem fwFallback (readyNotReached : Bool) : Statement (.fwFallback readyNotReached) := other rfl
theorem pwrFailNAssert : Statement .pwrFailNAssert := other rfl
theorem crockSaveDone : Statement .crockSaveDone := other rfl
theorem pciePerstNAssert : Statement .pciePerstNAssert := other rfl
theorem flrVf (vf : Fin 32) : Statement (.flrVf vf) := other rfl
theorem flrPf : Statement .flrPf := other rfl
theorem refclkLost : Statement .refclkLost := other rfl
theorem refclkRestored : Statement .refclkRestored := other rfl
theorem powerMeasure (tenMilliwatt : BitVec 16) : Statement (.powerMeasure tenMilliwatt) := other rfl
theorem fastLimiter (tenMilliwatt : BitVec 16) : Statement (.fastLimiter tenMilliwatt) := other rfl
theorem thermalSample (tj : BitVec 16) : Statement (.thermalSample tj) := other rfl
theorem powerTargetActive (fn : Fin 32) : Statement (.powerTargetActive fn) := other rfl
theorem powerTargetIdle (fn : Fin 32) : Statement (.powerTargetIdle fn) := other rfl
theorem powerTargetArrayRetain (fn : Fin 32) : Statement (.powerTargetArrayRetain fn) := other rfl
theorem powerTargetStandby (fn : Fin 32) : Statement (.powerTargetStandby fn) := other rfl
theorem coreQuiesce (fn : Fin 32) (core : Fin 32) : Statement (.coreQuiesce fn core) := other rfl
theorem coreUnquiesce (fn : Fin 32) (core : Fin 32) : Statement (.coreUnquiesce fn core) := other rfl
theorem tbArm (fn : Fin 32) : Statement (.tbArm fn) := other rfl
theorem tbStop (fn : Fin 32) : Statement (.tbStop fn) := other rfl
theorem sysrefEdge (marginal : Bool) : Statement (.sysrefEdge marginal) := other rfl
theorem tbTickLoRead (fn : Fin 32) : Statement (.tbTickLoRead fn) := other rfl
theorem trigInEdge (pin : Fin 8) (rising : Bool) (short : Bool) (ps : Fin 4000) : Statement (.trigInEdge pin rising short ps) := other rfl
theorem trigOutAssert (pin : Fin 8) : Statement (.trigOutAssert pin) := other rfl
theorem tickPtpCapture : Statement .tickPtpCapture := other rfl
theorem laneSyncLock (lane : Fin 16) : Statement (.laneSyncLock lane) := other rfl
theorem laneLockLoss (lane : Fin 16) : Statement (.laneLockLoss lane) := other rfl
theorem sampleArrival (link : Fin 4) (k0 : Nat) (crcBad : BitVec 16) (frames : List (List (BitVec 16 × BitVec 3))) : Statement (.sampleArrival link k0 crcBad frames) := other rfl
theorem linkDownDrop (flow : Fin 16384) : Statement (.linkDownDrop flow) := other rfl
theorem pushWindowWrite (fn : Fin 32) (offset : BitVec 20) (data : List Word) : Statement (.pushWindowWrite fn offset data) := other rfl
theorem pullRingPoll (fn : Fin 32) (lane : Fin 16) : Statement (.pullRingPoll fn lane) := other rfl
theorem packetTake (fn : Fin 32) (lane : Fin 16) : Statement (.packetTake fn lane) := other rfl
theorem atTickDue : Statement .atTickDue := other rfl
theorem fenceRelease (fn : Fin 32) (lane : Fin 16) : Statement (.fenceRelease fn lane) := other rfl
theorem replyWrite (fn : Fin 32) (ring : Fin 16) : Statement (.replyWrite fn ring) := other rfl
theorem msixHoldoffEnd (fn : Fin 32) (vector : Fin 64) : Statement (.msixHoldoffEnd fn vector) := other rfl
theorem laneEnable (fn : Fin 32) (lane : Fin 16) : Statement (.laneEnable fn lane) := other rfl
theorem laneDisable (fn : Fin 32) (lane : Fin 16) : Statement (.laneDisable fn lane) := other rfl
theorem replyEnable (fn : Fin 32) (ring : Fin 16) : Statement (.replyEnable fn ring) := other rfl
theorem ptReplyRead (fn : Fin 32) (ring : Fin 16) (value : Word) : Statement (.ptReplyRead fn ring value) := other rfl
theorem registerWrite (fn : Fin 32) (offset : BitVec 20) (wide : Bool) (value : BitVec 64) : Statement (.registerWrite fn offset wide value) := other rfl
theorem nop (h : Hdr) (w : List Word) : Statement (.nop h w) := packet rfl rfl
theorem getCaps (h : Hdr) (w : List Word) : Statement (.getCaps h w) := packet rfl rfl
theorem setLevel (h : Hdr) (w : List Word) : Statement (.setLevel h w) := packet rfl rfl
theorem commit (h : Hdr) (w : List Word) : Statement (.commit h w) := packet rfl rfl
theorem commitTick (part : Fin 8) : Statement (.commitTick part) := other rfl
theorem cmdCancel (h : Hdr) (w : List Word) : Statement (.cmdCancel h w) := packet rfl rfl
theorem stageDiscard (h : Hdr) (w : List Word) : Statement (.stageDiscard h w) := packet rfl rfl
theorem modelLoad (h : Hdr) (w : List Word) : Statement (.modelLoad h w) := packet rfl rfl
theorem tileProgram (h : Hdr) (w : List Word) : Statement (.tileProgram h w) := packet rfl rfl
theorem tileVerify (h : Hdr) (w : List Word) : Statement (.tileVerify h w) := packet rfl rfl
theorem modelCommit (h : Hdr) (w : List Word) : Statement (.modelCommit h w) := packet rfl rfl
theorem modelRetire (h : Hdr) (w : List Word) : Statement (.modelRetire h w) := packet rfl rfl
theorem tileConfig (h : Hdr) (w : List Word) : Statement (.tileConfig h w) := packet rfl rfl
theorem flowOpen (h : Hdr) (w : List Word) : Statement (.flowOpen h w) := packet rfl rfl
theorem flowBind (h : Hdr) (w : List Word) : Statement (.flowBind h w) := packet rfl rfl
theorem flowClose (h : Hdr) (w : List Word) : Statement (.flowClose h w) := packet rfl rfl
theorem flowClosed (flow : Fin 16384) : Statement (.flowClosed flow) := other rfl
theorem flowSnapshot (h : Hdr) (w : List Word) : Statement (.flowSnapshot h w) := packet rfl rfl
theorem krnSubmit (h : Hdr) (w : List Word) : Statement (.krnSubmit h w) := packet rfl rfl
theorem krnDefine (h : Hdr) (w : List Word) : Statement (.krnDefine h w) := packet rfl rfl
theorem krnRelease (h : Hdr) (w : List Word) : Statement (.krnRelease h w) := packet rfl rfl
theorem syncRead (h : Hdr) (w : List Word) : Statement (.syncRead h w) := packet rfl rfl
theorem syncSet (h : Hdr) (w : List Word) : Statement (.syncSet h w) := packet rfl rfl
theorem trigPulse (h : Hdr) (w : List Word) : Statement (.trigPulse h w) := packet rfl rfl
theorem ruleSet (h : Hdr) (w : List Word) : Statement (.ruleSet h w) := packet rfl rfl
theorem ruleClear (h : Hdr) (w : List Word) : Statement (.ruleClear h w) := packet rfl rfl
theorem tickRead (h : Hdr) (w : List Word) : Statement (.tickRead h w) := packet rfl rfl
theorem igChanSet (h : Hdr) (w : List Word) : Statement (.igChanSet h w) := packet rfl rfl
theorem igDecSet (h : Hdr) (w : List Word) : Statement (.igDecSet h w) := packet rfl rfl
theorem igCoefLoad (h : Hdr) (w : List Word) : Statement (.igCoefLoad h w) := packet rfl rfl
theorem maintStart (h : Hdr) (w : List Word) : Statement (.maintStart h w) := packet rfl rfl
theorem selftest (h : Hdr) (w : List Word) : Statement (.selftest h w) := packet rfl rfl
theorem recal (h : Hdr) (w : List Word) : Statement (.recal h w) := packet rfl rfl
theorem hkSeq (h : Hdr) (w : List Word) : Statement (.hkSeq h w) := packet rfl rfl
theorem hkCalZero (h : Hdr) (w : List Word) : Statement (.hkCalZero h w) := packet rfl rfl
theorem hkCalFull (h : Hdr) (w : List Word) : Statement (.hkCalFull h w) := packet rfl rfl
theorem attest (h : Hdr) (w : List Word) : Statement (.attest h w) := packet rfl rfl
theorem fwStage (h : Hdr) (w : List Word) : Statement (.fwStage h w) := packet rfl rfl
theorem fwActivate (h : Hdr) (w : List Word) : Statement (.fwActivate h w) := packet rfl rfl
theorem faultRead (h : Hdr) (w : List Word) : Statement (.faultRead h w) := packet rfl rfl
theorem faultExport (h : Hdr) (w : List Word) : Statement (.faultExport h w) := packet rfl rfl
theorem unitRetire (h : Hdr) (w : List Word) : Statement (.unitRetire h w) := packet rfl rfl
theorem unitRestore (h : Hdr) (w : List Word) : Statement (.unitRestore h w) := packet rfl rfl
theorem netPortSet (h : Hdr) (w : List Word) : Statement (.netPortSet h w) := packet rfl rfl
theorem netPeerSet (h : Hdr) (w : List Word) : Statement (.netPeerSet h w) := packet rfl rfl
theorem netStatus (h : Hdr) (w : List Word) : Statement (.netStatus h w) := packet rfl rfl
theorem slicerCycle (part : Fin 8) : Statement (.slicerCycle part) := other rfl
theorem overloadClear (part : Fin 8) : Statement (.overloadClear part) := other rfl
theorem flowEntryWatchdog (part : Fin 8) (line : Fin 16384) : Statement (.flowEntryWatchdog part line) := other rfl
theorem layer (core : Fin 32) (queue : Fin 4) : Statement (.layer core queue) := other rfl
theorem signal (core : Fin 32) (queue : Fin 4) : Statement (.signal core queue) := other rfl
theorem wait (core : Fin 32) (queue : Fin 4) : Statement (.wait core queue) := other rfl
theorem lidArrive (core : Fin 32) (queue : Fin 4) : Statement (.lidArrive core queue) := other rfl
theorem fence (core : Fin 32) (queue : Fin 4) : Statement (.fence core queue) := other rfl
theorem workReset (core : Fin 32) (queue : Fin 4) : Statement (.workReset core queue) := other rfl
theorem signalArrival (src : Fin 32) (dst : Fin 32) (fate : FlitFate) : Statement (.signalArrival src dst fate) := other rfl
theorem stockpotSignalApply (core : Fin 32) : Statement (.stockpotSignalApply core) := other rfl
theorem lidEdge (line : Fin 16) : Statement (.lidEdge line) := other rfl
theorem fenceAck (core : Fin 32) (queue : Fin 4) : Statement (.fenceAck core queue) := other rfl
theorem workClaim (core : Fin 32) (queue : Fin 4) : Statement (.workClaim core queue) := other rfl
theorem workClaimReply (core : Fin 32) (queue : Fin 4) : Statement (.workClaimReply core queue) := other rfl
theorem queueWatchdog (core : Fin 32) (queue : Fin 4) : Statement (.queueWatchdog core queue) := other rfl
theorem scoopCodes (core : Fin 32) (queue : Fin 4) : Statement (.scoopCodes core queue) := other rfl
theorem tileOpAdmit (core : Fin 32) (queue : Fin 4) : Statement (.tileOpAdmit core queue) := other rfl
theorem phaseStart (core : Fin 32) (tile : Fin 33) : Statement (.phaseStart core tile) := other rfl
theorem phaseLatch (core : Fin 32) (tile : Fin 33) (deviation : List (Nat × Int)) : Statement (.phaseLatch core tile deviation) := other rfl
theorem tongsDone (core : Fin 32) (first : List KatReading) (second : List KatReading) : Statement (.tongsDone core first second) := other rfl
theorem skilletStep (core : Fin 32) (queue : Fin 4) : Statement (.skilletStep core queue) := other rfl
theorem psumArrival (src : Fin 32) (dst : Fin 32) (fate : FlitFate) : Statement (.psumArrival src dst fate) := other rfl
theorem activationArrival (src : Fin 32) (dst : Fin 32) (fate : FlitFate) : Statement (.activationArrival src dst fate) := other rfl
theorem sieveBatchEnd (core : Fin 32) (tile : Fin 33) (block : Fin 16) : Statement (.sieveBatchEnd core tile block) := other rfl
theorem blockScan (core : Fin 32) (tile : Fin 33) (readings : List (Nat × Nat × Int)) : Statement (.blockScan core tile readings) := other rfl
theorem checksDone (part : Fin 8) : Statement (.checksDone part) := other rfl
theorem funnelReserve (part : Fin 8) : Statement (.funnelReserve part) := other rfl
theorem funnelDmaBurst (part : Fin 8) : Statement (.funnelDmaBurst part) := other rfl
theorem ptFnRead (fn : Fin 32) (part : Fin 8) (value : Word) : Statement (.ptFnRead fn part value) := other rfl
theorem ptFnPio (fn : Fin 32) (part : Fin 8) (first : Fin 64) (bytes : Nat) : Statement (.ptFnPio fn part first bytes) := other rfl
theorem refSampleDue (core : Fin 32) (tile : Fin 33) : Statement (.refSampleDue core tile) := other rfl
theorem refSampleDone (core : Fin 32) (tile : Fin 33) (r : RefReading) : Statement (.refSampleDone core tile r) := other rfl
theorem gainFeedforward (core : Fin 32) (temp : Int) : Statement (.gainFeedforward core temp) := other rfl
theorem calWithhold (core : Fin 32) (tile : Fin 33) : Statement (.calWithhold core tile) := other rfl
theorem convCalDue (core : Fin 32) (tile : Fin 33) : Statement (.convCalDue core tile) := other rfl
theorem convCalDone (core : Fin 32) (tile : Fin 33) (r : CalReading) (again : CalReading) (temp : Int) : Statement (.convCalDone core tile r again temp) := other rfl
theorem tileTestDue (core : Fin 32) (tile : Fin 33) : Statement (.tileTestDue core tile) := other rfl
theorem tileTestDone (core : Fin 32) (tile : Fin 33) (first : List KatReading) (second : List KatReading) : Statement (.tileTestDone core tile first second) := other rfl
theorem coreSelftestSlice (core : Fin 32) (failed : Option (BitVec 16)) (last : Bool) : Statement (.coreSelftestSlice core failed last) := other rfl
theorem maintArbiterRun : Statement .maintArbiterRun := other rfl
theorem programmingStart (core : Fin 32) (tile : Fin 33) : Statement (.programmingStart core tile) := other rfl
theorem programmingDone (core : Fin 32) (tile : Fin 33) (unverified : List (Nat × Nat)) (known : List KatReading) (cal : CalReading) (r : RefReading) : Statement (.programmingDone core tile unverified known cal r) := other rfl
theorem modelEraseStart (core : Fin 32) (tile : Fin 33) : Statement (.modelEraseStart core tile) := other rfl
theorem tileEraseDone (core : Fin 32) (tile : Fin 33) : Statement (.tileEraseDone core tile) := other rfl
theorem patrolScrub (line : Nat) (corrected : Bool) : Statement (.patrolScrub line corrected) := other rfl
theorem memUncorrectable (line : Nat) (bothCopies : Bool) : Statement (.memUncorrectable line bothCopies) := other rfl
theorem stockpotUncorr (line : Fin 16384) : Statement (.stockpotUncorr line) := other rfl
theorem portLinkUp (port : Fin 2) : Statement (.portLinkUp port) := other rfl
theorem helloTimer : Statement .helloTimer := other rfl
theorem hello (m : MsgHdr) (levels : BitVec 8) (highest : BitVec 8) (fw : Word) (format : BitVec 16) (serial : BitVec 64) : Statement (.hello m levels highest fw format serial) := other rfl
theorem record (m : MsgHdr) (payload : List Byte) : Statement (.record m payload) := other rfl
theorem ack (m : MsgHdr) : Statement (.ack m) := other rfl
theorem ringCredit (m : MsgHdr) (offset : BitVec 64) : Statement (.ringCredit m offset) := other rfl
theorem traceRead (m : MsgHdr) (offset : Word) (count : Word) : Statement (.traceRead m offset count) := other rfl
theorem recordResend (part : Fin 8) (peer : Fin 64) : Statement (.recordResend part peer) := other rfl
theorem arpRequest (port : Fin 2) (target : Word) : Statement (.arpRequest port target) := other rfl
theorem neighbourSolicitation (port : Fin 2) (target : BitVec 128) : Statement (.neighbourSolicitation port target) := other rfl
theorem netRxDrop (port : Fin 2) : Statement (.netRxDrop port) := other rfl
theorem ptpSync (port : Fin 2) (domain : BitVec 8) (twoStep : Bool) (offset : Int) : Statement (.ptpSync port domain twoStep offset) := other rfl
theorem ptpSyncTimeout : Statement .ptpSyncTimeout := other rfl
theorem roceAck (part : Fin 8) (peer : Fin 64) (psn : BitVec 24) : Statement (.roceAck part peer psn) := other rfl
theorem roceNak (part : Fin 8) (peer : Fin 64) (psn : BitVec 24) (remoteAccess : Bool) : Statement (.roceNak part peer psn remoteAccess) := other rfl
theorem roceCnp (part : Fin 8) (peer : Fin 64) : Statement (.roceCnp part peer) := other rfl
theorem roceTimeout (part : Fin 8) (peer : Fin 64) : Statement (.roceTimeout part peer) := other rfl
theorem roceRateRecover (part : Fin 8) (peer : Fin 64) : Statement (.roceRateRecover part peer) := other rfl
theorem probeConversion (level16 : Int) : Statement (.probeConversion level16) := other rfl
theorem hkAlertClear (fn : Fin 32) (value : Word) : Statement (.hkAlertClear fn value) := other rfl
theorem tracePinSend : Statement .tracePinSend := other rfl
theorem smbReadDevice : Statement .smbReadDevice := other rfl
theorem smbReadStatus : Statement .smbReadStatus := other rfl
theorem smbReadTjNow : Statement .smbReadTjNow := other rfl
theorem smbReadTjPeak : Statement .smbReadTjPeak := other rfl
theorem smbReadPkgPower : Statement .smbReadPkgPower := other rfl
theorem smbReadStepping : Statement .smbReadStepping := other rfl
theorem smbReadPartSerial : Statement .smbReadPartSerial := other rfl
theorem smbReadFwVersion : Statement .smbReadFwVersion := other rfl
theorem smbReadHkEntry (entry : Fin 16) : Statement (.smbReadHkEntry entry) := other rfl
theorem smbReadHkAlert : Statement .smbReadHkAlert := other rfl
theorem smbusTimeout : Statement .smbusTimeout := other rfl
theorem bypass : Statement .bypass := other rfl
theorem idcode : Statement .idcode := other rfl
theorem samplePreload (chain : List Bool) : Statement (.samplePreload chain) := other rfl
theorem extest : Statement .extest := other rfl
theorem clamp : Statement .clamp := other rfl
theorem highz : Statement .highz := other rfl
theorem vddAonFall : Statement .vddAonFall := other rfl
theorem pwrFailNDeassert : Statement .pwrFailNDeassert := other rfl
theorem pciePerstNRelease : Statement .pciePerstNRelease := other rfl
theorem portLinkDown (port : Fin 2) : Statement (.portLinkDown port) := other rfl
theorem coreSram (core : Fin 32) (queue : Fin 4) (array : BitVec 4) (address : BitVec 24) : Statement (.coreSram core queue array address) := other rfl
theorem mirrorUncorrectable : Statement .mirrorUncorrectable := other rfl
theorem powerState : Statement .powerState := other rfl
theorem vfEnable (count : Fin 32) : Statement (.vfEnable count) := other rfl
theorem busMasterEnable (fn : Fin 32) (on : Bool) : Statement (.busMasterEnable fn on) := other rfl
theorem announce (port : Fin 2) (domain : BitVec 8) (rank : Nat) (master : BitVec 64) : Statement (.announce port domain rank master) := other rfl
theorem followUp (port : Fin 2) (domain : BitVec 8) (offset : Int) : Statement (.followUp port domain offset) := other rfl
theorem delayResp (port : Fin 2) (domain : BitVec 8) (delay : Int) : Statement (.delayResp port domain delay) := other rfl
theorem pfc (port : Fin 2) (prio : Fin 8) (quanta : BitVec 16) : Statement (.pfc port prio quanta) := other rfl

end Sys2Proof.Laws.F
end

