-- ==== Sys2Proof/Tests/Slice0.lean ====
section
/-! SUPPORT. Tests: ill-formed operands that each check refuses, single steps whose results are worked out by hand from the
rules, and, for every statement with hypotheses, a state and operands that meet them. -/

namespace Sys2Proof.Tests

set_option Elab.async false

open Sys2Proof.Machine Sys2Proof.Safety

/-! ## States the tests start from -/

/-- The device right after start-up: READY, lane 0 of the physical function and its reply ring enabled, level 2. -/
def ready : State :=
  { State.reset with
    power := { Power.start with startup := .none, ready := true }
    host := { HostSide.start with configServed := true, level := [(0, 2)],
                                  lanes := [(0, { Lane.start with enable := true, replyEnable := true })] } }

/-- A request header of the physical function's lane 0 at level 2 for partition p. -/
def hd (p : Nat) : Hdr :=
  { fn := 0, lane := 0, level := 2, fence := false, irq := false, tag := 7, partition := BitVec.ofNat 8 p, queue := 0, atTick := 0 }

/-- The state a command leaves, or the state before it where it leaves none. -/
def after (c : Instr) (s : State) : State :=
  match exec c s with
  | .next t => t
  | _ => s

/-- The timebase running at a tick with the parameters link 0 has at reset. -/
def running (tick : Nat) (s : State) : State :=
  { s with tb := { s.tb with state := 2, tick := tick, s := 1, r := 32500, f := 2, e := 1 } }

/-! ## What the statements about every command and every step assume -/

theorem witness_idle : State.reset.pending = [] ∧ State.reset.power.refclkLost = false ∧ State.reset.tb.ptpNs < 1000000000 := by
  decide

/-- The PTP clock carries into its seconds. -/
theorem test_idle_carries :
    (match step { State.reset with tb := { Timebase.start with ptpNs := 999999997 } } with
     | .next t => (t.tb.ptpSec, t.tb.ptpNs, t.clk) | _ => (0, 0, 0)) = (1, 1, 1) := by decide

/-- Without REFCLK it stands. -/
theorem witness_idle_lost : ({ ready with power := { ready.power with refclkLost := true } }).pending = [] ∧
    ({ ready with power := { ready.power with refclkLost := true } }).power.refclkLost = true := by decide

theorem witness_memoryForm : HostMemoryForm ({ ready with pending := [.flrPf] }) ∧
    ∃ t, step { ready with pending := [.flrPf] } = .next t := ⟨rfl, _, rfl⟩

theorem witness_fresh : FreshNumbers ({ ready with pending := [.nop (hd 0) []] }) ∧
    ∃ t, step { ready with pending := [.nop (hd 0) []] } = .next t := ⟨by unfold FreshNumbers; decide, _, rfl⟩

theorem witness_revoked :
    let s := { State.reset with
      pending := [.coldPowerOn], sec := { Security.start with keySlots := [{ programmed := true, revoked := true, hash := [] }] } }
    KeyRevoked 0 s ∧ ∃ t, step s = .next t := ⟨⟨_, rfl, rfl⟩, _, rfl⟩

/-- A queue's front command is the one that runs. -/
theorem test_step_front : (match step { ready with pending := [.smbReadDevice, .bypass] } with
    | .next t => (t.pending, t.host.out) | _ => ([], [])) = ([.bypass], [.smbus [0x60, 0x32]]) := by decide

/-! ## Start-up, resets and power -/

/-- A copy of the Crock that is good, with a sequence number. -/
def copyOf (n : Nat) : CrockCopy :=
  { magicOk := true, formatOk := true, complete := 0x5A, seq := n, crcOk := true, journal := Journal.empty 3 }

/-- The device with these copies in its Crock. -/
def withCopies (a b : CrockCopy) : State := { ready with crock := { Crock.shipped with copyA := a, copyB := b } }

/-- Neither copy good; the mirrors are empty and CROCK_LOST is to be raised (R392 case 5). -/
theorem test_crock_lost :
    let s := withCopies { copyOf 1 with crcOk := false } { copyOf 2 with magicOk := false }
    s.crock.copyA.good = false ∧ s.crock.copyB.good = false ∧ (after .coldPowerOn s).power.crockLost = true := by decide

/-- Both good: the larger sequence number is loaded, whichever copy holds it (R392). -/
theorem test_crock_newer :
    (copyOf 1).good = true ∧ (after .coldPowerOn (withCopies (copyOf 2) (copyOf 1))).crock.newest = 0 ∧
    (after .coldPowerOn (withCopies (copyOf 1) (copyOf 2))).crock.newest = 1 := by decide

/-- Both good with one number and different journals: copy A and CROCK_TIE. -/
theorem test_crock_tie :
    let s := withCopies (copyOf 2) { copyOf 2 with journal := Journal.empty 0 }
    s.crock.copyA.good = true ∧ s.crock.copyB.good = true ∧ s.crock.copyA.seq = s.crock.copyB.seq ∧
    (after .coldPowerOn s).power.crockTie = true ∧ (after .coldPowerOn s).crock.mirror.lastHalt = 3 := by decide

/-- An interrupted save at or above the good copy's number: its digests are not trusted. -/
theorem test_crock_interrupted :
    let a := { copyOf 1 with journal := { Journal.empty 3 with cal := [(0, { CalRec.blank with state := 2, digest := [1] })] } }
    let b := { copyOf 1 with complete := 0 }
    a.good = true ∧ b.good = false ∧ b.magicOk = true ∧ b.formatOk = true ∧ a.seq ≤ b.seq ∧
    (after .coldPowerOn (withCopies a b)).crock.mirror.cal = [(0, { CalRec.blank with state := 2, digest := [] })] ∧
    (after .coldPowerOn (withCopies b a)).power.rollback = true := by decide

/-- A bad copy below the good one's number: the good one is loaded whole. -/
theorem test_crock_older_bad :
    let a := copyOf 2
    let b := { copyOf 1 with complete := 0 }
    a.good = true ∧ b.good = false ∧ ¬ (b.magicOk = true ∧ b.formatOk = true ∧ a.seq ≤ b.seq) ∧
    (after .coldPowerOn (withCopies a b)).power.rollback = false ∧ (after .coldPowerOn (withCopies b a)).power.rollback = false := by
  decide

theorem witness_reset : ready.power.aonOk = true ∧ ready.power.resetN = true ∧ ready.power.state ≠ 3 := by decide
theorem witness_resetStandby :
    let s := { ready with power := { ready.power with state := 3, ready := false } }
    s.power.aonOk = true ∧ s.power.resetN = true ∧ s.power.state = 3 ∧ (after .resetNAssert s).power.startup = .standby := by decide
theorem witness_release :
    let s := { State.reset with power := { Power.start with resetN := false } }
    s.power.aonOk = true ∧ s.power.resetN = false ∧ (after .resetNRelease s).power.resetN = true := by decide

/-- What ends start-up: tiles 0 to 5 hold each of the recorded states. -/
def starting : State :=
  { State.reset with
    crock := { Crock.shipped with mirror := { Journal.empty 4 with
      cal := [(0, { CalRec.blank with state := 1 }), (1, { CalRec.blank with state := 2 }), (2, { CalRec.blank with state := 3 }),
              (3, { CalRec.blank with state := 4 }), (4, { CalRec.blank with state := 5 })] } }
    tiles := [(1, { Tile.empty .blank with shadow := true }), (4, { Tile.empty .blank with weights := [(0, 1)] })] }

theorem witness_startup : starting.power.startup ≠ .none ∧ starting.power.resetN = true ∧ starting.power.pwrFailN = true ∧
    starting.power.aonOk = true ∧ starting.crock.save = none ∧
    starting.sec.boots (starting.sec.tried.getD starting.sec.active) = true := by decide +kernel

/-- R147: a Held record whose shadow is gone awaits attach, a Ready one with its shadow is Ready, a Retired one Retired, an
Interrupted one Blank and without weights. -/
theorem test_startup_tiles :
    let t := after .startupReady starting
    [(t.tile 0 0).state, (t.tile 0 1).state, (t.tile 0 2).state, (t.tile 0 3).state, (t.tile 0 4).state, (t.tile 0 32).state] =
      [.awaiting, .ready, .awaiting, .retired, .blank, .ready] ∧
    t.power.ready = true ∧ (t.tile 0 4).weights = [] ∧ t.crock.mirror.bootCount = 1 := by decide +kernel

/-- Slot B, staged and pending, is tried and does not boot. -/
theorem witness_fallback :
    let s := { State.reset with sec := { Security.start with tried := some 1, activatePending := true } }
    s.sec.tried = some 1 ∧ s.power.startup ≠ .none ∧ s.power.resetN = true ∧ s.sec.boots 1 = false ∧
    (after (.fwFallback false) s).power.fwFallback = true := by decide +kernel
/-- A slot that boots and whose firmware does not reach READY. -/
theorem witness_fallbackLate :
    let s := { State.reset with sec := { Security.start with tried := some 0 } }
    s.sec.tried = some 0 ∧ s.power.startup ≠ .none ∧ s.power.resetN = true ∧ s.sec.boots 0 = true := by decide +kernel

theorem witness_powerFail : ready.power.aonOk = true ∧ ready.power.pwrFailN = true ∧ ready.power.state ≠ 3 ∧
    ready.crock.recovered = true ∧ ready.power.halted = false ∧ ready.crock.newest ≤ 1 ∧
    (ready.crock.copy ready.crock.newest).good = true ∧ (after .pwrFailNAssert ready).crock.copyB.seq = 2 := by decide
theorem witness_powerFailHalted :
    let s := { ready with power := { ready.power with halted := true } }
    s.power.aonOk = true ∧ s.power.pwrFailN = true ∧ (s.power.state = 3 ∨ s.crock.recovered = false ∨ s.power.halted = true) := by
  decide
/-- The save begun by a power failure. -/
def saving : State := after .pwrFailNAssert ready
theorem witness_saveDone : ∃ j, saving.power.aonOk = true ∧ saving.crock.save = some j ∧ j.target ≤ 1 ∧
    (saving.crock.copy j.target).magicOk = true ∧ (saving.crock.copy j.target).formatOk = true ∧ j.cmd = none :=
  ⟨_, by decide, rfl, by decide, by decide, by decide, by decide⟩
theorem test_saveDone : (after .crockSaveDone saving).crock.copyB.good = true ∧ (after .crockSaveDone saving).crock.newest = 1 := by
  decide

theorem witness_mirrorError : Serving ready ∧ ready.power.fatal = false := by unfold Serving; decide
theorem test_mirrorError :
    let t := after .mirrorUncorrectable ready
    (t.power.fatal, t.coresRun, t.crock.mirror.lastHalt, t.crock.mirror.faults.length, t.host.out) =
    (true, false, 2, 1, [.aerUncorrectable]) := by decide +kernel

/-- Partition 1 enabled and bound to virtual function 1, which is enabled with its lane 0. -/
def withVf : State :=
  { ready with
    host := { ready.host with numVfs := 1, busMaster := 3, level := [(0, 2), (1, 2)], lanes :=
      [(0, { Lane.start with enable := true, replyEnable := true }), (16, { Lane.start with enable := true, replyEnable := true })] }
    pre := { ready.pre with regs := [(0x608, 3)] } }
theorem witness_flrVf : Serving withVf ∧ (1 : Fin 32).val ≠ 0 ∧ (1 : Fin 32).val ≤ withVf.host.numVfs ∧ withVf.fnPart? 1 = some 1 := by
  unfold Serving; decide
theorem test_flrVf :
    let t := after (.flrVf 1) withVf
    ((t.lane 1 0).enable, (t.lane 0 0).enable, t.host.busMaster, t.host.numVfs) = (false, true, 1, 1) := by decide +kernel
theorem test_flrPf :
    let t := after .flrPf withVf
    ((t.lane 1 0).enable, (t.lane 0 0).enable, t.host.busMaster, t.host.numVfs, t.partOn 1) = (false, false, 0, 0, true) := by
  decide +kernel
theorem witness_flrPf : Serving withVf ∧ withVf.partOn 1 = true := by unfold Serving; decide
theorem witness_perst : withVf.power.aonOk = true ∧ withVf.power.perstN = true ∧ Serving withVf := by unfold Serving; decide
theorem witness_perstRelease :
    let s := { ready with power := { ready.power with perstN := false } }
    s.power.aonOk = true ∧ s.power.perstN = false := by decide
theorem witness_vfEnable : Serving withVf ∧ withVf.host.configServed = true ∧ withVf.host.numVfs ≤ (1 : Fin 32).val ∧
    (0 : Fin 32).val < 1 ∧ 1 ≤ withVf.host.numVfs ∧ withVf.fnPart? 1 = some 1 := by unfold Serving; decide
theorem test_vfEnable : ((after (.vfEnable 0) withVf).lane 1 0).enable = false ∧ ((after (.vfEnable 2) withVf).lane 1 0).enable = true := by
  decide +kernel
theorem witness_busMaster : Serving withVf ∧ withVf.host.configServed = true ∧
    ((0 : Fin 32).val = 0 ∨ (0 : Fin 32).val ≤ withVf.host.numVfs) ∧ ((1 : Fin 32).val = 0 ∨ (1 : Fin 32).val ≤ withVf.host.numVfs) := by
  unfold Serving; decide
theorem test_busMaster : (after (.busMasterEnable 1 false) withVf).host.busMaster = 1 := by decide

theorem witness_refclkLost : Serving (running 9 ready) ∧ (running 9 ready).power.aonOk = true ∧
    (running 9 ready).power.refclkLost = false ∧ (running 9 ready).power.state ≠ 3 := by unfold Serving; decide
theorem test_refclkLost :
    let t := after .refclkLost (running 9 ready)
    (t.tb.state, t.tb.tick, t.pkg.selfRefresh) = (3, 9, true) := by decide +kernel
/-- REFCLK lost with both ports enabled, in each power state in which memory differs. -/
def lost (st : Nat) : State :=
  { ready with
    power := { ready.power with refclkLost := true, state := st }
    net := { ready.net with ports := [(0, { Port.start with words := [1] }), (1, Port.start)] }
    pkg := { ready.pkg with selfRefresh := true } }
theorem witness_refclkRestored : Serving (lost 0) ∧ (lost 0).power.refclkLost = true ∧ (lost 0).pre.cmds = [] ∧
    Serving (lost 2) ∧ (lost 2).power.refclkLost = true := by unfold Serving; decide
theorem witness_target : Serving ready ∧
    (∀ e ∈ ready.flows.ctxs, e.2.isCmd = false ∧ e.2.state ≠ 2) ∧ ready.running = [] ∧ (∀ k, k < 4 → ready.linkOn k = false) ∧
    ready.flows.ctxs = [] ∧ (∀ e ∈ ready.pre.sets, e.2.cmds = []) ∧ ready.pre.pending = [] := by unfold Serving; decide
/-- With link 0 enabled Idle may be entered, Array-retain may not (Table 13.6). -/
theorem test_target :
    let s := { ready with pre := { ready.pre with regs := [(0x400, 1)] } }
    (after (.powerTargetIdle 0) s).power.transition = some 1 ∧ (after (.powerTargetIdle 0) s).power.refused = false ∧
    (after (.powerTargetArrayRetain 0) s).power.refused = true ∧ (after (.powerTargetArrayRetain 0) s).power.transition = none ∧
    (after (.powerTargetStandby 0) ready).power.transition = some 3 ∧ (after (.powerTargetActive 0) ready).power.transition = none := by
  decide +kernel

/-- A change of power state accepted. -/
def changing (n : Nat) : State := { ready with power := { ready.power with transition := some n } }
theorem witness_powerState : Serving (changing 3) ∧ (changing 3).crock.save = none ∧ (changing 3).power.transition = some 3 ∧
    (changing 3).pre.cmds = [] ∧ (3 : Nat) ≤ 3 ∧ (changing 3).crock.newest ≤ 1 := by unfold Serving; decide
/-- Each state: from Array-retain memory leaves self-refresh, Standby saves the Crock. -/
theorem test_powerState :
    (after .powerState (changing 1)).power.state = 1 ∧ (after .powerState (changing 2)).pkg.selfRefresh = true ∧
    (after .powerState (changing 3)).power.ready = false ∧ (after .powerState (changing 3)).crock.copyB.good = true ∧
    (after .powerState (changing 3)).crock.copyB.journal.lastHalt = 3 := by decide +kernel
/-- From Array-retain to Active. -/
theorem witness_powerStateBack :
    let s := { changing 0 with power := { ready.power with transition := some 0, state := 2 } }
    Serving s ∧ s.power.state = 2 ∧ s.power.transition = some 0 ∧ (0 : Nat) < 2 := by unfold Serving; decide

theorem witness_quiesce : Serving ready ∧ (0 : Fin 32).val = 0 ∧ ready.quiesced 31 = false := by unfold Serving; decide
theorem test_quiesce :
    let t := after (.coreQuiesce 0 31) ready
    (t.quiesced 31, t.coreUp 31, t.coreUp 30, (after (.coreUnquiesce 0 31) t).quiesced 31, (after (.coreQuiesce 1 31) ready).quiesced 31) =
    (true, false, true, false, false) := by decide +kernel

/-- POWER_LIMIT is 60 W at reset: 6,001 lies above, 6,000 and 5,700 between, 5,699 below by more than 3 W (R408). -/
theorem test_powerMeasure :
    Serving ready ∧ 100 * ready.regf 0xE00 8 6 = 6000 ∧
    (after (.powerMeasure 6001) ready).power.step = 5 ∧ (after (.powerMeasure 6000) ready).power.step = 6 ∧
    (after (.powerMeasure 5700) ready).power.coolPower = 0 ∧ (after (.powerMeasure 5699) ready).power.coolPower = 1 := by
  unfold Serving; decide +kernel
/-- The hundredth measurement in a row takes the step up; a step at 0 stays there. -/
theorem test_powerMeasure_run :
    let s := { ready with power := { ready.power with step := 4, coolPower := 99 } }
    let z := { ready with power := { ready.power with step := 0 } }
    (after (.powerMeasure 5699) s).power.step = 5 ∧ (after (.powerMeasure 5699) s).power.coolPower = 0 ∧
    (after (.powerMeasure 6001) z).power.step = 0 ∧ (after (.powerMeasure 6001) z).power.throttlePower = false := by decide +kernel
theorem witness_fastLimiter : Serving ready ∧ 6000 < (6001 : BitVec 16).toNat ∧ (after (.fastLimiter 6001) ready).power.limiter = true := by
  unfold Serving; decide

/-- Tj_max is 95.0 °C for grade C: the four ranges of R409 at their ends. -/
theorem test_thermalSample :
    Serving ready ∧ ready.power.aonOk = true ∧ ready.power.state ≠ 3 ∧ ready.crock.recovered = true ∧ ready.tjMax = 950 ∧
    (after (.thermalSample 1050) ready).power.thermTrip = true ∧ (after (.thermalSample 1049) ready).power.thermTrip = false ∧
    (after (.thermalSample 950) ready).power.step = 0 ∧ (after (.thermalSample 949) ready).power.step = 5 := by
  unfold Serving; decide +kernel
theorem test_thermalSample_low :
    (after (.thermalSample 900) ready).power.step = 5 ∧ (after (.thermalSample 899) ready).power.step = 6 ∧
    (after (.thermalSample (-1)) ready).power.low = true ∧ (after (.thermalSample 0) ready).power.low = false := by
  decide +kernel
/-! ## The timebase and the trigger pins -/

/-- Link 0 is legal with the parameters of reset (L 1, M 1, N 16, S 1, F 2, E 1, 32,500 Mb/s). -/
theorem witness_arm : Serving ready ∧ ready.tb.state = 0 ∧ ready.linkLegal ready.masterLink = true ∧
    (ready.crock.mirror.tickReached = true → ready.tickMax < ready.tickLoad) := by unfold Serving; decide
/-- A tick already reached at TICK_LOAD refuses the arm (R233). -/
def reached : State :=
  { ready with crock := { ready.crock with mirror := { ready.crock.mirror with tickReached := true, tickMax := 5 } } }
theorem test_arm :
    (after (.tbArm 0) ready).tb.state = 1 ∧ (after (.tbArm 1) ready).tb.state = 0 ∧ (after (.tbArm 0) reached).tb.state = 0 ∧
    (after (.tbArm 0) reached).tb.armRefused = true ∧
    (after (.tbArm 0) (reached.setReg 0x308 6)).tb.state = 1 ∧ (after (.tbArm 0) (reached.setReg 0x308 5)).tb.state = 0 := by
  decide +kernel
theorem test_stop :
    let s := running 9 reached
    Serving s ∧ (∀ k, k < 4 → s.linkOn k = false) ∧ (after (.tbStop 0) s).tb.state = 0 ∧ (after (.tbStop 0) s).crock.mirror.tickMax = 9 ∧
    (after (.tbStop 0) (s.setReg 0x400 1)).tb.state = 2 := by unfold Serving; decide +kernel

/-- An armed timebase. -/
def armed : State := { ready with clk := 10, tb := { ready.tb with state := 1 } }
theorem witness_sysref_arms : Serving armed ∧ armed.power.refclkLost = false ∧ armed.tb.state = 1 ∧ armed.armOk = true := by
  unfold Serving; decide
theorem test_sysref_arms :
    let t := after (.sysrefEdge false) (armed.setReg 0x308 77)
    (t.tb.state, t.tb.tick, t.tb.f, t.tb.armRef) = (2, 77, 2, 4) := by decide +kernel
theorem witness_sysref_refuses :
    let s := { armed with crock := reached.crock }
    Serving s ∧ s.power.refclkLost = false ∧ s.tb.state = 1 ∧ s.armOk = false ∧ (after (.sysrefEdge false) s).tb.armRefused = true := by
  unfold Serving; decide
/-- SYSREF_PERIOD 16 REFCLK cycles, an edge two of them late; one edge late is within the check. -/
theorem witness_sysref_checks :
    let s := (running 9 { ready with clk := 45 }).setReg 0x318 16
    Serving s ∧ s.power.refclkLost = false ∧ s.tb.state = 2 ∧ s.regf 0x318 0 24 ≠ 0 ∧ 1 < s.sysrefOff s.refIndex ∧
    (after (.sysrefEdge false) s).counter 0x4D80 = 1 ∧ (after (.sysrefEdge false) { s with clk := 42 }).counter 0x4D80 = 0 := by
  unfold Serving; decide +kernel
theorem witness_sysref_ignored : Serving ready ∧ ready.power.refclkLost = false ∧ (ready.tb.state = 0 ∨ ready.tb.state = 3) := by
  unfold Serving; decide
theorem witness_tickLo : Serving (running (2 ^ 64 - 1) ready) ∧ (running (2 ^ 64 - 1) ready).tb.tick < 2 ^ 64 ∧ (1 : Fin 32).val ≠ 0 := by
  unfold Serving; decide
theorem test_tickLo :
    let t := after (.tbTickLoRead 0) (running 0x500000006 ready)
    (t.tb.tickHi, t.host.out) = (5, [.busRead 0 6]) := by decide

/-- One millisecond, and 3 ns past it. -/
def atMs : State := { running 9 ready with tb := { (running 9 ready).tb with ptpNs := 2000003, ptpSec := 1 } }
theorem witness_pair : Serving atMs ∧ atMs.tb.state = 2 ∧ atMs.tb.ptpNs % 1000000 < 4 ∧
    (∀ p, atMs.tb.pairs.head? = some p → ¬ (p.sec = atMs.tb.ptpSec ∧ p.ns = 2000000)) := by
  refine ⟨rfl, rfl, by decide, ?_⟩
  intro p e
  cases e
theorem test_pair :
    let t := after .tickPtpCapture atMs
    t.tb.pairs.map (fun p => (p.sec, p.ns)) = [(1, 2000000)] ∧ (after .tickPtpCapture t).tb.pairs.length = 1 := by decide +kernel

/-- TRIG_IN pin 0 enabled for partition 0 with EDGE 0, rising. -/
def trig (edge : Nat) : State := (running 9 ready).setReg 0x340 (w32 (1 + 2 * edge))
theorem witness_trigIn : Serving (trig 0) ∧ (trig 0).power.refclkLost = false ∧ (trig 0).trigInf 0 0 1 ≠ 0 ∧ (trig 0).tb.state = 2 ∧
    (trig 0).trigInf 0 1 2 = 0 ∧ (trig 3).trigInf 0 1 2 = 3 ∧ (trig 2).trigInf 0 1 2 = 2 ∧ ready.trigInf 0 0 1 = 0 ∧
    tget? (trig 0).tb.trigLast 0 = none := by unfold Serving; decide
/-- An edge 7,999 ps after the last is merged, one 8,000 ps after it is not (R238). -/
theorem test_trigIn_merges :
    let s := { trig 0 with clk := 2, tb := { (trig 0).tb with trigLast := [(0, 0)] } }
    (after (.trigInEdge 0 true false 0) s).counter (trigInCtr 0 0) = 1 ∧
    (after (.trigInEdge 0 true false 3990) { s with clk := 1 }).counter (trigInCtr 0 1) = 1 ∧
    (after (.trigInEdge 0 false false 0) s).counters = [] ∧ (after (.trigInEdge 0 true false 0) (trig 3)).counter (trigInCtr 0 2) = 1 ∧
    (after (.trigInEdge 0 false false 0) (trig 1)).counter (trigInCtr 0 0) = 1 := by decide +kernel
/-- The stamp goes to the pin's partition in a timeline record. -/
theorem test_trigIn_stamps : ((after (.trigInEdge 0 true false 0) (trig 0)).funnel 0).waiting.map (fun k => k.kind) = [7] := by
  decide +kernel

/-- TRIG_OUT pin 1 with an assertion due now, 25 × 4 ns wide as at reset. -/
def pulse (until_ : Option Int) : State :=
  { running 9 ready with clk := 10, tb := { (running 9 ready).tb with trigOut :=
    [(1, { schedule := [{ tick := 9, at_ := 320, source := none }, { tick := 90, at_ := 3200, source := none }],
           activeUntil := until_, fired := [] })] } }
theorem witness_trigOut : Serving (pulse none) ∧ (pulse none).power.fatal = false ∧ (pulse none).power.refclkLost = false ∧
    (pulse none).pin 1 = { schedule := { tick := 9, at_ := 320, source := none } :: [{ tick := 90, at_ := 3200, source := none }],
                           activeUntil := none, fired := [] } ∧ (320 : Int) < (pulse none).clk * 32 + 32 := by unfold Serving; decide
theorem test_trigOut :
    ((after (.trigOutAssert 1) (pulse none)).pin 1).activeUntil = some 1120 ∧
    (after (.trigOutAssert 1) (pulse none)).host.out = [.trigOut 1 true 320] ∧
    (after (.trigOutAssert 1) (pulse (some 320))).host.out = [] ∧
    (after (.trigOutAssert 1) (pulse (some 320))).counter (trigOutCtr 1 3) = 1 ∧
    (after (.trigOutAssert 1) (pulse (some 319))).counter (trigOutCtr 1 3) = 0 := by decide +kernel

/-! ## Probe, trace pins, SMBus and TAP -/

/-- A capture of pin 2 that has 254 codes. -/
def capturing : State :=
  { ready with probe := { Probe.start with capture := some { pin := 2, full := false, vfs := 0, n := 254, sum := 0, spoiled := false, cmd := 0 } } }
theorem witness_capture : Serving capturing ∧
    capturing.probe.capture = some { pin := 2, full := false, vfs := 0, n := 254, sum := 0, spoiled := false, cmd := 0 } ∧ (254 : Nat) < 255 := by
  unfold Serving; decide
theorem test_capture : ((after (.probeConversion 32) capturing).probe.capture.map (fun k => (k.n, k.sum, k.spoiled))) = some (255, 2, false) ∧
    ((after (.probeConversion 65529) capturing).probe.capture.map (fun k => k.spoiled)) = some true := by decide +kernel
theorem witness_probeOff : Serving (ready.setReg 0x1000 0) ∧ (ready.setReg 0x1000 0).probe.capture = none ∧
    (ready.setReg 0x1000 0).regf 0x1000 0 1 ≠ 1 := by unfold Serving; decide
/-- Entry 0 of reset, at its first conversion of 2^4, and one whose mean is of a single conversion. -/
theorem witness_probeEntry : Serving ready ∧ ready.probe.capture = none ∧ ready.regf 0x1000 0 1 = 1 ∧ ready.probe.current = 0 ∧
    ready.probe.on 0 = true ∧ (-8 : Int) ≤ -8 ∧ (65528 : Int) ≤ 65528 ∧ bits (ready.probe.entry 0) 5 3 = 4 ∧
    ready.probe.n + 1 < 2 ^ 4 := by unfold Serving; decide
theorem test_probe_mean :
    let s := { ready with probe := { Probe.start with n := 15, sum := 150 } }
    (after (.probeConversion 160) ready).probe.sum = 10 ∧
    (tget? (after (.probeConversion 160) s).probe.results 0).map (fun r => (r.code, r.valid)) = some (10, true) := by decide +kernel

theorem witness_alert : Serving ready := rfl
theorem test_alert : (after (.hkAlertClear 0 5) { ready with probe := { Probe.start with alert := 7 } }).probe.alert = 2 := by decide

/-- A record waiting for the trace pins, which are enabled. -/
def tracing : State :=
  { ready.setReg 0x1104 1 with trace := { Trace.start with pinQueue :=
    [{ tick := 3, type := 1, cls := 2, part := 255, unit := 4, p0 := 0, p1 := 0, p2 := 0, p3 := 0 }] } }
theorem witness_tracePin : Serving tracing ∧ tracing.power.fatal = false ∧ tracing.regf 0x1104 0 1 = 1 ∧ tracing.trace.pinQueue.length = 1 := by
  unfold Serving; decide
theorem test_tracePin : (after .tracePinSend tracing).trace.pinQueue = [] ∧ (after .tracePinSend tracing).host.out.length = 1 := by decide +kernel

/-- Table 15.9 at READY, and before it where all but 0x00 and 0x01 give zeros. -/
theorem witness_smbus : ready.power.aonOk = true ∧ ready.power.ready = true ∧ ready.power.state ≠ 3 ∧ ready.power.state < 4 ∧
    ¬ (State.reset.power.ready = true ∧ State.reset.power.state ≠ 3) := by decide
theorem test_smbus :
    (after .smbReadDevice State.reset).host.out = [.smbus [0x60, 0x32]] ∧ (after .smbReadTjNow ready).host.out = [.smbus [250, 0]] ∧
    (after .smbReadTjNow State.reset).host.out = [.smbus [0, 0]] ∧ (after .smbReadStatus ready).host.out = [.smbus [1]] ∧
    (after .smbusTimeout ready).host.out = [] := by decide
theorem test_smbus_words :
    (after .smbReadTjPeak ready).host.out = [.smbus [250, 0]] ∧ (after .smbReadPkgPower ready).host.out = [.smbus [0, 0]] ∧
    (after .smbReadPartSerial State.reset).host.out = [.smbus [0, 0, 0, 0, 0, 0, 0, 0]] ∧
    (after .smbReadHkAlert ready).host.out = [.smbus [0, 0]] ∧
    (after (.smbReadHkEntry 15) ready).host.out = [.smbus [0, 0, 0, 0, 0, 0, 0, 0]] := by decide

/-- RESET_N low. -/
def inReset : State := { State.reset with power := { Power.start with resetN := false } }
theorem witness_tap : inReset.power.aonOk = true ∧ inReset.power.resetN = false ∧ ready.power.resetN = true := by decide
theorem test_tap :
    (after .bypass inReset).host.out = [.tdo [false]] ∧ (after .extest (after (.samplePreload [true]) inReset)).host.out = [.pins [true]] ∧
    (after .highz inReset).mgmt.chainDrives = 2 ∧ (after .clamp inReset).mgmt.tapIr = 4 ∧ (after .extest ready).mgmt.tapIr = 1 := by decide
/-- The IDCODE of R457 with stepping 1: 0x132604B7, least significant bit first. -/
theorem test_idcode : (after .idcode inReset).host.out = [.tdo ((List.range 32).map (fun k => bitN 0x132604B7 k))] := by decide +kernel

/-! ## Lanes, reply rings and registers -/

theorem witness_laneEnable : Serving ready ∧ ready.fnEnabled 0 = true ∧ (ready.lane 0 15).enable = false ∧
    (ready.lane 0 15).replyEnable = false ∧ (ready.lane 0 0).enable = true := by unfold Serving; decide
theorem test_laneEnable : ((after (.laneEnable 0 15) ready).lane 0 15).enable = true ∧
    ((after (.replyEnable 0 15) ready).lane 0 15).replyPhase = true ∧ ((after (.laneDisable 0 0) ready).lane 0 0).enable = false := by
  decide
/-- A NOP of lane 0 that waits for a tick. -/
def waiter : Cmd := { id := 3, h := { hd 0 with atTick := 100 }, op := 0, w := [], wait := .atTick, takenTick := 0 }
def withWaiter : State := { running 9 ready with pre := { ready.pre with cmds := [waiter], nextCmd := 4 } }
theorem witness_laneDisable : Serving withWaiter ∧ withWaiter.fnEnabled 0 = true ∧ (withWaiter.lane 0 0).enable = true ∧
    withWaiter.pre.cmds = [waiter] ∧ waiter.h.fn = 0 ∧ waiter.h.lane = 0 ∧ waiter.wait = .atTick ∧ withWaiter.pre.pending = [] ∧
    withWaiter.pre.models = [] ∧ withWaiter.waiting = [] ∧ withWaiter.ringOn waiter.h = true := by unfold Serving; decide
/-- Its reply's word 0 carries CANCELLED. -/
theorem test_laneDisable : ((after (.laneDisable 0 0) withWaiter).lane 0 0).held = [replyOf waiter.h 0 stCancelled [] withWaiter] := by
  decide +kernel

/-- A reply of one slot waits; the ring has 16 slots and stands at its last. -/
def replying (irq : Bool) (mask : Word) : State :=
  { ready with host := { ready.host with
    busMaster := 1, msix := [(4 * 0 + 3, mask)],
    lanes := [(0, { Lane.start with
      enable := true, replyEnable := true, replyBase := 4096, replyWrite := 15,
      held := [{ words := [0x11223344], irq := irq, lane := 0, final := true }] })] } }
theorem witness_replyWrite : Serving (replying true 0) ∧ (replying true 0).master 0 = true ∧ HostMemoryForm (replying true 0) ∧
    ((replying true 0).lane 0 0).replyEnable = true ∧
    ((replying true 0).lane 0 0).held = [{ words := [0x11223344], irq := true, lane := 0, final := true }] ∧
    ((replying true 0).lane 0 0).replyUsed < 2 ^ ((replying true 0).lane 0 0).replyLog2 ∧ ((replying true 0).lane 0 0).vector < 64 ∧
    tget? (replying true 0).host.holdoffs 0 = none ∧ bit ((replying true 0).msixWord 0 0 3) 0 = false ∧
    bit ((replying true 1).msixWord 0 0 3) 0 = true := by unfold Serving HostMemoryForm; decide
theorem test_replyWrite :
    let t := after (.replyWrite 0 0) (replying true 0)
    Memory.readBytes t.host.mem 5056 4 = [0x44, 0x33, 0x22, 0x11] ∧ Memory.read t.host.mem (5056 + 60) = 1 ∧
    (t.lane 0 0).replyWrite = 0 ∧ (t.lane 0 0).replyPhase = false ∧ t.host.out = [.msix 0 0] := by decide +kernel
theorem test_replyWrite_masked :
    (after (.replyWrite 0 0) (replying true 1)).host.out = [] ∧ tget (after (.replyWrite 0 0) (replying true 1)).host.pba 0 false = true ∧
    (after (.replyWrite 0 0) (replying false 0)).host.out = [] := by decide +kernel
/-- Reading past the wrap frees five slots: from 14 to 3 of 16. -/
theorem test_ptReplyRead :
    let s := ready.modLane 0 0 (fun l => { l with replyRead := 14, replyUsed := 7 })
    ((after (.ptReplyRead 0 0 3) s).lane 0 0).replyUsed = 2 ∧ ((after (.ptReplyRead 0 0 19) s).lane 0 0).replyRead = 3 := by decide +kernel
/-- A HOLDOFF that has ended with a message pending. -/
def holding (p : Bool) : State :=
  { replying true 0 with clk := 5, host := { (replying true 0).host with holdoffs := [(0, { until_ := 5, span := 3, pending := p })] } }
theorem witness_holdoff : Serving (holding true) ∧ tget? (holding true).host.holdoffs (64 * 0 + 0) = some { until_ := 5, span := 3, pending := true } ∧
    (5 : Nat) ≤ (holding true).clk ∧ (holding true).master 0 = true ∧ bit ((holding true).msixWord 0 0 3) 0 = false := by unfold Serving; decide
theorem test_holdoff : (after (.msixHoldoffEnd 0 0) (holding true)).host.out = [.msix 0 0] ∧
    (after (.msixHoldoffEnd 0 0) (holding false)).host.out = [] ∧ (after (.msixHoldoffEnd 0 0) (holding false)).host.holdoffs = [] := by decide +kernel

/-- A NOP's six words: LEVEL 2, LENGTH 6, TAG 7. -/
def nopWords : List Word := [0x20060000, 7, 0, 0, 0, 0]
/-- All but word 5 of a NOP in push-window slot 63. -/
def pushing : State := ready.modLane 0 0 (fun l => { l with slots := [(63, { words := [(0, 0x20060000), (1, 7), (2, 0), (3, 0), (4, 0)],
                                                                              committed := false })] })
theorem witness_push : Serving pushing ∧ pushing.fnEnabled 0 = true ∧
    (BitVec.ofNat 20 (65536 * 0 + 1024 * 63 + 4 * 5)).toNat = 65536 * (0 : Fin 16).val + 1024 * (63 : Fin 64).val + 4 * (5 : Fin 256).val ∧
    (pushing.lane 0 0).enable = true ∧ (pushing.lane 0 0).mode = false := by unfold Serving; decide
theorem test_push :
    let t := after (.pushWindowWrite 0 64532 [0]) pushing
    (t.lane 0 0).order = [63] ∧ ((after (.pushWindowWrite 0 64532 [0]) t).counter (devCtr 6)) = 1 ∧
    ((after (.packetTake 0 0) t).lane 0 0).held = [replyOf (hd 0) 0 stOk [] ready] := by decide +kernel
theorem witness_takePush : nopWords.length = 6 ∧ bits (pw nopWords 0) 16 8 = 6 ∧ bits (pw nopWords 0) 0 16 = 0 ∧ hdrReservedOk nopWords = true ∧
    hdrOf 0 0 nopWords = hd 0 ∧ TakenAtOnce 0 (hdrOf 0 0 nopWords) [] (after (.pushWindowWrite 0 64532 [0]) pushing) ∧
    ((after (.pushWindowWrite 0 64532 [0]) pushing).lane 0 0).order = [63] ∧
    (∀ i, i < 6 → tget (tget ((after (.pushWindowWrite 0 64532 [0]) pushing).lane 0 0).slots 63
      { words := [], committed := false }).words i 0 = pw nopWords i) := by unfold TakenAtOnce; and_intros <;> decide +kernel
/-- A NOP in entry 0 of a pull ring of 16 entries at 0x10000, the producer index at 0x800 one ahead. -/
def pulling (prod : Nat) : State :=
  { ready with host := { ready.host with
    busMaster := 1, mem := Memory.writeBytes (Memory.writeBytes [] 0x10000 (wordBytes nopWords)) 0x800 (leBytes 4 prod),
    lanes := [(0, { Lane.start with
      enable := true, mode := true, replyEnable := true, pullBase := 0x10000, prodAddr := 0x800, consAddr := 0x900 })] } }
theorem witness_pull : Serving (pulling 1) ∧ (pulling 1).master 0 = true ∧ ((pulling 1).lane 0 0).enable = true ∧
    ((pulling 1).lane 0 0).mode = true ∧ ((pulling 1).lane 0 0).pulled = [] ∧
    ((pulling 1).lane 0 0).consumer < 2 ^ ((pulling 1).lane 0 0).pullLog2 ∧
    ofBytes (Memory.readBytes (pulling 1).host.mem 0x800 4) % 16 = (0 + 1) % 16 ∧
    ofBytes (Memory.readBytes (pulling 0).host.mem 0x800 4) % 16 = 0 := by unfold Serving; decide +kernel
theorem test_pull :
    ((after (.pullRingPoll 0 0) (pulling 1)).lane 0 0).pulled = [nopWords] ∧ ((after (.pullRingPoll 0 0) (pulling 0)).lane 0 0).pulled = [] ∧
    Memory.readBytes (after (.packetTake 0 0) (after (.pullRingPoll 0 0) (pulling 1))).host.mem 0x900 4 = [1, 0, 0, 0] := by decide +kernel
theorem witness_takePull : TakenAtOnce 0 (hdrOf 0 0 nopWords) [] (after (.pullRingPoll 0 0) (pulling 1)) ∧
    ((after (.pullRingPoll 0 0) (pulling 1)).lane 0 0).mode = true ∧
    ((after (.pullRingPoll 0 0) (pulling 1)).lane 0 0).pulled = nopWords :: [] := by unfold TakenAtOnce; and_intros <;> decide +kernel

/-- Two NOPs due: the one with the smaller at-tick is begun first, on a tie the one taken first. -/
def due (x y : Nat) : State :=
  { running 9 ready with pre := { ready.pre with nextCmd := 5, cmds :=
    [{ waiter with h := { hd 0 with tag := 1, atTick := BitVec.ofNat 64 x } }, { waiter with id := 4, h := { hd 0 with tag := 2, atTick := BitVec.ofNat 64 y } }] } }
theorem witness_due : Serving (due 9 8) ∧ (due 9 8).pre.pending = [] ∧ waiter.id ≠ 4 ∧ (due 9 8).tb.state = 2 ∧ waiter.wait = .atTick ∧
    waiter.op = 0 ∧ (9 : BitVec 64).toNat ≤ (due 9 8).tb.tick ∧ (due 9 8).power.state = 0 ∧ (due 9 8).power.refclkLost = false ∧
    (due 9 8).ringOn (hd 0) = true := by unfold Serving; decide
theorem test_due : (after .atTickDue (due 9 8)).pre.cmds.map (fun c => c.h.tag) = [1] ∧
    (after .atTickDue (due 8 8)).pre.cmds.map (fun c => c.h.tag) = [2] ∧ (after .atTickDue (due 10 10)).pre.cmds.length = 2 := by decide +kernel
theorem witness_due_none : Serving ready ∧ ready.pre.pending = [] ∧ ready.pre.cmds = [] := by unfold Serving; decide
/-- A NOP behind a FENCE, with and without a reply of its lane still owed. -/
def fenced (l : List Reply) : State :=
  { ready with
    pre := { ready.pre with nextCmd := 4, cmds := [{ waiter with h := { hd 0 with fence := true }, wait := .fence }] }
    host := { ready.host with lanes := [(0, { Lane.start with enable := true, replyEnable := true, fenceWait := some 3, held := l })] } }
theorem witness_fence : Serving (fenced []) ∧ ((fenced []).lane 0 0).fenceWait = some 3 ∧
    (fenced []).pre.cmds = [{ waiter with h := { hd 0 with fence := true }, wait := .fence }] ∧ (fenced []).power.state = 0 ∧
    (fenced []).power.refclkLost = false ∧ (fenced []).ringOn (hd 0) = true ∧ (hd 0).atTick = 0 := by unfold Serving; decide
theorem test_fence :
    (after (.fenceRelease 0 0) (fenced [])).pre.cmds = [] ∧
    (after (.fenceRelease 0 0) (fenced [{ words := [0], irq := false, lane := 0, final := true }])).pre.cmds.length = 1 ∧
    (after (.fenceRelease 0 0) (fenced [{ words := [0], irq := false, lane := 1, final := true }])).pre.cmds = [] := by decide +kernel

theorem witness_register : (0x35C#20).toNat = 0x340 + 4 * (7 : Fin 8).val ∧ (0xFFFFFFFF#64).toNat < 2 ^ 32 ∧ Serving ready ∧
    ready.fnEnabled 0 = true ∧ (0x80304#20).toNat = 0x10000 * ((7 : Fin 8).val + 1) + 0x304 := by unfold Serving; decide
/-- A pin's register keeps its six bits; PT_QSAT_THRESHOLD is staged; an offset off a word has no form. -/
theorem test_register :
    (after (.registerWrite 0 0x35C false 0xFFFFFFFF) ready).reg 0x35C = 0x3F ∧
    ((after (.registerWrite 0 0x80304 false 5) ready).openSet 7).regs = [(0x80304, 0xFFFFFFFF, 5)] ∧
    (after (.registerWrite 0 0x80304 false 5) ready).reg 0x80304 = 65536 := by decide +kernel
theorem test_register_misaligned : exec (.registerWrite 0 0x342 false 0) ready = .fault .illFormed := rfl
theorem witness_registerUnbound : (1 : Fin 32).val ≠ 0 ∧ ready.fnPart? 1 = none ∧ (0x304#20).toNat % 4 = 0 := by decide
theorem witness_ptFnRead : Serving withVf ∧ withVf.fnEnabled 1 = true ∧ withVf.fnPart? 1 = some (1 : Fin 8).val ∧ withVf.fnEnabled 0 = true := by
  unfold Serving; decide
theorem test_ptFnRead : (after (.ptFnRead 1 1 127) withVf).reg 0x20418 = 64 := by decide +kernel

/-- A packet of partition 0's FIFO: a RESULT with a body of n words. -/
def packet (n : Nat) : Pkt :=
  { kind := 1, flow := 2, isCtx := false, part := 0, cls := false, prov := false, lost := false, marks := [], sat := 0, seq := 5,
    first256 := 0, last256 := 0, modelEpoch := 0, configEpoch := 0, ptpSec := 0, ptpNs := 0, ptpLocked := false,
    body := List.replicate n 9, run := none, final := true, top1 := none }
/-- Host destination on, PIO mode, the packet at its head. -/
def pio : State :=
  { ready.setReg 0x10400 3 with funnels := [(0, { Funnel.start with fifo := [{ pkt := packet 8, route := 1, hostRead := 0, netRead := 0 }] })] }
theorem witness_pio : Serving pio ∧ pio.fnEnabled 0 = true ∧ pio.fnCtrl 0 0 1 = 1 ∧ pio.fnCtrl 0 1 1 = 1 ∧
    (pio.funnel 0).fifo = [{ pkt := packet 8, route := 1, hostRead := 0, netRead := 0 }] ∧
    ((((packet 8).dwords false).drop 0).take 8).length = 8 ∧ 0 + 8 < (packet 8).words ∧ (ready.fnCtrl 0 0 1 = 0 ∨ ready.fnCtrl 0 1 1 = 0) := by
  unfold Serving; decide +kernel
theorem test_pio :
    ((after (.ptFnPio 0 0 56 8) pio).funnel 0).fifo.map (fun e => e.hostRead) = [8] ∧
    ((after (.ptFnPio 0 0 0 56) pio).funnel 0).fifo.map (fun e => e.hostRead) = [0] ∧
    (after (.ptFnPio 0 0 0 2) ready).host.out = [.pio [0, 0]] := by decide +kernel
/-! ## Commit ticks and closing flows -/

/-- A COMMIT waits for tick 9 with a set of partition 0. -/
def committing (set : OpenSet) : State :=
  { running 9 ready with pre := { ready.pre with
    nextCmd := 4, cmds := [{ waiter with h := { hd 0 with atTick := 9 }, op := 3 }]
    pending := [{ part := 0, tick := 9, cmd := 3, set := set, globalSet := none }] } }
/-- A write of PT_QSAT_THRESHOLD. -/
def regSet : OpenSet := { cmds := [], regs := [(0x10304, 0xFFFFFFFF, 5)] }
theorem witness_commitTick : Serving (committing regSet) ∧
    (committing regSet).pre.pending = [{ part := (0 : Fin 8), tick := 9, cmd := 3, set := regSet, globalSet := none }] ∧
    (committing regSet).pre.cmds = [{ waiter with h := { hd 0 with atTick := 9 }, op := 3 }] ∧ waiter.id = 3 ∧
    (committing regSet).ringOn { hd 0 with atTick := 9 } = true ∧ (committing regSet).pre.models = [] ∧
    (committing regSet).flows.ctxs = [] ∧ 9 ≤ (committing regSet).tick ∧ (0x10304 = 0x10000 * ((0 : Fin 8).val + 1) + 0x304) ∧
    (∀ n, n < 4 → (committing regSet).ringPlan n = (committing regSet).ringNow n) := by unfold Serving; decide +kernel
theorem test_commitTick :
    (after (.commitTick 0) (committing regSet)).reg 0x10304 = 5 ∧ (after (.commitTick 0) (committing regSet)).epochs 0 = (0, 1) ∧
    (after (.commitTick 0) { committing regSet with tb := { (committing regSet).tb with tick := 8 } }).pre.pending.length = 1 := by
  decide +kernel
/-- A set with a MODEL_RETIRE of a model that is not there fails whole. -/
def badSet : OpenSet := { cmds := [{ h := hd 0, op := 0x104, w := [1, 0], cmd := none }], regs := regSet.regs }
theorem test_commitTick_fails :
    let t := after (.commitTick 0) (committing badSet)
    t.reg 0x10304 = 65536 ∧ t.pre.pending.length = 0 ∧ t.pre.cmds.length = 0 ∧
    (t.lane 0 0).held = [replyOf { hd 0 with atTick := 9 } 3 stNoResource [0, 0, 0x10000, 7] (committing badSet)] := by decide +kernel

/-- A Closing flow, with or without a window in progress. -/
def closing (run : Option Nat) : State :=
  { ready with
    flows := { Flows.start with ctxs := [(16383, { Ctx.blank 0 3 with
      run := run, closing := some { cmd := some 3, drain := false, tick := 0, cancelled := 2, silent := false } })] }
    pre := { ready.pre with nextCmd := 4, cmds := [{ waiter with h := hd 0, op := 0x202, wait := .staged }] } }
theorem witness_flowClosed : Serving (closing none) ∧ ((closing none).ctx? 16383).isSome = true ∧
    ((closing none).ctx? (16383 : Fin 16384)).map (fun c => (c.isCmd, c.ready, c.run)) = some (false, [], none) ∧
    ((closing (some 1)).ctx? 16383).map (fun c => c.run) = some (some 1) ∧ (closing none).ringOn (hd 0) = true := by unfold Serving; decide
theorem test_flowClosed :
    ((after (.flowClosed 16383) (closing none)).ctx? 16383).isNone = true ∧
    ((after (.flowClosed 16383) (closing none)).lane 0 0).held = [replyOf (hd 0) 0x202 stOk [2] (closing none)] ∧
    ((after (.flowClosed 16383) (closing (some 1))).ctx? 16383).isSome = true := by decide +kernel

/-! ## Links, samples and windows -/

/-- Link 0 enabled on lane 0 with stream 0 written, in a state. -/
def linkIn (st lock : Nat) : State :=
  { running 9 ((ready.setReg 0x400 1).setReg 0x40C 1) with ingest := { ready.ingest with
    links := [(0, { Link.start with state := st, laneLock := lock })] } }
theorem witness_lock : Serving (linkIn 1 0) ∧ (linkIn 1 0).power.fatal = false ∧ (linkIn 1 0).power.refclkLost = false ∧
    (linkIn 1 0).laneLink? 0 = some 0 ∧ (linkIn 1 0).laneRetired 0 = false ∧ ((linkIn 1 0).link 0).state = 1 ∧
    (linkIn 1 0).ingest.provisional = [] ∧ (linkIn 1 0).linkOk 0 = true ∧ (∀ k ∈ (linkIn 1 0).linkLanes 0, k = 0) ∧
    (linkIn 1 0).tb.state = 2 := by unfold Serving; decide +kernel
theorem test_lock : ((after (.laneSyncLock 0) (linkIn 1 0)).link 0).state = 2 ∧
    ((after (.laneSyncLock 0) { linkIn 1 0 with tb := Timebase.start }).link 0).state = 1 := by decide +kernel
/-- A REFCLK the rate check refuses: S 17 at the reserved lane count. -/
theorem witness_lock_illegal :
    let s := (linkIn 1 0).setReg 0x408 5999
    s.linkOk 0 = false ∧ s.tb.state = 2 ∧ ((after (.laneSyncLock 0) s).link 0).state = 3 := by decide +kernel
theorem witness_lockLoss : bitN ((linkIn 2 1).link 0).laneLock 0 = true ∧ (∀ r ∈ (linkIn 2 1).crock.mirror.faults, r.outcome ≠ 5) ∧
    (linkIn 2 1).crock.mirror.faults.length < 1024 := by decide
/-- The first and second loss take the link back to Locking; the third within a day retires the lane. -/
theorem test_lockLoss :
    let one := after (.laneLockLoss 0) (linkIn 2 1)
    (one.link 0).state = 1 ∧ one.laneRetired 0 = false ∧ one.crock.mirror.faults.length = 1 := by decide +kernel
theorem test_lockLoss_third :
    let lose := fun (s : State) => after (.laneLockLoss 0) { s with ingest := (linkIn 2 1).ingest }
    (lose (lose (linkIn 2 1))).laneRetired 0 = false ∧ (lose (lose (lose (linkIn 2 1)))).laneRetired 0 = true ∧
    ((lose (lose (lose (linkIn 2 1)))).link 0).state = 3 := by decide +kernel

/-- Link 0 Up; stream 0 has a ring of four samples and has received up to sample 5. -/
def receiving : State :=
  { linkIn 2 1 with ingest := { (linkIn 2 1).ingest with
    links := [(0, { Link.start with state := 2, laneLock := 1, nextK := 5 })], rings := [(streamNo 0 0 0, { Ring.empty 4 with next := 5 })] } }
theorem witness_samples : Serving receiving ∧ receiving.power.fatal = false ∧ receiving.power.refclkLost = false ∧ receiving.tb.state = 2 ∧
    (receiving.link (0 : Fin 4)).state = 2 ∧ (receiving.link (0 : Fin 4)).nextK ≤ 5 ∧ receiving.linkf 0 0 12 1 = 0 ∧
    receiving.chanOn 0 = false ∧ receiving.flows.ctxs = [] ∧ receiving.linkStreams 0 = 1 ∧
    (receiving.ring (streamNo 0 0 0)).next ≤ 5 ∧ (receiving.ring (streamNo 0 0 0)).data.length < (receiving.ring (streamNo 0 0 0)).cap := by
  unfold Serving; decide +kernel
theorem witness_samples_decs : ∀ d, receiving.decOn 0 d = false := by
  intro d
  have h : receiving.decOn 0 d = receiving.decOn 0 0 := rfl
  rw [h]
  decide
/-- Sample 6 arrives after 5 was lost; its word is 0x8001, N 16. -/
theorem test_samples :
    let t := after (.sampleArrival 0 6 1 [[(0x8001, 0)]]) receiving
    (t.ring (streamNo 0 0 0)).data = [(6, (-32767, 0))] ∧ (t.ring (streamNo 0 0 0)).lost = [(5, 6)] ∧
    (t.ring (streamNo 0 0 0)).bad = [6] ∧ (t.link 0).nextK = 7 := by decide +kernel

/-- Flow 3 of partition 0, Bound to windows of 4 samples of stream 0 every 4; the link is down and the tick past its first
window. -/
def unreceived : State :=
  { linkIn 0 0 with
    tb := { (running 9 ready).tb with tick := 7 }
    flows := { Flows.start with ctxs := [(3, { Ctx.blank 0 2 with bindings :=
      [{ since := 0, kernel := { part := 0, id := 1, level1 := false, bytes := [], parts := [] }, window := [0, 0x40004, 0, 0, 0, 0],
         sched := [1, 1, 0, 0], gridTick := 0, origin := some 0, firstK := 0, formed := 0 }] })] } }
theorem witness_unreceived : Serving unreceived ∧ unreceived.power.refclkLost = false ∧
    (unreceived.ctx? (3 : Fin 16384)).map (fun c => (c.isCmd, c.state, c.closing)) = some (false, 2, none) ∧
    winHop [0, 0x40004, 0, 0, 0, 0] = 4 ∧ (unreceived.link (streamLink 0)).state ≠ 2 ∧ winStream [0, 0x40004, 0, 0, 0, 0] = 0 ∧
    (unreceived.ring 0).next < 0 + 4 ∧ (unreceived.streamStamp 0 3).toNat < 256 * unreceived.tick ∧
    256 * unreceived.tick ≤ (unreceived.streamStamp 0 7).toNat := by unfold Serving; decide +kernel
theorem test_unreceived :
    let t := after (.linkDownDrop 3) unreceived
    (t.funnel 0).waiting.map (fun k => (k.kind, k.flow, k.body)) = [(2, 3, [d64 3])] ∧ (t.ctx? 3).map (fun c => c.resultSeq) = some 1 := by
  decide +kernel
/-! ## The slicer -/

/-- A part on core 0 that enters at dispatch. -/
def partOf (steps : List Step) : Part :=
  { core := 0, entryAtDispatch := true, banked := false, entryCounter := 0, entryValue := 0, counters := 0, actBase := 0, actBytes := 131072,
    maskBase := 0, consts := [], constDest := 0, inboxBase := 0, inboxBytes := 0, queue := none, steps := steps }
/-- A kernel of that part. -/
def kernelOf (steps : List Step) : Kernel := { part := 0, id := 1, level1 := false, bytes := [], parts := [partOf steps] }
/-- A window of four samples that is ready, its deadline 10 ticks after its last sample. -/
def windowOf (steps : List Step) : Window :=
  { k := 0, kernel := kernelOf steps, sched := [10, 1, 0, 0], first256 := 0, last256 := 768, stream := 0, start := 0, len := 4, padLead := 0,
    padTo := 0, iq := false, marks := [], readyClk := 0 }
/-- Flow 2 with one window ready and the next behind it. -/
def readyFlow : State :=
  { running 9 ready with flows := { Flows.start with ctxs := [(2, { Ctx.blank 0 2 with ready := [windowOf [.fence], windowOf [.fence]] })] } }
theorem witness_slicerIdle : ready.coresRun = true ∧ ready.partOn 0 = true ∧ ready.pre.pending = [] ∧ ready.flows.ctxs = [] := by decide
theorem witness_slicerIdle_prefetch : ∀ c, (ready.core c).prefetch = [] := fun _ => rfl
theorem witness_slicer : readyFlow.coresRun = true ∧ readyFlow.partOn 0 = true ∧ readyFlow.pre.pending = [] ∧
    bit ((windowOf [.fence]).sched.getD 1 0) 4 = false ∧ (windowOf [.fence]).kernel.parts = [partOf [.fence]] ∧
    (partOf [.fence]).entryAtDispatch = true ∧ (partOf [.fence]).queue = none ∧ (partOf [.fence]).steps ≠ [] ∧
    (readyFlow.core 0).queues = [] ∧ readyFlow.coreOpen 0 = true ∧
    (∀ t ∈ readyFlow.allTiles (kernelOf [.fence]), readyFlow.tileUsable t.1 t.2 = true) ∧ readyFlow.funnelFull 0 = false ∧
    readyFlow.regf (partOff 0 0x300) 0 1 = 0 := by decide +kernel
theorem test_slicer :
    let t := after (.slicerCycle 0) readyFlow
    ((t.core 0).queues.map (fun e => (e.1, e.2.ctx, e.2.run)) = [(0, 2, 1)]) ∧
    (t.run? 1).map (fun r => r.deadline) = some (768 + 2560) ∧ (t.ctx? 2).map (fun c => c.ready.length) = some 1 ∧
    t.counter (partCtr 0 1) = 1 := by decide +kernel
/-- Overload entered at clk 7, a millisecond (250,000 periods) ago, and one period less. -/
def overloaded (clk : Nat) : State := { ready with clk := clk, flows := { Flows.start with overload := [(0, 7)] } }
theorem witness_overload : Serving (overloaded 250007) ∧ tget? (overloaded 250007).flows.overload 0 = some 7 ∧ 7 + msClk ≤ (overloaded 250007).clk ∧
    (overloaded 250006).clk < 7 + msClk := by unfold Serving; decide
theorem test_overload : (after (.overloadClear 0) (overloaded 250007)).flows.overload = [] ∧
    (after (.overloadClear 0) (overloaded 250006)).flows.overload = [(0, 7)] := by decide

/-- A run of flow 2 dispatched at clk 0, its part not entered. -/
def runOf (steps : List Step) (w : Option Window) : Run :=
  { ctx := 2, window := w, first256 := 0, last256 := 768, kernel := kernelOf steps, modelEpoch := 0, configEpoch := 0, check := 0, marks := [],
    sat := 0, left := [], deadline := 0, deadlineTk := false, dispatchClk := 0, openChecks := 0, failCause := none, tiles := [], records := 0,
    status := none, abandoned := false, consumed := false, dropped := false, satOver := false, readDone := [], parked := [] }
/-- The core's part awaits its entry counter 5, whose sync value is 3. -/
def notEntered (clk : Nat) : State :=
  { running 9 ready with
    clk := clk
    flows := { Flows.start with
      nextRun := 2, runs := [(1, { runOf [.fence] none with kernel := { kernelOf [.fence] with
        parts := [{ partOf [.fence] with entryAtDispatch := false, entryCounter := 5, entryValue := 4 }] } })]
      ctxs := [(2, { Ctx.blank 0 2 with run := some 1, sync := [(5, (3, 0))], saves :=
        [(0, { core := 0, queue := 0, entered := false, left := false, step := 0, wdog := 0, eEntry := 4, started := false })] })] } }
theorem witness_entryWatchdog : (notEntered 2500000).coresRun = true ∧
    ((notEntered 2500000).ctx? (2 : Fin 16384)).map (fun c => (c.isCmd, c.run)) = some (false, some 1) ∧
    ((notEntered 2500000).run? 1).map (fun r => (r.ctx, r.abandoned, r.status)) = some (2, false, none) ∧
    0 + (notEntered 2500000).timeout 0 0 ≤ (notEntered 2500000).clk ∧ (notEntered 2499999).clk < 0 + (notEntered 2499999).timeout 0 0 := by
  decide +kernel
theorem test_entryWatchdog :
    let t := after (.flowEntryWatchdog 0 2) (notEntered 2500000)
    ((t.funnel 0).waiting.getLast?).map (fun k => (k.kind, k.flow, k.body)) = some (3, 2, [d64 (65536 * 5 + 2 ^ 32 * 4), d64 3]) ∧
    t.counter (partCtr 0 13) = 1 ∧ (t.ctx? 2).map (fun c => c.run) = some none ∧
    (after (.flowEntryWatchdog 0 2) (notEntered 2499999)).funnels = [] := by decide +kernel

/-! ## The commands of the opcode map -/

/-- Level 1 of the header where the function is at 2: BAD_LEVEL. -/
theorem witness_refused :
    let h := { hd 0 with level := 1 }
    packetOf (.tickRead h []) = some (0x503, h, []) ∧ WellFormed.payload [] = true ∧ ready.laneTakes 0 0 = true ∧ ready.ringOn h = true ∧
    firstFail h 0x503 [] true true ready = some stBadLevel ∧ h.level.toNat ≠ ready.level 0 := by
  refine ⟨rfl, ?_⟩
  decide +kernel
/-- Function 1 is bound to no partition: SECURITY. -/
theorem witness_refusedUnbound :
    let s := { withVf with pre := ready.pre }
    let h := { hd 1 with fn := 1 }
    s.laneTakes 1 0 = true ∧ s.ringOn h = true ∧ h.level = 2 ∧ s.level 1 = 2 ∧ s.fnPart? 1 = none ∧
    firstFail h 0x503 [] true true s = some stSecurity := by decide +kernel
/-- Reply ring 1 is not enabled: the packet is counted as dropped. -/
theorem witness_noRing :
    let h := { hd 0 with queue := 1 }
    ready.laneTakes 0 0 = true ∧ ready.ringOn h = false ∧ (after (.nop h []) ready).counter (devCtr 7) = 1 := by decide +kernel
theorem test_refused :
    ((after (.tickRead { hd 0 with level := 1 } []) ready).lane 0 0).held = [replyOf { hd 0 with level := 1 } 0x503 stBadLevel [] ready] := by
  decide +kernel

theorem witness_queries : TakenAtOnce 0x000 (hd 0) [] ready ∧ TakenAtOnce 0x001 (hd 0) [0, 0] ready ∧ TakenAtOnce 0x001 (hd 0) [1, 0] ready ∧
    TakenAtOnce 0x001 (hd 0) [2, 0] ready ∧ TakenAtOnce 0x001 (hd 0) [3, 0x41F] ready ∧ TakenAtOnce 0x503 (hd 0) [] ready ∧
    TakenAtOnce 0xB02 (hd 0) [1] ready ∧ pf [3, 0x41F] 1 5 6 = 32 := by unfold TakenAtOnce; and_intros <;> decide +kernel
theorem witness_setLevel : TakenAtOnce 0x002 (hd 0) [1] ready ∧ TakenAtOnce 0x002 (hd 0) [2] ready ∧ TakenAtOnce 0x002 (hd 0) [3] ready ∧
    TakenAtOnce 0x002 (hd 0) [0] ready ∧ TakenAtOnce 0x002 (hd 0) [2] withWaiter ∧ (∃ c ∈ withWaiter.pre.cmds, c.h.fn = (hd 0).fn) ∧
    ¬ (∃ c ∈ ready.pre.cmds, c.h.fn = (hd 0).fn) ∧ ready.partInUse 0 = false := by unfold TakenAtOnce; and_intros <;> decide +kernel
theorem test_setLevel :
    (after (.setLevel (hd 0) [1]) ready).level 0 = 1 ∧ (after (.setLevel (hd 0) [3]) ready).level 0 = 2 ∧
    ((after (.setLevel (hd 0) [0]) ready).lane 0 0).held = [replyOf (hd 0) 2 stBadParam [] ready] ∧
    (after (.setLevel (hd 0) [1]) withWaiter).level 0 = 2 := by decide +kernel
/-- TICK_READ at tick 2^32 + 5 of a running timebase. -/
theorem test_tickRead :
    ((after (.tickRead (hd 0) []) (running 0x100000005 ready)).lane 0 0).held.map (fun r => r.words.drop 4) = [[5, 1, 0, 0, 0, 2]] := by
  decide +kernel
/-- GET_CAPS 2: tile 5 of core 31 retired. -/
theorem test_getCaps :
    let s := { ready with tiles := [(tileNo 31 5, Tile.empty .retired)] }
    ((after (.getCaps (hd 0) [2, 0]) s).lane 0 0).held.map (fun r => (r.words.drop 4).getD 31 0) = [0xFFFFFFDF] := by decide +kernel

/-- A write of PT_QSAT_THRESHOLD staged for partition 0. -/
def stagedReg : State := { running 9 ready with pre := { ready.pre with sets := [(0, regSet)] } }
theorem witness_commit : TakenAtOnce 0x003 (hd 0) [] stagedReg ∧ (hd 0).partition.toNat = (0 : Fin 8) ∧ stagedReg.pre.pending = [] ∧
    stagedReg.openSet 0 = { cmds := [], regs := [(0x10000 * ((0 : Fin 8).val + 1) + 0x304, 0xFFFFFFFF, 5)] } ∧
    stagedReg.openSet 8 = { cmds := [], regs := [] } ∧ stagedReg.pre.models = [] ∧ stagedReg.flows.ctxs = [] ∧
    (∀ n, n < 4 → stagedReg.ringPlan n = stagedReg.ringNow n) := by unfold TakenAtOnce; and_intros <;> decide +kernel
theorem test_commit :
    let t := after (.commit (hd 0) []) stagedReg
    t.reg 0x10304 = 5 ∧ t.epochs 0 = (0, 1) ∧ t.openSet 0 = { cmds := [], regs := [] } ∧ (t.lane 0 0).held.length = 1 := by decide +kernel
theorem witness_commitLater :
    let h := { hd 0 with atTick := 10 }
    stagedReg.laneTakes 0 0 = true ∧ stagedReg.ringOn h = true ∧ firstFail h 0x003 [] true true stagedReg = none ∧ h.fence = false ∧
    stagedReg.power.state = 0 ∧ stagedReg.power.refclkLost = false ∧ FreshNumbers stagedReg ∧ stagedReg.tick < h.atTick.toNat ∧
    (after (.commit h []) stagedReg).pre.pending.length = 1 := by unfold FreshNumbers; decide +kernel
theorem witness_cancel : TakenAtOnce 0x004 (hd 0) [7] withWaiter ∧ withWaiter.pre.cmds = [waiter] ∧ waiter.h.fn = (hd 0).fn ∧
    waiter.h.queue = (hd 0).queue ∧ withWaiter.pre.pending = [] ∧ withWaiter.pre.models = [] ∧ withWaiter.waiting = [] ∧ waiter.wait = .atTick ∧
    waiter.h.tag = pw [7] 0 ∧ TakenAtOnce 0x004 (hd 0) [8] withWaiter ∧ waiter.h.tag ≠ pw [8] 0 := by unfold TakenAtOnce; and_intros <;> decide +kernel
theorem test_cancel :
    ((after (.cmdCancel (hd 0) [7]) withWaiter).lane 0 0).held =
      [replyOf waiter.h 0 stCancelled [] withWaiter, replyOf (hd 0) 4 stOk [1] withWaiter] ∧
    (after (.cmdCancel (hd 0) [8]) withWaiter).pre.cmds = [waiter] := by decide +kernel
/-- Function 1 at level 2, bound to partition 1, which has a staged RULE_CLEAR. -/
def vfStaged : State := { withVf with pre := { withVf.pre with sets := [(1, { cmds := [{ h := hd 1, op := 0x502, w := [0], cmd := none }], regs := [] })] } }
theorem witness_discard : TakenAtOnce 0x005 { hd 1 with fn := 1 } [1] vfStaged ∧ TakenAtOnce 0x005 { hd 1 with fn := 1 } [0] vfStaged ∧
    TakenAtOnce 0x005 (hd 1) [1] vfStaged ∧ pf [1] 0 0 1 = 1 ∧
    (∀ x ∈ (vfStaged.openSet 1).cmds, x.cmd = none ∧ x.op ≠ 0x103) := by unfold TakenAtOnce; and_intros <;> decide +kernel
theorem test_discard :
    ((after (.stageDiscard { hd 1 with fn := 1 } [0]) vfStaged).openSet 1).cmds = [] ∧
    ((after (.stageDiscard { hd 1 with fn := 1 } [1]) vfStaged).lane 1 0).held = [replyOf { hd 1 with fn := 1 } 5 stSecurity [] vfStaged] := by
  decide +kernel
/-! ## Staged commands -/

/-- A W4 record of tile 5 of core 1 with no weights, of digest 9. -/
def recordOf : TileRecord := { core := 1, tile := 5, role := 0, pair := 255, config := cfgDefault.take 5, weights := [], digest := [9] }
/-- Model 1 of partition 0 with that record, in a state. -/
def modelOf (st : Nat) : Model :=
  { part := 0, id := 1, digest := [], bytes := 0, state := st, records := [recordOf], kept := 0, fresh := [], programmed := 0, latched := 0,
    status := 0, loading := none }
/-- The model loaded, its tile in a live state and owned by it. -/
def loaded (st : Nat) (tl : TileState) : State :=
  { ready with
    pre := { ready.pre with models := [modelOf st] }
    tiles := [(tileNo 1 5, { Tile.empty tl with owner := some (0, 1), shadow := true })]
    crock := { ready.crock with mirror := { ready.crock.mirror with cal := [(tileNo 1 5, { CalRec.blank with state := 2, digest := [9] })] } } }
/-- A kernel defined, and flow 0 open. -/
def bindable : State :=
  { linkIn 2 1 with
    pre := { (linkIn 2 1).pre with kernels := [kernelOf [.fence]] }
    flows := { Flows.start with ctxs := [(0, Ctx.blank 0 1)] } }
/-- FLOW_BIND of flow 0 to kernel 1, windows of 4 samples of stream 0 every 4. -/
def bindWords : List Word := [0, 1, 0, 0x40004, 0, 0, 0, 0, 10, 1, 0, 0]
theorem witness_tileConfig : TakenAtOnce 0x105 (hd 0) [0xA1, 0, 0, 0, 0, 0] (loaded 2 .ready) ∧
    stageCheck (loaded 2 .ready) 0 0x105 [0xA1, 0, 0, 0, 0, 0] = none ∧ stageCheck ready 0 0x105 [0xA1, 0, 0, 0, 0, 0] = some stNoResource := by
  unfold TakenAtOnce; and_intros <;> decide +kernel
theorem witness_flowBind : TakenAtOnce 0x201 (hd 0) bindWords bindable ∧ stageCheck bindable 0 0x201 bindWords = none := by
  unfold TakenAtOnce; and_intros <;> decide +kernel
theorem witness_krnRelease : TakenAtOnce 0x302 (hd 0) [1] bindable ∧ stageCheck bindable 0 0x302 [1] = none := by
  unfold TakenAtOnce; and_intros <;> decide +kernel
theorem witness_rules : TakenAtOnce 0x501 (hd 0) [0, 0, 0, 0] ready ∧ stageCheck ready 0 0x501 [0, 0, 0, 0] = none ∧
    TakenAtOnce 0x502 (hd 0) [63] ready ∧ stageCheck ready 0 0x502 [63] = none := by unfold TakenAtOnce; and_intros <;> decide +kernel
theorem witness_ingest : TakenAtOnce 0x600 (hd 0) [3, 6150, 0, 0, 0, 0] ready ∧ stageCheck ready 0 0x600 [3, 6150, 0, 0, 0, 0] = none ∧
    TakenAtOnce 0x601 (hd 0) [7, 256, 0] ready ∧ stageCheck ready 0 0x601 [7, 256, 0] = none := by
  unfold TakenAtOnce; and_intros <;> decide +kernel
/-- A port record with MTU 1,500, and peer 63. -/
def portWords : List Word := [1, 1, 0, 0, 0, 0, 0, 0, 0, 0x05DC0000, 0, 0]
def peerWords : List Word := 63 :: List.replicate 14 0
theorem witness_network : TakenAtOnce 0xB00 (hd 0) portWords ready ∧ stageCheck ready 0 0xB00 portWords = none ∧
    TakenAtOnce 0xB01 (hd 0) peerWords ready ∧ stageCheck ready 0 0xB01 peerWords = none ∧ (∀ x ∈ (ready.openSet 8).cmds, x.cmd = none) := by
  unfold TakenAtOnce; and_intros <;> decide +kernel
theorem witness_flowClose : TakenAtOnce 0x202 (hd 0) [0] bindable ∧ stageCheck bindable 0 0x202 [0] = none := by
  unfold TakenAtOnce; and_intros <;> decide +kernel
theorem witness_modelCommit : TakenAtOnce 0x103 (hd 0) [1, 0] (loaded 0 .held) ∧ stageCheck (loaded 0 .held) 0 0x103 [1, 0] = none := by
  unfold TakenAtOnce; and_intros <;> decide +kernel
theorem witness_modelRetire : TakenAtOnce 0x104 (hd 0) [1, 0] (loaded 2 .ready) ∧ (loaded 2 .ready).model? 0 1 = some (modelOf 2) ∧
    (modelOf 2).loading = none ∧ (loaded 2 .ready).stagedAny 0 (fun x => x.op == 0x103 && pq x.w 0 == pq [1, 0] 0) = false := by
  unfold TakenAtOnce; and_intros <;> decide +kernel
theorem witness_modelRelease : TakenAtOnce 0x104 (hd 0) [1, 0] (loaded 0 .held) ∧ (loaded 0 .held).model? 0 1 = some (modelOf 0) ∧
    (modelOf 0).state ≠ 2 ∧ ((loaded 0 .held).tile 1 5).state = .held ∧ ((loaded 0 .held).tile 1 5).owner = some (0, 1) ∧
    ((loaded 0 .held).tile 1 5).job = none ∧ recordOf.tile ≠ 32 ∧ (loaded 0 .held).running = [] ∧ (loaded 0 .held).waiting = [] ∧
    (loaded 0 .held).stagedAny 0 (fun x => x.op == 0x103 && pq x.w 0 == pq [1, 0] 0) = false := by
  unfold TakenAtOnce; and_intros <;> decide +kernel
theorem test_staged :
    ((after (.ruleClear (hd 0) [63]) (after (.ruleSet (hd 0) [63, 0, 0, 0]) ready)).openSet 0).cmds.map (fun x => (x.op, x.w)) = [(0x502, [63])] ∧
    ((after (.netPortSet (hd 0) portWords) ready).openSet 8).cmds.length = 1 ∧
    ((after (.tileConfig (hd 0) [0xA1, 0, 0, 0, 0, 0]) ready).lane 0 0).held = [replyOf (hd 0) 0x105 stNoResource [] ready] := by
  decide +kernel
theorem test_modelRelease :
    let t := after (.modelRetire (hd 0) [1, 0]) (loaded 0 .held)
    t.pre.models = [] ∧ (t.tile 1 5).job = some .erase ∧ t.running.length = 1 ∧
    (t.lane 0 0).held = [replyOf (hd 0) 0x104 stOk [1] (loaded 0 .held)] := by decide +kernel

/-! ## Activities -/

/-- Something running that TILE_VERIFY of tile 5 of core 1 conflicts with: the programming of another tile of the core. -/
def otherAct : Activity := actTile 3 0 1 6 0 none
theorem witness_verify : TakenAtOnce 0x102 (hd 0) [0xA1] (loaded 2 .ready) ∧ bitN ((loaded 2 .ready).partCores 0) 1 = true ∧
    ((loaded 2 .ready).tile 1 5).state = .ready ∧ (loaded 2 .ready).tileOut 1 5 = false ∧ (loaded 2 .ready).running = [] ∧
    TakenAtOnce 0x102 (hd 0) [0xA1] { loaded 2 .ready with running := [otherAct] } ∧
    conflict (actTile 1 0 1 5 0 (some 0)) otherAct = true := by unfold TakenAtOnce; and_intros <;> decide +kernel
theorem test_verify :
    (after (.tileVerify (hd 0) [0xA1]) (loaded 2 .ready)).running = [actTile 1 0 1 5 0 (some 0)] ∧
    (after (.tileVerify (hd 0) [0xA1]) { loaded 2 .ready with running := [otherAct] }).waiting = [actTile 1 0 1 5 0 (some 0)] := by
  decide +kernel
theorem witness_recal : TakenAtOnce 0x702 (hd 0) [0xA1] (loaded 2 .ready) ∧ TakenAtOnce 0x702 (hd 0) [0x8A1] (loaded 2 .ready) ∧
    pf [0x8A1] 0 11 1 = 1 ∧ ((loaded 2 .ready).tile 1 5).state ≠ .awaiting ∧ pf [0x8A1] 0 5 6 ≠ 63 := by
  unfold TakenAtOnce; and_intros <;> decide +kernel
theorem test_recal : ((after (.recal (hd 0) [0xA1]) (loaded 2 .ready)).tile 1 5).refDue = true ∧
    ((after (.recal (hd 0) [0x8A1]) (loaded 2 .ready)).tile 1 5).calDue = true ∧
    (after (.recal (hd 0) [0x8A1]) (loaded 2 .ready)).running = [actTile 4 0 1 5 0 (some 0)] := by decide +kernel
/-- Core 31 retired. -/
def coreOut : State := { ready with crock := { ready.crock with mirror := { ready.crock.mirror with
  retired := [{ core := 31, tile := 63, column := 1023, lane := 0, kind := 2 }] } } }
theorem witness_selftest : TakenAtOnce 0x701 (hd 0) [31] ready ∧ ready.coreRetired 31 = false ∧ bitN (ready.partCores 0) 31 = true ∧
    TakenAtOnce 0x701 (hd 0) [31] coreOut ∧ coreOut.coreRetired 31 = true := by unfold TakenAtOnce; and_intros <;> decide +kernel
theorem test_selftest : ((after (.selftest (hd 0) [31]) ready).core 31).testCmd = some 0 ∧
    ((after (.selftest (hd 0) [31]) coreOut).lane 0 0).held = [replyOf (hd 0) 0x701 stNoResource [] coreOut] := by decide +kernel
theorem witness_maint : TakenAtOnce 0x700 (hd 0) [5] ready ∧ TakenAtOnce 0x700 (hd 0) [6] ready ∧ TakenAtOnce 0x700 (hd 0) [7] ready ∧
    ready.running = [] ∧ ready.waiting = [] := by unfold TakenAtOnce; and_intros <;> decide +kernel
theorem test_maint :
    (after (.maintStart (hd 0) [7]) ready).running = [actPlain 7 255 0] ∧
    (after (.maintStart (hd 0) [6]) ready).crock.save.map (fun j => (j.target, j.lastHalt)) = some (1, 4) ∧
    (after (.maintStart (hd 0) [5]) ready).running = [] := by decide +kernel
theorem witness_tileProgram : TakenAtOnce 0x101 (hd 0) [1, 0, 0xA1] (loaded 2 .ready) ∧ (loaded 2 .ready).model? 0 1 = some (modelOf 2) ∧
    (loaded 2 .ready).placeable 0 recordOf = true ∧ (loaded 2 .ready).claimed 0 1 recordOf = false ∧
    ((loaded 2 .ready).tile 1 5).job = none ∧ (loaded 2 .ready).holdsDigest recordOf = true ∧
    TakenAtOnce 0x101 (hd 0) [1, 0, 0xA1] (loaded 0 .blank) ∧ (loaded 0 .blank).holdsDigest recordOf = false ∧
    ((loaded 0 .blank).tile 1 5).state ≠ .programming := by unfold TakenAtOnce; and_intros <;> decide +kernel
theorem test_tileProgram :
    ((after (.tileProgram (hd 0) [1, 0, 0xA1]) (loaded 2 .ready)).tile 1 5).job = some (.refresh .ready (some 0)) ∧
    ((after (.tileProgram (hd 0) [1, 0, 0xA1]) (loaded 0 .blank)).tile 1 5).job = some (.program recordOf 1 0 (some 0)) := by decide +kernel
/-- An image of 4 bytes of zeros is none; one larger than the region finds no room. -/
theorem witness_modelLoad_refused : TakenAtOnce 0x100 (hd 0) [0, 0, 4, 0] ready ∧ pq [0, 0, 4, 0] 2 ≤ ready.imageLeft 0 ∧
    imageCheck ready 0 (ready.hostRead 0 4) = some stBadImage ∧ TakenAtOnce 0x100 (hd 0) [0, 0, 0, 1] ready ∧
    ready.imageLeft 0 < pq [0, 0, 0, 1] 2 := by unfold TakenAtOnce; and_intros <;> decide +kernel
theorem test_modelLoad_refused :
    ((after (.modelLoad (hd 0) [0, 0, 4, 0]) ready).lane 0 0).held = [replyOf (hd 0) 0x100 stBadImage [] ready] ∧
    ((after (.modelLoad (hd 0) [0, 0, 0, 1]) ready).lane 0 0).held = [replyOf (hd 0) 0x100 stNoResource [] ready] := by decide +kernel

/-! ## Flow, kernel and synchronisation commands -/

theorem witness_flowOpen : TakenAtOnce 0x200 (hd 0) [16383, 65536] ready ∧ ready.inShare 0 16383 = true ∧ ready.ctx? 16383 = none ∧
    (∀ e ∈ ready.flows.spillLines, e.2 ≠ 16383) ∧ ready.contextFits 0 65536 = true ∧
    TakenAtOnce 0x200 (hd 0) [0, 0] bindable ∧ bindable.ctx? 0 ≠ none := by unfold TakenAtOnce; and_intros <;> decide +kernel
theorem test_flowOpen :
    ((after (.flowOpen (hd 0) [16383, 256]) ready).ctx? 16383).map (fun c => (c.state, c.part, c.coldBytes)) = some (1, 0, 256) ∧
    ((after (.flowOpen (hd 0) [0, 0]) bindable).lane 0 0).held = [replyOf (hd 0) 0x200 stNoResource [] bindable] := by decide +kernel
theorem witness_snapshot : TakenAtOnce 0x203 (hd 0) [0, 65536, 0x1000, 0] bindable ∧ bindable.inShare 0 0 = true ∧
    bindable.ctx? 0 = some (Ctx.blank 0 1) ∧ (Ctx.blank 0 1).state = 1 := by unfold TakenAtOnce; and_intros <;> decide +kernel
/-- CONTEXT 0 is flow 0, partition 0, state 1. -/
theorem test_snapshot : Memory.readBytes (after (.flowSnapshot (hd 0) [0, 0, 0x1000, 0]) bindable).host.mem 0x1000 4 = [0, 0, 0, 1] := by
  decide +kernel
/-- Flow 2's part on core 3, queue 1, counter 4 at (6, 2). -/
def resident (stall : Stall) : State :=
  { running 9 ready with
    flows := { Flows.start with
      nextRun := 2, runs := [(1, runOf [.fence, .fence] none)], ctxs := [(2, { Ctx.blank 0 2 with run := some 1, sync := [(148, (6, 2))] })] }
    cores := [(3, { Core.start 3 with queues := [(1, { ctx := 2, run := 1, part := 0, step := 0, stall := stall, loop := none, readout := none,
                                                        progressClk := 0, resumptions := 0, entryClk := 0, stallClk := 0 })] })] }
theorem witness_syncRead : TakenAtOnce 0x400 (hd 0) [0x30002, 0x2000, 0] (resident .none) ∧
    ((resident .none).ctx? 2).map (fun c => c.part) = some 0 ∧ bitN ((resident .none).partCores 0) 3 = true ∧
    (resident .none).residentOn 4 2 = false := by unfold TakenAtOnce; and_intros <;> decide +kernel
theorem test_syncRead : Memory.readBytes (after (.syncRead (hd 0) [0x30002, 0x2000, 0]) (resident .none)).host.mem (0x2000 + 32) 8 =
    [6, 0, 0, 0, 2, 0, 0, 0] := by decide +kernel
/-- Work counter 0 belongs to partition 0. -/
theorem witness_syncSet : TakenAtOnce 0x401 (hd 0) [0x1030002, 5] (resident .none) ∧ pf [0x1030002, 5] 0 22 6 = 4 ∧
    ((resident .none).core 3).queues.length = 1 ∧ TakenAtOnce 0x401 (hd 0) [0x1040002, 5] (resident .none) ∧
    (resident .none).residentOn 4 2 = false ∧ TakenAtOnce 0x401 (hd 0) [0x200000, 7] (ready.setReg 0x640 8) ∧
    pf [0x200000, 7] 0 21 1 = 1 ∧ (ready.setReg 0x640 8).workOwned 0 0 = true := by unfold TakenAtOnce; and_intros <;> decide +kernel
theorem test_syncSet :
    ((after (.syncSet (hd 0) [0x1030002, 5]) (resident .none)).ctx? 2).map (fun d => d.vb 3 4) = some (11, 2) ∧
    (after (.syncSet (hd 0) [0x1040002, 5]) (resident .none)).flows.pot = [{ core := 4, ctx := 2, counter := 4, inc := 5 }] ∧
    tget (after (.syncSet (hd 0) [0x200000, 7]) (ready.setReg 0x640 8)).flows.node.counters 0 0 = 7 := by decide +kernel

/-- A descriptor of level 2: one part on core 0 that enters at dispatch and has one FENCE (Tables 10.12 to 10.14). -/
def descriptor : Bytes :=
  leBytes 4 0x4C4E524B ++ leBytes 2 2 ++ leBytes 2 1 ++ leBytes 4 132 ++ List.replicate 52 0 ++
  [0, 1, 0, 1] ++ leBytes 4 128 ++ leBytes 4 4 ++ List.replicate 12 0 ++ leBytes 4 0 ++ leBytes 4 1024 ++ List.replicate 32 0 ++
  leBytes 4 (5 + 256)
/-- It lies at 0x3000 of host memory. -/
def described : State := { ready with host := { ready.host with mem := Memory.writeBytes [] 0x3000 descriptor } }
theorem witness_krnDefine : TakenAtOnce 0x301 (hd 0) [1, 0x3000, 0, 132] described ∧ described.hostRead 0x3000 132 = descriptor ∧
    (parseKernel 0 1 descriptor).isSome = true ∧ ((parseKernel 0 1 descriptor).map (defineCheck described 0 1 132)) = some none ∧
    TakenAtOnce 0x301 (hd 0) [1, 0, 0, 132] described ∧ (parseKernel 0 1 (described.hostRead 0 132)).isNone = true ∧
    ((parseKernel 0 1 descriptor).map (defineCheck { described with pre := bindable.pre } 0 1 132)) = some (some stNoResource) := by
  unfold TakenAtOnce; and_intros <;> decide +kernel
theorem test_krnDefine :
    let t := after (.krnDefine (hd 0) [1, 0x3000, 0, 132]) described
    t.pre.kernels.map (fun k => (k.id, k.parts.map (fun p => p.steps))) = [(1, [[.fence]])] ∧
    (t.lane 0 0).held = [replyOf (hd 0) 0x301 stOk [1] described] ∧
    ((after (.krnDefine (hd 0) [1, 0, 0, 132]) described).lane 0 0).held = [replyOf (hd 0) 0x301 stBadParam [] described] := by decide +kernel
/-- Kernel 1 defined, the partition's share four lines. -/
def submittable : State := (running 9 { ready with pre := bindable.pre }).setReg 0x504 4
theorem witness_krnSubmit : TakenAtOnce 0x300 (hd 0) [1, 10, 0, 0, 0, 0] submittable ∧ (hd 0).level = 2 ∧
    submittable.kernel? 0 1 = some (kernelOf [.fence]) ∧ (kernelOf [.fence]).level1 = false ∧
    inputFits (taken 0x300 (hd 0) [1, 10, 0, 0, 0, 0] submittable) (kernelOf [.fence]) = true ∧
    modelCheck submittable false true (kernelOf [.fence]) = none ∧ useCheck submittable (kernelOf [.fence]) = none ∧
    submittable.contextFits 0 (inboxBytes (kernelOf [.fence])) = true ∧ (submittable.freeLines 0).head? = some 0 := by
  unfold TakenAtOnce; and_intros <;> decide +kernel
theorem test_krnSubmit :
    ((after (.krnSubmit (hd 0) [1, 10, 0, 0, 0, 0]) submittable).ctx? 0).map (fun c => (c.isCmd, c.state, c.deadline)) =
    some (true, 2, 256 * 19) := by decide +kernel
/-! ## Pins, coefficients, the Probe -/

/-- Pin 7 of TRIG_OUT enabled for partition 0, tick 9 running. -/
def pinOn : State := (running 9 ready).setReg 0x37C 0x1901
theorem witness_trigPulse : TakenAtOnce 0x500 (hd 0) [7, 1000000, 0] pinOn ∧ pinOn.tb.state = 2 ∧ pinOn.trigOutf 7 2 3 = 0 ∧
    pinOn.trigOutf 7 0 1 = 1 ∧ (pinOn.pin 7).schedule.length < 64 ∧ pinOn.instNow + 1600 ≤ pinOn.pinInst 1000000 ∧
    TakenAtOnce 0x500 (hd 0) [6, 1000000, 0] pinOn ∧ pinOn.trigOutf 6 0 1 = 0 ∧ TakenAtOnce 0x500 (hd 0) [7, 1000000, 0] ready ∧
    ready.tb.state ≠ 2 := by unfold TakenAtOnce; and_intros <;> decide +kernel
theorem test_trigPulse :
    (((after (.trigPulse (hd 0) [7, 1000000, 0]) pinOn).pin 7).schedule.map (fun a => a.tick)) = [1000000] ∧
    ((after (.trigPulse (hd 0) [6, 1000000, 0]) pinOn).lane 0 0).held = [replyOf (hd 0) 0x500 stNoResource [] pinOn] ∧
    ((after (.trigPulse (hd 0) [7, 1000000, 0]) ready).lane 0 0).held = [replyOf (hd 0) 0x500 stNoTimebase [] ready] := by decide +kernel
/-- Two coefficients in host memory: 1 and -1. -/
def coefs : State := { ready with host := { ready.host with mem := Memory.writeBytes [] 0x4000 [1, 0, 0xFF, 0xFF] } }
theorem witness_coefLoad : TakenAtOnce 0x602 (hd 0) [0x1FFFE, 2, 0x4000, 0] coefs ∧ coefs.pre.pending = [] ∧
    (∀ x ∈ (coefs.openSet 8).cmds, x.op ≠ 0x600) := by unfold TakenAtOnce; and_intros <;> decide +kernel
theorem witness_coefLoad_channels : ∀ k, coefs.chanOn k = false := by
  intro k
  have h : coefs.chanOn k = coefs.chanOn 0 := rfl
  rw [h]
  decide
theorem test_coefLoad : (after (.igCoefLoad (hd 0) [0x1FFFE, 2, 0x4000, 0]) coefs).ingest.coefs = [(0x1FFFE, 1), (0x1FFFF, -1)] := by
  decide +kernel
theorem witness_hk : TakenAtOnce 0x800 (hd 0) [0x1F, 0xFFF00010] ready ∧ TakenAtOnce 0x801 (hd 0) [7] ready ∧ ready.probe.capture = none ∧
    TakenAtOnce 0x801 (hd 0) [7] capturing ∧ capturing.probe.capture ≠ none ∧ TakenAtOnce 0x802 (hd 0) [7, 2000000] ready ∧
    tget? ready.probe.zero 7 = none ∧
    TakenAtOnce 0x802 (hd 0) [7, 2000000] { ready with probe := { Probe.start with zero := [(7, 3)] } } := by
  unfold TakenAtOnce; and_intros <;> decide +kernel
theorem test_hk :
    tget? (after (.hkSeq (hd 0) [0x1F, 0xFFF00010]) ready).probe.entries 15 = some 0xFFF00010 ∧
    (after (.hkCalZero (hd 0) [7]) ready).probe.capture.map (fun k => (k.pin, k.full)) = some (7, false) ∧
    ((after (.hkCalFull (hd 0) [7, 2000000]) ready).lane 0 0).held = [replyOf (hd 0) 0x802 stNoResource [] ready] ∧
    (after (.hkCalFull (hd 0) [7, 2000000]) { ready with probe := { Probe.start with zero := [(7, 3)] } }).probe.capture.map
      (fun k => (k.full, k.vfs)) = some (true, 2000000) := by decide +kernel

/-! ## Reports, faults and firmware -/

/-- The words of an ATTEST for a buffer of n bytes at 0x5000. -/
def attestWords (n : Word) : List Word := List.replicate 16 0 ++ [0x5000, 0, n]
theorem witness_attest : TakenAtOnce 0x900 (hd 0) (attestWords 64) ready := by unfold TakenAtOnce; and_intros <;> decide +kernel
/-- Two fault records, of partitions 0 and 1. -/
def faulted : State := after (.laneLockLoss 0) (after (.laneLockLoss 0) (linkIn 2 1))
def oneFault : State := after (.laneLockLoss 0) (linkIn 2 1)
theorem witness_faultRead : TakenAtOnce 0xA00 (hd 0) [0, 5, 0x6000, 0, 64] oneFault ∧ TakenAtOnce 0xA01 (hd 0) [0, 5, 0x6000, 0, 4096] oneFault ∧
    oneFault.crock.mirror.faults.length = 1 := by unfold TakenAtOnce; and_intros <;> decide +kernel
/-- Record 0 is 64 bytes; a buffer of 63 takes none. -/
theorem test_faultRead :
    ((after (.faultRead (hd 0) [0, 5, 0x6000, 0, 64]) oneFault).lane 0 0).held = [replyOf (hd 0) 0xA00 stOk [1] oneFault] ∧
    ((after (.faultRead (hd 0) [0, 5, 0x6000, 0, 63]) oneFault).lane 0 0).held = [replyOf (hd 0) 0xA00 stOk [0] oneFault] ∧
    ((after (.faultRead (hd 0) [1, 5, 0x6000, 0, 64]) oneFault).lane 0 0).held = [replyOf (hd 0) 0xA00 stOk [0] oneFault] := by decide +kernel
/-- The header of a firmware image of 2,880 bytes in host memory (Table 13.9), and none. -/
def fwBytes : List Byte := leBytes 4 0x4B465754 ++ leBytes 2 1 ++ leBytes 2 0x100 ++ leBytes 4 0xB40 ++ leBytes 4 2
def withFw : State := { ready with host := { ready.host with mem := Memory.writeBytes [] 0x8000 fwBytes } }
theorem witness_fwStage : TakenAtOnce 0x901 (hd 0) [0x8000, 0, 0xB40] withFw ∧ (pw [0x8000, 0, 0xB40] 2).toNat ≤ 8388608 ∧
    withFw.sec.active < 2 ∧ TakenAtOnce 0x901 (hd 0) [0, 0, 0xB40] withFw := by unfold TakenAtOnce; and_intros <;> decide +kernel
theorem witness_fwStage_form : fwFormOk withFw.sec (withFw.hostRead 0x8000 0xB40) 0xB40 = true ∧
    fwFormOk withFw.sec (withFw.hostRead 0 16) 0xB40 = false := by decide +kernel
theorem witness_fwActivate : TakenAtOnce 0x902 (hd 0) [] ready ∧ ready.sec.staged = false ∧
    TakenAtOnce 0x902 (hd 0) [] { ready with sec := { ready.sec with staged := true } } := by unfold TakenAtOnce; and_intros <;> decide +kernel
theorem test_fwActivate :
    (after (.fwActivate (hd 0) []) { ready with sec := { ready.sec with staged := true } }).sec.activatePending = true ∧
    ((after (.fwActivate (hd 0) []) ready).lane 0 0).held = [replyOf (hd 0) 0x902 stNoResource [] ready] := by decide +kernel

/-! ## Retirement and restoration -/

/-- The unit word of Table 10.9. -/
def unitOf (kind core tile column lane : Nat) : Word :=
  w32 (kind + 4 * core + 128 * tile + 8192 * column + 8388608 * lane)
theorem witness_unitRetire : ready.running = [] ∧ ready.waiting = [] ∧ ready.flows.runs = [] ∧
    TakenAtOnce 0xA02 (hd 0) [unitOf 0 1 32 511 0] ready ∧ ready.colRetired 1 32 511 = false ∧ ready.colsRetired < 4048 ∧
    ready.tileColsRetired 1 32 < 16 ∧ TakenAtOnce 0xA02 (hd 0) [unitOf 1 1 31 0 0] ready ∧ (ready.tile 1 31).state ≠ .retired ∧
    TakenAtOnce 0xA02 (hd 0) [unitOf 2 31 63 0 0] ready ∧ ready.coreRetired 31 = false ∧
    TakenAtOnce 0xA02 (hd 0) [unitOf 3 0 63 0 15] ready ∧ ready.laneRetired 15 = false ∧ ready.crock.mirror.faults.length < 1024 := by
  unfold TakenAtOnce; and_intros <;> decide +kernel
theorem test_unitRetire :
    (after (.unitRetire (hd 0) [unitOf 0 1 32 511 0]) ready).colRetired 1 32 511 = true ∧
    ((after (.unitRetire (hd 0) [unitOf 1 1 31 0 0]) ready).tile 1 31).state = .retired ∧
    (after (.unitRetire (hd 0) [unitOf 2 31 63 0 0]) ready).coreRetired 31 = true ∧
    (after (.unitRetire (hd 0) [unitOf 3 0 63 0 15]) ready).laneRetired 15 = true := by decide +kernel
/-- The fault history gets its HOST_RETIRE record. -/
theorem test_unitRetire_record :
    (after (.unitRetire (hd 0) [unitOf 1 1 31 0 0]) ready).crock.mirror.faults.map (fun r => (r.kind, r.outcome, r.unitKind, r.core, r.tile)) =
    [(15, 4, 3, 1, 31)] := by decide +kernel
/-- A retired column of a Ready tile with its shadow; lane 15 retired. -/
def columnOut : State :=
  { loaded 2 .ready with crock := { ready.crock with mirror := { ready.crock.mirror with retired :=
    [{ core := 1, tile := 5, column := 527, lane := 0, kind := 1 }, { core := 0, tile := 63, column := 1023, lane := 15, kind := 3 }] } } }
theorem witness_unitRestore : columnOut.running = [] ∧ columnOut.waiting = [] ∧ columnOut.flows.runs = [] ∧
    TakenAtOnce 0xA03 (hd 0) [unitOf 0 1 5 527 0] columnOut ∧ columnOut.colRetired 1 5 527 = true ∧ columnOut.coreRetired 1 = false ∧
    (columnOut.tile 1 5).job = none ∧ (columnOut.tile 1 5).state = .ready ∧ (columnOut.tile 1 5).shadow = true ∧
    TakenAtOnce 0xA03 (hd 0) [unitOf 1 1 5 0 0] (loaded 2 .retired) ∧ ((loaded 2 .retired).tile 1 5).state = .retired ∧
    TakenAtOnce 0xA03 (hd 0) [unitOf 2 31 63 0 0] coreOut ∧ coreOut.coreRetired 31 = true ∧
    TakenAtOnce 0xA03 (hd 0) [unitOf 3 0 63 0 15] columnOut ∧ columnOut.laneRetired 15 = true ∧
    TakenAtOnce 0xA03 (hd 0) [unitOf 2 31 63 0 0] ready ∧ ready.coreRetired 31 = false ∧
    TakenAtOnce 0xA03 (hd 0) [unitOf 3 0 63 0 15] ready ∧ ready.laneRetired 15 = false := by
  unfold TakenAtOnce; and_intros <;> decide +kernel
theorem test_unitRestore :
    ((after (.unitRestore (hd 0) [unitOf 0 1 5 527 0]) columnOut).tile 1 5).job = some (.restoreColumn 527 .ready (some 0)) ∧
    ((after (.unitRestore (hd 0) [unitOf 1 1 5 0 0]) (loaded 2 .retired)).tile 1 5).job = some (.restoreTile (some 0)) ∧
    ((after (.unitRestore (hd 0) [unitOf 2 31 63 0 0]) coreOut).core 31).testCmd = some 0 ∧
    (after (.unitRestore (hd 0) [unitOf 3 0 63 0 15]) columnOut).ingest.provisional = [15] := by decide +kernel

/-! ## Queues and messages -/

/-- A part of flow 2 at step 0 of these steps on queue 1 of core 3, counter 4 of the core at (6, 2). -/
def onQueue (steps : List Step) (stall : Stall) (loop : Option Loop) (readout : Option Readout) : State :=
  { running 9 ready with
    flows := { Flows.start with
      nextRun := 2, ctxs := [(2, { Ctx.blank 0 2 with run := some 1, sync := [(148, (6, 2))] })]
      runs := [(1, { runOf steps (some (windowOf steps)) with kernel := { kernelOf steps with parts := [{ partOf steps with core := 3 }] } })] }
    cores := [(3, { Core.start 3 with queues := [(1, { ctx := 2, run := 1, part := 0, step := 0, stall := stall, loop := loop, readout := readout,
                                                        progressClk := 0, resumptions := 0, entryClk := 0, stallClk := 0 })] })] }
/-- A template of tile 5: rows 0 to 31, columns 0 to 31. -/
def templOf : Templ :=
  { tile := 5, pair := false, rowMask := false, colMask := false, part := 0, rowFirst := 0, rowCount := 4, inOffset := 0, maskIndex := 0,
    colFirst := 0, colCount := 2 }
/-- A layer of two items of the window under a static scale of 1, one output block, one K part. -/
def layerOf : Layer :=
  { loopOrder := 0, inSource := 0, outTarget := 0, inFormat := 1, useWork := false, workCounter := 0, golden := false, batch := 2, nBlocks := 1,
    kParts := 1, inStride := 4, outStride := 512, slotBase := 0, slotCount := 2, accShift := 0, homeCore := 3, inBase := 0, claimSize := 1,
    outBase := 64, partTotal := 0, actBits8 := false, zpMode := 0, scaleSource := 2, rerun := false, staticZp := 0, staticScale := 128,
    missSatFrac := 0, underusePeak := 0, satThreshold := 0, marginOrRow := 0, toFunnel := false,
    chain := [{ func := 0, outFormat := 1, perColumn := false, kM1 := 0, imm := 0, param := 0 }], templates := [templOf] }
theorem witness_steps : (∀ x ∈ [Step.layer layerOf, .signal 3 4 1, .signal 5 4 1, .wait 4 true false 4, .workReset 0 1, .lid 2 16, .fence],
    ((onQueue [x, .fence] .none none none).head? 3 1).map (fun h => (h.step, h.idle, h.part.steps.length)) = some (x, true, 2)) ∧
    (onQueue [.fence, .fence] .none none none).coreUp 3 = true ∧ layerOf.useWork = false := by decide +kernel
theorem test_steps :
    ((after (.signal 3 1) (onQueue [.signal 3 4 5, .fence] .none none none)).ctx? 2).map (fun c => c.vb 3 4) = some (11, 2) ∧
    (after (.signal 3 1) (onQueue [.signal 5 4 1, .fence] .none none none)).flows.ladle.length = 1 ∧
    ((after (.lidArrive 3 1) (onQueue [.lid 2 16, .fence] .none none none)).core 3).arrivals = 4 ∧
    ((after (.fence 3 1) (onQueue [.fence, .fence] .none none none)).core 3).fenceNext = 1 := by decide +kernel
/-- E is B + 4 = 6 = V: satisfied; B + 5 is not, and V is satisfied half a circle behind. -/
theorem test_wait :
    ((after (.wait 3 1) (onQueue [.wait 4 true false 4, .fence] .none none none)).queue? 3 1).map (fun v => (v.step, v.stall)) = some (1, .none) ∧
    ((after (.wait 3 1) (onQueue [.wait 4 true true 5, .fence] .none none none)).queue? 3 1).map (fun v => (v.step, v.stall)) =
      some (0, .wait 4 7 true) ∧
    ((after (.wait 3 1) (onQueue [.wait 4 false false 0x80000007, .fence] .none none none)).queue? 3 1).map (fun v => v.step) = some 1 ∧
    ((after (.wait 3 1) (onQueue [.wait 4 false false 0x80000006, .fence] .none none none)).queue? 3 1).map (fun v => v.step) = some 0 := by
  decide +kernel
theorem test_layer :
    ((after (.layer 3 1) (onQueue [.layer layerOf, .fence] .none none none)).queue? 3 1).map (fun v => v.loop.map (fun x => x.items)) =
      some (some [0, 1]) ∧
    (after (.layer 3 1) (onQueue [.layer { layerOf with useWork := true }, .fence] .none none none)).flows.claims.length = 1 ∧
    ((after (.workReset 3 1) (onQueue [.workReset 7 9, .fence] .none none none)).queue? 3 1).map (fun v => v.stall) = some .work := by
  decide +kernel
/-- LID_ARRIVE waits for what the queue has sent. -/
theorem witness_lidWaits :
    let s := onQueue [.lid 2 16, .fence] .none none none
    let t := { s with flows := { s.flows with ladle := [{ src := 3, dst := 5, queue := 1, body := .signal 2 4 1 }] } }
    (∃ m ∈ t.flows.ladle, m.src = 3 ∧ m.queue = 1) ∧ (after (.lidArrive 3 1) t).cores = t.cores := by decide +kernel

/-- Core 3 has arrived at line 2, alone on it. -/
def arrived : State :=
  let s := onQueue [.lid 2 16, .fence] (.lid 2 true) none none
  { s.setReg 0x210 8 with cores := [(3, { s.core 3 with arrivals := 4 })] }
theorem witness_lidEdge : arrived.coresRun = true ∧ (arrived.head? 3 1).map (fun h => (h.v.stall, h.step, h.part.steps.length)) =
      some (.lid 2 true, .lid 2 16, 2) ∧ bitN (arrived.core 3).arrivals 2 = true ∧ arrived.coreUp 3 = true ∧
    arrived.lidLevel 2 = true ∧ (∀ c, c < 32 → c ≠ 3 → (arrived.core c).queues = []) := by decide +kernel
theorem witness_lidEdge_outside : ∀ c, 32 ≤ c → (arrived.core c).queues = [] := by
  intro c h
  have e : ¬ 3 = c := by omega
  simp [arrived, State.core, State.setReg, tget, e, Core.start]
/-- Line 2 is enabled and core 4, a member too, has not arrived. -/
theorem witness_lidEdge_low : ((arrived.setReg 0x210 24).setReg 0x214 1).lidLevel 2 = false := by decide +kernel
theorem test_lidEdge :
    ((after (.lidEdge 2) arrived).ctx? 2).map (fun d => d.vb 3 4) = some (6, 6) ∧ ((after (.lidEdge 2) arrived).core 3).arrivals = 0 ∧
    ((after (.lidEdge 2) arrived).queue? 3 1).map (fun v => v.step) = some 1 := by decide +kernel
theorem witness_fenceAck : ((onQueue [.fence, .fence] (.fence 0) none none).head? 3 1).map (fun h => (h.v.stall, h.step)) =
      some (.fence 0, .fence) ∧ (onQueue [.fence, .fence] (.fence 0) none none).flows.ladle = [] := by decide +kernel
theorem test_fenceAck :
    let s := onQueue [.fence, .fence] (.fence 0) none none
    let t := { s with flows := { s.flows with ladle := [{ src := 3, dst := 5, queue := 1, body := .act 2 0 0 [1] }] } }
    ((after (.fenceAck 3 1) s).queue? 3 1).map (fun v => v.step) = some 1 ∧ ((after (.fenceAck 3 1) t).queue? 3 1).map (fun v => v.step) = some 0 := by
  decide +kernel
/-- Signals for flow 2 on their way to core 3, where it is resident, and to core 5, where it is not. -/
def signalling : State :=
  let s := onQueue [.fence, .fence] .none none none
  { s with flows := { s.flows with ladle := [{ src := 4, dst := 3, queue := 0, body := .signal 2 4 1 }, { src := 4, dst := 5, queue := 0, body := .signal 2 4 1 }],
                                    pot := [{ core := 3, ctx := 2, counter := 4, inc := 2 }] } }
theorem witness_signals : signalling.coresRun = true ∧ (signalling.core 3).queues.length = 1 ∧ (∀ e ∈ (signalling.core 5).queues, e.2.ctx ≠ 2) ∧
    (signalling.queue? 3 1).map (fun v => (v.ctx, v.stall)) = some (2, .none) ∧ (signalling.ctx? 2).isSome = true ∧
    (∀ e ∈ (signalling.core 3).queues, e.2.stall = .none) ∧ signalling.crock.mirror.faults.length < 1024 := by decide +kernel
theorem test_signals :
    ((after (.signalArrival 4 3 { corrected := 1, failures := 2 }) signalling).ctx? 2).map (fun d => d.vb 3 4) = some (7, 2) ∧
    (after (.signalArrival 4 5 { corrected := 0, failures := 0 }) signalling).flows.pot.length = 2 ∧
    (after (.signalArrival 4 3 { corrected := 0, failures := 3 }) signalling).crock.mirror.faults.map (fun r => (r.kind, r.outcome)) = [(11, 2), (11, 3)] ∧
    ((after (.stockpotSignalApply 3) signalling).ctx? 2).map (fun d => d.vb 3 4) = some (8, 2) := by decide +kernel
/-- A claim, a claim made again, and a reset, all of queue 1 of core 3. -/
def claiming (reset reply : Option Nat) (last : Tbl (Nat × Nat)) : State :=
  let s := onQueue [.workReset 0 9, .fence] .work none none
  { s with flows := { s.flows with claims := [{ core := 3, queue := 1, seq := 0, counter := 0, amount := 5, reset := reset, reply := reply }],
                                    node := { counters := [(0, 0xFFFFFFFE)], last := last, nextSeq := [(13, 1)] } } }
theorem witness_claims : (claiming none none []).coresRun = true ∧ (claiming none none []).flows.claims.length = 1 ∧
    tget? (claiming none none [(13, (0, 8))]).flows.node.last 13 = some (0, 8) ∧
    ((claiming (some 9) (some 0) []).head? 3 1).map (fun h => (h.v.stall, h.step)) = some (.work, .workReset 0 9) := by decide +kernel
/-- The counter stops at 2^32 - 1; a repeated claim gets the reply it had; a reset sets the counter. -/
theorem test_claims :
    tget (after (.workClaim 3 1) (claiming none none [])).flows.node.counters 0 0 = 0xFFFFFFFF ∧
    (after (.workClaim 3 1) (claiming none none [])).flows.claims.map (fun m => m.reply) = [some 0xFFFFFFFE] ∧
    (after (.workClaim 3 1) (claiming none none [(13, (0, 8))])).flows.claims.map (fun m => m.reply) = [some 8] ∧
    tget (after (.workClaim 3 1) (claiming (some 9) none [])).flows.node.counters 0 0 = 9 := by decide +kernel
theorem test_claimReply_reset : ((after (.workClaimReply 3 1) (claiming (some 9) (some 0) [])).queue? 3 1).map (fun v => v.step) = some 1 ∧
    (after (.workClaimReply 3 1) (claiming (some 9) (some 0) [])).flows.claims = [] := by decide +kernel
/-- A batch loop that waits for its claim. -/
def loopOf : Loop :=
  { items := [], issued := 0, codes := [], opened := [], out := [], claiming := true, ended := false, fresh := true, judged := false, sat := 0,
    marks := [], groupSat := [], peaks := [], extremes := [], attempt := 0 }
def claimed (reply : Nat) : State :=
  let s := onQueue [.layer { layerOf with useWork := true, batch := 3, claimSize := 2 }, .fence] .none (some loopOf) none
  { s with flows := { s.flows with claims := [{ core := 3, queue := 1, seq := 0, counter := 0, amount := 2, reset := none, reply := some reply }],
                                    node := { counters := [], last := [], nextSeq := [(13, 1)] } } }
theorem witness_claimReply : ((claimed 2).head? 3 1).map (fun h => (h.v.loop, h.v.readout, h.part.steps.length)) = some (some loopOf, none, 2) ∧
    loopOf.claiming = true ∧ loopOf.opened = [] ∧ loopOf.ended = false ∧ loopOf.fresh = true ∧ loopOf.items = [] ∧
    0 = (tget (claimed 2).flows.node.nextSeq (4 * 3 + 1) 0 + 255) % 256 := by decide +kernel
/-- Item 2 of 3 is the last; a claim at 3 ends the loop. -/
theorem test_claimReply :
    ((after (.workClaimReply 3 1) (claimed 2)).queue? 3 1).map (fun v => v.loop.map (fun x => x.items)) = some (some [2]) ∧
    ((after (.workClaimReply 3 1) (claimed 3)).queue? 3 1).map (fun v => v.step) = some 1 := by decide +kernel
/-- A queue whose last progress lies its timeout back. -/
def stuckQueue (clk : Nat) : State := { onQueue [.wait 4 false false 9, .fence] (.wait 4 9 false) none none with clk := clk }
theorem witness_watchdog : (stuckQueue 2500000).coresRun = true ∧ (stuckQueue 2500000).running = [] ∧
    ((stuckQueue 2500000).head? 3 1).map (fun h => (h.ctx.isCmd, h.run.status, h.run.ctx, h.v.ctx, h.ctx.part)) = some (false, none, 2, 2, 0) ∧
    0 + (stuckQueue 2500000).timeout 0 1 ≤ (stuckQueue 2500000).clk ∧ (stuckQueue 2499999).clk < 0 + (stuckQueue 2499999).timeout 0 1 := by
  decide +kernel
/-- Core 3, queue 1, WAIT, counter 4, E 9 and V 6. -/
theorem test_watchdog :
    (((after (.queueWatchdog 3 1) (stuckQueue 2500000)).funnel 0).waiting.getLast?).map (fun k => (k.kind, k.body)) =
      some (3, [d64 (3 + 32 + 256 * 3 + 65536 * 4 + 2 ^ 32 * 9), d64 6]) ∧
    ((after (.queueWatchdog 3 1) (stuckQueue 2499999)).queue? 3 1).isSome = true := by decide +kernel
/-! ## Layers -/

/-- A layer has begun; tile 5 of core 3 is Ready at gain index 0 with weight 2 at rows 0 to 3 and 126 to 129 of column 0, and the window's samples are
100, 200, -300 and 400. -/
def layering (l : Layer) : State :=
  let s := onQueue [.layer l, .fence] .none (some { loopOf with items := [0, 1], claiming := false }) none
  { s with
    tiles := [(tileNo 3 5, { Tile.empty .ready with
      shadow := true, weights := [(0, 2), (256, 2), (512, 2), (768, 2), (32256, 2), (32512, 2), (32768, 2), (33024, 2)], cfgs := [{ since := 0, words := 0x10 :: cfgDefault.drop 1 }] })]
    ingest := { s.ingest with rings := [(0, { Ring.empty 16 with next := 4, data := [(0, (100, 0)), (1, (200, 0)), (2, (-300, 0)), (3, (400, 0))] })] } }
/-- The layer with its rows across two groups, with eight-bit codes, with a RELU before its last step, and under golden checking. -/
def layerTwo : Layer := { layerOf with templates := [{ templOf with rowFirst := 126 }] }
def layerEight : Layer := { layerOf with actBits8 := true, staticScale := 0xFC80 }
def layerRelu : Layer := { layerOf with chain := { func := 3, outFormat := 1, perColumn := false, kM1 := 0, imm := 0, param := 0 } :: layerOf.chain }
def layerGolden : Layer := { layerOf with golden := true }
/-- After codes, admission, the start of the phase and its latch. -/
def coded (l : Layer) : State := after (.scoopCodes 3 1) (layering l)
def admitted (l : Layer) : State := after (.tileOpAdmit 3 1) (coded l)
def begun (l : Layer) : State := after (.phaseStart 3 5) (admitted l)
/-- The first phase is over, the second to come. -/
def between (l : Layer) : State := (begun l).modTile 3 5 (fun v => { v with running := v.running.map (fun r => { r with phase := none }) })
/-- The loop of the queue. -/
def loopNow (s : State) : Option Loop := (s.queue? 3 1).bind (fun v => v.loop)

theorem witness_scoop : ((layering layerOf).head? 3 1).map (fun h => (h.step, h.v.readout)) = some (.layer layerOf, none) ∧
    (layering layerOf).coresRun = true ∧ (layering layerOf).coreUp 3 = true ∧ (loopNow (layering layerOf)).bind uncoded = some 0 ∧
    ((layering layerOf).head? 3 1).map (fun h => h.run.window.isSome) = some true ∧ layerOf.inSource = 0 ∧ layerOf.scaleSource = 2 ∧
    (scaleOf layerOf.staticScale).mant ≠ 0 ∧ layerOf.zpMode ≤ 1 ∧ layerOf.satThreshold = 0 ∧
    (loopNow (layering layerOf)).map (fun x => (x.items, x.codes.length, x.fresh)) = some ([0, 1], 0, true) ∧
    (loopNow (layering layerOf)).map (fun x => (x.opened, x.out)) = some ([], []) := by
  and_intros <;> decide +kernel
/-- 100, 200, -300 and 400 under the scale 128 give 1, 2, 0 and 3; under the scale 8 in eight bits 12 (12.5, to even), 25, 0 and 50
(R93). -/
theorem test_scoop :
    (loopNow (coded layerOf)).map (fun x => x.codes.map (fun c => c.templ)) = some [[[(0, 1), (1, 2), (2, 0), (3, 3)]]] ∧
    (loopNow (coded layerEight)).map (fun x => x.codes.map (fun c => c.templ)) = some [[[(0, 12), (1, 25), (2, 0), (3, 50)]]] := by
  decide +kernel
theorem witness_admit : ((loopNow (coded layerOf)).bind (nextOp layerOf)).map (fun o => (o.1, o.2.1)) = some ((0, 0, 0), templOf) ∧
    (coded layerOf).coreUp 3 = true ∧ ((coded layerOf).head? 3 1).map (fun h => checkAssured h.run.check) = some false ∧
    templOf.pair = false ∧ (coded layerOf).tileOut 3 5 = false ∧ (coded layerOf).tileUsable 3 5 = true ∧
    (coded layerOf).completed 3 1 0 0 0 = false ∧ (coded layerOf).parked? 3 1 0 0 = none ∧ ((coded layerOf).slot 3 0).state = 0 ∧
    (∀ j ∈ [0, 1], (coded layerOf).colRetired 3 5 j = false) ∧ ((coded layerOf).tile 3 5).inFlight.length < 128 := by decide +kernel
theorem test_admit :
    ((admitted layerOf).tile 3 5).inFlight.map (fun o => (o.rows, o.cols)) = [([(0, 1), (1, 2), (2, 0), (3, 3)], [0, 1])] ∧
    ((admitted layerOf).slot 3 0).state = 1 := by decide +kernel
/-- With 128 operations in flight the tile takes none. -/
theorem witness_admit_full : ∃ op ∈ ((admitted layerOf).tile 3 5).inFlight,
    let s := (coded layerOf).modTile 3 5 (fun v => { v with inFlight := List.replicate 128 op })
    128 ≤ (s.tile 3 5).inFlight.length ∧ ((after (.tileOpAdmit 3 1) s).tile 3 5).inFlight.length = 128 := by decide +kernel
theorem witness_phaseStart : (admitted layerTwo).coresRun = true ∧ ((admitted layerTwo).tile 3 5).running = none ∧
    ((admitted layerTwo).tile 3 5).inFlight.length = 1 ∧ (admitted layerTwo).tileClear 3 5 = true ∧
    ((admitted layerTwo).tile 3 5).inFlight.map (fun op =>
      ((admissions op.cfg ((admitted layerTwo).weightMax 3 5) op).flatMap (·.phases)).length) = [2] ∧
    ((between layerTwo).tile 3 5).running.map (fun r => (r.phase.isNone, r.rest.length)) = some (true, 1) ∧
    (ready.tile 0 0).running = none ∧ (ready.tile 0 0).inFlight = [] := by decide +kernel
/-- The phases run in order of their groups. -/
theorem test_phaseStart :
    ((begun layerTwo).tile 3 5).running.bind (fun r => r.phase.map (fun p => (p.group, p.rows))) = some (0, [(126, 1), (127, 2)]) ∧
    ((after (.phaseStart 3 5) (between layerTwo)).tile 3 5).running.bind (fun r => r.phase.map (fun p => (p.group, p.rows))) =
      some (1, [(128, 0), (129, 3)]) := by decide +kernel
theorem witness_latch : ((begun layerTwo).tile 3 5).running.map (fun r => (r.phase.isSome, r.rest.length, r.op.cols)) = some (true, 1, [0, 1]) ∧
    [0, 1].Nodup ∧ (∀ j ∈ [0, 1], j < 512) ∧ WellFormed.deviation [(535, 0)] = true ∧
    ((begun layerTwo).tile 3 5).running.map (fun r => (begun layerTwo).opCols 3 5 r.op) = some [0, 1] := by
  decide +kernel
/-- The code of column 0 is 3 × 2 = 6, its contribution to lane 0 is 6 × 128, the scale; 60 steps more put the phase over range and it is
retried in halves. -/
theorem test_latch :
    ((after (.phaseLatch 3 5 []) (begun layerTwo)).core 3).joins.map (fun j => j.regs) = [[(0, [(0, 768)])]] := by decide +kernel
theorem test_latch_retried :
    ((after (.phaseLatch 3 5 [(0, 60 * 256)]) (begun layerTwo)).tile 3 5).running.map (fun r => r.rest.map (fun p => (p.group, p.rows, p.half))) =
      some [(0, [], 1), (0, [(126, 1), (127, 2)], 2), (1, [(128, 0), (129, 3)], 0)] := by decide +kernel
/-- A row of two lanes, 1536 and 0, of item 0 waits for its next step. -/
def readingOut (l : Layer) (step : Nat) : State :=
  onQueue [.layer l, .fence] .none (some { loopOf with
    items := [0, 1], claiming := false, codes := [{ item := 0, templ := [[(0, 1), (1, 2), (2, 0), (3, 3)]], scales := [[(scaleOf 128, 0)]], expMax := [0] }] })
    (some { item := 0, row := [some 0x44C00000, some 0], index := step, golden := none })
theorem witness_skillet : ((readingOut layerOf 0).head? 3 1).map (fun h => (h.step, h.v.readout.map (fun r => r.index))) = some (.layer layerOf, some 0) ∧
    (loopNow (readingOut layerOf 0)).map (fun x => (x.opened, x.out, x.fresh)) = some ([], [], true) ∧ (readingOut layerOf 0).coresRun = true ∧
    ((readingOut layerRelu 0).head? 3 1).map (fun h => h.v.readout.map (fun r => r.index)) = some (some 0) ∧ layerRelu.chain.length = 2 ∧
    Memory.wf ((readingOut layerOf 0).core 3).act = true ∧
    ((readingOut layerOf 0).head? 3 1).map (fun h => h.part.ownBytes 1 (64 + 0 + h.part.bank 1) 4) = some true := by
  and_intros <;> decide +kernel
theorem witness_skillet_step :
    (((readingOut layerOf 0).head? 3 1).bind (fun h => h.v.readout.bind (fun r => layerOf.chain.head?.bind (fun k =>
      ((readingOut layerOf 0).lastOutput h.part 1 layerOf k r.row).map (fun o => o.data))))) = some [0, 6, 0, 0] ∧
    (((readingOut layerRelu 0).head? 3 1).bind (fun h => h.v.readout.bind (fun r => layerRelu.chain.head?.bind (fun k =>
      ((readingOut layerRelu 0).runStep h.part 1 k r.row).map (fun x => (x.1.sat, x.2)))))) = some (0, 0) := by decide +kernel
/-- 1536 is stored at OUT_BASE 64 as i16. -/
theorem test_skillet :
    (after (.skilletStep 3 1) (readingOut layerOf 0)).getAct 3 64 4 = [0, 6, 0, 0] ∧
    (loopNow (after (.skilletStep 3 1) (readingOut layerOf 0))).map (fun x => x.out) = some [0] ∧
    ((after (.skilletStep 3 1) (readingOut layerRelu 0)).queue? 3 1).map (fun v => v.readout.map (fun r => r.index)) = some (some 1) := by
  decide +kernel
/-- Tongs has item 0 to compute: (1 + 2 + 0 + 3) × 2 × 128 = 1536. -/
def golden : State :=
  let s := readingOut layerGolden 0
  { s with tiles := (layering layerGolden).tiles, cores := [(3, { s.core 3 with tongs := [.golden 1 0] })] }
theorem witness_golden : golden.coresRun = true ∧ (golden.core 3).tongs = [.golden 1 0] ∧
    (golden.head? 3 1).map (fun h => h.v.readout.map (fun r => r.item)) = some (some 0) ∧
    (loopNow golden).map (fun x => (x.codes.find? (fun c => c.item == 0)).isSome) = some true := by decide +kernel
theorem test_golden : ((after (.tongsDone 3 [] []) golden).queue? 3 1).map (fun v => v.readout.map (fun r => r.golden)) =
    some (some (some (0, [(0, 1536)]))) := by decide +kernel

/-! ## Data messages and checks -/

/-- A partial sum of core 4 for slot 0 of core 3, which awaits two of them and holds part 0; lane 0 stands at 5. -/
def summing (parts : List Nat) : State :=
  let s := onQueue [.layer layerOf, .fence] .none none none
  { s with
    flows := { s.flows with ladle := [{ src := 4, dst := 3, queue := 0, body := .psum 1 0 0 0 parts [(0, 7)] 0 0 1 }] }
    cores := [(3, { s.core 3 with slots := [(0, { Slot.free with
      state := 1, run := 1, partTotal := 1, ledger := [0], lanes := [(0, 5)] })] })] }
theorem witness_psum : (summing [1]).coresRun = true ∧ ((summing [1]).run? 1).map (fun r => (r.abandoned, (r.partOn 3).map (fun p => p.1))) =
      some (false, some 0) ∧ (receiverOf { partOf [.layer layerOf, .fence] with core := 3 } 0).map (fun x => x.1) = some 0 ∧
    (summing [1]).completed 3 1 0 0 0 = false ∧ ((summing [1]).slot 3 0).isOf 1 0 0 = true ∧
    ((summing [1]).queue? 3 1).map (fun v => (v.run, v.part, v.loop)) = some (1, 0, none) := by decide +kernel
theorem test_psum :
    ((after (.psumArrival 4 3 { corrected := 0, failures := 0 }) (summing [1])).slot 3 0).lanes = [(0, 12)] ∧
    ((after (.psumArrival 4 3 { corrected := 0, failures := 0 }) (summing [1])).slot 3 0).state = 2 ∧
    ((after (.psumArrival 4 3 { corrected := 0, failures := 0 }) (summing [0])).slot 3 0).lanes = [(0, 5)] ∧
    (after (.psumArrival 4 3 { corrected := 0, failures := 0 }) (summing [0])).counter (coreCtr 3 29) = 1 := by decide +kernel
/-- An activation message of three bytes for flow 2's part, resident on core 3 or absent with an inbox. -/
def activating (off : Nat) : State :=
  let s := onQueue [.fence, .fence] .none none none
  { s with flows := { s.flows with ladle := [{ src := 4, dst := 3, queue := 0, body := .act 2 0 off [1, 2, 3] }] } }
def absent : State :=
  let s := activating 200
  { s with
    cores := []
    flows := { s.flows with runs := [(1, { runOf [.fence, .fence] none with kernel := { kernelOf [] with
      parts := [{ partOf [.fence, .fence] with core := 3, inboxBase := 200, inboxBytes := 3 }] } })] } }
theorem witness_activation : (activating 131069).coresRun = true ∧ 131069 + 3 ≤ 131072 ∧ Memory.wf ((activating 131069).core 3).act = true ∧
    ((activating 131069).queue? 3 1).map (fun v => (v.ctx, v.part)) = some (2, 0) ∧ (absent.core 3).queues = [] ∧
    (absent.ctx? 2).map (fun c => (c.run, Memory.wf (tget c.inbox 0 []))) = some (some 1, true) ∧
    ((absent.run? 1).bind (fun r => r.kernel.parts[0]?)).map (fun p => (p.inboxBase, p.inboxBytes)) = some (200, 3) := by decide +kernel
theorem test_activation :
    (after (.activationArrival 4 3 { corrected := 0, failures := 0 }) (activating 131069)).getAct 3 131069 3 = [1, 2, 3] ∧
    ((after (.activationArrival 4 3 { corrected := 0, failures := 0 }) absent).ctx? 2).map (fun c => Memory.readBytes (tget c.inbox 0 []) 0 3) =
      some [1, 2, 3] := by decide +kernel
/-- The queue has been resumed n times. -/
def resumed (n : Nat) : State :=
  let s := onQueue [.fence, .fence] .none none none
  { s with cores := [(3, { s.core 3 with queues := [(1, { ctx := 2, run := 1, part := 0, step := 0, stall := .none, loop := none, readout := none,
                                                           progressClk := 0, resumptions := n, entryClk := 0, stallClk := 0 })] })] }
theorem witness_sram : (resumed 1).coresRun = true ∧ (resumed 1).crock.mirror.faults = [] ∧
    ((resumed 1).head? 3 1).map (fun h => (h.v.resumptions, h.v.loop, h.v.stall, h.ctx.isCmd, h.run.ctx)) = some (1, none, .none, false, 2) ∧
    ((resumed 2).head? 3 1).map (fun h => h.v.resumptions) = some 2 := by decide +kernel
theorem test_sram :
    ((after (.coreSram 3 1 5 0x123456) (resumed 1)).queue? 3 1).map (fun v => v.resumptions) = some 2 ∧
    (after (.coreSram 3 1 5 0x123456) (resumed 1)).crock.mirror.faults.map (fun r => (r.kind, r.outcome, r.detail)) =
      [(9, 1, 0x5123456), (9, 3, 0x5123456)] ∧
    ((after (.coreSram 3 1 5 0x123456) (resumed 2)).queue? 3 1).isNone = true := by decide +kernel

/-- A batch of block 4 of tile 5 of core 3 with a mean of m / 16 step each and variance v. -/
def batched (count : Nat) (sum : Int) : State :=
  { ready with tiles := [(tileNo 3 5, { Tile.empty .ready with
      batches := [(4, { count := count, sum16 := sum, var := 1 })], retractLost := [4],
      retractList := [{ part := 0, ctx := 2, seq := 0, cols := [130], waiting := [4] }] })] }
theorem witness_batch : (batched 256 100000).coresRun = true ∧ tget? ((batched 256 100000).tile 3 5).batches 4 = some { count := 256, sum16 := 100000, var := 1 } ∧
    (batched 256 100000).batchFails { count := 256, sum16 := 100000, var := 1 } = true ∧ ((batched 256 100000).tile 3 5).job = none ∧
    (batched 256 0).batchFails { count := 256, sum16 := 0, var := 1 } = false ∧ (batched 256 0).running = [] := by decide +kernel
theorem test_batch :
    ((after (.sieveBatchEnd 3 5 4) (batched 256 100000)).tile 3 5).job = some (.scan 4 391) ∧
    ((after (.sieveBatchEnd 3 5 4) (batched 256 0)).tile 3 5).retractList = [] ∧
    ((after (.sieveBatchEnd 3 5 4) (batched 256 0)).tile 3 5).retractLost = [] ∧
    ((after (.sieveBatchEnd 3 5 4) (batched 255 0)).tile 3 5).batches.length = 1 := by decide +kernel
/-- The scan of block 4 is under way. -/
def scanning : State :=
  { ready with
    tiles := [(tileNo 3 5, { Tile.empty .ready with job := some (.scan 4 391) })]
    running := [actTile 3 2 3 5 0 none] }
theorem witness_scan : scanning.coresRun = true ∧ scanning.act? 3 2 3 5 = some (actTile 3 2 3 5 0 none) ∧
    (scanning.tile 3 5).job = some (.scan 4 391) ∧ (scanning.tile 3 5).running = none ∧ scanning.crock.mirror.faults = [] ∧
    scanning.running = [actTile 3 2 3 5 0 none] ∧ scanning.waiting = [] ∧ (scanning.tile 3 5).state = .ready := by decide +kernel
theorem test_scan :
    ((after (.blockScan 3 5 []) scanning).tile 3 5).calDue = true ∧ ((after (.blockScan 3 5 []) scanning).tile 3 5).job = none ∧
    ((after (.blockScan 3 5 []) scanning).crock.mirror.faults.head?).map (fun r => (r.kind, r.core, r.tile, r.detail)) =
      some (2, 3, 5, 4 + 16 * 391) := by decide +kernel
/-- A provisional record of run 1 whose checks stand as given. -/
def checking (left : Nat) (cause : Option Nat) : State :=
  let s := onQueue [.fence, .fence] .none none none
  { s with
    flows := { s.flows with runs := [(1, { runOf [.fence] none with openChecks := left, failCause := cause })] }
    funnels := [(0, { Funnel.start with outstanding :=
      [{ pkt := { packet 0 with prov := true, run := some 1 }, dests := 1, verdict := none, taken := 0 }] })] }
theorem witness_checks : (checking 0 none).coresRun = true ∧ ((checking 0 none).funnel 0).outstanding.length = 1 ∧
    ((checking 0 none).run? 1).map (fun r => (r.openChecks, r.failCause)) = some (0, none) ∧ (packet 0).part = 0 := by decide +kernel
theorem test_checks :
    ((after (.checksDone 0) (checking 0 none)).funnel 0).waiting.map (fun k => (k.kind, k.seq)) = [(5, 5)] ∧
    (((after (.checksDone 0) (checking 0 (some 2))).funnel 0).waiting.map (fun k => k.kind)).contains 6 = true ∧
    ((after (.checksDone 0) (checking 1 none)).funnel 0).waiting = [] := by decide +kernel
/-- A packet of kind k waits before a FIFO that holds words of 64 bits. -/
def reserving (kind held : Nat) : State :=
  { ready with funnels := [(0, { Funnel.start with
      waiting := [{ packet 0 with kind := kind }], fifo := [{ pkt := packet held, route := 0, hostRead := 0, netRead := 0 }] })] }
/-- A record of 64 bytes fits up to 245,760 bytes, a gap up to 262,144. -/
theorem witness_reserve : Serving (reserving 1 1) ∧ ((reserving 1 1).funnel 0).waiting.length = 1 ∧
    (∀ b : List DWord, ({ packet 0 with body := b } : Pkt).words = 8 + b.length) := by
  refine ⟨rfl, by decide, fun _ => rfl⟩
theorem test_reserve :
    ((after (.funnelReserve 0) (reserving 1 1)).funnel 0).fifo.length = 2 ∧ (after (.funnelReserve 1) (reserving 1 1)).funnels = (reserving 1 1).funnels := by
  decide +kernel
/-- DMA to the host ring of 4 KiB at 0x10000, its write index written at 0x9000; one record of nine words. -/
def bursting : State :=
  { ((((ready.setReg 0x10400 1).setReg 0x10404 0x10000).setReg 0x1040C 12).setReg 0x10410 0x9000) with
    host := { ready.host with busMaster := 1 }
    funnels := [(0, { Funnel.start with fifo := [{ pkt := packet 1, route := 0, hostRead := 0, netRead := 0 }] })] }
theorem witness_burst : Serving bursting ∧ bursting.fnCtrl 0 0 1 = 1 ∧ bursting.fnCtrl 0 1 1 = 0 ∧ bursting.fnCtrl 0 2 1 = 0 ∧
    bursting.peerUp 0 (bursting.fnCtrl 0 3 6) = false ∧ bursting.master (bursting.partFn 0) = true ∧ bursting.partOn 0 = true ∧
    (packet 1).kind ≤ 4 ∧ (bursting.funnel 0).fifo.length = 1 ∧ Memory.wf bursting.host.mem = true ∧ bursting.ringSize 0 = 4096 ∧
    (bursting.reg (partOff 0 0x418)).toNat = (bursting.funnel 0).writeOff ∧ (bursting.funnel 0).writeOff + 64 * ((8 + 1 + 7) / 8) ≤ 4096 ∧
    0x9000 + 8 ≤ (bursting.reg (partOff 0 0x404)).toNat := by unfold Serving; and_intros <;> decide +kernel
theorem test_burst :
    (after (.funnelDmaBurst 0) bursting).hostRead 0x9000 8 = leBytes 8 128 ∧
    (after (.funnelDmaBurst 0) bursting).hostRead 0x10000 72 = dwordBytes ((packet 1).dwords false) ∧
    ((after (.funnelDmaBurst 0) bursting).funnel 0).fifo = [] := by decide +kernel
/-! ## Maintenance -/

/-- Tile 5 of core 3 in a state, nothing running. -/
def tileIn (st : TileState) : State := { ready with tiles := [(tileNo 3 5, { Tile.empty st with settled := true })] }
theorem witness_fallsDue : (tileIn .ready).coresRun = true ∧ ((tileIn .ready).tile 3 5).state = .ready ∧ (tileIn .ready).running = [] ∧
    (tileIn .ready).waiting = [] ∧ ((tileIn .awaiting).tile 3 5).state = .awaiting ∧ ((tileIn .ready).tile 3 5).refDue = false ∧
    ((tileIn .ready).tile 3 5).calDue = false ∧ ((tileIn .ready).tile 3 5).testDue = false := by decide +kernel
theorem test_fallsDue :
    (after (.refSampleDue 3 5) (tileIn .ready)).running = [actTile 2 0 3 5 0 none] ∧
    (after (.convCalDue 3 5) (tileIn .suspect)).running = [actTile 4 0 3 5 0 none] ∧
    (after (.tileTestDue 3 5) (tileIn .blank)).running = [actTile 1 0 3 5 0 none] ∧
    (after (.refSampleDue 3 5) (tileIn .retired)).running = [] ∧
    ((after (.calWithhold 3 5) (after (.refSampleDue 3 5) (tileIn .ready))).tile 3 5).withheld = true ∧
    ((after (.calWithhold 3 5) (tileIn .ready)).tile 3 5).withheld = false := by decide +kernel

/-- An activity of a code runs on the tile. -/
def acting (code : Nat) (st : TileState) : State := { tileIn st with running := [actTile code 0 3 5 0 none] }
/-- The ideal readings of R141, and readings with a sum of magnitudes of n in its place. -/
def refOf (n : Int) : RefReading := { m528 := n - 1792, m529 := -896, m530 := 384, m531 := -384, m535 := 128, temp := 300 }
/-- The expected sum is 896 + 896 + 384 + 384 + 128 = 2,688; read as 2,688 γ is 1, as 2,986 it is ⌊2,688 × 2^15 ÷ 2,986⌋ = 0x7339, just inside the limits, and as 5,377 it is 0x3FFC, below 0.5. -/
theorem witness_refSample : (acting 2 .ready).act? 2 0 3 5 = some (actTile 2 0 3 5 0 none) ∧
    gammaOf ((acting 2 .ready).calRec 3 5) (refOf 2688) = some 0x8000 ∧ gammaOf ((acting 2 .ready).calRec 3 5) (refOf 2986) = some 0x7339 ∧
    gammaOf ((acting 2 .ready).calRec 3 5) (refOf 5377) = some 0x3FFC ∧ ((acting 2 .ready).tile 3 5).settled = true ∧
    ((acting 2 .ready).tile 3 5).running = none ∧ (acting 2 .ready).crock.mirror.faults = [] := by decide +kernel
theorem test_refSample :
    ((after (.refSampleDone 3 5 (refOf 2986)) (acting 2 .ready)).tile 3 5).gainCorr = 0x7339 ∧
    ((after (.refSampleDone 3 5 (refOf 2986)) (acting 2 .ready)).tile 3 5).tempS = 300 ∧
    ((after (.refSampleDone 3 5 (refOf 5377)) (acting 2 .ready)).tile 3 5).testDue = true ∧
    ((after (.refSampleDone 3 5 (refOf 5377)) (acting 2 .ready)).crock.mirror.faults.head?).map (fun r => r.kind) = some 8 := by decide +kernel
/-- A calibration that needs an offset trim of 64 / 16 steps in column 535 and finds a baseline of 3 in block 15; one of 65. -/
def calOf (n : Int) : CalReading := { offsets := [(535, n)], gains := [], baselines := [(15, 3)] }
def calNone : CalReading := { offsets := [], gains := [], baselines := [] }
theorem witness_cal : (acting 4 .ready).act? 4 0 3 5 = some (actTile 4 0 3 5 0 none) ∧ WellFormed.cal (calOf 64) = true ∧ calFails (calOf 64) = [] ∧
    ((calOf 64).offsets.map (·.1)).Nodup ∧ calFails (calOf 65) = [(535, 0)] ∧ calFails calNone = [] ∧
    (acting 4 .ready).colRetired 3 5 535 = false := by decide +kernel
theorem test_cal :
    ((after (.convCalDone 3 5 (calOf 64) calNone 280) (acting 4 .ready)).tile 3 5).offsetTrim = [(535, 64)] ∧
    ((after (.convCalDone 3 5 (calOf 64) calNone 280) (acting 4 .ready)).tile 3 5).beta = [(15, 3)] ∧
    ((after (.convCalDone 3 5 (calOf 65) calNone 280) (acting 4 .ready)).crock.mirror.faults.head?).map (fun r => (r.kind, r.outcome)) =
      some (6, 0) := by decide +kernel
/-- A Suspect tile one clean test short of Ready (1,000 at reset). -/
def suspect (n : Nat) : State := (acting 1 .suspect).modTile 3 5 (fun v => { v with cleanTests := n })
theorem witness_tileTest : (acting 1 .ready).act? 1 0 3 5 = some (actTile 1 0 3 5 0 none) ∧ ((acting 1 .ready).core 3).testCmd = none ∧
    (acting 1 .ready).katFails 3 5 [] 16 ((acting 1 .ready).core 3).lfsr = [] ∧ (suspect 999).regf 0xD04 16 16 ≤ 999 + 1 ∧
    998 + 1 < (suspect 998).regf 0xD04 16 16 := by decide +kernel
theorem test_tileTest :
    ((after (.tileTestDone 3 5 [] []) (suspect 999)).tile 3 5).state = .ready ∧
    ((after (.tileTestDone 3 5 [] []) (suspect 998)).tile 3 5).state = .suspect ∧
    ((after (.tileTestDone 3 5 [] []) (suspect 998)).tile 3 5).cleanTests = 999 ∧
    (after (.tileTestDone 3 5 [] []) (acting 1 .ready)).counter (coreCtr 3 54) = 33 := by decide +kernel
theorem witness_feedforward : (tileIn .ready).coresRun = true ∧ (tileIn .ready).refPhases 3 5 = true ∧ (tileIn .retired).refPhases 3 5 = false := by
  decide
/-- 2.0 °C above the sample at κ = -1,225 ppm/°C, in 0.1 °C: the sample falls due (R79). -/
theorem test_feedforward :
    ((after (.gainFeedforward 3 270) (tileIn .ready)).tile 3 5).gainCorr = 32848 ∧
    ((after (.gainFeedforward 3 270) (tileIn .ready)).tile 3 5).refDue = true ∧
    ((after (.gainFeedforward 3 269) (tileIn .ready)).tile 3 5).refDue = false := by decide +kernel
/-- Core 3 with a test code to repeat, or none. -/
def slicing (code : Option Nat) : State := { ready with clk := 5000, cores := [(3, { Core.start 3 with repeatCode := code })] }
theorem witness_slice : (slicing none).coresRun = true ∧ (slicing none).quiesced 3 = false ∧ (slicing none).coreIdle 3 = true ∧
    (slicing none).coreRetired 3 = false ∧ (slicing none).running = [] ∧ ((slicing none).core 3).testCmd = none ∧
    (∀ e ∈ (slicing none).cores, e.1 ≠ 3 → e.2.testSlices = 0) ∧ bitN ((slicing none).coreState 3) 0 = false ∧
    (slicing none).crock.mirror.faults = [] ∧ (∀ e ∈ (slicing none).cores, e.2.queues = []) ∧ ((slicing (some 7)).core 3).repeatCode = some 7 := by
  decide +kernel
theorem test_slice :
    ((after (.coreSelftestSlice 3 none false) (slicing none)).core 3).testSlices = 1 ∧
    ((after (.coreSelftestSlice 3 (some 7) false) (slicing none)).core 3).repeatCode = some 7 ∧
    (after (.coreSelftestSlice 3 (some 7) false) (slicing (some 7))).coreRetired 3 = true ∧
    ((after (.coreSelftestSlice 3 none false) (slicing (some 7))).crock.mirror.faults.head?).map (fun r => (r.kind, r.outcome)) = some (10, 1) := by
  decide +kernel
/-- A sample and a calibration wait; a test of the same tile runs, or nothing. -/
def arbiting (run wait : List Activity) : State := { ready with running := run, waiting := wait }
theorem witness_arbiter :
    let a := actTile 2 0 3 5 0 none
    let b := actTile 4 0 3 5 0 none
    Serving (arbiting [] [a, b]) ∧ (a.code = 2 ∨ a.code = 4) ∧ (b.code = 2 ∨ b.code = 4) ∧ (arbiting [] [a, b]).blocked a = false ∧
    (arbiting [] [a, b]).blocked b = false ∧ (arbiting [actTile 1 0 3 5 0 none] [a]).blocked a = true := by unfold Serving; decide
theorem test_arbiter :
    let a := actTile 2 0 3 5 0 none
    let b := actTile 4 0 3 5 0 none
    (after .maintArbiterRun (arbiting [] [a, b])).running = [b] ∧ (after .maintArbiterRun (arbiting [] [a])).running = [a] ∧
    (after .maintArbiterRun (arbiting [actTile 1 0 3 5 0 none] [a])).waiting = [a] := by decide +kernel

/-! ## Programming and package memory -/

/-- Whisk has a job on tile 5 of core 1, which is in a state; TILE_PROGRAM waits for it. -/
def whisking (sort : Nat) (st : TileState) (job : WhiskJob) : State :=
  { ready with
    tiles := [(tileNo 1 5, { Tile.empty st with job := some job })]
    running := [actTile 3 sort 1 5 0 (some 3)]
    pre := { ready.pre with nextCmd := 4, cmds := [{ waiter with h := hd 0, op := 0x101, wait := .running }] } }
/-- The job of TILE_PROGRAM. -/
def programJob : WhiskJob := .program recordOf 1 0 (some 3)
theorem witness_programmingStart : (whisking 0 .blank programJob).coresRun = true ∧
    (whisking 0 .blank programJob).act? 3 0 1 5 = some (actTile 3 0 1 5 0 (some 3)) ∧
    ((whisking 0 .blank programJob).tile 1 5).job = some programJob ∧ (whisking 0 .blank programJob).needed 1 5 = false ∧
    ((whisking 0 .ready (.refresh .ready none)).tile 1 5).job = some (.refresh .ready none) ∧
    ((whisking 0 .ready (.restoreColumn 5 .ready none)).tile 1 5).inFlight = [] ∧
    ((whisking 0 .retired (.restoreTile none)).tile 1 5).running = none := by decide +kernel
theorem test_programmingStart :
    ((after (.programmingStart 1 5) (whisking 0 .blank programJob)).tile 1 5).state = .programming ∧
    ((after (.programmingStart 1 5) (whisking 0 .ready (.refresh .ready none))).calRec 1 5).state = 5 ∧
    ((after (.programmingStart 1 5) (whisking 0 .retired (.restoreTile none))).tile 1 5).state = .programming := by decide +kernel
theorem witness_programmingDone : (whisking 0 .programming programJob).pre.cmds.map (fun k => (k.id, k.op)) = [(3, 0x101)] ∧
    (whisking 0 .programming programJob).ringOn (hd 0) = true ∧ WellFormed.kats [] = true ∧ WellFormed.cal calNone = true ∧
    calFails calNone = [] ∧ ((whisking 0 .programming programJob).tileStuck 1 5).length ≤ 64 ∧
    ((whisking 0 .programming programJob).modTile 1 5 (takeRecord programJob)).katFails 1 5 [] 4 0 = [] := by decide +kernel
theorem test_programmingDone :
    let t := after (.programmingDone 1 5 [] [] calNone (refOf 2688)) (whisking 0 .programming programJob)
    (t.tile 1 5).state = .held ∧ (t.tile 1 5).owner = some (0, 1) ∧ (t.calRec 1 5).digest = [9] ∧ t.pre.cmds = [] ∧
    (t.lane 0 0).held = [replyOf (hd 0) 0x101 stOk [0] (whisking 0 .programming programJob)] := by decide +kernel
/-- Five latched cells of one column are over its budget of 4 where the image has weight there (Table 5.7). -/
theorem witness_erase : (whisking 1 .held .erase).act? 3 1 1 5 = some (actTile 3 1 1 5 0 (some 3)) ∧
    (whisking 1 .held .erase).usedByCommitted 1 5 = false ∧ (whisking 1 .held .erase).needed 1 5 = false ∧
    { whisking 1 .held .erase with pre := { ready.pre with models := [modelOf 2] } }.usedByCommitted 1 5 = true ∧
    ((whisking 1 .programming .erase).calRec 1 5).state ≠ 4 := by decide +kernel
theorem test_erase :
    ((after (.modelEraseStart 1 5) (whisking 1 .held .erase)).tile 1 5).state = .programming ∧
    ((after (.modelEraseStart 1 5) { whisking 1 .held .erase with pre := { ready.pre with models := [modelOf 2] } }).tile 1 5).state = .held ∧
    ((after (.tileEraseDone 1 5) (whisking 1 .programming .erase)).tile 1 5).state = .blank ∧
    (after (.tileEraseDone 1 5) (whisking 1 .programming .erase)).running = [] := by decide +kernel

/-- Package memory trained. -/
def memory : State := { ready with pkg := { ready.pkg with trained := true } }
theorem witness_memory : memory.memRuns = true ∧ memory.scrubOn = true ∧ memory.pkg.scrubNext ≤ 503316479 ∧ memory.running = [] ∧
    (memory.setReg 0xC40 0).scrubOn = false ∧ memory.power.fatal = false ∧ memory.pkg.poison.contains 0 = false ∧
    { memory with pkg := { memory.pkg with poison := [9] } }.pkg.poison.contains 9 = true := by decide +kernel
/-- Regions: below 8 MiB × 8 the firmware's, then partition 0's first, and the top of memory belongs to none. -/
theorem witness_regions : (memory.regionOf? 8).isSome = true ∧ memory.regionOf? 479 = none ∧ 503316479 / 1048576 = 479 ∧
    (8388608 - 1) / 1048576 < 8 := by decide +kernel
theorem test_scrub :
    (after (.patrolScrub 0 true) memory).pkg.scrubNext = 1 ∧ (after (.patrolScrub 0 true) memory).counter (devCtr 1) = 1 ∧
    (after (.patrolScrub 503316479 false) memory).pkg.scrubNext = 0 ∧ (after (.patrolScrub 503316479 false) memory).counter (devCtr 3) = 1 := by
  decide +kernel
theorem test_uncorrectable :
    (after (.memUncorrectable 0 false) memory).power.fatal = false ∧ (after (.memUncorrectable 0 true) memory).power.fatal = true ∧
    (after (.memUncorrectable 503316479 false) memory).pkg.poison = [503316479] ∧
    ((after (.memUncorrectable 8388608 false) memory).crock.mirror.faults.head?).map (fun r => (r.kind, r.outcome, r.partition)) =
      some (13, 7, 0) := by decide +kernel
theorem witness_stockpot : memory.coresRun = true ∧ memory.crock.mirror.faults.length < 1000 ∧ memory.flowPart? 16383 = some 0 ∧
    ((memory.setReg 0x504 16383)).flowPart? 16383 = none := by decide +kernel
theorem test_stockpot :
    ((after (.stockpotUncorr 0) { memory with flows := bindable.flows }).ctx? 0).isNone = true ∧
    ((after (.stockpotUncorr 16383) (memory.setReg 0x504 16383)).crock.mirror.faults.head?).map (fun r => (r.outcome, r.partition)) =
      some (2, 255) := by decide +kernel

/-! ## The network -/

/-- Port 0 with PFC of priority 3, IPv4 address 5, IPv6 address 6, PTP in domain 1 and TRACE_READ; peer 0 of partition 0 a node of NODE_ID 9
and peer 1 a RoCEv2 peer of it. -/
def net (link : Nat) : State :=
  { ready with net := { ready.net with
      ports := [(0, { Port.start with words := [0x39, 0, 0, 5, 6, 0, 0, 0, 0x05DC0000, 0x809], link := link })]
      peers := [(0, { Peer.start with words := [1, 0, 0, 0, 0, 0, 0, 0x90000], seqIn := 4, seqOut := 2,
                                      unacked := [{ seq := 1, data := [1], resends := 7 }, { seq := 2, data := [2], resends := 0 }] }),
                (1, { Peer.start with words := [2, 0, 0, 0, 0, 0, 0, 0x90000], sent := [(7, [18, 1]), (8, [18, 2])], retries := 6, rate := 980 })] } }
theorem witness_port : (net 1).netRuns = true ∧ bits ((net 1).port 0 |>.w 0) 0 2 ≠ 0 ∧ ((net 1).port 0).link ≠ 2 ∧
    (net 1).nodePeers 0 = [(0, 0)] ∧ ((net 1).peer 0 0).port = 0 ∧ ((net 2).port 0).link = 2 ∧
    (∀ k, k < 2 → k ≠ 0 → ((net 2).port k).link ≠ 2) ∧ ((net 2).port 0).w 3 = 5 ∧ bit (((net 2).port 0).w 0) 3 = true ∧
    bits (((net 2).port 0).w 0) 4 3 = 3 := by decide +kernel
theorem test_port :
    ((after (.portLinkUp 0) (net 1)).port 0).link = 2 ∧ (after (.portLinkUp 0) (net 1)).host.out.length = 1 ∧
    ((after (.portLinkDown 0) (net 2)).port 0).link = 0 ∧ (after .helloTimer (net 2)).counter (portCtr 0 0) = 1 ∧
    (after (.netRxDrop 0) (net 2)).counter (portCtr 0 3) = 1 := by decide +kernel
/-- 399 quanta of 512 bit times at 100 Gb/s are 2,042.88 ns: 511 periods of 4 ns. -/
theorem test_port_frames :
    (after (.arpRequest 0 5) (net 2)).host.out.length = 1 ∧ (after (.arpRequest 0 4) (net 2)).counter (portCtr 0 3) = 1 ∧
    (after (.pfc 0 3 399) (net 2)).net.ports.map (fun e => e.2.paused) = [511] ∧ (after (.pfc 0 2 399) (net 2)).net.ports = (net 2).net.ports := by
  decide +kernel
/-- A message of node 9 for partition 0. -/
def msg (type level : Nat) (seq ack : Word) : MsgHdr :=
  { port := 0, magic := 0x4B54, level := BitVec.ofNat 8 level, type := BitVec.ofNat 8 type, srcNode := 9, seq := seq, ack := ack, partition := 0 }
theorem witness_messages : (net 2).netRuns = true ∧ (net 2).peerOf? (msg 1 1 0 0) 1 = some (0, 0) ∧ ((net 2).peer 0 0).down = false ∧
    (net 2).peerOf? (msg 4 2 0 0) 2 = some (0, 1) ∧ ((net 2).peer 0 0).port = 0 ∧ ((net 2).peer 0 1).port = 0 ∧
    (net 2).peerOf? { msg 1 3 0 0 with srcNode := 8 } 1 = none ∧ bit (((net 2).port 0).w 9) 11 = true ∧
    bit (((net 1).port 1).w 9) 11 = false := by decide +kernel
theorem test_messages :
    ((after (.hello (msg 1 1 0 1) 3 2 0 2 0) (net 2)).peer 0 0).level = 2 ∧
    ((after (.hello (msg 1 1 0 1) 3 2 0 2 0) (net 2)).peer 0 0).unacked.map (fun u => u.seq) = [2] ∧
    ((after (.record (msg 2 1 5 0) []) (net 2)).peer 0 0).seqIn = 5 ∧ ((after (.record (msg 2 1 6 0) []) (net 2)).peer 0 0).seqIn = 4 ∧
    ((after (.ack (msg 3 1 0 2)) (net 2)).peer 0 0).unacked = [] := by decide +kernel
theorem test_messages_more :
    ((after (.ringCredit (msg 4 2 1 0) 130) (net 2)).peer 0 1).readOff = 128 ∧
    (after (.traceRead (msg 5 2 0 0) 0 1) (net 2)).host.out.length = 1 ∧
    (after (.hello { msg 1 3 0 0 with srcNode := 8 } 3 2 0 2 0) (net 2)).counter (portCtr 0 4) = 1 ∧
    (after (.hello { msg 1 1 0 0 with magic := 0 } 3 2 0 2 0) (net 2)).counter (portCtr 0 3) = 1 := by decide +kernel
theorem witness_peers : ((net 2).port ((net 2).peer 0 0).port).link = 2 ∧ ((net 2).peer 0 0).kind = 1 ∧ ((net 2).peer 0 1).kind = 2 ∧
    ((net 2).peer 0 1).down = false ∧ ((net 2).peer 0 1).sent.any (fun e => e.1 = (8 : BitVec 24).toNat) = true ∧
    ((net 2).peer 0 1).sent.any (fun e => e.1 = (9 : BitVec 24).toNat) = false ∧ ((net 2).peer 0 1).sent ≠ [] ∧ ((net 2).peer 0 1).retries < 7 ∧
    (Peer.start).sent = [] := by decide +kernel
/-- The eighth resend is the last; the seventh retry of a RoCEv2 peer is; CNP halves the rate and recovery stops at the line rate. -/
theorem test_peers :
    let s := after (.recordResend 0 0) (net 2)
    ((s.peer 0 0).unacked.map (fun u => u.resends)) = [8, 0] ∧ ((after (.recordResend 0 0) s).peer 0 0).down = true ∧
    ((after (.roceTimeout 0 1) (net 2)).peer 0 1).retries = 7 ∧
    ((after (.roceTimeout 0 1) (after (.roceTimeout 0 1) (net 2))).peer 0 1).down = true := by decide +kernel
theorem test_peers_roce :
    ((after (.roceAck 0 1 7) (net 2)).peer 0 1).sent = [(8, [18, 2])] ∧ ((after (.roceAck 0 1 9) (net 2)).peer 0 1).retries = 6 ∧
    ((after (.roceNak 0 1 8 false) (net 2)).peer 0 1).sent = [(8, [18, 2])] ∧ ((after (.roceCnp 0 1) (net 2)).peer 0 1).rate = 490 ∧
    ((after (.roceRateRecover 0 1) (net 2)).peer 0 1).rate = 1000 := by decide +kernel
/-- A master selected on port 0 of rank 7 and identity 20, 15 good Syncs behind. -/
def mastered (held : Option Int) : State :=
  { net 2 with net := { (net 2).net with master := some (0, 7, 20), ptpGood := 15, ptpHeld := held, ptpDelay := 40 } }
theorem witness_ptp : (mastered none).ptpTakes 0 1 = true ∧ (mastered none).net.master.elim false (fun m => m.1 == 0) = true ∧
    (mastered (some 5)).net.ptpHeld ≠ none ∧ (net 2).ptpTakes 0 1 = true ∧ (net 2).net.master = none ∧ Serving (net 2) := by
  unfold Serving; decide +kernel
/-- 139 - 40 is 99 ns, good, the sixteenth: locked; 140 - 40 is not; 1,041 - 40 ends a lock. -/
theorem test_ptp :
    (after (.ptpSync 0 1 false 139) (mastered none)).net.ptpLocked = true ∧ (after (.ptpSync 0 1 false 140) (mastered none)).net.ptpLocked = false ∧
    (after (.ptpSync 0 1 true 5) (mastered none)).net.ptpHeld = some 5 ∧ (after (.followUp 0 1 139) (mastered (some 5))).net.ptpLocked = true ∧
    (after (.ptpSync 0 1 false 1041) { mastered none with net := { (mastered none).net with ptpLocked := true } }).net.ptpLocked = false := by
  decide +kernel
theorem test_ptp_more :
    (after (.delayResp 0 1 33) (mastered none)).net.ptpDelay = 33 ∧ (after (.announce 0 1 6 99) (mastered none)).net.master = some (0, 6, 99) ∧
    (after (.announce 0 1 8 1) (mastered none)).net.master = some (0, 7, 20) ∧ (after (.announce 0 1 7 19) (mastered none)).net.master = some (0, 7, 19) ∧
    (after .ptpSyncTimeout (mastered none)).net.ptpGood = 0 := by decide +kernel

/-! ## A sound image of one record (Table 5.3, Table 5.4) -/

/-- The header of an image of one record up to its digest: magic, version 2, header 0x80, 131,264 bytes, model 1, one record, not
signed, the table at 128. -/
def imHead : List Byte := leBytes 4 0x4D4B5654 ++ leBytes 2 2 ++ leBytes 2 0x80 ++ leBytes 8 131264 ++ leBytes 8 1 ++ leBytes 4 1 ++
  leBytes 4 0 ++ leBytes 8 0 ++ leBytes 8 128 ++ leBytes 8 0 ++ leBytes 8 0
/-- The record's 64 bytes before its weights: tile 5 of core 0, NORMAL, no pair, the default configuration. -/
def imRec : List Byte := leBytes 4 131136 ++ [0, 5, 0, 255] ++ leBytes 4 0x17 ++ List.replicate 16 255 ++ List.replicate 12 0 ++ List.replicate 24 0
/-- Weights of 0. -/
def imZero : List Byte := List.replicate 131072 0
/-- What follows the header. -/
def imTail : List Byte := imRec ++ imZero
/-- The image's digest. -/
def imDigest : List Byte := sha512 (imHead ++ imTail)
/-- The image. -/
def imBytes : List Byte := imHead ++ (imDigest ++ imTail)
/-- Its record. -/
def imRecord : TileRecord :=
  { core := 0, tile := 5, role := 0, pair := 255, config := recordCfg false (toWords 8 ((imRec.drop 8).take 32)), weights := [],
    digest := digestOf 0 5 0 255 imZero }
/-- What is read from it. -/
def imRead : Image :=
  { version := 2, id := 1, signed := false, strict := false, serial := 0, keySlot := 0, digest := imDigest, sigOff := 0, records := [imRecord] }

theorem shaRound_length (v : List (BitVec 64)) (k w : BitVec 64) (h : v.length = 8) : (shaRound v k w).length = 8 := by
  unfold shaRound
  split
  · rfl
  · exact h

theorem shaRounds_length (ks ws recent v : List (BitVec 64)) (h : v.length = 8) : (shaRounds ks ws recent v).length = 8 := by
  induction ks generalizing ws recent v with
  | nil => exact h
  | cons k r ih =>
    cases ws with
    | nil => exact ih _ _ _ (shaRound_length _ _ _ h)
    | cons w rest => exact ih _ _ _ (shaRound_length _ _ _ h)

theorem shaBlocks_length (n : Nat) (h : List (BitVec 64)) (b : List Byte) (e : h.length = 8) : (shaBlocks n h b).length = 8 := by
  induction n generalizing h b with
  | zero => exact e
  | succ k ih => exact ih _ _ (by simp [shaBlock, shaRounds_length _ _ _ _ e, e])

theorem leBytes_length (n v : Nat) : (leBytes n v).length = n := by
  induction n generalizing v with
  | zero => rfl
  | succ k ih => simp [leBytes, ih]

theorem flatMap_length (l : List (BitVec 64)) : (l.flatMap (fun w => beBytes 8 w.toNat)).length = 8 * l.length := by
  induction l with
  | nil => rfl
  | cons a r ih =>
    rw [List.flatMap_cons, List.length_append, ih, beBytes, List.length_reverse, leBytes_length, List.length_cons]
    omega

theorem sha512_length (b : List Byte) : (sha512 b).length = 64 := by
  unfold sha512
  rw [flatMap_length, shaBlocks_length _ _ _ rfl]

theorem leAt_front (a b : List Byte) (off n : Nat) (h : off + n ≤ a.length) : leAt (a ++ b) off n = leAt a off n := by
  unfold leAt sliceB
  rw [List.drop_append_of_le_length (by omega), List.take_append_of_le_length (by simp; omega)]

theorem imHead_length : imHead.length = 64 := by decide
theorem imRec_length : imRec.length = 64 := by decide
theorem imZero_length : imZero.length = 131072 := List.length_replicate
theorem imTail_length : imTail.length = 131136 := by simp [imTail, imRec_length, imZero_length]
theorem imDigest_length : imDigest.length = 64 := sha512_length _
theorem imBytes_length : imBytes.length = 131264 := by
  simp [imBytes, imHead_length, imDigest_length, imTail_length]

theorem weightCells_zero (k n : Nat) : weightCells k (List.replicate n 0) = [] := by
  induction n generalizing k with
  | zero => rfl
  | succ m ih => exact ih (k + 1)

theorem im_record : parseRecord false imTail = some imRecord := by
  have f : ∀ off n, off + n ≤ 64 → leAt imTail off n = leAt imRec off n := fun off n h =>
    leAt_front imRec imZero off n (by rw [imRec_length]; exact h)
  have g : ∀ off n, off + n ≤ 64 → (imTail.drop off).take n = (imRec.drop off).take n := fun off n h => by
    unfold imTail
    rw [List.drop_append_of_le_length (by rw [imRec_length]; omega), List.take_append_of_le_length (by simp [imRec_length]; omega)]
  have z : (imTail.drop 64).take 131072 = imZero := by
    unfold imTail
    rw [List.drop_left' imRec_length, List.take_of_length_le (Nat.le_of_eq imZero_length)]
  unfold parseRecord
  simp only [f 0 4 (by omega), f 4 1 (by omega), f 5 1 (by omega), f 6 1 (by omega), f 7 1 (by omega), g 8 32 (by omega),
    g 0x28 24 (by omega), z]
  have hw : weightCells 0 imZero = [] := weightCells_zero 0 131072
  rw [hw]
  have e4 : leAt imRec 4 1 = 0 := by decide
  have e5 : leAt imRec 5 1 = 5 := by decide
  have e6 : leAt imRec 6 1 = 0 := by decide
  have e7 : leAt imRec 7 1 = 255 := by decide
  rw [e4, e5, e6, e7, if_pos (by decide)]
  rfl

theorem im_parse : parseImage imBytes = some imRead := by
  have f : ∀ off n, off + n ≤ 64 → leAt imBytes off n = leAt imHead off n := fun off n h =>
    leAt_front imHead _ off n (by rw [imHead_length]; exact h)
  have g : (imBytes.drop 0x39).take 7 = (imHead.drop 0x39).take 7 := by
    unfold imBytes
    rw [List.drop_append_of_le_length (by rw [imHead_length]; omega), List.take_append_of_le_length (by simp [imHead_length])]
  have d : sliceB imBytes 0x40 64 = imDigest := by
    unfold sliceB imBytes padTo
    rw [List.drop_left' imHead_length, List.take_left' imDigest_length, imDigest_length, List.take_of_length_le (Nat.le_of_eq imDigest_length)]
    simp
  have t : imBytes.drop 128 = imTail := by
    unfold imBytes
    rw [← List.append_assoc, List.drop_left' (by simp [imHead_length, imDigest_length])]
  have hk : headerOk imBytes = true := by
    unfold headerOk
    simp only [imBytes_length, f 0 4 (by omega), f 6 2 (by omega), f 8 8 (by omega), f 0x18 4 (by omega), f 0x1C 4 (by omega),
      f 0x28 8 (by omega), f 0x30 8 (by omega), g]
    decide
  have p : parseRecords false 1 imTail = some [imRecord] := by
    unfold parseRecords
    have tk : imTail.take recordBytes = imTail := List.take_of_length_le (by rw [imTail_length]; decide)
    simp only [tk, im_record, parseRecords]
  unfold parseImage
  have e18 : leAt imHead 0x18 4 = 1 := by decide
  have e28 : leAt imHead 0x28 8 = 128 := by decide
  have e4 : leAt imHead 4 2 = 2 := by decide
  simp only [hk, if_true, f 4 2 (by omega), f 0x18 4 (by omega), f 0x28 8 (by omega), f 0x10 8 (by omega), f 0x1C 4 (by omega),
    f 0x20 8 (by omega), f 0x38 1 (by omega), f 0x30 8 (by omega), e18, e28, e4, t, d]
  have : (2 == 1) = false := by decide
  rw [this, p]
  rfl

/-- READY, with the image at 0x10000 of host memory and 4 units of weight-image region. -/
def imaged : State := { ready with host := { ready.host with mem := Memory.writeBytes [] 0x10000 imBytes } }

theorem im_there : imaged.hostRead 0x10000 131264 = imBytes := by
  have e : imaged.host.mem = Memory.writeBytes [] 0x10000 imBytes := by simp only [imaged]
  have r := Memory.readBytes_writeBytes (m := []) 0x10000 imBytes Memory.wf_nil
  unfold State.hostRead
  rw [e]
  rwa [imBytes_length] at r

theorem im_sound (n : Nat) : imageSound imBytes imRead n = true := by
  have hd : imageDigest imBytes imRead = imDigest := by
    unfold imageDigest imRead imBytes
    simp only [Bool.false_eq_true, if_false]
    rw [List.take_left' imHead_length, ← List.append_assoc, List.drop_left' (by simp [imHead_length, imDigest_length])]
    rfl
  unfold imageSound
  rw [hd]
  have h : (imRead.digest == imDigest) = true := by simp [imRead]
  rw [h]
  rfl

theorem check_none (s : State) (p : Nat) (b : List Byte) (im : Image) (h : parseImage b = some im)
    (h1 : imageSound b im s.sec.card.serial = true) (h2 : (if im.signed then s.imageSigned b im else !s.sigRequired p) = true)
    (h3 : im.records.all (s.placeable p) = true) (h4 : im.records.all (fun r => !s.claimed p im.id r) = true)
    (h5 : s.model? p im.id = none) (h6 : im.records.all (fun r => s.tileFree r.core r.tile) = true) : imageCheck s p b = none := by
  unfold imageCheck
  rw [h]
  simp only [h1, h2, h3, h4, h5, h6, need, if_true, Option.elim, firstBad, List.findSome?, id]

theorem im_placed : imRead.records.all (imaged.placeable 0) = true ∧ imRead.records.all (fun r => !imaged.claimed 0 imRead.id r) = true ∧
    imRead.records.all (fun r => imaged.tileFree r.core r.tile) = true ∧ (!imaged.sigRequired 0) = true := by decide +kernel

theorem im_check : imageCheck imaged 0 imBytes = none :=
  check_none imaged 0 imBytes imRead im_parse (im_sound _)
    ((if_neg (fun h => Bool.noConfusion (show false = true from h))).trans im_placed.2.2.2) im_placed.1 im_placed.2.1 rfl im_placed.2.2.1

theorem witness_modelLoad : TakenAtOnce 0x100 (hd 0) [0x10000, 0, 131264, 0] imaged ∧
    pq [0x10000, 0, 131264, 0] 2 ≤ imaged.imageLeft (hd 0).partition.toNat ∧
    imageCheck imaged (hd 0).partition.toNat (imaged.hostRead (pq [0x10000, 0, 131264, 0] 0) (pq [0x10000, 0, 131264, 0] 2)) = none ∧
    parseImage (imaged.hostRead (pq [0x10000, 0, 131264, 0] 0) (pq [0x10000, 0, 131264, 0] 2)) = some imRead ∧ imRead.records = [imRecord] ∧
    imaged.model? (hd 0).partition.toNat imRead.id = none ∧ imaged.pkg.poison = [] ∧ (imaged.tile imRecord.core imRecord.tile).state = .blank ∧
    (imaged.tile imRecord.core imRecord.tile).job = none ∧ imaged.running = [] ∧ imaged.waiting = [] := by
  refine ⟨by unfold TakenAtOnce; and_intros <;> decide +kernel, by decide +kernel, ?_, ?_, rfl, ?_⟩
  · exact (congrArg (imageCheck imaged 0) im_there).trans im_check
  · exact (congrArg parseImage im_there).trans im_parse
  · decide +kernel

/-! ## Ill-formed operands: no bus or pin could carry them -/

/-- A check fails and the command stops on it. -/
def refusesForm (c : Instr) : Bool :=
  !WellFormed.check c && (match exec c ready with | .fault .illFormed => true | _ => false)

/-- A payload of 250 words with six of header passes 255 (Table 10.2). -/
theorem smoke_payload : refusesForm (.nop (hd 0) (List.replicate 250 0)) = true ∧ refusesForm (.modelLoad (hd 0) (List.replicate 250 0)) = true ∧
    refusesForm (.netStatus (hd 0) (List.replicate 250 0)) = true ∧ WellFormed.check (.nop (hd 0) (List.replicate 249 0)) = true := by decide +kernel
/-- A posted write of whole words inside BAR2 (R273). -/
theorem smoke_pushWrite : refusesForm (.pushWindowWrite 0 2 [0]) = true ∧ refusesForm (.pushWindowWrite 0 0 []) = true ∧
    refusesForm (.pushWindowWrite 0 0xFFFFC [0, 0]) = true ∧ WellFormed.check (.pushWindowWrite 0 0xFFFFC [0]) = true := by decide +kernel
/-- BAR0 takes aligned accesses (R311). -/
theorem smoke_regWrite : refusesForm (.registerWrite 0 4 true 0) = true ∧ refusesForm (.registerWrite 0 2 false 0) = true ∧
    refusesForm (.registerWrite 0 4 false 0x100000000) = true ∧ WellFormed.check (.registerWrite 0 8 true 0x100000000) = true := by decide +kernel
/-- A PIO read stays in its 64 bytes (R329). -/
theorem smoke_pio : refusesForm (.ptFnPio 0 0 60 5) = true ∧ refusesForm (.ptFnPio 0 0 0 0) = true ∧
    WellFormed.check (.ptFnPio 0 0 60 4) = true := by decide +kernel
/-- A tile has 536 columns (R26), an exhaustive scan reads 528 of them (R360). -/
theorem smoke_columns : refusesForm (.phaseLatch 0 0 [(536, 0)]) = true ∧ refusesForm (.blockScan 0 0 [(0, 528, 0)]) = true ∧
    refusesForm (.blockScan 0 0 [(512, 0, 0)]) = true ∧ refusesForm (.programmingDone 0 0 [(512, 0)] [] calNone (refOf 2688)) = true ∧
    WellFormed.check (.phaseLatch 0 0 [(535, 0)]) = true := by decide +kernel
/-- Known-sum vectors: 16 D, 4 R, 16 X, one T (Table 5.10). -/
theorem smoke_vectors : refusesForm (.tongsDone 0 [⟨0, 16, 0, 0⟩] []) = true ∧ refusesForm (.tileTestDone 0 0 [] [⟨1, 4, 0, 0⟩]) = true ∧
    refusesForm (.tileTestDone 0 0 [⟨3, 1, 0, 0⟩] []) = true ∧ refusesForm (.tongsDone 0 [⟨2, 0, 536, 0⟩] []) = true ∧
    WellFormed.check (.tongsDone 0 [⟨1, 3, 535, 0⟩] []) = true := by decide +kernel
/-- A calibration names columns, gain indices and blocks that exist (R138). -/
theorem smoke_cal : refusesForm (.convCalDone 0 0 ⟨[(536, 1)], [], []⟩ calNone 0) = true ∧
    refusesForm (.convCalDone 0 0 calNone ⟨[], [(0, 8, 1)], []⟩ 0) = true ∧
    refusesForm (.convCalDone 0 0 ⟨[], [], [(16, 1)]⟩ calNone 0) = true ∧ WellFormed.check (.convCalDone 0 0 calNone calNone 0) = true := by
  decide +kernel
/-- Lines of usable memory (R347). -/
theorem smoke_line : refusesForm (.patrolScrub 503316480 false) = true ∧ refusesForm (.memUncorrectable 503316480 false) = true ∧
    WellFormed.check (.patrolScrub 503316479 false) = true := by decide +kernel
/-- A node message has its row's TYPE or one that no row has (R337), and its payload fits (R336). -/
theorem smoke_messages : refusesForm (.hello (msg 2 1 0 0) 3 2 0 2 0) = true ∧ refusesForm (.record (msg 1 1 0 0) []) = true ∧
    refusesForm (.ack (msg 4 1 0 0)) = true ∧ refusesForm (.ringCredit (msg 5 1 0 0) 0) = true ∧ refusesForm (.traceRead (msg 3 1 0 0) 0 0) = true ∧
    refusesForm (.record (msg 2 1 0 0) (List.replicate 9165 0)) = true ∧ WellFormed.check (.ack (msg 7 1 0 0)) = true := by decide +kernel

end Sys2Proof.Tests
end

section
/-! SUPPORT. The rules for the operations that maintenance shares: what a frame says of the readings of the state, what a tile or
a core reads after a change, the beginning and the end of an activity, a fault record while the history has room, and an
attributed fault that is the unit's first. -/

namespace Sys2Proof.Safety

open Sys2Proof.Machine

/-! ## What a frame says of the readings -/

section
variable {L : List Piece} {s t : State}

theorem SameBut.crock (h : SameBut L s t) (hp : Piece.crock ∉ L) : t.crock = s.crock := h .crock hp

theorem SameBut.running (h : SameBut L s t) (hp : Piece.running ∉ L) : t.running = s.running := h .running hp

theorem SameBut.tile (h : SameBut L s t) (hp : Piece.tiles ∉ L) (c u : Nat) : t.tile c u = s.tile c u := by
  unfold State.tile
  rw [show t.tiles = s.tiles from h .tiles hp]

theorem SameBut.core (h : SameBut L s t) (hp : Piece.cores ∉ L) (c : Nat) : t.core c = s.core c := by
  unfold State.core
  rw [show t.cores = s.cores from h .cores hp]

theorem SameBut.counter (h : SameBut L s t) (hp : Piece.counters ∉ L) (off : Nat) : t.counter off = s.counter off := by
  unfold State.counter
  rw [show t.counters = s.counters from h .counters hp]

theorem SameBut.calRec (h : SameBut L s t) (hp : Piece.crock ∉ L) (c u : Nat) : t.calRec c u = s.calRec c u := by
  unfold State.calRec
  rw [show t.crock = s.crock from h .crock hp]

theorem SameBut.feedForward (h : SameBut L s t) (hp : Piece.sec ∉ L) (v : Tile) (temp : Int) :
    t.feedForward v temp = s.feedForward v temp := by
  unfold State.feedForward State.kappa
  rw [show t.sec = s.sec from h .sec hp]

/-- A group that stands after all leaves the list of those that may not. -/
theorem SameBut.drop {q : Piece} (h : SameBut (q :: L) s t) (hq : q.same s t) : SameBut L s t := by
  intro p hp
  by_cases e : p = q
  · exact e ▸ hq
  · exact h p (by simp [e, hp])

theorem SameBut.regf (h : SameBut L s t) (hp : Piece.pre ∉ L) (off lo n : Nat) : t.regf off lo n = s.regf off lo n := by
  unfold State.regf State.reg
  rw [show t.pre = s.pre from h .pre hp]

theorem SameBut.coreRetired (h : SameBut L s t) (hp : Piece.crock ∉ L) (c : Nat) : t.coreRetired c = s.coreRetired c := by
  unfold State.coreRetired
  rw [show t.crock = s.crock from h .crock hp]

end

end Sys2Proof.Safety

namespace Sys2Proof.Machine

open Sys2Proof.Safety

/-- The frame of an operation, from its lemma among the frames. -/
theorem Framed.same {L : List Piece} {s t : State} (h : Framed L s s → Framed L s t) : SameBut L s t :=
  (h ⟨.refl L s⟩).it

/-! ## Tiles, cores and calibration records after a change -/

theorem tileNo_inj {c c' t t' : Nat} (h : t < 33) (h' : t' < 33) : tileNo c' t' = tileNo c t ↔ c' = c ∧ t' = t := by
  unfold tileNo
  omega

theorem tile_modTile (s : State) (c t c' t' : Nat) (f : Tile → Tile) :
    (s.modTile c t f).tile c' t' = if tileNo c' t' = tileNo c t then f (s.tile c t) else s.tile c' t' := by
  simp only [State.modTile, State.tile, State.setTile, tget_tset]

@[simp] theorem tile_modTile_same (s : State) (c t : Nat) (f : Tile → Tile) : (s.modTile c t f).tile c t = f (s.tile c t) := by
  simp [tile_modTile]

theorem core_modCore (s : State) (c c' : Nat) (f : Core → Core) :
    (s.modCore c f).core c' = if c' = c then f (s.core c) else s.core c' := by
  simp only [State.modCore, State.core, State.setCore, tget_tset]

@[simp] theorem core_modCore_same (s : State) (c : Nat) (f : Core → Core) : (s.modCore c f).core c = f (s.core c) := by
  simp [core_modCore]

@[simp] theorem calRec_modCal_same (s : State) (c t : Nat) (f : CalRec → CalRec) :
    (s.modCal c t f).calRec c t = f (s.calRec c t) := by
  simp [State.modCal, State.modMirror, State.calRec]

@[simp] theorem modTile_crock (s : State) (c t : Nat) (f : Tile → Tile) : (s.modTile c t f).crock = s.crock := rfl

@[simp] theorem modCal_faults (s : State) (c t : Nat) (f : CalRec → CalRec) :
    (s.modCal c t f).crock.mirror.faults = s.crock.mirror.faults := rfl

/-! ## Activities -/

theorem beginAct_same (a : Activity) (s : State) : SameBut [.running, .trace] s (beginAct a s) :=
  Framed.same (frame_beginAct a (fun _ h => h))

theorem endAct_same (a : Activity) (s : State) : SameBut [.running, .trace] s (endAct a s) :=
  Framed.same (frame_endAct a (fun _ h => h))

@[simp] theorem beginAct_running (a : Activity) (s : State) : (beginAct a s).running = s.running ++ [a] :=
  traceOnly_same _ _ _ _ _ _ _ _ _ .running (by simp)

@[simp] theorem endAct_running (a : Activity) (s : State) : (endAct a s).running = s.running.filter (· ≠ a) :=
  traceOnly_same _ _ _ _ _ _ _ _ _ .running (by simp)

/-- With nothing running and nothing waiting what is asked for begins. -/
theorem askAuto_idle (a : Activity) {s : State} (hr : s.running = []) (hw : s.waiting = []) : askAuto a s = beginAct a s := by
  simp [askAuto, State.blocked, hr, hw]

/-! ## Fault records -/

/-- The record of a fault, as Table 12.7 fills it from the present state. -/
def recordOf (u : Unit) (kind outcome part : Nat) (w : Work) (detail address : Nat) (s : State) : FaultRec :=
  let pt := s.ptpOf (256 * s.tick)
  { index := s.crock.mirror.nextFault, kind := kind, outcome := outcome, unitKind := u.kind, partition := part, core := u.core,
    tile := u.tile, column := u.column, lane := u.lane, opcode := w.opcode, flow := w.flow, tag := w.tag,
    powerS := s.powerS, tick := s.tick, ptpSec := pt.1, ptpLocked := pt.2.2, ptpNs := pt.2.1,
    temp := s.power.tjNow, vcore := Config.coreVoltage s.draw u.core, detail := detail, address := address }

/-- While the history has room a record is added at its end and nothing is reported (R383). -/
theorem addRecord_room (u : Unit) (kind outcome part : Nat) (w : Work) (d a : Nat) {s : State}
    (h : s.crock.mirror.faults.length < 1024) :
    addRecord u kind outcome part w d a s = (s.crock.mirror.nextFault, s.nextDraw.modMirror (fun j =>
      { j with faults := j.faults ++ [recordOf u kind outcome part w d a s], nextFault := s.crock.mirror.nextFault + 1 })) := by
  have hroom : ¬ 1024 ≤ s.crock.mirror.faults.length := by omega
  unfold addRecord
  simp only [State.modMirror, State.nextDraw_crock, hroom, if_false]
  split <;> rfl

/-- The history holds a record of a fault of this kind, outcome and detail on a unit. -/
def Noted (u : Unit) (kind outcome detail : Nat) (s : State) : Prop :=
  ∃ x ∈ s.crock.mirror.faults, x.kind = kind ∧ x.outcome = outcome ∧ x.unitKind = u.kind ∧ x.core = u.core ∧ x.tile = u.tile ∧
    x.detail = detail

theorem noted_addRecord (u : Unit) (kind outcome part : Nat) (w : Work) (d a : Nat) {s : State}
    (h : s.crock.mirror.faults.length < 1024) : Noted u kind outcome d (addRecord u kind outcome part w d a s).2 := by
  rw [addRecord_room u kind outcome part w d a h]
  exact ⟨recordOf u kind outcome part w d a s, by simp, rfl, rfl, rfl, rfl, rfl, rfl⟩

/-- The history keeps its records while it has room. -/
theorem Noted.addRecord {u : Unit} {kind outcome d : Nat} {s : State} (hn : Noted u kind outcome d s)
    (h : s.crock.mirror.faults.length < 1024) (u' : Unit) (kind' outcome' part' : Nat) (w' : Work) (d' a' : Nat) :
    Noted u kind outcome d (addRecord u' kind' outcome' part' w' d' a' s).2 := by
  obtain ⟨x, hx, hnames⟩ := hn
  rw [addRecord_room u' kind' outcome' part' w' d' a' h]
  exact ⟨x, by simp [hx], hnames⟩

/-- A record stays where the Crock does. -/
theorem Noted.of_crock {u : Unit} {kind outcome d : Nat} {s t : State} (hn : Noted u kind outcome d s) (h : t.crock = s.crock) :
    Noted u kind outcome d t := by
  unfold Noted
  rw [h]
  exact hn

/-- So it does where a frame leaves the Crock out. -/
theorem Noted.same {u : Unit} {kind outcome d : Nat} {L : List Piece} {s t : State} (hn : Noted u kind outcome d s)
    (h : SameBut L s t) (hp : Piece.crock ∉ L) : Noted u kind outcome d t :=
  hn.of_crock (h.crock hp)

/-- A calibration record's change leaves the history. -/
theorem Noted.modCal {u : Unit} {kind outcome d : Nat} {s : State} (hn : Noted u kind outcome d s) (c t : Nat) (f : CalRec → CalRec) :
    Noted u kind outcome d (s.modCal c t f) := hn

/-- So does a change of a CORE_STATE byte. -/
theorem Noted.modCoreState {u : Unit} {kind outcome d : Nat} {s : State} (hn : Noted u kind outcome d s) (c : Nat) (f : Nat → Nat) :
    Noted u kind outcome d (s.modCoreState c f) := hn

/-! ## Attributed faults -/

/-- The faults within the last day are at most those in the history. -/
theorem count24_le (s : State) (u : Unit) : s.count24 u ≤ s.crock.mirror.faults.length := by
  have hfold (l acc : List FaultRec) :
      (l.foldl (fun acc r => if r.outcome = 5 then [] else acc ++ [r]) acc).length ≤ acc.length + l.length := by
    induction l generalizing acc with
    | nil => simp
    | cons r l ih =>
      have hstep : (if r.outcome = 5 then [] else acc ++ [r]).length ≤ acc.length + 1 := by split <;> simp
      have := ih (if r.outcome = 5 then [] else acc ++ [r])
      simp only [List.foldl_cons, List.length_cons]
      omega
  unfold State.count24
  have hlive := hfold (s.crock.mirror.faults.filter u.of) []
  rw [List.length_nil, Nat.zero_add] at hlive
  exact Nat.le_trans (List.length_filter_le _ _) (Nat.le_trans hlive (List.length_filter_le _ _))

/-- A fault attributed and reported, before its consequence: record, FAULTS_ATTRIBUTED and the FAULT event (R368). -/
def reported (u : Unit) (kind outcome : Nat) (w : Work) (detail : Nat) (s : State) : State :=
  let x := addRecord u kind outcome (s.unitPart u) w detail 0 s
  let s1 := count (devCtr 4) 1 x.2
  raiseUnit (s.unitPart u) u.word (ev 0x20 2 x.1 kind u.word (s1.count24 u) 0) s1

section
variable (u : Unit) (kind outcome : Nat) (w : Work) (d : Nat) {s : State}

theorem reported_same : SameBut [.draw, .crock, .trace, .funnels, .power, .counters] s (reported u kind outcome w d s) :=
  (((addRecord_same u kind outcome _ w d 0 s).mono (by simp)).trans ((count_same _ _ _).mono (by simp))).trans
    ((raiseUnit_same _ _ _ _).mono (by simp))

/-- The Crock of a reported fault is that of its record. -/
theorem reported_crock :
    (reported u kind outcome w d s).crock = (addRecord u kind outcome (s.unitPart u) w d 0 s).2.crock :=
  (SameBut.crock (raiseUnit_same _ _ _ _) (by simp)).trans (SameBut.crock (count_same _ _ _) (by simp))

theorem noted_reported (h : s.crock.mirror.faults.length < 1024) : Noted u kind outcome d (reported u kind outcome w d s) :=
  (noted_addRecord u kind outcome _ w d 0 h).of_crock (reported_crock u kind outcome w d)

/-- A report adds one record while the history has room. -/
theorem reported_faults_length (h : s.crock.mirror.faults.length < 1024) :
    (reported u kind outcome w d s).crock.mirror.faults.length = s.crock.mirror.faults.length + 1 := by
  rw [reported_crock, addRecord_room _ _ _ _ _ _ _ h]
  simp

/-- A permanent fault retires its unit (R370). -/
theorem attribute_permanent (late : Bool) :
    attribute_ u kind outcome w d true late s = retireUnit u kind w d late (reported u kind outcome w d s) := by
  simp [attribute_, reported]

/-- After a fault that is the history's first its unit has at most that one. -/
theorem first_count24 (h : s.crock.mirror.faults = []) :
    (count (devCtr 4) 1 (addRecord u kind outcome (s.unitPart u) w d 0 s).2).count24 u ≤ 1 := by
  refine Nat.le_trans (count24_le _ u) (Nat.le_of_eq ?_)
  rw [SameBut.crock (count_same _ _ _) (by simp), addRecord_room _ _ _ _ _ _ _ (by simp [h])]
  simp [h]

/-- A fault that is the history's first and not permanent puts its unit under suspicion: its tile (R371), -/
theorem attribute_first_tile (late : Bool) (h : s.crock.mirror.faults = []) (hu : u.kind ≤ 3) :
    attribute_ u kind outcome w d false late s = suspectTile u.core u.tile kind w d (reported u kind outcome w d s) := by
  have hn := first_count24 u kind outcome w d h
  unfold attribute_ reported
  simp only [Bool.false_or, hu, if_true]
  rw [if_neg (by simpa using by omega)]

/-- or its core (R373). -/
theorem attribute_first_core (late : Bool) (h : s.crock.mirror.faults = []) (hu : u.kind = 4) :
    attribute_ u kind outcome w d false late s = suspectCore u.core kind w d (reported u kind outcome w d s) := by
  have hn := first_count24 u kind outcome w d h
  unfold attribute_ reported
  simp only [Bool.false_or, hu]
  rw [if_neg (by simpa using by omega)]
  simp

end

end Sys2Proof.Machine
end

section
/-! SUPPORT. A tile or core that comes under suspicion by the history's first fault, and what falls due, a sample, a calibration
and a test leave of a tile. -/

namespace Sys2Proof.Machine

open Sys2Proof.Safety

/-! ## Suspect tiles -/

section
variable (c t kind : Nat) (w : Work) (d : Nat) {s : State}

/-- Suspicion changes a tile's state and its clean tests alone (R371). -/
theorem suspectTile_tile : ∃ st n, (suspectTile c t kind w d s).tile c t = { s.tile c t with state := st, cleanTests := n } := by
  unfold suspectTile
  split
  · refine ⟨.suspect, 0, ?_⟩
    rw [SameBut.tile (raiseUnit_same _ _ _ _) (by simp), SameBut.tile (addRecord_same _ _ _ _ _ _ _ _) (by simp),
      SameBut.tile (modCal_same _ _ _ _) (by simp), tile_modTile_same]
  · exact ⟨(s.tile c t).state, 0, tile_modTile_same s c t _⟩
  · exact ⟨(s.tile c t).state, (s.tile c t).cleanTests, rfl⟩

/-- Suspicion keeps the records there are while the history has room. -/
theorem Noted.suspectTile {u : Unit} {k o x : Nat} (hn : Noted u k o x s) (h : s.crock.mirror.faults.length < 1024) :
    Noted u k o x (suspectTile c t kind w d s) := by
  unfold Machine.suspectTile
  split
  · refine Noted.same (Noted.addRecord ?_ ?_ _ _ _ _ _ _ _) (raiseUnit_same _ _ _ _) (by simp)
    · exact (hn.same (modTile_same c t _ s) (by simp)).modCal c t _
    · simpa using h
  · exact hn
  · exact hn

end

/-- The history's first fault, not permanent and of a tile or of something in it: it is noted, and of its tile the state and the
clean tests alone change. -/
theorem attribute_first_tile_spec (u : Unit) (kind outcome : Nat) (w : Work) (d : Nat) (late : Bool) {s : State}
    (h : s.crock.mirror.faults = []) (hu : u.kind ≤ 3) :
    Noted u kind outcome d (attribute_ u kind outcome w d false late s) ∧
    ∃ st n, (attribute_ u kind outcome w d false late s).tile u.core u.tile =
      { s.tile u.core u.tile with state := st, cleanTests := n } := by
  have hroom : s.crock.mirror.faults.length < 1024 := by simp [h]
  have hlen := reported_faults_length u kind outcome w d hroom
  rw [attribute_first_tile u kind outcome w d late h hu]
  refine ⟨(noted_reported u kind outcome w d hroom).suspectTile _ _ _ _ _ (by simp [hlen, h]), ?_⟩
  obtain ⟨st, n, e⟩ := suspectTile_tile u.core u.tile kind w d (s := reported u kind outcome w d s)
  exact ⟨st, n, by rw [e, SameBut.tile (reported_same u kind outcome w d) (by simp)]⟩

/-! ## States of a tile in which reference phases run (R57, R147) -/

theorem refPhases_of_serving {s : State} {c t : Nat} (h : (s.tile c t).state = .ready ∨ (s.tile c t).state = .suspect ∨
    (s.tile c t).state = .held ∨ (s.tile c t).state = .blank) : s.refPhases c t = true := by
  unfold State.refPhases
  rcases h with h | h | h | h <;> rw [h]

theorem refPhases_of_away {s : State} {c t : Nat} (h : (s.tile c t).state = .programming ∨ (s.tile c t).state = .retired ∨
    (s.tile c t).state = .awaiting) : s.refPhases c t = false := by
  unfold State.refPhases
  rcases h with h | h | h <;> rw [h]

/-- Where cores run the device serves its host and no fatal error stands. -/
theorem served_of_coresRun {s : State} (h : s.coresRun = true) : s.served = true ∧ s.power.fatal = false := by
  unfold State.coresRun at h
  simp only [Bool.and_eq_true, Bool.not_eq_true'] at h
  obtain ⟨⟨⟨hserved, hfatal⟩, -⟩, -⟩ := h
  exact ⟨hserved, hfatal⟩

/-! ## What falls due -/

/-- What asking for an activity of a tile leaves: the tile changed by f, the activity begun, and nothing else but the trace. -/
def Asked (code core tile : Nat) (w : Tile) (s t : State) : Prop :=
  t.tile core tile = w ∧ t.running = [actTile code 0 core tile (s.corePartNo core) none] ∧ SameBut [.tiles, .running, .trace] s t

/-- With nothing running or waiting the activity of what falls due begins at once (R385). -/
theorem asked_of_idle (code core tile : Nat) (f : Tile → Tile) {s : State} (hr : s.running = []) (hw : s.waiting = []) :
    Asked code core tile (f (s.tile core tile)) s
      (askAuto (actTile code 0 core tile (s.actPart core) none) (s.modTile core tile f)) := by
  rw [askAuto_idle _ (s := s.modTile core tile f) hr hw]
  refine ⟨?_, ?_, ((modTile_same core tile f s).mono (by simp)).trans ((beginAct_same _ _).mono (by simp))⟩
  · rw [SameBut.tile (beginAct_same _ _) (by simp), tile_modTile_same]
  · rw [beginAct_running, show (s.modTile core tile f).running = [] from hr]
    rfl

section
variable (core : Fin 32) (tile : Fin 33) (s : State)

theorem exec_refSampleDue (hrun : s.coresRun = true) : exec (.refSampleDue core tile) s =
    ifDue (s.refPhases core tile) (refDue core tile none) s := by
  obtain ⟨hserved, hfatal⟩ := served_of_coresRun hrun
  change execRefSampleDue core tile s = _
  simp [execRefSampleDue, hserved, hfatal]

theorem exec_convCalDue (hrun : s.coresRun = true) : exec (.convCalDue core tile) s =
    ifDue (s.refPhases core tile) (fun s => askAuto (actTile 4 0 core tile (s.actPart core) none)
      (s.modTile core tile (fun v => { v with calDue := true }))) s := by
  obtain ⟨hserved, hfatal⟩ := served_of_coresRun hrun
  change execConvCalDue core tile s = _
  simp [execConvCalDue, hserved, hfatal]

theorem exec_tileTestDue (hrun : s.coresRun = true) : exec (.tileTestDue core tile) s =
    ifDue (s.refPhases core tile) (fun s => askAuto (actTile 1 0 core tile (s.actPart core) none)
      (s.modTile core tile (fun v => { v with testDue := true }))) s := by
  change execTileTestDue core tile s = _
  simp [execTileTestDue, hrun]

theorem exec_calWithhold (hrun : s.coresRun = true) : exec (.calWithhold core tile) s =
    ifDue ((s.tile core tile).refDue || (s.tile core tile).calDue || (s.tile core tile).testDue)
      (fun s => s.modTile core tile (fun v => { v with withheld := true })) s := by
  change execCalWithhold core tile s = _
  simp [execCalWithhold, hrun]

end

/-! ## Reference samples (R78, R82) -/

/-- A refresh that falls due marks the tile and may give it a job. -/
theorem refreshCheck_tile (c t : Nat) (s : State) : ∃ b j, (refreshCheck c t s).tile c t =
    { s.tile c t with refreshRaised := b, job := j } := by
  unfold refreshCheck
  simp only
  split
  · split
    · refine ⟨true, some (.refresh (s.tile c t).state none), ?_⟩
      rw [SameBut.tile (Framed.same (frame_askAuto _ (fun _ h => h))) (by simp), tile_modTile_same,
        SameBut.tile (raiseUnit_same _ _ _ _) (by simp), tile_modTile_same]
    · refine ⟨true, (s.tile c t).job, ?_⟩
      rw [SameBut.tile (raiseUnit_same _ _ _ _) (by simp), tile_modTile_same]
  · exact ⟨(s.tile c t).refreshRaised, (s.tile c t).job, rfl⟩

/-- A sample of a settled tile within the limits of R82 sets the correction, its temperature and the drift residual. -/
theorem applySample_within {c t g : Nat} {m : RefReading} {s : State} (hg : gammaOf (s.calRec c t) m = some g)
    (hs : (s.tile c t).settled = true) (h1 : 0x7333 ≤ g) (h2 : g ≤ 0x8CCD) : ∃ dr, applySample c t m s =
    refreshCheck c t (s.modTile c t (fun x => { x with gammaS := g, tempS := m.temp, gainCorr := g, refDue := false,
                                                       withheld := false, driftRes := dr })) := by
  have hin : ¬ (g < 0x4000 ∨ 0xFFFF < g) := by omega
  have hspan : ¬ (g < 0x7333 ∨ 0x8CCD < g) := by omega
  refine ⟨if 3600 ≤ s.tileAge c t then driftOf g (s.calRec c t) m else 0, ?_⟩
  unfold applySample
  simp only [hg, hs, hin, hspan, Bool.or_eq_true, decide_eq_true_eq, Bool.not_true, Bool.false_and, if_false, Bool.false_eq_true,
    Bool.or_false]

/-- One beyond what GAIN_CORR can hold is a fault of the tile and asks for a test. -/
theorem applySample_beyond {c t g : Nat} {m : RefReading} {s : State} (hg : gammaOf (s.calRec c t) m = some g)
    (h : g < 0x4000 ∨ 0xFFFF < g) : applySample c t m s = (attribute_ (uTile c t) 8 0 noWork 0x10000 false false s).modTile c t
      (fun x => { x with refDue := false, testDue := true }) := by
  unfold applySample
  simp only [hg, h, Bool.or_eq_true, decide_eq_true_eq, if_true]

section
variable {core : Fin 32} {tile : Fin 33} {s : State} {a : Activity}

/-- An automatic sample of a tile in a gap between operations ends its activity and is applied. -/
theorem exec_refSampleDone (r : RefReading) (hrun : s.coresRun = true) (href : s.refPhases core tile = true)
    (hgap : (s.tile core tile).running = none) (ha : s.act? 2 0 core tile = some a) (hauto : a.cmd = none) :
    exec (.refSampleDone core tile r) s = .next (applySample core tile r (endAct a s)) := by
  change execRefSampleDone core tile r s = _
  simp [execRefSampleDone, ha, hrun, href, State.gap, hgap, hauto, finishIdle, ifDue]

/-- So does an automatic calibration, -/
theorem exec_convCalDone {r again : CalReading} (temp : Int) (hrun : s.coresRun = true) (href : s.refPhases core tile = true)
    (hgap : (s.tile core tile).running = none) (ha : s.act? 4 0 core tile = some a) (hauto : a.cmd = none)
    (hr : WellFormed.cal r = true) (hagain : WellFormed.cal again = true) :
    exec (.convCalDone core tile r again temp) s = .next (calFaults core tile r again
      (applyCal core tile (if (calFails r).isEmpty then r else again) temp (endAct a s))) := by
  change execConvCalDone core tile r again temp s = _
  simp only [execConvCalDone, convCalDone, ha, hrun, href, State.gap, hgap, hauto, finishIdle, ifDue, hr, hagain, Bool.and_self,
    Option.isNone_none, if_true]

/-- and an automatic test is judged. -/
theorem exec_tileTestDone {first second : List KatReading} (hrun : s.coresRun = true) (href : s.refPhases core tile = true)
    (hgap : (s.tile core tile).running = none) (ha : s.act? 1 0 core tile = some a)
    (hfirst : WellFormed.kats first = true) (hsecond : WellFormed.kats second = true) :
    exec (.tileTestDone core tile first second) s = .next (tileTestDone core tile first second a s) := by
  change execTileTestDone core tile first second s = _
  simp only [execTileTestDone, ha, hrun, href, State.gap, hgap, ifDue, hfirst, hsecond, Bool.and_self, Option.isNone_none, if_true]

end

/-! ## Calibrations (R138, R139) -/

/-- What a table reads after every entry of a list with distinct numbers is set. -/
theorem tget_foldl_tset {α β : Type} (key : β → Nat) (val : β → α) (d : α) (l : List β) (tbl : Tbl α) (h : (l.map key).Nodup) :
    (∀ x ∈ l, tget (l.foldl (fun a x => tset a (key x) (val x)) tbl) (key x) d = val x) ∧
    (∀ k, k ∉ l.map key → tget (l.foldl (fun a x => tset a (key x) (val x)) tbl) k d = tget tbl k d) := by
  induction l generalizing tbl with
  | nil => simp
  | cons y l ih =>
    obtain ⟨hy, hl⟩ := List.nodup_cons.mp h
    obtain ⟨hin, hout⟩ := ih (tset tbl (key y) (val y)) hl
    refine ⟨fun x hx => ?_, fun k hk => ?_⟩
    · rcases List.mem_cons.mp hx with rfl | hx
      · exact (hout (key x) hy).trans (tget_tset_same _ _ _ _)
      · exact hin x hx
    · simp only [List.map_cons, List.mem_cons, not_or] at hk
      exact (hout k hk.2).trans (by rw [tget_tset, if_neg hk.1])

theorem applyCal_same (c t : Nat) (r : CalReading) (temp : Int) (s : State) : SameBut [.tiles] s (applyCal c t r temp s) :=
  modTile_same c t _ s

/-- New trims and baselines are those read, held to their spans. -/
theorem applyCal_tile (c t : Nat) {r : CalReading} (temp : Int) (s : State) (ho : (r.offsets.map (·.1)).Nodup)
    (hb : (r.baselines.map (·.1)).Nodup) : ∃ v, (applyCal c t r temp s).tile c t = v ∧
    (∀ x ∈ r.offsets, tget v.offsetTrim x.1 0 = clampI x.2 (-64) 64) ∧ (∀ x ∈ r.baselines, tget v.beta x.1 0 = x.2) ∧
    v.calTemp = temp ∧ v.calDue = false ∧ v.withheld = false := by
  refine ⟨_, tile_modTile_same s c t _, ?_, ?_, rfl, rfl, rfl⟩
  · exact (tget_foldl_tset (·.1) (fun x => clampI x.2 (-64) 64) 0 r.offsets [] ho).1
  · exact (tget_foldl_tset (·.1) (·.2) 0 r.baselines [] hb).1

/-- A calibration without a failing converter leaves no fault. -/
theorem calFaults_none (c t : Nat) {first : CalReading} (again : CalReading) (s : State) (h : calFails first = []) :
    calFaults c t first again s = s := by
  simp [calFaults, h]

/-- A converter in service that fails once takes one CONV_CAL_FAIL. -/
theorem calFaults_once {c t col d : Nat} {first again : CalReading} {s : State} (h : calFails first = [(col, d)])
    (h2 : calFails again = []) (hcol : s.colRetired c t col = false) :
    calFaults c t first again s = attribute_ (convUnit c t col) 6 0 noWork d false false s := by
  simp [calFaults, h, h2, hcol]

/-- A converter's unit lies in its tile. -/
theorem convUnit_tile (c t col : Nat) : (convUnit c t col).core = c ∧ (convUnit c t col).tile = t ∧ (convUnit c t col).kind ≤ 3 := by
  unfold convUnit uCol uTile
  split
  · refine ⟨rfl, rfl, ?_⟩
    dsimp only
    split <;> omega
  · exact ⟨rfl, rfl, Nat.le_refl 3⟩

/-! ## Tile tests (R372, R374) -/

theorem katFails_endAct (a : Activity) (s : State) (c t : Nat) (rs : List KatReading) (conv : Nat) (seed : Word) :
    (endAct a s).katFails c t rs conv seed = s.katFails c t rs conv seed := by
  obtain ⟨x, hx⟩ := traceOnly_eq 0x151 6 (if a.part < 8 then a.part else 255) a.unit a.code a.unit 0 0
    { s with running := s.running.filter (· ≠ a) }
  rw [endAct, hx]
  rfl

/-- Vectors that all pass are counted and name no unit. -/
theorem katJudge_clean {c t : Nat} (n : Nat) {first : List KatReading} (second : List KatReading) {seed : Word} {s : State}
    (h : s.katFails c t first 16 seed = []) : katJudge c t n first second seed s = count (coreCtr c 54) n s := by
  simp [katJudge, h, katUnits, dedup, count]

/-- An automatic test of a compute tile whose vectors all pass counts 33 of them, is no longer due, and counts as clean. -/
theorem tileTestDone_clean {c t : Nat} {first : List KatReading} (second : List KatReading) {a : Activity} {s : State}
    (hauto : a.cmd = none) (ht : t ≠ 32) (hk : s.katFails c t first 16 (s.core c).lfsr = []) :
    SameBut [.cores] (cleanTest c t ((count (coreCtr c 54) 33 (endAct a s)).modTile c t
      (fun v => { v with testDue := false, withheld := false }))) (tileTestDone c t first second a s) := by
  have hk' : (endAct a s).katFails c t first 16 (s.core c).lfsr = [] := (katFails_endAct a s c t first 16 _).trans hk
  have hn : vectorsRun t false = 33 := by simp [vectorsRun, ht, b2n]
  have hverify : ¬ (0 : Nat) = 0x102 := by decide
  unfold tileTestDone
  simp only [hauto, hk', katJudge_clean _ second hk', hn, ht, if_false, List.isEmpty_nil, if_true, hverify]
  exact modCore_same _ _ _

section
variable {c t : Nat} {s : State}

/-- A clean test of a tile that is not Suspect changes nothing more. -/
theorem cleanTest_other (h : (s.tile c t).state ≠ .suspect) : cleanTest c t s = s := by
  simp [cleanTest, h]

/-- A Suspect tile's clean tests are counted -/
theorem cleanTest_below (h : (s.tile c t).state = .suspect) (hn : (s.tile c t).cleanTests + 1 < s.regf 0xD04 16 16) :
    cleanTest c t s = s.modTile c t (fun x => { x with cleanTests := x.cleanTests + 1 }) := by
  simp [cleanTest, h, Nat.not_le.mpr hn]

/-- until at CLEAN_TESTS it is Ready again, which its records say (R372). -/
theorem cleanTest_reached (h : (s.tile c t).state = .suspect) (hn : s.regf 0xD04 16 16 ≤ (s.tile c t).cleanTests + 1)
    (hroom : s.crock.mirror.faults.length < 1024) : (cleanTest c t s).tile c t = { s.tile c t with state := .ready, cleanTests := 0 } ∧
    ((cleanTest c t s).calRec c t).state = 2 ∧ Noted (uTile c t) 4 6 0 (cleanTest c t s) := by
  unfold cleanTest
  simp only [h, hn, if_true]
  refine ⟨?_, ?_, ?_⟩
  · rw [SameBut.tile (raiseUnit_same _ _ _ _) (by simp), SameBut.tile (addRecord_same _ _ _ _ _ _ _ _) (by simp),
      SameBut.tile (modCal_same _ _ _ _) (by simp), tile_modTile_same]
  · rw [SameBut.calRec (raiseUnit_same _ _ _ _) (by simp), addRecord_room _ _ _ _ _ _ _ (by simpa using hroom)]
    exact congrArg CalRec.state (calRec_modCal_same (s.modTile c t _) c t (fun r => { r with state := 2 }))
  · refine Noted.same (noted_addRecord _ _ _ _ _ _ _ ?_) (raiseUnit_same _ _ _ _) (by simp)
    simpa using hroom

/-- So of the tile the state and the count of clean tests alone change. -/
theorem cleanTest_tile (hroom : s.crock.mirror.faults.length < 1024) :
    ∃ st n, (cleanTest c t s).tile c t = { s.tile c t with state := st, cleanTests := n } := by
  by_cases h : (s.tile c t).state = .suspect
  · rcases Nat.lt_or_ge ((s.tile c t).cleanTests + 1) (s.regf 0xD04 16 16) with hn | hn
    · exact ⟨(s.tile c t).state, (s.tile c t).cleanTests + 1, by rw [cleanTest_below h hn, tile_modTile_same]⟩
    · exact ⟨.ready, 0, (cleanTest_reached h hn hroom).1⟩
  · exact ⟨(s.tile c t).state, (s.tile c t).cleanTests, by rw [cleanTest_other h]⟩

end

end Sys2Proof.Machine
end

section
/-! SUPPORT. The feed-forward of a core's tiles, a slice of a core's self-test and what the arbiter picks. -/

namespace Sys2Proof.Machine

open Sys2Proof.Safety

/-! ## Feed-forward (R79) -/

/-- What the feed-forward makes of a tile: the correction for the temperature, and a sample due from 2.0 K on. -/
def State.fed (s : State) (temp : Int) (v : Tile) : Tile :=
  { v with gainCorr := s.feedForward v temp, refDue := v.refDue || decide (20 ≤ (temp - v.tempS).natAbs) }

theorem fed_of_same {L : List Piece} {s t : State} (h : SameBut L s t) (hp : Piece.sec ∉ L) (temp : Int) (v : Tile) :
    t.fed temp v = s.fed temp v := by
  unfold State.fed
  rw [h.feedForward hp]

theorem feedTile_same (c t : Nat) (temp : Int) (s : State) :
    SameBut [.tiles, .running, .waiting, .counters, .trace] s (feedTile c t temp s) :=
  (Framed.same (frame_feedTile c t temp (fun _ h => h))).mono (by simp)

/-- Feeding one tile changes that tile alone. -/
theorem feedTile_tile (c t : Nat) (temp : Int) (s : State) (c' t' : Nat) :
    (feedTile c t temp s).tile c' t' = if tileNo c' t' = tileNo c t then s.fed temp (s.tile c t) else s.tile c' t' := by
  unfold feedTile refDue
  simp only
  split
  next h =>
    simp only [Bool.and_eq_true, decide_eq_true_eq, Bool.not_eq_true'] at h
    rw [SameBut.tile (Framed.same (frame_askAuto _ (fun _ h => h))) (by simp), tile_modTile, tile_modTile_same, tile_modTile]
    split
    · simp [State.fed, h.1]
    · rfl
  next h =>
    rw [tile_modTile]
    split
    · cases hd : (s.tile c t).refDue <;> simp_all [State.fed]
    · rfl

/-- Feeding distinct tiles of a core changes each of them once. -/
theorem each_feedTile_tile (c : Nat) (temp : Int) (l : List Nat) (hl : l.Nodup) (hb : ∀ t ∈ l, t < 33) (s : State) (c' u : Nat)
    (hu : u < 33) : (each l (fun t x => feedTile c t temp x) s).tile c' u =
      if c' = c ∧ u ∈ l then s.fed temp (s.tile c' u) else s.tile c' u := by
  induction l generalizing s with
  | nil => simp
  | cons t l ih =>
    obtain ⟨ht, hl'⟩ := List.nodup_cons.mp hl
    rw [each_cons, ih hl' (fun x hx => hb x (List.mem_cons_of_mem _ hx)), fed_of_same (feedTile_same c t temp s) (by simp),
      feedTile_tile]
    simp only [tileNo_inj (hb t List.mem_cons_self) hu]
    by_cases hc : c' = c
    · subst hc
      by_cases hut : u = t
      · subst hut; simp [ht]
      · simp [hut]
    · simp [hc]

/-- The feed-forward reaches the tiles of the core with reference phases. -/
theorem exec_gainFeedforward (core : Fin 32) (temp : Int) {s : State} (hrun : s.coresRun = true) :
    exec (.gainFeedforward core temp) s =
      .next (each ((upTo 33).filter (fun t => s.refPhases core t)) (fun t x => feedTile core t temp x) s) := by
  change execGainFeedforward core temp s = _
  rw [execGainFeedforward, hrun, ifDue_true]

/-! ## Suspect cores (R373) -/

section
variable (c kind : Nat) (w : Work) (d : Nat) {s : State}

/-- Suspicion changes a core's clean slices and margin alone (R373). -/
theorem suspectCore_core : ∃ m, (suspectCore c kind w d s).core c = { s.core c with cleanSlices := 0, marginClock := m } := by
  unfold suspectCore
  simp only
  split
  · exact ⟨_, core_modCore_same s c _⟩
  · refine ⟨s.regf 0xD04 12 1 == 1 || s.power.step == 7, ?_⟩
    rw [SameBut.core (raiseUnit_same _ _ _ _) (by simp), SameBut.core (addRecord_same _ _ _ _ _ _ _ _) (by simp),
      SameBut.core (Framed.same (frame_State_modCoreState _ _ (fun _ h => h))) (by simp)]
    exact core_modCore_same s c _

/-- Suspicion keeps the records there are while the history has room. -/
theorem Noted.suspectCore {u : Unit} {k o x : Nat} (hn : Noted u k o x s) (h : s.crock.mirror.faults.length < 1024) :
    Noted u k o x (suspectCore c kind w d s) := by
  unfold Machine.suspectCore
  simp only
  split
  · exact hn
  · refine Noted.same (Noted.addRecord ?_ ?_ _ _ _ _ _ _ _) (raiseUnit_same _ _ _ _) (by simp)
    · exact (hn.same (modCore_same c _ s) (by simp)).modCoreState c _
    · exact h

end

/-! ## Counters of cores -/

/-- Every counter of a core reads as it did (R431: the words of the cores lie below 0x4000). -/
def CoreCountersKept (s t : State) : Prop := ∀ off, off < 0x4000 → t.counter off = s.counter off

namespace CoreCountersKept

theorem refl (s : State) : CoreCountersKept s s := fun _ _ => rfl

theorem trans {s t u : State} (h : CoreCountersKept s t) (k : CoreCountersKept t u) : CoreCountersKept s u :=
  fun off ho => (k off ho).trans (h off ho)

theorem of_same {L : List Piece} {s t : State} (h : SameBut L s t) (hp : Piece.counters ∉ L) : CoreCountersKept s t :=
  fun off _ => h.counter hp off

theorem each {α : Type} {f : α → State → State} (l : List α) (h : ∀ x s, CoreCountersKept s (f x s)) (s : State) :
    CoreCountersKept s (each l f s) := by
  induction l generalizing s with
  | nil => exact refl s
  | cons x l ih => exact (h x s).trans (ih (f x s))

theorem count {off : Nat} (n : Nat) (s : State) (h : 0x4000 ≤ off) : CoreCountersKept s (count off n s) :=
  fun x hx => counter_count_other off x n s (by omega)

theorem noRing (h : Hdr) (s : State) : CoreCountersKept s (noRing h s) := by
  have hc : CoreCountersKept s (Machine.count (devCtr 7) 1 s) := count 1 s (by decide)
  unfold Machine.noRing
  simp only
  split
  · exact hc.trans (of_same (raisePart_same _ _ _ _) (by simp))
  · exact hc.trans (of_same (traceOnly_same _ _ _ _ _ _ _ _ _) (by simp))

theorem reply (h : Hdr) (op st : Nat) (final : Bool) (w : List Word) (s : State) :
    CoreCountersKept s (reply h op st final w s) := by
  unfold Machine.reply
  split
  · exact (of_same (modLane_same _ _ _ s) (by simp)).trans (of_same (traceOnly_same _ _ _ _ _ _ _ _ _) (by simp))
  · exact noRing h s

theorem finishOpt (id : Option Nat) (st : Nat) (w : List Word) (s : State) : CoreCountersKept s (finishOpt id st w s) := by
  unfold Machine.finishOpt finish
  split
  · split
    · exact (of_same (dropCmd_same _ s) (by simp)).trans (reply _ _ _ _ _ _)
    · exact refl s
  · exact refl s

theorem settleRun (rid : Nat) (s : State) : CoreCountersKept s (settleRun rid s) := by
  have hdel : CoreCountersKept s (s.modFlows (fun f => { f with runs := tdel f.runs rid })) := of_same (modFlows_same _ s) (by simp)
  unfold Machine.settleRun
  split
  · split
    · simp only
      split
      · split
        · exact (hdel.trans (of_same (modFlows_same _ _) (by simp))).trans (finishOpt _ _ _ _)
        · exact hdel
      · exact hdel
    · exact refl s
  · exact refl s

theorem endWindow (rid : Nat) (s : State) : CoreCountersKept s (endWindow rid s) := by
  have hspill (n : Nat) : CoreCountersKept s (freeSpill n s) := of_same (modFlows_same _ s) (by simp)
  unfold Machine.endWindow
  split
  · simp only
    split
    · split
      · exact (hspill _).trans (settleRun rid _)
      · exact ((hspill _).trans (of_same (modFlows_same _ _) (by simp))).trans (settleRun rid _)
    · exact (hspill _).trans (settleRun rid _)
  · exact refl s

theorem abandonRun (rid st kind : Nat) (body : List DWord) (silent : Bool) (s : State) :
    CoreCountersKept s (abandonRun rid st kind body silent s) := by
  unfold Machine.abandonRun
  split
  · split
    · exact refl s
    · have hmark : CoreCountersKept s (markAbandoned rid st s) :=
        of_same (Framed.same (frame_markAbandoned rid st (fun _ h => h))) (by simp)
      have hform (u : State) : CoreCountersKept u (formRun rid kind body u) :=
        of_same (Framed.same (frame_formRun rid kind body (fun _ h => h))) (by simp)
      have hdrop (x : Nat × Nat) (u : State) : CoreCountersKept u (dropQueue x.1 x.2 u) :=
        of_same (Framed.same (frame_dropQueue x.1 x.2 (fun _ h => h))) (by simp)
      have hfree (u : State) : CoreCountersKept u { u with cores := u.cores.map (fun e => (e.1, freeSlots rid e.2)) } :=
        fun _ _ => rfl
      simp only
      split
      · exact ((hmark.trans (each _ hdrop _)).trans (hfree _)).trans (endWindow rid _)
      · exact (((hmark.trans (hform _)).trans (each _ hdrop _)).trans (hfree _)).trans (endWindow rid _)
  · exact refl s

theorem cancelRun (rid st : Nat) (silent : Bool) (s : State) : CoreCountersKept s (cancelRun rid st silent s) := by
  have habandon := abandonRun rid st 4 [0] silent s
  unfold Machine.cancelRun
  split
  · split
    · exact refl s
    · simp only
      split
      · split
        · exact habandon
        · exact habandon.trans (count 1 _ (by unfold partCtr; omega))
      · exact habandon
  · exact refl s

theorem retireCore (c kind : Nat) (w : Work) (d : Nat) (s : State) : CoreCountersKept s (retireCore c kind w d s) := by
  unfold Machine.retireCore
  split
  · exact refl s
  · exact ((of_same (modMirror_same _ s) (by simp)).trans
      (of_same (Framed.same (frame_raiseRetired _ _ _ _ (fun _ h => h))) (by simp))).trans (each _ (fun r t => cancelRun r _ _ t) _)

theorem reported (u : Unit) (kind outcome : Nat) (w : Work) (d : Nat) (s : State) :
    CoreCountersKept s (reported u kind outcome w d s) :=
  ((of_same (addRecord_same u kind outcome _ w d 0 s) (by simp)).trans (count 1 _ (by decide))).trans
    (of_same (raiseUnit_same _ _ _ _) (by simp))

theorem suspectCore (c kind : Nat) (w : Work) (d : Nat) (s : State) : CoreCountersKept s (suspectCore c kind w d s) :=
  of_same (Framed.same (frame_suspectCore c kind w d (fun _ h => h))) (by simp)

end CoreCountersKept

/-! ## Retired cores (R377) -/

section
variable (c kind : Nat) (w : Work) (d : Nat) {s : State}

/-- A retirement's own record leaves the retirement list, -/
theorem coreRetired_raiseRetired (u : Unit) (h : s.crock.mirror.faults.length < 1024) :
    (raiseRetired u kind w d s).coreRetired c = s.coreRetired c := by
  unfold raiseRetired
  simp only
  rw [SameBut.coreRetired (raiseUnit_same _ _ _ _) (by simp), addRecord_room _ _ _ _ _ _ _ h]
  rfl

/-- and keeps the records there are while the history has room. -/
theorem Noted.raiseRetired {u : Unit} {k o x : Nat} (hn : Noted u k o x s) (h : s.crock.mirror.faults.length < 1024) (u' : Unit) :
    Noted u k o x (raiseRetired u' kind w d s) :=
  (hn.addRecord h _ _ _ _ _ _ _).same (raiseUnit_same _ _ _ _) (by simp)

/-- Ending runs leaves the Crock. -/
theorem each_cancelRun_same (l : List Nat) (st : Nat) (s : State) :
    SameBut [.host, .pre, .cores, .flows, .funnels, .trace, .counters] s (each l (fun r t => cancelRun r st false t) s) :=
  SameBut.each l (fun r _ => Framed.same (frame_cancelRun r st false (fun _ h => h))) s

/-- A core that is retired is on the retirement list, and the records there are stay while the history has room. -/
theorem retireCore_spec {u : Unit} {k o x : Nat} (hn : Noted u k o x s) (h : s.crock.mirror.faults.length < 1024) :
    (retireCore c kind w d s).coreRetired c = true ∧ Noted u k o x (retireCore c kind w d s) := by
  unfold retireCore
  split
  next hr => exact ⟨hr, hn⟩
  next =>
    refine ⟨?_, Noted.same (Noted.raiseRetired _ _ _ ?_ ?_ _) (each_cancelRun_same _ _ _) (by simp)⟩
    · rw [SameBut.coreRetired (each_cancelRun_same _ _ _) (by simp), coreRetired_raiseRetired _ _ _ _ _ (by simpa using h)]
      simp [State.coreRetired]
    · exact hn
    · exact h

end

/-- A core's first permanent fault is noted and retires it. -/
theorem attribute_core_permanent (c kind outcome : Nat) (w : Work) (d : Nat) (late : Bool) {s : State}
    (h : s.crock.mirror.faults = []) : (attribute_ (uCore c) kind outcome w d true late s).coreRetired c = true ∧
    Noted (uCore c) kind outcome d (attribute_ (uCore c) kind outcome w d true late s) := by
  have hroom : s.crock.mirror.faults.length < 1024 := by simp [h]
  have hlen := reported_faults_length (uCore c) kind outcome w d hroom
  rw [attribute_permanent]
  exact retireCore_spec c kind w d (noted_reported _ _ _ _ _ hroom) (by simp [hlen, h])

/-- A core's first fault that is not permanent is noted, and of the core the clean slices and the margin alone change. -/
theorem attribute_core_first (c kind outcome : Nat) (w : Work) (d : Nat) (late : Bool) {s : State}
    (h : s.crock.mirror.faults = []) : Noted (uCore c) kind outcome d (attribute_ (uCore c) kind outcome w d false late s) ∧
    ∃ m, (attribute_ (uCore c) kind outcome w d false late s).core c = { s.core c with cleanSlices := 0, marginClock := m } := by
  have hroom : s.crock.mirror.faults.length < 1024 := by simp [h]
  have hlen := reported_faults_length (uCore c) kind outcome w d hroom
  rw [attribute_first_core (uCore c) kind outcome w d late h rfl]
  refine ⟨(noted_reported _ _ _ _ _ hroom).suspectCore _ _ _ _ (by simp [hlen, h]), ?_⟩
  obtain ⟨m, e⟩ := suspectCore_core c kind w d (s := reported (uCore c) kind outcome w d s)
  exact ⟨m, by rw [show (uCore c).core = c from rfl, e, SameBut.core (reported_same _ _ _ _ _) (by simp)]⟩

theorem CoreCountersKept.attribute_core (c kind outcome : Nat) (w : Work) (d : Nat) (perm late : Bool) (s : State) :
    CoreCountersKept s (attribute_ (uCore c) kind outcome w d perm late s) := by
  have hrep := reported (uCore c) kind outcome w d s
  unfold attribute_
  simp only
  split
  · exact hrep.trans (retireCore c kind w d _)
  · exact hrep.trans (suspectCore c kind w d _)

/-! ## Slices of a core's self-test (R375) -/

section
variable {c : Nat} {s : State}

/-- A clean slice of a core that is not Suspect and repeats no test changes nothing. -/
theorem sliceJudge_clean (hr : (s.core c).repeatCode = none) (hs : bitN (s.coreState c) 0 = false) :
    sliceJudge c none s = s := by
  simp [sliceJudge, hr, cleanSlice, hs]

/-- A test that fails is the one to repeat. -/
theorem sliceJudge_fails (f : BitVec 16) (hr : (s.core c).repeatCode = none) :
    ((sliceJudge c (some f) s).core c).repeatCode = some f.toNat ∧ SameBut [.cores] s (sliceJudge c (some f) s) := by
  unfold sliceJudge
  simp only [hr]
  exact ⟨by rw [core_modCore_same], (modCore_same _ _ _).trans (modCore_same _ _ _)⟩

/-- One that fails again is confirmed: one record, and the core is retired. -/
theorem sliceJudge_confirms (f : BitVec 16) (hr : (s.core c).repeatCode = some f.toNat) (hf : s.crock.mirror.faults = []) :
    (sliceJudge c (some f) s).coreRetired c = true ∧ Noted (uCore c) 10 2 f.toNat (sliceJudge c (some f) s) := by
  unfold sliceJudge
  simp only [hr, if_true]
  exact attribute_core_permanent c 10 2 noWork f.toNat false hf

/-- One that passes when repeated leaves one record. -/
theorem sliceJudge_passes {r : Nat} (hr : (s.core c).repeatCode = some r) (hf : s.crock.mirror.faults = []) :
    ((sliceJudge c none s).core c).repeatCode = none ∧ Noted (uCore c) 10 1 r (sliceJudge c none s) := by
  unfold sliceJudge
  simp only [hr]
  obtain ⟨hn, m, hm⟩ := attribute_core_first c 10 1 noWork r false
    (s := s.modCore c (fun k => { k with repeatCode := none })) hf
  exact ⟨by rw [hm, core_modCore_same], hn⟩

/-- Whatever a slice finds, the counters of the cores stand. -/
theorem CoreCountersKept.sliceJudge (c : Nat) (failed : Option (BitVec 16)) (s : State) :
    CoreCountersKept s (sliceJudge c failed s) := by
  have hcore (u : State) (f : Core → Core) : CoreCountersKept u (u.modCore c f) := of_same (modCore_same c f u) (by simp)
  unfold Machine.sliceJudge
  simp only
  split
  · split
    · exact ((hcore _ _).trans (hcore _ _)).trans (attribute_core _ _ _ _ _ _ _ _)
    · exact (((hcore _ _).trans (hcore _ _)).trans (attribute_core _ _ _ _ _ _ _ _)).trans (hcore _ _)
  · exact (hcore _ _).trans (attribute_core _ _ _ _ _ _ _ _)
  · exact (hcore _ _).trans (hcore _ _)
  · exact of_same (Framed.same (frame_cleanSlice c (fun _ h => h))) (by simp)

/-- The machine in which a slice is judged: its activity begun, the slice counted. -/
def inSlice (c : Nat) (s : State) : State :=
  count (coreCtr c 56) 1 ((beginAct (sliceAct s c) s).modCore c (fun k => { k with testSlices := k.testSlices + 1 }))

theorem inSlice_same : SameBut [.running, .cores, .counters, .trace] s (inSlice c s) :=
  (((beginAct_same _ s).mono (by simp)).trans ((modCore_same _ _ _).mono (by simp))).trans ((count_same _ _ _).mono (by simp))

theorem inSlice_core (c' : Nat) : (inSlice c s).core c' =
    if c' = c then { s.core c with testSlices := (s.core c).testSlices + 1 } else s.core c' := by
  have hb (k : Nat) : (beginAct (sliceAct s c) s).core k = s.core k := (beginAct_same _ s).core (by simp) k
  unfold inSlice
  rw [SameBut.core (count_same _ _ _) (by simp), core_modCore, hb, hb]

theorem inSlice_running : (inSlice c s).running = s.running ++ [sliceAct s c] := by
  unfold inSlice
  rw [SameBut.running (count_same _ _ _) (by simp), SameBut.running (modCore_same _ _ _) (by simp)]
  exact beginAct_running _ _

theorem inSlice_counter : (inSlice c s).counter (coreCtr c 56) =
    min (s.counter (coreCtr c 56) + 1) (counterMax (coreCtr c 56)) := by
  unfold inSlice
  rw [counter_count _ _ _ (by simp), SameBut.counter (modCore_same _ _ _) (by simp), SameBut.counter (beginAct_same _ _) (by simp)]

/-- An automatic slice on an idle core, with no maintenance running and no other core in its pass, begins its activity, is
judged, and ends it. -/
theorem exec_coreSelftestSlice {core : Fin 32} (failed : Option (BitVec 16)) (hrun : s.coresRun = true)
    (hq : s.quiesced core = false) (hidle : s.coreIdle core = true) (hret : s.coreRetired core = false) (hr : s.running = [])
    (hcmd : (s.core core).testCmd = none) (hpass : ∀ e ∈ s.cores, e.1 ≠ core.val → e.2.testSlices = 0) :
    exec (.coreSelftestSlice core failed false) s =
      .next (endAct (sliceAct s core) (sliceJudge core failed (inSlice core s))) := by
  have hother : s.cores.any (fun e => e.1 ≠ core.val && e.2.testCmd.isNone && decide (0 < e.2.testSlices)) = false := by
    rw [List.any_eq_false]
    intro e he
    by_cases h : e.1 = core.val
    · simp [h]
    · simp [hpass e he h]
  have hblocked : s.blocked (sliceAct s core) = false := by simp [State.blocked, hr]
  have hauto : (sliceAct s core).cmd = none := hcmd
  change execCoreSelftestSlice core failed false s = _
  simp only [execCoreSelftestSlice, hrun, hq, hidle, hret, hother, hblocked, hauto, hr, ifDue, coreSlice, inSlice]
  simp

end

/-! ## The arbiter (R385) -/

/-- The arbiter begins what it picks. -/
theorem exec_maintArbiterRun {s : State} (h : Serving s) : exec .maintArbiterRun s =
    .next ((pickAct s s.waiting).elim s (fun a => beginAny a s)) := by
  change execMaintArbiterRun s = _
  unfold execMaintArbiterRun
  rw [show s.served = true from h, ifDue_true]
  cases pickAct s s.waiting <;> rfl

/-- What conflicts with something running is not picked. -/
theorem pickAct_blocked {s : State} {a : Activity} (h : s.blocked a = true) : pickAct s [a] = none := by
  simp [pickAct, h, sortBy]

theorem pickAct_free {s : State} {a : Activity} (h : s.blocked a = false) : pickAct s [a] = some a := by
  simp [pickAct, h, sortBy, insertBy]

/-- Of two that are free the one of the lower priority number is picked (Table 12.9). -/
theorem pickAct_second {s : State} {a b : Activity} (ha : s.blocked a = false) (hb : s.blocked b = false)
    (hp : b.prio < a.prio) : pickAct s [a, b] = some b := by
  simp [pickAct, ha, hb, sortBy, insertBy, hp]

/-- A reference sample or a calibration that the arbiter begins runs and waits no longer; nothing else comes of it at once. -/
theorem beginAny_tile {s : State} {a : Activity} (h : a.code = 2 ∨ a.code = 4) : (beginAny a s).running = s.running ++ [a] ∧
    (beginAny a s).waiting = s.waiting.filter (· ≠ a) ∧ SameBut [.running, .waiting, .trace] s (beginAny a s) := by
  have e : beginAny a s = beginAct a { s with waiting := s.waiting.filter (· ≠ a) } := by
    rcases h with h | h <;> simp [beginAny, startAct, Activity.slice, h]
  have hw : SameBut [.running, .waiting, .trace] s { s with waiting := s.waiting.filter (· ≠ a) } := by
    intro p hp
    cases p <;> simp_all [Piece.same]
  rw [e]
  exact ⟨beginAct_running _ _, beginAct_same _ _ .waiting (by simp), hw.trans ((beginAct_same _ _).mono (by simp))⟩

end Sys2Proof.Machine
end

section
/-! PROOF. The statement on maintenance, clause by clause. -/

namespace Sys2Proof.Machine

open Sys2Proof.Safety

/-! ## What falls due -/

section
variable (core : Fin 32) (tile : Fin 33) (s : State)

/-- On a tile with reference phases the arbiter is asked for the sample, the calibration or the test that falls due. -/
theorem falls_due (hrun : s.coresRun = true) (href : s.refPhases core tile = true) (hr : s.running = []) (hw : s.waiting = []) :
    Completes (.refSampleDue core tile) s (Asked 2 core tile { s.tile core tile with refDue := true } s) ∧
    Completes (.convCalDue core tile) s (Asked 4 core tile { s.tile core tile with calDue := true } s) ∧
    Completes (.tileTestDue core tile) s (Asked 1 core tile { s.tile core tile with testDue := true } s) := by
  refine ⟨⟨_, by rw [exec_refSampleDue core tile s hrun, href, ifDue_true], ?_⟩,
    ⟨_, by rw [exec_convCalDue core tile s hrun, href, ifDue_true], ?_⟩,
    ⟨_, by rw [exec_tileTestDue core tile s hrun, href, ifDue_true], ?_⟩⟩
  · exact asked_of_idle 2 core tile (fun v => { v with refDue := true }) hr hw
  · exact asked_of_idle 4 core tile (fun v => { v with calDue := true }) hr hw
  · exact asked_of_idle 1 core tile (fun v => { v with testDue := true }) hr hw

/-- On a tile without them nothing falls due. -/
theorem nothing_due (hrun : s.coresRun = true) (href : s.refPhases core tile = false) :
    exec (.refSampleDue core tile) s = .next s ∧ exec (.convCalDue core tile) s = .next s ∧
    exec (.tileTestDue core tile) s = .next s := by
  rw [exec_refSampleDue core tile s hrun, exec_convCalDue core tile s hrun, exec_tileTestDue core tile s hrun, href]
  exact ⟨rfl, rfl, rfl⟩

/-- What has been due for 1 s withholds operations. -/
theorem withholds (hrun : s.coresRun = true)
    (hdue : (s.tile core tile).refDue = true ∨ (s.tile core tile).calDue = true ∨ (s.tile core tile).testDue = true) :
    Completes (.calWithhold core tile) s (fun t => t.tile core tile = { s.tile core tile with withheld := true } ∧
      SameBut [.tiles] s t) := by
  refine ⟨_, ?_, tile_modTile_same s core tile (fun v => { v with withheld := true }), modTile_same core tile _ s⟩
  rw [exec_calWithhold core tile s hrun, show (_ || _) = true by simpa [or_assoc] using hdue, ifDue_true]

theorem withholds_nothing (hrun : s.coresRun = true) (h1 : (s.tile core tile).refDue = false)
    (h2 : (s.tile core tile).calDue = false) (h3 : (s.tile core tile).testDue = false) :
    exec (.calWithhold core tile) s = .next s := by
  rw [exec_calWithhold core tile s hrun, h1, h2, h3]
  rfl

end

/-! ## What a sample, a calibration and a test leave -/

section
variable {core : Fin 32} {tile : Fin 33} {s : State} {a : Activity} (hrun : s.coresRun = true)
  (href : s.refPhases core tile = true) (hgap : (s.tile core tile).running = none)

/-- The tile reads as before once an activity has ended. -/
theorem tile_endAct (a : Activity) (s : State) (c t : Nat) : (endAct a s).tile c t = s.tile c t :=
  (endAct_same a s).tile (by simp) c t

include hrun href hgap

theorem sample_within {r : RefReading} {g : Nat} (ha : s.act? 2 0 core tile = some a) (hauto : a.cmd = none)
    (hg : gammaOf (s.calRec core tile) r = some g) (h1 : 0x7333 ≤ g) (h2 : g ≤ 0x8CCD) (hs : (s.tile core tile).settled = true) :
    Completes (.refSampleDone core tile r) s (fun t =>
      (t.tile core tile).gammaS = g ∧ (t.tile core tile).gainCorr = g ∧ (t.tile core tile).tempS = r.temp ∧
      (t.tile core tile).refDue = false ∧ (t.tile core tile).withheld = false ∧
      (t.tile core tile).state = (s.tile core tile).state ∧ (t.crock = s.crock)) := by
  have hg' : gammaOf ((endAct a s).calRec core tile) r = some g := by rw [(endAct_same a s).calRec (by simp), hg]
  obtain ⟨dr, happly⟩ := applySample_within hg' (by rw [tile_endAct]; exact hs) h1 h2
  obtain ⟨b, j, htile⟩ := refreshCheck_tile core tile ((endAct a s).modTile core tile (fun x =>
    { x with gammaS := g, tempS := r.temp, gainCorr := g, refDue := false, withheld := false, driftRes := dr }))
  refine ⟨_, (exec_refSampleDone r hrun href hgap ha hauto).trans (congrArg _ happly), ?_⟩
  dsimp only
  rw [htile, tile_modTile_same, tile_endAct]
  refine ⟨rfl, rfl, rfl, rfl, rfl, rfl, ?_⟩
  rw [SameBut.crock (Framed.same (frame_refreshCheck core tile (fun _ h => h))) (by simp), modTile_crock,
    (endAct_same a s).crock (by simp)]

theorem sample_beyond {r : RefReading} {g : Nat} (ha : s.act? 2 0 core tile = some a) (hauto : a.cmd = none)
    (hg : gammaOf (s.calRec core tile) r = some g) (h : g < 0x4000 ∨ 0xFFFF < g) (hf : s.crock.mirror.faults = []) :
    Completes (.refSampleDone core tile r) s (fun t =>
      (t.tile core tile).refDue = false ∧ (t.tile core tile).testDue = true ∧
      (t.tile core tile).gainCorr = (s.tile core tile).gainCorr ∧
      ∃ x ∈ t.crock.mirror.faults, x.kind = 8 ∧ x.unitKind = 3 ∧ x.core = core.val ∧ x.tile = tile.val ∧ x.detail = 0x10000) := by
  have hg' : gammaOf ((endAct a s).calRec core tile) r = some g := by rw [(endAct_same a s).calRec (by simp), hg]
  have hcrock : (endAct a s).crock = s.crock := (endAct_same a s).crock (by simp)
  obtain ⟨⟨x, hx, hk, -, hu, hc, ht, hd⟩, st, n, htile⟩ := attribute_first_tile_spec (uTile core tile) 8 0 noWork 0x10000 false
    (s := endAct a s) (by rw [hcrock, hf]) (Nat.le_refl 3)
  refine ⟨_, (exec_refSampleDone r hrun href hgap ha hauto).trans (congrArg _ (applySample_beyond hg' h)), ?_⟩
  dsimp only
  rw [tile_modTile_same]
  rw [tile_endAct] at htile
  have hgain := congrArg Tile.gainCorr htile
  exact ⟨rfl, rfl, hgain, x, hx, hk, hu, hc, ht, hd⟩

theorem calibration_clean {r again : CalReading} (temp : Int) (ha : s.act? 4 0 core tile = some a) (hauto : a.cmd = none)
    (hr : WellFormed.cal r = true) (hagain : WellFormed.cal again = true) (hclean : calFails r = [])
    (ho : (r.offsets.map (·.1)).Nodup) (hb : (r.baselines.map (·.1)).Nodup) :
    Completes (.convCalDone core tile r again temp) s (fun t =>
      (∀ x ∈ r.offsets, tget (t.tile core tile).offsetTrim x.1 0 = clampI x.2 (-64) 64) ∧
      (∀ x ∈ r.baselines, tget (t.tile core tile).beta x.1 0 = x.2) ∧ (t.tile core tile).calTemp = temp ∧
      (t.tile core tile).calDue = false ∧ (t.tile core tile).withheld = false ∧ a ∉ t.running ∧
      SameBut [.tiles, .running, .trace] s t) := by
  obtain ⟨v, hv, hoff, hbase, htemp, hdue, hheld⟩ := applyCal_tile core tile temp (endAct a s) ho hb
  have hsame := applyCal_same core tile r temp (endAct a s)
  refine ⟨_, exec_convCalDone temp hrun href hgap ha hauto hr hagain, ?_⟩
  dsimp only
  rw [hclean, List.isEmpty_nil, if_pos rfl, calFaults_none _ _ _ _ hclean, hv]
  refine ⟨hoff, hbase, htemp, hdue, hheld, ?_, ((endAct_same a s).mono (by simp)).trans (hsame.mono (by simp))⟩
  rw [hsame.running (by simp), endAct_running]
  simp

theorem calibration_fails {r again : CalReading} (temp : Int) {col d : Nat} (ha : s.act? 4 0 core tile = some a)
    (hauto : a.cmd = none) (hr : WellFormed.cal r = true) (hagain : WellFormed.cal again = true)
    (hfail : calFails r = [(col, d)]) (hpass : calFails again = []) (hcol : s.colRetired core tile col = false)
    (hf : s.crock.mirror.faults = []) : Completes (.convCalDone core tile r again temp) s (fun t =>
      ∃ x ∈ t.crock.mirror.faults, x.kind = 6 ∧ x.core = core.val ∧ x.tile = tile.val ∧ x.detail = d ∧ x.outcome = 0) := by
  obtain ⟨hcore, htile, hkind⟩ := convUnit_tile core tile col
  have hcrock (q : CalReading) : (applyCal core tile q temp (endAct a s)).crock = s.crock := (endAct_same a s).crock (by simp)
  refine ⟨_, exec_convCalDone temp hrun href hgap ha hauto hr hagain, ?_⟩
  rw [calFaults_once hfail hpass (by rw [State.colRetired, hcrock]; exact hcol)]
  obtain ⟨⟨x, hx, hk, ho, -, hc, ht, hd⟩, -⟩ := attribute_first_tile_spec (convUnit core tile col) 6 0 noWork d false
    (s := applyCal core tile (if (calFails r).isEmpty then r else again) temp (endAct a s)) (by rw [hcrock, hf]) hkind
  exact ⟨x, hx, hk, hc.trans hcore, ht.trans htile, hd, ho⟩

theorem test_clean {first second : List KatReading} (ha : s.act? 1 0 core tile = some a) (hauto : a.cmd = none)
    (hfirst : WellFormed.kats first = true) (hsecond : WellFormed.kats second = true) (ht : tile.val ≠ 32)
    (hk : s.katFails core tile first 16 (s.core core).lfsr = []) (hf : s.crock.mirror.faults = []) :
    let v := s.tile core tile
    Completes (.tileTestDone core tile first second) s (fun t =>
      (t.tile core tile).testDue = false ∧ (t.tile core tile).withheld = false ∧
      t.counter (coreCtr core 54) = min (s.counter (coreCtr core 54) + 33) (counterMax (coreCtr core 54)) ∧
      (v.state ≠ .suspect → (t.tile core tile).state = v.state ∧ t.crock = s.crock) ∧
      (v.state = .suspect → v.cleanTests + 1 < s.regf 0xD04 16 16 → (t.tile core tile).state = .suspect ∧
        (t.tile core tile).cleanTests = v.cleanTests + 1) ∧
      (v.state = .suspect → s.regf 0xD04 16 16 ≤ v.cleanTests + 1 → (t.tile core tile).state = .ready ∧
        (t.calRec core tile).state = 2 ∧ ∃ x ∈ t.crock.mirror.faults, x.outcome = 6 ∧ x.core = core.val ∧ x.tile = tile.val)) := by
  intro v
  have hend := endAct_same a s
  have hcount := count_same (coreCtr core 54) 33 (endAct a s)
  let u := (count (coreCtr core 54) 33 (endAct a s)).modTile core tile (fun v => { v with testDue := false, withheld := false })
  have hu : u.tile core tile = { v with testDue := false, withheld := false } := by
    rw [tile_modTile_same, hcount.tile (by simp), hend.tile (by simp)]
  have hcrock : u.crock = s.crock := (hcount.crock (by simp)).trans (hend.crock (by simp))
  have hctr : u.counter (coreCtr core 54) = min (s.counter (coreCtr core 54) + 33) (counterMax (coreCtr core 54)) := by
    rw [SameBut.counter (modTile_same _ _ _ _) (by simp), counter_count _ _ _ (by simp), hend.counter (by simp)]
  have hlimit : u.regf 0xD04 16 16 = s.regf 0xD04 16 16 :=
    ((modTile_same _ _ _ _).regf (by simp) ..).trans ((hcount.regf (by simp) ..).trans (hend.regf (by simp) ..))
  have hroom : u.crock.mirror.faults.length < 1024 := by simp [hcrock, hf]
  have hlast : SameBut [.cores] (cleanTest core tile u) (tileTestDone core tile first second a s) :=
    tileTestDone_clean second hauto ht hk
  obtain ⟨st, n, htile⟩ := cleanTest_tile (c := core) (t := tile) hroom
  refine ⟨_, exec_tileTestDone hrun href hgap ha hfirst hsecond, ?_⟩
  dsimp only
  rw [hlast.tile (by simp), hlast.counter (by simp), hlast.calRec (by simp), hlast.crock (by simp)]
  refine ⟨?_, ?_, ?_, fun hv => ?_, fun hv hn => ?_, fun hv hn => ?_⟩
  · rw [htile, hu]
  · rw [htile, hu]
  · rw [SameBut.counter (Framed.same (frame_cleanTest core tile (fun _ h => h))) (by simp), hctr]
  · rw [cleanTest_other (by rw [hu]; exact hv), hu]
    exact ⟨rfl, hcrock⟩
  · rw [cleanTest_below (by rw [hu]; exact hv) (by rw [hu, hlimit]; exact hn), tile_modTile_same, hu]
    exact ⟨hv, rfl⟩
  · obtain ⟨hready, hrec, x, hx, -, ho, -, hc, ht, -⟩ :=
      cleanTest_reached (s := u) (c := core) (t := tile) (by rw [hu]; exact hv) (by rw [hu, hlimit]; exact hn) hroom
    exact ⟨by rw [hready], hrec, x, hx, ho, hc, ht⟩

end

/-! ## Feed-forward, self-test and arbiter -/

/-- A number held in a range of naturals is itself as a natural. -/
theorem toNat_clampI (v : Int) : ((clampI v 0x4000 0xFFFF).toNat : Int) = clampI v 0x4000 0xFFFF := by
  refine Int.toNat_of_nonneg ?_
  unfold clampI
  split
  · decide
  · split <;> omega

/-- The feed-forward moves the correction of every tile of the core with reference phases, and no other tile. -/
theorem feeds_forward (core : Fin 32) (temp : Int) (s : State) (hrun : s.coresRun = true) :
    Completes (.gainFeedforward core temp) s (fun t =>
      (∀ u, u < 33 → s.refPhases core u = true →
        let v := s.tile core u
        ((t.tile core u).gainCorr : Int) =
          clampI ((v.gammaS : Int) * (10000000 - s.kappa * (temp - v.tempS)) / 10000000) 0x4000 0xFFFF ∧
        ((t.tile core u).refDue = true ↔ v.refDue = true ∨ 20 ≤ (temp - v.tempS).natAbs)) ∧
      (∀ c u, c < 32 → u < 33 → (c ≠ core.val ∨ s.refPhases core u = false) → t.tile c u = s.tile c u) ∧
      SameBut [.tiles, .running, .waiting, .counters, .trace] s t) := by
  have hmem (u : Nat) : u ∈ (upTo 33).filter (fun t => s.refPhases core t) ↔ u < 33 ∧ s.refPhases core u = true := by
    simp [upTo]
  have htile := each_feedTile_tile core temp ((upTo 33).filter (fun t => s.refPhases core t))
    (List.nodup_range.filter _) (fun t ht => ((hmem t).mp ht).1) s
  refine ⟨_, exec_gainFeedforward core temp hrun, fun u hu href => ?_, fun c u _ hu hother => ?_, ?_⟩
  · rw [htile core u hu, if_pos ⟨rfl, (hmem u).mpr ⟨hu, href⟩⟩]
    exact ⟨toNat_clampI _, by simp [State.fed]⟩
  · rw [htile c u hu, if_neg]
    rintro ⟨hc, hin⟩
    rcases hother with h | h
    · exact h hc
    · simp [((hmem u).mp hin).2] at h
  · exact SameBut.each _ (fun t x => feedTile_same core t temp x) s

/-- A slice is counted; a test that fails is repeated, and confirmed where it fails again (R375). -/
theorem slice_judged (core : Fin 32) (failed : Option (BitVec 16)) (s : State) (hrun : s.coresRun = true)
    (hq : s.quiesced core = false) (hidle : s.coreIdle core = true) (hret : s.coreRetired core = false) (hr : s.running = [])
    (hcmd : (s.core core).testCmd = none) (hpass : ∀ e ∈ s.cores, e.1 ≠ core.val → e.2.testSlices = 0)
    (hsus : bitN (s.coreState core) 0 = false) (hf : s.crock.mirror.faults = []) :
    Completes (.coreSelftestSlice core failed false) s (fun t =>
      t.counter (coreCtr core 56) = min (s.counter (coreCtr core 56) + 1) (counterMax (coreCtr core 56)) ∧
      (failed = none → (s.core core).repeatCode = none → (t.core core).testSlices = (s.core core).testSlices + 1 ∧
        t.running = [] ∧ (∀ c, c ≠ core.val → t.core c = s.core c) ∧ SameBut [.cores, .counters, .trace] s t) ∧
      (∀ f, failed = some f → (s.core core).repeatCode = none → (t.core core).repeatCode = some f.toNat ∧
        t.running = [] ∧ t.crock = s.crock) ∧
      (∀ f, failed = some f → (s.core core).repeatCode = some f.toNat → t.coreRetired core = true ∧
        ∃ x ∈ t.crock.mirror.faults, x.kind = 10 ∧ x.unitKind = 4 ∧ x.core = core.val ∧ x.outcome = 2 ∧ x.detail = f.toNat) ∧
      (∀ r, failed = none → (s.core core).repeatCode = some r → (t.core core).repeatCode = none ∧
        ∃ x ∈ t.crock.mirror.faults, x.kind = 10 ∧ x.unitKind = 4 ∧ x.core = core.val ∧ x.outcome = 1)) := by
  have hin := inSlice_same (c := core) (s := s)
  have hend (u : State) := endAct_same (sliceAct s core) u
  have hcrock : (inSlice core s).crock = s.crock := hin.crock (by simp)
  have hrep : ((inSlice core s).core core).repeatCode = (s.core core).repeatCode := by rw [inSlice_core, if_pos rfl]
  have hruns : (inSlice core s).running = [sliceAct s core] := by rw [inSlice_running, hr, List.nil_append]
  refine ⟨_, exec_coreSelftestSlice failed hrun hq hidle hret hr hcmd hpass, ?_, ?_, ?_, ?_, ?_⟩
  · rw [(hend _).counter (by simp), CoreCountersKept.sliceJudge core failed _ _ (by unfold coreCtr; omega), inSlice_counter]
  · rintro rfl hnone
    rw [sliceJudge_clean (hrep.trans hnone) (by rw [State.coreState, hcrock]; exact hsus), endAct_running, hruns]
    refine ⟨?_, by simp, fun c hc => ?_, ?_⟩
    · rw [(hend _).core (by simp), inSlice_core, if_pos rfl]
    · rw [(hend _).core (by simp), inSlice_core, if_neg hc]
    · refine (hin.trans ((hend _).mono (by simp))).drop ?_
      change (endAct _ _).running = s.running
      rw [endAct_running, hruns, hr]
      simp
  · rintro f rfl hnone
    obtain ⟨hcode, hsame⟩ := sliceJudge_fails (c := core) (s := inSlice core s) f (hrep.trans hnone)
    refine ⟨by rw [(hend _).core (by simp), hcode], ?_, ?_⟩
    · rw [endAct_running, hsame.running (by simp), hruns]
      simp
    · exact ((hend _).crock (by simp)).trans ((hsame.crock (by simp)).trans hcrock)
  · rintro f rfl hsome
    obtain ⟨hout, hn⟩ := sliceJudge_confirms (c := core) (s := inSlice core s) f (hrep.trans hsome) (by rw [hcrock, hf])
    obtain ⟨x, hx, hk, ho, hu, hc, -, hd⟩ := hn.same (hend _) (by simp)
    exact ⟨by rw [(hend _).coreRetired (by simp), hout], x, hx, hk, hu, hc, ho, hd⟩
  · rintro r rfl hsome
    obtain ⟨hcode, hn⟩ := sliceJudge_passes (c := core) (s := inSlice core s) (hrep.trans hsome) (by rw [hcrock, hf])
    obtain ⟨x, hx, hk, ho, hu, hc, -, -⟩ := hn.same (hend _) (by simp)
    exact ⟨by rw [(hend _).core (by simp), hcode], x, hx, hk, hu, hc, ho⟩

/-- The arbiter begins, of one or two that wait, the one of the highest priority that nothing running conflicts with. -/
theorem arbiter_begins (s : State) (a b : Activity) (hserve : Serving s) (ha : a.code = 2 ∨ a.code = 4)
    (hb : b.code = 2 ∨ b.code = 4) :
    (s.waiting = [a] → s.blocked a = true → exec .maintArbiterRun s = .next s) ∧
    (s.waiting = [a] → s.blocked a = false → Completes .maintArbiterRun s (fun t => t.running = s.running ++ [a] ∧ t.waiting = [] ∧
      SameBut [.running, .waiting, .trace] s t)) ∧
    (s.waiting = [a, b] → s.blocked a = false → s.blocked b = false → a.code = 2 → b.code = 4 → Completes .maintArbiterRun s (fun t =>
      t.running = s.running ++ [b] ∧ t.waiting = [a] ∧ SameBut [.running, .waiting, .trace] s t)) := by
  refine ⟨fun hw hblocked => ?_, fun hw hfree => ?_, fun hw hafree hbfree ha2 hb4 => ?_⟩
  · rw [exec_maintArbiterRun hserve, hw, pickAct_blocked hblocked]
    rfl
  · obtain ⟨hrun, hwait, hsame⟩ := beginAny_tile (s := s) ha
    exact ⟨_, by rw [exec_maintArbiterRun hserve, hw, pickAct_free hfree]; rfl, hrun, by rw [hwait, hw]; simp, hsame⟩
  · obtain ⟨hrun, hwait, hsame⟩ := beginAny_tile (s := s) hb
    have hprio : b.prio < a.prio := by simp [Activity.prio, ha2, hb4]
    have hne : a ≠ b := fun e => by simp [e, hb4] at ha2
    exact ⟨_, by rw [exec_maintArbiterRun hserve, hw, pickAct_second hafree hbfree hprio]; rfl, hrun,
      by rw [hwait, hw]; simp [hne], hsame⟩

/-- Settles O57: each clause is what the operation it speaks of leaves, by the lemmas above; a fault that is the history's first is
one record and never a third within a day, so that only a permanent one retires its unit. -/
theorem maintenanceKeepsTilesInTrim : Obligations.MaintenanceKeepsTilesInTrim := by
  unfold Obligations.MaintenanceKeepsTilesInTrim
  refine ⟨fun core tile s hrun => ⟨?_, ?_, withholds core tile s hrun, withholds_nothing core tile s hrun, ?_⟩, feeds_forward, ?_,
    arbiter_begins⟩
  · exact fun hstate hr hw => falls_due core tile s hrun (refPhases_of_serving hstate) hr hw
  · exact fun hstate => nothing_due core tile s hrun (refPhases_of_away hstate)
  · intro hstate hgap
    have href := refPhases_of_serving hstate
    refine ⟨fun r a g ha hauto hg => ⟨?_, ?_⟩, fun r again temp a ha hauto hr hagain => ⟨?_, ?_⟩, ?_⟩
    · exact fun h1 h2 hs => sample_within hrun href hgap ha hauto hg h1 h2 hs
    · exact fun h hf => sample_beyond hrun href hgap ha hauto hg h hf
    · exact fun hclean ho hb => calibration_clean hrun href hgap temp ha hauto hr hagain hclean ho hb
    · exact fun col d hfail hpass _ hcol hf => calibration_fails hrun href hgap temp ha hauto hr hagain hfail hpass hcol hf
    · exact fun first second a ha hauto hfirst hsecond ht _ hk hf =>
        test_clean hrun href hgap ha hauto hfirst hsecond ht hk hf
  · exact fun core failed s hrun hq hidle hret hr hcmd hpass hsus hf _ =>
      slice_judged core failed s hrun hq hidle hret hr hcmd hpass hsus hf

end Sys2Proof.Machine
end

section
/-! SUPPORT. The resident parts of the cores: what a frame and a change leave of a queue, its context and its head step; the bits of
a number; a counter of a context (R191, R193). -/

namespace Sys2Proof.Safety

open Sys2Proof.Machine

/-! ## What a frame says of flows and queues -/

section
variable {L : List Piece} {s t : State}

theorem SameBut.clk (h : SameBut L s t) (hp : Piece.clk ∉ L) : t.clk = s.clk := h .clk hp

theorem SameBut.flows (h : SameBut L s t) (hp : Piece.flows ∉ L) : t.flows = s.flows := h .flows hp

theorem SameBut.ctx? (h : SameBut L s t) (hp : Piece.flows ∉ L) (n : Nat) : t.ctx? n = s.ctx? n := by
  unfold State.ctx?
  rw [h.flows hp]

theorem SameBut.run? (h : SameBut L s t) (hp : Piece.flows ∉ L) (n : Nat) : t.run? n = s.run? n := by
  unfold State.run?
  rw [h.flows hp]

theorem SameBut.queue? (h : SameBut L s t) (hp : Piece.cores ∉ L) (c q : Nat) : t.queue? c q = s.queue? c q := by
  unfold State.queue?
  rw [h.core hp]

theorem SameBut.head? (h : SameBut L s t) (hc : Piece.cores ∉ L) (hf : Piece.flows ∉ L) (c q : Nat) :
    t.head? c q = s.head? c q := by
  unfold State.head?
  simp only [h.queue? hc, h.run? hf, h.ctx? hf]

end

end Sys2Proof.Safety

namespace Sys2Proof.Machine

open Sys2Proof.Safety

/-! ## Bits of a number -/

theorem bitN_eq_testBit (v i : Nat) : bitN v i = v.testBit i := Nat.testBit_eq_decide_div_mod_eq.symm

/-- Adding 2^i where bit i is clear carries nowhere. -/
theorem testBit_add_two_pow {v i : Nat} (h : v.testBit i = false) (j : Nat) :
    (v + 2 ^ i).testBit j = (decide (j = i) || v.testBit j) := by
  rw [Nat.add_comm]
  rcases Nat.lt_trichotomy j i with hj | rfl | hj
  · simp [Nat.testBit_two_pow_add_gt hj, Nat.ne_of_lt hj]
  · simp [Nat.testBit_two_pow_add_eq, h]
  · obtain ⟨k, rfl⟩ : ∃ k, j = i + 1 + k := ⟨j - (i + 1), by omega⟩
    have heven : v / 2 ^ i % 2 = 0 := by
      rw [Nat.testBit_eq_decide_div_mod_eq, decide_eq_false_iff_not] at h
      omega
    have hhalf : (2 ^ i + v) / 2 ^ (i + 1) = v / 2 ^ (i + 1) := by
      rw [Nat.pow_succ, ← Nat.div_div_eq_div_mul, ← Nat.div_div_eq_div_mul, Nat.add_div_left v (Nat.two_pow_pos i)]
      omega
    have hne : ¬ i + 1 + k = i := by omega
    simp [Nat.testBit_eq_decide_div_mod_eq, Nat.pow_add 2 (i + 1) k, ← Nat.div_div_eq_div_mul, hhalf, hne]

theorem bitN_setBit (v i j : Nat) : bitN (setBit v i) j = (decide (j = i) || bitN v j) := by
  unfold setBit
  split
  next h =>
    by_cases hj : j = i
    · simp [hj, h]
    · simp [hj]
  next h =>
    simp only [bitN_eq_testBit] at h ⊢
    exact testBit_add_two_pow (Bool.not_eq_true _ ▸ h) j

/-! ## Counters of a core and of a context -/

theorem coreCtr_inj {c i j : Nat} : coreCtr c i = coreCtr c j ↔ i = j := by
  unfold coreCtr
  omega

/-- A context once a signal has added to V of a counter. -/
def Ctx.added (c : Ctx) (core counter inc : Nat) : Ctx :=
  c.setVb core counter ((c.vb core counter).1 + w32 inc, (c.vb core counter).2)

@[simp] theorem vb_setVb_same (c : Ctx) (core n : Nat) (v : Word × Word) : (c.setVb core n v).vb core n = v := by
  simp [Ctx.vb, Ctx.setVb]

theorem vb_added_same (c : Ctx) (core counter inc : Nat) :
    (c.added core counter inc).vb core counter = ((c.vb core counter).1 + w32 inc, (c.vb core counter).2) :=
  vb_setVb_same c core counter _

theorem ctx?_setCtx (s : State) (n m : Nat) (c : Ctx) : (s.setCtx n c).ctx? m = if m = n then some c else s.ctx? m := by
  simp [State.setCtx, State.ctx?, tget?_tset]

/-! ## Queues after a change -/

/-- Of the resident parts of s, t holds v on queue q of a core and all others as they were. -/
def QueueSet (core q : Nat) (v : Queue) (s t : State) : Prop :=
  t.queue? core q = some v ∧ ∀ c r, ¬ (c = core ∧ r = q) → t.queue? c r = s.queue? c r

theorem queueSet_setQueue (core q : Nat) (v : Queue) (s : State) : QueueSet core q v s (s.setQueue core q v) := by
  refine ⟨by simp [State.queue?, State.setQueue], fun c r hne => ?_⟩
  unfold State.queue? State.setQueue
  rw [core_modCore]
  split
  next hc => subst hc; simp [tget?_tset, show r ≠ q from fun hr => hne ⟨rfl, hr⟩]
  next => rfl

/-- What the resident parts were before is all that counts of the state before. -/
theorem QueueSet.of_queues {core q : Nat} {v : Queue} {s s' t : State} (h : QueueSet core q v s' t)
    (hq : ∀ c r, s'.queue? c r = s.queue? c r) : QueueSet core q v s t :=
  ⟨h.1, fun c r hne => (h.2 c r hne).trans (hq c r)⟩

/-- A change that leaves the cores may come after -/
theorem QueueSet.then_same {L : List Piece} {core q : Nat} {v : Queue} {s t u : State} (h : QueueSet core q v s t)
    (hs : SameBut L t u) (hp : Piece.cores ∉ L) : QueueSet core q v s u :=
  ⟨(hs.queue? hp _ _).trans h.1, fun c r hne => (hs.queue? hp c r).trans (h.2 c r hne)⟩

/-- or before. -/
theorem QueueSet.after_same {L : List Piece} {core q : Nat} {v : Queue} {s s' t : State} (h : QueueSet core q v s' t)
    (hs : SameBut L s s') (hp : Piece.cores ∉ L) : QueueSet core q v s t :=
  h.of_queues (hs.queue? hp)

theorem setQueue_same (core q : Nat) (v : Queue) (s : State) : SameBut [.cores] s (s.setQueue core q v) := modCore_same core _ s

/-! ## Head steps -/

/-- A head step is the step of a resident part, of its run and its context. -/
theorem head?_eq_some {s : State} {core q : Nat} {h : Head} : s.head? core q = some h ↔ s.queue? core q = some h.v ∧
    s.run? h.v.run = some h.run ∧ s.ctx? h.v.ctx = some h.ctx ∧ h.run.kernel.parts[h.v.part]? = some h.part ∧
    h.part.steps[h.v.step]? = some h.step := by
  obtain ⟨v, run, ctx, part, step⟩ := h
  unfold State.head?
  constructor
  · intro hh
    split at hh
    next v' hv =>
      split at hh
      next r c hr hc =>
        split at hh
        next p hp =>
          obtain ⟨x, hx, heq⟩ := Option.map_eq_some_iff.mp hh
          cases heq
          exact ⟨hv, hr, hc, hp, hx⟩
        next => cases hh
      next => cases hh
    next => cases hh
  · rintro ⟨hv, hr, hc, hp, hx⟩
    simp [hv, hr, hc, hp, hx]

theorem queue?_of_head? {s : State} {core q : Nat} {h : Head} (hh : s.head? core q = some h) : s.queue? core q = some h.v :=
  (head?_eq_some.mp hh).1

theorem ctx?_of_head? {s : State} {core q : Nat} {h : Head} (hh : s.head? core q = some h) : s.ctx? h.v.ctx = some h.ctx :=
  (head?_eq_some.mp hh).2.2.1

/-- A step of which nothing is under way is not stalled. -/
theorem Head.not_stalled_of_idle {h : Head} (hidle : h.idle = true) : h.v.stall = .none := by
  simp only [Head.idle, Bool.and_eq_true, beq_iff_eq] at hidle
  obtain ⟨⟨hstall, -⟩, -⟩ := hidle
  exact hstall

end Sys2Proof.Machine
end

section
/-! SUPPORT. What the operations that steps share leave: a step's start and end, a stall, a claim, a message and a signal (R149, R166,
R194 to R198, R208). -/

namespace Sys2Proof.Machine

open Sys2Proof.Safety

/-! ## The start and the end of a step -/

theorem traceStep_same (type core q : Nat) (h : Head) (s : State) : SameBut [.trace] s (traceStep type core q h s) :=
  traceOnly_same _ _ _ _ _ _ _ _ s

/-- A resident part at its next step. -/
def Queue.next (v : Queue) (clk : Nat) : Queue :=
  { v with step := v.step + 1, stall := .none, loop := none, readout := none, progressClk := clk, resumptions := 0 }

section
variable {core q : Nat} {h : Head} {s : State}

/-- The end of a step that is not the part's last starts the next one (R149). -/
theorem stepDone_next (hh : s.head? core q = some h) (hlast : h.v.step + 1 < h.part.steps.length) :
    stepDone core q s = (traceStep 0x111 core q h s).setQueue core q (h.v.next s.clk) := by
  unfold stepDone
  simp only [hh, if_neg (Nat.not_le.mpr hlast)]
  rfl

theorem stepDone_queue (hh : s.head? core q = some h) (hlast : h.v.step + 1 < h.part.steps.length) :
    QueueSet core q (h.v.next s.clk) s (stepDone core q s) := by
  rw [stepDone_next hh hlast]
  exact (queueSet_setQueue core q _ _).after_same (traceStep_same 0x111 core q h s) (by simp)

theorem stepDone_same (hh : s.head? core q = some h) (hlast : h.v.step + 1 < h.part.steps.length) :
    SameBut [.cores, .trace] s (stepDone core q s) := by
  rw [stepDone_next hh hlast]
  exact ((traceStep_same 0x111 core q h s).mono (by simp)).trans ((setQueue_same core q _ _).mono (by simp))

/-- The end of a step after changes that leave the cores: they may have put another context in its head. -/
theorem stepDone_after {L : List Piece} {u : State} {d : Ctx} (hh : s.head? core q = some h)
    (hlast : h.v.step + 1 < h.part.steps.length) (hsame : SameBut L s u) (hcores : Piece.cores ∉ L)
    (hclk : Piece.clk ∉ L) (hrun : u.run? h.v.run = s.run? h.v.run) (hctx : u.ctx? h.v.ctx = some d) :
    QueueSet core q (h.v.next s.clk) s (stepDone core q u) ∧ SameBut [.cores, .trace] u (stepDone core q u) := by
  obtain ⟨hq, hr, -, hp, hx⟩ := head?_eq_some.mp hh
  have hu : u.head? core q = some { h with ctx := d } :=
    head?_eq_some.mpr ⟨(hsame.queue? hcores _ _).trans hq, hrun.trans hr, hctx, hp, hx⟩
  refine ⟨?_, stepDone_same hu hlast⟩
  rw [← hsame.clk hclk]
  exact (stepDone_queue hu hlast).after_same hsame hcores

end

/-! ## A stall -/

/-- A resident part stalled at an instant. -/
def Queue.stalled (v : Queue) (x : Stall) (clk : Nat) : Queue := { v with stall := x, stallClk := clk }

section
variable {core q : Nat} {v : Queue} {s : State} (x : Stall) (hq : s.queue? core q = some v)
include hq

theorem stallQueue_eq : stallQueue core q x s = s.setQueue core q (v.stalled x s.clk) := by
  unfold stallQueue State.modQueue
  rw [hq]
  rfl

theorem stallQueue_queue : QueueSet core q (v.stalled x s.clk) s (stallQueue core q x s) := by
  rw [stallQueue_eq x hq]
  exact queueSet_setQueue core q _ s

theorem stallQueue_same : SameBut [.cores] s (stallQueue core q x s) := by
  rw [stallQueue_eq x hq]
  exact setQueue_same core q _ s

/-- Of its own core a stall changes the queues alone, and of another nothing. -/
theorem stallQueue_core (c : Nat) : (stallQueue core q x s).core c =
    if c = core then { s.core core with queues := tset (s.core core).queues q (v.stalled x s.clk) } else s.core c := by
  rw [stallQueue_eq x hq]
  exact core_modCore s core c _

end

section
variable {core q : Nat} {h : Head} {s : State}

/-- What a step leaves that changes its core but not its queues, and then stalls. -/
theorem stall_after_modCore (hh : s.head? core q = some h) (f : Core → Core) (hf : ∀ k, (f k).queues = k.queues) (x : Stall) :
    let t := stallQueue core q x ((traceStep 0x110 core q h s).modCore core f)
    QueueSet core q (h.v.stalled x s.clk) s t ∧
    (∀ c, t.core c = if c = core then
      { f (s.core core) with queues := tset (s.core core).queues q (h.v.stalled x s.clk) } else s.core c) ∧
    SameBut [.cores, .trace] s t := by
  have hstart := traceStep_same 0x110 core q h s
  generalize traceStep 0x110 core q h s = u at hstart
  have hcore (c : Nat) : (u.modCore core f).core c = if c = core then f (s.core core) else s.core c := by
    simp only [core_modCore, hstart.core (by simp)]
  have hqueues (c r : Nat) : (u.modCore core f).queue? c r = s.queue? c r := by
    unfold State.queue?
    rw [hcore]
    split
    next hc => rw [hf, hc]
    next => rfl
  have hclk : (u.modCore core f).clk = s.clk := hstart.clk (by simp)
  have hq : (u.modCore core f).queue? core q = some h.v := (hqueues _ _).trans (queue?_of_head? hh)
  refine ⟨?_, fun c => ?_, ?_⟩
  · rw [← hclk]
    exact (stallQueue_queue x hq).of_queues hqueues
  · rw [stallQueue_core x hq, hclk, hcore, if_pos rfl, hf, hcore]
    split <;> rfl
  · exact (hstart.mono (by simp)).trans (((modCore_same core f u).mono (by simp)).trans ((stallQueue_same x hq).mono (by simp)))

end

/-! ## Claims and messages -/

/-- The counter of a core has counted one more, unless it holds its maximum (R431). -/
def CountedOne (core i : Nat) (s t : State) : Prop :=
  t.counter (coreCtr core i) = min (s.counter (coreCtr core i) + 1) (counterMax (coreCtr core i))

theorem countedOne_count (core i : Nat) (s : State) : CountedOne core i s (count (coreCtr core i) 1 s) :=
  counter_count _ 1 s (by decide)

/-- A change that leaves the counter may come after -/
theorem CountedOne.then_kept {core i : Nat} {s t u : State} (h : CountedOne core i s t)
    (hk : u.counter (coreCtr core i) = t.counter (coreCtr core i)) : CountedOne core i s u :=
  hk.trans h

/-- or before. -/
theorem CountedOne.after_kept {core i : Nat} {s s' t : State} (h : CountedOne core i s' t)
    (hk : s'.counter (coreCtr core i) = s.counter (coreCtr core i)) : CountedOne core i s t := by
  unfold CountedOne
  rw [← hk]
  exact h

/-- The message of a claim or a reset with the queue's present sequence number (R165). -/
def State.claimMsg (s : State) (core q counter amount : Nat) (reset : Option Nat) : ClaimMsg :=
  { core := core, queue := q, seq := tget s.flows.node.nextSeq (queueNo core q) 0, counter := counter, amount := amount,
    reset := reset, reply := none }

section
variable (core q counter amount : Nat) (s : State)

theorem sendClaim_same (reset : Option Nat) : SameBut [.flows, .counters] s (sendClaim core q counter amount reset s) :=
  Framed.same (frame_sendClaim core q counter amount reset (fun _ h => h))

/-- A reset is one message of one flit, and nothing of the counters' node changes yet (R169). -/
theorem sendClaim_reset (v : Nat) : (sendClaim core q counter amount (some v) s).flows =
    { s.flows with claims := s.flows.claims ++ [s.claimMsg core q counter amount (some v)] } ∧
    CountedOne core 26 s (sendClaim core q counter amount (some v) s) :=
  ⟨rfl, countedOne_count core 26 (s.modFlows _)⟩

/-- A claim is one too, counted as a claim, and the queue's next one has the next sequence number (R165, R166). -/
theorem sendClaim_claim : (sendClaim core q counter amount none s).flows =
      { s.flows with
        claims := s.flows.claims ++ [s.claimMsg core q counter amount none],
        node := { s.flows.node with
          nextSeq := tset s.flows.node.nextSeq (queueNo core q) ((tget s.flows.node.nextSeq (queueNo core q) 0 + 1) % 256) } } ∧
    CountedOne core 26 s (sendClaim core q counter amount none s) ∧
    CountedOne core 34 s (sendClaim core q counter amount none s) := by
  have hne : ∀ {i j : Nat}, i ≠ j → coreCtr core i ≠ coreCtr core j := fun h e => h (coreCtr_inj.mp e)
  refine ⟨rfl, ?_, ?_⟩
  · exact (countedOne_count core 26 (s.modFlows _)).then_kept (counter_count_other _ _ 1 _ (hne (by decide)))
  · exact (countedOne_count core 34 _).after_kept (counter_count_other _ _ 1 (s.modFlows _) (hne (by decide)))

end

theorem sendLadle_same (m : LadleMsg) (flits : Nat) (s : State) : SameBut [.flows, .counters] s (sendLadle m flits s) :=
  ((modFlows_same _ s).mono (by simp)).trans ((count_same _ _ _).mono (by simp))

theorem sendLadle_flows (m : LadleMsg) (flits : Nat) (s : State) :
    (sendLadle m flits s).flows = { s.flows with ladle := s.flows.ladle ++ [m] } :=
  (count_same _ _ _).flows (by simp)

theorem sendLadle_counted (m : LadleMsg) (s : State) : CountedOne m.src 26 s (sendLadle m 1 s) :=
  countedOne_count m.src 26 (s.modFlows _)

/-- Everything a queue has sent has been written once no message, no signal of its context and no claim of it is on its way
(R198). -/
theorem allWrittenBy_iff {s : State} {core q n : Nat} : s.allWrittenBy core q n = true ↔
    (∀ m ∈ s.flows.ladle, ¬ (m.src = core ∧ m.queue = q)) ∧ (∀ x ∈ s.flows.pot, x.ctx ≠ n) ∧
    (∀ m ∈ s.flows.claims, ¬ (m.core = core ∧ m.queue = q)) := by
  simp [State.allWrittenBy, and_assoc]

/-! ## Signals -/

theorem addV_eq {s : State} {n : Nat} {c : Ctx} (hc : s.ctx? n = some c) (core counter inc : Nat) :
    addV core n counter inc s = s.setCtx n (c.added core counter inc) := by
  unfold addV State.modCtx
  rw [hc]
  rfl

theorem addV_same (core n counter inc : Nat) (s : State) : SameBut [.flows] s (addV core n counter inc s) :=
  modCtx_same n _ s

/-- Where no queue of the core is stalled a counter's new value releases none. -/
theorem releaseAll_unstalled {s : State} {core : Nat} (h : ∀ e ∈ (s.core core).queues, e.2.stall = .none) (n counter : Nat) :
    releaseAll core n counter s = s := by
  have hnone : s.waiters core n counter = [] := by
    unfold State.waiters
    rw [List.filterMap_eq_nil_iff]
    intro e he
    rw [h e he]
  unfold releaseAll
  split
  · simp [hnone]
  · rfl

/-- A signal for a resident context reaches its counter at once, and no other context, run or message (R195). -/
theorem signalAt_resident {s : State} {core n : Nat} {c : Ctx} (hres : s.residentOn core n = true)
    (hfree : ∀ e ∈ (s.core core).queues, e.2.stall = .none) (hc : s.ctx? n = some c) (counter inc : Nat) :
    let t := signalAt core n counter inc s
    (∀ m, t.ctx? m = if m = n then some (c.added core counter inc) else s.ctx? m) ∧ t.flows.runs = s.flows.runs ∧
    t.flows.ladle = s.flows.ladle ∧ CountedOne core 36 s t ∧ SameBut [.flows, .counters] s t := by
  have hcount := count_same (coreCtr core 36) 1 (addV core n counter inc s)
  have hsame : SameBut [.flows, .counters] s (count (coreCtr core 36) 1 (addV core n counter inc s)) :=
    ((addV_same core n counter inc s).mono (by simp)).trans (hcount.mono (by simp))
  unfold signalAt
  rw [if_pos hres, releaseAll_unstalled (by rw [hsame.core (by simp)]; exact hfree)]
  refine ⟨fun m => ?_, ?_, ?_, ?_, hsame⟩
  · rw [hcount.ctx? (by simp), addV_eq hc, ctx?_setCtx]
  · rw [hcount.flows (by simp), addV_eq hc]; rfl
  · rw [hcount.flows (by simp), addV_eq hc]; rfl
  · exact (countedOne_count core 36 _).after_kept ((addV_same core n counter inc s).counter (by simp) _)

end Sys2Proof.Machine
end

section
/-! SUPPORT. The head steps of a queue (R161, R166, R169, R172, R191, R194 to R200): what each row answers where its step
may start, and what it leaves. -/

namespace Sys2Proof.Machine

open Sys2Proof.Safety

section
variable {core : Fin 32} {q : Fin 4} {s : State} {h : Head}
  (hh : s.head? core q = some h) (hup : s.coreUp core = true) (hidle : h.idle = true)
include hh hup hidle

/-! ## What the rows answer -/

theorem exec_layer {l : Layer} (hs : h.step = .layer l) : exec (.layer core q) s = .next (
    let s1 := (traceStep 0x110 core q h s).setQueue core q
      { h.v with loop := some (Loop.start l (!h.ctx.carries l h.v.part h.v.step)) }
    if l.useWork then sendClaim core q l.workCounter l.claimSize none s1 else s1) := by
  change execLayer core q s = _
  simp only [execLayer, hh, hs, hup, hidle, Bool.and_self, ifDue_true]

theorem exec_signal {dst counter inc : Nat} (hs : h.step = .signal dst counter inc) : exec (.signal core q) s = .next (
    let s1 := traceStep 0x110 core q h s
    if dst = core.val then stepDone core q (signalAt dst h.v.ctx counter inc s1)
    else stepDone core q (sendLadle { src := core, dst := dst, queue := q, body := .signal h.v.ctx counter inc } 1 s1)) := by
  change execSignal core q s = _
  simp only [execSignal, hh, hs, hup, hidle, Bool.and_self, ifDue_true]

theorem exec_wait {counter value : Nat} {relative shared : Bool} (hs : h.step = .wait counter relative shared value) :
    exec (.wait core q) s = .next (
      let x := h.ctx.vb core counter
      let e := if relative then x.2 + w32 value else w32 value
      let s1 := count (coreCtr core 38) 1 (traceStep 0x110 core q h s)
      if satisfied x.1 e then stepDone core q s1
      else traceOnly 0x120 3 h.ctx.part (unitCore core) (h.part.counterOn q counter) e.toNat x.1.toNat (q + 256 * b2n shared)
        (stallQueue core q (.wait counter e.toNat shared) s1)) := by
  change execWait core q s = _
  simp only [execWait, hh, hs, hup, hidle, Bool.and_self, ifDue_true]

theorem exec_workReset {counter value : Nat} (hs : h.step = .workReset counter value) : exec (.workReset core q) s = .next (
    stallQueue core q .work (sendClaim core q counter 0 (some value) (traceStep 0x110 core q h s))) := by
  change execWorkReset core q s = _
  simp only [execWorkReset, hh, hs, hup, hidle, Bool.and_self, ifDue_true]

theorem exec_lidArrive {line mask : Nat} (hs : h.step = .lid line mask) : exec (.lidArrive core q) s =
    ifDue (s.allWrittenBy core q h.v.ctx) (fun s => stallQueue core q (.lid line true)
      ((traceStep 0x110 core q h s).modCore core (fun k => { k with arrivals := setBit k.arrivals line }))) s := by
  change execLidArrive core q s = _
  simp only [execLidArrive, hh, hs, hup, hidle, Bool.true_and]

theorem exec_fence (hs : h.step = .fence) : exec (.fence core q) s = .next (
    stallQueue core q (.fence (s.core core).fenceNext)
      ((traceStep 0x110 core q h s).modCore core (fun k => { k with fenceNext := (s.core core).fenceNext + 1 }))) := by
  change execFence core q s = _
  simp only [execFence, hh, hs, hup, hidle, Bool.and_self, ifDue_true]

/-! ## LAYER -/

/-- A LAYER of its own items begins its batch loop over them all (R161). -/
theorem layer_begins {l : Layer} (hs : h.step = .layer l) (hw : l.useWork = false) : Completes (.layer core q) s (fun t =>
    (∃ x, QueueSet core q { h.v with loop := some x } s t ∧ x.items = upTo l.batch ∧ x.issued = 0 ∧ x.codes = []) ∧
    SameBut [.cores, .trace] s t) := by
  have hstart := traceStep_same 0x110 core q h s
  refine ⟨_, exec_layer hh hup hidle hs, ?_⟩
  simp only [hw, Bool.false_eq_true, if_false]
  refine ⟨⟨_, (queueSet_setQueue _ _ _ _).after_same hstart (by simp), by simp [Loop.start, hw], rfl, rfl⟩, ?_⟩
  exact (hstart.mono (by simp)).trans ((setQueue_same _ _ _ _).mono (by simp))

/-- One that shares its items claims the first of them (R166). -/
theorem layer_claims {l : Layer} (hs : h.step = .layer l) (hw : l.useWork = true) : Completes (.layer core q) s (fun t =>
    (∃ x, QueueSet core q { h.v with loop := some x } s t ∧ x.items = [] ∧ x.claiming = true) ∧
    t.flows.claims = s.flows.claims ++ [s.claimMsg core q l.workCounter l.claimSize none] ∧ t.flows.ctxs = s.flows.ctxs ∧
    t.flows.node.nextSeq = tset s.flows.node.nextSeq (queueNo core q)
      ((tget s.flows.node.nextSeq (queueNo core q) 0 + 1) % 256) ∧
    CountedOne core 26 s t ∧ CountedOne core 34 s t ∧ SameBut [.cores, .flows, .counters, .trace] s t) := by
  have hstart := traceStep_same 0x110 core q h s
  refine ⟨_, exec_layer hh hup hidle hs, ?_⟩
  simp only [hw, if_true]
  generalize hx : Loop.start l (!h.ctx.carries l h.v.part h.v.step) = x
  have hbegun : SameBut [.cores, .trace] s ((traceStep 0x110 core q h s).setQueue core q { h.v with loop := some x }) :=
    (hstart.mono (by simp)).trans ((setQueue_same _ _ _ _).mono (by simp))
  have hqueue := (queueSet_setQueue core q { h.v with loop := some x } _).after_same hstart (by simp)
  generalize (traceStep 0x110 core q h s).setQueue core q { h.v with loop := some x } = u at hbegun hqueue
  have hsent := sendClaim_same core q l.workCounter l.claimSize u none
  obtain ⟨hflows, h26, h34⟩ := sendClaim_claim core q l.workCounter l.claimSize u
  have hf : u.flows = s.flows := hbegun.flows (by simp)
  have hcount (i : Nat) := hbegun.counter (by simp) (coreCtr core i)
  refine ⟨⟨x, hqueue.then_same hsent (by simp), by simp [← hx, Loop.start, hw], by simp [← hx, Loop.start, hw]⟩, ?_, ?_, ?_,
    h26.after_kept (hcount 26), h34.after_kept (hcount 34), (hbegun.mono (by simp)).trans (hsent.mono (by simp))⟩
  · rw [hflows, State.claimMsg, hf]; rfl
  · rw [hflows, hf]
  · rw [hflows, hf]

/-! ## WORK_RESET -/

/-- A WORK_RESET asks the counter node and stalls until it is acknowledged (R169). -/
theorem workReset_stalls {counter value : Nat} (hs : h.step = .workReset counter value) : Completes (.workReset core q) s (fun t =>
    QueueSet core q (h.v.stalled .work s.clk) s t ∧ CountedOne core 26 s t ∧
    t.flows = { s.flows with claims := s.flows.claims ++ [s.claimMsg core q counter 0 (some value)] } ∧
    SameBut [.cores, .flows, .counters, .trace] s t) := by
  have hstart := traceStep_same 0x110 core q h s
  refine ⟨_, exec_workReset hh hup hidle hs, ?_⟩
  generalize traceStep 0x110 core q h s = u at hstart
  have hf : u.flows = s.flows := hstart.flows (by simp)
  have hsent := sendClaim_same core q counter 0 u (some value)
  have hsofar : SameBut [.flows, .counters, .trace] s (sendClaim core q counter 0 (some value) u) :=
    (hstart.mono (by simp)).trans (hsent.mono (by simp))
  obtain ⟨hflows, h26⟩ := sendClaim_reset core q counter 0 u value
  generalize sendClaim core q counter 0 (some value) u = w at hsofar hflows h26
  have hq : w.queue? core q = some h.v := (hsofar.queue? (by simp) _ _).trans (queue?_of_head? hh)
  have hstall := stallQueue_same .work hq
  refine ⟨?_, ?_, ?_, (hsofar.mono (by simp)).trans (hstall.mono (by simp))⟩
  · rw [← hsofar.clk (by simp)]
    exact (stallQueue_queue .work hq).after_same hsofar (by simp)
  · exact (h26.after_kept (hstart.counter (by simp) _)).then_kept (hstall.counter (by simp) _)
  · rw [hstall.flows (by simp), hflows, State.claimMsg, hf]; rfl

/-! ## LID_ARRIVE and FENCE -/

/-- A LID_ARRIVE waits while anything its queue sent is on its way (R198). -/
theorem lidArrive_waits {line mask : Nat} (hs : h.step = .lid line mask)
    (hsent : (∃ m ∈ s.flows.ladle, m.src = core.val ∧ m.queue = q.val) ∨ (∃ x ∈ s.flows.pot, x.ctx = h.v.ctx) ∨
      (∃ m ∈ s.flows.claims, m.core = core.val ∧ m.queue = q.val)) : exec (.lidArrive core q) s = .next s := by
  have hnot : s.allWrittenBy core q h.v.ctx = false := by
    rw [← Bool.not_eq_true, allWrittenBy_iff]
    rintro ⟨hladle, hpot, hclaims⟩
    rcases hsent with ⟨m, hm, hmine⟩ | ⟨x, hx, hmine⟩ | ⟨m, hm, hmine⟩
    · exact hladle m hm hmine
    · exact hpot x hx hmine
    · exact hclaims m hm hmine
  rw [exec_lidArrive hh hup hidle hs, hnot, ifDue_false]

/-- After that it asserts its core's arrival and stalls until the edge (R200). -/
theorem lidArrive_arrives {line mask : Nat} (hs : h.step = .lid line mask)
    (hladle : ∀ m ∈ s.flows.ladle, ¬ (m.src = core.val ∧ m.queue = q.val)) (hpot : ∀ x ∈ s.flows.pot, x.ctx ≠ h.v.ctx)
    (hclaims : ∀ m ∈ s.flows.claims, ¬ (m.core = core.val ∧ m.queue = q.val)) : Completes (.lidArrive core q) s (fun t =>
    QueueSet core q (h.v.stalled (.lid line true) s.clk) s t ∧ bitN (t.core core).arrivals line = true ∧
    (∀ j, j ≠ line → bitN (t.core core).arrivals j = bitN (s.core core).arrivals j) ∧
    (∀ c, c ≠ core.val → t.core c = s.core c) ∧ SameBut [.cores, .trace] s t) := by
  have hdue : s.allWrittenBy core q h.v.ctx = true := allWrittenBy_iff.mpr ⟨hladle, hpot, hclaims⟩
  obtain ⟨hqueue, hcore, hsame⟩ :=
    stall_after_modCore hh (fun k => { k with arrivals := setBit k.arrivals line }) (fun _ => rfl) (.lid line true)
  refine ⟨_, by rw [exec_lidArrive hh hup hidle hs, hdue, ifDue_true], hqueue, ?_, fun j hj => ?_, fun c hc => ?_, hsame⟩
  · rw [hcore, if_pos rfl]
    simp [bitN_setBit]
  · rw [hcore, if_pos rfl]
    simp [bitN_setBit, hj]
  · rw [hcore, if_neg hc]

/-- A FENCE takes the core's next fence number and stalls until it is acknowledged (R172). -/
theorem fence_stalls (hs : h.step = .fence) : Completes (.fence core q) s (fun t =>
    QueueSet core q (h.v.stalled (.fence (s.core core).fenceNext) s.clk) s t ∧
    (t.core core).fenceNext = (s.core core).fenceNext + 1 ∧ SameBut [.cores, .trace] s t) := by
  obtain ⟨hqueue, hcore, hsame⟩ :=
    stall_after_modCore hh (fun k => { k with fenceNext := (s.core core).fenceNext + 1 }) (fun _ => rfl)
      (.fence (s.core core).fenceNext)
  exact ⟨_, exec_fence hh hup hidle hs, hqueue, by rw [hcore, if_pos rfl], hsame⟩

/-! ## SIGNAL and WAIT -/

variable (hlast : h.v.step + 1 < h.part.steps.length)
include hlast

/-- A SIGNAL to another core leaves on the Ladle (R194, R198). -/
theorem signal_leaves {dst counter inc : Nat} (hs : h.step = .signal dst counter inc) (hd : dst ≠ core.val) :
    Completes (.signal core q) s (fun t => QueueSet core q (h.v.next s.clk) s t ∧ CountedOne core 26 s t ∧
      t.flows = { s.flows with ladle := s.flows.ladle ++
        [{ src := core, dst := dst, queue := q, body := .signal h.v.ctx counter inc }] } ∧
      SameBut [.cores, .flows, .counters, .trace] s t) := by
  have hstart := traceStep_same 0x110 core q h s
  refine ⟨_, exec_signal hh hup hidle hs, ?_⟩
  simp only [if_neg hd]
  generalize traceStep 0x110 core q h s = u at hstart
  let m : LadleMsg := { src := core, dst := dst, queue := q, body := .signal h.v.ctx counter inc }
  have hsofar : SameBut [.flows, .counters, .trace] s (sendLadle m 1 u) :=
    (hstart.mono (by simp)).trans ((sendLadle_same m 1 u).mono (by simp))
  have hflows : (sendLadle m 1 u).flows = { s.flows with ladle := s.flows.ladle ++ [m] } := by
    rw [sendLadle_flows, hstart.flows (by simp)]
  have h26 : CountedOne core 26 s (sendLadle m 1 u) := (sendLadle_counted m u).after_kept (hstart.counter (by simp) _)
  obtain ⟨hqueue, hdone⟩ := stepDone_after hh hlast hsofar (by simp) (by simp) (by rw [State.run?, hflows]; rfl)
    (by rw [State.ctx?, hflows]; exact ctx?_of_head? hh)
  exact ⟨hqueue, h26.then_kept (hdone.counter (by simp) _), (hdone.flows (by simp)).trans hflows,
    (hsofar.mono (by simp)).trans (hdone.mono (by simp))⟩

/-- A SIGNAL to its own core adds to the counter at once (R195, R198). -/
theorem signal_adds {dst counter inc : Nat} (hs : h.step = .signal dst counter inc) (hd : dst = core.val)
    (hqs : (s.core core).queues = [(q.val, h.v)]) :
    Completes (.signal core q) s (fun t => QueueSet core q (h.v.next s.clk) s t ∧ CountedOne core 36 s t ∧
      (∃ d, t.ctx? h.v.ctx = some d ∧ d.vb core counter = ((h.ctx.vb core counter).1 + w32 inc, (h.ctx.vb core counter).2)) ∧
      (∀ n, n ≠ h.v.ctx → t.ctx? n = s.ctx? n) ∧ t.flows.ladle = s.flows.ladle ∧
      SameBut [.cores, .flows, .counters, .trace] s t) := by
  subst hd
  have hstart := traceStep_same 0x110 core q h s
  refine ⟨_, exec_signal hh hup hidle hs, ?_⟩
  simp only [if_true]
  generalize traceStep 0x110 core q h s = u at hstart
  have huqs : (u.core core).queues = [(q.val, h.v)] := by rw [hstart.core (by simp), hqs]
  obtain ⟨hctxs, hruns, hladle, h36, hsignal⟩ := signalAt_resident (s := u) (core := core) (n := h.v.ctx)
    (by simp [State.residentOn, huqs]) (by simp [huqs, Head.not_stalled_of_idle hidle])
    ((hstart.ctx? (by simp) _).trans (ctx?_of_head? hh)) counter inc
  generalize signalAt core h.v.ctx counter inc u = w at hctxs hruns hladle h36 hsignal
  have hsofar : SameBut [.flows, .counters, .trace] s w := (hstart.mono (by simp)).trans (hsignal.mono (by simp))
  have hflows : u.flows = s.flows := hstart.flows (by simp)
  obtain ⟨hqueue, hdone⟩ := stepDone_after hh hlast hsofar (by simp) (by simp)
    (by rw [State.run?, hruns, hflows]; rfl) ((hctxs _).trans (if_pos rfl))
  refine ⟨hqueue, (h36.after_kept (hstart.counter (by simp) _)).then_kept (hdone.counter (by simp) _),
    ⟨_, ?_, vb_added_same h.ctx core counter inc⟩, fun n hn => ?_, ?_, (hsofar.mono (by simp)).trans (hdone.mono (by simp))⟩
  · rw [hdone.ctx? (by simp), hctxs, if_pos rfl]
  · rw [hdone.ctx? (by simp), hctxs, if_neg hn, hstart.ctx? (by simp)]
  · rw [hdone.flows (by simp), hladle, hflows]

/-- A WAIT goes on where its comparison is satisfied and stalls with its E where not (R191, R194). -/
theorem wait_compares {counter value : Nat} {relative shared : Bool} (hs : h.step = .wait counter relative shared value) :
    let x := h.ctx.vb core counter
    let e := if relative then x.2 + w32 value else w32 value
    Completes (.wait core q) s (fun t => CountedOne core 38 s t ∧
      ((x.1 - e).toNat < 2 ^ 31 → QueueSet core q (h.v.next s.clk) s t) ∧
      (¬ (x.1 - e).toNat < 2 ^ 31 → QueueSet core q (h.v.stalled (.wait counter e.toNat shared) s.clk) s t) ∧
      SameBut [.cores, .counters, .trace] s t) := by
  intro x e
  have hstart := traceStep_same 0x110 core q h s
  refine ⟨_, exec_wait hh hup hidle hs, ?_⟩
  have h38 : CountedOne core 38 s (count (coreCtr core 38) 1 (traceStep 0x110 core q h s)) :=
    (countedOne_count core 38 _).after_kept (hstart.counter (by simp) _)
  have hsofar : SameBut [.counters, .trace] s (count (coreCtr core 38) 1 (traceStep 0x110 core q h s)) :=
    (hstart.mono (by simp)).trans ((count_same _ _ _).mono (by simp))
  generalize count (coreCtr core 38) 1 (traceStep 0x110 core q h s) = u at h38 hsofar
  by_cases hge : (x.1 - e).toNat < 2 ^ 31
  · have hsat : satisfied x.1 e = true := decide_eq_true hge
    simp only [x, e] at hsat
    simp only [hsat, if_true]
    obtain ⟨hqueue, hdone⟩ := stepDone_after hh hlast hsofar (by simp) (by simp) (hsofar.run? (by simp) _)
      ((hsofar.ctx? (by simp) _).trans (ctx?_of_head? hh))
    exact ⟨h38.then_kept (hdone.counter (by simp) _), fun _ => hqueue, fun hlt => absurd hge hlt,
      (hsofar.mono (by simp)).trans (hdone.mono (by simp))⟩
  · have hsat : satisfied x.1 e = false := decide_eq_false hge
    simp only [x, e] at hsat
    simp only [hsat, Bool.false_eq_true, if_false]
    have huq : u.queue? core q = some h.v := (hsofar.queue? (by simp) _ _).trans (queue?_of_head? hh)
    have hstall := stallQueue_same (.wait counter e.toNat shared) huq
    have hqueue := (stallQueue_queue (.wait counter e.toNat shared) huq).after_same hsofar (by simp)
    rw [hsofar.clk (by simp)] at hqueue
    have htold := traceOnly_same 0x120 3 h.ctx.part (unitCore core) (h.part.counterOn q counter) e.toNat x.1.toNat
      (q + 256 * b2n shared) (stallQueue core q (.wait counter e.toNat shared) u)
    exact ⟨(h38.then_kept (hstall.counter (by simp) _)).then_kept (htold.counter (by simp) _), fun hlt => absurd hlt hge,
      fun _ => hqueue.then_same htold (by simp), (hsofar.mono (by simp)).trans ((hstall.mono (by simp)).trans (htold.mono (by simp)))⟩

end

/-- Settles O52: each clause is what its row leaves, by the lemmas above. -/
theorem stepsOfAQueueRun : Obligations.StepsOfAQueueRun := by
  unfold Obligations.StepsOfAQueueRun
  intro core q s h hh hup hidle hlast
  refine ⟨?_, ?_, ?_, ?_, ?_, ?_, ?_⟩
  · exact fun l hs hw => layer_begins hh hup hidle hs hw
  · exact fun l hs hw => layer_claims hh hup hidle hs hw
  · exact fun dst counter inc hs => ⟨signal_leaves hh hup hidle hlast hs, signal_adds hh hup hidle hlast hs⟩
  · exact fun counter relative shared value hs => wait_compares hh hup hidle hlast hs
  · exact fun counter value hs => workReset_stalls hh hup hidle hs
  · exact fun line mask hs => ⟨lidArrive_waits hh hup hidle hs, lidArrive_arrives hh hup hidle hs⟩
  · exact fun hs => fence_stalls hh hup hidle hs

end Sys2Proof.Machine
end

section
/-! SUPPORT. The read of TB_TICK_LO (R236): what its row answers, the counter it captures, and what it leaves. -/

namespace Sys2Proof.Machine

open Sys2Proof.Safety

/-- What a read of TB_TICK_LO does: the upper half of the counter goes to TB_TICK_HI, the lower half to the reader. -/
def captureTick (s : State) : State :=
  (s.modTb (fun t => { t with tickHi := w32 (t.tick / 2 ^ 32) })).emit (.busRead 0 (s.tb.tick % 2 ^ 32))

/-! ## What the row answers -/

/-- The register page serves the physical function, function 0. -/
theorem exec_tbTickLoRead_pf {s : State} (h : Serving s) : exec (.tbTickLoRead 0) s = .next (captureTick s) := by
  have hdue : (s.served && (0 : Fin 32).val == 0) = true := by rw [h]; rfl
  change ifDue (s.served && (0 : Fin 32).val == 0) captureTick s = _
  rw [hdue, ifDue_true]

theorem exec_tbTickLoRead_other {fn : Fin 32} (hfn : fn.val ≠ 0) (s : State) : exec (.tbTickLoRead fn) s = .next s := by
  have hdue : (s.served && fn.val == 0) = false := by rw [beq_false_of_ne hfn, Bool.and_false]
  change ifDue (s.served && fn.val == 0) captureTick s = _
  rw [hdue, ifDue_false]

/-! ## What the capture leaves -/

theorem captureTick_host (s : State) :
    (captureTick s).host = { s.host with out := s.host.out ++ [.busRead 0 (s.tb.tick % 2 ^ 32)] } := rfl

theorem captureTick_tb (s : State) : (captureTick s).tb = { s.tb with tickHi := (captureTick s).tb.tickHi } := rfl

theorem captureTick_same (s : State) : SameBut [.host, .tb] s (captureTick s) :=
  ((modTb_same _ s).mono (by simp)).trans ((emit_same _ _).mono (by simp))

/-- The upper half of a 64-bit counter loses no bit in TB_TICK_HI. -/
theorem captureTick_tickHi {s : State} (h : s.tb.tick < 2 ^ 64) : (captureTick s).tb.tickHi.toNat = s.tb.tick / 2 ^ 32 := by
  have hfits : s.tb.tick / 2 ^ 32 < 2 ^ 32 := by omega
  exact (BitVec.toNat_ofNat _ _).trans (Nat.mod_eq_of_lt hfits)

/-- Settles O23: the physical function's read is the capture, whose two halves are quotient and remainder of the counter by 2³²;
another function's read is not due. -/
theorem tickLoReadCapturesTheWholeCounter : Obligations.TickLoReadCapturesTheWholeCounter := by
  unfold Obligations.TickLoReadCapturesTheWholeCounter
  refine ⟨fun s hserving htick => ?_, fun _ s hfn => exec_tbTickLoRead_other hfn s⟩
  have hlo : s.tb.tick % 2 ^ 32 < 2 ^ 32 := Nat.mod_lt _ (by decide)
  have hwhole : 2 ^ 32 * (captureTick s).tb.tickHi.toNat + s.tb.tick % 2 ^ 32 = s.tb.tick := by
    rw [captureTick_tickHi htick, Nat.div_add_mod]
  exact ⟨captureTick s, exec_tbTickLoRead_pf hserving, s.tb.tick % 2 ^ 32, captureTick_host s, hlo, hwhole, captureTick_tb s,
    captureTick_same s⟩

end Sys2Proof.Machine
end

section
/-! SUPPORT. NET_STATUS (R345): the words of its reply in every state, that a reply tells its payload, and a state whose port has a
LINK number that the two bits of LINK do not hold. -/

namespace Sys2Proof.Machine

open Sys2Proof.Safety

/-! ## What NET_STATUS answers -/

/-- The words NET_STATUS replies from w4 on. -/
def netStatusWords (h : Hdr) (w : List Word) (s : State) : List Word :=
  let v := s.port (pf w 0 0 1)
  [w32 (v.link + 4 * bits (v.w 0) 0 2 + 16 * b2n s.net.ptpLocked), w32 (min v.fecCorr 0xFFFFFFFF), w32 (min v.fecUncorr 0xFFFFFFFF),
    w32 (field 32 s.net.ptpOffset), w32 (s.downMask h.partition.toNat 0), w32 (s.downMask h.partition.toNat 32)]

/-- Taking the command moves nothing that its reply reports. -/
theorem netStatusWords_entered (op : Nat) (h : Hdr) (w : List Word) (s : State) :
    netStatusWords h w (entered op h w s) = netStatusWords h w s := by
  obtain ⟨x, hx⟩ := entered_eq op h w s
  rw [hx]
  rfl

theorem entered_same (op : Nat) (h : Hdr) (w : List Word) (s : State) : SameBut [.pre, .trace] s (entered op h w s) :=
  ((traceOnly_same _ _ _ _ _ _ _ _ s).mono (by simp)).trans ((modPre_same (fun _ => (entered op h w s).pre) _).mono (by simp))

/-- A taken command that ends at once leaves its reply and no other effect. -/
theorem replied_finish_entered {op : Nat} {h : Hdr} {w : List Word} {s : State} (ht : TakenAtOnce op h w s) (st : Nat)
    (payload : List Word) : Replied h op st payload s (finish (taken op h w s).id st payload (entered op h w s)) := by
  obtain ⟨_, hentered⟩ := entered_eq op h w s
  have ⟨_, _, hring, _⟩ := ht
  have hsame := entered_same op h w s
  have hpre : (entered op h w s).pre = { s.pre with cmds := s.pre.cmds ++ [taken op h w s], nextCmd := s.pre.nextCmd + 1 } := by
    rw [hentered]
  exact replied_of_finish ht hpre rfl hring (hsame .tb (by simp)) (hsame .host (by simp)) (hsame.mono (by simp)) rfl

/-- NET_STATUS answers at once (R345). -/
theorem completes_netStatus {h : Hdr} {w : List Word} {s : State} (ht : TakenAtOnce 0xB02 h w s) :
    Completes (.netStatus h w) s (Replied h 0xB02 stOk (netStatusWords h w s) s) := by
  refine ⟨_, submit_taken ht, ?_⟩
  rw [← netStatusWords_entered 0xB02 h w s]
  exact replied_finish_entered ht stOk _

/-! ## A reply tells its payload -/

/-- What the reply ring holds once a command has been replied to. -/
theorem replied_held {op st : Nat} {h : Hdr} {payload : List Word} {u t : State} (hr : Replied h op st payload u t) :
    (t.lane h.fn.val h.queue.toNat).held = (u.lane h.fn.val h.queue.toNat).held ++ [replyOf h op st payload u] := by
  obtain ⟨hhost, -, -⟩ := hr
  unfold State.lane
  rw [hhost]
  simp [State.modLane, State.lane]

theorem replied_payload_unique {op st : Nat} {h : Hdr} {p q : List Word} {u t : State} (hp : Replied h op st p u t)
    (hq : Replied h op st q u t) : p = q := by
  have hheld := (replied_held hp).symm.trans (replied_held hq)
  have hreply : replyOf h op st p u = replyOf h op st q u := by simpa using hheld
  have hwords : replyWords h op st p u = replyWords h op st q u := congrArg Reply.words hreply
  exact congrArg (List.drop 4) hwords

/-! ## A LINK number of five bits -/

/-- A ready machine at level 2, its lane 0 and reply ring 0 enabled, whose port 0 has LINK number 16 and whose PTP servo is not
locked. -/
def wideLink : State :=
  { State.reset with
    power := { Power.start with startup := .none, ready := true }
    host := { HostSide.start with configServed := true, level := [(0, 2)],
                                  lanes := [(0, { Lane.start with enable := true, replyEnable := true })] }
    net := { Net.start with ports := [(0, { Port.start with link := 16 })] } }

/-- The header of a NET_STATUS that the physical function issues at level 2 for partition 0. -/
def statusHdr : Hdr :=
  { fn := 0, lane := 0, level := 2, fence := false, irq := false, tag := 7, partition := 0, queue := 0, atTick := 0 }

theorem takenAtOnce_wideLink : TakenAtOnce 0xB02 statusHdr [0] wideLink := by
  unfold TakenAtOnce
  and_intros <;> decide +kernel

/-- The number 16 of LINK stands in the reply as bit 4, the place of PTP_LOCKED. -/
theorem netStatusWords_wideLink : ((netStatusWords statusHdr [0] wideLink).getD 0 0).getLsbD 4 = true := by decide +kernel

/-- Refutes O44: NET_STATUS adds the port's LINK number below PTP_LOCKED in its first word, and the statement gives bit 4 as PTP_LOCKED
in every state, without the premise link < 4 of the LINK clause beside it. With LINK number 16, which no row of the table sets, bit 4 is
1 while the servo is not locked. -/
theorem not_queriesAndLevelsAnswerAtOnce : ¬ Obligations.QueriesAndLevelsAnswerAtOnce := by
  unfold Obligations.QueriesAndLevelsAnswerAtOnce
  intro hall
  obtain ⟨-, -, -, hstatus, -⟩ := hall statusHdr [0] wideLink
  obtain ⟨t, hexec, a, b, c, d, e, g, hreplied, -, -, hlocked, -, -⟩ := hstatus takenAtOnce_wideLink
  obtain ⟨t', hexec', hreplied'⟩ := completes_netStatus takenAtOnce_wideLink
  have hsame : t' = t := Host.Outcome.next.inj (hexec'.symm.trans hexec)
  subst hsame
  have hwords := replied_payload_unique hreplied' hreplied
  have hset : a.getLsbD 4 = true := by
    have hbit := netStatusWords_wideLink
    rwa [hwords] at hbit
  have hclear : a.getLsbD 4 = false := hlocked
  exact absurd (hset.symm.trans hclear) (by decide)

end Sys2Proof.Machine
end

section
/-! SUPPORT. A command that is a packet is its submission to its lane; every group but some, as a frame. -/

namespace Sys2Proof.Machine

open Sys2Proof.Safety

/-- A row of the opcode map submits its packet to its lane. -/
theorem exec_packet {i : Instr} {op : Nat} {h : Hdr} {w : List Word} (s : State) (hp : packetOf i = some (op, h, w)) :
    exec i s = submit op h w s := by
  cases i <;> cases hp <;> rfl

/-- The packet that a lane takes next leaves all but the host side. -/
theorem nextPacket_same {fn k : Nat} {s s1 : State} {ws : List Word} (h : nextPacket fn k s = some (ws, s1)) :
    SameBut [.host] s s1 := by
  unfold nextPacket at h
  extract_lets l at h
  split at h
  · split at h
    · cases h
      split
      · exact (modLane_same _ _ _ s).trans (modHost_same (fun x => { x with mem := _ }) _)
      · exact modLane_same _ _ _ s
    · cases h
  · split at h
    · cases h
      exact modLane_same _ _ _ s
    · cases h

theorem Framed.refl (L : List Piece) (s : State) : Framed L s s := ⟨SameBut.refl L s⟩

end Sys2Proof.Machine
end

section
/-! PROOF. A revoked key slot stays revoked (R411, R415): the few operations that touch the fuses only add revocations, all others
leave the security group alone. -/

namespace Sys2Proof.Safety

open Sys2Proof.Machine

/-- Every group but the security group. -/
def unfused : List Piece :=
  [.pending, .clk, .draw, .power, .crock, .host, .pre, .tiles, .cores, .flows, .ingest, .tb, .funnels, .running, .waiting, .net,
    .probe, .trace, .counters, .mgmt, .pkg]

/-- A list of groups without the security group is among them. -/
theorem mem_unfused {M : List Piece} (h : Frame.within M unfused = true) : ∀ p, p ∈ M → p ∈ unfused :=
  frame_sub h (fun _ hp => hp)

variable {k : Nat} {s t : State}

/-- Where the key slots stand, so do their revocations. -/
theorem KeyRevoked.of_slots (hs : KeyRevoked k s) (h : t.sec.keySlots = s.sec.keySlots) : KeyRevoked k t := by
  unfold KeyRevoked
  rw [h]
  exact hs

/-- A function whose frame leaves out the security group keeps every revocation. -/
theorem KeyRevoked.kept {M : List Piece} {f : State → State} (hs : KeyRevoked k s)
    (frame : ∀ {L : List Piece} {u v : State}, (∀ p, p ∈ M → p ∈ L) → Framed L u v → Framed L u (f v))
    (hM : Frame.within M unfused = true) : KeyRevoked k (f s) :=
  hs.of_slots (congrArg Security.keySlots ((frame (mem_unfused hM) (Framed.refl _ s)).it .sec (by decide)))

/-- So does an answer with such a frame. -/
theorem KeyRevoked.answer {M : List Piece} {f : State → Answer} (hs : KeyRevoked k s)
    (frame : ∀ {L : List Piece} {u v : State}, (∀ p, p ∈ M → p ∈ L) → Framed L u v → FramedAnswer L u (f v))
    (hM : Frame.within M unfused = true) (e : f s = .next t) : KeyRevoked k t :=
  hs.of_slots (congrArg Security.keySlots (((frame (mem_unfused hM) (Framed.refl _ s)).it t e).it .sec (by decide)))

/-- An event keeps a revocation where its effect does. -/
theorem KeyRevoked.ifDue {b : Bool} {f : State → State} (hs : KeyRevoked k s) (hf : KeyRevoked k (f s))
    (e : ifDue b f s = .next t) : KeyRevoked k t := by
  cases b <;> cases e
  · exact hs
  · exact hf

end Sys2Proof.Safety

namespace Sys2Proof.Machine

open Sys2Proof.Safety

variable {k : Nat} {s t : State}

/-! ## What touches the fuses or the slots of firmware -/

/-- Fuses are set, never cleared: a revoked slot is among the slots after FW_COMMIT's fuses, and revoked. -/
theorem keyRevoked_fuseCommit (hs : KeyRevoked k s) : KeyRevoked k (fuseCommit s) := by
  unfold fuseCommit
  extract_lets f up s1 s2 rev s3
  have h2 : KeyRevoked k s2 := by
    have h1 : KeyRevoked k s1 := hs
    simp only [s2]
    split
    · exact h1
    · exact h1.kept (frame_raiseDev _ _) rfl
  have h3 : KeyRevoked k s3 := by
    obtain ⟨v, hv, hr⟩ := h2
    simp only [KeyRevoked, s3, State.modSec_sec, List.getElem?_map, List.getElem?_zipIdx, hv, Option.map_some, Option.some.injEq,
      exists_eq_left']
    split <;> split <;> simp [hr]
  split
  · exact h3
  · exact h3.kept (frame_raiseDev _ _) rfl

theorem keyRevoked_restart (standby : Bool) (hs : KeyRevoked k s) : KeyRevoked k (restart standby s) :=
  hs.of_slots (by cases standby <;> rfl)

theorem keyRevoked_tryPending (hs : KeyRevoked k s) : KeyRevoked k (tryPending s) := hs.of_slots rfl

theorem keyRevoked_startupReady (hs : KeyRevoked k s) : KeyRevoked k (startupReady s) := by
  unfold startupReady
  extract_lets s0 s1 evs s2 h p s3 s4 s5 s6
  have h1 : KeyRevoked k s1 := KeyRevoked.kept (KeyRevoked.kept (hs.of_slots (t := s0) rfl) frame_bootTiles rfl) frame_bootCores rfl
  have h5 : KeyRevoked k s5 := keyRevoked_fuseCommit (h1.of_slots (t := s4) rfl)
  have h6 : KeyRevoked k s6 := by
    simp only [s6]
    split
    · exact h5.kept (frame_raiseDev _ _) rfl
    · split
      · exact h5.kept (frame_raiseDev _ _) rfl
      · exact h5
  exact each_keeps (KeyRevoked k) evs (fun e u hu => hu.kept (frame_raiseDev noUnit e) rfl) h6

theorem keyRevoked_putSpare (f : FwSlot) (staged : Bool) (hs : KeyRevoked k s) : KeyRevoked k (putSpare f staged s) := by
  refine hs.of_slots ?_
  simp only [putSpare, State.modSec_sec]
  split <;> rfl

/-! ## The commands of firmware -/

theorem keyRevoked_performFwStage (c : Cmd) (hs : KeyRevoked k s) : KeyRevoked k (performFwStage c s) := by
  unfold performFwStage
  extract_lets n b
  split
  · exact hs.kept (frame_finish _ _ _) rfl
  · split
    · exact (keyRevoked_putSpare _ _ hs).kept (frame_finish _ _ _) rfl
    · exact (keyRevoked_putSpare _ _ hs).kept (frame_finish _ _ _) rfl

theorem keyRevoked_performFwActivate (c : Cmd) (hs : KeyRevoked k s) : KeyRevoked k (performFwActivate c s) := by
  unfold performFwActivate
  split
  · exact KeyRevoked.kept (hs.of_slots rfl) (frame_finish _ _ _) rfl
  · exact hs.kept (frame_finish _ _ _) rfl

/-- Of the commands of the opcode map only the two of firmware touch the security group. -/
theorem keyRevoked_performAny (c : Cmd) (hs : KeyRevoked k s) : KeyRevoked k (performAny c s) := by
  unfold performAny
  split
  · exact hs.kept (frame_performNop c) rfl
  · exact hs.kept (frame_performGetCaps c) rfl
  · exact hs.kept (frame_performSetLevel c) rfl
  · exact hs.kept (frame_performCommit c) rfl
  · exact hs.kept (frame_performCmdCancel c) rfl
  · exact hs.kept (frame_performStageDiscard c) rfl
  · exact hs.kept (frame_performModelLoad c) rfl
  · exact hs.kept (frame_performTileProgram c) rfl
  · exact hs.kept (frame_performTileVerify c) rfl
  · exact hs.kept (frame_performModelCommit c) rfl
  · exact hs.kept (frame_performModelRetire c) rfl
  · exact hs.kept (frame_performTileConfig c) rfl
  · exact hs.kept (frame_performFlowOpen c) rfl
  · exact hs.kept (frame_performFlowBind c) rfl
  · exact hs.kept (frame_performFlowClose c) rfl
  · exact hs.kept (frame_performFlowSnapshot c) rfl
  · exact hs.kept (frame_performKrnSubmit c) rfl
  · exact hs.kept (frame_performKrnDefine c) rfl
  · exact hs.kept (frame_performKrnRelease c) rfl
  · exact hs.kept (frame_performSyncRead c) rfl
  · exact hs.kept (frame_performSyncSet c) rfl
  · exact hs.kept (frame_performTrigPulse c) rfl
  · exact hs.kept (frame_performRuleSet c) rfl
  · exact hs.kept (frame_performRuleClear c) rfl
  · exact hs.kept (frame_performTickRead c) rfl
  · exact hs.kept (frame_performIgChanSet c) rfl
  · exact hs.kept (frame_performIgDecSet c) rfl
  · exact hs.kept (frame_performIgCoefLoad c) rfl
  · exact hs.kept (frame_performMaintStart c) rfl
  · exact hs.kept (frame_performSelftest c) rfl
  · exact hs.kept (frame_performRecal c) rfl
  · exact hs.kept (frame_performHkSeq c) rfl
  · exact hs.kept (frame_performHkCalZero c) rfl
  · exact hs.kept (frame_performHkCalFull c) rfl
  · exact hs.kept (frame_performAttest c) rfl
  · exact keyRevoked_performFwStage c hs
  · exact keyRevoked_performFwActivate c hs
  · exact hs.kept (frame_performFaultRead c) rfl
  · exact hs.kept (frame_performFaultExport c) rfl
  · exact hs.kept (frame_performUnitRetire c) rfl
  · exact hs.kept (frame_performUnitRestore c) rfl
  · exact hs.kept (frame_performNetPortSet c) rfl
  · exact hs.kept (frame_performNetPeerSet c) rfl
  · exact hs.kept (frame_performNetStatus c) rfl
  · exact hs

/-! ## A command that is begun -/

section
variable {go : Perform} (hgo : ∀ c u, KeyRevoked k u → KeyRevoked k (go c u))
include hgo

theorem keyRevoked_startCmd (c : Cmd) (hs : KeyRevoked k s) : KeyRevoked k (startCmd go c s) := by
  unfold startCmd
  extract_lets wakes
  split
  · exact hs.kept (frame_setWait _ _) rfl
  · split
    · exact hs.kept (frame_finish _ _ _) rfl
    · split
      · exact hs.kept (frame_wake _) rfl
      · exact hgo c _ (hs.kept (frame_setWait _ _) rfl)

theorem keyRevoked_proceed (c : Cmd) (hs : KeyRevoked k s) : KeyRevoked k (proceed go c s) := by
  unfold proceed
  split
  · extract_lets n
    split
    · exact hs.kept (frame_finish _ _ _) rfl
    · exact hs.kept (frame_setWait _ _) rfl
  · exact keyRevoked_startCmd hgo c hs

theorem keyRevoked_take (h : Hdr) (op : Nat) (w : List Word) (lenOk resOk : Bool) (hs : KeyRevoked k s) :
    KeyRevoked k (take go h op w lenOk resOk s) := by
  unfold take
  split
  · exact hs.kept (frame_noRing h) rfl
  · extract_lets s1
    have h1 : KeyRevoked k s1 := hs.kept (frame_traceOnly _ _ _ _ _ _ _ _) rfl
    split
    · exact h1.kept (frame_answer _ _ _ _) rfl
    · have h2 (f : Preoft → Preoft) : KeyRevoked k (s1.modPre f) := h1.of_slots rfl
      split
      · exact KeyRevoked.kept ((h2 _).kept (frame_State_modLane _ _ _) rfl) (frame_setWait _ _) rfl
      · exact keyRevoked_proceed hgo _ (h2 _)

theorem keyRevoked_unpark (hs : KeyRevoked k s) : KeyRevoked k (unpark go s) :=
  each_keeps (KeyRevoked k) _ (fun c _ hu => keyRevoked_startCmd hgo c hu) hs

theorem keyRevoked_packetTake (fn : Fin 32) (lane : Fin 16) (hs : KeyRevoked k s) : KeyRevoked k (packetTake go fn lane s) := by
  unfold packetTake
  split
  next ws s1 hn =>
    exact keyRevoked_take hgo _ _ _ _ _ (hs.of_slots (congrArg Security.keySlots (nextPacket_same hn .sec (by decide))))
  · exact hs

end

/-! ## The rows that touch the security group -/

theorem keyRevoked_submit (op : Nat) (h : Hdr) (w : List Word) (hs : KeyRevoked k s) (e : submit op h w s = .next t) :
    KeyRevoked k t := by
  obtain ⟨-, rfl⟩ := checked_next e
  split
  · exact keyRevoked_take (fun c _ => keyRevoked_performAny c) h op w true true hs
  · exact hs

theorem keyRevoked_execColdPowerOn (hs : KeyRevoked k s) (e : execColdPowerOn s = .next t) : KeyRevoked k t := by
  cases e
  refine keyRevoked_tryPending (KeyRevoked.kept ?_ frame_recoverCrock rfl)
  exact (keyRevoked_restart false (hs.of_slots rfl)).of_slots rfl

theorem keyRevoked_execResetNAssert (hs : KeyRevoked k s) (e : execResetNAssert s = .next t) : KeyRevoked k t := by
  unfold execResetNAssert at e
  extract_lets standby at e
  refine hs.ifDue ?_ e
  have h1 : KeyRevoked k (restart standby (foldAges s).foldTick) :=
    keyRevoked_restart _ (KeyRevoked.kept (hs.kept frame_foldAges rfl) frame_State_foldTick rfl)
  split
  · exact each_keeps (KeyRevoked k) _ (fun p _ hu => hu.kept (frame_dropFunnelRegs p) rfl) (h1.of_slots rfl)
  · exact h1.of_slots rfl

theorem keyRevoked_execResetNRelease (hs : KeyRevoked k s) (e : execResetNRelease s = .next t) : KeyRevoked k t := by
  unfold execResetNRelease at e
  refine hs.ifDue ?_ e
  exact keyRevoked_tryPending (hs.of_slots rfl)

theorem keyRevoked_execStartupReady (hs : KeyRevoked k s) (e : execStartupReady s = .next t) : KeyRevoked k t :=
  hs.ifDue (keyRevoked_startupReady hs) e

theorem keyRevoked_execFwFallback (notReached : Bool) (hs : KeyRevoked k s) (e : execFwFallback notReached s = .next t) :
    KeyRevoked k t := by
  unfold execFwFallback at e
  split at e
  · exact hs.ifDue (hs.of_slots rfl) e
  · cases e; exact hs

theorem keyRevoked_execRefclkRestored (hs : KeyRevoked k s) (e : execRefclkRestored s = .next t) : KeyRevoked k t := by
  refine hs.ifDue ?_ e
  unfold refclkRestored
  extract_lets retain s1 s2
  have h2 : KeyRevoked k s2 := hs.of_slots rfl
  exact keyRevoked_unpark (fun c _ => keyRevoked_performAny c) ((h2.kept (frame_renewAll false) rfl).kept (frame_raiseDev _ _) rfl)

theorem keyRevoked_execPacketTake (fn : Fin 32) (lane : Fin 16) (hs : KeyRevoked k s) (e : execPacketTake fn lane s = .next t) :
    KeyRevoked k t :=
  hs.ifDue (keyRevoked_packetTake (fun c _ => keyRevoked_performAny c) fn lane hs) e

theorem keyRevoked_execAtTickDue (hs : KeyRevoked k s) (e : execAtTickDue s = .next t) : KeyRevoked k t := by
  refine hs.ifDue ?_ e
  have h1 : KeyRevoked k (each (upTo 8) (applyDue 4) s) :=
    each_keeps (KeyRevoked k) _ (fun p _ hu => hu.kept (frame_applyDue 4 p) rfl) hs
  extract_lets s1
  split
  · exact keyRevoked_startCmd (fun c _ => keyRevoked_performAny c) _ h1
  · exact h1

theorem keyRevoked_execFenceRelease (fn : Fin 32) (lane : Fin 16) (hs : KeyRevoked k s)
    (e : execFenceRelease fn lane s = .next t) : KeyRevoked k t := by
  unfold execFenceRelease at e
  split at e
  · refine hs.ifDue ?_ e
    extract_lets s1
    have h1 : KeyRevoked k s1 := hs.of_slots rfl
    split
    · exact keyRevoked_proceed (fun c _ => keyRevoked_performAny c) _ h1
    · exact h1
  · cases e; exact hs

/-- A change of the power state. -/
theorem keyRevoked_changeState (n : Nat) (hs : KeyRevoked k s) : KeyRevoked k (changeState n s) := by
  unfold changeState
  extract_lets old s1 s2
  have h1 : KeyRevoked k s1 := KeyRevoked.kept (hs.of_slots rfl) (frame_raiseDev _ _) rfl
  have h2 : KeyRevoked k s2 := by
    simp only [s2]
    split
    · exact h1.kept frame_leaveRetain rfl
    · split
      · exact h1.kept frame_enterRetain rfl
      · split
        · exact h1.kept frame_enterStandby rfl
        · exact h1
  split
  · exact keyRevoked_unpark (fun c _ => keyRevoked_performAny c) (h2.kept frame_holdDue rfl)
  · exact h2

theorem keyRevoked_execPowerState (hs : KeyRevoked k s) (e : execPowerState s = .next t) : KeyRevoked k t := by
  unfold execPowerState at e
  split at e
  · exact hs.ifDue (keyRevoked_changeState _ hs) e
  · cases e; exact hs

/-! ## Every command -/

/-- A revoked key slot stays revoked through every command. -/
theorem keyRevoked_exec (c : Instr) (hs : KeyRevoked k s) (e : exec c s = .next t) : KeyRevoked k t := by
  cases c with
  | coldPowerOn => exact keyRevoked_execColdPowerOn hs e
  | resetNAssert => exact keyRevoked_execResetNAssert hs e
  | resetNRelease => exact keyRevoked_execResetNRelease hs e
  | startupReady => exact keyRevoked_execStartupReady hs e
  | fwFallback readyNotReached => exact keyRevoked_execFwFallback _ hs e
  | pwrFailNAssert => exact hs.answer frame_execPwrFailNAssert rfl e
  | crockSaveDone => exact hs.answer frame_execCrockSaveDone rfl e
  | pciePerstNAssert => exact hs.answer frame_execPciePerstNAssert rfl e
  | flrVf vf => exact hs.answer (frame_execFlrVf vf) rfl e
  | flrPf => exact hs.answer frame_execFlrPf rfl e
  | refclkLost => exact hs.answer frame_execRefclkLost rfl e
  | refclkRestored => exact keyRevoked_execRefclkRestored hs e
  | powerMeasure tenMilliwatt => exact hs.answer (frame_execPowerMeasure tenMilliwatt) rfl e
  | fastLimiter tenMilliwatt => exact hs.answer (frame_execFastLimiter tenMilliwatt) rfl e
  | thermalSample tj => exact hs.answer (frame_execThermalSample tj) rfl e
  | powerTargetActive fn => exact hs.answer (frame_execPowerTargetActive fn) rfl e
  | powerTargetIdle fn => exact hs.answer (frame_execPowerTargetIdle fn) rfl e
  | powerTargetArrayRetain fn => exact hs.answer (frame_execPowerTargetArrayRetain fn) rfl e
  | powerTargetStandby fn => exact hs.answer (frame_execPowerTargetStandby fn) rfl e
  | coreQuiesce fn core => exact hs.answer (frame_execCoreQuiesce fn core) rfl e
  | coreUnquiesce fn core => exact hs.answer (frame_execCoreUnquiesce fn core) rfl e
  | tbArm fn => exact hs.answer (frame_execTbArm fn) rfl e
  | tbStop fn => exact hs.answer (frame_execTbStop fn) rfl e
  | sysrefEdge marginal => exact hs.answer (frame_execSysrefEdge marginal) rfl e
  | tbTickLoRead fn => exact hs.answer (frame_execTbTickLoRead fn) rfl e
  | trigInEdge pin rising short ps => exact hs.answer (frame_execTrigInEdge pin rising short ps) rfl e
  | trigOutAssert pin => exact hs.answer (frame_execTrigOutAssert pin) rfl e
  | tickPtpCapture => exact hs.answer frame_execTickPtpCapture rfl e
  | laneSyncLock lane => exact hs.answer (frame_execLaneSyncLock lane) rfl e
  | laneLockLoss lane => exact hs.answer (frame_execLaneLockLoss lane) rfl e
  | sampleArrival link k0 crcBad frames => exact hs.answer (frame_execSampleArrival link k0 crcBad frames) rfl e
  | linkDownDrop flow => exact hs.answer (frame_execLinkDownDrop flow) rfl e
  | pushWindowWrite fn offset data => exact hs.answer (frame_execPushWindowWrite fn offset data) rfl e
  | pullRingPoll fn lane => exact hs.answer (frame_execPullRingPoll fn lane) rfl e
  | packetTake fn lane => exact keyRevoked_execPacketTake _ _ hs e
  | atTickDue => exact keyRevoked_execAtTickDue hs e
  | fenceRelease fn lane => exact keyRevoked_execFenceRelease _ _ hs e
  | replyWrite fn ring => exact hs.answer (frame_execReplyWrite fn ring) rfl e
  | msixHoldoffEnd fn vector => exact hs.answer (frame_execMsixHoldoffEnd fn vector) rfl e
  | laneEnable fn lane => exact hs.answer (frame_execLaneEnable fn lane) rfl e
  | laneDisable fn lane => exact hs.answer (frame_execLaneDisable fn lane) rfl e
  | replyEnable fn ring => exact hs.answer (frame_execReplyEnable fn ring) rfl e
  | ptReplyRead fn ring value => exact hs.answer (frame_execPtReplyRead fn ring value) rfl e
  | registerWrite fn offset wide value => exact hs.answer (frame_execRegisterWrite fn offset wide value) rfl e
  | nop h w => exact keyRevoked_submit _ h w hs e
  | getCaps h w => exact keyRevoked_submit _ h w hs e
  | setLevel h w => exact keyRevoked_submit _ h w hs e
  | commit h w => exact keyRevoked_submit _ h w hs e
  | commitTick part => exact hs.answer (frame_execCommitTick part) rfl e
  | cmdCancel h w => exact keyRevoked_submit _ h w hs e
  | stageDiscard h w => exact keyRevoked_submit _ h w hs e
  | modelLoad h w => exact keyRevoked_submit _ h w hs e
  | tileProgram h w => exact keyRevoked_submit _ h w hs e
  | tileVerify h w => exact keyRevoked_submit _ h w hs e
  | modelCommit h w => exact keyRevoked_submit _ h w hs e
  | modelRetire h w => exact keyRevoked_submit _ h w hs e
  | tileConfig h w => exact keyRevoked_submit _ h w hs e
  | flowOpen h w => exact keyRevoked_submit _ h w hs e
  | flowBind h w => exact keyRevoked_submit _ h w hs e
  | flowClose h w => exact keyRevoked_submit _ h w hs e
  | flowClosed flow => exact hs.answer (frame_execFlowClosed flow) rfl e
  | flowSnapshot h w => exact keyRevoked_submit _ h w hs e
  | krnSubmit h w => exact keyRevoked_submit _ h w hs e
  | krnDefine h w => exact keyRevoked_submit _ h w hs e
  | krnRelease h w => exact keyRevoked_submit _ h w hs e
  | syncRead h w => exact keyRevoked_submit _ h w hs e
  | syncSet h w => exact keyRevoked_submit _ h w hs e
  | trigPulse h w => exact keyRevoked_submit _ h w hs e
  | ruleSet h w => exact keyRevoked_submit _ h w hs e
  | ruleClear h w => exact keyRevoked_submit _ h w hs e
  | tickRead h w => exact keyRevoked_submit _ h w hs e
  | igChanSet h w => exact keyRevoked_submit _ h w hs e
  | igDecSet h w => exact keyRevoked_submit _ h w hs e
  | igCoefLoad h w => exact keyRevoked_submit _ h w hs e
  | maintStart h w => exact keyRevoked_submit _ h w hs e
  | selftest h w => exact keyRevoked_submit _ h w hs e
  | recal h w => exact keyRevoked_submit _ h w hs e
  | hkSeq h w => exact keyRevoked_submit _ h w hs e
  | hkCalZero h w => exact keyRevoked_submit _ h w hs e
  | hkCalFull h w => exact keyRevoked_submit _ h w hs e
  | attest h w => exact keyRevoked_submit _ h w hs e
  | fwStage h w => exact keyRevoked_submit _ h w hs e
  | fwActivate h w => exact keyRevoked_submit _ h w hs e
  | faultRead h w => exact keyRevoked_submit _ h w hs e
  | faultExport h w => exact keyRevoked_submit _ h w hs e
  | unitRetire h w => exact keyRevoked_submit _ h w hs e
  | unitRestore h w => exact keyRevoked_submit _ h w hs e
  | netPortSet h w => exact keyRevoked_submit _ h w hs e
  | netPeerSet h w => exact keyRevoked_submit _ h w hs e
  | netStatus h w => exact keyRevoked_submit _ h w hs e
  | slicerCycle part => exact hs.answer (frame_execSlicerCycle part) rfl e
  | overloadClear part => exact hs.answer (frame_execOverloadClear part) rfl e
  | flowEntryWatchdog part line => exact hs.answer (frame_execFlowEntryWatchdog part line) rfl e
  | layer core queue => exact hs.answer (frame_execLayer core queue) rfl e
  | signal core queue => exact hs.answer (frame_execSignal core queue) rfl e
  | wait core queue => exact hs.answer (frame_execWait core queue) rfl e
  | lidArrive core queue => exact hs.answer (frame_execLidArrive core queue) rfl e
  | fence core queue => exact hs.answer (frame_execFence core queue) rfl e
  | workReset core queue => exact hs.answer (frame_execWorkReset core queue) rfl e
  | signalArrival src dst fate => exact hs.answer (frame_execSignalArrival src dst fate) rfl e
  | stockpotSignalApply core => exact hs.answer (frame_execStockpotSignalApply core) rfl e
  | lidEdge line => exact hs.answer (frame_execLidEdge line) rfl e
  | fenceAck core queue => exact hs.answer (frame_execFenceAck core queue) rfl e
  | workClaim core queue => exact hs.answer (frame_execWorkClaim core queue) rfl e
  | workClaimReply core queue => exact hs.answer (frame_execWorkClaimReply core queue) rfl e
  | queueWatchdog core queue => exact hs.answer (frame_execQueueWatchdog core queue) rfl e
  | scoopCodes core queue => exact hs.answer (frame_execScoopCodes core queue) rfl e
  | tileOpAdmit core queue => exact hs.answer (frame_execTileOpAdmit core queue) rfl e
  | phaseStart core tile => exact hs.answer (frame_execPhaseStart core tile) rfl e
  | phaseLatch core tile deviation => exact hs.answer (frame_execPhaseLatch core tile deviation) rfl e
  | tongsDone core first second => exact hs.answer (frame_execTongsDone core first second) rfl e
  | skilletStep core queue => exact hs.answer (frame_execSkilletStep core queue) rfl e
  | psumArrival src dst fate => exact hs.answer (frame_execPsumArrival src dst fate) rfl e
  | activationArrival src dst fate => exact hs.answer (frame_execActivationArrival src dst fate) rfl e
  | sieveBatchEnd core tile block => exact hs.answer (frame_execSieveBatchEnd core tile block) rfl e
  | blockScan core tile readings => exact hs.answer (frame_execBlockScan core tile readings) rfl e
  | checksDone part => exact hs.answer (frame_execChecksDone part) rfl e
  | funnelReserve part => exact hs.answer (frame_execFunnelReserve part) rfl e
  | funnelDmaBurst part => exact hs.answer (frame_execFunnelDmaBurst part) rfl e
  | ptFnRead fn part value => exact hs.answer (frame_execPtFnRead fn part value) rfl e
  | ptFnPio fn part first bytes => exact hs.answer (frame_execPtFnPio fn part first bytes) rfl e
  | refSampleDue core tile => exact hs.answer (frame_execRefSampleDue core tile) rfl e
  | refSampleDone core tile r => exact hs.answer (frame_execRefSampleDone core tile r) rfl e
  | gainFeedforward core temp => exact hs.answer (frame_execGainFeedforward core temp) rfl e
  | calWithhold core tile => exact hs.answer (frame_execCalWithhold core tile) rfl e
  | convCalDue core tile => exact hs.answer (frame_execConvCalDue core tile) rfl e
  | convCalDone core tile r again temp => exact hs.answer (frame_execConvCalDone core tile r again temp) rfl e
  | tileTestDue core tile => exact hs.answer (frame_execTileTestDue core tile) rfl e
  | tileTestDone core tile first second => exact hs.answer (frame_execTileTestDone core tile first second) rfl e
  | coreSelftestSlice core failed last => exact hs.answer (frame_execCoreSelftestSlice core failed last) rfl e
  | maintArbiterRun => exact hs.answer frame_execMaintArbiterRun rfl e
  | programmingStart core tile => exact hs.answer (frame_execProgrammingStart core tile) rfl e
  | programmingDone core tile unverified known cal r => exact hs.answer (frame_execProgrammingDone core tile unverified known cal r) rfl e
  | modelEraseStart core tile => exact hs.answer (frame_execModelEraseStart core tile) rfl e
  | tileEraseDone core tile => exact hs.answer (frame_execTileEraseDone core tile) rfl e
  | patrolScrub line corrected => exact hs.answer (frame_execPatrolScrub line corrected) rfl e
  | memUncorrectable line bothCopies => exact hs.answer (frame_execMemUncorrectable line bothCopies) rfl e
  | stockpotUncorr line => exact hs.answer (frame_execStockpotUncorr line) rfl e
  | portLinkUp port => exact hs.answer (frame_execPortLinkUp port) rfl e
  | helloTimer => exact hs.answer frame_execHelloTimer rfl e
  | hello m levels highest fw format serial => exact hs.answer (frame_execHello m levels highest fw format serial) rfl e
  | record m payload => exact hs.answer (frame_execRecord m payload) rfl e
  | ack m => exact hs.answer (frame_execAck m) rfl e
  | ringCredit m offset => exact hs.answer (frame_execRingCredit m offset) rfl e
  | traceRead m offset count => exact hs.answer (frame_execTraceRead m offset count) rfl e
  | recordResend part peer => exact hs.answer (frame_execRecordResend part peer) rfl e
  | arpRequest port target => exact hs.answer (frame_execArpRequest port target) rfl e
  | neighbourSolicitation port target => exact hs.answer (frame_execNeighbourSolicitation port target) rfl e
  | netRxDrop port => exact hs.answer (frame_execNetRxDrop port) rfl e
  | ptpSync port domain twoStep offset => exact hs.answer (frame_execPtpSync port domain twoStep offset) rfl e
  | ptpSyncTimeout => exact hs.answer frame_execPtpSyncTimeout rfl e
  | roceAck part peer psn => exact hs.answer (frame_execRoceAck part peer psn) rfl e
  | roceNak part peer psn remoteAccess => exact hs.answer (frame_execRoceNak part peer psn remoteAccess) rfl e
  | roceCnp part peer => exact hs.answer (frame_execRoceCnp part peer) rfl e
  | roceTimeout part peer => exact hs.answer (frame_execRoceTimeout part peer) rfl e
  | roceRateRecover part peer => exact hs.answer (frame_execRoceRateRecover part peer) rfl e
  | probeConversion level16 => exact hs.answer (frame_execProbeConversion level16) rfl e
  | hkAlertClear fn value => exact hs.answer (frame_execHkAlertClear fn value) rfl e
  | tracePinSend => exact hs.answer frame_execTracePinSend rfl e
  | smbReadDevice => exact hs.answer frame_execSmbReadDevice rfl e
  | smbReadStatus => exact hs.answer frame_execSmbReadStatus rfl e
  | smbReadTjNow => exact hs.answer frame_execSmbReadTjNow rfl e
  | smbReadTjPeak => exact hs.answer frame_execSmbReadTjPeak rfl e
  | smbReadPkgPower => exact hs.answer frame_execSmbReadPkgPower rfl e
  | smbReadStepping => exact hs.answer frame_execSmbReadStepping rfl e
  | smbReadPartSerial => exact hs.answer frame_execSmbReadPartSerial rfl e
  | smbReadFwVersion => exact hs.answer frame_execSmbReadFwVersion rfl e
  | smbReadHkEntry entry => exact hs.answer (frame_execSmbReadHkEntry entry) rfl e
  | smbReadHkAlert => exact hs.answer frame_execSmbReadHkAlert rfl e
  | smbusTimeout => exact hs.answer frame_execSmbusTimeout rfl e
  | bypass => exact hs.answer frame_execBypass rfl e
  | idcode => exact hs.answer frame_execIdcode rfl e
  | samplePreload chain => exact hs.answer (frame_execSamplePreload chain) rfl e
  | extest => exact hs.answer frame_execExtest rfl e
  | clamp => exact hs.answer frame_execClamp rfl e
  | highz => exact hs.answer frame_execHighz rfl e
  | vddAonFall => exact hs.answer frame_execVddAonFall rfl e
  | pwrFailNDeassert => exact hs.answer frame_execPwrFailNDeassert rfl e
  | pciePerstNRelease => exact hs.answer frame_execPciePerstNRelease rfl e
  | portLinkDown port => exact hs.answer (frame_execPortLinkDown port) rfl e
  | coreSram core queue array address => exact hs.answer (frame_execCoreSram core queue array address) rfl e
  | mirrorUncorrectable => exact hs.answer frame_execMirrorUncorrectable rfl e
  | powerState => exact keyRevoked_execPowerState hs e
  | vfEnable count => exact hs.answer (frame_execVfEnable count) rfl e
  | busMasterEnable fn on => exact hs.answer (frame_execBusMasterEnable fn on) rfl e
  | announce port domain rank master => exact hs.answer (frame_execAnnounce port domain rank master) rfl e
  | followUp port domain offset => exact hs.answer (frame_execFollowUp port domain offset) rfl e
  | delayResp port domain delay => exact hs.answer (frame_execDelayResp port domain delay) rfl e
  | pfc port prio quanta => exact hs.answer (frame_execPfc port prio quanta) rfl e

/-- Settles O7: a revoked key slot stays revoked through every step. -/
theorem revokedKeysStayRevoked : Obligations.RevokedKeysStayRevoked := by
  intro k s t hs e
  unfold step at e
  split at e
  next c rest hp => exact keyRevoked_exec c (hs.of_slots (t := { s with pending := rest }) rfl) e
  next =>
    cases e
    exact hs.kept frame_idlePeriod rfl

end Sys2Proof.Machine
end

section
/-! SUPPORT. Host memory keeps its canonical form under every function that answers a machine: `form_<function>`. A function whose
frame leaves out the host side keeps it by that frame; of the others only a few write to host memory, all through hostWrite. -/

namespace Sys2Proof.Machine

open Sys2Proof.Safety

/-! ## The shapes of functions -/

/-- Every group but the host side. -/
def unhosted : List Piece :=
  [.pending, .clk, .draw, .power, .crock, .sec, .pre, .tiles, .cores, .flows, .ingest, .tb, .funnels, .running, .waiting, .net,
    .probe, .trace, .counters, .mgmt, .pkg]

variable {s t : State}

/-- The same memory has the same form. -/
theorem form_of_mem (h : t.host.mem = s.host.mem) (hs : HostMemoryForm s) : HostMemoryForm t := by
  unfold HostMemoryForm
  rw [h]
  exact hs

/-- A function whose frame leaves out the host side keeps the form. -/
theorem form_kept {M : List Piece} (frame : ∀ {L : List Piece} {u : State}, (∀ p, p ∈ M → p ∈ L) → Framed L u s → Framed L u t)
    (hM : Frame.within M unhosted = true) (hs : HostMemoryForm s) : HostMemoryForm t :=
  form_of_mem (congrArg HostSide.mem ((frame (frame_sub hM (fun _ hp => hp)) (Framed.refl unhosted s)).it .host (by decide))) hs

/-- So does the machine of an optional answer with such a frame. -/
theorem form_some {M : List Piece} {a : Option State} (e : a = some t)
    (frame : ∀ {L : List Piece} {u : State}, (∀ p, p ∈ M → p ∈ L) → Framed L u s → FramedOption L u a)
    (hM : Frame.within M unhosted = true) (hs : HostMemoryForm s) : HostMemoryForm t :=
  form_kept (fun hL hu => (frame hL hu).it t e) hM hs

/-- A machine built anew with the memory of v. -/
theorem form_mk {v : State} {p c d pw cr se ho pr ti co fl ing tb fu ru wa ne pb tr ct mg pk} (h : ho.mem = v.host.mem)
    (hv : HostMemoryForm v) :
    HostMemoryForm (State.mk p c d pw cr se ho pr ti co fl ing tb fu ru wa ne pb tr ct mg pk) := form_of_mem h hv

theorem form_each {α : Type} {f : α → State → State} (l : List α) (hf : ∀ x u, HostMemoryForm u → HostMemoryForm (f x u))
    (hs : HostMemoryForm s) : HostMemoryForm (each l f s) := each_keeps HostMemoryForm l hf hs

theorem form_foldl {α : Type} {f : State → α → State} (l : List α) (hf : ∀ u x, HostMemoryForm u → HostMemoryForm (f u x))
    (hs : HostMemoryForm s) : HostMemoryForm (l.foldl f s) := by
  induction l generalizing s with
  | nil => exact hs
  | cons x r ih => exact ih (hf s x hs)

/-- Every next state of an answer has the form. -/
def Forms (a : Answer) : Prop := ∀ t, a = .next t → HostMemoryForm t

theorem forms_next (hs : HostMemoryForm s) : Forms (.next s) := by
  intro t e
  cases e
  exact hs

theorem forms_fault (x : Fault) : Forms (.fault x) := by
  intro t e
  cases e

theorem forms_ifDue {b : Bool} {f : State → State} (hs : HostMemoryForm s) (hf : HostMemoryForm (f s)) : Forms (ifDue b f s) := by
  cases b
  · exact forms_next hs
  · exact forms_next hf

theorem forms_checked {b : Bool} {f : State → State} (hf : HostMemoryForm (f s)) : Forms (checked b f s) := by
  cases b
  · exact forms_fault _
  · exact forms_next hf

/-- An answer whose frame leaves out the host side. -/
theorem forms_kept {M : List Piece} {a : Answer} (hs : HostMemoryForm s)
    (frame : ∀ {L : List Piece} {u : State}, (∀ p, p ∈ M → p ∈ L) → Framed L u s → FramedAnswer L u a)
    (hM : Frame.within M unhosted = true) : Forms a :=
  fun t e => form_kept (fun hL hu => (frame hL hu).it t e) hM hs

/-! ## The updates of the host side -/

theorem form_State_modLane (fn k : Nat) (f : Lane → Lane) (hs : HostMemoryForm s) : HostMemoryForm (s.modLane fn k f) := hs

theorem form_State_modHost {f : HostSide → HostSide} (hf : (f s.host).mem = s.host.mem) (hs : HostMemoryForm s) :
    HostMemoryForm (s.modHost f) := form_of_mem hf hs

theorem form_State_emit (o : Out) (hs : HostMemoryForm s) : HostMemoryForm (s.emit o) := hs

theorem form_State_hostWrite (a : Nat) (b : Bytes) (hs : HostMemoryForm s) : HostMemoryForm (s.hostWrite a b) :=
  Memory.wf_writeBytes a b hs

/-! ## Functions that change the machine -/

theorem form_reply (h : Hdr) (op st : Nat) (final : Bool) (payload : List Word) (hs : HostMemoryForm s) :
    HostMemoryForm (reply h op st final payload s) := by
  unfold reply
  split
  · dsimp only
    exact form_kept (frame_traceOnly _ _ _ _ _ _ _ _) rfl (form_State_modLane _ _ _ hs)
  · exact form_kept (frame_noRing _) rfl hs

theorem form_answer (h : Hdr) (op st : Nat) (payload : List Word) (hs : HostMemoryForm s) :
    HostMemoryForm (answer h op st payload s) :=
  form_reply _ _ _ _ _ hs

theorem form_finish (id st : Nat) (payload : List Word) (hs : HostMemoryForm s) : HostMemoryForm (finish id st payload s) := by
  unfold finish
  split
  · exact form_answer _ _ _ _ (form_kept (frame_dropCmd _) rfl hs)
  · exact hs

theorem form_finishOpt (id : Option Nat) (st : Nat) (payload : List Word) (hs : HostMemoryForm s) :
    HostMemoryForm (finishOpt id st payload s) := by
  unfold finishOpt
  split
  · exact form_finish _ _ _ hs
  · exact hs

theorem form_drivePin (p : Nat) (a : Assertion) (at_ : Int) (hs : HostMemoryForm s) : HostMemoryForm (drivePin p a at_ s) := by
  unfold drivePin
  dsimp only
  split
  · split
    · exact form_kept (frame_count _ _) rfl (form_kept (frame_count _ _) rfl (form_kept (frame_State_modPin _ _) rfl hs))
    · exact form_State_emit _ (form_kept (frame_count _ _) rfl (form_kept (frame_State_modPin _ _) rfl hs))
  · split
    · exact form_kept (frame_count _ _) rfl (form_kept (frame_count _ _) rfl (form_kept (frame_State_modPin _ _) rfl hs))
    · exact form_State_emit _ (form_kept (frame_count _ _) rfl (form_kept (frame_State_modPin _ _) rfl hs))

theorem form_schedulePin (p tick : Nat) (source : Option (Nat × Nat × Nat)) (hs : HostMemoryForm s) :
    HostMemoryForm (schedulePin p tick source s) := by
  unfold schedulePin
  dsimp only
  split
  · exact form_kept (frame_count _ _) rfl hs
  · split
    · exact form_kept (frame_count _ _) rfl hs
    · split
      · split
        · exact form_kept (frame_count _ _) rfl (form_kept (frame_count _ _) rfl hs)
        · exact form_drivePin _ _ _ (form_kept (frame_count _ _) rfl hs)
      · exact form_kept (frame_State_modPin _ _) rfl hs

theorem form_suppressPin (p : Nat) (hs : HostMemoryForm s) : HostMemoryForm (suppressPin p s) := by
  unfold suppressPin
  dsimp only
  split
  · exact form_State_emit _ (form_kept (frame_State_modPin _ _) rfl (form_kept (frame_count _ _) rfl hs))
  · exact form_kept (frame_State_modPin _ _) rfl (form_kept (frame_count _ _) rfl hs)

theorem form_suppressAll (hs : HostMemoryForm s) : HostMemoryForm (suppressAll s) :=
  form_each _ (fun _ _ hu => form_suppressPin _ hu) hs

theorem form_suppressPart (p : Nat) (hs : HostMemoryForm s) : HostMemoryForm (suppressPart p s) :=
  form_each _ (fun _ _ hu => form_suppressPin _ hu) hs

theorem form_settleRun (rid : Nat) (hs : HostMemoryForm s) : HostMemoryForm (settleRun rid s) := by
  unfold settleRun
  split
  · split
    · dsimp only
      split
      · split
        · exact form_finishOpt _ _ _ (form_kept (frame_freeCtx _) rfl (form_kept (frame_State_modFlows _) rfl hs))
        · exact form_kept (frame_State_modFlows _) rfl hs
      · exact form_kept (frame_State_modFlows _) rfl hs
    · exact hs
  · exact hs

theorem form_endWindow (rid : Nat) (hs : HostMemoryForm s) : HostMemoryForm (endWindow rid s) := by
  unfold endWindow
  split
  · dsimp only
    split
    · split
      · exact form_settleRun _ (form_kept (frame_freeSpill _) rfl hs)
      · exact form_settleRun _ (form_kept (frame_State_setCtx _ _) rfl (form_kept (frame_freeSpill _) rfl hs))
    · exact form_settleRun _ (form_kept (frame_freeSpill _) rfl hs)
  · exact hs

theorem form_abandonRun (rid st kind : Nat) (body : List DWord) (silent : Bool) (hs : HostMemoryForm s) :
    HostMemoryForm (abandonRun rid st kind body silent s) := by
  unfold abandonRun
  split
  · split
    · exact hs
    · dsimp only
      refine form_endWindow _ (form_mk rfl (form_each _ (fun _ _ hu => ?_) ?_))
      · exact form_kept (frame_dropQueue _ _) rfl hu
      · split
        · exact form_kept (frame_markAbandoned _ _) rfl hs
        · exact form_kept (frame_formRun _ _ _) rfl (form_kept (frame_markAbandoned _ _) rfl hs)
  · exact hs

theorem form_cancelRun (rid st : Nat) (silent : Bool) (hs : HostMemoryForm s) : HostMemoryForm (cancelRun rid st silent s) := by
  unfold cancelRun
  split
  · split
    · exact hs
    · dsimp only
      split
      · split
        · exact form_abandonRun _ _ _ _ _ hs
        · exact form_kept (frame_count _ _) rfl (form_abandonRun _ _ _ _ _ hs)
      · exact form_abandonRun _ _ _ _ _ hs
  · exact hs

theorem form_dropRun (rid cause : Nat) (hs : HostMemoryForm s) : HostMemoryForm (dropRun rid cause s) :=
  form_abandonRun _ _ _ _ _ (form_kept (frame_State_modRun _ _) rfl hs)

theorem form_closeFlow (n : Nat) (drain silent : Bool) (tick : Nat) (cmd : Option Nat) (hs : HostMemoryForm s) :
    HostMemoryForm (closeFlow n drain silent tick cmd s) := by
  unfold closeFlow
  split
  · split
    · exact hs
    · split
      · exact form_kept (frame_State_setCtx _ _) rfl hs
      · dsimp only
        split
        · exact form_cancelRun _ _ _ (form_kept (frame_count _ _) rfl (form_kept (frame_State_setCtx _ _) rfl hs))
        · exact form_kept (frame_count _ _) rfl (form_kept (frame_State_setCtx _ _) rfl hs)
  · exact hs

theorem form_retireCore (c kind : Nat) (w : Work) (detail : Nat) (hs : HostMemoryForm s) :
    HostMemoryForm (retireCore c kind w detail s) := by
  unfold retireCore
  split
  · exact hs
  · dsimp only
    exact form_each _ (fun _ _ hu => form_cancelRun _ _ _ hu) (form_kept (frame_raiseRetired _ _ _ _) rfl (form_kept
      (frame_State_modMirror _) rfl hs))

theorem form_retireUnit (u : Unit) (kind : Nat) (w : Work) (detail : Nat) (late : Bool) (hs : HostMemoryForm s) :
    HostMemoryForm (retireUnit u kind w detail late s) := by
  unfold retireUnit
  split
  · exact form_kept (frame_retireColumn _ _ _ _ _ _ _) rfl hs
  · exact form_kept (frame_retireColumn _ _ _ _ _ _ _) rfl hs
  · exact form_kept (frame_retireTile _ _ _ _ _) rfl hs
  · exact form_kept (frame_retireTile _ _ _ _ _) rfl hs
  · exact form_retireCore _ _ _ _ hs
  · exact form_kept (frame_retireLane _ _ _ _) rfl hs
  · exact hs

theorem form_attribute_ (u : Unit) (kind outcome : Nat) (w : Work) (detail : Nat) (perm late : Bool) (hs : HostMemoryForm s) :
    HostMemoryForm (attribute_ u kind outcome w detail perm late s) := by
  unfold attribute_
  dsimp only
  split
  · exact form_retireUnit _ _ _ _ _ (form_kept (frame_raiseUnit _ _ _) rfl (form_kept (frame_count _ _) rfl (form_kept
      (frame_addRecord _ _ _ _ _ _ _) rfl hs)))
  · split
    · exact form_kept (frame_suspectTile _ _ _ _ _) rfl (form_kept (frame_raiseUnit _ _ _) rfl (form_kept
        (frame_count _ _) rfl (form_kept (frame_addRecord _ _ _ _ _ _ _) rfl hs)))
    · split
      · exact form_kept (frame_suspectCore _ _ _ _) rfl (form_kept (frame_raiseUnit _ _ _) rfl (form_kept
          (frame_count _ _) rfl (form_kept (frame_addRecord _ _ _ _ _ _ _) rfl hs)))
      · exact form_kept (frame_raiseUnit _ _ _) rfl (form_kept (frame_count _ _) rfl (form_kept
          (frame_addRecord _ _ _ _ _ _ _) rfl hs))

theorem form_fatal (kind : Nat) (hs : HostMemoryForm s) : HostMemoryForm (fatal kind s) := by
  unfold fatal
  dsimp only
  exact form_State_emit _ (form_kept (frame_raiseDev _ _) rfl (form_suppressAll (form_kept (frame_State_modMirror _) rfl
    (form_kept (frame_State_modPower _) rfl (form_kept (frame_addRecord _ _ _ _ _ _ _) rfl hs)))))

theorem form_askCmd (id : Nat) (as : List Activity) (hs : HostMemoryForm s) : HostMemoryForm (askCmd id as s) := by
  unfold askCmd
  dsimp only
  refine form_each _ (fun _ _ hu => ?_) ?_
  · exact form_kept (frame_queueAct _) rfl hu
  · split
    · split
      · exact form_kept (frame_setWait _ _) rfl (form_reply _ _ _ _ _ hs)
      · exact hs
    · exact hs

theorem form_finishIdle (cmd : Option Nat) (st : Nat) (payload : List Word) (hs : HostMemoryForm s) :
    HostMemoryForm (finishIdle cmd st payload s) := by
  unfold finishIdle
  split
  · split
    · exact hs
    · exact form_finish _ _ _ hs
  · exact hs

theorem form_applySample (c t : Nat) (m : RefReading) (hs : HostMemoryForm s) : HostMemoryForm (applySample c t m s) := by
  unfold applySample
  dsimp only
  split
  · exact form_kept (frame_State_modTile _ _ _) rfl (form_attribute_ _ _ _ _ _ _ _ hs)
  · split
    · exact form_kept (frame_State_modTile _ _ _) rfl (form_attribute_ _ _ _ _ _ _ _ hs)
    · refine form_kept (frame_refreshCheck _ _) rfl ?_
      split
      · refine form_attribute_ _ _ _ _ _ _ _ (form_kept (frame_State_modTile _ _ _) rfl ?_)
        split
        · exact form_kept (frame_State_modCal _ _ _) rfl hs
        · exact hs
      · refine form_kept (frame_State_modTile _ _ _) rfl ?_
        split
        · exact form_kept (frame_State_modCal _ _ _) rfl hs
        · exact hs

theorem form_calFaults (c t : Nat) (first again : CalReading) (hs : HostMemoryForm s) :
    HostMemoryForm (calFaults c t first again s) := by
  unfold calFaults
  dsimp only
  exact form_each _ (fun _ _ hu => form_attribute_ _ _ _ _ _ _ _ hu) hs

theorem form_katJudge (c t vectors : Nat) (first second : List KatReading) (seed : Word) (hs : HostMemoryForm s) :
    HostMemoryForm (katJudge c t vectors first second seed s) := by
  unfold katJudge
  dsimp only
  exact form_each _ (fun _ _ hu => form_attribute_ _ _ _ _ _ _ _ hu) (form_kept (frame_count _ _) rfl (form_kept
    (frame_count _ _) rfl hs))

theorem form_modelDone (p id : Nat) (hs : HostMemoryForm s) : HostMemoryForm (modelDone p id s) := by
  unfold modelDone
  split
  · split
    · split
      · exact hs
      · exact form_finish _ _ _ (form_kept (frame_modModel _ _ _) rfl hs)
    · exact hs
  · exact hs

theorem form_attachDone (c t : Nat) (a : Activity) (hs : HostMemoryForm s) : HostMemoryForm (attachDone c t a s) := by
  unfold attachDone
  split
  · dsimp only
    exact form_modelDone _ _ (form_kept (frame_modModel _ _ _) rfl (form_kept (frame_State_modTile _ _ _) rfl (form_kept
      (frame_endAct _) rfl hs)))
  · exact form_kept (frame_endAct _) rfl hs

theorem form_jobReply (c t : Nat) (job : WhiskJob) (st cells : Nat) (hs : HostMemoryForm s) :
    HostMemoryForm (jobReply c t job st cells s) := by
  unfold jobReply
  split
  · split
    · split
      · split
        · exact form_modelDone _ _ (form_kept (frame_modModel _ _ _) rfl hs)
        · exact form_kept (frame_eraseOwed _ _) rfl (form_finish _ _ _ hs)
      · exact hs
    · split
      · exact form_kept (frame_askErase _ _) rfl hs
      · exact hs
  · exact form_kept (frame_eraseOwed _ _) rfl (form_finishOpt _ _ _ hs)
  · exact form_finishOpt _ _ _ hs
  · exact form_finishOpt _ _ _ hs
  · exact hs
  · exact hs
  · exact hs

/-- Latching attributes faults to the columns and the tile at most (R135, R136). -/
theorem form_latchAll (c t : Nat) (w : List Host.Cell) (cells : List (Nat × Nat)) (hs : HostMemoryForm s) :
    HostMemoryForm (latchAll c t w cells s).s := by
  unfold latchAll
  extract_lets a cols b
  have ha : HostMemoryForm a.s := by
    refine List.foldlRecOn (motive := fun l : Latching => HostMemoryForm l.s) cells _ hs (fun l hl x _ => ?_)
    split
    · exact hl
    · split
      · exact form_some (by assumption) (frame_latchCell _ _ _ _ _) rfl hl
      · exact hl
  have hb : HostMemoryForm b.s := by
    refine List.foldlRecOn (motive := fun l : Latching => HostMemoryForm l.s) cols _ ha (fun l hl x _ => ?_)
    split
    · exact form_attribute_ _ _ _ _ _ _ _ hl
    · exact hl
  split
  · exact form_attribute_ _ _ _ _ _ _ _ hb
  · exact hb

theorem form_programDone (c t : Nat) (job : WhiskJob) (unverified : List (Nat × Nat)) (known : List KatReading) (cal : CalReading)
    (r : RefReading) (hs : HostMemoryForm s) : HostMemoryForm (programDone c t job unverified known cal r s) := by
  unfold programDone
  extract_lets s0 l retired fails u d b s1 s2 s3
  have hl : HostMemoryForm l.s :=
    form_latchAll c t _ _ (form_kept (frame_State_modTile _ _ _) rfl (form_kept (frame_restoring _ _ _) rfl hs))
  split
  · exact form_jobReply _ _ _ _ _ (form_kept (frame_blankTile _ _) rfl hl)
  split
  · exact form_jobReply _ _ _ _ _ (form_kept (frame_State_modTile _ _ _) rfl hl)
  split
  · split
    · exact form_jobReply _ _ _ _ _ (form_kept (frame_restoreFailed _ _ _) rfl hs)
    · exact form_jobReply _ _ _ _ _ (form_attribute_ _ _ _ _ _ _ _ (form_kept (frame_blankTile _ _) rfl hl))
  · have h2 : HostMemoryForm s2 :=
      form_each _ (fun x v hv => form_attribute_ _ _ _ _ _ _ _ hv) (form_kept (frame_verified _ _ _ _ _ _ _) rfl hl)
    refine form_jobReply _ _ _ _ _ ?_
    simp only [s3]
    split
    · exact form_kept (frame_restored _) rfl h2
    · exact h2

theorem form_scanLatch (c t row col : Nat) (hs : HostMemoryForm s) : HostMemoryForm (scanLatch c t row col s) := by
  unfold scanLatch
  split
  · exact form_attribute_ _ _ _ _ _ _ _ hs
  · dsimp only
    exact form_attribute_ _ _ _ _ _ _ _ (form_some (by assumption) (frame_latchCell _ _ _ _ _) rfl hs)

theorem form_scanDone (c t b : Nat) (m16 : Int) (readings : List (Nat × Nat × Int)) (hs : HostMemoryForm s) :
    HostMemoryForm (scanDone c t b m16 readings s) := by
  unfold scanDone
  dsimp only
  split
  · exact form_kept (frame_askAuto _) rfl (form_kept (frame_State_modTile _ _ _) rfl (form_attribute_ _ _ _ _ _ _ _ (form_kept
      (frame_State_modTile _ _ _) rfl hs)))
  · exact form_kept (frame_lateFault _ _ _) rfl (form_each _ (fun _ _ hu => form_scanLatch _ _ _ _ hu) (form_kept
      (frame_State_modTile _ _ _) rfl hs))

theorem forms_execRefSampleDone (core : Fin 32) (tile : Fin 33) (r : RefReading) (hs : HostMemoryForm s) :
    Forms (execRefSampleDone core tile r s) := by
  unfold execRefSampleDone
  split
  · exact forms_ifDue hs (form_finishIdle _ _ _ (form_applySample _ _ _ (form_kept (frame_endAct _) rfl hs)))
  · exact forms_next hs

theorem form_convCalDone (c t : Nat) (r again : CalReading) (temp : Int) (a : Activity) (hs : HostMemoryForm s) :
    HostMemoryForm (convCalDone c t r again temp a s) := by
  unfold convCalDone
  dsimp only
  exact form_finishIdle _ _ _ (form_calFaults _ _ _ _ (form_kept (frame_applyCal _ _ _ _) rfl (form_kept
    (frame_endAct _) rfl hs)))

theorem forms_execConvCalDone (core : Fin 32) (tile : Fin 33) (r again : CalReading) (temp : Int) (hs : HostMemoryForm s) :
    Forms (execConvCalDone core tile r again temp s) := by
  unfold execConvCalDone
  split
  · split
    · exact forms_ifDue hs (form_convCalDone _ _ _ _ _ _ hs)
    · exact forms_next hs
  · exact forms_fault _

theorem form_tileTestDone (c t : Nat) (first second : List KatReading) (a : Activity) (hs : HostMemoryForm s) :
    HostMemoryForm (tileTestDone c t first second a s) := by
  unfold tileTestDone
  dsimp only
  split
  · split
    · refine form_finishIdle _ _ _ ?_
      split
      · exact form_kept (frame_lfsrAdvance _) rfl (form_kept (frame_count _ _) rfl (form_kept (frame_endAct _) rfl hs))
      · exact form_kept (frame_count _ _) rfl (form_kept (frame_endAct _) rfl hs)
    · split
      · split
        · split
          · exact form_kept (frame_State_modCore _ _) rfl (form_kept (frame_cleanTest _ _) rfl (form_kept
              (frame_State_modTile _ _ _) rfl (form_kept (frame_lfsrAdvance _) rfl (form_katJudge _ _ _ _ _ _ (form_kept
                (frame_endAct _) rfl hs)))))
          · exact form_finish _ _ _ (form_kept (frame_State_modCore _ _) rfl (form_kept (frame_State_modCore _ _) rfl
              (form_kept (frame_cleanTest _ _) rfl (form_kept (frame_State_modTile _ _ _) rfl (form_kept
                (frame_lfsrAdvance _) rfl (form_katJudge _ _ _ _ _ _ (form_kept (frame_endAct _) rfl hs)))))))
        · split
          · exact form_kept (frame_State_modCore _ _) rfl (form_kept (frame_cleanTest _ _) rfl (form_kept
              (frame_State_modTile _ _ _) rfl (form_katJudge _ _ _ _ _ _ (form_kept (frame_endAct _) rfl hs))))
          · exact form_finish _ _ _ (form_kept (frame_State_modCore _ _) rfl (form_kept (frame_State_modCore _ _) rfl
              (form_kept (frame_cleanTest _ _) rfl (form_kept (frame_State_modTile _ _ _) rfl (form_katJudge _ _ _ _ _ _
                (form_kept (frame_endAct _) rfl hs))))))
      · split
        · split
          · exact form_kept (frame_State_modCore _ _) rfl (form_kept (frame_State_modTile _ _ _) rfl (form_kept
              (frame_lfsrAdvance _) rfl (form_katJudge _ _ _ _ _ _ (form_kept (frame_endAct _) rfl hs))))
          · exact form_finish _ _ _ (form_kept (frame_State_modCore _ _) rfl (form_kept (frame_State_modCore _ _) rfl
              (form_kept (frame_State_modTile _ _ _) rfl (form_kept (frame_lfsrAdvance _) rfl (form_katJudge _ _ _ _ _ _
                (form_kept (frame_endAct _) rfl hs))))))
        · split
          · exact form_kept (frame_State_modCore _ _) rfl (form_kept (frame_State_modTile _ _ _) rfl
              (form_katJudge _ _ _ _ _ _ (form_kept (frame_endAct _) rfl hs)))
          · exact form_finish _ _ _ (form_kept (frame_State_modCore _ _) rfl (form_kept (frame_State_modCore _ _) rfl
              (form_kept (frame_State_modTile _ _ _) rfl (form_katJudge _ _ _ _ _ _ (form_kept (frame_endAct _) rfl hs)))))
  · split
    · refine form_finishIdle _ _ _ ?_
      split
      · exact form_kept (frame_lfsrAdvance _) rfl (form_kept (frame_count _ _) rfl (form_kept (frame_endAct _) rfl hs))
      · exact form_kept (frame_count _ _) rfl (form_kept (frame_endAct _) rfl hs)
    · refine form_kept (frame_State_modCore _ _) rfl ?_
      split
      · refine form_kept (frame_cleanTest _ _) rfl (form_kept (frame_State_modTile _ _ _) rfl ?_)
        split
        · exact form_kept (frame_lfsrAdvance _) rfl (form_katJudge _ _ _ _ _ _ (form_kept (frame_endAct _) rfl hs))
        · exact form_katJudge _ _ _ _ _ _ (form_kept (frame_endAct _) rfl hs)
      · refine form_kept (frame_State_modTile _ _ _) rfl ?_
        split
        · exact form_kept (frame_lfsrAdvance _) rfl (form_katJudge _ _ _ _ _ _ (form_kept (frame_endAct _) rfl hs))
        · exact form_katJudge _ _ _ _ _ _ (form_kept (frame_endAct _) rfl hs)

theorem forms_execTileTestDone (core : Fin 32) (tile : Fin 33) (first second : List KatReading) (hs : HostMemoryForm s) :
    Forms (execTileTestDone core tile first second s) := by
  unfold execTileTestDone
  split
  · split
    · exact forms_ifDue hs (form_tileTestDone _ _ _ _ _ hs)
    · exact forms_next hs
  · exact forms_fault _

theorem form_sliceJudge (c : Nat) (failed : Option (BitVec 16)) (hs : HostMemoryForm s) :
    HostMemoryForm (sliceJudge c failed s) := by
  unfold sliceJudge
  dsimp only
  split
  · split
    · exact form_attribute_ _ _ _ _ _ _ _ (form_kept (frame_State_modCore _ _) rfl (form_kept (frame_State_modCore _ _) rfl hs))
    · exact form_kept (frame_State_modCore _ _) rfl (form_attribute_ _ _ _ _ _ _ _ (form_kept (frame_State_modCore _ _) rfl
        (form_kept (frame_State_modCore _ _) rfl hs)))
  · exact form_attribute_ _ _ _ _ _ _ _ (form_kept (frame_State_modCore _ _) rfl hs)
  · exact form_kept (frame_State_modCore _ _) rfl (form_kept (frame_State_modCore _ _) rfl hs)
  · exact form_kept (frame_cleanSlice _) rfl hs

theorem form_passEnd (c : Nat) (hs : HostMemoryForm s) : HostMemoryForm (passEnd c s) := by
  unfold passEnd
  dsimp only
  split
  · exact form_kept (frame_State_modCore _ _) rfl hs
  · split
    · split
      · exact form_finish _ _ _ (form_kept (frame_restored _) rfl (form_kept (frame_State_modMirror _) rfl (form_kept
          (frame_State_modCore _ _) rfl hs)))
      · exact form_finish _ _ _ (form_kept (frame_State_modCore _ _) rfl hs)
    · split
      · exact form_each _ (fun _ _ hu => form_kept (frame_queueAct _) rfl hu) hs
      · exact form_finish _ _ _ (form_each _ (fun _ _ hu => form_kept (frame_queueAct _) rfl hu) hs)

theorem form_coreSlice (c : Nat) (failed : Option (BitVec 16)) (last : Bool) (hs : HostMemoryForm s) :
    HostMemoryForm (coreSlice c failed last s) := by
  unfold coreSlice
  dsimp only
  split
  · refine form_passEnd _ ?_
    split
    · refine form_kept (frame_holdWatchdogs _) rfl ?_
      split
      · refine form_kept (frame_endAct _) rfl (form_sliceJudge _ _ (form_kept (frame_count _ _) rfl (form_kept
          (frame_State_modCore _ _) rfl ?_)))
        split
        · exact hs
        · exact form_kept (frame_beginAct _) rfl hs
      · refine form_sliceJudge _ _ (form_kept (frame_count _ _) rfl (form_kept (frame_State_modCore _ _) rfl ?_))
        split
        · exact hs
        · exact form_kept (frame_beginAct _) rfl hs
    · split
      · refine form_kept (frame_endAct _) rfl (form_sliceJudge _ _ (form_kept (frame_count _ _) rfl (form_kept
          (frame_State_modCore _ _) rfl ?_)))
        split
        · exact hs
        · exact form_kept (frame_beginAct _) rfl hs
      · refine form_sliceJudge _ _ (form_kept (frame_count _ _) rfl (form_kept (frame_State_modCore _ _) rfl ?_))
        split
        · exact hs
        · exact form_kept (frame_beginAct _) rfl hs
  · split
    · refine form_kept (frame_holdWatchdogs _) rfl ?_
      split
      · refine form_kept (frame_endAct _) rfl (form_sliceJudge _ _ (form_kept (frame_count _ _) rfl (form_kept
          (frame_State_modCore _ _) rfl ?_)))
        split
        · exact hs
        · exact form_kept (frame_beginAct _) rfl hs
      · refine form_sliceJudge _ _ (form_kept (frame_count _ _) rfl (form_kept (frame_State_modCore _ _) rfl ?_))
        split
        · exact hs
        · exact form_kept (frame_beginAct _) rfl hs
    · split
      · refine form_kept (frame_endAct _) rfl (form_sliceJudge _ _ (form_kept (frame_count _ _) rfl (form_kept
          (frame_State_modCore _ _) rfl ?_)))
        split
        · exact hs
        · exact form_kept (frame_beginAct _) rfl hs
      · refine form_sliceJudge _ _ (form_kept (frame_count _ _) rfl (form_kept (frame_State_modCore _ _) rfl ?_))
        split
        · exact hs
        · exact form_kept (frame_beginAct _) rfl hs

theorem forms_execCoreSelftestSlice (core : Fin 32) (failed : Option (BitVec 16)) (last : Bool) (hs : HostMemoryForm s) :
    Forms (execCoreSelftestSlice core failed last s) := by
  unfold execCoreSelftestSlice
  dsimp only
  exact forms_ifDue hs (form_coreSlice _ _ _ hs)

theorem form_startAct (a : Activity) (hs : HostMemoryForm s) : HostMemoryForm (startAct a s) := by
  unfold startAct
  dsimp only
  split
  · exact form_finishIdle _ _ _ (form_kept (frame_endAct _) rfl (form_kept (frame_compact _) rfl (form_kept
      (frame_beginAct _) rfl (form_mk rfl hs))))
  · split
    · exact form_attachDone _ _ _ (form_kept (frame_beginAct _) rfl (form_mk rfl hs))
    · split
      · exact form_kept (frame_State_modCore _ _) rfl (form_mk rfl (form_kept (frame_beginAct _) rfl (form_mk rfl hs)))
      · exact form_kept (frame_beginAct _) rfl (form_mk rfl hs)

theorem forms_execProgrammingDone (core : Fin 32) (tile : Fin 33) (unverified : List (Nat × Nat)) (known : List KatReading)
    (cal : CalReading) (r : RefReading) (hs : HostMemoryForm s) : Forms
      (execProgrammingDone core tile unverified known cal r s) := by
  unfold execProgrammingDone
  split
  · split
    · exact forms_ifDue hs (form_programDone _ _ _ _ _ _ _ (form_kept (frame_endAct _) rfl hs))
    · exact forms_next hs
  · exact forms_fault _

theorem forms_execBlockScan (core : Fin 32) (tile : Fin 33) (readings : List (Nat × Nat × Int)) (hs : HostMemoryForm s) :
    Forms (execBlockScan core tile readings s) := by
  unfold execBlockScan
  split
  · split
    · exact forms_ifDue hs (form_scanDone _ _ _ _ _ (form_kept (frame_endAct _) rfl hs))
    · exact forms_next hs
  · exact forms_fault _

theorem form_haltWith (halt : Nat) (hs : HostMemoryForm s) : HostMemoryForm (haltWith halt s) := by
  unfold haltWith
  dsimp only
  exact form_kept (frame_beginSave _ _) rfl (form_kept (frame_State_modMirror _) rfl (form_kept (frame_foldAges) rfl
    (form_suppressAll (form_kept (frame_State_modPower _) rfl hs))))

theorem form_restart (standby : Bool) (hs : HostMemoryForm s) : HostMemoryForm (restart standby s) := by
  unfold restart
  dsimp only
  exact form_mk rfl hs

theorem form_coldPowerOn (hs : HostMemoryForm s) : HostMemoryForm (coldPowerOn s) := by
  unfold coldPowerOn
  dsimp only
  exact form_kept (frame_tryPending) rfl (form_kept (frame_recoverCrock) rfl (form_kept (frame_State_modPower _) rfl
    (form_restart _ (form_kept (frame_State_modCrock _) rfl hs))))

theorem forms_execColdPowerOn (hs : HostMemoryForm s) : Forms (execColdPowerOn s) := forms_next (form_coldPowerOn hs)

theorem forms_execResetNAssert (hs : HostMemoryForm s) : Forms (execResetNAssert s) := by
  unfold execResetNAssert
  dsimp only
  refine forms_ifDue hs ?_
  split
  · exact form_each _ (fun _ _ hu => form_kept (frame_dropFunnelRegs _) rfl hu) (form_kept (frame_State_modPower _) rfl
      (form_restart _ (form_kept (frame_State_foldTick) rfl (form_kept (frame_foldAges) rfl hs))))
  · exact form_kept (frame_State_modPower _) rfl (form_restart _ (form_kept (frame_State_foldTick) rfl (form_kept
      (frame_foldAges) rfl hs)))

theorem form_startupReady (hs : HostMemoryForm s) : HostMemoryForm (startupReady s) := by
  unfold startupReady
  dsimp only
  refine form_each _ (fun _ _ hu => ?_) ?_
  · exact form_kept (frame_raiseDev _ _) rfl hu
  · split
    · exact form_kept (frame_raiseDev _ _) rfl (form_kept (frame_fuseCommit) rfl (form_kept (frame_State_modMirror _) rfl
        (form_mk rfl (form_kept (frame_State_modPower _) rfl (form_kept (frame_bootCores) rfl (form_kept (frame_bootTiles) rfl
          (form_kept (frame_State_modSec _) rfl hs)))))))
    · split
      · exact form_kept (frame_raiseDev _ _) rfl (form_kept (frame_fuseCommit) rfl (form_kept (frame_State_modMirror _) rfl
          (form_mk rfl (form_kept (frame_State_modPower _) rfl (form_kept (frame_bootCores) rfl (form_kept
            (frame_bootTiles) rfl (form_kept (frame_State_modSec _) rfl hs)))))))
      · exact form_kept (frame_fuseCommit) rfl (form_kept (frame_State_modMirror _) rfl (form_mk rfl (form_kept
          (frame_State_modPower _) rfl (form_kept (frame_bootCores) rfl (form_kept (frame_bootTiles) rfl (form_kept
            (frame_State_modSec _) rfl hs))))))

theorem forms_execStartupReady (hs : HostMemoryForm s) : Forms (execStartupReady s) := forms_ifDue hs (form_startupReady hs)

theorem forms_execPwrFailNAssert (hs : HostMemoryForm s) : Forms (execPwrFailNAssert s) := by
  unfold execPwrFailNAssert
  refine forms_ifDue hs ?_
  dsimp only
  split
  · exact form_kept (frame_State_modPower _) rfl hs
  · exact form_haltWith _ (form_kept (frame_State_modCrock _) rfl (form_kept (frame_State_modPower _) rfl hs))

theorem forms_execCrockSaveDone (hs : HostMemoryForm s) : Forms (execCrockSaveDone s) := by
  unfold execCrockSaveDone
  split
  · refine forms_ifDue hs ?_
    dsimp only
    split
    · exact form_finish _ _ _ (form_each _ (fun _ _ hu => form_kept (frame_endAct _) rfl hu) (form_kept
        (frame_raiseDev _ _) rfl (form_kept (frame_endSave _) rfl hs)))
    · exact form_kept (frame_endSave _) rfl hs
  · exact forms_next hs

theorem forms_execMirrorUncorrectable (hs : HostMemoryForm s) : Forms (execMirrorUncorrectable s) :=
  forms_ifDue hs (form_fatal _ hs)

theorem form_dropCtx (n : Nat) (hs : HostMemoryForm s) : HostMemoryForm (dropCtx n s) := by
  unfold dropCtx
  dsimp only
  refine form_kept (frame_State_modFlows _) rfl ?_
  split
  · exact form_kept (frame_State_modFlows _) rfl (form_cancelRun _ _ _ hs)
  · exact hs

theorem form_clearPart (p : Nat) (hs : HostMemoryForm s) : HostMemoryForm (clearPart p s) := by
  unfold clearPart
  dsimp only
  exact form_kept (frame_State_modFunnel _ _) rfl (form_kept (frame_State_modPre _) rfl (form_suppressPart _ (form_each _
    (fun _ _ hu => form_dropCtx _ hu) hs)))

theorem form_forgetFns (q : Nat → Bool) (hs : HostMemoryForm s) : HostMemoryForm (forgetFns q s) :=
  form_State_modHost rfl (form_kept (frame_State_modPre _) rfl hs)

theorem form_flrFn (fn : Nat) (hs : HostMemoryForm s) : HostMemoryForm (flrFn fn s) := by
  unfold flrFn
  dsimp only
  refine form_forgetFns _ ?_
  split
  · refine form_kept (frame_dropFunnelRegs _) rfl (form_kept (frame_clearCores _) rfl (form_kept
      (frame_State_modFunnel _ _) rfl (form_clearPart _ (form_mk rfl (form_kept (frame_State_modPre _) rfl ?_)))))
    split
    · exact form_each _ (fun _ _ hu => form_kept (frame_retractLoad _) rfl hu) hs
    · exact hs
  · refine form_mk rfl (form_kept (frame_State_modPre _) rfl ?_)
    split
    · exact form_each _ (fun _ _ hu => form_kept (frame_retractLoad _) rfl hu) hs
    · exact hs

theorem form_flrAll (hs : HostMemoryForm s) : HostMemoryForm (flrAll s) := by
  unfold flrAll
  dsimp only
  exact form_forgetFns _ (form_State_modHost rfl (form_kept (frame_State_modPre _) rfl (form_each _ (fun _ _ hu => form_kept
    (frame_dropFunnelRegs _) rfl (form_kept (frame_clearCores _) rfl (form_clearPart _ hu))) (form_each _
      (fun _ _ hu => form_flrFn _ hu) hs))))

theorem forms_execFlrVf (vf : Fin 32) (hs : HostMemoryForm s) : Forms (execFlrVf vf s) := forms_ifDue hs (form_flrFn _ hs)

theorem forms_execFlrPf (hs : HostMemoryForm s) : Forms (execFlrPf s) := forms_ifDue hs (form_flrAll hs)

theorem forms_execPciePerstNAssert (hs : HostMemoryForm s) : Forms (execPciePerstNAssert s) := by
  unfold execPciePerstNAssert
  refine forms_ifDue hs ?_
  dsimp only
  refine form_State_modHost rfl (form_kept (frame_State_modPower _) rfl ?_)
  split
  · exact form_flrAll hs
  · exact hs

theorem forms_execPciePerstNRelease (hs : HostMemoryForm s) : Forms (execPciePerstNRelease s) :=
  forms_ifDue hs (form_State_modHost rfl (form_kept (frame_State_modPower _) rfl hs))

theorem forms_execVfEnable (n : Fin 32) (hs : HostMemoryForm s) : Forms (execVfEnable n s) := by
  unfold execVfEnable
  refine forms_ifDue hs ?_
  dsimp only
  exact form_forgetFns _ (form_State_modHost rfl (form_each _ (fun _ _ hu => form_flrFn _ hu) hs))

theorem forms_execBusMasterEnable (fn : Fin 32) (on : Bool) (hs : HostMemoryForm s) : Forms (execBusMasterEnable fn on s) :=
  forms_ifDue hs (form_State_modHost rfl hs)

theorem form_partitionReset (p cause region fault : Nat) (weightImage : Bool) (hs : HostMemoryForm s) :
    HostMemoryForm (partitionReset p cause region fault weightImage s) := by
  unfold partitionReset
  dsimp only
  refine form_kept (frame_raisePart _ _ _) rfl (form_kept (frame_zeroRings _) rfl (form_each _ (fun _ _ hu => ?_) ?_))
  · exact form_kept (frame_resendVerdict _) rfl hu
  · refine form_kept (frame_State_modFunnel _ _) rfl ?_
    split <;> exact form_mk rfl (form_each _ (fun _ _ hu => form_finish _ _ _ hu) (form_kept (frame_clearCores _) rfl
      (form_clearPart _ (form_each _ (fun _ _ hu => form_kept (frame_retractLoad _) rfl hu) hs))))

theorem form_quiesceCore (c : Nat) (hs : HostMemoryForm s) : HostMemoryForm (quiesceCore c s) := by
  unfold quiesceCore
  split
  · exact hs
  · dsimp only
    exact form_kept (frame_clearCore _) rfl (form_each _ (fun _ _ hu => form_cancelRun _ _ _ hu) (form_kept
      (frame_State_setRegf _ _ _ _) rfl (form_kept (frame_State_modCoreState _ _) rfl hs)))

theorem forms_execCoreQuiesce (fn core : Fin 32) (hs : HostMemoryForm s) : Forms (execCoreQuiesce fn core s) :=
  forms_ifDue hs (form_quiesceCore _ hs)

theorem form_thermalSample (tj : Int) (hs : HostMemoryForm s) : HostMemoryForm (thermalSample tj s) := by
  unfold thermalSample
  dsimp only
  split
  · exact form_kept (frame_State_modPower _) rfl (form_haltWith _ (form_kept (frame_State_modCrock _) rfl (form_kept
      (frame_State_modPower _) rfl hs)))
  · split
    · exact form_kept (frame_State_modPower _) rfl hs
    · split
      · exact form_kept (frame_raiseDev _ _) rfl (form_kept (frame_State_modPower _) rfl (form_kept (frame_thermalStep _) rfl
          (form_kept (frame_State_modPower _) rfl hs)))
      · exact form_kept (frame_State_modPower _) rfl (form_kept (frame_thermalStep _) rfl (form_kept
          (frame_State_modPower _) rfl hs))

theorem forms_execThermalSample (tj : BitVec 16) (hs : HostMemoryForm s) : Forms (execThermalSample tj s) :=
  forms_ifDue hs (form_thermalSample _ hs)

theorem form_dropCurrent (n cause : Nat) (p : Window → Bool) (hs : HostMemoryForm s) :
    HostMemoryForm (dropCurrent n cause p s) := by
  unfold dropCurrent
  split
  · split
    · split
      · dsimp only
        refine form_dropRun _ _ ?_
        split
        · exact form_kept (frame_count _ _) rfl hs
        · exact hs
      · exact hs
    · exact hs
  · exact hs

theorem form_dropWindows (n cause : Nat) (p : Window → Bool) (hs : HostMemoryForm s) :
    HostMemoryForm (dropWindows n cause p s) := by
  unfold dropWindows
  dsimp only
  split
  · refine form_each _ (fun _ _ hu => ?_) (form_kept (frame_State_setCtx _ _) rfl (form_dropCurrent _ _ _ hs))
    refine form_kept (frame_formGap _ _ _) rfl ?_
    split
    · exact form_kept (frame_count _ _) rfl hu
    · exact hu
  · exact form_dropCurrent _ _ _ hs

theorem form_redivide (n : Nat) (hs : HostMemoryForm s) : HostMemoryForm (redivide n s) := by
  unfold redivide
  split
  · exact hs
  · dsimp only
    refine form_each _ (fun _ _ hu => ?_) ?_
    · exact form_kept (frame_State_setRing _ _) rfl hu
    · refine form_kept (frame_State_modIngest _) rfl ?_
      split
      · exact form_each _ (fun _ _ hu => form_kept (frame_dropBegun _ _ _) rfl hu) (form_each _
          (fun _ _ hu => form_dropWindows _ _ _ hu) hs)
      · exact form_each _ (fun _ _ hu => form_dropWindows _ _ _ hu) hs

theorem form_overrun (st i : Nat) (hs : HostMemoryForm s) : HostMemoryForm (overrun st i s) := by
  unfold overrun
  dsimp only
  exact form_each _ (fun _ _ hu => form_dropWindows _ _ _ hu) hs

theorem form_writeSample (st i : Nat) (v : Int × Int) (bad ovr : Bool) (hs : HostMemoryForm s) :
    HostMemoryForm (writeSample st i v bad ovr s) := by
  unfold writeSample
  dsimp only
  split
  · split
    · exact form_overrun _ _ (form_kept (frame_State_setRing _ _) rfl hs)
    · exact form_kept (frame_State_setRing _ _) rfl hs
  · exact hs

theorem form_channelise (n k : Nat) (v : Int × Int) (bad ovr : Bool) (hs : HostMemoryForm s) :
    HostMemoryForm (channelise n k v bad ovr s) := by
  unfold channelise
  dsimp only
  split
  · exact form_kept (frame_State_setRing _ _) rfl (form_kept (frame_State_setRing _ _) rfl hs)
  · split
    · exact form_kept (frame_State_setRing _ _) rfl (form_kept (frame_State_setRing _ _) rfl hs)
    · exact form_each _ (fun _ _ hu => form_writeSample _ _ _ _ _ (form_kept (frame_count _ _) rfl hu)) (form_kept
        (frame_State_setRing _ _) rfl (form_kept (frame_State_setRing _ _) rfl hs))

theorem form_decimate (n d k : Nat) (bad ovr : Bool) (hs : HostMemoryForm s) : HostMemoryForm (decimate n d k bad ovr s) := by
  unfold decimate
  dsimp only
  split
  · split
    · split
      · split
        · exact form_kept (frame_State_setRing _ _) rfl hs
        · exact form_writeSample _ _ _ _ _ (form_kept (frame_count _ _) rfl (form_kept (frame_State_nextDraw) rfl (form_kept
            (frame_State_setRing _ _) rfl hs)))
      · split
        · exact form_kept (frame_State_setRing _ _) rfl hs
        · exact form_writeSample _ _ _ _ _ (form_kept (frame_count _ _) rfl (form_kept (frame_State_nextDraw) rfl (form_kept
            (frame_State_setRing _ _) rfl hs)))
    · split
      · split
        · exact form_kept (frame_State_setRing _ _) rfl hs
        · exact form_writeSample _ _ _ _ _ (form_kept (frame_count _ _) rfl (form_kept (frame_State_nextDraw) rfl (form_kept
            (frame_State_setRing _ _) rfl hs)))
      · split
        · exact form_kept (frame_State_setRing _ _) rfl hs
        · exact form_writeSample _ _ _ _ _ (form_kept (frame_count _ _) rfl (form_kept (frame_State_nextDraw) rfl (form_kept
            (frame_State_setRing _ _) rfl hs)))
  · split
    · split
      · split
        · exact form_kept (frame_State_setRing _ _) rfl hs
        · exact form_writeSample _ _ _ _ _ (form_kept (frame_count _ _) rfl (form_kept (frame_State_nextDraw) rfl (form_kept
            (frame_State_setRing _ _) rfl hs)))
      · split
        · exact form_kept (frame_State_setRing _ _) rfl hs
        · exact form_writeSample _ _ _ _ _ (form_kept (frame_count _ _) rfl (form_kept (frame_State_nextDraw) rfl (form_kept
            (frame_State_setRing _ _) rfl hs)))
    · split
      · split
        · exact form_kept (frame_State_setRing _ _) rfl hs
        · exact form_writeSample _ _ _ _ _ (form_kept (frame_count _ _) rfl (form_kept (frame_State_nextDraw) rfl (form_kept
            (frame_State_setRing _ _) rfl hs)))
      · split
        · exact form_kept (frame_State_setRing _ _) rfl hs
        · exact form_writeSample _ _ _ _ _ (form_kept (frame_count _ _) rfl (form_kept (frame_State_nextDraw) rfl (form_kept
            (frame_State_setRing _ _) rfl hs)))

theorem form_takeFrame (n k : Nat) (bad : Bool) (frame : List (BitVec 16 × BitVec 3)) (hs : HostMemoryForm s) :
    HostMemoryForm (takeFrame n k bad frame s) := by
  unfold takeFrame
  dsimp only
  refine form_each _ (fun _ _ hu => ?_) (form_kept (frame_count _ _) rfl hs)
  refine form_each _ (fun _ _ hu => ?_) ?_
  · exact form_decimate _ _ _ _ _ hu
  · split
    · split
      · split
        · exact form_channelise _ _ _ _ _ (form_writeSample _ _ _ _ _ hu)
        · exact form_writeSample _ _ _ _ _ hu
      · split
        · exact form_channelise _ _ _ _ _ (form_writeSample _ _ _ _ _ hu)
        · exact form_writeSample _ _ _ _ _ hu
    · split
      · exact form_channelise _ _ _ _ _ hu
      · exact hu

theorem form_takeFrames (n k : Nat) (bad : Bool) (frames : List (List (BitVec 16 × BitVec 3))) (hs : HostMemoryForm s) :
    HostMemoryForm (takeFrames n k bad frames s) := by
  induction frames generalizing s k with
  | nil => exact hs
  | cons f r ih => exact ih _ (form_takeFrame _ _ _ _ hs)

theorem form_sampleArrival (n k0 : Nat) (crcBad : BitVec 16) (frames : List (List (BitVec 16 × BitVec 3)))
    (hs : HostMemoryForm s) : HostMemoryForm (sampleArrival n k0 crcBad frames s) := by
  unfold sampleArrival
  dsimp only
  exact form_kept (frame_formLink _ _) rfl (form_kept (frame_State_modLink _ _) rfl (form_takeFrames _ _ _ _ (form_kept
    (frame_count _ _) rfl (form_each _ (fun _ _ hu => form_kept (frame_count _ _) rfl hu) hs))))

theorem forms_execSampleArrival (link : Fin 4) (k0 : Nat) (crcBad : BitVec 16) (frames : List (List (BitVec 16 × BitVec 3)))
    (hs : HostMemoryForm s) : Forms (execSampleArrival link k0 crcBad frames s) :=
  forms_ifDue hs (form_sampleArrival _ _ _ _ hs)

theorem forms_execLaneLockLoss (lane : Fin 16) (hs : HostMemoryForm s) : Forms (execLaneLockLoss lane s) := by
  unfold execLaneLockLoss
  split
  · refine forms_ifDue hs ?_
    dsimp only
    exact form_attribute_ _ _ _ _ _ _ _ (form_kept (frame_count _ _) rfl (form_kept (frame_State_modLink _ _) rfl hs))
  · exact forms_next hs

theorem forms_execTbTickLoRead (fn : Fin 32) (hs : HostMemoryForm s) : Forms (execTbTickLoRead fn s) :=
  forms_ifDue hs (form_State_emit _ (form_kept (frame_State_modTb _) rfl hs))

theorem forms_execTrigOutAssert (pin : Fin 8) (hs : HostMemoryForm s) : Forms (execTrigOutAssert pin s) := by
  unfold execTrigOutAssert
  split
  · exact forms_ifDue hs (form_drivePin _ _ _ (form_kept (frame_State_modPin _ _) rfl hs))
  · exact forms_next hs

theorem form_refclkLost (hs : HostMemoryForm s) : HostMemoryForm (refclkLost s) := by
  unfold refclkLost
  dsimp only
  refine form_kept (frame_raiseDev _ _) rfl (form_each _ (fun _ _ hu => ?_) ?_)
  · exact form_settleRun _ hu
  · refine form_kept (frame_State_modFlows _) rfl (form_mk rfl (form_each _ (fun _ _ hu => ?_) ?_))
    · exact form_each _ (fun _ _ hu => form_kept (frame_retractRec _ _) rfl hu) hu
    · refine form_each _ (fun _ _ hu => ?_) ?_
      · exact form_cancelRun _ _ _ hu
      · refine form_suppressAll (form_kept (frame_State_modIngest _) rfl (form_kept (frame_State_modTb _) rfl (form_kept
          (frame_State_foldTick) rfl ?_)))
        split
        · exact form_each _ (fun _ _ hu => form_kept (frame_dropBegun _ _ _) rfl hu) (form_kept (frame_State_modPower _) rfl hs)
        · exact form_kept (frame_State_modPower _) rfl hs

theorem forms_execRefclkLost (hs : HostMemoryForm s) : Forms (execRefclkLost s) := forms_ifDue hs (form_refclkLost hs)

theorem form_raiseMsix (fn v : Nat) (hs : HostMemoryForm s) : HostMemoryForm (raiseMsix fn v s) := by
  unfold raiseMsix
  split
  · exact hs
  · split
    · exact form_State_emit _ hs
    · exact form_State_modHost rfl hs

theorem form_raiseHeld (fn v us : Nat) (hs : HostMemoryForm s) : HostMemoryForm (raiseHeld fn v us s) := by
  unfold raiseHeld
  split
  · exact hs
  · split
    · exact form_State_modHost rfl hs
    · dsimp only
      split
      · exact form_raiseMsix _ _ hs
      · exact form_State_modHost rfl (form_raiseMsix _ _ hs)

theorem forms_execMsixHoldoffEnd (fn : Fin 32) (vector : Fin 64) (hs : HostMemoryForm s) :
    Forms (execMsixHoldoffEnd fn vector s) := by
  unfold execMsixHoldoffEnd
  dsimp only
  split
  · refine forms_ifDue hs ?_
    split
    · exact form_raiseHeld _ _ _ (form_State_modHost rfl hs)
    · exact form_State_modHost rfl hs
  · exact forms_next hs

theorem form_flushPba (fn : Nat) (hs : HostMemoryForm s) : HostMemoryForm (flushPba fn s) := by
  unfold flushPba
  refine form_each _ (fun _ _ hu => ?_) hs
  split
  · exact form_State_emit _ (form_State_modHost rfl hu)
  · exact hu

theorem form_writeMsix (fn i : Nat) (v : Word) (hs : HostMemoryForm s) : HostMemoryForm (writeMsix fn i v s) :=
  form_flushPba _ (form_State_modHost rfl hs)

theorem form_writeSlot (fn k i n : Nat) (r : Reply) (hs : HostMemoryForm s) : HostMemoryForm (writeSlot fn k i n r s) := by
  unfold writeSlot
  dsimp only
  exact form_State_modLane _ _ _ (form_State_hostWrite _ _ hs)

theorem forms_execReplyWrite (fn : Fin 32) (ring : Fin 16) (hs : HostMemoryForm s) : Forms (execReplyWrite fn ring s) := by
  unfold execReplyWrite
  dsimp only
  split
  · refine forms_ifDue hs ?_
    split
    · exact form_raiseHeld _ _ _ (form_each _ (fun _ _ hu => form_writeSlot _ _ _ _ _ hu) (form_State_modLane _ _ _ hs))
    · exact form_each _ (fun _ _ hu => form_writeSlot _ _ _ _ _ hu) (form_State_modLane _ _ _ hs)
  · exact forms_next hs

theorem form_replyRead (fn k : Nat) (v : Word) (hs : HostMemoryForm s) : HostMemoryForm (replyRead fn k v s) := by
  unfold replyRead
  dsimp only
  exact form_State_modLane _ _ _ hs

theorem forms_execPtReplyRead (fn : Fin 32) (ring : Fin 16) (value : Word) (hs : HostMemoryForm s) :
    Forms (execPtReplyRead fn ring value s) :=
  forms_ifDue hs (form_replyRead _ _ _ hs)

theorem form_laneEnable (fn k : Nat) (hs : HostMemoryForm s) : HostMemoryForm (laneEnable fn k s) := by
  unfold laneEnable
  split
  · exact hs
  · exact form_State_modLane _ _ _ hs

theorem form_cancelWaiting (c : Cmd) (hs : HostMemoryForm s) : HostMemoryForm (cancelWaiting c s) := by
  unfold cancelWaiting
  dsimp only
  refine form_finish _ _ _ (form_mk rfl (form_each _ (fun _ _ hu => ?_) ?_))
  · exact form_kept (frame_retractLoad _) rfl hu
  · refine form_each _ (fun _ _ hu => ?_) (form_mk rfl hs)
    split
    · exact form_kept (frame_State_modTile _ _ _) rfl hu
    · exact hu

theorem form_withdraw (c : Cmd) (hs : HostMemoryForm s) : HostMemoryForm (withdraw c s) := by
  unfold withdraw
  split
  · exact form_finish _ _ _ (form_kept (frame_returnSet _) rfl hs)
  · exact form_cancelWaiting _ hs

theorem form_laneDisable (fn k : Nat) (hs : HostMemoryForm s) : HostMemoryForm (laneDisable fn k s) := by
  unfold laneDisable
  split
  · exact hs
  · dsimp only
    exact form_each _ (fun _ _ hu => form_withdraw _ hu) (form_State_modLane _ _ _ hs)

theorem form_replyEnable (fn k : Nat) (hs : HostMemoryForm s) : HostMemoryForm (replyEnable fn k s) := by
  unfold replyEnable
  split
  · exact hs
  · exact form_State_modLane _ _ _ hs

theorem form_replyDisable (fn k : Nat) (hs : HostMemoryForm s) : HostMemoryForm (replyDisable fn k s) := by
  unfold replyDisable
  dsimp only
  split
  · exact hs
  · refine form_each _ (fun _ _ hu => ?_) (form_State_modLane _ _ _ hs)
    split
    · exact form_kept (frame_raisePart _ _ _) rfl (form_kept (frame_count _ _) rfl hu)
    · exact form_kept (frame_traceOnly _ _ _ _ _ _ _ _) rfl (form_kept (frame_count _ _) rfl hu)

theorem forms_execLaneEnable (fn : Fin 32) (lane : Fin 16) (hs : HostMemoryForm s) : Forms (execLaneEnable fn lane s) :=
  forms_ifDue hs (form_laneEnable _ _ hs)

theorem forms_execLaneDisable (fn : Fin 32) (lane : Fin 16) (hs : HostMemoryForm s) : Forms (execLaneDisable fn lane s) :=
  forms_ifDue hs (form_laneDisable _ _ hs)

theorem forms_execReplyEnable (fn : Fin 32) (ring : Fin 16) (hs : HostMemoryForm s) : Forms (execReplyEnable fn ring s) :=
  forms_ifDue hs (form_replyEnable _ _ hs)

theorem form_writeLane (fn k o : Nat) (v : Word) (hs : HostMemoryForm s) : HostMemoryForm (writeLane fn k o v s) := by
  unfold writeLane
  dsimp only
  split
  · split
    · refine form_replyEnable _ _ ?_
      split
      · refine form_laneEnable _ _ ?_
        split
        · exact form_State_modLane _ _ _ hs
        · exact hs
      · refine form_laneDisable _ _ ?_
        split
        · exact form_State_modLane _ _ _ hs
        · exact hs
    · refine form_replyDisable _ _ ?_
      split
      · refine form_laneEnable _ _ ?_
        split
        · exact form_State_modLane _ _ _ hs
        · exact hs
      · refine form_laneDisable _ _ ?_
        split
        · exact form_State_modLane _ _ _ hs
        · exact hs
  · split
    · exact form_State_modLane _ _ _ hs
    · exact hs
  · split
    · exact form_State_modLane _ _ _ hs
    · exact hs
  · split
    · exact form_State_modLane _ _ _ hs
    · exact hs
  · split
    · exact form_State_modLane _ _ _ hs
    · exact hs
  · split
    · exact form_State_modLane _ _ _ hs
    · exact hs
  · split
    · exact form_State_modLane _ _ _ hs
    · exact hs
  · split
    · exact form_State_modLane _ _ _ hs
    · exact hs
  · split
    · exact form_State_modLane _ _ _ hs
    · exact hs
  · split
    · exact form_State_modLane _ _ _ hs
    · exact hs
  · split
    · exact form_State_modLane _ _ _ hs
    · exact hs
  · split
    · exact form_State_modLane _ _ _ hs
    · exact hs
  · exact form_replyRead _ _ _ hs
  · exact hs

theorem form_pushWord (fn k n i : Nat) (v : Word) (hs : HostMemoryForm s) : HostMemoryForm (pushWord fn k n i v s) := by
  unfold pushWord
  dsimp only
  split
  · exact hs
  · exact form_State_modLane _ _ _ hs

theorem form_pushWords (fn off : Nat) (data : List Word) (hs : HostMemoryForm s) : HostMemoryForm (pushWords fn off data s) := by
  induction data generalizing s off with
  | nil => exact hs
  | cons v r ih => exact ih _ (form_pushWord _ _ _ _ _ hs)

theorem form_pushWrite (fn off : Nat) (data : List Word) (hs : HostMemoryForm s) : HostMemoryForm (pushWrite fn off data s) :=
  form_pushWords _ _ _ (form_kept (frame_count _ _) rfl hs)

theorem forms_execPushWindowWrite (fn : Fin 32) (offset : BitVec 20) (data : List Word) (hs : HostMemoryForm s) :
    Forms (execPushWindowWrite fn offset data s) := by
  unfold execPushWindowWrite
  refine forms_checked ?_
  split
  · exact form_pushWrite _ _ _ hs
  · exact hs

theorem forms_execPullRingPoll (fn : Fin 32) (lane : Fin 16) (hs : HostMemoryForm s) : Forms (execPullRingPoll fn lane s) := by
  unfold execPullRingPoll
  dsimp only
  exact forms_ifDue hs (form_State_modLane _ _ _ hs)

theorem form_writeQuiesce (v : Word) (hs : HostMemoryForm s) : HostMemoryForm (writeQuiesce v s) := by
  unfold writeQuiesce
  refine form_each _ (fun _ _ hu => ?_) hs
  split
  · exact form_quiesceCore _ hu
  · split
    · exact form_kept (frame_unquiesceCore _) rfl hu
    · exact hu

theorem form_writeGlobal (off : Nat) (v : Word) (hs : HostMemoryForm s) : HostMemoryForm (writeGlobal off v s) := by
  unfold writeGlobal
  split
  · exact form_writeLane _ _ _ _ hs
  · split
    · exact form_writeMsix _ _ _ hs
    · split
      · exact form_kept (frame_writeTbCtrl _) rfl hs
      · exact form_kept (frame_writePowerCtrl _) rfl hs
      · exact form_writeQuiesce _ hs
      · exact form_kept (frame_alertClear _) rfl hs
      · split
        · split
          · exact form_kept (frame_stageReg _ _ _ _) rfl hs
          · exact form_kept (frame_State_setReg _ _) rfl hs
        · exact hs

theorem form_writeReg (fn off : Nat) (v : Word) (hs : HostMemoryForm s) : HostMemoryForm (writeReg fn off v s) := by
  unfold writeReg
  split
  · split
    · exact form_writeGlobal _ _ hs
    · split
      · exact form_kept (frame_writePart _ _ _) rfl hs
      · exact hs
  · split
    · split
      · split
        · exact form_writeLane _ _ _ _ hs
        · split
          · exact form_writeMsix _ _ _ hs
          · exact form_kept (frame_writePart _ _ _) rfl hs
      · exact hs
    · exact hs

theorem forms_execRegisterWrite (fn : Fin 32) (offset : BitVec 20) (wide : Bool) (value : BitVec 64) (hs : HostMemoryForm s) :
    Forms (execRegisterWrite fn offset wide value s) := by
  unfold execRegisterWrite
  refine forms_checked ?_
  split
  · dsimp only
    split
    · exact form_writeReg _ _ _ (form_writeReg _ _ _ hs)
    · exact form_writeReg _ _ _ hs
  · exact hs

theorem form_startCmd {go : Perform} (hgo : ∀ c u, HostMemoryForm u → HostMemoryForm (go c u)) (c : Cmd) (hs : HostMemoryForm s) :
    HostMemoryForm (startCmd go c s) := by
  unfold startCmd
  extract_lets wakes
  split
  · exact form_kept (frame_setWait _ _) rfl hs
  split
  · exact form_finish _ _ _ hs
  split
  · exact form_kept (frame_wake _) rfl hs
  · exact hgo _ _ (form_kept (frame_setWait _ _) rfl hs)

theorem form_proceed {go : Perform} (hgo : ∀ c u, HostMemoryForm u → HostMemoryForm (go c u)) (c : Cmd) (hs : HostMemoryForm s) :
    HostMemoryForm (proceed go c s) := by
  unfold proceed
  extract_lets n
  split
  · split
    · exact form_finish _ _ _ hs
    · exact form_kept (frame_setWait _ _) rfl hs
  · exact form_startCmd hgo c hs

theorem form_take {go : Perform} (hgo : ∀ c u, HostMemoryForm u → HostMemoryForm (go c u)) (h : Hdr) (op : Nat) (w : List Word)
    (lenOk resOk : Bool) (hs : HostMemoryForm s) : HostMemoryForm (take go h op w lenOk resOk s) := by
  unfold take
  split
  · exact form_kept (frame_noRing _) rfl hs
  extract_lets s1
  have h1 : HostMemoryForm s1 := form_kept (frame_traceOnly _ _ _ _ _ _ _ _) rfl hs
  split
  · exact form_answer _ _ _ _ h1
  · split
    · exact form_kept (frame_setWait _ _) rfl (form_State_modLane _ _ _ (form_kept (frame_State_modPre _) rfl h1))
    · exact form_proceed hgo _ (form_kept (frame_State_modPre _) rfl h1)

/-- The packet a lane takes next moves the consumer index in host memory at most (R275). -/
theorem form_nextPacket (fn k : Nat) {ws : List Word} (e : nextPacket fn k s = some (ws, t)) (hs : HostMemoryForm s) :
    HostMemoryForm t := by
  unfold nextPacket at e
  extract_lets l at e
  split at e
  · split at e
    · cases e
      split
      · exact form_State_hostWrite _ _ (form_State_modLane _ _ _ hs)
      · exact form_State_modLane _ _ _ hs
    · cases e
  · split at e
    · cases e
      exact form_State_modLane _ _ _ hs
    · cases e

theorem form_packetTake {go : Perform} (hgo : ∀ c u, HostMemoryForm u → HostMemoryForm (go c u)) (fn : Fin 32) (lane : Fin 16)
    (hs : HostMemoryForm s) : HostMemoryForm (packetTake go fn lane s) := by
  unfold packetTake
  split
  next e => exact form_take hgo _ _ _ _ _ (form_nextPacket _ _ e hs)
  · exact hs

theorem form_unpark {go : Perform} (hgo : ∀ c u, HostMemoryForm u → HostMemoryForm (go c u)) (hs : HostMemoryForm s) :
    HostMemoryForm (unpark go s) := form_each _ (fun c _ hu => form_startCmd hgo c hu) hs

theorem form_stage (c : Cmd) (payload : List Word) (hs : HostMemoryForm s) : HostMemoryForm (stage c payload s) := by
  unfold stage
  dsimp only
  split
  · exact form_finish _ _ _ hs
  · split
    · exact form_kept (frame_setWait _ _) rfl (form_kept (frame_State_modPre _) rfl (form_each _
        (fun _ _ hu => form_finishOpt _ _ _ hu) hs))
    · exact form_finish _ _ _ (form_kept (frame_State_modPre _) rfl (form_each _ (fun _ _ hu => form_finishOpt _ _ _ hu) hs))

theorem form_partOver (rid i : Nat) (hs : HostMemoryForm s) : HostMemoryForm (partOver rid i s) := by
  unfold partOver
  split
  · dsimp only
    split
    · exact form_endWindow _ (form_kept (frame_State_modCtx _ _) rfl (form_kept (frame_State_setRun _ _) rfl (form_kept
        (frame_State_setRun _ _) rfl hs)))
    · exact form_kept (frame_State_setRun _ _) rfl hs
  · exact hs

theorem form_leavePart (core q : Nat) (hs : HostMemoryForm s) : HostMemoryForm (leavePart core q s) := by
  unfold leavePart
  split
  · split
    · dsimp only
      refine form_partOver _ _ (form_kept (frame_traceOnly _ _ _ _ _ _ _ _) rfl (form_kept (frame_dropQueue _ _) rfl
        (form_kept (frame_count _ _) rfl (form_kept (frame_State_modCtx _ _) rfl ?_))))
      split
      · exact form_kept (frame_State_setCtx _ _) rfl hs
      · exact hs
    · exact form_kept (frame_dropQueue _ _) rfl hs
  · exact hs

theorem form_enterPart (n rid i q : Nat) (hs : HostMemoryForm s) : HostMemoryForm (enterPart n rid i q s) := by
  unfold enterPart
  split
  · split
    · dsimp only
      split
      · refine form_leavePart _ _ (form_kept (frame_State_setQueue _ _ _) rfl (form_kept (frame_State_modCore _ _) rfl
          (form_kept (frame_traceOnly _ _ _ _ _ _ _ _) rfl (form_kept (frame_count _ _) rfl (form_kept
            (frame_unparkSlots _ _) rfl ?_)))))
        split
        · split
          · refine form_kept (frame_putAct _ _ _) rfl ?_
            split
            · exact form_kept (frame_putAct _ _ _) rfl (form_kept (frame_putAct _ _ _) rfl (form_kept (frame_putAct _ _ _) rfl
                (form_kept (frame_State_setCtx _ _) rfl hs)))
            · exact form_kept (frame_putAct _ _ _) rfl (form_kept (frame_putAct _ _ _) rfl (form_kept
                (frame_State_setCtx _ _) rfl hs))
          · split
            · exact form_kept (frame_putAct _ _ _) rfl (form_kept (frame_putAct _ _ _) rfl (form_kept (frame_putAct _ _ _) rfl
                (form_kept (frame_State_setCtx _ _) rfl hs)))
            · exact form_kept (frame_putAct _ _ _) rfl (form_kept (frame_putAct _ _ _) rfl (form_kept
                (frame_State_setCtx _ _) rfl hs))
        · split
          · exact form_kept (frame_putAct _ _ _) rfl (form_kept (frame_putAct _ _ _) rfl (form_kept (frame_putAct _ _ _) rfl
              (form_kept (frame_State_setCtx _ _) rfl hs)))
          · exact form_kept (frame_putAct _ _ _) rfl (form_kept (frame_putAct _ _ _) rfl (form_kept
              (frame_State_setCtx _ _) rfl hs))
      · refine form_kept (frame_State_setQueue _ _ _) rfl (form_kept (frame_State_modCore _ _) rfl (form_kept
          (frame_traceOnly _ _ _ _ _ _ _ _) rfl (form_kept (frame_count _ _) rfl (form_kept (frame_unparkSlots _ _) rfl ?_))))
        split
        · split
          · refine form_kept (frame_putAct _ _ _) rfl ?_
            split
            · exact form_kept (frame_putAct _ _ _) rfl (form_kept (frame_putAct _ _ _) rfl (form_kept (frame_putAct _ _ _) rfl
                (form_kept (frame_State_setCtx _ _) rfl hs)))
            · exact form_kept (frame_putAct _ _ _) rfl (form_kept (frame_putAct _ _ _) rfl (form_kept
                (frame_State_setCtx _ _) rfl hs))
          · split
            · exact form_kept (frame_putAct _ _ _) rfl (form_kept (frame_putAct _ _ _) rfl (form_kept (frame_putAct _ _ _) rfl
                (form_kept (frame_State_setCtx _ _) rfl hs)))
            · exact form_kept (frame_putAct _ _ _) rfl (form_kept (frame_putAct _ _ _) rfl (form_kept
                (frame_State_setCtx _ _) rfl hs))
        · split
          · exact form_kept (frame_putAct _ _ _) rfl (form_kept (frame_putAct _ _ _) rfl (form_kept (frame_putAct _ _ _) rfl
              (form_kept (frame_State_setCtx _ _) rfl hs)))
          · exact form_kept (frame_putAct _ _ _) rfl (form_kept (frame_putAct _ _ _) rfl (form_kept
              (frame_State_setCtx _ _) rfl hs))
    · exact hs
  · exact hs

theorem form_enterAll (x : Cand) (hs : HostMemoryForm s) : HostMemoryForm (enterAll x s) := by
  unfold enterAll
  refine form_each _ (fun _ _ hu => ?_) hs
  split
  · exact form_enterPart _ _ _ _ hu
  · exact hu

theorem form_dispatch (x : Cand) (hs : HostMemoryForm s) : HostMemoryForm (dispatch x s) := by
  unfold dispatch
  split
  · dsimp only
    refine form_enterAll _ (form_kept (frame_traceOnly _ _ _ _ _ _ _ _) rfl ?_)
    split
    · exact form_kept (frame_State_modFlows _) rfl (form_kept (frame_State_setCtx _ _) rfl hs)
    · exact form_kept (frame_count _ _) rfl (form_kept (frame_count _ _) rfl (form_kept (frame_State_modFlows _) rfl
        (form_kept (frame_State_setCtx _ _) rfl hs)))
  · exact hs

theorem form_place (p : Nat) (x : Cand) (hs : HostMemoryForm s) : HostMemoryForm (place p x s) := by
  unfold place
  split
  · exact form_dispatch _ hs
  · exact form_enterAll _ (form_kept (frame_count _ _) rfl hs)

theorem form_coreCancels (p : Nat) (hs : HostMemoryForm s) : HostMemoryForm (coreCancels p s) := by
  unfold coreCancels
  refine form_each _ (fun _ _ hu => ?_) hs
  split
  · split
    · dsimp only
      exact form_cancelRun _ _ _ (form_kept (frame_State_modFlows _) rfl (form_kept (frame_State_setCtx _ _) rfl hu))
    · exact hu
  · exact hu

theorem form_slice (p : Nat) (hs : HostMemoryForm s) : HostMemoryForm (slice p s) := by
  unfold slice
  dsimp only
  refine form_kept (frame_prefetch _) rfl (form_kept (frame_preempt _) rfl ?_)
  split
  · exact form_place _ _ (form_coreCancels _ (form_kept (frame_lateDrops _) rfl hs))
  · exact form_coreCancels _ (form_kept (frame_lateDrops _) rfl hs)

theorem form_entryWatchdog (n rid i : Nat) (hs : HostMemoryForm s) : HostMemoryForm (entryWatchdog n rid i s) := by
  unfold entryWatchdog
  split
  · split
    · dsimp only
      exact form_abandonRun _ _ _ _ _ (form_kept (frame_count _ _) rfl (form_kept (frame_raiseWatchdog _ _ _ _ _ _) rfl hs))
    · exact hs
  · exact hs

theorem forms_execFlowEntryWatchdog (part : Fin 8) (line : Fin 16384) (hs : HostMemoryForm s) :
    Forms (execFlowEntryWatchdog part line s) := by
  unfold execFlowEntryWatchdog
  split
  · split
    · split
      · split
        · exact forms_ifDue hs (form_entryWatchdog _ _ _ hs)
        · exact forms_next hs
      · exact forms_next hs
    · exact forms_next hs
  · exact forms_next hs

theorem form_stepDone (core q : Nat) (hs : HostMemoryForm s) : HostMemoryForm (stepDone core q s) := by
  unfold stepDone
  split
  · dsimp only
    split
    · exact form_leavePart _ _ (form_kept (frame_State_setQueue _ _ _) rfl (form_kept (frame_traceStep _ _ _ _) rfl hs))
    · exact form_kept (frame_State_setQueue _ _ _) rfl (form_kept (frame_traceStep _ _ _ _) rfl hs)
  · exact hs

theorem form_release (core q counter e v : Nat) (shared : Bool) (hs : HostMemoryForm s) :
    HostMemoryForm (release core q counter e v shared s) := by
  unfold release
  split
  · exact form_stepDone _ _ (form_kept (frame_traceOnly _ _ _ _ _ _ _ _) rfl hs)
  · exact hs

theorem form_releaseAll (core n counter : Nat) (hs : HostMemoryForm s) : HostMemoryForm (releaseAll core n counter s) := by
  unfold releaseAll
  split
  · dsimp only
    split
    · exact form_kept (frame_raisePart _ _ _) rfl (form_kept (frame_count _ _) rfl (form_each _
        (fun _ _ hu => form_release _ _ _ _ _ _ hu) hs))
    · exact form_each _ (fun _ _ hu => form_release _ _ _ _ _ _ hu) hs
  · exact hs

theorem form_signalAt (core n counter inc : Nat) (hs : HostMemoryForm s) : HostMemoryForm (signalAt core n counter inc s) := by
  unfold signalAt
  split
  · exact form_releaseAll _ _ _ (form_kept (frame_count _ _) rfl (form_kept (frame_addV _ _ _ _) rfl hs))
  · exact form_kept (frame_State_modFlows _) rfl hs

theorem forms_execSignal (core : Fin 32) (queue : Fin 4) (hs : HostMemoryForm s) : Forms (execSignal core queue s) := by
  unfold execSignal
  split
  · split
    · refine forms_ifDue hs ?_
      dsimp only
      split
      · exact form_stepDone _ _ (form_signalAt _ _ _ _ (form_kept (frame_traceStep _ _ _ _) rfl hs))
      · exact form_stepDone _ _ (form_kept (frame_sendLadle _ _) rfl (form_kept (frame_traceStep _ _ _ _) rfl hs))
    · exact forms_next hs
  · exact forms_next hs

theorem forms_execWait (core : Fin 32) (queue : Fin 4) (hs : HostMemoryForm s) : Forms (execWait core queue s) := by
  unfold execWait
  split
  · split
    · refine forms_ifDue hs ?_
      dsimp only
      split
      · split
        · exact form_stepDone _ _ (form_kept (frame_count _ _) rfl (form_kept (frame_traceStep _ _ _ _) rfl hs))
        · exact form_kept (frame_traceOnly _ _ _ _ _ _ _ _) rfl (form_kept (frame_stallQueue _ _ _) rfl (form_kept
            (frame_count _ _) rfl (form_kept (frame_traceStep _ _ _ _) rfl hs)))
      · split
        · exact form_stepDone _ _ (form_kept (frame_count _ _) rfl (form_kept (frame_traceStep _ _ _ _) rfl hs))
        · exact form_kept (frame_traceOnly _ _ _ _ _ _ _ _) rfl (form_kept (frame_stallQueue _ _ _) rfl (form_kept
            (frame_count _ _) rfl (form_kept (frame_traceStep _ _ _ _) rfl hs)))
    · exact forms_next hs
  · exact forms_next hs

theorem form_lidCore (line c : Nat) (hs : HostMemoryForm s) : HostMemoryForm (lidCore line c s) := by
  unfold lidCore
  dsimp only
  refine form_each _ (fun _ _ hu => ?_) ?_
  · exact form_stepDone _ _ hu
  · refine form_kept (frame_dropArrival _ _) rfl (form_each _ (fun _ _ hu => ?_) (form_kept (frame_count _ _) rfl hs))
    split
    · split
      · exact form_kept (frame_State_modCtx _ _) rfl hu
      · exact hu
    · exact hu

theorem forms_execLidEdge (line : Fin 16) (hs : HostMemoryForm s) : Forms (execLidEdge line s) := by
  unfold execLidEdge
  refine forms_ifDue hs ?_
  dsimp only
  exact form_each _ (fun _ _ hu => form_lidCore _ _ hu) (form_kept (frame_traceOnly _ _ _ _ _ _ _ _) rfl hs)

theorem forms_execFenceAck (core : Fin 32) (queue : Fin 4) (hs : HostMemoryForm s) : Forms (execFenceAck core queue s) := by
  unfold execFenceAck
  split
  · split
    · refine forms_ifDue hs ?_
      dsimp only
      exact form_stepDone _ _ (form_kept (frame_traceOnly _ _ _ _ _ _ _ _) rfl (form_kept (frame_count _ _) rfl hs))
    · exact forms_next hs
  · exact forms_next hs

theorem form_flitFate (src dst : Nat) (f : FlitFate) (hs : HostMemoryForm s) : HostMemoryForm (flitFate src dst f s) := by
  unfold flitFate
  dsimp only
  split
  · exact form_attribute_ _ _ _ _ _ _ _ (form_kept (frame_count _ _) rfl (form_kept (frame_count _ _) rfl hs))
  · exact form_kept (frame_count _ _) rfl (form_kept (frame_count _ _) rfl hs)

theorem forms_execSignalArrival (src dst : Fin 32) (fate : FlitFate) (hs : HostMemoryForm s) :
    Forms (execSignalArrival src dst fate s) := by
  unfold execSignalArrival
  split
  · split
    · exact forms_ifDue hs (form_signalAt _ _ _ _ (form_flitFate _ _ _ (form_kept (frame_popRoute _ _) rfl hs)))
    · exact forms_next hs
  · exact forms_next hs

theorem forms_execStockpotSignalApply (core : Fin 32) (hs : HostMemoryForm s) : Forms (execStockpotSignalApply core s) := by
  unfold execStockpotSignalApply
  split
  · refine forms_ifDue hs ?_
    dsimp only
    split
    · exact form_releaseAll _ _ _ (form_kept (frame_addV _ _ _ _) rfl (form_kept (frame_count _ _) rfl (form_kept
        (frame_State_modFlows _) rfl hs)))
    · exact form_kept (frame_State_modFlows _) rfl hs
  · exact forms_next hs

theorem form_abandonPart (core q st : Nat) (hs : HostMemoryForm s) : HostMemoryForm (abandonPart core q st s) := by
  unfold abandonPart
  split
  · dsimp only
    exact form_partOver _ _ (form_kept (frame_traceOnly _ _ _ _ _ _ _ _) rfl (form_kept (frame_count _ _) rfl (form_kept
      (frame_State_modCtx _ _) rfl (form_kept (frame_State_modCore _ _) rfl (form_kept (frame_dropQueue _ _) rfl (form_kept
        (frame_State_modRun _ _) rfl hs))))))
  · exact hs

theorem form_queueWatchdog (core q : Nat) (hs : HostMemoryForm s) : HostMemoryForm (queueWatchdog core q s) := by
  unfold queueWatchdog
  split
  · dsimp only
    refine form_abandonPart _ _ _ ?_
    split
    · exact form_kept (frame_raiseWatchdog _ _ _ _ _ _) rfl hs
    · exact form_kept (frame_formRun _ _ _) rfl (form_kept (frame_raiseWatchdog _ _ _ _ _ _) rfl hs)
  · exact hs

theorem forms_execQueueWatchdog (core : Fin 32) (queue : Fin 4) (hs : HostMemoryForm s) :
    Forms (execQueueWatchdog core queue s) := by
  unfold execQueueWatchdog
  split
  · exact forms_ifDue hs (form_queueWatchdog _ _ hs)
  · exact forms_next hs

theorem form_runParam (core q func : Nat) (hs : HostMemoryForm s) : HostMemoryForm (runParam core q func s) := by
  unfold runParam
  split
  · dsimp only
    refine form_abandonPart _ _ _ ?_
    split
    · exact form_kept (frame_raisePart _ _ _) rfl hs
    · exact form_kept (frame_formRun _ _ _) rfl (form_kept (frame_raisePart _ _ _) rfl hs)
  · exact hs

theorem form_scoop (core q b : Nat) (h : Head) (l : Layer) (x : Loop) (hs : HostMemoryForm s) :
    HostMemoryForm (scoop core q b h l x s) := by
  unfold scoop
  dsimp only
  split
  · exact form_runParam _ _ _ hs
  · exact form_kept (frame_closeCoding _ _) rfl (form_kept (frame_addSat _ _ _) rfl (form_kept
      (frame_State_setQueue _ _ _) rfl (form_kept (frame_countGrps _ _ _ _) rfl hs)))

theorem form_advance (fuel core q : Nat) (hs : HostMemoryForm s) : HostMemoryForm (advance fuel core q s) := by
  induction fuel generalizing s with
  | zero => exact hs
  | succ f ih =>
    unfold advance
    split
    · split
      · split
        · split
          · split
            · exact hs
            · exact ih (form_kept (frame_sendPsums _ _ _ _ _ _) rfl hs)
          · exact form_kept (frame_readOut _ _ _ _ _ _) rfl hs
        · split
          · exact form_stepDone _ _ hs
          · exact hs
      · exact hs
    · exact hs

theorem forms_execScoopCodes (core : Fin 32) (queue : Fin 4) (hs : HostMemoryForm s) : Forms (execScoopCodes core queue s) := by
  unfold execScoopCodes
  split
  · split
    · split
      · exact forms_ifDue hs (form_advance _ _ _ (form_scoop _ _ _ _ _ _ hs))
      · exact forms_next hs
    · exact forms_next hs
  · exact forms_next hs

theorem forms_execWorkClaimReply (core : Fin 32) (queue : Fin 4) (hs : HostMemoryForm s) :
    Forms (execWorkClaimReply core queue s) := by
  unfold execWorkClaimReply
  dsimp only
  split
  · refine forms_ifDue hs ?_
    split
    · split
      · exact form_stepDone _ _ (form_kept (frame_State_modFlows _) rfl hs)
      · split
        · exact form_advance _ _ _ (form_kept (frame_closeCoding _ _) rfl (form_kept (frame_State_setQueue _ _ _) rfl
            (form_kept (frame_State_modFlows _) rfl hs)))
        · exact form_kept (frame_State_modFlows _) rfl hs
      · exact form_kept (frame_State_modFlows _) rfl hs
    · exact form_kept (frame_State_modFlows _) rfl hs
  · exact forms_next hs

theorem form_commitOp (core : Nat) (op : TileOp) (lanes : Tbl Int) (hs : HostMemoryForm s) :
    HostMemoryForm (commitOp core op lanes s) := by
  unfold commitOp
  dsimp only
  split
  · exact form_kept (frame_count _ _) rfl hs
  · split
    · split
      · exact form_kept (frame_count _ _) rfl hs
      · refine form_advance _ _ _ ?_
        split
        · exact form_kept (frame_setCompleted _ _ _ _ _) rfl (form_kept (frame_progress _ _) rfl (form_kept
            (frame_count _ _) rfl (form_kept (frame_putSlot _ _ _ _ _ _) rfl hs)))
        · exact form_kept (frame_progress _ _) rfl (form_kept (frame_count _ _) rfl (form_kept
            (frame_putSlot _ _ _ _ _ _) rfl hs))
    · exact hs

theorem form_issueOp (core q : Nat) (h : Head) (l : Layer) (x : Loop) (o : Nat × Nat × Nat) (t : Templ) (c : Codes)
    (hs : HostMemoryForm s) : HostMemoryForm (issueOp core q h l x o t c s) := by
  unfold issueOp
  dsimp only
  split
  · refine form_kept (frame_claimNext _ _) rfl (form_commitOp _ _ _ ?_)
    split
    · exact form_kept (frame_addMark _ _ _) rfl (form_kept (frame_noteTiles _ _ _ _) rfl (form_kept
        (frame_State_modQueue _ _ _) rfl (form_each _ (fun _ _ hu => form_kept (frame_State_modTile _ _ _) rfl hu) hs)))
    · exact form_kept (frame_noteTiles _ _ _ _) rfl (form_kept (frame_State_modQueue _ _ _) rfl (form_each _
        (fun _ _ hu => form_kept (frame_State_modTile _ _ _) rfl hu) hs))
  · refine form_kept (frame_claimNext _ _) rfl (form_kept (frame_State_modCore _ _) rfl ?_)
    split
    · exact form_kept (frame_addMark _ _ _) rfl (form_kept (frame_noteTiles _ _ _ _) rfl (form_kept
        (frame_State_modQueue _ _ _) rfl (form_each _ (fun _ _ hu => form_kept (frame_State_modTile _ _ _) rfl hu) hs)))
    · exact form_kept (frame_noteTiles _ _ _ _) rfl (form_kept (frame_State_modQueue _ _ _) rfl (form_each _
        (fun _ _ hu => form_kept (frame_State_modTile _ _ _) rfl hu) hs))

theorem forms_execTileOpAdmit (core : Fin 32) (queue : Fin 4) (hs : HostMemoryForm s) :
    Forms (execTileOpAdmit core queue s) := by
  unfold execTileOpAdmit
  split
  · split
    · split
      · dsimp only
        split
        · split
          · exact forms_next (form_issueOp _ _ _ _ _ _ _ _ (form_some (by assumption) (frame_acquire _ _ _ _ _ _ _ _) rfl hs))
          · exact forms_next hs
        · exact forms_next hs
      · exact forms_next hs
    · exact forms_next hs
  · exact forms_next hs

theorem form_psumTake (dst rid b n slot : Nat) (parts : List Nat) (lanes : Tbl Int) (expMax accShift : Int) (total : Nat)
    (hs : HostMemoryForm s) : HostMemoryForm (psumTake dst rid b n slot parts lanes expMax accShift total s) := by
  unfold psumTake
  split
  · dsimp only
    split
    · split
      · split
        · exact form_kept (frame_dropPsum _ _ _ _ _ _) rfl hs
        · split
          · split
            · split
              · refine form_advance _ _ _ (form_kept (frame_progress _ _) rfl ?_)
                split
                · refine form_kept (frame_setCompleted _ _ _ _ _) rfl (form_kept (frame_count _ _) rfl (form_kept
                    (frame_putSlot _ _ _ _ _ _) rfl ?_))
                  split
                  · exact hs
                  · exact form_kept (frame_openForPsum _ _ _ _ _ _ _) rfl hs
                · refine form_kept (frame_count _ _) rfl (form_kept (frame_putSlot _ _ _ _ _ _) rfl ?_)
                  split
                  · exact hs
                  · exact form_kept (frame_openForPsum _ _ _ _ _ _ _) rfl hs
              · split
                · refine form_kept (frame_setCompleted _ _ _ _ _) rfl (form_kept (frame_count _ _) rfl (form_kept
                    (frame_putSlot _ _ _ _ _ _) rfl ?_))
                  split
                  · exact hs
                  · exact form_kept (frame_openForPsum _ _ _ _ _ _ _) rfl hs
                · refine form_kept (frame_count _ _) rfl (form_kept (frame_putSlot _ _ _ _ _ _) rfl ?_)
                  split
                  · exact hs
                  · exact form_kept (frame_openForPsum _ _ _ _ _ _ _) rfl hs
            · split
              · refine form_kept (frame_raisePart _ _ _) rfl (form_kept (frame_dropPsum _ _ _ _ _ _) rfl ?_)
                split
                · exact hs
                · exact form_kept (frame_openForPsum _ _ _ _ _ _ _) rfl hs
              · refine form_kept (frame_dropPsum _ _ _ _ _ _) rfl ?_
                split
                · exact hs
                · exact form_kept (frame_openForPsum _ _ _ _ _ _ _) rfl hs
          · split
            · exact hs
            · exact form_kept (frame_openForPsum _ _ _ _ _ _ _) rfl hs
      · exact form_kept (frame_dropPsum _ _ _ _ _ _) rfl hs
    · exact form_kept (frame_dropPsum _ _ _ _ _ _) rfl hs
  · exact form_kept (frame_dropPsum _ _ _ _ _ _) rfl hs

theorem forms_execPsumArrival (src dst : Fin 32) (fate : FlitFate) (hs : HostMemoryForm s) :
    Forms (execPsumArrival src dst fate s) := by
  unfold execPsumArrival
  split
  · split
    · exact forms_ifDue hs (form_psumTake _ _ _ _ _ _ _ _ _ _ (form_flitFate _ _ _ (form_kept (frame_popRoute _ _) rfl hs)))
    · exact forms_next hs
  · exact forms_next hs

theorem forms_execActivationArrival (src dst : Fin 32) (fate : FlitFate) (hs : HostMemoryForm s) :
    Forms (execActivationArrival src dst fate s) := by
  unfold execActivationArrival
  split
  · split
    · exact forms_ifDue hs (form_kept (frame_actTake _ _ _ _ _) rfl (form_flitFate _ _ _ (form_kept
        (frame_popRoute _ _) rfl hs)))
    · exact forms_next hs
  · exact forms_next hs

theorem form_applyPins (l : List RegWrite) (hs : HostMemoryForm s) : HostMemoryForm (applyPins l s) := by
  unfold applyPins
  refine form_each _ (fun _ _ hu => ?_) hs
  dsimp only
  refine form_kept (frame_State_setReg _ _) rfl ?_
  split
  · exact form_suppressPin _ hu
  · exact hu

theorem form_applyRegs (tick : Nat) (l : List RegWrite) (hs : HostMemoryForm s) : HostMemoryForm (applyRegs tick l s) := by
  unfold applyRegs
  dsimp only
  refine form_kept (frame_switchLinks _) rfl (form_each _ (fun _ _ hu => ?_) ?_)
  · exact form_kept (frame_applyPage _ _ _) rfl hu
  · refine form_applyPins _ (form_kept (frame_putRegs _) rfl ?_)
    split
    · split
      · exact form_kept (frame_applyPot _) rfl hs
      · exact form_kept (frame_applyMem _) rfl (form_kept (frame_applyPot _) rfl hs)
    · split
      · exact form_kept (frame_applyPot _) rfl (form_kept (frame_applyParts _) rfl hs)
      · exact form_kept (frame_applyMem _) rfl (form_kept (frame_applyPot _) rfl (form_kept (frame_applyParts _) rfl hs))

theorem form_closeCheck (rid : Nat) (hs : HostMemoryForm s) : HostMemoryForm (closeCheck rid s) :=
  form_settleRun _ (form_kept (frame_State_modRun _ _) rfl hs)

theorem form_closeJoin (core : Nat) (op : TileOp) (hs : HostMemoryForm s) : HostMemoryForm (closeJoin core op s) := by
  unfold closeJoin
  split
  · split
    · dsimp only
      split
      · exact form_closeCheck _ (form_kept (frame_dropJoin _ _) rfl hs)
      · exact form_commitOp _ _ _ (form_kept (frame_dropJoin _ _) rfl hs)
    · exact hs
  · exact hs

theorem form_commitEarly (core : Nat) (op : TileOp) (hs : HostMemoryForm s) : HostMemoryForm (commitEarly core op s) := by
  unfold commitEarly
  split
  · dsimp only
    split
    · exact hs
    · split
      · exact form_commitOp _ _ _ (form_kept (frame_openCheck _) rfl (form_kept (frame_putJoin _ _) rfl hs))
      · exact hs
  · exact hs

theorem form_finishHalf (core : Nat) (op : TileOp) (lanes : Tbl Int) (hs : HostMemoryForm s) :
    HostMemoryForm (finishHalf core op lanes s) := by
  unfold finishHalf
  split
  · dsimp only
    split
    · split
      · exact form_closeJoin _ _ (form_kept (frame_settleHalf _ _ _) rfl (form_commitEarly _ _ (form_kept
          (frame_putJoin _ _) rfl hs)))
      · exact form_commitEarly _ _ (form_kept (frame_putJoin _ _) rfl hs)
    · exact form_commitEarly _ _ (form_kept (frame_putJoin _ _) rfl hs)
  · exact hs

theorem form_grossFault (core t : Nat) (op : TileOp) (outcome detail : Nat) (hs : HostMemoryForm s) :
    HostMemoryForm (grossFault core t op outcome detail s) :=
  form_attribute_ _ _ _ _ _ _ _ hs

theorem form_settleOp (core t : Nat) (op : TileOp) (failed : List Nat) (detail : Nat) (hs : HostMemoryForm s) :
    HostMemoryForm (settleOp core t op failed detail s) := by
  unfold settleOp
  extract_lets lanes clear again
  have hc (u : State) (hu : HostMemoryForm u) : HostMemoryForm (clear u) := by
    simp only [clear]
    split
    · exact form_kept (frame_putJoin _ _) rfl hu
    · exact hu
  have ha (u : State) (hu : HostMemoryForm u) : HostMemoryForm (again u) :=
    form_kept (frame_count _ _) rfl (form_kept (frame_State_modTile _ _ _) rfl hu)
  split
  · refine form_finishHalf _ _ _ ?_
    split
    · exact hs
    · exact form_grossFault _ _ _ _ _ hs
  split
  · exact form_finishHalf _ _ _ hs
  · extract_lets s1
    have h1 : HostMemoryForm s1 := form_grossFault _ _ _ _ _ hs
    split
    · exact form_closeCheck _ h1
    · exact form_finishHalf _ _ _ h1
  · split
    · exact ha _ (form_kept (frame_opMark _ _ _) rfl (form_finishHalf _ _ _ (form_kept (frame_openCheck _) rfl hs)))
    · exact ha _ (hc s hs)
  · exact form_kept (frame_State_modCore _ _) rfl (hc s hs)

theorem form_endOp (core t : Nat) (op : TileOp) (failed : List Nat) (detail : Nat) (hs : HostMemoryForm s) :
    HostMemoryForm (endOp core t op failed detail s) :=
  form_settleOp _ _ _ _ _ (form_kept (frame_State_modCore _ _) rfl hs)

theorem form_beginOp (core t : Nat) (op : TileOp) (hs : HostMemoryForm s) : HostMemoryForm (beginOp core t op s) := by
  unfold beginOp
  dsimp only
  split
  · exact form_endOp _ _ _ _ _ (form_kept (frame_tileCount _ _ _ _) rfl (form_kept (frame_tileCount _ _ _ _) rfl (form_kept
      (frame_tileCount _ _ _ _) rfl (form_kept (frame_tileCount _ _ _ _) rfl (form_kept (frame_State_modTile _ _ _) rfl hs)))))
  · exact form_kept (frame_tileCount _ _ _ _) rfl (form_kept (frame_State_modTile _ _ _) rfl (form_kept
      (frame_tileCount _ _ _ _) rfl (form_kept (frame_tileCount _ _ _ _) rfl (form_kept (frame_tileCount _ _ _ _) rfl
        (form_kept (frame_tileCount _ _ _ _) rfl (form_kept (frame_State_modTile _ _ _) rfl hs))))))

theorem forms_execPhaseStart (core : Fin 32) (tile : Fin 33) (hs : HostMemoryForm s) : Forms (execPhaseStart core tile s) := by
  unfold execPhaseStart
  dsimp only
  split
  · split
    · exact forms_ifDue hs (form_kept (frame_tileCount _ _ _ _) rfl (form_kept (frame_State_modTile _ _ _) rfl hs))
    · exact forms_next hs
  · split
    · exact forms_ifDue hs (form_beginOp _ _ _ hs)
    · exact forms_next hs

theorem form_latch (core t : Nat) (r : Running) (p : Phase) (dev : List (Nat × Int)) (hs : HostMemoryForm s) :
    HostMemoryForm (latch core t r p dev s) := by
  unfold latch
  dsimp only
  split
  · exact form_kept (frame_tileCount _ _ _ _) rfl (form_kept (frame_State_modTile _ _ _) rfl (form_kept
      (frame_State_modTile _ _ _) rfl (form_kept (frame_State_nextDraw) rfl hs)))
  · split
    · refine form_endOp _ _ _ _ _ (form_kept (frame_State_modTile _ _ _) rfl (form_kept (frame_accumulate _ _ _ _ _) rfl
        (form_kept (frame_judgeAll _ _ _ _) rfl ?_)))
      split
      · exact form_kept (frame_tileCount _ _ _ _) rfl (form_kept (frame_opMark _ _ _) rfl (form_kept (frame_opSat _ _ _) rfl
          (form_kept (frame_State_modTile _ _ _) rfl (form_kept (frame_State_nextDraw) rfl hs))))
      · exact form_kept (frame_State_modTile _ _ _) rfl (form_kept (frame_State_nextDraw) rfl hs)
    · refine form_kept (frame_State_modTile _ _ _) rfl (form_kept (frame_accumulate _ _ _ _ _) rfl (form_kept
        (frame_judgeAll _ _ _ _) rfl ?_))
      split
      · exact form_kept (frame_tileCount _ _ _ _) rfl (form_kept (frame_opMark _ _ _) rfl (form_kept (frame_opSat _ _ _) rfl
          (form_kept (frame_State_modTile _ _ _) rfl (form_kept (frame_State_nextDraw) rfl hs))))
      · exact form_kept (frame_State_modTile _ _ _) rfl (form_kept (frame_State_nextDraw) rfl hs)

theorem forms_execPhaseLatch (core : Fin 32) (tile : Fin 33) (dev : List (Nat × Int)) (hs : HostMemoryForm s) :
    Forms (execPhaseLatch core tile dev s) := by
  unfold execPhaseLatch
  split
  · split
    · split
      · exact forms_ifDue hs (form_latch _ _ _ _ _ hs)
      · exact forms_next hs
    · exact forms_next hs
  · exact forms_fault _

theorem form_disputeFaults (core t : Nat) (op : TileOp) (blocks : List Nat) (first second : List KatReading)
    (hs : HostMemoryForm s) : HostMemoryForm (disputeFaults core t op blocks first second s) := by
  unfold disputeFaults
  dsimp only
  split
  · exact form_grossFault _ _ _ _ _ (form_kept (frame_count _ _) rfl (form_kept (frame_count _ _) rfl hs))
  · refine form_each _ (fun _ _ hu => ?_) (form_kept (frame_count _ _) rfl (form_kept (frame_count _ _) rfl hs))
    split
    · exact form_attribute_ _ _ _ _ _ _ _ hu
    · exact hu

theorem form_disputeDone (core t : Nat) (op : TileOp) (blocks : List Nat) (first second : List KatReading)
    (hs : HostMemoryForm s) : HostMemoryForm (disputeDone core t op blocks first second s) := by
  unfold disputeDone
  dsimp only
  split
  · refine form_closeCheck _ ?_
    split
    · exact form_kept (frame_opMark _ _ _) rfl (form_disputeFaults _ _ _ _ _ _ hs)
    · exact form_disputeFaults _ _ _ _ _ _ hs
  · refine form_finishHalf _ _ _ (form_kept (frame_count _ _) rfl (form_kept (frame_count _ _) rfl ?_))
    split
    · exact form_kept (frame_opMark _ _ _) rfl (form_disputeFaults _ _ _ _ _ _ hs)
    · exact form_disputeFaults _ _ _ _ _ _ hs

theorem form_assuredLane (core h c : Nat) (j : Join) (hs : HostMemoryForm s) : HostMemoryForm (assuredLane core h c j s).2.2 :=
  form_each _ (fun _ _ hu => form_attribute_ _ _ _ _ _ _ _ hu) hs

theorem form_assuredDone (core : Nat) (op : TileOp) (lanes : List Nat) (hs : HostMemoryForm s) :
    HostMemoryForm (assuredDone core op lanes s) := by
  unfold assuredDone
  split
  · extract_lets h r s1
    have hr : HostMemoryForm r.2.2 :=
      List.foldlRecOn (motive := fun a : Tbl Int × Bool × State => HostMemoryForm a.2.2) lanes _
        (form_kept (frame_count _ _) rfl hs) (fun a ha c _ => form_assuredLane _ _ _ _ ha)
    have h1 : HostMemoryForm s1 := by
      simp only [s1]
      split
      · exact form_kept (frame_opMark _ _ _) rfl hr
      · exact hr
    split
    · exact form_closeJoin _ _ (form_kept (frame_putJoin _ _) rfl h1)
    · exact h1
  · exact hs

theorem forms_execTongsDone (core : Fin 32) (first second : List KatReading) (hs : HostMemoryForm s) :
    Forms (execTongsDone core first second s) := by
  unfold execTongsDone
  split
  · split
    · refine forms_ifDue hs ?_
      dsimp only
      split
      · exact form_disputeDone _ _ _ _ _ _ (form_kept (frame_State_modCore _ _) rfl hs)
      · exact form_assuredDone _ _ _ (form_kept (frame_State_modCore _ _) rfl hs)
      · exact form_kept (frame_goldenDone _ _ _) rfl (form_kept (frame_State_modCore _ _) rfl hs)
    · exact forms_next hs
  · exact forms_fault _

theorem form_fireRules (k : Pkt) (hits : List (Nat × Nat)) (hs : HostMemoryForm s) : HostMemoryForm (fireRules k hits s) :=
  form_each _ (fun _ _ hu => form_schedulePin _ _ _ hu) hs

theorem form_formResult (rid fmt item : Nat) (payload : Bytes) (golden : List DWord) (top1 : Option (Nat × Word))
    (hs : HostMemoryForm s) : HostMemoryForm (formResult rid fmt item payload golden top1 s) := by
  unfold formResult
  split
  · extract_lets p
    split
    · exact hs
    split
    next s1 k0 he =>
      have h1 : HostMemoryForm s1 := by
        have hw : HostMemoryForm (runPkt rid 1 [] s).1 := form_kept (frame_runPkt _ _ _) rfl hs
        rwa [he] at hw
      extract_lets marks k1 hits sn k s2 s3 s4
      have h2 : HostMemoryForm s2 := form_kept (frame_form _ _) rfl (form_kept (frame_count _ _) rfl (form_kept (frame_count _ _) rfl h1))
      have h3 : HostMemoryForm s3 := by
        simp only [s3]
        split
        · exact form_kept (frame_form _ _) rfl (form_kept (frame_State_modFunnel _ _) rfl h2)
        · exact h2
      have h4 : HostMemoryForm s4 := form_fireRules _ _ (form_kept (frame_noteRecord _ _) rfl h3)
      split
      · exact form_kept (frame_retractRec _ _) rfl h4
      · split
        · exact h4
        · exact form_kept (frame_noteConfirmed _) rfl h4
    · exact hs
  · exact hs

theorem form_settleRecord (o : Outstanding) (hs : HostMemoryForm s) : HostMemoryForm (settleRecord o s) := by
  unfold settleRecord
  split
  · split
    · exact hs
    · split
      · exact form_kept (frame_retractRec _ _) rfl hs
      · exact form_fireRules _ _ (form_kept (frame_noteConfirmed _) rfl (form_kept (frame_confirmRec _) rfl hs))
  · exact hs

theorem forms_execChecksDone (part : Fin 8) (hs : HostMemoryForm s) : Forms (execChecksDone part s) := by
  unfold execChecksDone
  refine forms_ifDue hs ?_
  dsimp only
  exact form_each _ (fun _ _ hu => form_settleRun _ hu) (form_each _ (fun _ _ hu => form_settleRecord _ hu) hs)

theorem form_dmaLine (p : Nat) (hs : HostMemoryForm s) : HostMemoryForm (dmaLine p s) := by
  unfold dmaLine
  dsimp only
  exact form_kept (frame_State_modFunnel _ _) rfl (form_State_hostWrite _ _ (form_kept (frame_readLine _ _) rfl hs))

theorem form_dmaHost (p : Nat) (hs : HostMemoryForm s) : HostMemoryForm (dmaHost p s) := by
  unfold dmaHost
  dsimp only
  split
  · exact hs
  · refine form_kept (frame_count _ _) rfl (form_kept (frame_State_modFunnel _ _) rfl ?_)
    split
    · exact form_each _ (fun _ _ hu => form_dmaLine _ hu) hs
    · exact form_raiseHeld _ _ _ (form_State_hostWrite _ _ (form_each _ (fun _ _ hu => form_dmaLine _ hu) hs))

theorem form_sendRecord (p n : Nat) (b : Bytes) (hs : HostMemoryForm s) : HostMemoryForm (sendRecord p n b s) := by
  unfold sendRecord
  dsimp only
  exact form_State_emit _ (form_kept (frame_count _ _) rfl (form_kept (frame_State_modPeer _ _ _) rfl hs))

theorem form_toNode (fuel p n : Nat) (hs : HostMemoryForm s) : HostMemoryForm (toNode fuel p n s) := by
  induction fuel generalizing s with
  | zero => exact hs
  | succ f ih =>
    unfold toNode
    split
    · extract_lets v bs x
      split
      · exact hs
      · exact ih (form_kept (frame_putFifo _ _) rfl (form_each _ (fun b _ hu => form_sendRecord _ _ b hu) hs))
    · exact hs

theorem form_sendRdma (p n kind : Nat) (b : Bytes) (hs : HostMemoryForm s) : HostMemoryForm (sendRdma p n kind b s) := by
  unfold sendRdma
  dsimp only
  exact form_State_emit _ (form_kept (frame_State_modPeer _ _ _) rfl hs)

theorem form_toRoce (p n : Nat) (hs : HostMemoryForm s) : HostMemoryForm (toRoce p n s) := by
  unfold toRoce
  dsimp only
  split
  · exact hs
  · exact form_sendRdma _ _ _ _ (form_kept (frame_State_modPeer _ _ _) rfl (form_each _
      (fun _ _ hu => form_sendRdma _ _ _ _ hu) (form_each _ (fun _ _ hu => form_sendRdma _ _ _ _ hu) (form_kept
        (frame_rdmaLines _ _) rfl hs))))

theorem form_toNet (p : Nat) (hs : HostMemoryForm s) : HostMemoryForm (toNet p s) := by
  unfold toNet
  dsimp only
  split
  · exact hs
  · split
    · exact form_toNode _ _ _ hs
    · split
      · exact form_toRoce _ _ hs
      · exact hs

theorem forms_execFunnelDmaBurst (part : Fin 8) (hs : HostMemoryForm s) : Forms (execFunnelDmaBurst part s) :=
  forms_ifDue hs (form_toNet _ (form_dmaHost _ hs))

theorem forms_execPtFnPio (fn : Fin 32) (part : Fin 8) (first : Fin 64) (bytes : Nat) (hs : HostMemoryForm s) :
    Forms (execPtFnPio fn part first bytes s) := by
  unfold execPtFnPio
  refine forms_checked ?_
  dsimp only
  split
  · refine form_State_emit _ ?_
    split
    · have hline (b : Bool) : HostMemoryForm (if b then readLine part.val 1 s else (line512 [], s)).2 := by
        cases b
        · exact hs
        · exact form_kept (frame_readLine _ _) rfl hs
      exact hline _
    · exact hs
  · exact hs

theorem form_applyCmd (tick : Nat) (x : Staged) (hs : HostMemoryForm s) : HostMemoryForm (applyCmd tick x s) := by
  unfold applyCmd
  dsimp only
  split
  · exact form_kept (frame_commitModel _ _ _) rfl hs
  · exact form_kept (frame_retireModel _ _) rfl hs
  · exact form_kept (frame_configTile _ _) rfl hs
  · exact form_kept (frame_bindFlow _ _ _) rfl hs
  · exact form_closeFlow _ _ _ _ _ hs
  · exact form_kept (frame_State_modPre _) rfl hs
  · exact form_kept (frame_putRule _ _ _ _) rfl hs
  · exact form_kept (frame_putRule _ _ _ _) rfl hs
  · exact form_kept (frame_putChan _) rfl hs
  · exact form_kept (frame_putDec _) rfl hs
  · exact form_kept (frame_putPort _) rfl hs
  · exact form_kept (frame_putPeer _ _) rfl hs
  · exact hs

theorem form_produce (tick : Nat) (cmds : List Staged) (regs : List RegWrite) (hs : HostMemoryForm s) :
    HostMemoryForm (produce tick cmds regs s) :=
  form_each _ (fun _ _ hu => form_applyCmd _ _ hu) (form_applyRegs _ _ hs)

theorem form_discardCmds (cmds : List Staged) (hs : HostMemoryForm s) : HostMemoryForm (discardCmds cmds s) :=
  form_each _ (fun _ _ hu => form_finishOpt _ _ _ hu) (form_kept (frame_unstage _) rfl hs)

theorem form_finishClosing (n : Nat) (hs : HostMemoryForm s) : HostMemoryForm (finishClosing n s) := by
  unfold finishClosing
  split
  · split
    · dsimp only
      exact form_finishOpt _ _ _ (form_kept (frame_freeSpill _) rfl (form_kept (frame_State_modFlows _) rfl hs))
    · exact hs
  · exact hs

theorem form_closeIfDone (n : Nat) (hs : HostMemoryForm s) : HostMemoryForm (closeIfDone n s) := by
  unfold closeIfDone
  split
  · exact form_finishClosing _ hs
  · exact hs

theorem form_applyCommit (q : Pending) (hs : HostMemoryForm s) : HostMemoryForm (applyCommit q s) := by
  unfold applyCommit
  dsimp only
  split
  · exact form_finish _ _ _ (form_discardCmds _ (form_kept (frame_dropPending _) rfl hs))
  · exact form_finish _ _ _ (form_kept (frame_traceOnly _ _ _ _ _ _ _ _) rfl (form_each _
      (fun _ _ hu => form_closeIfDone _ hu) (form_each _ (fun _ _ hu => form_kept (frame_formWindows _ _) rfl hu) (form_each _
        (fun _ _ hu => form_redivide _ hu) (form_kept (frame_regrid _) rfl (form_kept (frame_advanceAll _ _ _ _) rfl
          (form_produce _ _ _ (form_kept (frame_dropPending _) rfl hs))))))))

theorem form_applyDue (fuel p : Nat) (hs : HostMemoryForm s) : HostMemoryForm (applyDue fuel p s) := by
  induction fuel generalizing s with
  | zero => exact hs
  | succ k ih =>
    unfold applyDue
    split
    · split
      · exact ih (form_applyCommit _ hs)
      · exact hs
    · exact hs

theorem form_performCommit (c : Cmd) (hs : HostMemoryForm s) : HostMemoryForm (performCommit c s) := by
  unfold performCommit
  dsimp only
  split
  · exact form_finish _ _ _ (form_applyDue _ _ hs)
  · split
    · exact form_finish _ _ _ (form_applyDue _ _ hs)
    · exact form_applyDue _ _ (form_kept (frame_setWait _ _) rfl (form_kept (frame_State_modPre _) rfl (form_applyDue _ _ hs)))

theorem forms_execCommitTick (part : Fin 8) (hs : HostMemoryForm s) : Forms (execCommitTick part s) :=
  forms_ifDue hs (form_applyDue _ _ hs)

theorem forms_execSlicerCycle (part : Fin 8) (hs : HostMemoryForm s) : Forms (execSlicerCycle part s) :=
  forms_ifDue hs (form_slice _ (form_applyDue _ _ hs))

theorem forms_execFlowClosed (flow : Fin 16384) (hs : HostMemoryForm s) : Forms (execFlowClosed flow s) :=
  forms_ifDue hs (form_closeIfDone _ hs)

theorem form_askTiles (cmd : Nat) (as : List Activity) (hs : HostMemoryForm s) : HostMemoryForm (askTiles cmd as s) := by
  unfold askTiles
  dsimp only
  refine form_each _ (fun _ _ hu => ?_) ?_
  · split
    · exact hu
    · exact form_startAct _ hu
  · refine form_mk rfl ?_
    split
    · split
      · exact form_kept (frame_setWait _ _) rfl (form_reply _ _ _ _ _ hs)
      · exact hs
    · exact hs

theorem form_startLoad (p cmd bytes : Nat) (im : Image) (hs : HostMemoryForm s) :
    HostMemoryForm (startLoad p cmd bytes im s) := by
  unfold startLoad
  dsimp only
  refine form_modelDone _ _ (form_askTiles _ _ (form_kept (frame_placeAll _ _ _ _) rfl (form_kept
    (frame_State_modPkg _) rfl ?_)))
  split
  · exact form_kept (frame_releaseHeld _ _) rfl (form_kept (frame_State_modPre _) rfl hs)
  · exact form_kept (frame_State_modPre _) rfl hs

theorem form_performModelLoad (c : Cmd) (hs : HostMemoryForm s) : HostMemoryForm (performModelLoad c s) := by
  unfold performModelLoad
  dsimp only
  split
  · exact form_finish _ _ _ hs
  · split
    · exact form_finish _ _ _ hs
    · split
      · exact form_startLoad _ _ _ _ hs
      · exact hs

theorem form_performTileProgram (c : Cmd) (hs : HostMemoryForm s) : HostMemoryForm (performTileProgram c s) := by
  unfold performTileProgram
  dsimp only
  split
  · exact form_finish _ _ _ hs
  · split
    · exact form_askTiles _ _ (form_kept (frame_State_modTile _ _ _) rfl (form_kept (frame_dropJob _ _) rfl hs))
    · exact hs

theorem form_performTileVerify (c : Cmd) (hs : HostMemoryForm s) : HostMemoryForm (performTileVerify c s) := by
  unfold performTileVerify
  dsimp only
  split
  · exact form_askCmd _ _ hs
  · exact form_finish _ _ _ hs

theorem form_performStaged (c : Cmd) (payload : List Word) (hs : HostMemoryForm s) :
    HostMemoryForm (performStaged c payload s) := by
  unfold performStaged
  split
  · exact form_finish _ _ _ hs
  · exact form_stage _ _ hs

theorem form_performModelCommit (c : Cmd) (hs : HostMemoryForm s) : HostMemoryForm (performModelCommit c s) := by
  unfold performModelCommit
  dsimp only
  split
  · exact form_finish _ _ _ hs
  · split
    · exact form_kept (frame_modModel _ _ _) rfl (form_stage _ _ hs)
    · exact form_stage _ _ hs

theorem form_performModelRetire (c : Cmd) (hs : HostMemoryForm s) : HostMemoryForm (performModelRetire c s) := by
  unfold performModelRetire
  dsimp only
  split
  · exact form_finish _ _ _ hs
  · split
    · exact form_finish _ _ _ hs
    · split
      · exact form_stage _ _ hs
      · exact form_finish _ _ _ (form_kept (frame_releaseHeld _ _) rfl (form_kept (frame_State_modPre _) rfl hs))

theorem form_performTileConfig (c : Cmd) (hs : HostMemoryForm s) : HostMemoryForm (performTileConfig c s) :=
  form_performStaged _ _ hs

theorem form_performFlowOpen (c : Cmd) (hs : HostMemoryForm s) : HostMemoryForm (performFlowOpen c s) := by
  unfold performFlowOpen
  dsimp only
  split
  · exact form_finish _ _ _ (form_kept (frame_State_setCtx _ _) rfl (form_kept (frame_State_nextDraw) rfl hs))
  · exact form_finish _ _ _ hs

theorem form_performFlowBind (c : Cmd) (hs : HostMemoryForm s) : HostMemoryForm (performFlowBind c s) :=
  form_performStaged _ _ hs

theorem form_performFlowClose (c : Cmd) (hs : HostMemoryForm s) : HostMemoryForm (performFlowClose c s) :=
  form_performStaged _ _ hs

theorem form_performFlowSnapshot (c : Cmd) (hs : HostMemoryForm s) : HostMemoryForm (performFlowSnapshot c s) := by
  unfold performFlowSnapshot
  dsimp only
  split
  · split
    · exact form_finish _ _ _ (form_State_hostWrite _ _ hs)
    · exact hs
  · exact form_finish _ _ _ hs

theorem form_performKrnDefine (c : Cmd) (hs : HostMemoryForm s) : HostMemoryForm (performKrnDefine c s) := by
  unfold performKrnDefine
  dsimp only
  split
  · exact form_finish _ _ _ hs
  · split
    · exact form_finish _ _ _ hs
    · exact form_finish _ _ _ (form_kept (frame_State_modPre _) rfl hs)

theorem form_performKrnRelease (c : Cmd) (hs : HostMemoryForm s) : HostMemoryForm (performKrnRelease c s) :=
  form_performStaged _ _ hs

theorem form_performKrnSubmit (c : Cmd) (hs : HostMemoryForm s) : HostMemoryForm (performKrnSubmit c s) := by
  unfold performKrnSubmit
  dsimp only
  split
  · split
    · exact form_finish _ _ _ hs
    · split
      · exact form_kept (frame_State_modFlows _) rfl (form_kept (frame_State_setCtx _ _) rfl hs)
      · exact form_finish _ _ _ hs
  · exact form_finish _ _ _ hs

theorem form_performSyncRead (c : Cmd) (hs : HostMemoryForm s) : HostMemoryForm (performSyncRead c s) := by
  unfold performSyncRead
  dsimp only
  split
  · split
    · exact form_finish _ _ _ (form_State_hostWrite _ _ hs)
    · exact form_finish _ _ _ hs
  · exact form_finish _ _ _ hs

theorem form_performSyncSet (c : Cmd) (hs : HostMemoryForm s) : HostMemoryForm (performSyncSet c s) := by
  unfold performSyncSet
  dsimp only
  split
  · split
    · exact form_finish _ _ _ (form_kept (frame_syncManual _ _ _ _) rfl (form_kept (frame_State_modFlows _) rfl hs))
    · exact form_finish _ _ _ hs
  · split
    · exact form_finish _ _ _ (form_kept (frame_syncManual _ _ _ _) rfl (form_signalAt _ _ _ _ hs))
    · exact form_finish _ _ _ hs

theorem form_performNop (c : Cmd) (hs : HostMemoryForm s) : HostMemoryForm (performNop c s) := form_finish _ _ _ hs

theorem form_performGetCaps (c : Cmd) (hs : HostMemoryForm s) : HostMemoryForm (performGetCaps c s) := form_finish _ _ _ hs

theorem form_performSetLevel (c : Cmd) (hs : HostMemoryForm s) : HostMemoryForm (performSetLevel c s) := by
  unfold performSetLevel
  dsimp only
  split
  · exact form_finish _ _ _ hs
  · split
    · exact form_finish _ _ _ hs
    · split
      · exact form_finish _ _ _ hs
      · exact form_finish _ _ _ (form_State_modHost rfl hs)

theorem form_withdrawTag (x : Cmd) (hs : HostMemoryForm s) : HostMemoryForm (withdrawTag x s) := by
  unfold withdrawTag
  dsimp only
  refine form_withdraw _ ?_
  split
  · exact form_State_modLane _ _ _ hs
  · exact hs

theorem form_performCmdCancel (c : Cmd) (hs : HostMemoryForm s) : HostMemoryForm (performCmdCancel c s) := by
  unfold performCmdCancel
  dsimp only
  exact form_finish _ _ _ (form_each _ (fun _ _ hu => form_withdrawTag _ hu) hs)

theorem form_performStageDiscard (c : Cmd) (hs : HostMemoryForm s) : HostMemoryForm (performStageDiscard c s) := by
  unfold performStageDiscard
  dsimp only
  split
  · exact form_finish _ _ _ hs
  · exact form_finish _ _ _ (form_discardCmds _ (form_kept (frame_State_modPre _) rfl hs))

theorem form_performTrigPulse (c : Cmd) (hs : HostMemoryForm s) : HostMemoryForm (performTrigPulse c s) := by
  unfold performTrigPulse
  dsimp only
  split
  · exact form_finish _ _ _ hs
  · split
    · exact form_finish _ _ _ hs
    · split
      · exact form_finish _ _ _ (form_kept (frame_count _ _) rfl hs)
      · exact form_finish _ _ _ (form_schedulePin _ _ _ hs)

theorem form_performRuleSet (c : Cmd) (hs : HostMemoryForm s) : HostMemoryForm (performRuleSet c s) := form_performStaged _ _ hs

theorem form_performRuleClear (c : Cmd) (hs : HostMemoryForm s) : HostMemoryForm (performRuleClear c s) :=
  form_performStaged _ _ hs

theorem form_performTickRead (c : Cmd) (hs : HostMemoryForm s) : HostMemoryForm (performTickRead c s) := by
  unfold performTickRead
  dsimp only
  exact form_finish _ _ _ hs

theorem form_performIgChanSet (c : Cmd) (hs : HostMemoryForm s) : HostMemoryForm (performIgChanSet c s) :=
  form_performStaged _ _ hs

theorem form_performIgDecSet (c : Cmd) (hs : HostMemoryForm s) : HostMemoryForm (performIgDecSet c s) :=
  form_performStaged _ _ hs

theorem form_performIgCoefLoad (c : Cmd) (hs : HostMemoryForm s) : HostMemoryForm (performIgCoefLoad c s) := by
  unfold performIgCoefLoad
  dsimp only
  split
  · exact form_finish _ _ _ hs
  · exact form_finish _ _ _ (form_kept (frame_State_modIngest _) rfl hs)

theorem form_retireNow (a : Activity) (hs : HostMemoryForm s) : HostMemoryForm (retireNow a s) := by
  unfold retireNow
  split
  · exact form_finishIdle _ _ _ (form_retireUnit _ _ _ _ _ (form_kept (frame_endAct _) rfl hs))
  · exact form_kept (frame_endAct _) rfl hs

theorem form_beginAny (a : Activity) (hs : HostMemoryForm s) : HostMemoryForm (beginAny a s) := by
  unfold beginAny
  dsimp only
  split
  · exact form_kept (frame_beginSave _ _) rfl (form_startAct _ hs)
  · split
    · exact form_retireNow _ (form_startAct _ hs)
    · exact form_startAct _ hs

theorem forms_execMaintArbiterRun (hs : HostMemoryForm s) : Forms (execMaintArbiterRun s) := by
  unfold execMaintArbiterRun
  refine forms_ifDue hs ?_
  split
  · exact form_beginAny _ hs
  · exact hs

theorem form_askAny (id : Nat) (a : Activity) (hs : HostMemoryForm s) : HostMemoryForm (askAny id a s) := by
  unfold askAny
  split
  · split
    · exact form_kept (frame_setWait _ _) rfl (form_reply _ _ _ _ _ (form_mk rfl hs))
    · exact hs
  · exact form_beginAny _ hs

theorem form_performMaintStart (c : Cmd) (hs : HostMemoryForm s) : HostMemoryForm (performMaintStart c s) := by
  unfold performMaintStart
  split
  · split
    · exact form_finish _ _ _ hs
    · exact form_askAny _ _ hs
  · exact form_askAny _ _ hs
  · exact form_askAny _ _ hs

theorem form_performSelftest (c : Cmd) (hs : HostMemoryForm s) : HostMemoryForm (performSelftest c s) := by
  unfold performSelftest
  dsimp only
  split
  · exact form_finish _ _ _ hs
  · exact form_askAny _ _ hs

theorem form_performRecal (c : Cmd) (hs : HostMemoryForm s) : HostMemoryForm (performRecal c s) := by
  unfold performRecal
  dsimp only
  split
  · exact form_finish _ _ _ hs
  · exact form_askCmd _ _ (form_each _ (fun _ _ hu => form_kept (frame_State_modTile _ _ _) rfl hu) hs)

theorem form_performHkSeq (c : Cmd) (hs : HostMemoryForm s) : HostMemoryForm (performHkSeq c s) := by
  unfold performHkSeq
  dsimp only
  exact form_finish _ _ _ (form_kept (frame_State_modProbe _) rfl hs)

theorem form_performHkCalZero (c : Cmd) (hs : HostMemoryForm s) : HostMemoryForm (performHkCalZero c s) := by
  unfold performHkCalZero
  split
  · exact form_finish _ _ _ hs
  · exact form_kept (frame_beginCapture _ _ _) rfl hs

theorem form_performHkCalFull (c : Cmd) (hs : HostMemoryForm s) : HostMemoryForm (performHkCalFull c s) := by
  unfold performHkCalFull
  split
  · exact form_finish _ _ _ hs
  · exact form_kept (frame_beginCapture _ _ _) rfl hs

theorem form_performAttest (c : Cmd) (hs : HostMemoryForm s) : HostMemoryForm (performAttest c s) := by
  unfold performAttest
  dsimp only
  exact form_finish _ _ _ (form_State_hostWrite _ _ hs)

theorem form_performFwStage (c : Cmd) (hs : HostMemoryForm s) : HostMemoryForm (performFwStage c s) := by
  unfold performFwStage
  dsimp only
  split
  · split
    · exact form_finish _ _ _ hs
    · split <;> exact form_finish _ _ _ (form_kept (frame_putSpare _ _) rfl hs)
  · split
    · exact form_finish _ _ _ hs
    · split <;> exact form_finish _ _ _ (form_kept (frame_putSpare _ _) rfl hs)

theorem form_performFwActivate (c : Cmd) (hs : HostMemoryForm s) : HostMemoryForm (performFwActivate c s) := by
  unfold performFwActivate
  split
  · exact form_finish _ _ _ (form_kept (frame_State_modSec _) rfl hs)
  · exact form_finish _ _ _ hs

theorem form_performFaultRead (c : Cmd) (hs : HostMemoryForm s) : HostMemoryForm (performFaultRead c s) := by
  unfold performFaultRead
  dsimp only
  exact form_finish _ _ _ (form_State_hostWrite _ _ hs)

theorem form_performFaultExport (c : Cmd) (hs : HostMemoryForm s) : HostMemoryForm (performFaultExport c s) := by
  unfold performFaultExport
  dsimp only
  exact form_finish _ _ _ (form_State_hostWrite _ _ hs)

theorem form_performUnitRetire (c : Cmd) (hs : HostMemoryForm s) : HostMemoryForm (performUnitRetire c s) := by
  unfold performUnitRetire
  dsimp only
  split
  · exact form_finish _ _ _ hs
  · split
    · exact form_askAny _ _ hs
    · exact form_finish _ _ _ (form_retireUnit _ _ _ _ _ hs)

theorem form_askRestore (c : Cmd) (u : UnitArg) (job : WhiskJob) (hs : HostMemoryForm s) :
    HostMemoryForm (askRestore c u job s) :=
  form_askTiles _ _ (form_kept (frame_State_modTile _ _ _) rfl hs)

theorem form_restoreColumn (c : Cmd) (u : UnitArg) (hs : HostMemoryForm s) : HostMemoryForm (restoreColumn c u s) := by
  unfold restoreColumn
  dsimp only
  split
  · exact form_askRestore _ _ _ hs
  · exact form_finish _ _ _ hs

theorem form_restoreTileUnit (c : Cmd) (u : UnitArg) (hs : HostMemoryForm s) : HostMemoryForm (restoreTileUnit c u s) := by
  unfold restoreTileUnit
  dsimp only
  split
  · exact form_askRestore _ _ _ hs
  · exact form_finish _ _ _ hs

theorem form_restoreCore (c : Cmd) (n : Nat) (hs : HostMemoryForm s) : HostMemoryForm (restoreCore c n s) := by
  unfold restoreCore
  split
  · exact form_askAny _ _ (form_kept (frame_State_modCore _ _) rfl hs)
  · exact form_finish _ _ _ hs

theorem form_restoreLane (c : Cmd) (l : Nat) (hs : HostMemoryForm s) : HostMemoryForm (restoreLane c l s) := by
  unfold restoreLane
  split
  · dsimp only
    exact form_finish _ _ _ (form_kept (frame_State_modIngest _) rfl (form_kept (frame_State_modMirror _) rfl hs))
  · exact form_finish _ _ _ hs

theorem form_performUnitRestore (c : Cmd) (hs : HostMemoryForm s) : HostMemoryForm (performUnitRestore c s) := by
  unfold performUnitRestore
  dsimp only
  split
  · exact form_finish _ _ _ hs
  · split
    · exact form_restoreColumn _ _ hs
    · exact form_restoreTileUnit _ _ hs
    · exact form_restoreCore _ _ hs
    · exact form_restoreLane _ _ hs

theorem form_performNetPortSet (c : Cmd) (hs : HostMemoryForm s) : HostMemoryForm (performNetPortSet c s) :=
  form_performStaged _ _ hs

theorem form_performNetPeerSet (c : Cmd) (hs : HostMemoryForm s) : HostMemoryForm (performNetPeerSet c s) :=
  form_performStaged _ _ hs

theorem form_performNetStatus (c : Cmd) (hs : HostMemoryForm s) : HostMemoryForm (performNetStatus c s) := by
  unfold performNetStatus
  dsimp only
  exact form_finish _ _ _ hs

theorem form_performAny (c : Cmd) (hs : HostMemoryForm s) : HostMemoryForm (performAny c s) := by
  unfold performAny
  split
  · exact form_performNop c hs
  · exact form_performGetCaps c hs
  · exact form_performSetLevel c hs
  · exact form_performCommit c hs
  · exact form_performCmdCancel c hs
  · exact form_performStageDiscard c hs
  · exact form_performModelLoad c hs
  · exact form_performTileProgram c hs
  · exact form_performTileVerify c hs
  · exact form_performModelCommit c hs
  · exact form_performModelRetire c hs
  · exact form_performTileConfig c hs
  · exact form_performFlowOpen c hs
  · exact form_performFlowBind c hs
  · exact form_performFlowClose c hs
  · exact form_performFlowSnapshot c hs
  · exact form_performKrnSubmit c hs
  · exact form_performKrnDefine c hs
  · exact form_performKrnRelease c hs
  · exact form_performSyncRead c hs
  · exact form_performSyncSet c hs
  · exact form_performTrigPulse c hs
  · exact form_performRuleSet c hs
  · exact form_performRuleClear c hs
  · exact form_performTickRead c hs
  · exact form_performIgChanSet c hs
  · exact form_performIgDecSet c hs
  · exact form_performIgCoefLoad c hs
  · exact form_performMaintStart c hs
  · exact form_performSelftest c hs
  · exact form_performRecal c hs
  · exact form_performHkSeq c hs
  · exact form_performHkCalZero c hs
  · exact form_performHkCalFull c hs
  · exact form_performAttest c hs
  · exact form_performFwStage c hs
  · exact form_performFwActivate c hs
  · exact form_performFaultRead c hs
  · exact form_performFaultExport c hs
  · exact form_performUnitRetire c hs
  · exact form_performUnitRestore c hs
  · exact form_performNetPortSet c hs
  · exact form_performNetPeerSet c hs
  · exact form_performNetStatus c hs
  · exact hs

theorem forms_submit (op : Nat) (h : Hdr) (w : List Word) (hs : HostMemoryForm s) : Forms (submit op h w s) := by
  unfold submit
  refine forms_checked ?_
  split
  · exact form_take (fun c _ => form_performAny c) _ _ _ _ _ hs
  · exact hs

theorem forms_execPacketTake (fn : Fin 32) (lane : Fin 16) (hs : HostMemoryForm s) : Forms (execPacketTake fn lane s) :=
  forms_ifDue hs (form_packetTake (fun c _ => form_performAny c) _ _ hs)

theorem forms_execAtTickDue (hs : HostMemoryForm s) : Forms (execAtTickDue s) := by
  unfold execAtTickDue
  refine forms_ifDue hs ?_
  dsimp only
  split
  · exact form_startCmd (fun c _ => form_performAny c) _ (form_each _ (fun _ _ hu => form_applyDue _ _ hu) hs)
  · exact form_each _ (fun _ _ hu => form_applyDue _ _ hu) hs

theorem forms_execFenceRelease (fn : Fin 32) (lane : Fin 16) (hs : HostMemoryForm s) : Forms (execFenceRelease fn lane s) := by
  unfold execFenceRelease
  split
  · refine forms_ifDue hs ?_
    dsimp only
    split
    · exact form_proceed (fun c _ => form_performAny c) _ (form_State_modLane _ _ _ hs)
    · exact form_State_modLane _ _ _ hs
  · exact forms_next hs

theorem form_enterRetain (hs : HostMemoryForm s) : HostMemoryForm (enterRetain s) := by
  unfold enterRetain
  dsimp only
  exact form_mk rfl (form_suppressAll hs)

theorem form_enterStandby (hs : HostMemoryForm s) : HostMemoryForm (enterStandby s) := by
  unfold enterStandby
  dsimp only
  refine form_kept (frame_State_modPower _) rfl ?_
  split
  · exact form_kept (frame_endSave _) rfl (form_kept (frame_beginSave _ _) rfl (form_kept (frame_State_modMirror _) rfl
      (form_kept (frame_foldAges) rfl (form_kept (frame_State_modTb _) rfl (form_kept (frame_State_foldTick) rfl
        (form_enterRetain hs))))))
  · exact form_kept (frame_beginSave _ _) rfl (form_kept (frame_State_modMirror _) rfl (form_kept (frame_foldAges) rfl
      (form_kept (frame_State_modTb _) rfl (form_kept (frame_State_foldTick) rfl (form_enterRetain hs)))))

theorem form_changeState (t : Nat) (hs : HostMemoryForm s) : HostMemoryForm (changeState t s) := by
  unfold changeState
  dsimp only
  split
  · refine form_unpark (fun c _ => form_performAny c) (form_kept (frame_holdDue) rfl ?_)
    split
    · exact form_kept (frame_leaveRetain) rfl (form_kept (frame_raiseDev _ _) rfl (form_kept (frame_State_modPower _) rfl hs))
    · split
      · exact form_enterRetain (form_kept (frame_raiseDev _ _) rfl (form_kept (frame_State_modPower _) rfl hs))
      · split
        · exact form_enterStandby (form_kept (frame_raiseDev _ _) rfl (form_kept (frame_State_modPower _) rfl hs))
        · exact form_kept (frame_raiseDev _ _) rfl (form_kept (frame_State_modPower _) rfl hs)
  · split
    · exact form_kept (frame_leaveRetain) rfl (form_kept (frame_raiseDev _ _) rfl (form_kept (frame_State_modPower _) rfl hs))
    · split
      · exact form_enterRetain (form_kept (frame_raiseDev _ _) rfl (form_kept (frame_State_modPower _) rfl hs))
      · split
        · exact form_enterStandby (form_kept (frame_raiseDev _ _) rfl (form_kept (frame_State_modPower _) rfl hs))
        · exact form_kept (frame_raiseDev _ _) rfl (form_kept (frame_State_modPower _) rfl hs)

theorem forms_execPowerState (hs : HostMemoryForm s) : Forms (execPowerState s) := by
  unfold execPowerState
  split
  · exact forms_ifDue hs (form_changeState _ hs)
  · exact forms_next hs

theorem form_refclkRestored (hs : HostMemoryForm s) : HostMemoryForm (refclkRestored s) := by
  unfold refclkRestored
  dsimp only
  exact form_unpark (fun c _ => form_performAny c) (form_kept (frame_raiseDev _ _) rfl (form_kept (frame_renewAll _) rfl
    (form_kept (frame_State_modNet _) rfl (form_kept (frame_State_modPkg _) rfl (form_kept (frame_State_modPower _) rfl hs)))))

theorem forms_execRefclkRestored (hs : HostMemoryForm s) : Forms (execRefclkRestored s) :=
  forms_ifDue hs (form_refclkRestored hs)

theorem form_scrubPass (hs : HostMemoryForm s) : HostMemoryForm (scrubPass s) := by
  unfold scrubPass
  dsimp only
  exact form_each _ (fun _ _ hu => form_finishIdle _ _ _ (form_kept (frame_endAct _) rfl hu)) (form_kept (frame_count _ _) rfl
    (form_kept (frame_State_modPkg _) rfl hs))

theorem form_scrub (line : Nat) (corrected : Bool) (hs : HostMemoryForm s) : HostMemoryForm (scrub line corrected s) := by
  unfold scrub
  dsimp only
  split
  · exact form_scrubPass (form_kept (frame_count _ _) rfl hs)
  · exact form_kept (frame_State_modPkg _) rfl (form_kept (frame_count _ _) rfl hs)

theorem forms_execPatrolScrub (line : Nat) (corrected : Bool) (hs : HostMemoryForm s) :
    Forms (execPatrolScrub line corrected s) := by
  unfold execPatrolScrub
  refine forms_checked ?_
  split
  · exact form_scrub _ _ hs
  · exact hs

theorem form_regionReset (p region line : Nat) (hs : HostMemoryForm s) : HostMemoryForm (regionReset p region line s) := by
  unfold regionReset
  dsimp only
  exact form_kept (frame_State_modPkg _) rfl (form_partitionReset _ _ _ _ _ (form_kept (frame_addRecord _ _ _ _ _ _ _) rfl hs))

theorem form_memUncorr (line : Nat) (both : Bool) (hs : HostMemoryForm s) : HostMemoryForm (memUncorr line both s) := by
  unfold memUncorr
  dsimp only
  split
  · split
    · exact form_fatal _ (form_kept (frame_count _ _) rfl hs)
    · exact form_kept (frame_count _ _) rfl hs
  · split
    · exact form_regionReset _ _ _ (form_kept (frame_count _ _) rfl hs)
    · exact form_kept (frame_State_modPkg _) rfl (form_kept (frame_recordOnly _ _ _ _ _ _) rfl (form_kept
        (frame_count _ _) rfl hs))

theorem forms_execMemUncorrectable (line : Nat) (bothCopies : Bool) (hs : HostMemoryForm s) :
    Forms (execMemUncorrectable line bothCopies s) := by
  unfold execMemUncorrectable
  refine forms_checked ?_
  split
  · exact form_memUncorr _ _ hs
  · exact hs

theorem forms_execStockpotUncorr (line : Fin 16384) (hs : HostMemoryForm s) : Forms (execStockpotUncorr line s) := by
  unfold execStockpotUncorr
  refine forms_ifDue hs ?_
  split
  · dsimp only
    exact form_partitionReset _ _ _ _ _ (form_kept (frame_addRecord _ _ _ _ _ _ _) rfl hs)
  · exact form_kept (frame_recordOnly _ _ _ _ _ _) rfl hs

theorem form_sendHello (p n : Nat) (hs : HostMemoryForm s) : HostMemoryForm (sendHello p n s) := by
  unfold sendHello
  dsimp only
  exact form_State_emit _ (form_kept (frame_count _ _) rfl hs)

theorem form_answerHello (port node : Nat) (hs : HostMemoryForm s) : HostMemoryForm (answerHello port node s) :=
  form_State_emit _ (form_kept (frame_count _ _) rfl hs)

theorem form_sendAck (p n : Nat) (hs : HostMemoryForm s) : HostMemoryForm (sendAck p n s) := by
  unfold sendAck
  dsimp only
  exact form_State_emit _ (form_kept (frame_count _ _) rfl hs)

theorem form_levelDrop (m : MsgHdr) (hs : HostMemoryForm s) : HostMemoryForm (levelDrop m s) := by
  unfold levelDrop
  dsimp only
  split
  · exact form_sendHello _ _ (form_kept (frame_count _ _) rfl hs)
  · exact form_answerHello _ _ (form_kept (frame_count _ _) rfl hs)

theorem form_receive (m : MsgHdr) {f : State → State} (hf : ∀ u, HostMemoryForm u → HostMemoryForm (f u)) (hs : HostMemoryForm s) :
    HostMemoryForm (receive m f s) := by
  have hc := form_kept (frame_count (portCtr m.port.val 1) 1) rfl hs
  unfold receive
  split
  · exact form_kept (frame_count _ _) rfl hs
  · split
    · exact hf _ hc
    · exact form_levelDrop m hc

theorem form_resend (p n : Nat) (u : Unacked) (hs : HostMemoryForm s) : HostMemoryForm (resend p n u s) := by
  unfold resend
  dsimp only
  exact form_State_emit _ (form_kept (frame_count _ _) rfl hs)

theorem form_bringBack (p n : Nat) (hs : HostMemoryForm s) : HostMemoryForm (bringBack p n s) := by
  unfold bringBack
  split
  · dsimp only
    exact form_each _ (fun _ _ hu => form_resend _ _ _ hu) (form_kept (frame_State_modPeer _ _ _) rfl hs)
  · exact hs

theorem form_takeHello (m : MsgHdr) (highest : Nat) (hs : HostMemoryForm s) : HostMemoryForm (takeHello m highest s) := by
  unfold takeHello
  split
  · exact form_bringBack _ _ (form_kept (frame_takeAck _ _ _) rfl (form_kept (frame_State_modPeer _ _ _) rfl hs))
  · exact hs

theorem forms_execHello (m : MsgHdr) (levels highest : BitVec 8) (fw : Word) (format : BitVec 16) (serial : BitVec 64) (hs : HostMemoryForm s) :
    Forms (execHello m levels highest fw format serial s) := by
  refine forms_checked ?_
  split
  · exact form_receive m (fun _ hu => form_takeHello _ _ hu) hs
  · exact hs

theorem form_takeRecord_ (m : MsgHdr) (payload : Bytes) (hs : HostMemoryForm s) : HostMemoryForm (takeRecord_ m payload s) := by
  unfold takeRecord_
  split
  · dsimp only
    split
    · exact form_sendAck _ _ (form_kept (frame_State_modPeer _ _ _) rfl (form_kept (frame_takeAck _ _ _) rfl hs))
    · exact form_sendAck _ _ (form_kept (frame_takeAck _ _ _) rfl hs)
  · exact hs

theorem forms_execRecord (m : MsgHdr) (payload : List Byte) (hs : HostMemoryForm s) :
    Forms (execRecord m payload s) := by
  refine forms_checked ?_
  split
  · exact form_receive m (fun _ hu => form_takeRecord_ _ _ hu) hs
  · exact hs

theorem forms_execAck (m : MsgHdr) (hs : HostMemoryForm s) : Forms (execAck m s) := by
  refine forms_checked ?_
  split
  · refine form_receive m (fun u hu => ?_) hs
    split
    · exact form_kept (frame_takeAck _ _ _) rfl hu
    · exact hu
  · exact hs

theorem form_takeCredit (m : MsgHdr) (offset : Nat) (hs : HostMemoryForm s) : HostMemoryForm (takeCredit m offset s) := by
  unfold takeCredit
  split
  · dsimp only
    split
    · exact form_sendAck _ _ hs
    · exact form_sendAck _ _ (form_kept (frame_State_modPeer _ _ _) rfl hs)
  · exact hs

theorem forms_execRingCredit (m : MsgHdr) (offset : BitVec 64) (hs : HostMemoryForm s) :
    Forms (execRingCredit m offset s) := by
  refine forms_checked ?_
  split
  · exact form_receive m (fun _ hu => form_takeCredit _ _ hu) hs
  · exact hs

theorem forms_execTraceRead (m : MsgHdr) (offset n : Word) (hs : HostMemoryForm s) : Forms (execTraceRead m offset n s) := by
  unfold execTraceRead
  refine forms_checked ?_
  dsimp only
  split
  · split
    · exact form_State_emit _ hs
    · exact form_levelDrop _ hs
  · exact hs

theorem form_recordResend (p n : Nat) (hs : HostMemoryForm s) : HostMemoryForm (recordResend p n s) := by
  unfold recordResend
  split
  · split
    · exact form_kept (frame_peerDown _ _) rfl hs
    · exact form_resend _ _ _ (form_kept (frame_State_modPeer _ _ _) rfl hs)
  · exact hs

theorem forms_execRecordResend (part : Fin 8) (peer : Fin 64) (hs : HostMemoryForm s) :
    Forms (execRecordResend part peer s) := by
  unfold execRecordResend
  dsimp only
  exact forms_ifDue hs (form_recordResend _ _ hs)

theorem forms_execPortLinkUp (port : Fin 2) (hs : HostMemoryForm s) : Forms (execPortLinkUp port s) := by
  unfold execPortLinkUp
  dsimp only
  exact forms_ifDue hs (form_each _ (fun _ _ hu => form_sendHello _ _ hu) (form_kept (frame_State_modPort _ _) rfl hs))

theorem forms_execHelloTimer (hs : HostMemoryForm s) : Forms (execHelloTimer s) :=
  forms_ifDue hs (form_each _ (fun _ _ hu => form_each _ (fun _ _ hu => form_sendHello _ _ hu) hu) hs)

theorem form_answerAddr (port kind : Nat) (own : Bool) (addr : Bytes) (hs : HostMemoryForm s) :
    HostMemoryForm (answerAddr port kind own addr s) := by
  unfold answerAddr
  split
  · exact form_State_emit _ hs
  · exact form_kept (frame_count _ _) rfl hs

theorem forms_execArpRequest (port : Fin 2) (target : Word) (hs : HostMemoryForm s) : Forms (execArpRequest port target s) :=
  forms_ifDue hs (form_answerAddr _ _ _ _ hs)

theorem forms_execNeighbourSolicitation (port : Fin 2) (target : BitVec 128) (hs : HostMemoryForm s) :
    Forms (execNeighbourSolicitation port target s) :=
  forms_ifDue hs (form_answerAddr _ _ _ _ hs)

theorem form_goBack (p n : Nat) (hs : HostMemoryForm s) : HostMemoryForm (goBack p n s) := by
  unfold goBack
  dsimp only
  split
  · exact hs
  · split
    · exact form_kept (frame_peerDown _ _) rfl hs
    · exact form_each _ (fun _ _ hu => form_State_emit _ hu) (form_kept (frame_count _ _) rfl (form_kept
        (frame_State_modPeer _ _ _) rfl hs))

theorem forms_execRoceNak (part : Fin 8) (peer : Fin 64) (psn : BitVec 24) (remoteAccess : Bool) (hs : HostMemoryForm s) :
    Forms (execRoceNak part peer psn remoteAccess s) := by
  unfold execRoceNak
  dsimp only
  exact forms_ifDue hs (form_goBack _ _ (form_kept (frame_State_modPeer _ _ _) rfl hs))

theorem forms_execRoceTimeout (part : Fin 8) (peer : Fin 64) (hs : HostMemoryForm s) : Forms (execRoceTimeout part peer s) :=
  forms_ifDue hs (form_goBack _ _ hs)

theorem form_captureDone (k : Capture) (hs : HostMemoryForm s) : HostMemoryForm (captureDone k s) := by
  unfold captureDone
  dsimp only
  split
  · exact form_finish _ _ _ (form_kept (frame_State_modProbe _) rfl hs)
  · split
    · exact form_finish _ _ _ (form_kept (frame_zeroDone _ _) rfl (form_kept (frame_State_modProbe _) rfl hs))
    · split
      · exact form_finish _ _ _ (form_kept (frame_State_modProbe _) rfl hs)
      · exact form_finish _ _ _ (form_kept (frame_fullDone _ _ _) rfl (form_kept (frame_State_modProbe _) rfl hs))

theorem form_captureOne (k : Capture) (c : Nat × Bool × Bool) (hs : HostMemoryForm s) : HostMemoryForm (captureOne k c s) := by
  unfold captureOne
  dsimp only
  split
  · exact form_kept (frame_State_modProbe _) rfl hs
  · exact form_captureDone _ hs

theorem form_probeConversion (level16 : Int) (hs : HostMemoryForm s) : HostMemoryForm (probeConversion level16 s) := by
  unfold probeConversion
  dsimp only
  split
  · exact form_captureOne _ _ (form_kept (frame_State_nextDraw) rfl hs)
  · split
    · exact form_kept (frame_sequence _) rfl (form_kept (frame_State_nextDraw) rfl hs)
    · exact form_kept (frame_State_nextDraw) rfl hs

theorem forms_execProbeConversion (level16 : Int) (hs : HostMemoryForm s) : Forms (execProbeConversion level16 s) :=
  forms_ifDue hs (form_probeConversion _ hs)

theorem form_tracePinSend (hs : HostMemoryForm s) : HostMemoryForm (tracePinSend s) := by
  unfold tracePinSend
  split
  · exact form_State_emit _ (form_kept (frame_State_modTrace _) rfl hs)
  · exact hs

theorem forms_execTracePinSend (hs : HostMemoryForm s) : Forms (execTracePinSend s) := forms_ifDue hs (form_tracePinSend hs)

theorem form_smbGive (d : State → Bytes) (hs : HostMemoryForm s) : HostMemoryForm (smbGive d s) := form_State_emit _ hs

theorem forms_execSmbReadDevice (hs : HostMemoryForm s) : Forms (execSmbReadDevice s) := forms_ifDue hs (form_smbGive _ hs)

theorem forms_execSmbReadStatus (hs : HostMemoryForm s) : Forms (execSmbReadStatus s) := forms_ifDue hs (form_smbGive _ hs)

theorem forms_execSmbReadTjNow (hs : HostMemoryForm s) : Forms (execSmbReadTjNow s) := forms_ifDue hs (form_smbGive _ hs)

theorem forms_execSmbReadTjPeak (hs : HostMemoryForm s) : Forms (execSmbReadTjPeak s) := forms_ifDue hs (form_smbGive _ hs)

theorem forms_execSmbReadPkgPower (hs : HostMemoryForm s) : Forms (execSmbReadPkgPower s) := forms_ifDue hs (form_smbGive _ hs)

theorem forms_execSmbReadStepping (hs : HostMemoryForm s) : Forms (execSmbReadStepping s) := forms_ifDue hs (form_smbGive _ hs)

theorem forms_execSmbReadPartSerial (hs : HostMemoryForm s) : Forms (execSmbReadPartSerial s) :=
  forms_ifDue hs (form_smbGive _ hs)

theorem forms_execSmbReadFwVersion (hs : HostMemoryForm s) : Forms (execSmbReadFwVersion s) :=
  forms_ifDue hs (form_smbGive _ hs)

theorem forms_execSmbReadHkEntry (e : Fin 16) (hs : HostMemoryForm s) : Forms (execSmbReadHkEntry e s) :=
  forms_ifDue hs (form_smbGive _ hs)

theorem forms_execSmbReadHkAlert (hs : HostMemoryForm s) : Forms (execSmbReadHkAlert s) := forms_ifDue hs (form_smbGive _ hs)

theorem forms_execBypass (hs : HostMemoryForm s) : Forms (execBypass s) :=
  forms_ifDue hs (form_State_emit _ (form_kept (frame_tapSelect _ _) rfl hs))

theorem forms_execIdcode (hs : HostMemoryForm s) : Forms (execIdcode s) :=
  forms_ifDue hs (form_State_emit _ (form_kept (frame_tapSelect _ _) rfl hs))

theorem forms_execExtest (hs : HostMemoryForm s) : Forms (execExtest s) :=
  forms_ifDue hs (form_State_emit _ (form_kept (frame_tapSelect _ _) rfl hs))

theorem forms_execClamp (hs : HostMemoryForm s) : Forms (execClamp s) :=
  forms_ifDue hs (form_State_emit _ (form_kept (frame_tapSelect _ _) rfl hs))

theorem form_sendOut (core q : Nat) (h : Head) (l : Layer) (k : SkStep) (ro : Readout) (o : Output)
    (e : sendOut core q h l k ro o s = some t) (hs : HostMemoryForm s) : HostMemoryForm t := by
  unfold sendOut at e
  extract_lets off toRecord at e
  have hr (u : State) (hu : HostMemoryForm u) : HostMemoryForm (toRecord u) := form_formResult _ _ _ _ _ _ hu
  split at e
  · split at e
    · cases e
      split
      · exact hr _ (form_kept (frame_putAct _ _ _) rfl hs)
      · exact form_kept (frame_putAct _ _ _) rfl hs
    · cases e
  · split at e
    · cases e
      refine form_each _ (fun m u hu => ?_) hs
      extract_lets flits
      split
      · exact form_kept (frame_actTake _ _ _ _ _) rfl hu
      · exact form_kept (frame_sendLadle _ _) rfl hu
    · cases e
      exact hs
  · cases e
    exact hr s hs
  · cases e
    exact hs

theorem form_finishItem (core q : Nat) (h : Head) (l : Layer) (x : Loop) (k : SkStep) (ro : Readout) (o : Output)
    (hs : HostMemoryForm s) : HostMemoryForm (finishItem core q h l x k ro o s) := by
  unfold finishItem
  dsimp only
  split
  · exact form_advance _ _ _ (form_kept (frame_addSat _ _ _) rfl (form_kept (frame_State_modQueue _ _ _) rfl
      (form_sendOut _ _ _ _ _ _ _ (by assumption) (form_kept (frame_count _ _) rfl (form_kept (frame_count _ _) rfl (form_kept
        (frame_count _ _) rfl hs))))))
  · exact form_runParam _ _ _ hs

theorem form_skStep (core q : Nat) (h : Head) (l : Layer) (x : Loop) (k : SkStep) (ro : Readout) (hs : HostMemoryForm s) :
    HostMemoryForm (skStep core q h l x k ro s) := by
  unfold skStep
  dsimp only
  split
  · exact form_runParam _ _ _ (form_kept (frame_count _ _) rfl hs)
  · split
    · exact form_kept (frame_State_setQueue _ _ _) rfl (form_kept (frame_count _ _) rfl (form_kept (frame_count _ _) rfl
        (form_kept (frame_count _ _) rfl hs)))
    · split
      · exact form_finishItem _ _ _ _ _ _ _ _ (form_kept (frame_count _ _) rfl (form_kept (frame_count _ _) rfl (form_kept
          (frame_count _ _) rfl hs)))
      · exact form_runParam _ _ _ (form_kept (frame_count _ _) rfl (form_kept (frame_count _ _) rfl (form_kept
          (frame_count _ _) rfl hs)))

theorem forms_execSkilletStep (core : Fin 32) (queue : Fin 4) (hs : HostMemoryForm s) :
    Forms (execSkilletStep core queue s) := by
  unfold execSkilletStep
  split
  · split
    · split
      · exact forms_ifDue hs (form_skStep _ _ _ _ _ _ _ hs)
      · exact forms_next hs
    · exact forms_next hs
  · exact forms_next hs

theorem form_giveUp (core q : Nat) (h : Head) (hs : HostMemoryForm s) : HostMemoryForm (giveUp core q h s) := by
  unfold giveUp
  dsimp only
  refine form_abandonPart _ _ _ ?_
  split
  · exact hs
  · exact form_kept (frame_formRun _ _ _) rfl hs

theorem forms_execCoreSram (core : Fin 32) (queue : Fin 4) (array : BitVec 4) (address : BitVec 24) (hs : HostMemoryForm s) :
    Forms (execCoreSram core queue array address s) := by
  unfold execCoreSram
  refine forms_ifDue hs ?_
  dsimp only
  split
  · split
    · exact form_giveUp _ _ _ (form_attribute_ _ _ _ _ _ _ _ hs)
    · exact form_kept (frame_resumeQueue _ _ _) rfl (form_attribute_ _ _ _ _ _ _ _ hs)
  · exact form_attribute_ _ _ _ _ _ _ _ hs

/-! ## Every command -/

/-- Host memory keeps its form under every command. -/
theorem forms_exec (c : Instr) (hs : HostMemoryForm s) : Forms (exec c s) := by
  cases c with
  | coldPowerOn => exact forms_execColdPowerOn hs
  | resetNAssert => exact forms_execResetNAssert hs
  | resetNRelease => exact forms_kept hs frame_execResetNRelease rfl
  | startupReady => exact forms_execStartupReady hs
  | fwFallback readyNotReached => exact forms_kept hs (frame_execFwFallback readyNotReached) rfl
  | pwrFailNAssert => exact forms_execPwrFailNAssert hs
  | crockSaveDone => exact forms_execCrockSaveDone hs
  | pciePerstNAssert => exact forms_execPciePerstNAssert hs
  | flrVf vf => exact forms_execFlrVf vf hs
  | flrPf => exact forms_execFlrPf hs
  | refclkLost => exact forms_execRefclkLost hs
  | refclkRestored => exact forms_execRefclkRestored hs
  | powerMeasure tenMilliwatt => exact forms_kept hs (frame_execPowerMeasure tenMilliwatt) rfl
  | fastLimiter tenMilliwatt => exact forms_kept hs (frame_execFastLimiter tenMilliwatt) rfl
  | thermalSample tj => exact forms_execThermalSample tj hs
  | powerTargetActive fn => exact forms_kept hs (frame_execPowerTargetActive fn) rfl
  | powerTargetIdle fn => exact forms_kept hs (frame_execPowerTargetIdle fn) rfl
  | powerTargetArrayRetain fn => exact forms_kept hs (frame_execPowerTargetArrayRetain fn) rfl
  | powerTargetStandby fn => exact forms_kept hs (frame_execPowerTargetStandby fn) rfl
  | coreQuiesce fn core => exact forms_execCoreQuiesce fn core hs
  | coreUnquiesce fn core => exact forms_kept hs (frame_execCoreUnquiesce fn core) rfl
  | tbArm fn => exact forms_kept hs (frame_execTbArm fn) rfl
  | tbStop fn => exact forms_kept hs (frame_execTbStop fn) rfl
  | sysrefEdge marginal => exact forms_kept hs (frame_execSysrefEdge marginal) rfl
  | tbTickLoRead fn => exact forms_execTbTickLoRead fn hs
  | trigInEdge pin rising short ps => exact forms_kept hs (frame_execTrigInEdge pin rising short ps) rfl
  | trigOutAssert pin => exact forms_execTrigOutAssert pin hs
  | tickPtpCapture => exact forms_kept hs frame_execTickPtpCapture rfl
  | laneSyncLock lane => exact forms_kept hs (frame_execLaneSyncLock lane) rfl
  | laneLockLoss lane => exact forms_execLaneLockLoss lane hs
  | sampleArrival link k0 crcBad frames => exact forms_execSampleArrival link k0 crcBad frames hs
  | linkDownDrop flow => exact forms_kept hs (frame_execLinkDownDrop flow) rfl
  | pushWindowWrite fn offset data => exact forms_execPushWindowWrite fn offset data hs
  | pullRingPoll fn lane => exact forms_execPullRingPoll fn lane hs
  | packetTake fn lane => exact forms_execPacketTake fn lane hs
  | atTickDue => exact forms_execAtTickDue hs
  | fenceRelease fn lane => exact forms_execFenceRelease fn lane hs
  | replyWrite fn ring => exact forms_execReplyWrite fn ring hs
  | msixHoldoffEnd fn vector => exact forms_execMsixHoldoffEnd fn vector hs
  | laneEnable fn lane => exact forms_execLaneEnable fn lane hs
  | laneDisable fn lane => exact forms_execLaneDisable fn lane hs
  | replyEnable fn ring => exact forms_execReplyEnable fn ring hs
  | ptReplyRead fn ring value => exact forms_execPtReplyRead fn ring value hs
  | registerWrite fn offset wide value => exact forms_execRegisterWrite fn offset wide value hs
  | nop h w => exact forms_submit _ h w hs
  | getCaps h w => exact forms_submit _ h w hs
  | setLevel h w => exact forms_submit _ h w hs
  | commit h w => exact forms_submit _ h w hs
  | commitTick part => exact forms_execCommitTick part hs
  | cmdCancel h w => exact forms_submit _ h w hs
  | stageDiscard h w => exact forms_submit _ h w hs
  | modelLoad h w => exact forms_submit _ h w hs
  | tileProgram h w => exact forms_submit _ h w hs
  | tileVerify h w => exact forms_submit _ h w hs
  | modelCommit h w => exact forms_submit _ h w hs
  | modelRetire h w => exact forms_submit _ h w hs
  | tileConfig h w => exact forms_submit _ h w hs
  | flowOpen h w => exact forms_submit _ h w hs
  | flowBind h w => exact forms_submit _ h w hs
  | flowClose h w => exact forms_submit _ h w hs
  | flowClosed flow => exact forms_execFlowClosed flow hs
  | flowSnapshot h w => exact forms_submit _ h w hs
  | krnSubmit h w => exact forms_submit _ h w hs
  | krnDefine h w => exact forms_submit _ h w hs
  | krnRelease h w => exact forms_submit _ h w hs
  | syncRead h w => exact forms_submit _ h w hs
  | syncSet h w => exact forms_submit _ h w hs
  | trigPulse h w => exact forms_submit _ h w hs
  | ruleSet h w => exact forms_submit _ h w hs
  | ruleClear h w => exact forms_submit _ h w hs
  | tickRead h w => exact forms_submit _ h w hs
  | igChanSet h w => exact forms_submit _ h w hs
  | igDecSet h w => exact forms_submit _ h w hs
  | igCoefLoad h w => exact forms_submit _ h w hs
  | maintStart h w => exact forms_submit _ h w hs
  | selftest h w => exact forms_submit _ h w hs
  | recal h w => exact forms_submit _ h w hs
  | hkSeq h w => exact forms_submit _ h w hs
  | hkCalZero h w => exact forms_submit _ h w hs
  | hkCalFull h w => exact forms_submit _ h w hs
  | attest h w => exact forms_submit _ h w hs
  | fwStage h w => exact forms_submit _ h w hs
  | fwActivate h w => exact forms_submit _ h w hs
  | faultRead h w => exact forms_submit _ h w hs
  | faultExport h w => exact forms_submit _ h w hs
  | unitRetire h w => exact forms_submit _ h w hs
  | unitRestore h w => exact forms_submit _ h w hs
  | netPortSet h w => exact forms_submit _ h w hs
  | netPeerSet h w => exact forms_submit _ h w hs
  | netStatus h w => exact forms_submit _ h w hs
  | slicerCycle part => exact forms_execSlicerCycle part hs
  | overloadClear part => exact forms_kept hs (frame_execOverloadClear part) rfl
  | flowEntryWatchdog part line => exact forms_execFlowEntryWatchdog part line hs
  | layer core queue => exact forms_kept hs (frame_execLayer core queue) rfl
  | signal core queue => exact forms_execSignal core queue hs
  | wait core queue => exact forms_execWait core queue hs
  | lidArrive core queue => exact forms_kept hs (frame_execLidArrive core queue) rfl
  | fence core queue => exact forms_kept hs (frame_execFence core queue) rfl
  | workReset core queue => exact forms_kept hs (frame_execWorkReset core queue) rfl
  | signalArrival src dst fate => exact forms_execSignalArrival src dst fate hs
  | stockpotSignalApply core => exact forms_execStockpotSignalApply core hs
  | lidEdge line => exact forms_execLidEdge line hs
  | fenceAck core queue => exact forms_execFenceAck core queue hs
  | workClaim core queue => exact forms_kept hs (frame_execWorkClaim core queue) rfl
  | workClaimReply core queue => exact forms_execWorkClaimReply core queue hs
  | queueWatchdog core queue => exact forms_execQueueWatchdog core queue hs
  | scoopCodes core queue => exact forms_execScoopCodes core queue hs
  | tileOpAdmit core queue => exact forms_execTileOpAdmit core queue hs
  | phaseStart core tile => exact forms_execPhaseStart core tile hs
  | phaseLatch core tile deviation => exact forms_execPhaseLatch core tile deviation hs
  | tongsDone core first second => exact forms_execTongsDone core first second hs
  | skilletStep core queue => exact forms_execSkilletStep core queue hs
  | psumArrival src dst fate => exact forms_execPsumArrival src dst fate hs
  | activationArrival src dst fate => exact forms_execActivationArrival src dst fate hs
  | sieveBatchEnd core tile block => exact forms_kept hs (frame_execSieveBatchEnd core tile block) rfl
  | blockScan core tile readings => exact forms_execBlockScan core tile readings hs
  | checksDone part => exact forms_execChecksDone part hs
  | funnelReserve part => exact forms_kept hs (frame_execFunnelReserve part) rfl
  | funnelDmaBurst part => exact forms_execFunnelDmaBurst part hs
  | ptFnRead fn part value => exact forms_kept hs (frame_execPtFnRead fn part value) rfl
  | ptFnPio fn part first bytes => exact forms_execPtFnPio fn part first bytes hs
  | refSampleDue core tile => exact forms_kept hs (frame_execRefSampleDue core tile) rfl
  | refSampleDone core tile r => exact forms_execRefSampleDone core tile r hs
  | gainFeedforward core temp => exact forms_kept hs (frame_execGainFeedforward core temp) rfl
  | calWithhold core tile => exact forms_kept hs (frame_execCalWithhold core tile) rfl
  | convCalDue core tile => exact forms_kept hs (frame_execConvCalDue core tile) rfl
  | convCalDone core tile r again temp => exact forms_execConvCalDone core tile r again temp hs
  | tileTestDue core tile => exact forms_kept hs (frame_execTileTestDue core tile) rfl
  | tileTestDone core tile first second => exact forms_execTileTestDone core tile first second hs
  | coreSelftestSlice core failed last => exact forms_execCoreSelftestSlice core failed last hs
  | maintArbiterRun => exact forms_execMaintArbiterRun hs
  | programmingStart core tile => exact forms_kept hs (frame_execProgrammingStart core tile) rfl
  | programmingDone core tile unverified known cal r => exact forms_execProgrammingDone core tile unverified known cal r hs
  | modelEraseStart core tile => exact forms_kept hs (frame_execModelEraseStart core tile) rfl
  | tileEraseDone core tile => exact forms_kept hs (frame_execTileEraseDone core tile) rfl
  | patrolScrub line corrected => exact forms_execPatrolScrub line corrected hs
  | memUncorrectable line bothCopies => exact forms_execMemUncorrectable line bothCopies hs
  | stockpotUncorr line => exact forms_execStockpotUncorr line hs
  | portLinkUp port => exact forms_execPortLinkUp port hs
  | helloTimer => exact forms_execHelloTimer hs
  | hello m levels highest fw format serial => exact forms_execHello m levels highest fw format serial hs
  | record m payload => exact forms_execRecord m payload hs
  | ack m => exact forms_execAck m hs
  | ringCredit m offset => exact forms_execRingCredit m offset hs
  | traceRead m offset count => exact forms_execTraceRead m offset count hs
  | recordResend part peer => exact forms_execRecordResend part peer hs
  | arpRequest port target => exact forms_execArpRequest port target hs
  | neighbourSolicitation port target => exact forms_execNeighbourSolicitation port target hs
  | netRxDrop port => exact forms_kept hs (frame_execNetRxDrop port) rfl
  | ptpSync port domain twoStep offset => exact forms_kept hs (frame_execPtpSync port domain twoStep offset) rfl
  | ptpSyncTimeout => exact forms_kept hs frame_execPtpSyncTimeout rfl
  | roceAck part peer psn => exact forms_kept hs (frame_execRoceAck part peer psn) rfl
  | roceNak part peer psn remoteAccess => exact forms_execRoceNak part peer psn remoteAccess hs
  | roceCnp part peer => exact forms_kept hs (frame_execRoceCnp part peer) rfl
  | roceTimeout part peer => exact forms_execRoceTimeout part peer hs
  | roceRateRecover part peer => exact forms_kept hs (frame_execRoceRateRecover part peer) rfl
  | probeConversion level16 => exact forms_execProbeConversion level16 hs
  | hkAlertClear fn value => exact forms_kept hs (frame_execHkAlertClear fn value) rfl
  | tracePinSend => exact forms_execTracePinSend hs
  | smbReadDevice => exact forms_execSmbReadDevice hs
  | smbReadStatus => exact forms_execSmbReadStatus hs
  | smbReadTjNow => exact forms_execSmbReadTjNow hs
  | smbReadTjPeak => exact forms_execSmbReadTjPeak hs
  | smbReadPkgPower => exact forms_execSmbReadPkgPower hs
  | smbReadStepping => exact forms_execSmbReadStepping hs
  | smbReadPartSerial => exact forms_execSmbReadPartSerial hs
  | smbReadFwVersion => exact forms_execSmbReadFwVersion hs
  | smbReadHkEntry entry => exact forms_execSmbReadHkEntry entry hs
  | smbReadHkAlert => exact forms_execSmbReadHkAlert hs
  | smbusTimeout => exact forms_kept hs frame_execSmbusTimeout rfl
  | bypass => exact forms_execBypass hs
  | idcode => exact forms_execIdcode hs
  | samplePreload chain => exact forms_kept hs (frame_execSamplePreload chain) rfl
  | extest => exact forms_execExtest hs
  | clamp => exact forms_execClamp hs
  | highz => exact forms_kept hs frame_execHighz rfl
  | vddAonFall => exact forms_kept hs frame_execVddAonFall rfl
  | pwrFailNDeassert => exact forms_kept hs frame_execPwrFailNDeassert rfl
  | pciePerstNRelease => exact forms_execPciePerstNRelease hs
  | portLinkDown port => exact forms_kept hs (frame_execPortLinkDown port) rfl
  | coreSram core queue array address => exact forms_execCoreSram core queue array address hs
  | mirrorUncorrectable => exact forms_execMirrorUncorrectable hs
  | powerState => exact forms_execPowerState hs
  | vfEnable count => exact forms_execVfEnable count hs
  | busMasterEnable fn on => exact forms_execBusMasterEnable fn on hs
  | announce port domain rank master => exact forms_kept hs (frame_execAnnounce port domain rank master) rfl
  | followUp port domain offset => exact forms_kept hs (frame_execFollowUp port domain offset) rfl
  | delayResp port domain delay => exact forms_kept hs (frame_execDelayResp port domain delay) rfl
  | pfc port prio quanta => exact forms_kept hs (frame_execPfc port prio quanta) rfl

/-- Settles O5: host memory keeps its canonical form through every step. -/
theorem stepKeepsHostMemoryForm : Obligations.StepKeepsHostMemoryForm := by
  intro s t hs e
  unfold step at e
  split at e
  next c rest hp => exact forms_exec c (s := { s with pending := rest }) hs t e
  next =>
    cases e
    exact form_kept frame_idlePeriod rfl hs

end Sys2Proof.Machine
end

section
/-! PROOF. A step is exec of the front command; a command stops only where its operands have no form (log 16). -/

namespace Sys2Proof.Machine

open Sys2Proof.Safety

/-- Settles O1: by the definition of a step. -/
theorem stepRunsFrontCommand : Obligations.StepRunsFrontCommand := by
  intro c rest s
  rfl

/-! ## What a command answers -/

/-- An answer is a next state where the operands have a form, and the named stop where they have none. -/
structure AnswersBy (wf : Bool) (a : Answer) : Prop where
  next : wf = true → ∃ t, a = .next t
  stop : wf = false → a = .fault .illFormed

theorem answers_next (s : State) : AnswersBy true (.next s) := ⟨fun _ => ⟨s, rfl⟩, nofun⟩

theorem answers_ifDue (due : Bool) (f : State → State) (s : State) : AnswersBy true (ifDue due f s) := answers_next _

theorem answers_checked (wf : Bool) (f : State → State) (s : State) : AnswersBy wf (checked wf f s) := by
  cases wf
  · exact ⟨nofun, fun _ => rfl⟩
  · exact ⟨fun _ => ⟨f s, rfl⟩, nofun⟩

/-- A command that checks its operands first and then always goes on. -/
theorem answers_guarded {wf : Bool} {a : Answer} (ha : ∃ t, a = .next t) :
    AnswersBy wf (if wf then a else .fault .illFormed) := by
  cases wf
  · exact ⟨nofun, fun _ => rfl⟩
  · exact ⟨fun _ => ha, nofun⟩

/-- A packet has a form where its payload has one. -/
theorem check_packet {i : Instr} {op : Nat} {h : Hdr} {w : List Word} (hp : packetOf i = some (op, h, w)) :
    WellFormed.check i = WellFormed.payload w := by
  cases i <;> cases hp <;> rfl

theorem answers_packet {i : Instr} {op : Nat} {h : Hdr} {w : List Word} (s : State) (hp : packetOf i = some (op, h, w)) :
    AnswersBy (WellFormed.check i) (exec i s) := by
  rw [exec_packet s hp, check_packet hp]
  exact answers_checked _ _ _

/-! ## The commands that look at the state before they are due -/

theorem answers_execFwFallback (readyNotReached : Bool) (s : State) : AnswersBy true (execFwFallback readyNotReached s) := by
  unfold execFwFallback
  repeat' split
  all_goals exact answers_next _

theorem answers_execCrockSaveDone (s : State) : AnswersBy true (execCrockSaveDone s) := by
  unfold execCrockSaveDone
  repeat' split
  all_goals exact answers_next _

theorem answers_execTrigOutAssert (pin : Fin 8) (s : State) : AnswersBy true (execTrigOutAssert pin s) := by
  unfold execTrigOutAssert
  repeat' split
  all_goals exact answers_next _

theorem answers_execLaneSyncLock (lane : Fin 16) (s : State) : AnswersBy true (execLaneSyncLock lane s) := by
  unfold execLaneSyncLock
  repeat' split
  all_goals exact answers_next _

theorem answers_execLaneLockLoss (lane : Fin 16) (s : State) : AnswersBy true (execLaneLockLoss lane s) := by
  unfold execLaneLockLoss
  repeat' split
  all_goals exact answers_next _

theorem answers_execLinkDownDrop (flow : Fin 16384) (s : State) : AnswersBy true (execLinkDownDrop flow s) := by
  unfold execLinkDownDrop
  repeat' split
  all_goals exact answers_next _

theorem answers_execFenceRelease (fn : Fin 32) (lane : Fin 16) (s : State) : AnswersBy true (execFenceRelease fn lane s) := by
  unfold execFenceRelease
  repeat' split
  all_goals exact answers_next _

theorem answers_execReplyWrite (fn : Fin 32) (ring : Fin 16) (s : State) : AnswersBy true (execReplyWrite fn ring s) := by
  unfold execReplyWrite
  dsimp only
  repeat' split
  all_goals exact answers_next _

theorem answers_execMsixHoldoffEnd (fn : Fin 32) (vector : Fin 64) (s : State) :
    AnswersBy true (execMsixHoldoffEnd fn vector s) := by
  unfold execMsixHoldoffEnd
  dsimp only
  repeat' split
  all_goals exact answers_next _

theorem answers_execOverloadClear (part : Fin 8) (s : State) : AnswersBy true (execOverloadClear part s) := by
  unfold execOverloadClear
  repeat' split
  all_goals exact answers_next _

theorem answers_execFlowEntryWatchdog (part : Fin 8) (line : Fin 16384) (s : State) :
    AnswersBy true (execFlowEntryWatchdog part line s) := by
  unfold execFlowEntryWatchdog
  repeat' split
  all_goals exact answers_next _

theorem answers_execLayer (core : Fin 32) (queue : Fin 4) (s : State) : AnswersBy true (execLayer core queue s) := by
  unfold execLayer
  repeat' split
  all_goals exact answers_next _

theorem answers_execSignal (core : Fin 32) (queue : Fin 4) (s : State) : AnswersBy true (execSignal core queue s) := by
  unfold execSignal
  repeat' split
  all_goals exact answers_next _

theorem answers_execWait (core : Fin 32) (queue : Fin 4) (s : State) : AnswersBy true (execWait core queue s) := by
  unfold execWait
  repeat' split
  all_goals exact answers_next _

theorem answers_execLidArrive (core : Fin 32) (queue : Fin 4) (s : State) : AnswersBy true (execLidArrive core queue s) := by
  unfold execLidArrive
  repeat' split
  all_goals exact answers_next _

theorem answers_execFence (core : Fin 32) (queue : Fin 4) (s : State) : AnswersBy true (execFence core queue s) := by
  unfold execFence
  repeat' split
  all_goals exact answers_next _

theorem answers_execWorkReset (core : Fin 32) (queue : Fin 4) (s : State) : AnswersBy true (execWorkReset core queue s) := by
  unfold execWorkReset
  repeat' split
  all_goals exact answers_next _

theorem answers_execSignalArrival (src dst : Fin 32) (fate : FlitFate) (s : State) :
    AnswersBy true (execSignalArrival src dst fate s) := by
  unfold execSignalArrival
  repeat' split
  all_goals exact answers_next _

theorem answers_execStockpotSignalApply (core : Fin 32) (s : State) : AnswersBy true (execStockpotSignalApply core s) := by
  unfold execStockpotSignalApply
  repeat' split
  all_goals exact answers_next _

theorem answers_execFenceAck (core : Fin 32) (queue : Fin 4) (s : State) : AnswersBy true (execFenceAck core queue s) := by
  unfold execFenceAck
  repeat' split
  all_goals exact answers_next _

theorem answers_execWorkClaim (core : Fin 32) (queue : Fin 4) (s : State) : AnswersBy true (execWorkClaim core queue s) := by
  unfold execWorkClaim
  dsimp only
  repeat' split
  all_goals exact answers_next _

theorem answers_execWorkClaimReply (core : Fin 32) (queue : Fin 4) (s : State) :
    AnswersBy true (execWorkClaimReply core queue s) := by
  unfold execWorkClaimReply
  dsimp only
  repeat' split
  all_goals exact answers_next _

theorem answers_execQueueWatchdog (core : Fin 32) (queue : Fin 4) (s : State) :
    AnswersBy true (execQueueWatchdog core queue s) := by
  unfold execQueueWatchdog
  repeat' split
  all_goals exact answers_next _

theorem answers_execScoopCodes (core : Fin 32) (queue : Fin 4) (s : State) : AnswersBy true (execScoopCodes core queue s) := by
  unfold execScoopCodes
  repeat' split
  all_goals exact answers_next _

theorem answers_execTileOpAdmit (core : Fin 32) (queue : Fin 4) (s : State) :
    AnswersBy true (execTileOpAdmit core queue s) := by
  unfold execTileOpAdmit
  dsimp only
  repeat' split
  all_goals exact answers_next _

theorem answers_execPhaseStart (core : Fin 32) (tile : Fin 33) (s : State) : AnswersBy true (execPhaseStart core tile s) := by
  unfold execPhaseStart
  dsimp only
  repeat' split
  all_goals exact answers_next _

theorem answers_execSkilletStep (core : Fin 32) (queue : Fin 4) (s : State) :
    AnswersBy true (execSkilletStep core queue s) := by
  unfold execSkilletStep
  repeat' split
  all_goals exact answers_next _

theorem answers_execPsumArrival (src dst : Fin 32) (fate : FlitFate) (s : State) :
    AnswersBy true (execPsumArrival src dst fate s) := by
  unfold execPsumArrival
  repeat' split
  all_goals exact answers_next _

theorem answers_execActivationArrival (src dst : Fin 32) (fate : FlitFate) (s : State) :
    AnswersBy true (execActivationArrival src dst fate s) := by
  unfold execActivationArrival
  repeat' split
  all_goals exact answers_next _

theorem answers_execSieveBatchEnd (core : Fin 32) (tile : Fin 33) (block : Fin 16) (s : State) :
    AnswersBy true (execSieveBatchEnd core tile block s) := by
  unfold execSieveBatchEnd
  repeat' split
  all_goals exact answers_next _

theorem answers_execRefSampleDone (core : Fin 32) (tile : Fin 33) (r : RefReading) (s : State) :
    AnswersBy true (execRefSampleDone core tile r s) := by
  unfold execRefSampleDone
  repeat' split
  all_goals exact answers_next _

theorem answers_execTileEraseDone (core : Fin 32) (tile : Fin 33) (s : State) :
    AnswersBy true (execTileEraseDone core tile s) := by
  unfold execTileEraseDone
  repeat' split
  all_goals exact answers_next _

theorem answers_execPowerState (s : State) : AnswersBy true (execPowerState s) := by
  unfold execPowerState
  repeat' split
  all_goals exact answers_next _

/-! ## The commands that check their operands before the state -/

theorem answers_execPhaseLatch (core : Fin 32) (tile : Fin 33) (dev : List (Nat × Int)) (s : State) :
    AnswersBy (WellFormed.deviation dev) (execPhaseLatch core tile dev s) := by
  unfold execPhaseLatch
  refine answers_guarded ?_
  repeat' split
  all_goals exact ⟨_, rfl⟩

theorem answers_execTongsDone (core : Fin 32) (first second : List KatReading) (s : State) :
    AnswersBy (WellFormed.kats first && WellFormed.kats second) (execTongsDone core first second s) := by
  unfold execTongsDone
  refine answers_guarded ?_
  repeat' split
  all_goals exact ⟨_, rfl⟩

theorem answers_execBlockScan (core : Fin 32) (tile : Fin 33) (readings : List (Nat × Nat × Int)) (s : State) :
    AnswersBy (WellFormed.scan readings) (execBlockScan core tile readings s) := by
  unfold execBlockScan
  refine answers_guarded ?_
  repeat' split
  all_goals exact ⟨_, rfl⟩

theorem answers_execConvCalDone (core : Fin 32) (tile : Fin 33) (r again : CalReading) (temp : Int) (s : State) :
    AnswersBy (WellFormed.cal r && WellFormed.cal again) (execConvCalDone core tile r again temp s) := by
  unfold execConvCalDone
  refine answers_guarded ?_
  repeat' split
  all_goals exact ⟨_, rfl⟩

theorem answers_execTileTestDone (core : Fin 32) (tile : Fin 33) (first second : List KatReading) (s : State) :
    AnswersBy (WellFormed.kats first && WellFormed.kats second) (execTileTestDone core tile first second s) := by
  unfold execTileTestDone
  refine answers_guarded ?_
  repeat' split
  all_goals exact ⟨_, rfl⟩

theorem answers_execProgrammingDone (core : Fin 32) (tile : Fin 33) (unverified : List (Nat × Nat))
    (known : List KatReading) (cal : CalReading) (r : RefReading) (s : State) :
    AnswersBy (WellFormed.cells unverified && WellFormed.kats known && WellFormed.cal cal)
      (execProgrammingDone core tile unverified known cal r s) := by
  unfold execProgrammingDone
  refine answers_guarded ?_
  repeat' split
  all_goals exact ⟨_, rfl⟩

theorem answers_execPtFnPio (fn : Fin 32) (part : Fin 8) (first : Fin 64) (bytes : Nat) (s : State) :
    AnswersBy (WellFormed.pio first bytes) (execPtFnPio fn part first bytes s) := by
  unfold execPtFnPio
  exact answers_checked _ _ _

theorem answers_execTraceRead (m : MsgHdr) (offset n : Word) (s : State) :
    AnswersBy (WellFormed.msgType m 5) (execTraceRead m offset n s) := by
  unfold execTraceRead
  exact answers_checked _ _ _

/-! ## Every command -/

/-- Every command answers a next state where its operands have a form, and is turned away by name where they have none. -/
theorem exec_answers (c : Instr) (s : State) : AnswersBy (WellFormed.check c) (exec c s) := by
  match c with
  | .startupReady | .flrVf _ | .flrPf | .refclkLost | .refclkRestored | .powerMeasure _ | .thermalSample _
  | .powerTargetActive _ | .powerTargetIdle _ | .powerTargetArrayRetain _ | .powerTargetStandby _ | .coreQuiesce _ _
  | .coreUnquiesce _ _ | .tbArm _ | .tbStop _ | .sysrefEdge _ | .trigInEdge _ _ _ _ | .sampleArrival _ _ _ _ | .packetTake _ _
  | .laneEnable _ _ | .laneDisable _ _ | .replyEnable _ _ | .ptReplyRead _ _ _ | .commitTick _ | .flowClosed _
  | .funnelReserve _ | .ptFnRead _ _ _ | .refSampleDue _ _ | .gainFeedforward _ _ | .coreSelftestSlice _ _ _ | .helloTimer
  | .recordResend _ _ | .arpRequest _ _ | .neighbourSolicitation _ _ | .netRxDrop _ | .roceTimeout _ _ | .probeConversion _
  | .hkAlertClear _ _ | .tracePinSend | .smbReadDevice | .smbReadStatus | .smbReadTjNow | .smbReadTjPeak | .smbReadPkgPower
  | .smbReadStepping | .smbReadPartSerial | .smbReadFwVersion | .smbReadHkEntry _ | .smbReadHkAlert | .highz
  | .mirrorUncorrectable | .followUp _ _ _ => exact answers_ifDue _ _ _
  | .coldPowerOn | .resetNAssert | .resetNRelease | .pwrFailNAssert | .pciePerstNAssert | .fastLimiter _ | .tbTickLoRead _
  | .tickPtpCapture | .pullRingPoll _ _ | .atTickDue | .slicerCycle _ | .lidEdge _ | .checksDone _ | .funnelDmaBurst _
  | .calWithhold _ _ | .convCalDue _ _ | .tileTestDue _ _ | .maintArbiterRun | .programmingStart _ _
  | .modelEraseStart _ _ | .stockpotUncorr _ | .portLinkUp _ | .ptpSync _ _ _ _ | .ptpSyncTimeout
  | .roceAck _ _ _ | .roceNak _ _ _ _ | .roceCnp _ _ | .roceRateRecover _ _ | .smbusTimeout | .bypass | .idcode
  | .samplePreload _ | .extest | .clamp | .vddAonFall | .pwrFailNDeassert | .pciePerstNRelease | .portLinkDown _
  | .coreSram _ _ _ _ | .vfEnable _ | .busMasterEnable _ _ | .announce _ _ _ _ | .delayResp _ _ _ | .pfc _ _ _ => exact answers_next _
  | .pushWindowWrite _ _ _ | .registerWrite _ _ _ _ | .patrolScrub _ _ | .memUncorrectable _ _ | .hello _ _ _ _ _ _
  | .record _ _ | .ack _ | .ringCredit _ _ => exact answers_checked _ _ _
  | .ptFnPio _ _ first bytes => exact answers_execPtFnPio _ _ first bytes s
  | .traceRead m _ _ => exact answers_execTraceRead m _ _ s
  | .nop _ _ | .getCaps _ _ | .setLevel _ _ | .commit _ _ | .cmdCancel _ _ | .stageDiscard _ _ | .modelLoad _ _
  | .tileProgram _ _ | .tileVerify _ _ | .modelCommit _ _ | .modelRetire _ _ | .tileConfig _ _ | .flowOpen _ _ | .flowBind _ _
  | .flowClose _ _ | .flowSnapshot _ _ | .krnSubmit _ _ | .krnDefine _ _ | .krnRelease _ _ | .syncRead _ _ | .syncSet _ _
  | .trigPulse _ _ | .ruleSet _ _ | .ruleClear _ _ | .tickRead _ _ | .igChanSet _ _ | .igDecSet _ _ | .igCoefLoad _ _
  | .maintStart _ _ | .selftest _ _ | .recal _ _ | .hkSeq _ _ | .hkCalZero _ _ | .hkCalFull _ _ | .attest _ _ | .fwStage _ _
  | .fwActivate _ _ | .faultRead _ _ | .faultExport _ _ | .unitRetire _ _ | .unitRestore _ _ | .netPortSet _ _
  | .netPeerSet _ _ | .netStatus _ _ => exact answers_packet s rfl
  | .fwFallback readyNotReached => exact answers_execFwFallback readyNotReached s
  | .crockSaveDone => exact answers_execCrockSaveDone s
  | .trigOutAssert pin => exact answers_execTrigOutAssert pin s
  | .laneSyncLock lane => exact answers_execLaneSyncLock lane s
  | .laneLockLoss lane => exact answers_execLaneLockLoss lane s
  | .linkDownDrop flow => exact answers_execLinkDownDrop flow s
  | .fenceRelease fn lane => exact answers_execFenceRelease fn lane s
  | .replyWrite fn ring => exact answers_execReplyWrite fn ring s
  | .msixHoldoffEnd fn vector => exact answers_execMsixHoldoffEnd fn vector s
  | .overloadClear part => exact answers_execOverloadClear part s
  | .flowEntryWatchdog part line => exact answers_execFlowEntryWatchdog part line s
  | .layer core queue => exact answers_execLayer core queue s
  | .signal core queue => exact answers_execSignal core queue s
  | .wait core queue => exact answers_execWait core queue s
  | .lidArrive core queue => exact answers_execLidArrive core queue s
  | .fence core queue => exact answers_execFence core queue s
  | .workReset core queue => exact answers_execWorkReset core queue s
  | .signalArrival src dst fate => exact answers_execSignalArrival src dst fate s
  | .stockpotSignalApply core => exact answers_execStockpotSignalApply core s
  | .fenceAck core queue => exact answers_execFenceAck core queue s
  | .workClaim core queue => exact answers_execWorkClaim core queue s
  | .workClaimReply core queue => exact answers_execWorkClaimReply core queue s
  | .queueWatchdog core queue => exact answers_execQueueWatchdog core queue s
  | .scoopCodes core queue => exact answers_execScoopCodes core queue s
  | .tileOpAdmit core queue => exact answers_execTileOpAdmit core queue s
  | .phaseStart core tile => exact answers_execPhaseStart core tile s
  | .skilletStep core queue => exact answers_execSkilletStep core queue s
  | .psumArrival src dst fate => exact answers_execPsumArrival src dst fate s
  | .activationArrival src dst fate => exact answers_execActivationArrival src dst fate s
  | .sieveBatchEnd core tile block => exact answers_execSieveBatchEnd core tile block s
  | .refSampleDone core tile r => exact answers_execRefSampleDone core tile r s
  | .tileEraseDone core tile => exact answers_execTileEraseDone core tile s
  | .powerState => exact answers_execPowerState s
  | .phaseLatch core tile dev => exact answers_execPhaseLatch core tile dev s
  | .tongsDone core first second => exact answers_execTongsDone core first second s
  | .blockScan core tile readings => exact answers_execBlockScan core tile readings s
  | .convCalDone core tile r again temp => exact answers_execConvCalDone core tile r again temp s
  | .tileTestDone core tile first second => exact answers_execTileTestDone core tile first second s
  | .programmingDone core tile unverified known cal r => exact answers_execProgrammingDone core tile unverified known cal r s

/-- Settles O3: by the answer of each command. -/
theorem onlyIllFormedCommandsStop : Obligations.OnlyIllFormedCommandsStop := fun c s =>
  ⟨(exec_answers c s).next, (exec_answers c s).stop⟩

end Sys2Proof.Machine
end

section
/-! PROOF. What reset leaves (R397, R460). -/

namespace Sys2Proof.Machine

open Sys2Proof.Safety

/-- Tile t of a core stands at its place among the core's 33. -/
theorem tileNo_mod (core : Nat) {t : Nat} (ht : t < 33) : tileNo core t % 33 = t := by
  unfold tileNo
  omega

/-- A tile that the table does not list stands at its start. -/
theorem reset_tile (core t : Nat) : State.reset.tile core t = Tile.start (tileNo core t) := rfl

/-- Settles O4: by what State.reset holds. -/
theorem resetState : Obligations.ResetState := by
  refine ⟨rfl, rfl, rfl, rfl, rfl, rfl, rfl, rfl, rfl, rfl, fun core t ht => ?_, fun core => ?_, fun off => rfl, fun fn k => rfl,
    rfl, rfl, rfl, fun n => rfl, fun off => rfl, rfl, Memory.wf_nil, fun c hc => nomatch hc⟩
  · rw [reset_tile, Tile.start, tileNo_mod core (by omega), if_neg (by omega)]
    rfl
  · rw [reset_tile, Tile.start, tileNo_mod core (by omega), if_pos rfl]
    rfl

end Sys2Proof.Machine
end

section
/-! PROOF. Start-up and power failure: FW_FALLBACK (R414) and what PWR_FAIL_N, CROCK_SAVE_DONE and VDD_AON do (R390, R395, R396). -/

namespace Sys2Proof.Machine

open Sys2Proof.Safety

/-- FW_FALLBACK on a slot that was tried and failed as the row says. -/
theorem exec_fwFallback {b : Bool} {s : State} {k : Nat} (htried : s.sec.tried = some k) (hstart : s.power.startup ≠ .none)
    (hreset : s.power.resetN = true) (hboots : s.sec.boots k = b) :
    exec (.fwFallback b) s = .next ((s.modSec (fun x => { x with tried := none, activatePending := false })).modPower
      (fun p => { p with fwFallback := true, pendingEvents := p.pendingEvents ++ [ev 0x4C 2 noFault k (b2n b) 0 0] })) := by
  have hdue : (!(s.power.startup == .none) && s.power.resetN && (s.sec.boots k == b)) = true := by
    simp [hstart, hreset, hboots]
  unfold exec execFwFallback
  rw [htried]
  simp only [hdue, ifDue_true]

/-- Settles O11: the slot tried is forgotten, and the event waits for READY. -/
theorem fallbackBootsOtherSlot : Obligations.FallbackBootsOtherSlot := by
  intro b s k htried hstart hreset hboots
  exact ⟨_, exec_fwFallback htried hstart hreset hboots, rfl, rfl,
    ((modSec_same _ s).mono (by simp)).trans ((modPower_same _ _).mono (by simp))⟩

end Sys2Proof.Machine
end

section
/-! PROOF. Readings of the parts that a change leaves alone: the timebase and its pins, power, the host, the register groups and the
funnels. -/

namespace Sys2Proof.Safety

open Sys2Proof.Machine

theorem SameBut.tb {L : List Piece} {s t : State} (h : SameBut L s t) (hp : Piece.tb ∉ L) : t.tb = s.tb := h .tb hp

theorem SameBut.power {L : List Piece} {s t : State} (h : SameBut L s t) (hp : Piece.power ∉ L) : t.power = s.power := h .power hp

theorem SameBut.host {L : List Piece} {s t : State} (h : SameBut L s t) (hp : Piece.host ∉ L) : t.host = s.host := h .host hp

theorem SameBut.pre {L : List Piece} {s t : State} (h : SameBut L s t) (hp : Piece.pre ∉ L) : t.pre = s.pre := h .pre hp

theorem SameBut.net {L : List Piece} {s t : State} (h : SameBut L s t) (hp : Piece.net ∉ L) : t.net = s.net := h .net hp

theorem SameBut.ingest {L : List Piece} {s t : State} (h : SameBut L s t) (hp : Piece.ingest ∉ L) : t.ingest = s.ingest :=
  h .ingest hp

theorem SameBut.pin {L : List Piece} {s t : State} (h : SameBut L s t) (hp : Piece.tb ∉ L) (p : Nat) : t.pin p = s.pin p := by
  unfold State.pin
  rw [h.tb hp]

theorem SameBut.funnel {L : List Piece} {s t : State} (h : SameBut L s t) (hp : Piece.funnels ∉ L) (q : Nat) :
    t.funnel q = s.funnel q := by
  have he : t.funnels = s.funnels := h .funnels hp
  unfold State.funnel
  rw [he]

/-- A pin reads as the tables keyed by pins do. -/
theorem pin_modPin (p q : Nat) (g : TrigOut → TrigOut) (s : State) : (s.modPin p g).pin q = if q = p then g (s.pin p) else s.pin q := by
  unfold State.modPin State.pin
  exact tget_tset ..

end Sys2Proof.Safety
end

section
/-! PROOF. Power failure and the Crock: what PWR_FAIL_N, CROCK_SAVE_DONE and VDD_AON do (R390, R395, R396). -/

namespace Sys2Proof.Machine

open Sys2Proof.Safety

/-- What folding ages and the tick into the mirrors may do: nothing but to the mirrors and their bookkeeping, and LAST_HALT stays. -/
structure Folded (s t : State) : Prop where
  frame : SameBut [.crock] s t
  crock : ∃ m c d, t.crock = { s.crock with mirror := m, foldClk := c, dirty := d } ∧ m.lastHalt = s.crock.mirror.lastHalt

theorem Folded.refl (s : State) : Folded s s := ⟨.refl _ s, _, _, _, rfl, rfl⟩

theorem Folded.trans {s t u : State} (h : Folded s t) (g : Folded t u) : Folded s u := by
  obtain ⟨hf, m, c, d, hc, hm⟩ := h
  obtain ⟨gf, m', c', d', gc, gm⟩ := g
  refine ⟨hf.trans gf, m', c', d', ?_, ?_⟩
  · rw [gc, hc]
  · rw [gm, hc, ← hm]

theorem foldAges_folded (s : State) : Folded s (foldAges s) := by
  refine ⟨Framed.same (frame_foldAges (fun _ h => h)), ?_⟩
  unfold foldAges
  extract_lets sec
  split
  · exact ⟨_, _, _, rfl, rfl⟩
  · exact ⟨_, _, _, rfl, rfl⟩

theorem foldTick_folded (s : State) : Folded s s.foldTick := by
  refine ⟨foldTick_same s, ?_⟩
  unfold State.foldTick
  split <;> exact ⟨_, _, _, rfl, rfl⟩

@[simp] theorem Crock.copy_setCopy (k : Crock) (i : Nat) (c : CrockCopy) : (k.setCopy i c).copy i = c := by
  unfold Crock.setCopy Crock.copy
  split <;> rfl

/-- Copies 0 and 1 are two. -/
theorem Crock.copy_setCopy_other {k : Crock} {i : Nat} (hi : i ≤ 1) (c : CrockCopy) :
    (k.setCopy i c).copy (1 - i) = k.copy (1 - i) := by
  unfold Crock.setCopy Crock.copy
  obtain rfl | rfl : i = 0 ∨ i = 1 := by omega
  · rfl
  · rfl

/-- The number of the save that follows the newest good one. -/
def Crock.nextSeq (k : Crock) : Nat := (if (k.copy k.newest).good then (k.copy k.newest).seq else 0) + 1

/-- A save has begun in the copy that does not hold the newest one, which is not good from then on (R390). -/
structure SaveBegun (halt : Nat) (cmd : Option Nat) (k l : Crock) : Prop where
  complete : (l.copy (1 - k.newest)).complete = 0
  seq : (l.copy (1 - k.newest)).seq = k.nextSeq
  kept : k.newest ≤ 1 → l.copy k.newest = k.copy k.newest
  save : l.save = some { target := 1 - k.newest, lastHalt := halt, frozen := l.mirror, cmd := cmd }

theorem beginSave_begun (halt : Nat) (cmd : Option Nat) (s : State) :
    SaveBegun halt cmd s.crock (beginSave halt cmd s).crock ∧
    (beginSave halt cmd s).crock.mirror.lastHalt = s.crock.mirror.lastHalt := by
  obtain ⟨-, m, c, d, hcrock, hm⟩ := (foldAges_folded s).trans (foldTick_folded _)
  unfold beginSave
  simp only [State.modCrock, hcrock]
  refine ⟨⟨?_, ?_, fun hn => ?_, ?_⟩, ?_⟩
  · exact congrArg CrockCopy.complete (Crock.copy_setCopy ..)
  · exact congrArg CrockCopy.seq (Crock.copy_setCopy ..)
  · have hother : 1 - (1 - s.crock.newest) = s.crock.newest := by omega
    have h := Crock.copy_setCopy_other (k := { s.crock with mirror := m, foldClk := c, dirty := d })
      (i := 1 - s.crock.newest) (by omega) { s.crock.copy (1 - s.crock.newest) with
        magicOk := true, formatOk := true, complete := 0, seq := s.crock.nextSeq, crcOk := false }
    rw [hother] at h
    exact h
  · have h (k : Crock) (i : Nat) (x : CrockCopy) : (k.setCopy i x).mirror = k.mirror := by
      unfold Crock.setCopy; split <;> rfl
    simp only [h]
  · have h (k : Crock) (i : Nat) (x : CrockCopy) : (k.setCopy i x).mirror = k.mirror := by
      unfold Crock.setCopy; split <;> rfl
    simp only [h, hm]

/-- A suppressed pin has nothing pending and is not active; the others stay. -/
theorem suppressPin_pin (p q : Nat) (s : State) : (suppressPin p s).pin q =
    if q = p then { s.pin p with schedule := [], activeUntil := none } else s.pin q := by
  have hc (i n k : Nat) : (count i n s).pin k = s.pin k := (count_same i n s).pin (by simp) k
  unfold suppressPin
  simp only
  split
  · refine ((emit_same _ _).pin (by simp) q).trans ?_
    rw [pin_modPin, hc, hc]
  · rw [pin_modPin, hc, hc]

/-- Nothing is pending on a pin, and it is not active. -/
def PinQuiet (p : Nat) (s : State) : Prop := (s.pin p).schedule = [] ∧ (s.pin p).activeUntil = none

theorem each_suppressPin_quiet (l : List Nat) (s : State) (p : Nat) (hp : p ∈ l ∨ PinQuiet p s) :
    PinQuiet p (each l suppressPin s) := by
  induction l generalizing s with
  | nil => exact hp.resolve_left List.not_mem_nil
  | cons q l ih =>
    refine ih (suppressPin q s) ?_
    by_cases hq : p = q
    · refine .inr ?_
      unfold PinQuiet
      rw [suppressPin_pin, if_pos hq]
      exact ⟨rfl, rfl⟩
    · refine hp.imp (fun h => (List.mem_cons.1 h).resolve_left hq) (fun h => ?_)
      unfold PinQuiet
      rwa [suppressPin_pin, if_neg hq]

theorem suppressAll_quiet (s : State) {p : Nat} (hp : p < 8) : PinQuiet p (suppressAll s) :=
  each_suppressPin_quiet _ s p (.inl (List.mem_range.2 hp))

/-! ## A halt with a save -/

/-- What a halt leaves alone (R380, R395, R408). -/
theorem haltWith_same (halt : Nat) (s : State) : SameBut [.power, .crock, .host, .tb, .counters] s (haltWith halt s) :=
  Framed.same (frame_haltWith halt (fun _ h => h))

/-- But for the Crock a halt is its flag and the pins that go inactive. -/
theorem haltWith_suppressed (halt : Nat) (s : State) :
    SameBut [.crock] (suppressAll (s.modPower (fun p => { p with halted := true }))) (haltWith halt s) := by
  unfold haltWith
  extract_lets s1
  have h2 : SameBut [.crock] s1 (foldAges s1) := (foldAges_folded s1).frame
  have h3 : SameBut [.crock] (foldAges s1) ((foldAges s1).modMirror (fun j => { j with lastHalt := halt })) := modMirror_same _ _
  have h4 (u : State) : SameBut [.crock] u (beginSave halt none u) := Framed.same (frame_beginSave _ _ (fun _ h => h))
  exact (h2.trans h3).trans (h4 _)

theorem haltWith_power (halt : Nat) (s : State) : (haltWith halt s).power = { s.power with halted := true } := by
  rw [(haltWith_suppressed halt s).power (by simp), (suppressAll_same _).power (by simp)]
  rfl

theorem haltWith_pin (halt : Nat) (s : State) {p : Nat} (hp : p < 8) : PinQuiet p (haltWith halt s) := by
  unfold PinQuiet
  rw [(haltWith_suppressed halt s).pin (by simp)]
  exact suppressAll_quiet _ hp

/-- The halt stands in the mirrors, and their save has begun. -/
theorem haltWith_crock (halt : Nat) (s : State) : SaveBegun halt none s.crock (haltWith halt s).crock ∧
    (haltWith halt s).crock.mirror.lastHalt = halt := by
  have h1 : (suppressAll (s.modPower (fun p => { p with halted := true }))).crock = s.crock :=
    (suppressAll_same _).crock (by simp)
  obtain ⟨-, m, c, d, hfold, -⟩ := foldAges_folded (suppressAll (s.modPower (fun p => { p with halted := true })))
  unfold haltWith
  extract_lets s1
  obtain ⟨⟨hcomplete, hseq, hkept, hsave⟩, hlast⟩ :=
    beginSave_begun halt none ((foldAges s1).modMirror (fun j => { j with lastHalt := halt }))
  have hk : ((foldAges s1).modMirror (fun j => { j with lastHalt := halt })).crock =
      { s.crock with mirror := { m with lastHalt := halt }, foldClk := c, dirty := true } := by
    simp only [State.modMirror, hfold, s1, h1]
  rw [hk] at hcomplete hseq hkept hsave hlast
  exact ⟨⟨hcomplete, hseq, hkept, hsave⟩, hlast⟩

/-! ## The rows -/

/-- PWR_FAIL_N low on a device that runs from the Crock's rail. -/
theorem exec_pwrFailNAssert {s : State} (hrail : s.power.aonOk = true) (hpin : s.power.pwrFailN = true) :
    exec .pwrFailNAssert s = .next (if s.power.state = 3 ∨ s.crock.recovered = false ∨ s.power.halted = true then
      s.modPower (fun p => { p with pwrFailN := false })
      else haltWith 0 ((s.modPower (fun p => { p with pwrFailN := false })).modCrock (fun k => { k with save := none }))) := by
  have hdue : (s.power.aonOk && s.power.pwrFailN) = true := by rw [hrail, hpin]; rfl
  unfold exec execPwrFailNAssert
  rw [hdue, ifDue_true]
  simp [State.modPower, or_assoc]

/-- CROCK_SAVE_DONE of a save that no command asked for. -/
theorem exec_crockSaveDone {s : State} {j : SaveJob} (hrail : s.power.aonOk = true) (hsave : s.crock.save = some j)
    (hcmd : j.cmd = none) : exec .crockSaveDone s = .next (endSave j s) := by
  unfold exec execCrockSaveDone
  rw [hsave]
  simp only [hrail, ifDue_true, hcmd]

/-- The save that ends leaves a copy that is good, the newest one (R390). -/
theorem endSave_copy (j : SaveJob) (s : State) : (endSave j s).crock.copy j.target = { s.crock.copy j.target with
    complete := 0x5A, crcOk := true, journal := { j.frozen with lastHalt := j.lastHalt } } := by
  unfold endSave Crock.setCopy Crock.copy
  simp only [State.modCrock]
  split <;> rfl

theorem endSave_other {j : SaveJob} (hj : j.target ≤ 1) (s : State) :
    (endSave j s).crock.copy (1 - j.target) = s.crock.copy (1 - j.target) :=
  Crock.copy_setCopy_other hj _

theorem endSave_mirror (j : SaveJob) (s : State) : (endSave j s).crock.mirror = s.crock.mirror := by
  unfold endSave Crock.setCopy
  simp only [State.modCrock]
  split <;> rfl

/-- PWR_FAIL_N low on a running device, from the halt and the save it begins. -/
theorem powerFailure_halts {s : State} (hrail : s.power.aonOk = true) (hpin : s.power.pwrFailN = true) (hstate : s.power.state ≠ 3)
    (hrec : s.crock.recovered = true) (hhalt : s.power.halted = false) (hnew : s.crock.newest ≤ 1) :
    Completes .pwrFailNAssert s (fun t =>
    t.power = { s.power with pwrFailN := false, halted := true } ∧
    t.crock.mirror.lastHalt = 0 ∧ (t.crock.copy (1 - s.crock.newest)).complete = 0 ∧
    ((s.crock.copy s.crock.newest).good = true →
      (t.crock.copy (1 - s.crock.newest)).seq = (s.crock.copy s.crock.newest).seq + 1) ∧
    t.crock.copy s.crock.newest = s.crock.copy s.crock.newest ∧
    t.crock.save = some { target := 1 - s.crock.newest, lastHalt := 0, frozen := t.crock.mirror, cmd := none } ∧
    (∀ p, p < 8 → (t.pin p).schedule = [] ∧ (t.pin p).activeUntil = none) ∧
    SameBut [.power, .crock, .counters, .tb, .host] s t) := by
  refine ⟨_, exec_pwrFailNAssert hrail hpin, ?_⟩
  rw [if_neg (by simp [hstate, hrec, hhalt])]
  obtain ⟨⟨hcomplete, hseq, hkept, hsave⟩, hlast⟩ :=
    haltWith_crock 0 ((s.modPower (fun p => { p with pwrFailN := false })).modCrock (fun k => { k with save := none }))
  have hnext (hgood : (s.crock.copy s.crock.newest).good = true) : s.crock.nextSeq = (s.crock.copy s.crock.newest).seq + 1 := by
    unfold Crock.nextSeq
    rw [if_pos hgood]
  refine ⟨haltWith_power 0 _, hlast, hcomplete, fun hgood => hseq.trans (hnext hgood), hkept hnew, hsave,
    fun p hp => haltWith_pin 0 _ hp, ?_⟩
  · exact (((modPower_same _ s).mono (by simp)).trans ((modCrock_same _ _).mono (by simp))).trans
      ((haltWith_same 0 _).mono (by simp))

/-- Settles O12: a halt with its save, the pin alone, the save's end and the fall of VDD_AON. -/
theorem powerFailureSavesTheMirrors : Obligations.PowerFailureSavesTheMirrors := by
  refine ⟨fun s => powerFailure_halts, fun s hrail hpin hno => ?_, fun s hrail => ?_, fun s j hrail hsave hj hmagic hform hcmd => ?_,
    fun s hrail => ?_⟩
  · refine ⟨_, exec_pwrFailNAssert hrail hpin, ?_⟩
    rw [if_pos hno]
    exact ⟨rfl, modPower_same _ s⟩
  · refine ⟨s.modPower (fun p => { p with pwrFailN := true }), ?_, rfl, modPower_same _ s⟩
    unfold exec execPwrFailNDeassert
    rw [hrail, ifDue_true]
  · refine ⟨_, exec_crockSaveDone hrail hsave hcmd, ?_, ?_, ?_, endSave_other hj s, rfl, rfl, endSave_mirror j s,
      Framed.same (frame_endSave j (fun _ h => h))⟩
    · rw [endSave_copy, CrockCopy.good, hmagic, hform]
      rfl
    · rw [endSave_copy]
    · rw [endSave_copy]
  · refine ⟨(s.modCrock (fun k => { k with save := none, recovered := false })).modPower
      (fun p => { p with aonOk := false, ready := false, startup := .none, halted := true }), ?_, rfl, rfl,
      ((modCrock_same _ s).mono (by simp)).trans ((modPower_same _ _).mono (by simp))⟩
    unfold exec execVddAonFall
    rw [hrail, ifDue_true]

end Sys2Proof.Machine
end

section
/-! PROOF. Power states and temperature: a request for a power state (R401) and a temperature sample (R408, R409). -/

namespace Sys2Proof.Machine

open Sys2Proof.Safety

/-! ## Fields of registers -/

/-- Replacing bits [lo + n - 1 : lo] of a number makes them read as written. -/
theorem bitsN_replaced (old lo n v : Nat) :
    bitsN (old - bitsN old lo n * 2 ^ lo + v % 2 ^ n * 2 ^ lo) lo n = v % 2 ^ n := by
  have hlow := Nat.div_add_mod old (2 ^ lo)
  have hhigh := Nat.div_add_mod (old / 2 ^ lo) (2 ^ n)
  have hn : bitsN old lo n = old / 2 ^ lo % 2 ^ n := rfl
  have hsub : old - bitsN old lo n * 2 ^ lo = 2 ^ lo * (2 ^ n * (old / 2 ^ lo / 2 ^ n)) + old % 2 ^ lo := by
    rw [hn]
    refine Nat.sub_eq_of_eq_add ?_
    calc old = 2 ^ lo * (old / 2 ^ lo) + old % 2 ^ lo := hlow.symm
      _ = 2 ^ lo * (2 ^ n * (old / 2 ^ lo / 2 ^ n) + old / 2 ^ lo % 2 ^ n) + old % 2 ^ lo := by rw [hhigh]
      _ = _ := by rw [Nat.mul_add, Nat.mul_comm (old / 2 ^ lo % 2 ^ n), Nat.add_right_comm]
  have hnew : old - bitsN old lo n * 2 ^ lo + v % 2 ^ n * 2 ^ lo =
      old % 2 ^ lo + 2 ^ lo * (v % 2 ^ n + 2 ^ n * (old / 2 ^ lo / 2 ^ n)) := by
    rw [hsub, Nat.mul_add, Nat.mul_comm (v % 2 ^ n)]
    omega
  rw [hnew, bitsN, Nat.add_mul_div_left _ _ (Nat.two_pow_pos lo), Nat.div_eq_of_lt (Nat.mod_lt _ (Nat.two_pow_pos lo)),
    Nat.zero_add, Nat.add_mul_mod_self_left, Nat.mod_mod]

/-- A field within a word, read from the word of a number. -/
theorem bits_w32 {lo n : Nat} (h : lo + n ≤ 32) (v : Nat) : bits (w32 v) lo n = bitsN v lo n := by
  have hsplit : (2 : Nat) ^ 32 = 2 ^ lo * 2 ^ (32 - lo) := by rw [← Nat.pow_add]; congr 1; omega
  have hdvd : (2 : Nat) ^ n ∣ 2 ^ (32 - lo) := Nat.pow_dvd_pow 2 (by omega)
  unfold bits bitsN w32
  rw [BitVec.toNat_ofNat, hsplit, Nat.mod_mul_right_div_self, Nat.mod_mod_of_dvd _ hdvd]

theorem reg_setReg (off : Nat) (v : Word) (s : State) : (s.setReg off v).reg off = v := by
  unfold State.setReg State.reg
  simp

/-- A field reads as written. -/
theorem regf_setRegf {off lo n : Nat} (h : lo + n ≤ 32) (v : Nat) (s : State) : (s.setRegf off lo n v).regf off lo n = v % 2 ^ n := by
  unfold State.setRegf State.regf
  rw [reg_setReg, bits_w32 h, bitsN_replaced]

/-! ## A request for a power state -/

/-- The conditions of Table 13.6 for state n. -/
def MayEnter (s : State) (n : Nat) : Prop :=
  n = 0 ∨ (((∀ e ∈ s.flows.ctxs, e.2.isCmd = false ∧ e.2.state ≠ 2) ∧ s.running = []) ∧ (2 ≤ n → ∀ k, k < 4 → s.linkOn k = false) ∧
    (n = 3 → s.flows.ctxs = [] ∧ (∀ e ∈ s.pre.sets, e.2.cmds = []) ∧ s.pre.pending = []))

theorem mayEnter_iff (s : State) {n : Nat} (hn : n < 4) : s.mayEnter n = true ↔ MayEnter s n := by
  unfold State.mayEnter MayEnter upTo
  obtain rfl | rfl | rfl | rfl : n = 0 ∨ n = 1 ∨ n = 2 ∨ n = 3 := by omega
  · simp
  · simp
  · simp
  · simp [and_assoc]

/-- A request from the physical function writes TARGET and is granted or refused. -/
theorem requestState_physical (n : Nat) (s : State) : requestState 0 n s =
    (s.setRegf 0xE00 0 2 n).modPower (fun p => if s.mayEnter n then
      { p with refused := false, transition := if p.state = n then none else some n } else { p with refused := true }) := by
  unfold requestState
  rw [if_neg (by simp)]
  split <;> rfl

theorem exec_powerTarget {i : Instr} {fn : Fin 32} {n : Nat} {s : State}
    (hi : (i = .powerTargetActive fn ∧ n = 0) ∨ (i = .powerTargetIdle fn ∧ n = 1) ∨ (i = .powerTargetArrayRetain fn ∧ n = 2) ∨
      (i = .powerTargetStandby fn ∧ n = 3)) (hs : Serving s) : exec i s = .next (requestState fn.val n s) := by
  have hserved : s.served = true := hs
  obtain ⟨rfl, rfl⟩ | ⟨rfl, rfl⟩ | ⟨rfl, rfl⟩ | ⟨rfl, rfl⟩ := hi
  · exact (congrArg (ifDue · _ s) hserved).trans (ifDue_true _ s)
  · exact (congrArg (ifDue · _ s) hserved).trans (ifDue_true _ s)
  · exact (congrArg (ifDue · _ s) hserved).trans (ifDue_true _ s)
  · exact (congrArg (ifDue · _ s) hserved).trans (ifDue_true _ s)

/-- Settles O16: by the four rows' one request. -/
theorem powerTargetRequestsState : Obligations.PowerTargetRequestsState := by
  intro i fn n s hi hs
  have hn : n < 4 := by omega
  refine ⟨_, exec_powerTarget hi hs, ?_⟩
  have hmay := mayEnter_iff s hn
  refine ⟨fun hfn => ?_, fun hfn => ?_⟩
  · unfold requestState
    rw [if_pos hfn]
  · rw [hfn, requestState_physical]
    have htarget : (s.setRegf 0xE00 0 2 n).regf 0xE00 0 2 = n := by
      rw [regf_setRegf (by omega), Nat.mod_eq_of_lt (by omega)]
    have hpower : (s.setRegf 0xE00 0 2 n).power = s.power := rfl
    refine ⟨htarget, ?_, fun h => ?_, fun h => ?_, ?_⟩
    · simp only [State.modPower, hpower]
      split <;> rfl
    · simp only [State.modPower, hpower, if_pos (hmay.2 h)]
    · simp only [State.modPower, hpower, if_neg (mt hmay.1 h)]
    · exact SameBut.trans ((Framed.same (frame_State_setRegf _ _ _ _ (fun _ h => h))).mono (by simp))
        ((modPower_same _ _).mono (by simp))

end Sys2Proof.Machine
end

section
/-! PROOF. A temperature sample (R408, R409). -/

namespace Sys2Proof.Machine

open Sys2Proof.Safety

/-- While READY is set an event leaves power alone. -/
theorem raiseDev_power (unit : Nat) (e : EventRec) {s : State} (h : s.power.ready = true) : (raiseDev unit e s).power = s.power :=
  (raiseDev_ready unit e h).power (by simp)

theorem thermalStep_same (tj : Int) (s : State) : SameBut [.power, .cores, .funnels, .trace] s (thermalStep tj s) :=
  Framed.same (frame_thermalStep tj (fun p hp => by simpa using hp))

/-- The step and the set point under a temperature, on a device that is up. -/
theorem thermalStep_power (tj : Int) {s : State} (hready : s.power.ready = true) : ∃ c c' : Nat, ∃ r th : Bool,
    (thermalStep tj s).power = if s.tjMax ≤ tj then { s.power with step := 0, reduced := true, throttleTherm := true, coolTherm := c }
    else if s.tjMax - 50 ≤ tj then { s.power with step := s.power.step - 1, throttleTherm := true, coolTherm := c' }
    else { s.power with coolTherm := c, reduced := r, throttleTherm := th } := by
  unfold thermalStep
  split
  · refine ⟨0, 0, false, false, ?_⟩
    simp only
    split
    · rfl
    · exact raiseDev_power _ _ hready
  · split
    · refine ⟨0, 0, false, false, ?_⟩
      simp only
      split
      · rfl
      · exact raiseDev_power _ _ hready
    · exact ⟨_, 0, _, _, rfl⟩

/-- A sample below the trip on a device that is up. -/
theorem thermalSample_below {tj : Int} {s : State} (hready : s.power.ready = true) (htj : tj < s.tjMax + 100) :
    let u := thermalStep tj (s.modPower (fun p => { p with tjNow := tj, tjPeak := max p.tjPeak tj }))
    SameBut [.power, .cores, .funnels, .trace] s (thermalSample tj s) ∧
    (thermalSample tj s).power = { u.power with low := decide (tj < s.tjMin) } := by
  intro u
  have hs1 : SameBut [.power, .cores, .funnels, .trace] s (s.modPower (fun p => { p with tjNow := tj, tjPeak := max p.tjPeak tj })) :=
    (modPower_same _ s).mono (by simp)
  have hu : SameBut [.power, .cores, .funnels, .trace] s (u.modPower (fun p => { p with low := decide (tj < s.tjMin) })) :=
    (hs1.trans (thermalStep_same tj _)).trans ((modPower_same _ _).mono (by simp))
  have hur : u.power.ready = true := by
    obtain ⟨c, c', r, th, hp⟩ := thermalStep_power tj
      (s := s.modPower (fun p => { p with tjNow := tj, tjPeak := max p.tjPeak tj })) hready
    rw [show u.power = _ from hp]
    split
    · exact hready
    · split <;> exact hready
  have hx : thermalSample tj s = if decide (tj < s.tjMin) && !s.power.low then
      raiseDev noUnit (ev 0x47 1 noFault (field 32 tj) 0 0 0) (u.modPower (fun p => { p with low := decide (tj < s.tjMin) }))
      else u.modPower (fun p => { p with low := decide (tj < s.tjMin) }) := by
    unfold thermalSample
    rw [if_neg (by simp [Int.not_le.2 htj]), if_neg (by simp [State.modPower, hready])]
  rw [hx]
  split
  · have hr := raiseDev_ready noUnit (ev 0x47 1 noFault (field 32 tj) 0 0 0)
      (s := u.modPower (fun p => { p with low := decide (tj < s.tjMin) })) hur
    exact ⟨hu.trans (hr.mono (by simp)), hr.power (by simp)⟩
  · exact ⟨hu, rfl⟩

/-- A sample at the trip halts the device with a save. -/
theorem thermalSample_trip {tj : Int} {s : State} (hrec : s.crock.recovered = true) (htj : s.tjMax + 100 ≤ tj) :
    thermalSample tj s = (haltWith 1 ((s.modPower (fun p => { p with tjNow := tj, tjPeak := max p.tjPeak tj })).modCrock
      (fun k => { k with save := none }))).modPower (fun p => { p with thermTrip := true }) := by
  unfold thermalSample
  rw [if_pos (by simp [htj, hrec])]

/-- A device that serves takes the sample, outside Standby. -/
theorem exec_thermalSample {tj : BitVec 16} {s : State} (hrail : s.power.aonOk = true) (hs : Serving s) (hstate : s.power.state ≠ 3) :
    exec (.thermalSample tj) s = .next (thermalSample tj.toInt s) := by
  have hserved : s.served = true := hs
  have hdue : (s.power.aonOk && !s.power.halted && s.power.state ≠ 3) = true := by
    simp [State.served] at hserved
    simp [hrail, hserved, hstate]
  exact (congrArg (ifDue · _ s) hdue).trans (ifDue_true _ s)

/-- Settles O20: a trip, or the step of the temperature's band. -/
theorem temperatureLimitsTheStep : Obligations.TemperatureLimitsTheStep := by
  intro tj s hrail hs hstate hrec
  have hserved : s.served = true := hs
  obtain ⟨hready, hhalt⟩ : s.power.ready = true ∧ s.power.halted = false := by simpa [State.served] using hserved
  refine ⟨_, exec_thermalSample hrail hs hstate, ?_⟩
  by_cases htrip : s.tjMax + 100 ≤ tj.toInt
  · rw [thermalSample_trip hrec htrip]
    obtain ⟨hsave, hlast⟩ := haltWith_crock 1 ((s.modPower (fun p => { p with
      tjNow := tj.toInt, tjPeak := max p.tjPeak tj.toInt })).modCrock (fun k => { k with save := none }))
    have hpower := haltWith_power 1 ((s.modPower (fun p => { p with
      tjNow := tj.toInt, tjPeak := max p.tjPeak tj.toInt })).modCrock (fun k => { k with save := none }))
    refine ⟨congrArg Power.tjNow hpower, congrArg Power.tjPeak hpower,
      fun _ => ⟨congrArg Power.halted hpower, rfl, hlast, _, hsave.save, rfl⟩, fun _ h => by omega, fun _ h => by omega, fun h => by omega,
      fun h => by omega, ?_⟩
    exact (((modPower_same _ s).mono (by simp)).trans ((modCrock_same _ _).mono (by simp))).trans
      (((haltWith_same 1 _).mono (by simp)).trans ((modPower_same _ _).mono (by simp)))
  · obtain ⟨hsame, hpower⟩ := thermalSample_below hready (Int.not_le.1 htrip)
    obtain ⟨c, c', r, th, hstep⟩ := thermalStep_power tj.toInt
      (s := s.modPower (fun p => { p with tjNow := tj.toInt, tjPeak := max p.tjPeak tj.toInt })) hready
    rw [hstep] at hpower
    have hmax : (s.modPower (fun p => { p with tjNow := tj.toInt, tjPeak := max p.tjPeak tj.toInt })).tjMax = s.tjMax := rfl
    rw [hmax] at hpower
    refine ⟨?_, ?_, fun h => absurd h htrip, fun h _ => ?_, fun h h' => ?_, fun h => ?_, fun _ => ?_, hsame.mono (by simp)⟩
    · rw [hpower]; split
      · rfl
      · split <;> rfl
    · rw [hpower]; split
      · rfl
      · split <;> rfl
    · rw [hpower, if_pos h]
      exact ⟨rfl, rfl, rfl, hhalt⟩
    · rw [hpower, if_neg (by omega), if_pos h]
      exact ⟨rfl, rfl, rfl⟩
    · rw [hpower, if_neg (by omega), if_neg (by omega)]
      rfl
    · rw [hpower]

end Sys2Proof.Machine
end

section
/-! PROOF. The end of start-up (R147, R397, R399, R411): what STARTUP_READY leaves. -/

namespace Sys2Proof.Machine

open Sys2Proof.Safety

theorem raiseDev_sec (unit : Nat) (e : EventRec) (s : State) : (raiseDev unit e s).sec = s.sec :=
  raiseDev_same unit e s .sec (by simp)

/-- Events raised while READY is set only reach their queues. -/
theorem each_raiseDev_ready (l : List EventRec) {s : State} (h : s.power.ready = true) :
    SameBut [.trace, .funnels] s (each l (fun e u => raiseDev noUnit e u) s) := by
  induction l generalizing s with
  | nil => exact .refl _ s
  | cons e l ih =>
    exact (raiseDev_ready noUnit e h).trans (ih (by rw [raiseDev_power _ _ h]; exact h))

/-- Committed fuses leave the firmware slots and the boot choice as they are. -/
theorem fuseCommit_sec (s : State) : ∃ svn slots, (fuseCommit s).sec = { s.sec with svn := svn, keySlots := slots } := by
  unfold fuseCommit
  extract_lets f up s1 s2 rev s3
  have h2 : s2.sec = s1.sec := by
    unfold s2
    split
    · rfl
    · exact raiseDev_sec ..
  have h3 : ∃ slots, s3.sec = { s1.sec with keySlots := slots } := ⟨_, by rw [← h2]; rfl⟩
  obtain ⟨slots, h3⟩ := h3
  refine ⟨s1.sec.svn, slots, ?_⟩
  split
  · exact h3
  · exact (raiseDev_sec ..).trans h3

theorem fuseCommit_same {s : State} (h : s.power.ready = true) : SameBut [.sec, .trace, .funnels] s (fuseCommit s) := by
  unfold fuseCommit
  extract_lets f up s1 s2 rev s3
  have h1 : SameBut [.sec, .trace, .funnels] s s1 := (modSec_same _ s).mono (by simp)
  have h2 : SameBut [.sec, .trace, .funnels] s s2 := by
    unfold s2
    split
    · exact h1
    · exact h1.trans ((raiseDev_ready noUnit _ (s := s1) h).mono (by simp))
  have h3 : SameBut [.sec, .trace, .funnels] s s3 := h2.trans ((modSec_same _ s2).mono (by simp))
  split
  · exact h3
  · exact h3.trans ((raiseDev_ready noUnit _ ((congrArg Power.ready (h3.power (by simp))).trans h)).mono (by simp))

/-! ## The tiles -/

/-- A table rewritten at each key of a list reads as rewritten there; an entry that is the default may be left out. -/
theorem tget_rewritten {α : Type} [DecidableEq α] (g d : Nat → α) (l : List Nat) (t : Tbl α) (j : Nat) :
    tget (l.foldl (fun t i => if g i = d i then tdel t i else tset t i (g i)) t) j (d j) =
      if j ∈ l then g j else tget t j (d j) := by
  induction l generalizing t with
  | nil => simp
  | cons i l ih =>
    rw [List.foldl_cons, ih]
    by_cases hl : j ∈ l
    · simp [hl]
    · by_cases hj : j = i
      · subst hj
        by_cases hg : g j = d j
        · simp [hl, hg, tget_eq_getD, tget?_tdel]
        · simp [hl, hg]
      · have hne : j ∉ i :: l := by simp [hl, hj]
        rw [if_neg hl, if_neg hne]
        split
        · rw [tget_eq_getD, tget?_tdel, if_neg hj, ← tget_eq_getD]
        · rw [tget_tset, if_neg hj]

theorem mem_upTo {i n : Nat} : i ∈ upTo n ↔ i < n := List.mem_range

theorem bootTiles_tiles (s : State) {i : Nat} (hi : i < 1056) : tget (bootTiles s).tiles i (Tile.start i) = bootTile s i := by
  unfold bootTiles
  simp only [State.modMirror]
  rw [tget_rewritten (bootTile s) Tile.start, if_pos (mem_upTo.2 hi)]

/-- The live state of a tile, its weights and what its record says of them. -/
theorem bootTile_state (s : State) (i : Nat) : (bootTile s i).state = bootState (i % 33) (tget s.tiles i (Tile.start i)).shadow
    (tget s.crock.mirror.cal i (CalRec.start i)).state := by
  unfold bootTile
  simp only
  split <;> rfl

theorem bootTile_weights (s : State) (i : Nat) : (bootTile s i).weights =
    if (bootTile s i).state = .blank then [] else (tget s.tiles i (Tile.start i)).weights := by
  rw [bootTile_state]
  unfold bootTile
  simp only
  split <;> rfl

/-- Only a Blank or Interrupted record starts Blank (R147). -/
theorem bootState_ne_blank (t : Nat) (shadow : Bool) {st : Nat} (h0 : st ≠ 0) (h5 : st ≠ 5) : bootState t shadow st ≠ .blank := by
  unfold bootState
  split <;> first | contradiction | (split <;> simp) | simp

/-! ## The row -/

/-- Power once READY is set. -/
def Power.up (p : Power) : Power := { p with startup := .none, ready := true, pendingEvents := [] }

/-- Start-up up to the fuses. -/
def startupUp (s : State) : State :=
  let s1 := bootCores (bootTiles (s.modSec (fun x => { x with
    active := x.tried.getD x.active, tried := none, activatePending := false })))
  let s2 := s1.modPower Power.up
  { s2 with pkg := { s2.pkg with trained := true, selfRefresh := false },
            host := { s2.host with configServed := s2.power.perstN } }.modMirror
    (fun j => { j with bootCount := (j.bootCount + 1) % 2 ^ 32 })

theorem startupUp_tiles (s : State) : (startupUp s).tiles = (bootTiles (s.modSec (fun x => { x with
    active := x.tried.getD x.active, tried := none, activatePending := false }))).tiles := by
  simp only [startupUp, bootCores, State.modMirror, State.modPower, State.setReg]

/-- What follows the fuses only raises events. -/
theorem startupReady_same (s : State) : SameBut [.trace, .funnels] (fuseCommit (startupUp s)) (startupReady s) := by
  have hup : (fuseCommit (startupUp s)).power.ready = true :=
    congrArg Power.ready ((fuseCommit_same (s := startupUp s) rfl).power (by simp))
  have h (u : State) (hu : SameBut [.trace, .funnels] (fuseCommit (startupUp s)) u) (l : List EventRec) :
      SameBut [.trace, .funnels] (fuseCommit (startupUp s)) (each l (fun e u => raiseDev noUnit e u) u) :=
    hu.trans (each_raiseDev_ready l (by rw [hu.power (by simp)]; exact hup))
  unfold startupReady
  refine h _ ?_ _
  simp only
  split
  · exact raiseDev_ready noUnit _ hup
  · split
    · exact raiseDev_ready noUnit _ hup
    · exact .refl _ _

theorem exec_startupReady {s : State} (hstart : s.power.startup ≠ .none) (hreset : s.power.resetN = true)
    (hfail : s.power.pwrFailN = true) (hrail : s.power.aonOk = true) (hsave : s.crock.save = none)
    (hboots : s.sec.boots (s.sec.tried.getD s.sec.active) = true) : exec .startupReady s = .next (startupReady s) := by
  have hdue : (!(s.power.startup == .none) && s.power.resetN && s.power.pwrFailN && s.power.aonOk &&
      s.crock.save.isNone && s.sec.boots (s.sec.tried.getD s.sec.active)) = true := by
    simp [hstart, hreset, hfail, hrail, hsave, hboots]
  exact (congrArg (ifDue · _ s) hdue).trans (ifDue_true _ s)

/-- Settles O10: the state of each tile is bootState of its record. -/
theorem startupGivesTilesTheirStates : Obligations.StartupGivesTilesTheirStates := by
  intro s hstart hreset hfail hrail hsave hboots
  refine ⟨_, exec_startupReady hstart hreset hfail hrail hsave hboots, ?_⟩
  have hend := startupReady_same s
  have hfuse : SameBut [.sec, .trace, .funnels] (startupUp s) (fuseCommit (startupUp s)) := fuseCommit_same rfl
  have hall : SameBut [.sec, .trace, .funnels] (startupUp s) (startupReady s) := hfuse.trans (hend.mono (by simp))
  have hpower : (startupReady s).power = s.power.up := hall.power (by simp)
  obtain ⟨svn, slots, hsec⟩ := fuseCommit_sec (startupUp s)
  have hsec' : (startupReady s).sec = { (startupUp s).sec with svn := svn, keySlots := slots } := (hend .sec (by simp)).trans hsec
  have htiles (i : Nat) (hi : i < 1056) : tget (startupReady s).tiles i (Tile.start i) = bootTile s i :=
    (congrArg (tget · i (Tile.start i)) ((hall .tiles (by simp)).trans (startupUp_tiles s))).trans (bootTiles_tiles _ hi)
  refine ⟨congrArg Power.ready hpower, congrArg Power.startup hpower, congrArg Power.pendingEvents hpower,
    congrArg Security.active hsec', congrArg Security.tried hsec', congrArg Security.activatePending hsec',
    congrArg (·.mirror.bootCount) (hall.crock (by simp)), congrArg (·.trained) (hall .pkg (by simp)),
    congrArg (·.configServed) (hall.host (by simp)), fun k => keyRevoked_startupReady, fun i hi => ?_⟩
  rw [htiles i hi]
  intro r v w here
  have hw : w.state = bootState (i % 33) v.shadow r.state := bootTile_state s i
  have hweights : w.weights = if w.state = .blank then [] else v.weights := bootTile_weights s i
  have hlive {a b : TileState} (h : here) : (if (v.shadow || i % 33 = 32) = true then a else b) = a :=
    if_pos (by simpa only [Bool.or_eq_true, decide_eq_true_eq] using h)
  have hwait {a b : TileState} (h : ¬ here) : (if (v.shadow || i % 33 = 32) = true then a else b) = b :=
    if_neg (by simpa only [Bool.or_eq_true, decide_eq_true_eq] using h)
  have hblank (h : w.state = .blank) : w.weights = [] := by rw [hweights, if_pos h]
  refine ⟨fun h => ?_, fun h => ?_, fun h => ?_, fun h hh => ?_, fun h hh => ?_, fun h hh => ?_, fun h hh => ?_, fun h0 h5 => ?_⟩
  · have hb : w.state = .blank := by rw [hw, h]; rfl
    exact ⟨hb, hblank hb⟩
  · have hb : w.state = .blank := by rw [hw, h]; rfl
    exact ⟨hb, hblank hb⟩
  · rw [hw, h]; rfl
  · rw [hw, h]; exact hlive hh
  · rw [hw, h]; exact hlive hh
  · rw [hw, h]; exact hlive hh
  · rw [hw]
    obtain h | h | h := h <;> rw [h] <;> exact hwait hh
  · rw [hweights, if_neg (by rw [hw]; exact bootState_ne_blank _ _ h0 h5)]

end Sys2Proof.Machine
end

section
/-! PROOF. The timebase: ARM and STOP (R233), SYSREF edges (R218, R232) and tick and PTP pairs (R241). -/

namespace Sys2Proof.Machine

open Sys2Proof.Safety

/-- A change whose condition holds is made. -/
theorem ifDue_of {due : Bool} {f : State → State} {s : State} (h : due = true) : ifDue due f s = .next (f s) := by rw [h, ifDue_true]

/-- A change whose condition fails changes nothing. -/
theorem ifDue_not {due : Bool} {f : State → State} {s : State} (h : due = false) : ifDue due f s = .next s := by rw [h, ifDue_false]

theorem served_of {s : State} (hs : Serving s) : s.served = true := hs

theorem ready_of_serving {s : State} (hs : Serving s) : s.power.ready = true := by
  have h := served_of hs
  unfold State.served at h
  exact (Bool.and_eq_true_iff.1 h).1

/-! ## ARM and STOP -/

theorem armOk_iff (s : State) : s.armOk = true ↔
    s.linkLegal s.masterLink = true ∧ (s.crock.mirror.tickReached = true → s.tickMax < s.tickLoad) := by
  unfold State.armOk
  cases s.crock.mirror.tickReached <;> simp

/-- The register page is the physical function's: from another the write has no effect. -/
theorem exec_tbArm {fn : Fin 32} {s : State} (hs : Serving s) :
    exec (.tbArm fn) s = .next (if fn.val = 0 then armTb s else s) := by
  show ifDue (s.served && fn.val == 0) armTb s = _
  rw [served_of hs]
  split <;> rename_i h
  · exact ifDue_of (by simp [h])
  · exact ifDue_not (by simp [h])

theorem exec_tbStop {fn : Fin 32} {s : State} (hs : Serving s) :
    exec (.tbStop fn) s = .next (if fn.val = 0 then stopTb s else s) := by
  show ifDue (s.served && fn.val == 0) stopTb s = _
  rw [served_of hs]
  split <;> rename_i h
  · exact ifDue_of (by simp [h])
  · exact ifDue_not (by simp [h])

/-- The largest tick reached is in the mirrors after the fold, where a tick was reached at all. -/
theorem foldTick_mirror (s : State) : s.foldTick.crock.mirror = { s.crock.mirror with
    tickMax := if s.crock.mirror.tickReached then max s.crock.mirror.tickMax s.tb.tick else s.crock.mirror.tickMax } := by
  unfold State.foldTick
  cases hr : s.crock.mirror.tickReached
  · simp
  · by_cases h : s.crock.mirror.tickMax < s.tb.tick
    · simp [h, State.modMirror, Nat.max_eq_right (Nat.le_of_lt h)]
    · simp [h, Nat.max_eq_left (Nat.not_lt.1 h)]

theorem anyLink_iff (s : State) : (upTo 4).any s.linkOn = true ↔ ∃ k, k < 4 ∧ s.linkOn k = true := by
  simp [List.any_eq_true, mem_upTo]

/-- Settles O21: by ARM's condition and the links of STOP. -/
theorem timebaseArmsAndStops : Obligations.TimebaseArmsAndStops := by
  refine ⟨fun fn s hs => ⟨_, exec_tbArm hs, ?_⟩, fun fn s hs => ⟨_, exec_tbStop hs, ?_⟩⟩
  · refine ⟨fun h => ?_, fun hfn hst hlegal => ?_, fun hfn hst hlegal => ?_⟩
    · split
      · rename_i hfn
        unfold armTb
        rw [if_pos (h.resolve_left (fun h' => h' hfn))]
      · rfl
    · rw [if_pos hfn, armTb, if_neg (Classical.not_not.2 hst), if_pos ((armOk_iff s).2 hlegal)]
      rfl
    · rw [if_pos hfn, armTb, if_neg (Classical.not_not.2 hst), if_neg (mt (armOk_iff s).1 hlegal)]
      rfl
  · refine ⟨fun h => ?_, fun hfn hlink => ?_⟩
    · split
      · rename_i hfn
        unfold stopTb
        rw [if_pos ((anyLink_iff s).2 (h.resolve_left (fun h' => h' hfn)))]
      · rfl
    · rw [if_pos hfn, stopTb, if_neg (mt (anyLink_iff s).1 hlink)]
      have hm : (s.foldTick.modTb (fun t => { t with state := 0 })).crock.mirror = s.foldTick.crock.mirror := rfl
      rw [hm, foldTick_mirror]
      refine ⟨?_, rfl, rfl, ((foldTick_same s).mono (by simp)).trans ((modTb_same _ _).mono (by simp))⟩
      have htb : s.foldTick.tb = s.tb := (foldTick_same s).tb (by simp)
      simp only [State.modTb, htb]

/-! ## SYSREF -/

theorem exec_sysrefEdge {b : Bool} {s : State} (hs : Serving s) (href : s.power.refclkLost = false) :
    exec (.sysrefEdge b) s = .next (sysrefEdge b s) :=
  ifDue_of (by rw [served_of hs, href]; rfl)

/-- The timebase and the mirrors as an arm at REFCLK edge r leaves them, before links that hold lock come up. -/
theorem loadTick_loaded (r : Nat) (s : State) :
    (loadTick r s).tb = { s.tb with
      state := 2, tick := s.tickLoad, loadTick := s.tickLoad, s := s.linkS s.masterLink,
      r := s.linkRate s.masterLink, f := s.linkF s.masterLink, e := s.linkE s.masterLink, armRef := r, trigLast := [] } ∧
    (loadTick r s).crock.mirror =
      { s.crock.mirror with tickReached := true, tickMax := max s.crock.mirror.tickMax s.tickLoad } := by
  have h (u : State) : SameBut [.power, .ingest, .funnels, .trace] u (each (upTo 4) tryUp u) :=
    SameBut.each _ (fun n v => Framed.same (frame_tryUp n (fun _ h => h))) u
  unfold loadTick
  exact ⟨(h _).tb (by simp), congrArg Crock.mirror ((h _).crock (by simp))⟩

/-- An edge on an armed timebase; a marginal one is sampled at this REFCLK edge or the next. -/
theorem sysrefEdge_armed (b : Bool) {s : State} (hst : s.tb.state = 1) (harm : s.armOk = true) : ∃ d r,
    sysrefEdge b s = loadTick r { s with draw := d } ∧ (r = s.refIndex ∨ (b = true ∧ r = s.refIndex + 1)) := by
  have hr (late : Bool) : b2n late = 0 ∨ b2n late = 1 := by cases late <;> simp [b2n]
  unfold sysrefEdge
  cases b
  · refine ⟨s.draw, s.refIndex, ?_, .inl rfl⟩
    rw [if_pos (by simpa using hst), if_pos (by simpa using harm)]
    simp [b2n]
  · refine ⟨s.draw + 1, s.refIndex + b2n (true && Config.sysrefLater s.draw), ?_, ?_⟩
    · have harm' : s.nextDraw.armOk = true := harm
      rw [if_pos (by simpa using hst), if_pos (by simpa using harm')]
      rfl
    · rcases hr (true && Config.sysrefLater s.draw) with h | h
      · exact .inl (by rw [h]; rfl)
      · exact .inr ⟨rfl, by rw [h]⟩

/-- Settles O22: by what the edge finds: an arm, a held phase, or neither. -/
theorem sysrefEdgeStartsTheTick : Obligations.SysrefEdgeStartsTheTick := by
  refine ⟨fun b s hs href hst harm => ?_, fun s hs href hst harm => ?_, fun s hs href hst hper hoff => ?_, fun s hs href hst => ?_⟩
  · obtain ⟨d, r, he, hr⟩ := sysrefEdge_armed b hst harm
    refine ⟨_, exec_sysrefEdge hs href, ?_⟩
    rw [he]
    obtain ⟨htb, hmirror⟩ := loadTick_loaded r { s with draw := d }
    rw [htb, hmirror]
    refine ⟨rfl, rfl, rfl, rfl, rfl, rfl, rfl, hr, rfl, rfl, rfl, rfl, rfl, ?_⟩
    rw [← he]
    have hdraw : SameBut [.draw, .power, .crock, .flows, .ingest, .tb, .funnels, .trace] s { s with draw := d } := by
      intro p hp; cases p <;> first | rfl | simp at hp
    rw [he]
    exact hdraw.trans (SameBut.mono (Framed.same (frame_loadTick r (fun _ h => h))) (by simp))
  · rw [exec_sysrefEdge hs href]
    unfold sysrefEdge
    rw [if_pos (by simpa using hst), if_neg (by simp [harm])]
    rfl
  · refine ⟨_, exec_sysrefEdge hs href, ?_⟩
    unfold sysrefEdge
    rw [if_neg (by simp [hst]), if_pos (by simp [hst, hper, b2n, hoff])]
    have hc : SameBut [.counters] s (count (devCtr 0) 1 s) := count_same _ _ s
    have he := raiseDev_ready noUnit (ev 0x11 1 noFault (s.sysrefOff s.refIndex) 0 0 0) (s := count (devCtr 0) 1 s)
      (by rw [hc.power (by simp)]; exact ready_of_serving hs)
    simp only [b2n, Bool.false_and, Bool.false_eq_true, if_false, Nat.add_zero]
    exact ⟨(he.counter (by simp) _).trans (counter_count _ _ s (by decide)), (hc.mono (by simp)).trans (he.mono (by simp))⟩
  · rw [exec_sysrefEdge hs href]
    unfold sysrefEdge
    rw [if_neg (by simp; omega), if_neg (by simp; omega)]
    rfl

/-! ## Tick and PTP pairs -/

/-- The pair at the millisecond just passed. -/
def State.pairNow (s : State) : PtpPair :=
  { tick256 := s.tb.tick256At (s.instNow - (s.tb.ptpNs % 1000000 : Nat) * 8), locked := s.net.ptpLocked, sec := s.tb.ptpSec,
    ns := s.tb.ptpNs / 1000000 * 1000000 }

/-- Whether the pair of this millisecond is captured already. -/
def State.paired (s : State) : Bool :=
  s.tb.pairs.head?.elim false (fun p => p.sec == s.pairNow.sec && p.ns == s.pairNow.ns)

theorem exec_tickPtpCapture {s : State} (hs : Serving s) (hst : s.tb.state = 2) (hns : s.tb.ptpNs % 1000000 < 4) :
    exec .tickPtpCapture s =
      .next (if s.paired then s else s.modTb (fun t => { t with pairs := (s.pairNow :: t.pairs).take 16 })) :=
  ifDue_of (s := s) (f := fun s => if s.paired then s else s.modTb (fun t => { t with pairs := (s.pairNow :: t.pairs).take 16 }))
    (by simp [served_of hs, State.tbRunning, hst, hns])

theorem paired_iff (s : State) : s.paired = true ↔
    ∃ p, s.tb.pairs.head? = some p ∧ p.sec = s.tb.ptpSec ∧ p.ns = s.tb.ptpNs - s.tb.ptpNs % 1000000 := by
  have hns : s.pairNow.ns = s.tb.ptpNs - s.tb.ptpNs % 1000000 := by
    show s.tb.ptpNs / 1000000 * 1000000 = _
    omega
  unfold State.paired
  rw [hns]
  cases s.tb.pairs.head? <;> simp [State.pairNow]

/-- Settles O24: a new pair is put at the front, one already there stays. -/
theorem millisecondsCapturePairs : Obligations.MillisecondsCapturePairs := by
  intro s hs hst hns
  refine ⟨_, exec_tickPtpCapture hs hst hns, ?_⟩
  have hpair : s.pairNow.ns = s.tb.ptpNs - s.tb.ptpNs % 1000000 := by
    show s.tb.ptpNs / 1000000 * 1000000 = _
    omega
  cases h : s.paired
  · refine ⟨rfl, ?_, ⟨s.pairNow, rfl, rfl, hpair⟩, fun _ => ⟨s.pairNow, rfl, rfl, rfl⟩⟩
    exact Nat.le_trans (List.length_take_le _ _) (Nat.le_max_left _ _)
  · obtain ⟨p, hp, hsec, hpns⟩ := (paired_iff s).1 h
    exact ⟨rfl, Nat.le_max_right _ _, ⟨p, hp, hsec, hpns⟩, fun hno => absurd ⟨hsec, hpns⟩ (hno p hp)⟩

end Sys2Proof.Machine
end

section
/-! PROOF. The trigger pins: edges that come in (R238) and assertions that are driven (R239). -/

namespace Sys2Proof.Machine

open Sys2Proof.Safety

/-! ## Trigger inputs -/

/-- The instant of an edge, measured to 10 ps (R450). -/
def State.edgeInst (s : State) (ps : Nat) : Nat := (s.clk * 4000 + ps) / 10 * 10

/-- The edges a pin takes. -/
def EdgeQualifies (edge : Nat) (rising : Bool) : Prop := edge = 2 ∨ (edge = 0 ∧ rising = true) ∨ (edge = 1 ∧ rising = false)

theorem qualifies_iff (edge : Nat) (rising : Bool) :
    (decide (edge = 2) || (decide (edge = 0) && rising) || (decide (edge = 1) && !rising)) = true ↔ EdgeQualifies edge rising := by
  cases rising <;> simp [EdgeQualifies]

/-- An edge within 8 ns of the last accepted one. -/
def EdgeClose (s : State) (p inst : Nat) : Prop := ∃ x, tget? s.tb.trigLast p = some x ∧ inst < x + 8000

/-- An accepted edge is counted and remembered. -/
def countEdge (p inst : Nat) (s : State) : State :=
  count (trigInCtr p 0) 1 (s.modTb (fun t => { t with trigLast := tset t.trigLast p inst }))

/-- And stamped. -/
def acceptEdge (p : Nat) (rising : Bool) (inst : Nat) (s : State) : State :=
  let s1 := countEdge p inst s
  formStamped (s1.trigInf p 3 3) 7 (s1.trigStamp inst) [d64 (p + 8 * b2n (!rising))] s1

section
variable {p : Nat} {rising : Bool} {ps : Nat} {s : State}

theorem trigInEdge_disabled (h : s.trigInf p 0 1 = 0) : trigInEdge p rising false ps s = s := by
  unfold trigInEdge
  simp [h]

theorem trigInEdge_ignored (hon : s.trigInf p 0 1 ≠ 0) (h : s.tb.state ≠ 2 ∨ s.trigInf p 1 2 = 3) :
    trigInEdge p rising false ps s = count (trigInCtr p 2) 1 s := by
  unfold trigInEdge
  simp only [Bool.false_and, Bool.false_eq_true, if_false]
  rw [if_neg (by simp [hon]), if_pos (by simpa [State.tbRunning] using h)]

variable (hon : s.trigInf p 0 1 ≠ 0) (hst : s.tb.state = 2)
include hon hst

theorem trigInEdge_unqualified (h3 : s.trigInf p 1 2 ≠ 3) (hq : ¬ EdgeQualifies (s.trigInf p 1 2) rising) :
    trigInEdge p rising false ps s = s := by
  unfold trigInEdge
  simp only [Bool.false_and, Bool.false_eq_true, if_false]
  rw [if_neg (by simp [hon]), if_neg (by simp [State.tbRunning, hst, h3]), if_pos (by simpa only [Bool.not_eq_true', ← Bool.not_eq_true] using mt (qualifies_iff _ _).1 hq)]

/-- An edge that qualifies is merged or accepted. -/
theorem trigInEdge_qualified (hq : EdgeQualifies (s.trigInf p 1 2) rising) :
    trigInEdge p rising false ps s = if (match tget? s.tb.trigLast p with
      | some t => decide (s.edgeInst ps < t + 8000)
      | none => false) then count (trigInCtr p 1) 1 s else acceptEdge p rising (s.edgeInst ps) s := by
  have h3 : s.trigInf p 1 2 ≠ 3 := by
    rcases hq with h | ⟨h, -⟩ | ⟨h, -⟩ <;> omega
  unfold trigInEdge
  simp only [Bool.false_and, Bool.false_eq_true, if_false]
  rw [if_neg (by simp [hon]), if_neg (by simp [State.tbRunning, hst, h3]), if_neg (by rw [(qualifies_iff _ _).2 hq]; simp)]
  rfl

theorem trigInEdge_merged (hq : EdgeQualifies (s.trigInf p 1 2) rising) (hc : EdgeClose s p (s.edgeInst ps)) :
    trigInEdge p rising false ps s = count (trigInCtr p 1) 1 s := by
  obtain ⟨x, hx, hlt⟩ := hc
  rw [trigInEdge_qualified hon hst hq, hx]
  simp [hlt]

theorem trigInEdge_accepted (hq : EdgeQualifies (s.trigInf p 1 2) rising) (hc : ¬ EdgeClose s p (s.edgeInst ps)) :
    trigInEdge p rising false ps s = acceptEdge p rising (s.edgeInst ps) s := by
  rw [trigInEdge_qualified hon hst hq]
  cases hx : tget? s.tb.trigLast p with
  | none => rfl
  | some x =>
    have hlt : ¬ s.edgeInst ps < x + 8000 := fun h => hc ⟨x, hx, h⟩
    simp [hlt]

end

theorem funnel_modFunnel (p q : Nat) (g : Funnel → Funnel) (s : State) :
    (s.modFunnel p g).funnel q = if q = p then g (s.funnel p) else s.funnel q := by
  unfold State.modFunnel State.funnel
  exact tget_tset ..

/-- A record joins the waiting packets of its partition. -/
theorem funnel_form (p q : Nat) (k : Pkt) (s : State) : (form p k s).funnel q =
    if q = p then { s.funnel p with waiting := (s.funnel p).waiting ++ [k] } else s.funnel q :=
  funnel_modFunnel p q _ s

theorem funnel_formStamped (p q kind t256 : Nat) (body : List DWord) (s : State) : (formStamped p kind t256 body s).funnel q =
    if q = p then { s.funnel p with
      waiting := (s.funnel p).waiting ++ [stampPkt p kind t256 body s], timelineSeq := (s.funnel p).timelineSeq + 1 } else s.funnel q := by
  unfold formStamped
  rw [funnel_modFunnel, funnel_form, funnel_form]
  split <;> simp

/-- What an accepted edge leaves: its count, its instant and its record. -/
theorem acceptEdge_spec (p : Nat) (rising : Bool) (inst : Nat) (s : State) :
    let t := acceptEdge p rising inst s
    t.counter (trigInCtr p 0) = min (s.counter (trigInCtr p 0) + 1) (counterMax (trigInCtr p 0)) ∧
    tget? t.tb.trigLast p = some inst ∧
    (∃ k, (t.funnel (s.trigInf p 3 3)).waiting = (s.funnel (s.trigInf p 3 3)).waiting ++ [k] ∧ k.kind = 7 ∧
      k.first256 = s.trigStamp inst) ∧
    (∀ q, q ≠ s.trigInf p 3 3 → t.funnel q = s.funnel q) ∧ SameBut [.counters, .tb, .funnels] s t := by
  intro t
  have hcount : SameBut [.counters, .tb] s (countEdge p inst s) :=
    ((modTb_same _ s).mono (by simp)).trans ((count_same _ _ _).mono (by simp))
  have ht : t = formStamped (s.trigInf p 3 3) 7 (s.trigStamp inst) [d64 (p + 8 * b2n (!rising))] (countEdge p inst s) := by
    obtain ⟨x, hx⟩ := count_eq (trigInCtr p 0) 1 (s.modTb (fun t => { t with trigLast := tset t.trigLast p inst }))
    unfold t acceptEdge countEdge
    rw [hx]
    rfl
  have hform : SameBut [.funnels] (countEdge p inst s) t := ht ▸ formStamped_same _ _ _ _ _
  have hlast : (countEdge p inst s).tb = { s.tb with trigLast := tset s.tb.trigLast p inst } := (count_same _ _ _).tb (by simp)
  refine ⟨?_, ?_, ⟨stampPkt (s.trigInf p 3 3) 7 (s.trigStamp inst) [d64 (p + 8 * b2n (!rising))] (countEdge p inst s), ?_, rfl, rfl⟩,
    fun q hq => ?_, (hcount.mono (by simp)).trans (hform.mono (by simp))⟩
  · exact (hform.counter (by simp) _).trans (counter_count _ _ _ (by decide))
  · rw [hform.tb (by simp), hlast]
    simp
  · rw [ht, funnel_formStamped, if_pos rfl, hcount.funnel (by simp)]
  · rw [ht, funnel_formStamped, if_neg hq, hcount.funnel (by simp)]

theorem exec_trigInEdge {p : Fin 8} {rising short : Bool} {ps : Fin 4000} {s : State} (hs : Serving s)
    (href : s.power.refclkLost = false) :
    exec (.trigInEdge p rising short ps) s = .next (trigInEdge p.val rising short ps.val s) :=
  ifDue_of (by rw [served_of hs, href]; rfl)

/-- Settles O25: by the five fates of an edge. -/
theorem triggerInputsAreStamped : Obligations.TriggerInputsAreStamped := by
  intro p rising ps s hs href
  refine ⟨_, exec_trigInEdge hs href, ?_⟩
  have hcount (i : Nat) : (count (trigInCtr p.val i) 1 s).counter (trigInCtr p.val i) =
      min (s.counter (trigInCtr p.val i) + 1) (counterMax (trigInCtr p.val i)) := counter_count _ _ s (by decide)
  refine ⟨fun h => trigInEdge_disabled h, fun hon h => ?_, fun hon hst h3 hq => trigInEdge_unqualified hon hst h3 hq,
    fun hon hst hq hc => ?_, fun hon hst hq hc => ?_⟩
  · rw [trigInEdge_ignored hon h]
    exact ⟨hcount 2, count_same _ _ s⟩
  · rw [trigInEdge_merged hon hst hq hc]
    exact ⟨hcount 1, count_same _ _ s⟩
  · rw [trigInEdge_accepted hon hst hq hc]
    exact acceptEdge_spec p.val rising _ s

/-! ## Trigger outputs -/

/-- The first assertion of a pin is driven once its instant is reached. -/
theorem exec_trigOutAssert {p : Fin 8} {s : State} {a : Assertion} {rest : List Assertion} (hs : Serving s)
    (hfatal : s.power.fatal = false) (href : s.power.refclkLost = false) (hsched : (s.pin p.val).schedule = a :: rest)
    (hdue : a.at_ < s.clk * 32 + 32) : exec (.trigOutAssert p) s =
      .next (drivePin p.val a a.at_ (s.modPin p.val (fun k => { k with schedule := rest }))) := by
  have hd : (s.served && !s.power.fatal && !s.power.refclkLost && decide (a.at_ < s.instNow + 32)) = true := by
    have : a.at_ < s.instNow + 32 := hdue
    simp [served_of hs, hfatal, href, this]
  show (match (s.pin p.val).schedule with | a :: rest => _ | [] => _) = _
  rw [hsched]
  exact ifDue_of (f := fun s => drivePin p.val a a.at_ (s.modPin p.val (fun k => { k with schedule := rest }))) hd

/-- A pulse that starts before the one under way has ended. -/
def PulseMerged (k : TrigOut) (at_ : Int) : Prop := ∃ u, k.activeUntil = some u ∧ at_ ≤ u

section
variable {p : Nat} {a : Assertion} {at_ : Int} {s : State}

/-- A pulse that starts while another is under way prolongs it. -/
theorem drivePin_merged {u : Int} (hu : (s.pin p).activeUntil = some u) (hat : at_ ≤ u) :
    drivePin p a at_ s = count (trigOutCtr p 3) 1 (count (trigOutCtr p 0) 1 (s.modPin p (fun k => { k with
      activeUntil := some (max u (at_ + s.pulse p)), fired := k.fired ++ a.source.toList }))) := by
  unfold drivePin
  simp [hu, hat]

/-- Another is a pulse of its own, for WIDTH x 4 ns. -/
theorem drivePin_alone (h : ¬ PulseMerged (s.pin p) at_) :
    drivePin p a at_ s = (count (trigOutCtr p 0) 1 (s.modPin p (fun k => { k with
      activeUntil := some (at_ + s.pulse p), fired := k.fired ++ a.source.toList }))).emit (.trigOut p true at_.toNat) := by
  unfold drivePin
  cases hu : (s.pin p).activeUntil with
  | none => simp [hu]
  | some u =>
    have hat : ¬ at_ ≤ u := fun h' => h ⟨u, hu, h'⟩
    simp [hu, hat]

end

/-- The pin and the count of an assertion that is driven until v. -/
theorem count_modPin_spec (p c : Nat) (g : TrigOut → TrigOut) (s : State) :
    let t := count c 1 (s.modPin p g)
    t.pin p = g (s.pin p) ∧ (∀ q, q ≠ p → t.pin q = s.pin q) ∧ t.counter c = min (s.counter c + 1) (counterMax c) ∧
    t.host = s.host ∧ SameBut [.counters, .tb, .host] s t := by
  have hc := count_same c 1 (s.modPin p g)
  refine ⟨?_, fun q hq => ?_, ?_, hc.host (by simp), ((modPin_same p g s).mono (by simp)).trans (hc.mono (by simp))⟩
  · rw [hc.pin (by simp), pin_modPin, if_pos rfl]
  · rw [hc.pin (by simp), pin_modPin, if_neg hq]
  · exact (counter_count _ _ _ (by decide)).trans (by rw [(modPin_same p g s).counter (by simp)])

/-- The five counters of a pin are distinct. -/
theorem trigOutCtr_ne (p : Nat) {i j : Nat} (h : i ≠ j) : trigOutCtr p i ≠ trigOutCtr p j := by
  unfold trigOutCtr
  omega

/-- What driving an assertion leaves: the pin active for a pulse from its instant, or for the longer of two. -/
theorem drivePin_spec (p : Nat) (a : Assertion) (at_ : Int) (s : State) :
    let t := drivePin p a at_ s
    (t.pin p).schedule = (s.pin p).schedule ∧ (∀ q, q ≠ p → t.pin q = s.pin q) ∧
    (∃ v, (t.pin p).activeUntil = some v ∧ at_ + s.pulse p ≤ v ∧ (∀ u, (s.pin p).activeUntil = some u → at_ ≤ u → u ≤ v) ∧
      (¬ PulseMerged (s.pin p) at_ → v = at_ + s.pulse p)) ∧
    t.counter (trigOutCtr p 0) = min (s.counter (trigOutCtr p 0) + 1) (counterMax (trigOutCtr p 0)) ∧
    (PulseMerged (s.pin p) at_ → t.host = s.host ∧
      t.counter (trigOutCtr p 3) = min (s.counter (trigOutCtr p 3) + 1) (counterMax (trigOutCtr p 3))) ∧
    (¬ PulseMerged (s.pin p) at_ → t.host = { s.host with out := s.host.out ++ [.trigOut p true at_.toNat] }) ∧
    SameBut [.counters, .tb, .host] s t := by
  intro t
  have hdriven (v : Int) := count_modPin_spec p (trigOutCtr p 0) (fun k => { k with
    activeUntil := some v, fired := k.fired ++ a.source.toList }) s
  by_cases hm : PulseMerged (s.pin p) at_
  · obtain ⟨u, hu, hat⟩ := id hm
    obtain ⟨hp, hq, hc, hh, hsame⟩ := hdriven (max u (at_ + s.pulse p))
    have ht : t = _ := drivePin_merged hu hat
    have hcount : SameBut [.counters] _ t := ht ▸ count_same (trigOutCtr p 3) 1 _
    refine ⟨?_, fun q hne => ?_, ⟨max u (at_ + s.pulse p), ?_, Int.le_max_right _ _, fun v hv _ => ?_, fun h => absurd hm h⟩, ?_,
      fun _ => ⟨?_, ?_⟩, fun h => absurd hm h, hsame.trans (hcount.mono (by simp))⟩
    · rw [hcount.pin (by simp), hp]
    · rw [hcount.pin (by simp), hq q hne]
    · rw [hcount.pin (by simp), hp]
    · rw [Option.some_inj.1 (hu.symm.trans hv)]
      exact Int.le_max_left _ _
    · rw [ht, counter_count_other _ _ _ _ (trigOutCtr_ne p (by decide)), hc]
    · rw [hcount.host (by simp), hh]
    · rw [ht, counter_count _ _ _ (by decide), counter_count_other _ _ _ _ (trigOutCtr_ne p (by decide))]
      rfl
  · obtain ⟨hp, hq, hc, hh, hsame⟩ := hdriven (at_ + s.pulse p)
    have ht : t = _ := drivePin_alone hm
    have hemit : SameBut [.host] _ t := ht ▸ emit_same (.trigOut p true at_.toNat) _
    refine ⟨?_, fun q hne => ?_, ⟨at_ + s.pulse p, ?_, Int.le_refl _, fun u hu hat => absurd ⟨u, hu, hat⟩ hm, fun _ => rfl⟩, ?_,
      fun h => absurd h hm, fun _ => ?_, hsame.trans (hemit.mono (by simp))⟩
    · rw [hemit.pin (by simp), hp]
    · rw [hemit.pin (by simp), hq q hne]
    · rw [hemit.pin (by simp), hp]
    · rw [hemit.counter (by simp), hc]
    · rw [ht]
      exact congrArg (fun h : HostSide => { h with out := h.out ++ [Out.trigOut p true at_.toNat] }) hh

/-- Settles O26: the assertion leaves the schedule and is driven. -/
theorem triggerOutputsAreDriven : Obligations.TriggerOutputsAreDriven := by
  intro p s a rest hs hfatal href hsched hdue
  refine ⟨_, exec_trigOutAssert hs hfatal href hsched hdue, ?_⟩
  have hpin (q : Nat) := pin_modPin p.val q (fun k => { k with schedule := rest }) s
  have hfirst : (s.modPin p.val (fun k => { k with schedule := rest })).pin p.val = { s.pin p.val with schedule := rest } := by
    rw [hpin, if_pos rfl]
  obtain ⟨hsch, hq, ⟨v, hv, hle, hmax, halone⟩, hc, hmerged, hout, hsame⟩ :=
    drivePin_spec p.val a a.at_ (s.modPin p.val (fun k => { k with schedule := rest }))
  rw [hfirst] at hsch hmax halone hmerged hout
  refine ⟨hsch, fun q hne => ?_, ⟨v, hv, hle, hmax, halone⟩, hc, hmerged, hout, ((modPin_same _ _ s).mono (by simp)).trans hsame⟩
  rw [hq q hne, hpin, if_neg hne]

end Sys2Proof.Machine
end

section
/-! PROOF. Probe conversions (R421, R422, R426), HK_ALERT (R425) and the trace pins (R435). -/

namespace Sys2Proof.Machine

open Sys2Proof.Safety

/-! ## Bits cleared in a number -/

/-- A cleared bit is clear, and the others stay. -/
theorem bitN_clrBit (v i j : Nat) : bitN (clrBit v i) j = (bitN v j && decide (j ≠ i)) := by
  unfold clrBit
  by_cases h : bitN v i = true
  · rw [if_pos h]
    rw [bitN_eq_testBit] at h
    have hodd : v / 2 ^ i % 2 = 1 := by simpa [Nat.testBit_eq_decide_div_mod_eq] using h
    have hle : 2 ^ i ≤ v := Nat.ge_two_pow_of_testBit h
    have hclear : (v - 2 ^ i).testBit i = false := by
      rw [Nat.testBit_eq_decide_div_mod_eq, decide_eq_false_iff_not, show v - 2 ^ i = v - 2 ^ i * 1 by rw [Nat.mul_one],
        Nat.sub_mul_div]
      omega
    have hadd := testBit_add_two_pow hclear j
    rw [Nat.sub_add_cancel hle] at hadd
    simp only [bitN_eq_testBit]
    by_cases hj : j = i
    · subst hj
      simp [hclear]
    · simp [hadd, hj]
  · rw [if_neg h]
    by_cases hj : j = i
    · subst hj
      simpa using h
    · simp [hj]

theorem bitN_foldl_clrBit (l : List Nat) (v j : Nat) : bitN (l.foldl clrBit v) j = (bitN v j && decide (j ∉ l)) := by
  induction l generalizing v with
  | nil => simp
  | cons i l ih => simp [ih, bitN_clrBit, Bool.and_assoc]

/-- Bit i of a word, as BitVec names it. -/
theorem bit_eq_getLsbD (w : Word) (i : Nat) : bit w i = w.getLsbD i := by
  rw [BitVec.getLsbD, ← bitN_eq_testBit]
  rfl

/-- Settles O28: the bits of the word that are 1 are cleared one by one. -/
theorem alertBitsClearOnWrite : Obligations.AlertBitsClearOnWrite := by
  intro v s hs
  refine ⟨alertClear v s, ifDue_of (by simp [served_of hs]), rfl, fun e he => ?_⟩
  have h := bitN_foldl_clrBit ((upTo 16).filter (bit v)) s.probe.alert e
  refine h.trans ?_
  simp [List.mem_filter, mem_upTo, he, bit_eq_getLsbD]

/-! ## Conversions -/

theorem exec_probeConversion {v : Int} {s : State} (hs : Serving s) :
    exec (.probeConversion v) s = .next (probeConversion v s) := ifDue_of (served_of hs)

/-- The flags of a conversion: over range above, under range below. -/
theorem probeConvert_flags (v : Int) (upper : Bool) :
    (probeConvert v upper).2.1 = decide (65528 < v) ∧ ((probeConvert v upper).2.1 || (probeConvert v upper).2.2) =
      (decide (65528 < v) || decide (v < -8)) := by
  unfold probeConvert
  split
  · simp [*]
  · split
    · simp [*]
    · simp [*]

/-- A conversion within range is a nearest code. -/
theorem probeConvert_inRange {v : Int} (upper : Bool) (hlo : -8 ≤ v) (hhi : v ≤ 65528) :
    (probeConvert v upper).2 = (false, false) ∧ ∃ q : Int, q = (probeConvert v upper).1 ∧ 0 ≤ q ∧ q ≤ 4095 ∧ v - 8 ≤ 16 * q ∧
      16 * q ≤ v + 8 := by
  unfold probeConvert
  rw [if_neg (by omega), if_neg (by omega)]
  refine ⟨rfl, _, rfl, ?_⟩
  have hnear (w : Int) (hw : w = (v + 8) / 16 ∨ (w = (v + 8) / 16 - 1 ∧ (v + 8) % 16 = 0)) :
      v - 8 ≤ 16 * ((clampI w 0 0xFFF).toNat : Int) ∧ 16 * ((clampI w 0 0xFFF).toNat : Int) ≤ v + 8 ∧
      ((clampI w 0 0xFFF).toNat : Int) ≤ 4095 := by
    unfold clampI
    split
    · omega
    · split <;> omega
  obtain ⟨h1, h2, h3⟩ := hnear (if ((v + 8) % 16 = 0 && !upper) = true then (v + 8) / 16 - 1 else (v + 8) / 16) (by
    split
    · rename_i h
      exact .inr ⟨rfl, by simp at h; omega⟩
    · exact .inl rfl)
  exact ⟨Int.natCast_nonneg _, h3, h1, h2⟩

/-- A capture takes the conversion while fewer than 256 are taken. -/
theorem probeConversion_capture {v : Int} {s : State} {k : Capture} (hk : s.probe.capture = some k) (hn : k.n < 255) :
    probeConversion v s = s.nextDraw.modProbe (fun p => { p with capture := some { k with
      n := k.n + 1, sum := k.sum + (probeConvert v (Config.probeTie s.draw)).1,
      spoiled := k.spoiled || (probeConvert v (Config.probeTie s.draw)).2.1 || (probeConvert v (Config.probeTie s.draw)).2.2 } }) := by
  have hk' : s.nextDraw.probe.capture = some k := hk
  unfold probeConversion
  simp only [hk']
  unfold captureOne
  rw [if_pos (by simp; omega)]

/-- Without a capture the sequence takes it where it runs. -/
theorem probeConversion_noCapture {v : Int} {s : State} (hk : s.probe.capture = none) :
    probeConversion v s = if s.regf 0x1000 0 1 = 1 then sequence (probeConvert v (Config.probeTie s.draw)) s.nextDraw
      else s.nextDraw := by
  have hk' : s.nextDraw.probe.capture = none := hk
  unfold probeConversion
  simp only [hk']
  rfl

theorem next?_none {p : Probe} (h : ∀ e, e < 16 → p.on e = false) (k : Nat) : p.next? k = none := by
  have hfind (f : Nat → Bool) : (upTo 16).find? (fun e => f e && p.on e) = none := by
    refine List.find?_eq_none.2 (fun e he => ?_)
    simp [h e (mem_upTo.1 he)]
  unfold Probe.next?
  rw [hfind]
  refine List.find?_eq_none.2 (fun e he => ?_)
  simp [h e (mem_upTo.1 he)]

/-- The entry under way stays the one under way while it is enabled (R422). -/
theorem next?_current {p : Probe} {e : Nat} (he : e < 16) (hon : p.on e = true) : p.next? e = some e := by
  have hfind : (upTo 16).find? (fun i => decide (e ≤ i) && p.on i) = some e := by
    refine List.find?_range_eq_some.2 ?_
    refine ⟨by simp [hon], List.mem_range.2 he, fun j hj => ?_⟩
    simp [hj]
  unfold Probe.next?
  rw [hfind]

/-- The sequence without an enabled entry does nothing. -/
theorem sequence_off {c : Nat × Bool × Bool} {s : State} (h : ∀ e, e < 16 → s.probe.on e = false) : sequence c s = s := by
  unfold sequence
  rw [next?_none h]

/-- A conversion within range adds to the entry under way, while it has more to come. -/
theorem sequence_adds {code : Nat} {s : State} (he : s.probe.current < 16) (hon : s.probe.on s.probe.current = true)
    (h : s.probe.n + 1 < 2 ^ bits (s.probe.entry s.probe.current) 5 3) :
    sequence (code, false, false) s = s.modProbe (fun p => { p with n := p.n + 1, sum := p.sum + code }) := by
  unfold sequence
  rw [next?_current he hon]
  simp [h, State.modProbe]

/-- Its last conversion completes it. -/
theorem sequence_completes {code : Nat} {s : State} (he : s.probe.current < 16) (hon : s.probe.on s.probe.current = true)
    (h : 2 ^ bits (s.probe.entry s.probe.current) 5 3 ≤ s.probe.n + 1) : sequence (code, false, false) s =
      entryDone s.probe.current (s.probe.sum + code) s.probe.anyOvr s.probe.anyUnder s := by
  unfold sequence
  rw [next?_current he hon]
  simp [Nat.not_lt.2 h]

theorem modProbe_same (f : Probe → Probe) (s : State) : SameBut [.probe] s (s.modProbe f) :=
  Framed.same (frame_State_modProbe f (fun _ h => h))

/-- A completed entry: its result is written with the mean and the flags, and the sums start anew. -/
theorem entryDone_spec (e sum : Nat) (ovr under : Bool) (s : State) :
    let t := entryDone e sum ovr under s
    ∃ r, tget? t.probe.results e = some r ∧ r.valid = true ∧
      r.code = (rneDiv (sum : Int) (2 ^ bits (s.probe.entry e) 5 3)).toNat ∧ r.ovr = ovr ∧ r.under = under ∧
      t.probe.n = 0 ∧ t.probe.sum = 0 ∧ (∀ j, j ≠ e → tget? t.probe.results j = tget? s.probe.results j) ∧
      (bitN s.probe.alert e = true → bitN t.probe.alert e = true) ∧ SameBut [.probe] s t := by
  intro t
  refine ⟨_, tget?_tset_same _ _ _, rfl, rfl, rfl, rfl, rfl, rfl, fun j hj => ?_, fun ha => ?_,
    modProbe_same _ s⟩
  · exact (tget?_tset _ _ _ _).trans (if_neg hj)
  · have h (b : Bool) : bitN (if b = true then setBit s.probe.alert e else s.probe.alert) e = true := by
      cases b
      · exact ha
      · simp [bitN_setBit]
    exact h _

/-- Settles O27: by what takes the conversion. -/
theorem probeConversionsFormResults : Obligations.ProbeConversionsFormResults := by
  refine ⟨fun v s k hs hk hn => ?_, fun v s hs hk hoff => ?_, fun v s e hs hk hrun he hcur hon hlo hhi => ?_⟩
  · refine ⟨_, exec_probeConversion hs, ?_⟩
    rw [probeConversion_capture hk hn]
    refine ⟨_, rfl, rfl, rfl, rfl, rfl, ?_⟩
    rw [Bool.or_assoc, (probeConvert_flags v _).2, Bool.or_assoc]
  · rw [exec_probeConversion hs, probeConversion_noCapture hk]
    split
    · rename_i hrun
      rw [sequence_off (s := s.nextDraw) (hoff.resolve_left (Classical.not_not.2 hrun))]
      rfl
    · rfl
  · refine ⟨_, exec_probeConversion hs, ?_⟩
    subst hcur
    obtain ⟨hflags, hcode⟩ := probeConvert_inRange (Config.probeTie s.draw) hlo hhi
    rw [probeConversion_noCapture hk, if_pos hrun]
    generalize probeConvert v (Config.probeTie s.draw) = c at hflags hcode ⊢
    obtain ⟨code, flags⟩ := c
    subst hflags
    extract_lets avg
    refine ⟨code, hcode, fun hmore => ?_, fun hlast => ?_⟩
    · rw [sequence_adds (s := s.nextDraw) he hon hmore]
      rfl
    · rw [sequence_completes (s := s.nextDraw) he hon hlast]
      obtain ⟨r, hr, hvalid, hcode', hovr, hunder, hn, hsum, hother, halert, hsame⟩ :=
        entryDone_spec s.probe.current (s.probe.sum + code) s.probe.anyOvr s.probe.anyUnder s.nextDraw
      exact ⟨r, hr, hvalid, hcode', hovr, hunder, hn, hsum, hother, halert, ((nextDraw_same s).mono (by simp)).trans (hsame.mono (by simp))⟩

/-! ## Trace pins -/

theorem pinNibbles_length (r : TraceRec) : (pinNibbles r).length = 2 + 2 * r.bytes.length := by
  have h (l : Bytes) : (l.flatMap (fun b => [byte (b.toNat % 16), byte (b.toNat / 16)])).length = 2 * l.length := by
    induction l with
    | nil => rfl
    | cons b l ih =>
      rw [List.flatMap_cons, List.length_append, ih, List.length_cons, List.length_cons, List.length_cons, List.length_nil]
      omega
  unfold pinNibbles
  rw [List.length_append, h]
  rfl

/-- The nibbles of a record: the preamble, then two for each byte. -/
theorem pinNibbles_byte (r : TraceRec) (i : Nat) : (pinNibbles r)[2 + 2 * i]? = (r.bytes[i]?).map (fun b => byte (b.toNat % 16)) ∧
    (pinNibbles r)[3 + 2 * i]? = (r.bytes[i]?).map (fun b => byte (b.toNat / 16)) := by
  have h (l : Bytes) (i : Nat) : (l.flatMap (fun b => [byte (b.toNat % 16), byte (b.toNat / 16)]))[2 * i]? =
        (l[i]?).map (fun b => byte (b.toNat % 16)) ∧
      (l.flatMap (fun b => [byte (b.toNat % 16), byte (b.toNat / 16)]))[2 * i + 1]? = (l[i]?).map (fun b => byte (b.toNat / 16)) := by
    induction l generalizing i with
    | nil => simp
    | cons b l ih =>
      cases i with
      | zero => simp
      | succ i => simpa [Nat.mul_add] using ih i
  obtain ⟨hlow, hhigh⟩ := h r.bytes i
  unfold pinNibbles
  rw [show 2 + 2 * i = (2 * i) + 2 by omega, show 3 + 2 * i = (2 * i + 1) + 2 by omega]
  exact ⟨hlow, hhigh⟩

theorem exec_tracePinSend {s : State} {r : TraceRec} {rest : List TraceRec} (hs : Serving s) (hfatal : s.power.fatal = false)
    (hon : s.regf 0x1104 0 1 = 1) (hq : s.trace.pinQueue = r :: rest) : exec .tracePinSend s =
      .next ((s.modTrace (fun t => { t with pinQueue := rest })).emit (.traceRecord (pinNibbles r))) := by
  refine (ifDue_of (f := tracePinSend) (by simp [served_of hs, hfatal, hon])).trans ?_
  unfold tracePinSend
  rw [hq]

/-- Settles O29: the record's nibbles, byte by byte. -/
theorem tracePinsSendRecords : Obligations.TracePinsSendRecords := by
  intro s r rest hs hfatal hon hq
  refine ⟨_, exec_tracePinSend hs hfatal hon hq, rfl, ⟨pinNibbles r, rfl, ?_, rfl, rfl, fun i b hb => ?_⟩,
    ((modTrace_same _ s).mono (by simp)).trans ((emit_same _ _).mono (by simp))⟩
  · exact pinNibbles_length r
  · obtain ⟨hlow, hhigh⟩ := pinNibbles_byte r i
    rw [hlow, hhigh, hb]
    exact ⟨rfl, rfl⟩

end Sys2Proof.Machine
end

section
/-! PROOF. SMBus reads (R456) and the TAP (R457). -/

namespace Sys2Proof.Machine

open Sys2Proof.Safety

@[simp] theorem leBytes_length (n v : Nat) : (leBytes n v).length = n := by
  induction n generalizing v with
  | zero => rfl
  | succ n ih => simp [leBytes, ih]

/-- A read of the target gives its bytes and changes nothing else. -/
theorem smbGive_due {s : State} (h : s.power.aonOk = true) (d : State → Bytes) :
    ifDue s.power.aonOk (smbGive d) s = .next { s with host := { s.host with out := s.host.out ++ [.smbus (d s)] } } := ifDue_of h

theorem smbData_live {s : State} (h : s.power.ready = true ∧ s.power.state ≠ 3) (d : Bytes) : s.smbData d = d := by
  unfold State.smbData State.smbLive
  rw [if_pos (by simp [h])]

theorem smbData_notLive {s : State} (h : ¬ (s.power.ready = true ∧ s.power.state ≠ 3)) (d : Bytes) :
    s.smbData d = List.replicate d.length 0 := by
  unfold State.smbData State.smbLive
  rw [if_neg (by simpa using h)]

/-- A bit of the byte of a number. -/
theorem getLsbD_byte {v i : Nat} {b : Bool} (hi : i < 8) (h : v / 2 ^ i % 2 = b2n b) : (byte (v % 256)).getLsbD i = b := by
  have hmod : (v % 256).testBit i = v.testBit i := by
    rw [show (256 : Nat) = 2 ^ 8 from rfl, Nat.testBit_mod_two_pow, decide_eq_true hi, Bool.true_and]
  unfold byte
  rw [BitVec.getLsbD_ofNat, decide_eq_true hi, Bool.true_and, hmod, Nat.testBit_eq_decide_div_mod_eq, h]
  cases b <;> rfl

theorem b2n_le (b : Bool) : b2n b ≤ 1 := by cases b <;> decide

/-- The fields of the status byte (Table 15.9). -/
theorem smbStatus_fields (s : State) :
    let b := byte (s.smbStatus % 256)
    b.getLsbD 0 = s.power.ready ∧ b.getLsbD 1 = s.power.fatal ∧
    (s.power.state < 4 → b.toNat / 4 % 4 = s.power.state ∧ b.getLsbD 4 = s.power.throttlePower ∧
      b.getLsbD 5 = s.power.throttleTherm ∧ b.getLsbD 6 = s.power.refclkLost ∧ b.getLsbD 7 = s.power.thermTrip) := by
  have h0 := b2n_le s.power.ready
  have h1 := b2n_le s.power.fatal
  have h4 := b2n_le s.power.throttlePower
  have h5 := b2n_le s.power.throttleTherm
  have h6 := b2n_le s.power.refclkLost
  have h7 := b2n_le s.power.thermTrip
  have hv : s.smbStatus = b2n s.power.ready + 2 * b2n s.power.fatal + 4 * s.power.state + 16 * b2n s.power.throttlePower +
    32 * b2n s.power.throttleTherm + 64 * b2n s.power.refclkLost + 128 * b2n s.power.thermTrip := rfl
  refine ⟨getLsbD_byte (by omega) ?_, getLsbD_byte (by omega) ?_, fun hst => ⟨?_, getLsbD_byte (by omega) ?_,
    getLsbD_byte (by omega) ?_, getLsbD_byte (by omega) ?_, getLsbD_byte (by omega) ?_⟩⟩
  · omega
  · omega
  · unfold byte
    rw [BitVec.toNat_ofNat]
    omega
  · omega
  · omega
  · omega
  · omega

/-- A read that is not live gives as many zeros as it has bytes. -/
theorem smbGive_notLive {s : State} (hrail : s.power.aonOk = true) (h : ¬ (s.power.ready = true ∧ s.power.state ≠ 3))
    (d : State → Bytes) : ifDue s.power.aonOk (smbGive (fun s => s.smbData (d s))) s =
      .next { s with host := { s.host with out := s.host.out ++ [.smbus (List.replicate (d s).length 0)] } } :=
  (smbGive_due hrail _).trans (by rw [smbData_notLive h])

theorem smbGive_live {s : State} (hrail : s.power.aonOk = true) (h : s.power.ready = true ∧ s.power.state ≠ 3)
    (d : State → Bytes) : ifDue s.power.aonOk (smbGive (fun s => s.smbData (d s))) s =
      .next { s with host := { s.host with out := s.host.out ++ [.smbus (d s)] } } :=
  (smbGive_due hrail _).trans (by rw [smbData_live h])

/-- Settles O30: each read is one answer of the target, live or not. -/
theorem smbusReadsGiveTheirData : Obligations.SmbusReadsGiveTheirData := by
  intro s hrail
  obtain ⟨hready, hfatal, hrest⟩ := smbStatus_fields s
  refine ⟨smbGive_due hrail _, ⟨byte (s.smbStatus % 256), smbGive_due hrail _, hready, hfatal, hrest⟩, fun hlive => ?_,
    fun hno => ?_, rfl⟩
  · have give := smbGive_live hrail hlive
    exact ⟨give _, give _, give _, give _, give _, give _, give _, fun e => give (·.smbHk e.val)⟩
  · have give := smbGive_notLive hrail hno
    exact ⟨give _, give _, give _, give _, give _, give _, give _, fun e => give (·.smbHk e.val)⟩

/-! ## The TAP -/

theorem shiftBits_get {n k : Nat} (v : Nat) (hk : k < n) : (shiftBits n v)[k]? = some (bitN v k) := by
  simp [shiftBits, upTo, hk]

/-- While RESET_N is low an instruction takes effect, while it is high it changes nothing. -/
theorem tapOn_eq {s : State} (hrail : s.power.aonOk = true) : s.tapOn = !s.power.resetN := by
  unfold State.tapOn
  rw [hrail, Bool.true_and]

/-- An instruction that is selected and shifts out or drives. -/
theorem tapSelect_emits {s : State} (hon : s.tapOn = true) (ir drives : Nat) (o : State → Out) :
    ifDue s.tapOn (fun s => (tapSelect ir drives s).emit (o s)) s = .next { s with
      mgmt := { s.mgmt with tapIr := ir, chainDrives := drives }, host := { s.host with out := s.host.out ++ [o s] } } := ifDue_of hon

/-- Settles O31: the instructions act under tapOn alone. -/
theorem tapInstructionsActOnlyInReset : Obligations.TapInstructionsActOnlyInReset := by
  intro s chain hrail
  refine ⟨fun hlow => ?_, fun hhigh => ?_⟩
  · have hon : s.tapOn = true := by rw [tapOn_eq hrail, hlow]; rfl
    have emits := tapSelect_emits hon
    refine ⟨emits 0 0 (fun _ => .tdo [false]), ⟨shiftBits 32 s.idcode, emits 1 0 (fun s => .tdo (shiftBits 32 s.idcode)), rfl,
      fun k hk => shiftBits_get _ hk⟩, ?_, emits 3 1 (fun s => .pins s.mgmt.chain), emits 4 1 (fun s => .pins s.mgmt.chain), ?_⟩
    · exact ifDue_of (f := fun s => (tapSelect 2 0 s).modMgmt (fun m => { m with chain := chain })) hon
    · refine (ifDue_of (f := tapSelect 5 2) hon).trans ?_
      simp [tapSelect, State.modMgmt]
  · have hoff : s.tapOn = false := by rw [tapOn_eq hrail, hhigh]; rfl
    have off (f : State → State) : ifDue s.tapOn f s = .next s := ifDue_not hoff
    have stays (ir drives : Nat) (o : State → Out) := off (fun s => (tapSelect ir drives s).emit (o s))
    exact ⟨stays 0 0 (fun _ => .tdo [false]), stays 1 0 (fun s => .tdo (shiftBits 32 s.idcode)),
      off (fun s => (tapSelect 2 0 s).modMgmt (fun m => { m with chain := chain })), stays 3 1 (fun s => .pins s.mgmt.chain),
      stays 4 1 (fun s => .pins s.mgmt.chain), off _⟩

end Sys2Proof.Machine
end

section
/-! PROOF. Reply rings and MSI-X (R281 to R283, R312). -/

namespace Sys2Proof.Machine

open Sys2Proof.Safety

/-! ## Intake blocks as a table -/

/-- Lanes of 16 to a function are numbered apart. -/
theorem laneNo_inj {f g j k : Nat} (hj : j < 16) (hk : k < 16) : laneNo f j = laneNo g k ↔ f = g ∧ j = k := by
  unfold laneNo
  omega

theorem lane_modLane_same (fn k : Nat) (g : Lane → Lane) (s : State) : (s.modLane fn k g).lane fn k = g (s.lane fn k) := by
  unfold State.modLane State.lane
  simp

theorem lane_modLane_other {fn k f j : Nat} (h : laneNo f j ≠ laneNo fn k) (g : Lane → Lane) (s : State) :
    (s.modLane fn k g).lane f j = s.lane f j := by
  unfold State.modLane State.lane
  simp [tget_tset, h]

/-- An entry set twice stands as set last. -/
theorem tset_tset {α : Type} (t : Tbl α) (k : Nat) (u v : α) : tset (tset t k u) k v = tset t k v := by
  induction t with
  | nil => simp [tset]
  | cons e r ih =>
    obtain ⟨j, w⟩ := e
    by_cases hlt : k < j
    · simp [tset, hlt]
    · by_cases heq : k = j
      · simp [tset, heq]
      · simp [tset, hlt, heq, ih]

/-- Two changes of one intake block are one. -/
theorem modLane_modLane (fn k : Nat) (f g : Lane → Lane) (s : State) :
    (s.modLane fn k f).modLane fn k g = s.modLane fn k (fun l => g (f l)) := by
  have h := lane_modLane_same fn k f s
  have ht (v : Lane) : tset (s.modLane fn k f).host.lanes (laneNo fn k) v = tset s.host.lanes (laneNo fn k) v := tset_tset ..
  unfold State.modLane at h ht ⊢
  rw [h, ht]

/-! ## MSI-X -/

/-- A vector of the table that is free to be sent is sent. -/
theorem raiseMsix_sent {fn v : Nat} {s : State} (hv : v < 64) (hm : s.master fn = true) (hmask : bit (s.msixWord fn v 3) 0 = false) :
    raiseMsix fn v s = s.emit (.msix fn v) := by
  unfold raiseMsix
  rw [if_neg (by omega), if_pos (by simp [hm, hmask])]

theorem raiseMsix_masked {fn v : Nat} {s : State} (hv : v < 64) (hmask : bit (s.msixWord fn v 3) 0 = true) :
    raiseMsix fn v s = s.modHost (fun h => { h with pba := tset h.pba (64 * fn + v) true }) := by
  unfold raiseMsix
  rw [if_neg (by omega), if_neg (by simp [hmask])]

/-- Without a HOLDOFF running a vector is raised; one may start. -/
theorem raiseHeld_free {fn v : Nat} (us : Nat) {s : State} (hv : v < 64) (h : tget? s.host.holdoffs (64 * fn + v) = none) :
    ∃ x, raiseHeld fn v us s = (raiseMsix fn v s).modHost (fun y => { y with holdoffs := x }) := by
  unfold raiseHeld
  rw [if_neg (by omega), h]
  by_cases hus : us = 0
  · exact ⟨(raiseMsix fn v s).host.holdoffs, if_pos hus⟩
  · exact ⟨_, if_neg hus⟩

theorem raiseHeld_same (fn v us : Nat) (s : State) : SameBut [.host] s (raiseHeld fn v us s) :=
  Framed.same (frame_raiseHeld fn v us (fun _ h => h))

/-- Raising a vector leaves memory and the intake blocks alone. -/
theorem raiseMsix_rest (fn v : Nat) (s : State) :
    (raiseMsix fn v s).host.mem = s.host.mem ∧ (raiseMsix fn v s).host.lanes = s.host.lanes := by
  unfold raiseMsix
  split
  · exact ⟨rfl, rfl⟩
  · split <;> exact ⟨rfl, rfl⟩

theorem raiseHeld_rest (fn v us : Nat) (s : State) :
    (raiseHeld fn v us s).host.mem = s.host.mem ∧ (raiseHeld fn v us s).host.lanes = s.host.lanes := by
  have h := raiseMsix_rest fn v s
  unfold raiseHeld
  split
  · exact ⟨rfl, rfl⟩
  · split
    · exact ⟨rfl, rfl⟩
    · simp only
      split <;> exact h

/-! ## A reply of one slot -/

@[simp] theorem wordBytes_length (l : List Word) : (wordBytes l).length = 4 * l.length := by
  induction l with
  | nil => rfl
  | cons x l ih =>
    simp only [wordBytes, List.flatMap_cons, List.length_append, leBytes_length] at ih ⊢
    rw [ih, List.length_cons]
    omega

theorem replySlots_one {r : Reply} (h1 : 1 ≤ r.words.length) (h15 : r.words.length ≤ 15) : replySlots r = 1 := by
  unfold replySlots ceilDiv
  omega

/-- The one slot of a short reply: its words, zeros, and the trailer with PHASE. -/
theorem slotBytes_one {r : Reply} (h15 : r.words.length ≤ 15) (phase : Bool) :
    slotBytes r 0 1 phase = wordBytes (r.words ++ List.replicate (15 - r.words.length) 0 ++ [w32 (b2n phase)]) := by
  unfold slotBytes
  simp [List.take_of_length_le h15]

/-- The intake block once the oldest reply is written in one slot. -/
def Lane.replied (l : Lane) (rest : List Reply) : Lane :=
  { l with
    held := rest
    replyWrite := if l.replyWrite + 1 = 2 ^ l.replyLog2 then 0 else l.replyWrite + 1
    replyPhase := if l.replyWrite + 1 = 2 ^ l.replyLog2 then !l.replyPhase else l.replyPhase
    replyUsed := l.replyUsed + 1 }

/-- The machine once the oldest reply is written in one slot, before its vector. -/
def slotWritten (fn k : Nat) (r : Reply) (rest : List Reply) (s : State) : State :=
  let l := s.lane fn k
  (s.hostWrite (l.replyBase + 64 * l.replyWrite) (slotBytes r 0 1 l.replyPhase)).modLane fn k (fun l => l.replied rest)

section
variable {fn : Fin 32} {k : Fin 16} {s : State} {r : Reply} {rest : List Reply}

theorem exec_replyWrite (hs : Serving s) (hm : s.master fn = true) (hen : (s.lane fn k).replyEnable = true)
    (hheld : (s.lane fn k).held = r :: rest) (h1 : 1 ≤ r.words.length) (h15 : r.words.length ≤ 15)
    (hroom : (s.lane fn k).replyUsed < 2 ^ (s.lane fn k).replyLog2) : exec (.replyWrite fn k) s = .next (if r.irq then
      raiseHeld fn (s.lane fn k).vector (s.lane fn k).holdoff (slotWritten fn k r rest s) else slotWritten fn k r rest s) := by
  have hdue : (s.served && s.master fn.val && (s.lane fn k).replyEnable &&
      decide ((s.lane fn k).replyUsed + replySlots r ≤ 2 ^ (s.lane fn k).replyLog2)) = true := by
    rw [replySlots_one h1 h15]
    simp only [served_of hs, hm, hen, Bool.true_and, decide_eq_true_eq]
    exact hroom
  have hone : each (upTo (replySlots r)) (fun i t => writeSlot fn.val k.val i (replySlots r) r t)
      (s.modLane fn.val k.val (fun l => { l with held := rest })) = slotWritten fn k r rest s := by
    rw [replySlots_one h1 h15]
    show writeSlot fn.val k.val 0 1 r (s.modLane fn.val k.val (fun l => { l with held := rest })) = _
    have hl := lane_modLane_same fn k (fun l => { l with held := rest }) s
    unfold writeSlot slotWritten
    simp only [hl]
    have hcomm (u : State) (a : Nat) (b : Bytes) (g : Lane → Lane) :
        (u.modLane fn k g).hostWrite a b = (u.hostWrite a b).modLane fn k g := rfl
    rw [hcomm, modLane_modLane]
    rfl
  show (match (s.lane fn.val k.val).held with | r :: rest => _ | [] => _) = _
  rw [hheld]
  refine (ifDue_of hdue).trans ?_
  rw [hone]

/-- What the written slot leaves: its bytes, and nothing else but the intake block. -/
theorem slotWritten_spec (hform : HostMemoryForm s) (h15 : r.words.length ≤ 15) :
    let t := slotWritten fn k r rest s
    let l := s.lane fn k
    let a := l.replyBase + 64 * l.replyWrite
    Memory.readBytes t.host.mem a 64 = wordBytes (r.words ++ List.replicate (15 - r.words.length) 0 ++ [w32 (b2n l.replyPhase)]) ∧
    (∀ x, x < a ∨ a + 64 ≤ x → Memory.read t.host.mem x = Memory.read s.host.mem x) ∧
    t.lane fn k = l.replied rest ∧ (∀ (f : Fin 32) (j : Fin 16), (f, j) ≠ (fn, k) → t.lane f j = s.lane f j) ∧
    t.host.out = s.host.out ∧ t.host.pba = s.host.pba ∧ t.host.holdoffs = s.host.holdoffs ∧ SameBut [.host] s t := by
  intro t l a
  have hlen : (slotBytes r 0 1 l.replyPhase).length = 64 := by
    rw [slotBytes_one h15, wordBytes_length]
    simp
    omega
  refine ⟨?_, fun x hx => ?_, lane_modLane_same fn k _ _, fun f j hfj => ?_, rfl, rfl, rfl, ?_⟩
  · have h := Memory.readBytes_writeBytes a (slotBytes r 0 1 l.replyPhase) hform
    rw [hlen, slotBytes_one h15] at h
    rw [← h, ← slotBytes_one h15]
    rfl
  · exact Memory.read_writeBytes_other a x _ hform (by rw [hlen]; exact hx)
  · refine lane_modLane_other ?_ _ _
    rw [Ne, laneNo_inj j.isLt k.isLt]
    rintro ⟨hf, hj⟩
    exact hfj (by rw [Fin.ext hf, Fin.ext hj])
  · intro p hp; cases p <;> first | rfl | simp at hp

end

/-- A lane reads what the host side holds. -/
theorem lane_of_host {s t : State} (h : t.host.lanes = s.host.lanes) (f j : Nat) : t.lane f j = s.lane f j := by
  unfold State.lane
  rw [h]

/-- What a vector that may be raised leaves, from a machine with its intake blocks and memory written. -/
theorem raiseHeld_spec {fn v : Nat} (us : Nat) {s : State} (hv : v < 64) (hm : s.master fn = true)
    (h : tget? s.host.holdoffs (64 * fn + v) = none) :
    let t := raiseHeld fn v us s
    (bit (s.msixWord fn v 3) 0 = false → t.host.out = s.host.out ++ [.msix fn v]) ∧
    (bit (s.msixWord fn v 3) 0 = true → t.host.out = s.host.out ∧ tget t.host.pba (64 * fn + v) false = true) := by
  intro t
  obtain ⟨x, hx⟩ := raiseHeld_free us hv h
  refine ⟨fun hmask => ?_, fun hmask => ?_⟩
  · rw [show t = _ from hx, raiseMsix_sent hv hm hmask]
    rfl
  · rw [show t = _ from hx, raiseMsix_masked hv hmask]
    exact ⟨rfl, tget_tset_same _ _ _ _⟩

/-- Settles O33: a reply's slot, what the host has read, and the end of a HOLDOFF. -/
theorem replyRingsTakeReplies : Obligations.ReplyRingsTakeReplies := by
  refine ⟨fun fn k s r rest hs hm hform hen hheld h1 h15 hroom => ?_, fun fn k v s hs hfn => ?_, fun fn v s h hs hh huntil => ?_⟩
  · refine ⟨_, exec_replyWrite hs hm hen hheld h1 h15 hroom, ?_⟩
    obtain ⟨hbytes, hother, hlane, hlanes, hout, hpba, hhold, hsame⟩ := slotWritten_spec (fn := fn) (k := k) (rest := rest) hform h15
    cases hirq : r.irq
    · exact ⟨hbytes, hother, hlane, hlanes, fun _ => ⟨hout, hpba⟩, fun h => absurd h Bool.false_ne_true, hsame⟩
    · obtain ⟨hmem, hl⟩ := raiseHeld_rest fn (s.lane fn k).vector (s.lane fn k).holdoff (slotWritten fn k r rest s)
      have hlane' := lane_of_host hl
      rw [if_pos rfl]
      refine ⟨?_, fun y hy => ?_, ?_, fun f j hfj => ?_, fun h => absurd h.symm Bool.false_ne_true, fun _ hv hfree => ?_, ?_⟩
      · rw [hmem]; exact hbytes
      · rw [hmem]; exact hother y hy
      · rw [hlane']; exact hlane
      · rw [hlane']; exact hlanes f j hfj
      · obtain ⟨hsent, hmasked⟩ := raiseHeld_spec (s.lane fn k).holdoff (s := slotWritten fn k r rest s) hv hm (by rw [hhold]; exact hfree)
        exact ⟨fun h => (hsent h).trans (by rw [hout]), fun h => ⟨(hmasked h).1.trans hout, (hmasked h).2⟩⟩
      · exact hsame.trans (raiseHeld_same _ _ _ _)
  · refine ⟨_, ifDue_of (by rw [served_of hs]; exact hfn), ?_⟩
    have hread : bits v 0 16 = v.toNat % 65536 := by simp [bits, bitsN]
    unfold replyRead
    rw [hread]
    rfl
  · have hx : exec (.msixHoldoffEnd fn v) s = .next (if h.pending then
        raiseHeld fn v h.span (s.modHost (fun x => { x with holdoffs := tdel x.holdoffs (64 * fn + v) }))
        else s.modHost (fun x => { x with holdoffs := tdel x.holdoffs (64 * fn + v) })) := by
      unfold exec execMsixHoldoffEnd
      simp only [hh]
      exact ifDue_of (by simp [served_of hs, huntil])
    have hdel : SameBut [.host] s (s.modHost (fun x => { x with holdoffs := tdel x.holdoffs (64 * fn + v) })) := modHost_same _ s
    refine ⟨_, hx, fun hp => ?_, fun hp hm hmask => ?_, ?_⟩
    · rw [hp]; rfl
    · rw [if_pos hp]
      have hfree : tget? (tdel s.host.holdoffs (64 * fn + v)) (64 * fn + v) = none := by rw [tget?_tdel, if_pos rfl]
      obtain ⟨hsent, -⟩ := raiseHeld_spec h.span
        (s := s.modHost (fun x => { x with holdoffs := tdel x.holdoffs (64 * fn + v) })) v.isLt hm hfree
      obtain ⟨hmem, hl⟩ := raiseHeld_rest fn v h.span (s.modHost (fun x => { x with holdoffs := tdel x.holdoffs (64 * fn + v) }))
      exact ⟨hsent hmask, hmem, hl⟩
    · split
      · exact hdel.trans (raiseHeld_same _ _ _ _)
      · exact hdel

end Sys2Proof.Machine
end

section
/-! PROOF. Packets enter lanes and are taken (R273 to R275, R277), and commands that waited are begun (R277, R278). -/

namespace Sys2Proof.Machine

open Sys2Proof.Safety

/-! ## Push windows -/

/-- A word of slot n of window k, at its byte offset. -/
def SlotWord (off : BitVec 20) (k n i : Nat) : Prop := off.toNat = 65536 * k + 1024 * n + 4 * i ∧ k < 16 ∧ n < 64 ∧ i < 256

section
variable {fn : Fin 32} {off : BitVec 20} {k n i : Nat} {v : Word} {s : State}

theorem exec_pushWindowWrite (hs : Serving s) (hfn : s.fnEnabled fn = true) (hoff : SlotWord off k n i) :
    exec (.pushWindowWrite fn off [v]) s = .next (pushWord fn k n i v (count (devCtr 6) (busyTouched s fn off.toNat 1) s)) := by
  obtain ⟨ho, hk, hn, hi⟩ := hoff
  have hwf : WellFormed.pushWrite off [v] = true := by
    unfold WellFormed.pushWrite
    simp
    omega
  have hwords (u : State) : pushWords fn off.toNat [v] u = pushWord fn k n i v u := by
    show pushWord fn (off.toNat / 65536) (off.toNat % 65536 / 1024) (off.toNat % 1024 / 4) v u = _
    rw [show off.toNat / 65536 = k by omega, show off.toNat % 65536 / 1024 = n by omega, show off.toNat % 1024 / 4 = i by omega]
  have hgo : (s.served && s.fnEnabled fn.val) = true := by rw [served_of hs]; exact hfn
  show checked (WellFormed.pushWrite off [v]) (fun s => if s.served && s.fnEnabled fn.val then pushWrite fn.val off.toNat [v] s else s) s = _
  rw [hwf, checked_true, hgo]
  exact congrArg _ (hwords _)

/-- One word touches one slot. -/
theorem busyTouched_one (hoff : SlotWord off k n i) (hen : (s.lane fn k).enable = true) (hmode : (s.lane fn k).mode = false) :
    busyTouched s fn off.toNat 1 = b2n (tget (s.lane fn k).slots n { words := [], committed := false }).committed := by
  obtain ⟨ho, hk, hn, hi⟩ := hoff
  have hfirst : off.toNat / 1024 = 64 * k + n := by omega
  have hlast : (off.toNat + 4 * 1 - 1) / 1024 + 1 - (64 * k + n) = 1 := by omega
  have hwin : (64 * k + n + 0) / 64 = k := by omega
  have hslot : (64 * k + n + 0) % 64 = n := by omega
  unfold busyTouched
  simp only [hfirst, hlast]
  show ([0].filter _).length = _
  simp only [List.filter_cons, List.filter_nil, hwin, hslot, hen, hmode, Bool.not_false, Bool.true_and]
  cases (tget (s.lane fn k).slots n { words := [], committed := false }).committed <;> rfl

end

/-- A packet is whole when w0 and every word up to its length are there (R273). -/
theorem slotWhole_iff (t : Tbl Word) : slotWhole t = true ↔
    ∃ w0, tget? t 0 = some w0 ∧ ∀ j, j < max (bits w0 16 8) 6 → (tget? t j).isSome = true := by
  unfold slotWhole
  cases tget? t 0 with
  | none => simp
  | some w0 => simp [hdrLength, mem_upTo]

/-- A word written to a slot that is committed is discarded, and recorded in another. -/
theorem pushWord_eq {fn k n i : Nat} {v : Word} {s : State} (hen : (s.lane fn k).enable = true) (hmode : (s.lane fn k).mode = false) :
    pushWord fn k n i v s =
      let sl := tget (s.lane fn k).slots n { words := [], committed := false }
      if sl.committed then s
      else s.modLane fn k (fun l => { l with
        slots := tset l.slots n { words := tset sl.words i v, committed := slotWhole (tset sl.words i v) }
        order := if slotWhole (tset sl.words i v) then l.order ++ [n] else l.order }) := by
  unfold pushWord
  simp [hen, hmode]

/-! ## Pull rings -/

/-- The entries a poll finds: those from the consumer index up to the producer's. -/
def State.pollFinds (s : State) (fn k : Nat) : List (List Word) :=
  let l := s.lane fn k
  let n := 2 ^ l.pullLog2
  (upTo ((ofBytes (s.hostRead l.prodAddr 4) % n + n - l.consumer) % n)).map
    (fun i => s.entryWords (l.pullBase + 1024 * ((l.consumer + i) % n)))

theorem exec_pullRingPoll {fn : Fin 32} {k : Fin 16} {s : State} (hs : Serving s) (hm : s.master fn = true)
    (hen : (s.lane fn k).enable = true) (hmode : (s.lane fn k).mode = true) (hpulled : (s.lane fn k).pulled = []) :
    exec (.pullRingPoll fn k) s = .next (s.modLane fn k (fun l => { l with pulled := s.pollFinds fn k })) := by
  have hdue : (s.served && s.master fn.val && (s.lane fn k).enable && (s.lane fn k).mode && (s.lane fn k).pulled.isEmpty) = true := by
    simp only [served_of hs, hm, hen, hmode, hpulled, List.isEmpty_nil, Bool.and_self]
  show execPullRingPoll fn k s = _
  unfold execPullRingPoll
  exact ifDue_of hdue

/-- Indices apart by one in a ring of n. -/
theorem ring_distance {n c p : Nat} (hc : c < n) (hp : p < n) : (p + n - c) % n = 0 ↔ p = c := by
  constructor
  · intro h
    refine Decidable.byContradiction fun hne => ?_
    rcases Nat.lt_or_ge p c with h' | h'
    · rw [Nat.mod_eq_of_lt (by omega)] at h; omega
    · rw [show p + n - c = (p - c) + n by omega, Nat.add_mod_right, Nat.mod_eq_of_lt (by omega)] at h; omega
  · rintro rfl
    rw [show p + n - p = n by omega, Nat.mod_self]

theorem ring_next {n c : Nat} (hc : c < n) (hne : (c + 1) % n ≠ c) : ((c + 1) % n + n - c) % n = 1 := by
  have hn : 1 < n := by
    rcases Nat.lt_or_ge 1 n with h | h
    · exact h
    · have hn1 : n = 1 := by omega
      subst hn1
      omega
  rcases Nat.lt_or_ge (c + 1) n with h | h
  · rw [Nat.mod_eq_of_lt h, show c + 1 + n - c = 1 + n by omega, Nat.add_mod_right, Nat.mod_eq_of_lt hn]
  · rw [show c + 1 = n by omega, Nat.mod_self, show 0 + n - c = 1 by omega, Nat.mod_eq_of_lt hn]

/-! ## A packet is taken -/

/-- A change of an intake block that keeps what decides whether its packets are taken. -/
def LaneKept (g : Lane → Lane) : Prop :=
  ∀ l, (g l).enable = l.enable ∧ (g l).replyEnable = l.replyEnable ∧ (g l).fenceWait = l.fenceWait ∧ (g l).held = l.held

/-- What such a change keeps reads the same of every intake block. -/
theorem lane_modLane_field {α : Type} (F : Lane → α) {g : Lane → Lane} (hg : ∀ l, F (g l) = F l) (f j a b : Nat) (s : State) :
    F ((s.modLane f j g).lane a b) = F (s.lane a b) := by
  by_cases h : laneNo a b = laneNo f j
  · have hsame : (s.modLane f j g).lane a b = g (s.lane a b) := by
      unfold State.lane
      rw [h]
      exact lane_modLane_same f j g s
    rw [hsame, hg]
  · rw [lane_modLane_other h]

/-- Such a change keeps a command one that is taken at once. -/
theorem takenAtOnce_modLane {op : Nat} {h : Hdr} {w : List Word} {s : State} {g : Lane → Lane} (ht : TakenAtOnce op h w s)
    (hg : LaneKept g) (f j : Nat) : TakenAtOnce op h w (s.modLane f j g) := by
  obtain ⟨hw, hl, hr, hf, hfe, hat, hp, hc, hid⟩ := ht
  have hk {α : Type} (F : Lane → α) (hF : ∀ l, F (g l) = F l) (a b : Nat) := lane_modLane_field F hF f j a b s
  refine ⟨hw, ?_, ?_, hf, hfe, hat, hp, hc, hid⟩
  · have he : (s.modLane f j g).laneTakes h.fn.val h.lane.val = s.laneTakes h.fn.val h.lane.val := by
      unfold State.laneTakes
      rw [hk _ (fun l => (hg l).1), hk _ (fun l => (hg l).2.2.1)]
      simp only [hk _ (fun l => (hg l).2.2.2)]
      rfl
    rw [he]; exact hl
  · have he : (s.modLane f j g).ringOn h = s.ringOn h := by
      unfold State.ringOn
      rw [hk _ (fun l => (hg l).2.1)]
    rw [he]; exact hr

theorem takenAtOnce_hostWrite {op : Nat} {h : Hdr} {w : List Word} {s : State} (ht : TakenAtOnce op h w s) (a : Nat) (b : Bytes) :
    TakenAtOnce op h w (s.hostWrite a b) := ht

/-- A packet that a lane may take at once is performed on the machine that has noted it. -/
theorem take_taken {op : Nat} {h : Hdr} {w : List Word} {s : State} (ht : TakenAtOnce op h w s) :
    take performAny h op w true true s = performAny (taken op h w s) (entered op h w s) := by
  have hsub := submit_taken ht
  obtain ⟨hw, hl, -⟩ := ht
  unfold submit at hsub
  rw [hw, checked_true, hl] at hsub
  exact Host.Outcome.next.inj hsub

/-- A NOP that is taken at once gets its reply. -/
theorem take_nop {h : Hdr} {s : State} (ht : TakenAtOnce 0 h [] s) :
    Replied h 0 stOk [] s (take performAny h 0 [] true true s) := by
  rw [take_taken ht]
  exact replied_finish_entered ht stOk []

/-- The six words of a packet with no payload. -/
structure NopPacket (fn : Fin 32) (k : Fin 16) (ws : List Word) : Prop where
  length : ws.length = 6
  lengthField : bits (pw ws 0) 16 8 = 6
  opcode : bits (pw ws 0) 0 16 = 0
  reserved : hdrReservedOk ws = true

/-- The next packet of a lane is taken by its header, opcode and words. -/
theorem packetTake_nop {fn : Fin 32} {k : Fin 16} {ws : List Word} {s u : State} (hp : NopPacket fn k ws)
    (hnext : nextPacket fn.val k.val s = some (ws, u)) :
    packetTake performAny fn k s = take performAny (hdrOf fn k ws) 0 [] true true u := by
  obtain ⟨hlen, hfield, hop, hres⟩ := hp
  unfold packetTake
  rw [hnext]
  simp only [hdrLength, hdrOpcode, hfield, hop, hres]
  rw [List.drop_eq_nil_of_le (by rw [List.length_take]; exact Nat.min_le_left _ _)]
  rfl

theorem exec_packetTake {fn : Fin 32} {k : Fin 16} {s : State} (ht : s.laneTakes fn.val k.val = true) :
    exec (.packetTake fn k) s = .next (packetTake performAny fn k s) := ifDue_of ht

/-- The next packet of a push window. -/
theorem nextPacket_slot {fn k n : Nat} {rest : List Nat} {ws : List Word} {s : State} (hlen : ws.length = 6)
    (hfield : bits (pw ws 0) 16 8 = 6) (hmode : (s.lane fn k).mode = false) (horder : (s.lane fn k).order = n :: rest)
    (hwords : ∀ i, i < 6 → tget (tget (s.lane fn k).slots n { words := [], committed := false }).words i 0 = pw ws i) :
    nextPacket fn k s = some (ws, s.modLane fn k (fun l => { l with order := rest, slots := tdel l.slots n })) := by
  have hws : (upTo 6).map (fun i => tget (tget (s.lane fn k).slots n { words := [], committed := false }).words i 0) = ws := by
    refine List.ext_getElem (by simp [upTo, hlen]) (fun i h1 h2 => ?_)
    have hi : i < 6 := by omega
    simp only [List.getElem_map, upTo, List.getElem_range, hwords i hi, pw]
    rw [List.getD_eq_getElem?_getD, List.getElem?_eq_getElem h2]
    rfl
  have h0 : hdrLength (tget (tget (s.lane fn k).slots n { words := [], committed := false }).words 0 0) = 6 := by
    rw [hwords 0 (by omega)]
    exact hfield
  unfold nextPacket
  simp only [hmode, horder, h0]
  exact congrArg (fun l => some (l, _)) hws

theorem nextPacket_pulled {fn k : Nat} {rest : List (List Word)} {ws : List Word} {s : State} (hmode : (s.lane fn k).mode = true)
    (hpulled : (s.lane fn k).pulled = ws :: rest) :
    nextPacket fn k s =
      let c := ((s.lane fn k).consumer + 1) % 2 ^ (s.lane fn k).pullLog2
      let u := s.modLane fn k (fun l => { l with pulled := rest, consumer := c })
      some (ws, if rest = [] then u.hostWrite (s.lane fn k).consAddr (leBytes 4 c) else u) := by
  unfold nextPacket
  simp only [hmode, hpulled, if_true, List.isEmpty_iff]

/-- Settles O34: a word, a poll, and a packet taken from a slot or from a ring. -/
theorem packetsEnterLanes : Obligations.PacketsEnterLanes := by
  refine ⟨fun fn k n i off v s hs hfn hoff hen hmode => ?_, fun fn k s hs hm hen hmode hpulled hcons => ?_,
    fun fn k s ws => ?_⟩
  · have ho : SlotWord off k n i := ⟨hoff, k.isLt, n.isLt, i.isLt⟩
    refine ⟨_, exec_pushWindowWrite hs hfn ho, ?_⟩
    rw [busyTouched_one ho hen hmode]
    have hlane (m : Nat) : (count (devCtr 6) m s).lane fn k = s.lane fn k :=
      lane_of_host (congrArg HostSide.lanes ((count_same _ _ s).host (by simp))) _ _
    extract_lets l sl whole
    refine ⟨fun hc => ?_, fun hc => ⟨slotWhole (tset sl.words i v), slotWhole_iff _, ?_⟩⟩
    · have ht : pushWord fn k n i v (count (devCtr 6) (b2n sl.committed) s) = count (devCtr 6) 1 s := by
        rw [hc, pushWord_eq (by rw [hlane]; exact hen) (by rw [hlane]; exact hmode), hlane]
        exact if_pos hc
      rw [ht]
      exact ⟨counter_count _ _ s (by decide), count_same _ _ s⟩
    · have h0 : count (devCtr 6) 0 s = s := rfl
      rw [hc, show b2n false = 0 from rfl, h0, pushWord_eq hen hmode]
      exact (if_neg (by rw [hc]; simp)).trans rfl
  · intro l prod a len
    have hfind (m : Nat) (hm : (prod + 2 ^ l.pullLog2 - l.consumer) % 2 ^ l.pullLog2 = m) : s.pollFinds fn k =
        (upTo m).map (fun i => s.entryWords (l.pullBase + 1024 * ((l.consumer + i) % 2 ^ l.pullLog2))) := by
      rw [← hm]
      rfl
    refine ⟨fun heq => ⟨_, exec_pullRingPoll hs hm hen hmode hpulled, ?_⟩, fun hne hnext => ⟨_, exec_pullRingPoll hs hm hen hmode hpulled, ?_⟩⟩
    · rw [hfind 0 ((ring_distance hcons (Nat.mod_lt _ (Nat.two_pow_pos _))).2 heq)]
      rfl
    · rw [hfind 1 (by rw [hnext]; exact ring_next hcons (by rw [← hnext]; exact hne))]
      have hone : (upTo 1).map (fun i => s.entryWords (l.pullBase + 1024 * ((l.consumer + i) % 2 ^ l.pullLog2))) =
          [s.entryWords a] := by
        show [s.entryWords (l.pullBase + 1024 * ((l.consumer + 0) % 2 ^ l.pullLog2))] = _
        rw [Nat.add_zero, Nat.mod_eq_of_lt hcons]
      rw [hone]
      rfl
  · intro h hlen hfield hop hres ht
    have hp : NopPacket fn k ws := ⟨hlen, hfield, hop, hres⟩
    have htakes : s.laneTakes fn.val k.val = true := ht.2.1
    refine ⟨fun n rest hmode horder hwords => ⟨_, exec_packetTake htakes, ?_⟩, fun rest hmode hpulled => ?_⟩
    · rw [packetTake_nop hp (nextPacket_slot hlen hfield hmode horder hwords)]
      refine take_nop (takenAtOnce_modLane ht ?_ _ _)
      exact fun _ => ⟨rfl, rfl, rfl, rfl⟩
    · intro c u
      refine ⟨_, exec_packetTake htakes, ?_⟩
      have hu : TakenAtOnce 0 h [] u := by
        refine takenAtOnce_modLane ht ?_ _ _
        exact fun _ => ⟨rfl, rfl, rfl, rfl⟩
      rw [packetTake_nop hp (nextPacket_pulled hmode hpulled)]
      split
      · exact take_nop (takenAtOnce_hostWrite hu _ _)
      · exact take_nop hu

end Sys2Proof.Machine
end

section
/-! PROOF. Commands that waited are begun (R277, R278). -/

namespace Sys2Proof.Machine

open Sys2Proof.Safety

/-! ## A final reply of any command under way -/

/-- A reply to an enabled ring is held for it; the trace notes it (R280, R281). -/
theorem answer_ringOn {h : Hdr} {op st : Nat} {payload : List Word} {s : State} (hr : s.ringOn h = true) :
    ∃ x, answer h op st payload s =
      { (s.modLane h.fn.val h.queue.toNat (fun l => { l with held := l.held ++ [replyOf h op st payload s] })) with trace := x } := by
  unfold answer reply
  rw [if_pos hr]
  exact traceOnly_eq _ _ _ _ _ _ _ _ _

/-- The machine t is u without the command c, whose final reply its ring holds: nothing else of u has changed but the trace. -/
def FinishedReply (c : Cmd) (st : Nat) (payload : List Word) (u t : State) : Prop :=
  t.host = (u.modLane c.h.fn.val c.h.queue.toNat (fun l => { l with held := l.held ++ [replyOf c.h c.op st payload u] })).host ∧
  t.pre = { u.pre with cmds := u.pre.cmds.filter (fun x => x.id ≠ c.id) } ∧ SameBut [.host, .pre, .trace] u t

theorem finish_found {c : Cmd} {st : Nat} {payload : List Word} {u : State} (hfind : u.cmd? c.id = some c)
    (hr : u.ringOn c.h = true) : FinishedReply c st payload u (finish c.id st payload u) := by
  obtain ⟨x, hx⟩ := answer_ringOn (h := c.h) (op := c.op) (st := st) (payload := payload) (s := dropCmd c.id u) hr
  unfold finish
  rw [hfind]
  simp only [hx]
  refine ⟨rfl, rfl, ?_⟩
  intro p hp; cases p <;> first | rfl | simp at hp

/-! ## Commands that end as they are begun -/

/-- A NOP that is begun gets its reply. -/
theorem startCmd_nop {c : Cmd} {s : State} (hop : c.op = 0) (hfind : s.cmd? c.id = some c) (hr : s.ringOn c.h = true)
    (hp : s.power.state = 0) (hc : s.power.refclkLost = false) :
    let t := startCmd performAny c s
    t.host = (s.modLane c.h.fn.val c.h.queue.toNat (fun l => { l with held := l.held ++ [replyOf c.h 0 stOk [] s] })).host ∧
    t.pre = { s.pre with
      cmds := (s.pre.cmds.map (fun x => if x.id = c.id then { x with wait := .running } else x)).filter (fun x => x.id ≠ c.id) } ∧ SameBut [.host, .pre, .trace] s t := by
  intro t
  have ht : t = finish c.id stOk [] (setWait c.id .running s) := by
    unfold t
    rw [startCmd_now _ _ _ hp hc]
    unfold performAny
    rw [hop]
    rfl
  have hfind' : (setWait c.id .running s).cmd? ({ c with wait := .running } : Cmd).id = some { c with wait := .running } := by
    unfold State.cmd? at hfind ⊢
    have hid : ∀ l : List Cmd, l.find? (fun x => x.id == c.id) = some c →
        (l.map (fun x => if x.id = c.id then { x with wait := CmdWait.running } else x)).find? (fun x => x.id == c.id) =
          some { c with wait := .running } := by
      intro l hl
      induction l with
      | nil => exact nomatch hl
      | cons x l ih =>
        by_cases hx : x.id = c.id
        · have : x = c := by simpa [hx] using hl
          subst this
          simp
        · have hl' : l.find? (fun x => x.id == c.id) = some c := by simpa [hx] using hl
          simp [hx]
          simpa using ih hl'
    exact hid _ hfind
  have hfin := finish_found (c := { c with wait := .running }) (st := stOk) (payload := []) hfind' (by exact hr)
  obtain ⟨hhost, hpre, hsame⟩ := hfin
  rw [ht]
  refine ⟨?_, hpre, ((modPre_same _ s).mono (by simp)).trans hsame⟩
  have h0 := hhost
  simp only [hop] at h0
  exact h0

/-! ## At-tick -/

theorem applyDue_idle {s : State} (h : s.pre.pending = []) (fuel p : Nat) : applyDue fuel p s = s := by
  cases fuel with
  | zero => rfl
  | succ k =>
    unfold applyDue
    rw [h]
    rfl

theorem each_applyDue_idle {s : State} (h : s.pre.pending = []) (l : List Nat) : each l (applyDue 4) s = s := by
  induction l with
  | nil => rfl
  | cons p l ih => rw [each_cons, applyDue_idle h, ih]

theorem exec_atTickDue {s : State} (hs : Serving s) (hpend : s.pre.pending = []) : exec .atTickDue s = .next
    (match s.dueCmd? with
      | some c => startCmd performAny c s
      | none => s) := by
  unfold exec execAtTickDue ifDue
  simp only [served_of hs, each_applyDue_idle hpend]
  rfl

/-- Of two commands whose tick has come the one due first is begun, on a tie the one taken first. -/
theorem dueCmd?_two {s : State} {a b : Cmd} (hcmds : s.pre.cmds = [a, b]) (ha : a.wait = .atTick) (hb : b.wait = .atTick)
    (hopa : a.op = 0) (hopb : b.op = 0) (hda : a.h.atTick.toNat ≤ s.tb.tick) (hdb : b.h.atTick.toNat ≤ s.tb.tick) :
    s.dueCmd? = some (if b.h.atTick.toNat < a.h.atTick.toNat then b else a) := by
  have hra : s.reached a.h.atTick.toNat = true := decide_eq_true hda
  have hrb : s.reached b.h.atTick.toNat = true := decide_eq_true hdb
  unfold State.dueCmd?
  rw [hcmds]
  simp only [List.filter_cons, List.filter_nil, ha, hb, hopa, hopb, hra, hrb]
  by_cases h : b.h.atTick.toNat < a.h.atTick.toNat
  · simp [sortBy, insertBy, h]
  · simp [sortBy, insertBy, h]

/-! ## FENCE -/

/-- The lane of the only command is quiet when no final reply of it is owed (R277). -/
theorem laneQuiet_iff {fn : Fin 32} {k : Fin 16} {s : State} {c : Cmd} (hcmds : s.pre.cmds = [c]) :
    s.laneQuiet fn k c.id = true ↔ ¬ ∃ j, j < 16 ∧ ∃ r ∈ (s.lane fn j).held, r.final = true ∧ r.lane = k.val := by
  unfold State.laneQuiet
  rw [hcmds]
  simp [mem_upTo]
  exact forall₂_congr (fun j _ => forall₂_congr (fun r _ => by cases r.final <;> simp))

theorem exec_fenceRelease {fn : Fin 32} {k : Fin 16} {s : State} {id : Nat} (hwait : (s.lane fn k).fenceWait = some id) :
    exec (.fenceRelease fn k) s = ifDue (s.served && s.laneQuiet fn k id) (fun s =>
      let u := s.modLane fn k (fun l => { l with fenceWait := none })
      match u.cmd? id with
      | some c => proceed performAny c u
      | none => u) s := by
  show (match (s.lane fn.val k.val).fenceWait with | some id => _ | none => _) = _
  rw [hwait] <;> rfl

/-- Settles O35: at-ticks that have come, none, and a FENCE. -/
theorem waitingCommandsAreBegun : Obligations.WaitingCommandsAreBegun := by
  refine ⟨fun s a b hs hpend hcmds hne hrun ha hb hopa hopb hda hdb hp href hra hrb => ?_, fun s hs hpend hcmds => ?_,
    fun fn k s c hs hwait hcmds hfn hk hcw hop hat hp href hr => ?_⟩
  · intro replies
    have hgo : exec .atTickDue s = .next (startCmd performAny (if b.h.atTick.toNat < a.h.atTick.toNat then b else a) s) := by
      rw [exec_atTickDue hs hpend, dueCmd?_two hcmds ha hb hopa hopb hda hdb]
    refine ⟨fun hle => ?_, fun hlt => ?_⟩
    · rw [if_neg (Nat.not_lt.2 hle)] at hgo
      obtain ⟨hhost, hpre, hsame⟩ := startCmd_nop hopa (by unfold State.cmd?; rw [hcmds]; simp) hra hp href
      refine ⟨_, hgo, hhost, ?_, hsame⟩
      rw [hpre, hcmds]
      simp [hne.symm]
    · rw [if_pos hlt] at hgo
      obtain ⟨hhost, hpre, hsame⟩ := startCmd_nop hopb (by unfold State.cmd?; rw [hcmds]; simp [hne]) hrb hp href
      refine ⟨_, hgo, hhost, ?_, hsame⟩
      rw [hpre, hcmds]
      simp [hne]
  · rw [exec_atTickDue hs hpend]
    unfold State.dueCmd?
    rw [hcmds]
    rfl
  · have hgo := exec_fenceRelease hwait
    refine ⟨fun howed => ?_, fun hquiet => ?_⟩
    · rw [hgo, ifDue_not]
      rw [served_of hs, Bool.true_and, Bool.eq_false_iff]
      exact fun h => (laneQuiet_iff hcmds).1 h howed
    · rw [ifDue_of (by rw [served_of hs, (laneQuiet_iff hcmds).2 hquiet]; rfl)] at hgo
      have hfind : (s.modLane fn k (fun l => { l with fenceWait := none })).cmd? c.id = some c := by
        show s.cmd? c.id = some c
        unfold State.cmd?
        rw [hcmds]
        simp
      simp only [hfind] at hgo
      rw [proceed_now _ _ _ (by rw [hat]; exact Nat.zero_le _)] at hgo
      have hring : (s.modLane fn k (fun l => { l with fenceWait := none })).ringOn c.h = true := by
        have he := lane_modLane_field Lane.replyEnable (g := fun l => { l with fenceWait := none }) (fun _ => rfl) fn k c.h.fn
          c.h.queue.toNat s
        unfold State.ringOn at hr ⊢
        rw [he]
        exact hr
      obtain ⟨hhost, hpre, hsame⟩ := startCmd_nop (s := s.modLane fn k (fun l => { l with fenceWait := none })) hop hfind hring hp href
      refine ⟨_, hgo, ?_, ?_, ?_⟩
      · rw [hfn] at hhost
        exact hhost
      · rw [hpre]
        show ({ s.pre with cmds := (s.pre.cmds.map _).filter _ } : Preoft) = _
        rw [hcmds]
        simp
      · have hlane : SameBut [.host, .pre, .trace] s (s.modLane fn k (fun l => { l with fenceWait := none })) := by
          intro p hp; cases p <;> first | rfl | simp at hp
        exact hlane.trans hsame

end Sys2Proof.Machine
end

section
/-! PROOF. Refused packets (R285, R286): the physical function needs no partition bound to it. -/

namespace Sys2Proof.Machine

open Sys2Proof.Safety

/-- The device after start-up: READY, partition 0 disabled, so that no partition is bound to the physical function; lane 0 and its
reply ring enabled, level 2. -/
def unboundDevice : State :=
  { State.reset with
    power := { Power.start with startup := .none, ready := true }
    pre := { State.reset.pre with regs := [(0x600, 0)] }
    host := { HostSide.start with
      configServed := true, level := [(0, 2)], lanes := [(0, { Lane.start with enable := true, replyEnable := true })] } }

/-- A header of the physical function at level 2. -/
def unboundHdr : Hdr :=
  { fn := 0, lane := 0, level := 2, fence := false, irq := false, tag := 7, partition := 0, queue := 0, atTick := 0 }

/-- A TICK_READ with a word too many passes the checks of level and issuer, and fails that of its length. -/
theorem firstFail_unbound : firstFail unboundHdr 0x503 [0] true true unboundDevice = some stBadLength := by decide

/-- Refutes O43: the physical function, at level 2 and bound to no partition, may issue every opcode; its TICK_READ with a payload
word gets BAD_LENGTH, not SECURITY. -/
theorem not_refusedCommandsOnlyReply : ¬ Obligations.RefusedCommandsOnlyReply := by
  unfold Obligations.RefusedCommandsOnlyReply
  intro hall
  obtain ⟨hfail, -⟩ := hall (.tickRead unboundHdr [0]) 0x503 unboundHdr [0] unboundDevice rfl (by decide) (by decide)
  obtain ⟨t, -, -, -, hsecurity, -⟩ := hfail stBadLength (by decide) firstFail_unbound
  exact absurd (hsecurity (by decide) (by decide) (by decide) (by decide)) (by decide)

end Sys2Proof.Machine
end

section
/-! PROOF. Staged commands (R291, R292, R300): what their check reads, the set they join, and a model that is retired (R130). -/

namespace Sys2Proof.Machine

open Sys2Proof.Safety

/-- The machine with another list of commands, next number and trace. -/
def State.noting (s : State) (cs : List Cmd) (n : Nat) (x : Trace) : State :=
  { s with pre := { s.pre with cmds := cs, nextCmd := n }, trace := x }

section
variable (s : State) (cs : List Cmd) (n : Nat) (x : Trace)

theorem each_noting {α : Type} {f : α → State → State} (h : ∀ a u, f a (u.noting cs n x) = (f a u).noting cs n x) (l : List α)
    (s : State) : each l f (s.noting cs n x) = (each l f s).noting cs n x := by
  induction l generalizing s with
  | nil => rfl
  | cons a l ih => rw [each_cons, each_cons, h, ih]

theorem stagedView_noting (p : Nat) : (s.noting cs n x).stagedView p = (s.stagedView p).noting cs n x := by
  unfold State.stagedView
  refine Eq.trans ?_ (each_noting cs n x (fun _ _ => rfl) _ _)
  exact congrArg (each _ _) (each_noting cs n x (fun _ _ => rfl) _ s)

theorem ingestStaged_noting : (s.noting cs n x).ingestStaged = s.ingestStaged.noting cs n x := by
  unfold State.ingestStaged
  refine each_noting cs n x (fun a u => ?_) _ s
  split
  · rfl
  · split <;> rfl

theorem modelCheck_noting (st b : Bool) (k : Kernel) : modelCheck (s.noting cs n x) st b k = modelCheck s st b k := by
  unfold modelCheck
  cases st
  · rfl
  · simp only [if_true, stagedView_noting]
    rfl

theorem checkBind_noting (p : Nat) (w : List Word) : checkBind (s.noting cs n x) p w = checkBind s p w := by
  unfold checkBind
  simp only [stagedView_noting, modelCheck_noting]
  rfl

/-- The check of a staged command does not look at the commands under way. -/
theorem stageCheck_noting (p op : Nat) (w : List Word) : stageCheck (s.noting cs n x) p op w = stageCheck s p op w := by
  unfold stageCheck
  simp only [checkBind_noting, ingestStaged_noting]
  split <;> rfl

end

/-- A command that is noted leaves the machine but for that. -/
theorem entered_noting (op : Nat) (h : Hdr) (w : List Word) (s : State) :
    ∃ x, entered op h w s = s.noting (s.pre.cmds ++ [taken op h w s]) (s.pre.nextCmd + 1) x :=
  entered_eq op h w s

theorem stageCheck_entered (op : Nat) (h : Hdr) (v : List Word) (s : State) (p q : Nat) (w : List Word) :
    stageCheck (entered op h v s) p q w = stageCheck s p q w := by
  obtain ⟨x, hx⟩ := entered_noting op h v s
  rw [hx, stageCheck_noting]

/-! ## Commands whose effect is on the machine but for what notes them -/

section
variable {op st : Nat} {h : Hdr} {w payload : List Word} {s u : State}

/-- A command that ends at once: its effect and its reply. -/
theorem replied_finish_noting (ht : TakenAtOnce op h w s) (hc : u.pre.cmds = s.pre.cmds) (hn : u.pre.nextCmd = s.pre.nextCmd)
    (hring : u.ringOn h = true) (x : Trace) : Replied h op st payload u
      (finish (taken op h w s).id st payload (u.noting (s.pre.cmds ++ [taken op h w s]) (s.pre.nextCmd + 1) x)) := by
  have hsame : SameBut [.host, .pre, .trace] u (u.noting (s.pre.cmds ++ [taken op h w s]) (s.pre.nextCmd + 1) x) := by
    intro p hp; cases p <;> first | rfl | simp at hp
  refine replied_of_finish (v := u.noting (s.pre.cmds ++ [taken op h w s]) (s.pre.nextCmd + 1) x) ht ?_ hc hring rfl rfl hsame rfl
  rw [hn]
  rfl

/-- A command that goes on waits as it is told. -/
theorem underWay_setWait (ht : TakenAtOnce op h w s) (hc : u.pre.cmds = s.pre.cmds) (hn : u.pre.nextCmd = s.pre.nextCmd) (wait : CmdWait)
    (x : Trace) : UnderWay op h w wait s u
      (setWait (taken op h w s).id wait (u.noting (s.pre.cmds ++ [taken op h w s]) (s.pre.nextCmd + 1) x)) := by
  obtain ⟨-, -, -, -, -, -, -, -, hfresh⟩ := ht
  have hold : s.pre.cmds.map (fun c => if c.id = (taken op h w s).id then { c with wait := wait } else c) = s.pre.cmds := by
    refine (List.map_congr_left (g := id) (fun c hcm => ?_)).trans (List.map_id _)
    have := hfresh c hcm
    exact if_neg (Nat.ne_of_lt this)
  refine ⟨?_, ?_⟩
  · unfold setWait State.noting
    simp only [State.modPre, List.map_append, hold, List.map_cons, List.map_nil, if_true]
    rw [hc, hn]
  · intro p hp; cases p <;> first | rfl | simp at hp

end

/-! ## The set a command joins -/

@[simp] theorem taken_op (op : Nat) (h : Hdr) (w : List Word) (s : State) : (taken op h w s).op = op := rfl
@[simp] theorem taken_h (op : Nat) (h : Hdr) (w : List Word) (s : State) : (taken op h w s).h = h := rfl
@[simp] theorem taken_w (op : Nat) (h : Hdr) (w : List Word) (s : State) : (taken op h w s).w = w := rfl
@[simp] theorem taken_id (op : Nat) (h : Hdr) (w : List Word) (s : State) : (taken op h w s).id = s.pre.nextCmd := rfl

/-- The object of an earlier change of a set gives way. -/
def State.othersOf (s : State) (n op : Nat) (w : List Word) : List Staged :=
  (s.openSet n).cmds.filter (fun x => objectOf x.op x.w ≠ objectOf op w)

/-- The machine with a command put in an open set. -/
def State.joined (s : State) (n op : Nat) (h : Hdr) (w : List Word) (keep : Option Nat) : State :=
  { s with pre := { s.pre with
    sets := tset s.pre.sets n { s.openSet n with cmds := s.othersOf n op w ++ [{ h := h, op := op, w := w, cmd := keep }] } } }

/-- The number of the set an opcode's commands join. -/
def setNo (op p : Nat) : Nat := if op = 0x600 ∨ op = 0x601 ∨ op = 0xB00 then 8 else p

theorem setOf_taken (op : Nat) (h : Hdr) (w : List Word) (s : State) : setOf (taken op h w s) = setNo op h.partition.toNat := by
  unfold setOf setNo taken
  simp [or_assoc]

/-- Replies that end with their set: none of a set without closings. -/
theorem each_finishOpt_none {st : Nat} {l : List Staged} (hl : ∀ x ∈ l, x.cmd = none) (s : State) :
    each l (fun x t => finishOpt x.cmd st [] t) s = s := by
  induction l with
  | nil => rfl
  | cons a l ih =>
    obtain ⟨ha, hr⟩ := List.forall_mem_cons.1 hl
    rw [each_cons, ha]
    exact ih hr

section
variable {op : Nat} {h : Hdr} {w payload : List Word} {s : State}

/-- A checked command joins its set with its reply, or keeps it for the end of its flow. -/
theorem stage_joins (hroom : (s.othersOf (setNo op h.partition.toNat) op w).length < 1024)
    (hnone : ∀ x ∈ (s.openSet (setNo op h.partition.toNat)).cmds, x.cmd = none) : ∃ x,
    stage (taken op h w s) payload (entered op h w s) =
      if op = 0x202 then setWait (taken op h w s).id .staged
        ((s.joined (setNo op h.partition.toNat) op h w (some s.pre.nextCmd)).noting (s.pre.cmds ++ [taken op h w s]) (s.pre.nextCmd + 1) x)
      else finish (taken op h w s).id stOk payload
        ((s.joined (setNo op h.partition.toNat) op h w none).noting (s.pre.cmds ++ [taken op h w s]) (s.pre.nextCmd + 1) x) := by
  obtain ⟨x, hx⟩ := entered_noting op h w s
  refine ⟨x, ?_⟩
  rw [hx]
  have hopen (n : Nat) : (s.noting (s.pre.cmds ++ [taken op h w s]) (s.pre.nextCmd + 1) x).openSet n = s.openSet n := rfl
  have hroom' : ¬ 1024 ≤ ((s.openSet (setNo op h.partition.toNat)).cmds.filter
      (fun y => objectOf y.op y.w ≠ objectOf (taken op h w s).op (taken op h w s).w)).length := Nat.not_le.2 hroom
  unfold stage
  simp only [setOf_taken, hopen]
  rw [if_neg hroom', each_finishOpt_none (fun y hy => hnone y (List.mem_filter.1 hy).1)]
  by_cases hop : op = 0x202
  · have hk : ((taken op h w s).op == 0x202) = true := by simpa [taken] using hop
    rw [hk, if_pos hop]
    rfl
  · have hk : ((taken op h w s).op == 0x202) = false := by simpa [taken] using hop
    rw [hk, if_neg hop]
    rfl

end

/-- The opcodes whose commands only join a set. -/
def stagedOps : List Nat := [0x105, 0x201, 0x302, 0x501, 0x502, 0x600, 0x601, 0xB00, 0xB01]

theorem performAny_staged {op : Nat} {h : Hdr} {w : List Word} {s : State} (hop : op ∈ 0x202 :: stagedOps) (u : State) :
    performAny (taken op h w s) u = performStaged (taken op h w s) [] u := by
  simp only [stagedOps, List.mem_cons, List.not_mem_nil, or_false] at hop
  obtain rfl | rfl | rfl | rfl | rfl | rfl | rfl | rfl | rfl | rfl := hop <;> rfl

section
variable {op st : Nat} {h : Hdr} {w payload : List Word} {s : State}

/-- A staged command that fails its check. -/
theorem performStaged_fails (ht : TakenAtOnce op h w s) (hst : stageCheck s h.partition.toNat op w = some st) :
    Replied h op st [] s (performStaged (taken op h w s) payload (entered op h w s)) := by
  have hcheck := (stageCheck_entered op h w s h.partition.toNat op w).trans hst
  unfold performStaged
  simp only [taken_h, taken_op, taken_w, hcheck]
  exact replied_finish_entered ht st []

theorem performStaged_passes (hst : stageCheck s h.partition.toNat op w = none) :
    performStaged (taken op h w s) payload (entered op h w s) = stage (taken op h w s) payload (entered op h w s) := by
  have hcheck := (stageCheck_entered op h w s h.partition.toNat op w).trans hst
  unfold performStaged
  simp only [taken_h, taken_op, taken_w, hcheck]

theorem ringOn_joined (ht : TakenAtOnce op h w s) (n : Nat) (keep : Option Nat) : (s.joined n op h w keep).ringOn h = true := ht.2.2.1

/-- A command that joins its set gets its reply. -/
theorem stage_replied (ht : TakenAtOnce op h w s) (hop : op ≠ 0x202)
    (hroom : (s.othersOf (setNo op h.partition.toNat) op w).length < 1024)
    (hnone : ∀ x ∈ (s.openSet (setNo op h.partition.toNat)).cmds, x.cmd = none) :
    Replied h op stOk payload (s.joined (setNo op h.partition.toNat) op h w none)
      (stage (taken op h w s) payload (entered op h w s)) := by
  obtain ⟨x, hx⟩ := stage_joins (h := h) (payload := payload) hroom hnone
  rw [hx, if_neg hop]
  have hring := ringOn_joined ht (setNo op h.partition.toNat) none
  exact replied_finish_noting (u := s.joined (setNo op h.partition.toNat) op h w none) ht rfl rfl hring x

/-- A change of a model in both machines of a reply. -/
theorem replied_modModel {u t : State} (hr : Replied h op st payload u t) (p id : Nat) (g : Model → Model) :
    Replied h op st payload (modModel p id g u) (modModel p id g t) := by
  obtain ⟨hhost, hpre, hsame⟩ := hr
  refine ⟨hhost, ?_, fun q hq => ?_⟩
  · unfold modModel State.modPre
    simp only [hpre]
  · have := hsame q hq
    cases q <;> first | exact this | simp at hq

/-- MODEL_COMMIT marks its model staged. -/
theorem performModelCommit_joins (ht : TakenAtOnce 0x103 h w s) (hst : stageCheck s h.partition.toNat 0x103 w = none)
    (hroom : (s.othersOf h.partition.toNat 0x103 w).length < 1024) (hnone : ∀ x ∈ (s.openSet h.partition.toNat).cmds, x.cmd = none) :
    Replied h 0x103 stOk [] (modModel h.partition.toNat (pq w 0) (fun m => if m.state = 0 then { m with state := 1 } else m)
      (s.joined h.partition.toNat 0x103 h w none)) (performModelCommit (taken 0x103 h w s) (entered 0x103 h w s)) := by
  have hcheck := (stageCheck_entered 0x103 h w s h.partition.toNat 0x103 w).trans hst
  have hreply := stage_replied (payload := []) ht (by decide) hroom hnone
  have hstaged : (stage (taken 0x103 h w s) [] (entered 0x103 h w s)).stagedAny h.partition.toNat
      (fun x => x.op == 0x103 && pq x.w 0 == pq w 0) = true := by
    have hset : (stage (taken 0x103 h w s) [] (entered 0x103 h w s)).openSet h.partition.toNat =
        { s.openSet h.partition.toNat with
          cmds := s.othersOf h.partition.toNat 0x103 w ++ [{ h := h, op := 0x103, w := w, cmd := none }] } := by
      unfold State.openSet
      rw [hreply.2.1]
      exact tget_tset_same ..
    unfold State.stagedAny
    rw [hset]
    simp
  unfold performModelCommit
  simp only [taken_h, taken_op, taken_w, hcheck, hstaged, if_true]
  exact replied_modModel hreply _ _ _

/-- What the reply of a command leaves of the machine its performance made. -/
theorem finish_changed (ht : TakenAtOnce op h w s) {v : State} (hcmds : v.pre.cmds = s.pre.cmds ++ [taken op h w s])
    (hhost : v.host = s.host) (htb : v.tb = s.tb) :
    let t := finish (taken op h w s).id st payload v
    t.host = (s.modLane h.fn.val h.queue.toNat (fun l => { l with held := l.held ++ [replyOf h op st payload s] })).host ∧
    t.pre = { v.pre with cmds := s.pre.cmds } ∧ SameBut [.host, .pre, .trace] v t := by
  obtain ⟨-, -, hring, -, -, -, -, -, hfresh⟩ := ht
  have hr : v.ringOn h = true := by
    simpa [State.ringOn, State.lane, hhost] using hring
  obtain ⟨x, hx⟩ := finish_last (c := taken op h w s) (st := st) (payload := payload) hcmds hfresh hr
  have hrep : replyOf h op st payload v = replyOf h op st payload s := by
    simp [replyOf, replyWords, State.tick, htb]
  rw [hx]
  refine ⟨?_, rfl, ?_⟩
  · simp only [taken, hrep, State.modLane, State.lane, hhost]
  · intro p hp; cases p <;> first | rfl | simp at hp

end

/-! ## A model that is retired -/

/-- A tile that holds weights without an owner is erased at once where nothing else runs. -/
theorem eraseOwed_idle {c t : Nat} {s : State} (hstate : (s.tile c t).state = .held) (howner : (s.tile c t).owner = none)
    (hjob : (s.tile c t).job = none) (ht : t ≠ 32) (hrun : s.running = []) (hwait : s.waiting = []) :
    eraseOwed c t s = beginAct (actTile 3 1 c t (s.actPart c) none)
      (s.modTile c t (fun v => { v with job := some .erase, owner := none })) := by
  unfold eraseOwed askErase
  rw [if_pos (by simp [hstate, howner, hjob, ht])]
  exact askAuto_idle _ hrun hwait

/-- The machine without a model, its one held tile released and its erase begun. -/
theorem releaseHeld_one {m : Model} {r : TileRecord} {s : State} (hrec : m.records = [r])
    (hstate : (s.tile r.core r.tile).state = .held) (howner : (s.tile r.core r.tile).owner = some (m.part, m.id))
    (hjob : (s.tile r.core r.tile).job = none) (ht : r.tile ≠ 32) (hrun : s.running = []) (hwait : s.waiting = []) :
    releaseHeld m [] s = (1, beginAct (actTile 3 1 r.core r.tile (s.actPart r.core) none)
      ((s.modTile r.core r.tile (fun v => { v with owner := none })).modTile r.core r.tile
        (fun v => { v with job := some .erase, owner := none }))) := by
  unfold releaseHeld
  rw [hrec]
  simp only [List.filter_cons, List.filter_nil, hstate, howner, beq_self_eq_true, Bool.true_and, List.any_nil, Bool.not_false, if_true]
  rw [each_cons, each_nil, eraseOwed_idle (s := s.modTile r.core r.tile (fun v => { v with owner := none })) (by rw [tile_modTile_same]; exact hstate) (by rw [tile_modTile_same])
    (by rw [tile_modTile_same]; exact hjob) ht hrun hwait]
  rfl

section
variable {h : Hdr} {w : List Word} {s : State} {m : Model}

theorem model?_found {s : State} {p id : Nat} (hm : s.model? p id = some m) : m.part = p ∧ m.id = id := by
  have h := List.find?_some hm
  simpa using h

/-- MODEL_RETIRE of a model that is loaded and not staged is staged where the model is committed, and releases its tiles at once
where it is held. -/
theorem performModelRetire_loaded (hm : s.model? h.partition.toNat (pq w 0) = some m) (hload : m.loading = none)
    (hstaged : s.stagedAny h.partition.toNat (fun x => x.op == 0x103 && pq x.w 0 == pq w 0) = false) :
    performModelRetire (taken 0x104 h w s) (entered 0x104 h w s) =
      if m.state = 2 then stage (taken 0x104 h w s) [0] (entered 0x104 h w s)
      else
        let x := releaseHeld m [] ((entered 0x104 h w s).modPre (fun y => { y with
          models := y.models.filter (fun k => !(k.part == h.partition.toNat && k.id == pq w 0)) }))
        finish (taken 0x104 h w s).id stOk [w32 x.1] x.2 := by
  obtain ⟨x, hx⟩ := entered_noting 0x104 h w s
  have hm' : (entered 0x104 h w s).model? h.partition.toNat (pq w 0) = some m := by rw [hx]; exact hm
  have hs' : (entered 0x104 h w s).stagedAny h.partition.toNat (fun x => x.op == 0x103 && pq x.w 0 == pq w 0) = false := by
    rw [hx]; exact hstaged
  unfold performModelRetire
  simp only [taken_h, taken_w, hm', hs', hload, Option.isSome_none, Bool.or_self, Bool.false_eq_true, if_false]

/-- The machine from which the held tile of a retired model is released. -/
def retiredModel (h : Hdr) (w : List Word) (s : State) : State :=
  (entered 0x104 h w s).modPre (fun y => { y with
    models := y.models.filter (fun k => !(k.part == h.partition.toNat && k.id == pq w 0)) })

theorem retiredModel_same (h : Hdr) (w : List Word) (s : State) : SameBut [.pre, .trace] s (retiredModel h w s) :=
  (entered_same 0x104 h w s).trans ((modPre_same _ _).mono (by simp))

/-- What MODEL_RETIRE leaves of a held model with one held tile. -/
theorem completes_modelRetire_held {r : TileRecord} (ht : TakenAtOnce 0x104 h w s)
    (hm : s.model? h.partition.toNat (pq w 0) = some m) (hload : m.loading = none)
    (hstaged : s.stagedAny h.partition.toNat (fun x => x.op == 0x103 && pq x.w 0 == pq w 0) = false) (hst : m.state ≠ 2)
    (hrec : m.records = [r]) (hstate : (s.tile r.core r.tile).state = .held)
    (howner : (s.tile r.core r.tile).owner = some (h.partition.toNat, pq w 0)) (hjob : (s.tile r.core r.tile).job = none)
    (h32 : r.tile ≠ 32) (hrun : s.running = []) (hwait : s.waiting = []) :
    let t := performModelRetire (taken 0x104 h w s) (entered 0x104 h w s)
    t.model? h.partition.toNat (pq w 0) = none ∧ (t.tile r.core r.tile).owner = none ∧ (t.tile r.core r.tile).job = some .erase ∧
    t.running = [actTile 3 1 r.core r.tile (s.corePartNo r.core) none] ∧
    t.host = (s.modLane h.fn h.queue.toNat (fun l => { l with held := l.held ++ [replyOf h 0x104 stOk [1] s] })).host ∧
    SameBut [.host, .pre, .tiles, .running, .trace] s t := by
  intro t
  obtain ⟨hpart, hid⟩ := model?_found hm
  have hsame := retiredModel_same h w s
  have htile : (retiredModel h w s).tile r.core r.tile = s.tile r.core r.tile := hsame.tile (by simp) _ _
  have hpre : (retiredModel h w s).pre.cmds = s.pre.cmds ++ [taken 0x104 h w s] := by
    obtain ⟨x, hx⟩ := entered_noting 0x104 h w s
    unfold retiredModel
    rw [hx]
    rfl
  have hact : (retiredModel h w s).actPart r.core = s.corePartNo r.core := by
    obtain ⟨x, hx⟩ := entered_noting 0x104 h w s
    unfold retiredModel
    rw [hx]
    rfl
  have hrelease := releaseHeld_one (s := retiredModel h w s) hrec (by rw [htile]; exact hstate)
    (by rw [htile, hpart, hid]; exact howner) (by rw [htile]; exact hjob) h32 (by rw [hsame.running (by simp)]; exact hrun)
    ((hsame .waiting (by simp)).trans hwait)
  rw [hact] at hrelease
  generalize hv : (retiredModel h w s).modTile r.core r.tile (fun v => { v with owner := none }) = v1 at hrelease
  have hvsame : SameBut [.tiles] (retiredModel h w s) v1 := hv ▸ modTile_same _ _ _ _
  generalize hw2 : v1.modTile r.core r.tile (fun v => { v with job := some .erase, owner := none }) = v2 at hrelease
  have hv2 : SameBut [.tiles] v1 v2 := hw2 ▸ modTile_same _ _ _ _
  have hbegin := beginAct_same (actTile 3 1 r.core r.tile (s.corePartNo r.core) none) v2
  have hall : SameBut [.pre, .tiles, .running, .trace] s (beginAct (actTile 3 1 r.core r.tile (s.corePartNo r.core) none) v2) :=
    ((hsame.mono (by simp)).trans ((hvsame.trans hv2).mono (by simp))).trans (hbegin.mono (by simp))
  have hpre2 : (beginAct (actTile 3 1 r.core r.tile (s.corePartNo r.core) none) v2).pre = (retiredModel h w s).pre :=
    (hbegin.pre (by simp)).trans ((hvsame.trans hv2).pre (by simp))
  have hgo : t = finish (taken 0x104 h w s).id stOk [1] (beginAct (actTile 3 1 r.core r.tile (s.corePartNo r.core) none) v2) := by
    refine (performModelRetire_loaded hm hload hstaged).trans ((if_neg hst).trans ?_)
    exact congrArg (fun x : Nat × State => finish (taken 0x104 h w s).id stOk [w32 x.1] x.2) hrelease
  obtain ⟨hfh, hfp, hfs⟩ := finish_changed (st := stOk) (payload := [1]) ht (hpre2 ▸ hpre) (hall.host (by simp)) (hall.tb (by simp))
  rw [← hgo] at hfh hfp hfs
  have htile2 : t.tile r.core r.tile = { v1.tile r.core r.tile with job := some .erase, owner := none } := by
    rw [hfs.tile (by simp), hbegin.tile (by simp), ← hw2, tile_modTile_same]
  refine ⟨?_, ?_, ?_, ?_, hfh, (hall.mono (by simp)).trans (hfs.mono (by simp))⟩
  · unfold State.model?
    rw [hfp, hpre2]
    refine List.find?_eq_none.2 (fun k hk => ?_)
    have hnot := (List.mem_filter.1 hk).2
    rwa [Bool.not_eq_true', ← Bool.not_eq_true] at hnot
  · rw [htile2]
  · rw [htile2]
  · rw [hfs.running (by simp), beginAct_running, (hvsame.trans hv2).running (by simp), hsame.running (by simp), hrun]
    rfl

end

/-- Settles O46: by the opcode: those that only join, a closing, a model that is committed and one that is retired. -/
theorem stagedCommandsJoinTheirSet : Obligations.StagedCommandsJoinTheirSet := by
  intro i op h w s hp ht p n rest put hroom hnone
  have hgo : exec i s = .next (performAny (taken op h w s) (entered op h w s)) := (exec_packet s hp).trans (submit_taken ht)
  refine ⟨fun hop => ⟨fun hst => ⟨_, hgo, ?_⟩, fun st hst => ⟨_, hgo, ?_⟩⟩, fun hop hst => ⟨_, hgo, ?_⟩, fun hop hst => ⟨_, hgo, ?_⟩,
    fun m hop hm hload hstaged => ⟨fun hst => ⟨_, hgo, ?_⟩, fun hst r hrec hstate howner hjob h32 hrun hwait => ⟨_, hgo, ?_⟩⟩⟩
  · rw [performAny_staged (List.mem_cons_of_mem _ hop), performStaged_passes hst]
    refine stage_replied ht ?_ hroom hnone
    rintro rfl
    exact absurd hop (by decide)
  · rw [performAny_staged (List.mem_cons_of_mem _ hop)]
    exact performStaged_fails ht hst
  · subst hop
    rw [performAny_staged List.mem_cons_self, performStaged_passes hst]
    obtain ⟨x, hx⟩ := stage_joins (h := h) (payload := []) hroom hnone
    rw [hx, if_pos rfl]
    exact underWay_setWait (u := s.joined (setNo 0x202 h.partition.toNat) 0x202 h w (some s.pre.nextCmd)) ht rfl rfl .staged x
  · subst hop
    exact performModelCommit_joins ht hst hroom hnone
  · subst hop
    have h2 := (performModelRetire_loaded hm hload hstaged).trans (if_pos hst)
    show Replied h 0x104 stOk [0] (put none) (performModelRetire (taken 0x104 h w s) (entered 0x104 h w s))
    rw [h2]
    exact stage_replied ht (by decide) hroom hnone
  · subst hop
    exact completes_modelRetire_held ht hm hload hstaged hst hrec hstate howner hjob h32 hrun hwait

end Sys2Proof.Machine
end

section
/-! PROOF. Sets that are committed, cancelled and discarded (R293 to R298). -/

namespace Sys2Proof.Machine

open Sys2Proof.Safety

/-! ## What a link's plan reads of the registers -/

theorem reg_setReg_other {x off : Nat} (h : x ≠ off) (v : Word) (s : State) : (s.setReg off v).reg x = s.reg x := by
  unfold State.setReg State.reg
  simp [tget?_tset, h]

/-- The machines agree on the channelisers, the decimators and the registers of the links. -/
def LinksAgree (s u : State) : Prop :=
  (u.ingest.decs = s.ingest.decs ∧ ∀ n, (u.link n).chan = (s.link n).chan ∧ (u.link n).chanMap = (s.link n).chanMap) ∧
  ∀ n a lo w, n < 8 → a < 0x20 → u.linkf n a lo w = s.linkf n a lo w

theorem linksAgree_of_ingest {s u : State} (hi : u.ingest = s.ingest)
    (hreg : ∀ n a lo w, n < 8 → a < 0x20 → u.linkf n a lo w = s.linkf n a lo w) : LinksAgree s u := by
  refine ⟨⟨by rw [hi], fun n => ?_⟩, hreg⟩
  unfold State.link
  rw [hi]
  exact ⟨rfl, rfl⟩

section
variable {s u : State} (h : LinksAgree s u) {n : Nat} (hn : n < 8)
include h

theorem chanWord_agree (i : Nat) : u.chanWord n i = s.chanWord n i := by
  unfold State.chanWord
  rw [(h.1.2 n).1]

theorem decWord_agree (d i : Nat) : u.decWord d i = s.decWord d i := by
  unfold State.decWord
  rw [h.1.1]

include hn

theorem linkIq_agree : u.linkIq n = s.linkIq n := by
  unfold State.linkIq
  rw [h.2 n 0 11 1 hn (by decide)]

theorem linkNp_agree : u.linkNp n = s.linkNp n := by
  unfold State.linkNp
  rw [h.2 n 4 9 1 hn (by decide)]

theorem linkOn_agree : u.linkOn n = s.linkOn n := by
  unfold State.linkOn
  rw [h.2 n 0 0 1 hn (by decide)]

theorem written_agree : u.written n = s.written n := by
  unfold State.written State.linkStreams State.linkM State.decOn
  simp only [chanWord_agree h, decWord_agree h, linkIq_agree h hn, h.2 n 0xC 0 32 hn (by decide), h.2 n 4 0 5 hn (by decide),
    (h.1.2 n).2, State.chanOn]
  rfl

theorem streamRate_agree {st : Nat} (hst : streamLink st = n) : u.streamRate st = s.streamRate st := by
  unfold State.streamRate State.streamBytes State.streamD
  simp only [hst, chanWord_agree h, decWord_agree h, linkIq_agree h hn, linkNp_agree h hn]

end

theorem chanK_le (w : Word) : chanK w ≤ 2 ^ 15 := by
  unfold chanK bits
  exact Nat.pow_le_pow_right (by decide) (Nat.le_of_lt_succ (Nat.mod_lt _ (by decide)))

theorem streamLink_written {s : State} {n st : Nat} (h : st ∈ s.written n) : streamLink st < n + 3 := by
  unfold State.written at h
  simp only [List.mem_append, List.mem_map, bitsSet, mapBits, List.mem_filter, mem_upTo] at h
  unfold streamLink streamNo at *
  obtain (⟨i, ⟨⟨hi, -⟩, -⟩, rfl⟩ | ⟨i, ⟨hi, -⟩, rfl⟩) | hchan := h
  · omega
  · omega
  · split at hchan
    · simp only [List.mem_map, List.mem_filter, mem_upTo] at hchan
      obtain ⟨i, ⟨hi, -⟩, rfl⟩ := hchan
      have := chanK_le (s.chanWord n 0)
      omega
    · exact absurd hchan List.not_mem_nil

/-- A fold reads its step on the elements alone. -/
theorem foldl_agree {α β : Type} {f g : α → β → α} {l : List β} {a : α} (h : ∀ a, ∀ b ∈ l, f a b = g a b) :
    l.foldl f a = l.foldl g a := by
  induction l generalizing a with
  | nil => rfl
  | cons x l ih =>
    rw [List.foldl_cons, List.foldl_cons, h a x List.mem_cons_self]
    exact ih (fun a b hb => h a b (List.mem_cons_of_mem _ hb))

section
variable {s u : State} (h : LinksAgree s u) {n : Nat}
include h

theorem linkWrite_agree (hn : n < 6) : u.linkWrite n = s.linkWrite n := by
  unfold State.linkWrite
  rw [written_agree h (by omega)]
  have hl : ∀ st ∈ s.written n, u.streamRate st = s.streamRate st :=
    fun st hst => streamRate_agree h (by have := streamLink_written hst; omega) rfl
  exact foldl_agree (fun a st hst => by rw [hl st hst])

theorem ringPlan_agree (hn : n < 4) : u.ringPlan n = s.ringPlan n := by
  unfold State.ringPlan
  rw [written_agree h (by omega)]
  refine List.map_congr_left (fun st hst => ?_)
  have hst' := streamLink_written hst
  unfold State.ringCap State.ringBytes State.streamBytes
  dsimp only
  rw [linkWrite_agree h (by omega), streamRate_agree h (by omega) rfl, linkNp_agree h (by omega), linkIq_agree h (by omega),
    h.2 (streamLink st) 0x14 0 3 (by omega) (by decide)]

theorem rateOk_agree : u.rateOk = s.rateOk := by
  unfold State.rateOk State.totalWrite
  have hlist : (upTo 4).filter u.linkOn = (upTo 4).filter s.linkOn :=
    List.filter_congr (fun n hn => linkOn_agree h (by have := mem_upTo.1 hn; omega))
  rw [hlist]
  refine congrArg (fun x : Frac => x.le (fInt 63000)) (foldl_agree (fun a n hn => ?_))
  have hn4 : n < 4 := mem_upTo.1 (List.mem_filter.1 hn).1
  have hr (a lo w : Nat) (ha : a < 0x20) : u.linkf n a lo w = s.linkf n a lo w := h.2 n a lo w (by omega) ha
  unfold State.linkRateNum State.linkRateDen State.linkS State.linkF State.linkRate
  rw [linkWrite_agree h (by omega), hr 4 12 5 (by decide), hr 8 0 16 (by decide), hr 4 17 6 (by decide)]

end

/-- A partition's page holds no register of a link. -/
theorem linksAgree_setReg {off : Nat} (hoff : 0x10000 ≤ off) (v : Word) (s : State) : LinksAgree s (s.setReg off v) := by
  refine linksAgree_of_ingest rfl (fun n a lo w hn ha => ?_)
  unfold State.linkf State.regf
  rw [reg_setReg_other (by omega)]

/-! ## A set of one register of a page -/

theorem each_fixed {α σ : Type} {f : α → σ → σ} {l : List α} {s : σ} (hf : ∀ a ∈ l, f a s = s) : each l f s = s := by
  induction l with
  | nil => rfl
  | cons a l ih =>
    obtain ⟨ha, hl⟩ := List.forall_mem_cons.1 hf
    rw [each_cons, ha, ih hl]

/-- Changes of which one is no more than another's that it stands among. -/
theorem each_only {α σ : Type} {f : α → σ → σ} {a : α} {l : List α} (hl : l.Nodup) (ha : a ∈ l) (hf : ∀ b u, b ≠ a → f b u = u) (s : σ) :
    each l f s = f a s := by
  induction l generalizing s with
  | nil => exact absurd ha List.not_mem_nil
  | cons b l ih =>
    obtain ⟨hb, hl'⟩ := List.nodup_cons.1 hl
    rw [each_cons]
    by_cases hba : b = a
    · subst hba
      exact each_fixed (fun c hc => hf c _ (fun e => hb (e ▸ hc)))
    · rw [hf b s hba]
      exact ih hl' ((List.mem_cons.1 ha).resolve_left (fun e => hba e.symm)) s

/-- The register ROWS of the statement: a plain register of a partition's page. -/
def pageReg (p : Fin 8) : Nat := 0x10000 * (p.val + 1) + 0x304

theorem upTo_nodup (n : Nat) : (upTo n).Nodup := List.nodup_range

section
variable (p : Fin 8) (m v : Word) (tick : Nat) (s : State)

theorem applyPage_plain (q : Nat) {off : Nat} (hring : isRingField (off % 0x10000) = false) (hcheck : off % 0x10000 ≠ 0x500) :
    applyPage tick q [(off, m, v)] s = s.setReg off v := by
  unfold applyPage
  simp only [each_cons, each_nil, hring, hcheck, Bool.false_eq_true, if_false]

/-- A set of one plain register of a page writes it. -/
theorem applyRegs_pageReg : applyRegs tick [(pageReg p, m, v)] s = s.setReg (pageReg p) v := by
  have hglob : ([(pageReg p, m, v)] : List RegWrite).filter (fun e => decide (e.1 < 0x10000)) = [] := by
    simp only [List.filter_cons, List.filter_nil]
    rw [decide_eq_false (by unfold pageReg; omega)]
    rfl
  have hpages : each (upTo 8) (fun q t => applyPage tick q (([(pageReg p, m, v)] : List RegWrite).filter
      (fun e => e.1 / 0x10000 == q + 1)) t) s = s.setReg (pageReg p) v := by
    have hdiv : pageReg p / 0x10000 = p.val + 1 := by unfold pageReg; omega
    rw [each_only (upTo_nodup 8) (mem_upTo.2 p.isLt)]
    · simp only [List.filter_cons, List.filter_nil, hdiv, beq_self_eq_true, if_true]
      have ho : pageReg p % 0x10000 = 0x304 := by unfold pageReg; omega
      exact applyPage_plain m v tick s p (by rw [ho]; decide) (by rw [ho]; decide)
    · intro q u hq
      simp only [List.filter_cons, List.filter_nil, hdiv]
      rw [if_neg (by simp [Ne.symm hq])]
      rfl
  have hlinks : switchLinks s (s.setReg (pageReg p) v) = s.setReg (pageReg p) v := by
    unfold switchLinks
    refine each_fixed (fun n hn => ?_)
    have hon : (s.setReg (pageReg p) v).linkOn n = s.linkOn n :=
      linkOn_agree (linksAgree_setReg (by unfold pageReg; omega) v s) (by have := mem_upTo.1 hn; omega)
    rw [hon, if_pos (beq_self_eq_true _)]
  unfold applyRegs
  simp only [hglob, List.filter_nil]
  simp only [applyPot, linkWrites, applyPins, putRegs, List.isEmpty_nil, List.flatMap_nil, Bool.and_self, if_true, each_nil, hpages,
    hlinks]

end

theorem ringOn_of_host {s u : State} (hhost : u.host = s.host) (h : Hdr) : u.ringOn h = s.ringOn h := by
  unfold State.ringOn
  rw [lane_of_host (congrArg HostSide.lanes hhost)]

/-- A reply stands on the tick alone. -/
theorem replyOf_of_tb {s u : State} (htb : u.tb = s.tb) {h : Hdr} {op st : Nat} {payload : List Word} :
    replyOf h op st payload u = replyOf h op st payload s := by
  simp [replyOf, replyWords, State.tick, htb]

/-! ## COMMIT -/

/-- The epochs that a set of registers of one partition moves. -/
theorem advanceAll_regs {p : Nat} (hp : p < 8) (tick : Nat) (r : RegWrite) (s : State) :
    advanceAll p tick { cmds := [], regs := [r] } false s = advanceEpoch p tick false true s := by
  unfold advanceAll
  simp only [List.any_nil, Bool.false_or, Bool.false_and, List.isEmpty_cons, Bool.not_false, Bool.true_and]
  refine (each_only (upTo_nodup 8) (mem_upTo.2 hp) (fun q u hq => ?_) s).trans (by rw [beq_self_eq_true])
  rw [beq_false_of_ne hq]
  rfl

theorem epochs_advanceEpoch (p tick : Nat) (s : State) :
    (advanceEpoch p tick false true s).epochs p = ((s.epochs p).1, (s.epochs p).2 + 1) := by
  unfold advanceEpoch
  show State.epochs (s.modPre _) p = _
  unfold State.modPre
  conv => lhs; unfold State.epochs
  simp only [tget_tset_same, List.getLast?_append, List.getLast?_singleton, Option.some_or, Bool.false_eq_true, if_false, if_true]
  rfl

theorem advanceEpoch_same (p tick : Nat) (model config : Bool) (s : State) : SameBut [.pre] s (advanceEpoch p tick model config s) := by
  unfold advanceEpoch
  split
  · exact SameBut.refl _ _
  · exact modPre_same _ s

theorem reg_advanceEpoch (p tick : Nat) (model config : Bool) (s : State) (x : Nat) :
    (advanceEpoch p tick model config s).reg x = s.reg x := by
  unfold advanceEpoch
  split <;> rfl

/-- With no context no flow is put anew on a grid. -/
theorem regrid_none {before s : State} (h : s.flows.ctxs = []) : regrid before s = s := by
  unfold regrid State.modFlows
  simp only [h, List.map_nil]
  rw [← h]

theorem redivide_planned {n : Nat} {s : State} (h : s.ringPlan n = s.ringNow n) : redivide n s = s := by
  unfold redivide
  rw [if_pos h]

theorem setFails_none {s t : State} (p : Nat) (hm : t.pre.models = []) (hc : t.flows.ctxs = []) : setFails s t p [] = none := by
  unfold setFails pairsBad State.bound
  rw [hm, hc]
  rfl

/-- The machine with one register of a page applied at its commit tick. -/
def State.pageApplied (s : State) (q : Pending) (p : Fin 8) (v : Word) : State :=
  advanceEpoch p q.tick false true ((dropPending q.cmd s).setReg (pageReg p) v)

theorem pageApplied_same (s : State) (q : Pending) (p : Fin 8) (v : Word) : SameBut [.pre] s (s.pageApplied q p v) :=
  (modPre_same (fun x => { x with pending := x.pending.filter (fun y => y.cmd ≠ q.cmd) }) s).trans
    ((modPre_same (fun x => { x with regs := tset x.regs (pageReg p) v }) _).trans (advanceEpoch_same _ _ _ _ _))

theorem pageApplied_reg (s : State) (q : Pending) (p : Fin 8) (v : Word) (x : Nat) :
    (s.pageApplied q p v).reg x = if x = pageReg p then v else s.reg x := by
  unfold State.pageApplied
  rw [reg_advanceEpoch]
  split
  next hx => rw [hx, reg_setReg]
  next hx =>
    rw [reg_setReg_other hx]
    rfl

theorem pageApplied_epochs (s : State) (q : Pending) (p : Fin 8) (v : Word) :
    (s.pageApplied q p v).epochs p = ((s.epochs p).1, (s.epochs p).2 + 1) :=
  epochs_advanceEpoch p q.tick _

/-- A set of one register of a page, where nothing is loaded or open, is applied. -/
theorem applyCommit_pageReg {q : Pending} {p : Fin 8} {m v : Word} {s : State} (hpart : q.part = p.val)
    (hset : q.set = { cmds := [], regs := [(pageReg p, m, v)] }) (hglob : q.globalSet.getD { cmds := [], regs := [] } = { cmds := [], regs := [] })
    (hm : s.pre.models = []) (hc : s.flows.ctxs = []) (hplan : ∀ n, n < 4 → s.ringPlan n = s.ringNow n) :
    ∃ x, applyCommit q s = finish q.cmd stOk [(s.epochs p).1, (s.epochs p).2 + 1, 0, 0] { s.pageApplied q p v with trace := x } := by
  have hproduce : produce q.tick [] [(pageReg p, m, v)] (dropPending q.cmd s) = (dropPending q.cmd s).setReg (pageReg p) v := by
    unfold produce
    rw [applyRegs_pageReg]
    rfl
  have hsame := pageApplied_same s q p v
  have hctx : (s.pageApplied q p v).flows.ctxs = [] := by rw [hsame.flows (by simp), hc]
  have hmodels : ((dropPending q.cmd s).setReg (pageReg p) v).pre.models = [] := hm
  have hplan' : each (upTo 4) redivide (s.pageApplied q p v) = s.pageApplied q p v := by
    refine each_fixed (fun n hn => redivide_planned ?_)
    have hn4 := mem_upTo.1 hn
    rw [ringPlan_agree (linksAgree_of_ingest (s := s) (hsame.ingest (by simp)) (fun k a lo w hk ha => ?_)) hn4, hplan n hn4]
    · unfold State.ringNow
      rw [hsame.ingest (by simp)]
    · unfold State.linkf State.regf
      rw [pageApplied_reg, if_neg (by unfold pageReg; omega)]
  unfold applyCommit
  simp only [hpart, hset, hglob, List.append_nil, hproduce, setFails_none _ hmodels hc, List.isEmpty_nil,
    Bool.and_self, Bool.not_true, advanceAll_regs p.isLt]
  rw [show advanceEpoch p q.tick false true ((dropPending q.cmd s).setReg (pageReg p) v) = s.pageApplied q p v from rfl, regrid_none hctx,
    hplan', hctx]
  simp only [List.filter_nil, List.map_nil, each_nil, List.length_nil]
  obtain ⟨x, hx⟩ := traceOnly_eq 0x132 4 p noUnit p ((s.pageApplied q p v).epochs p).1.toNat ((s.pageApplied q p v).epochs p).2.toNat 0
    (s.pageApplied q p v)
  refine ⟨x, ?_⟩
  rw [hx]
  have hep : ({ s.pageApplied q p v with trace := x } : State).epochs p = ((s.epochs p).1, (s.epochs p).2 + 1) :=
    pageApplied_epochs s q p v
  unfold commitReply
  rw [hep]
  rfl

/-- The open sets of a COMMIT taken away: the partition's, and the global one of the physical function. -/
def State.closedSets (s : State) (pf : Bool) (p : Nat) : Tbl OpenSet := if pf then tdel (tdel s.pre.sets p) 8 else tdel s.pre.sets p

/-- The set a COMMIT closes. -/
def State.closing (s : State) (c : Cmd) : Pending :=
  { part := c.h.partition.toNat, tick := max c.h.atTick.toNat s.tick, cmd := c.id, set := s.openSet c.h.partition.toNat,
    globalSet := if c.h.fn.val == 0 then some (s.openSet 8) else none }

/-- The machine whose COMMIT waits for its tick. -/
def State.closed (s : State) (c : Cmd) : State :=
  setWait c.id .atTick (s.modPre (fun x => { x with
    sets := s.closedSets (c.h.fn.val == 0) c.h.partition.toNat
    pending := s.pre.pending ++ [s.closing c] }))

/-- A COMMIT of a partition without another one waits for its tick, or its set is applied. -/
theorem performCommit_first {c : Cmd} {s : State} (h : s.pre.pending = []) :
    performCommit c s = if c.h.atTick.toNat ≤ s.tick then applyCommit (s.closing c) (s.closed c) else s.closed c := by
  have hfind : (s.closed c).pre.pending.find? (fun q => q.part == c.h.partition.toNat) = some (s.closing c) := by
    show (s.pre.pending ++ [s.closing c]).find? _ = _
    rw [h, List.nil_append, List.find?_singleton]
    exact if_pos (beq_self_eq_true _)
  have hreach : (s.closed c).reached (s.closing c).tick = decide (c.h.atTick.toNat ≤ s.tick) := by
    show decide (max c.h.atTick.toNat s.tick ≤ s.tick) = _
    exact decide_eq_decide.2 ⟨fun h => Nat.le_trans (Nat.le_max_left _ _) h, fun h => Nat.max_le.2 ⟨h, Nat.le_refl _⟩⟩
  have hgo : performCommit c s = applyDue 1 c.h.partition.toNat (s.closed c) := by
    unfold performCommit
    simp only [applyDue_idle h, h, List.filter_nil, List.length_nil, List.getLast?_nil, Option.elim_none, Bool.false_eq_true, if_false]
    rw [if_neg (by decide)]
    rfl
  rw [hgo]
  unfold applyDue
  simp only [hfind, hreach, decide_eq_true_eq]
  rfl

/-- A COMMIT is begun whatever its tick: its set waits, not the command (R277, R295). -/
theorem exec_commit {h : Hdr} {w : List Word} {s : State} (hw : WellFormed.payload w = true) (hl : s.laneTakes h.fn h.lane = true)
    (hr : s.ringOn h = true) (hf : firstFail h 0x003 w true true s = none) (hfe : h.fence = false) (hp : s.power.state = 0)
    (hc : s.power.refclkLost = false) (hid : FreshNumbers s) :
    exec (.commit h w) s = .next (performCommit (taken 0x003 h w s) (entered 0x003 h w s)) := by
  obtain ⟨x, hx⟩ := traceOnly_eq 0x130 4 ((s.fnPart? h.fn.val).getD 255) noUnit h.fn.val h.lane.val 0x003 h.tag.toNat s
  have hf1 : firstFail h 0x003 w true true { s with trace := x } = none := hf
  have ht : take performAny h 0x003 w true true s = proceed performAny (taken 0x003 h w s) (entered 0x003 h w s) := by
    unfold take
    simp only [hr, Bool.not_true, Bool.false_eq_true, if_false, hx, hf1, hfe, Bool.false_and, entered]
    rfl
  have hnew := setWait_newest (c := taken 0x003 h w s) (l := s.pre.cmds) (u := entered 0x003 h w s) rfl hid rfl
  have hgo : proceed performAny (taken 0x003 h w s) (entered 0x003 h w s) =
      startCmd performAny (taken 0x003 h w s) (entered 0x003 h w s) := by
    unfold proceed
    simp
  have hsame := entered_same 0x003 h w s
  refine (exec_packet (i := .commit h w) s rfl).trans ?_
  unfold submit checked
  rw [if_pos hw]
  simp only [hl, if_true, ht]
  rw [hgo, startCmd_now, hnew]
  · rfl
  · rw [hsame.power (by simp)]; exact hp
  · rw [hsame.power (by simp)]; exact hc

section
variable {h : Hdr} {w : List Word} {s : State} {p : Fin 8}

/-- The newest command of the list waits as it is told; those before it as they did. -/
theorem setWait_cmds {c : Cmd} {l : List Cmd} {u : State} (hl : u.pre.cmds = l ++ [c]) (hid : ∀ x ∈ l, x.id < c.id) (wait : CmdWait) :
    (setWait c.id wait u).pre.cmds = l ++ [{ c with wait := wait }] := by
  unfold setWait State.modPre
  simp only [hl, List.map_append, List.map_cons, List.map_nil, if_true]
  congr 1
  refine (List.map_congr_left (g := id) (fun x hx => ?_)).trans (List.map_id _)
  exact if_neg (Nat.ne_of_lt (hid x hx))

theorem closed_cmds (hid : FreshNumbers s) : ((entered 0x003 h w s).closed (taken 0x003 h w s)).pre.cmds =
    s.pre.cmds ++ [{ taken 0x003 h w s with wait := .atTick }] :=
  setWait_cmds (c := taken 0x003 h w s) rfl hid _

theorem closed_same (c : Cmd) (s : State) : SameBut [.pre] s (s.closed c) := (modPre_same _ s).trans (setWait_same _ _ _)

theorem openSet_closed {c : Cmd} (hp : c.h.partition.toNat = p.val) : (s.closed c).openSet p = { cmds := [], regs := [] } := by
  have hsets : (s.closed c).pre.sets = s.closedSets (c.h.fn.val == 0) p := by rw [← hp]; rfl
  unfold State.openSet
  rw [hsets, tget_eq_getD]
  unfold State.closedSets
  split <;> simp [tget?_tdel]

/-- Before its tick a COMMIT closes its set and waits. -/
theorem completes_commit_later (hexec : exec (.commit h w) s = .next (performCommit (taken 0x003 h w s) (entered 0x003 h w s)))
    (hid : FreshNumbers s) (hpart : h.partition.toNat = p.val) (hpend : s.pre.pending = []) (hat : s.tick < h.atTick.toNat) :
    Completes (.commit h w) s (fun t =>
    t.pre.pending = [{ part := p, tick := h.atTick.toNat, cmd := s.pre.nextCmd, set := s.openSet p,
                       globalSet := if h.fn.val = 0 then some (s.openSet 8) else none }] ∧
    t.openSet p = { cmds := [], regs := [] } ∧ t.pre.cmds = s.pre.cmds ++ [{ taken 0x003 h w s with wait := .atTick }] ∧
    t.pre.regs = s.pre.regs ∧ SameBut [.pre, .trace] s t) := by
  have hsame := entered_same 0x003 h w s
  have htick : (entered 0x003 h w s).tick = s.tick := by unfold State.tick; rw [hsame.tb (by simp)]
  have hgo : performCommit (taken 0x003 h w s) (entered 0x003 h w s) = (entered 0x003 h w s).closed (taken 0x003 h w s) := by
    rw [performCommit_first (s := entered 0x003 h w s) hpend, if_neg (by rw [htick]; exact Nat.not_le.2 hat)]
  refine ⟨_, hexec, ?_⟩
  rw [hgo]
  refine ⟨?_, openSet_closed hpart, closed_cmds hid, rfl, hsame.trans ((closed_same _ _).mono (by simp))⟩
  show s.pre.pending ++ [(entered 0x003 h w s).closing (taken 0x003 h w s)] = _
  rw [hpend, List.nil_append]
  unfold State.closing
  simp only [htick, taken_h, taken_id, hpart, Nat.max_eq_left (Nat.le_of_lt hat), beq_iff_eq]
  rfl

/-- The register of a COMMIT that has come is applied: the machine its reply leaves. -/
theorem performCommit_now {v : Word} (hat : h.atTick.toNat ≤ s.tick) (hid : FreshNumbers s) (hpart : h.partition.toNat = p.val)
    (hpend : s.pre.pending = []) (hset : s.openSet p = { cmds := [], regs := [(pageReg p, 0xFFFFFFFF, v)] })
    (hglob : s.openSet 8 = { cmds := [], regs := [] }) (hm : s.pre.models = []) (hctx : s.flows.ctxs = [])
    (hplan : ∀ n, n < 4 → s.ringPlan n = s.ringNow n) :
    ∃ u, performCommit (taken 0x003 h w s) (entered 0x003 h w s) =
        finish (taken 0x003 h w s).id stOk [(s.epochs p).1, (s.epochs p).2 + 1, 0, 0] u ∧
      SameBut [.pre, .trace] s u ∧ u.pre.cmds = s.pre.cmds ++ [{ taken 0x003 h w s with wait := .atTick }] ∧ u.pre.pending = [] ∧
      (∀ x, u.reg x = if x = pageReg p then v else s.reg x) ∧ u.epochs p = ((s.epochs p).1, (s.epochs p).2 + 1) ∧
      u.openSet p = { cmds := [], regs := [] } := by
  have hentered := entered_same 0x003 h w s
  have htick : (entered 0x003 h w s).tick = s.tick := by unfold State.tick; rw [hentered.tb (by simp)]
  have hcmds := closed_cmds (w := w) (h := h) hid
  have hopen : ((entered 0x003 h w s).closed (taken 0x003 h w s)).openSet p = { cmds := [], regs := [] } := openSet_closed hpart
  have hsame : SameBut [.pre, .trace] s ((entered 0x003 h w s).closed (taken 0x003 h w s)) :=
    hentered.trans ((closed_same _ _).mono (by simp))
  have hpending : ((entered 0x003 h w s).closed (taken 0x003 h w s)).pre.pending =
      [(entered 0x003 h w s).closing (taken 0x003 h w s)] := by
    show s.pre.pending ++ [(entered 0x003 h w s).closing (taken 0x003 h w s)] = _
    rw [hpend]
    rfl
  have hregs (x : Nat) : ((entered 0x003 h w s).closed (taken 0x003 h w s)).reg x = s.reg x := rfl
  have hepochs : ((entered 0x003 h w s).closed (taken 0x003 h w s)).epochs p = s.epochs p := rfl
  have hmodels : ((entered 0x003 h w s).closed (taken 0x003 h w s)).pre.models = [] := hm
  generalize hq : (entered 0x003 h w s).closing (taken 0x003 h w s) = q at hpending
  have hqcmd : q.cmd = (taken 0x003 h w s).id := by rw [← hq]; rfl
  have hqpart : q.part = p.val := by rw [← hq]; exact hpart
  have hqset : q.set = { cmds := [], regs := [(pageReg p, 0xFFFFFFFF, v)] } := by
    rw [← hset, ← hq, ← hpart]
    rfl
  have hqglob : q.globalSet.getD { cmds := [], regs := [] } = { cmds := [], regs := [] } := by
    rw [← hq]
    show (if h.fn.val == 0 then some (s.openSet 8) else none).getD _ = _
    rw [hglob]
    split <;> rfl
  have hgo : performCommit (taken 0x003 h w s) (entered 0x003 h w s) =
      applyCommit q ((entered 0x003 h w s).closed (taken 0x003 h w s)) := by
    rw [performCommit_first (s := entered 0x003 h w s) hpend, if_pos (by rw [htick]; exact hat), hq]
  generalize (entered 0x003 h w s).closed (taken 0x003 h w s) = u at *
  have hplan' (n : Nat) (hn : n < 4) : u.ringPlan n = u.ringNow n := by
    rw [ringPlan_agree (linksAgree_of_ingest (s := s) (hsame.ingest (by simp)) (fun k a lo w _ _ => ?_)) hn, hplan n hn]
    · unfold State.ringNow
      rw [hsame.ingest (by simp)]
    · unfold State.linkf State.regf
      rw [hregs]
  obtain ⟨x, hx⟩ := applyCommit_pageReg (s := u) hqpart hqset hqglob hmodels (by rw [hsame.flows (by simp)]; exact hctx) hplan'
  rw [hepochs, hqcmd] at hx
  have hpage := pageApplied_same u q p v
  refine ⟨{ u.pageApplied q p v with trace := x }, hgo.trans hx, ?_, hcmds, ?_, fun k => ?_, ?_, hopen⟩
  · exact hsame.trans ((hpage.mono (by simp)).trans (fun k hk => by cases k <;> first | rfl | simp at hk))
  · show u.pre.pending.filter (fun y => y.cmd ≠ q.cmd) = []
    rw [hpending]
    simp
  · rw [← hregs]
    exact pageApplied_reg u q p v k
  · rw [← hepochs]
    exact pageApplied_epochs u q p v

/-- A COMMIT whose tick has come applies its register, advances the configuration epoch and replies. -/
theorem completes_commit_now {v : Word} (ht : TakenAtOnce 0x003 h w s) (hpart : h.partition.toNat = p.val) (hpend : s.pre.pending = [])
    (hset : s.openSet p = { cmds := [], regs := [(pageReg p, 0xFFFFFFFF, v)] }) (hglob : s.openSet 8 = { cmds := [], regs := [] })
    (hm : s.pre.models = []) (hctx : s.flows.ctxs = []) (hplan : ∀ n, n < 4 → s.ringPlan n = s.ringNow n) :
    Completes (.commit h w) s (fun t =>
    t.reg (pageReg p) = v ∧ (∀ x, x ≠ pageReg p → t.reg x = s.reg x) ∧
    t.epochs p = ((s.epochs p).1, (s.epochs p).2 + 1) ∧ t.openSet p = { cmds := [], regs := [] } ∧ t.pre.pending = [] ∧
    t.pre.cmds = s.pre.cmds ∧ t.host = (s.modLane h.fn h.queue.toNat (fun l => { l with
      held := l.held ++ [replyOf h 0x003 stOk [(s.epochs p).1, (s.epochs p).2 + 1, 0, 0] s] })).host ∧
    SameBut [.host, .pre, .trace] s t) := by
  have ⟨_, _, hring, _, _, hat, _, _, hid⟩ := ht
  obtain ⟨u, hgo, hsame, hcmds, hpending, hreg, hepochs, hopen⟩ :=
    performCommit_now (w := w) hat hid hpart hpend hset hglob hm hctx hplan
  obtain ⟨z, hz⟩ := finish_last (c := { taken 0x003 h w s with wait := .atTick }) (st := stOk)
    (payload := [(s.epochs p).1, (s.epochs p).2 + 1, 0, 0]) hcmds hid (by rw [ringOn_of_host (hsame.host (by simp))]; exact hring)
  have hexec := (exec_packet (i := .commit h w) s rfl).trans (submit_taken ht)
  have hrep : replyOf h 0x003 stOk [(s.epochs p).1, (s.epochs p).2 + 1, 0, 0] u =
      replyOf h 0x003 stOk [(s.epochs p).1, (s.epochs p).2 + 1, 0, 0] s := replyOf_of_tb (hsame.tb (by simp))
  refine ⟨_, hexec.trans (congrArg _ (hgo.trans hz)), (hreg _).trans (if_pos rfl), fun k hk => (hreg k).trans (if_neg hk), hepochs,
    hopen, hpending, rfl, ?_, ?_⟩
  · simp only [taken_h, taken_op, hrep, State.modLane, State.lane, hsame.host (by simp)]
  · exact (hsame.mono (by simp)).trans (fun k hk => by cases k <;> first | rfl | simp at hk)

end

/-! ## CMD_CANCEL -/

section
variable {h : Hdr} {w : List Word} {s : State} {x : Cmd}

/-- The one command that stands before a CMD_CANCEL is its where it carries the TAG and waits. -/
theorem waitingOf_entered (hcmds : s.pre.cmds = [x]) (hfn : x.h.fn = h.fn) (hfresh : x.id < s.pre.nextCmd) (hwait : x.wait = .atTick) :
    (entered 0x004 h w s).waitingOf h.fn.val (pw w 0) s.pre.nextCmd = if x.h.tag = pw w 0 then [x] else [] := by
  have hlist : (entered 0x004 h w s).pre.cmds = [x, taken 0x004 h w s] := by
    show s.pre.cmds ++ [taken 0x004 h w s] = _
    rw [hcmds]
    rfl
  have hold : x.id ≠ s.pre.nextCmd := Nat.ne_of_lt hfresh
  have hw : (entered 0x004 h w s).waits x = true := by
    unfold State.waits
    rw [hwait]
    rfl
  unfold State.waitingOf
  rw [hlist]
  by_cases htag : x.h.tag = pw w 0
  · simp [hfn, htag, hold, hw]
  · simp [htag]

/-- A waiting command without a set or an activity is cancelled by its reply. -/
theorem withdrawTag_alone {u : State} (hwait : x.wait = .atTick) (hpend : u.pre.pending = []) (hwaiting : u.waiting = [])
    (hm : u.pre.models = []) :
    withdrawTag x u = finish x.id stCancelled [] { u with
      cores := u.cores.map (fun (e : Nat × Core) => if e.2.testCmd = some x.id then (e.1, { e.2 with testCmd := none }) else e) } := by
  unfold withdrawTag withdraw
  rw [hwait, if_neg (by decide)]
  simp only [hpend, List.find?_nil]
  unfold cancelWaiting
  simp only [hwaiting, List.filter_nil, each_nil, hm]

/-- A CMD_CANCEL that finds its command gives both their replies. -/
theorem completes_cmdCancel (ht : TakenAtOnce 0x004 h w s) (hcmds : s.pre.cmds = [x]) (hfn : x.h.fn = h.fn) (hqueue : x.h.queue = h.queue)
    (hpend : s.pre.pending = []) (hm : s.pre.models = []) (hwaiting : s.waiting = []) (hwait : x.wait = .atTick)
    (htag : x.h.tag = pw w 0) : Completes (.cmdCancel h w) s (fun t => t.pre.cmds = [] ∧
      (t.lane h.fn h.queue.toNat).held = (s.lane h.fn h.queue.toNat).held ++
        [replyOf x.h x.op stCancelled [] s, replyOf h 0x004 stOk [1] s] ∧ SameBut [.host, .pre, .cores, .trace] s t) := by
  have ⟨_, _, hring, _, _, _, _, _, hfresh⟩ := ht
  have hlt : x.id < s.pre.nextCmd := hfresh x (by rw [hcmds]; exact List.mem_singleton_self _)
  have hexec := (exec_packet (i := .cmdCancel h w) s rfl).trans (submit_taken ht)
  have hentered := entered_same 0x004 h w s
  have hlist : (entered 0x004 h w s).pre.cmds = [x, taken 0x004 h w s] := by
    show s.pre.cmds ++ [taken 0x004 h w s] = _
    rw [hcmds]
    rfl
  have hgo : performAny (taken 0x004 h w s) (entered 0x004 h w s) =
      finish (taken 0x004 h w s).id stOk [1] (withdrawTag x (entered 0x004 h w s)) := by
    show performCmdCancel (taken 0x004 h w s) (entered 0x004 h w s) = _
    unfold performCmdCancel
    simp only [taken_h, taken_w, taken_id]
    rw [waitingOf_entered hcmds hfn hlt hwait, if_pos htag]
    rfl
  rw [hgo, withdrawTag_alone (u := entered 0x004 h w s) hwait hpend ((hentered .waiting (by simp)).trans hwaiting) hm] at hexec
  generalize hu : ({ entered 0x004 h w s with
      cores := (entered 0x004 h w s).cores.map (fun (e : Nat × Core) =>
        if e.2.testCmd = some x.id then (e.1, { e.2 with testCmd := none }) else e) } : State) = u at hexec
  have husame : SameBut [.pre, .cores, .trace] s u := by
    refine (hentered.mono (by simp)).trans (fun k hk => ?_)
    rw [← hu]
    cases k <;> first | rfl | simp at hk
  have hucmds : u.pre.cmds = [x, taken 0x004 h w s] := by rw [← hu]; exact hlist
  have hfind : u.cmd? x.id = some x := by
    unfold State.cmd?
    rw [hucmds, List.find?_cons]
    simp
  have hringx : u.ringOn x.h = true := by
    rw [ringOn_of_host (husame.host (by simp))]
    unfold State.ringOn
    rw [hfn, hqueue]
    exact hring
  obtain ⟨hhost, hpre, hsame⟩ := finish_found (st := stCancelled) (payload := []) hfind hringx
  generalize finish x.id stCancelled [] u = v at hexec hhost hpre hsame
  have hvcmds : v.pre.cmds = [] ++ [taken 0x004 h w s] := by
    rw [hpre]
    show u.pre.cmds.filter _ = _
    rw [hucmds]
    simp [Nat.ne_of_gt hlt]
  have hvsame : SameBut [.host, .pre, .cores, .trace] s v := (husame.mono (by simp)).trans (hsame.mono (by simp))
  have hlane : v.lane h.fn h.queue.toNat = { s.lane h.fn h.queue.toNat with
      held := (s.lane h.fn h.queue.toNat).held ++ [replyOf x.h x.op stCancelled [] s] } := by
    rw [lane_of_host (congrArg HostSide.lanes hhost), hfn, hqueue, lane_modLane_same,
      lane_of_host (congrArg HostSide.lanes (husame.host (by simp))), replyOf_of_tb (husame.tb (by simp))]
  have hringv : v.ringOn h = true := by
    unfold State.ringOn at hring ⊢
    rw [hlane]
    exact hring
  obtain ⟨z, hz⟩ := finish_last (st := stOk) (payload := [1]) hvcmds (fun _ hc => absurd hc List.not_mem_nil) hringv
  refine ⟨_, hexec.trans (congrArg _ hz), rfl, ?_, ?_⟩
  · refine (congrArg Lane.held ((lane_of_host (s := v.modLane h.fn.val h.queue.toNat (fun k =>
      { k with held := k.held ++ [replyOf h 0x004 stOk [1] v] })) rfl _ _).trans (lane_modLane_same ..))).trans ?_
    rw [hlane]
    simp only [replyOf_of_tb (hvsame.tb (by simp)), List.append_assoc, List.cons_append, List.nil_append]
  · exact hvsame.trans (fun k hk => by cases k <;> first | rfl | simp at hk)

/-- A CMD_CANCEL that finds none. -/
theorem completes_cmdCancel_none (ht : TakenAtOnce 0x004 h w s) (hcmds : s.pre.cmds = [x]) (hfn : x.h.fn = h.fn) (hwait : x.wait = .atTick)
    (htag : x.h.tag ≠ pw w 0) : Completes (.cmdCancel h w) s (Replied h 0x004 stOk [0] s) := by
  have ⟨_, _, _, _, _, _, _, _, hfresh⟩ := ht
  have hlt : x.id < s.pre.nextCmd := hfresh x (by rw [hcmds]; exact List.mem_singleton_self _)
  have hgo : performAny (taken 0x004 h w s) (entered 0x004 h w s) = finish (taken 0x004 h w s).id stOk [0] (entered 0x004 h w s) := by
    show performCmdCancel (taken 0x004 h w s) (entered 0x004 h w s) = _
    unfold performCmdCancel
    simp only [taken_h, taken_w, taken_id]
    rw [waitingOf_entered hcmds hfn hlt hwait, if_neg htag]
    rfl
  refine ⟨_, (exec_packet (i := .cmdCancel h w) s rfl).trans ((submit_taken ht).trans (congrArg _ hgo)), ?_⟩
  exact replied_finish_entered ht stOk [0]

end

/-! ## STAGE_DISCARD -/

section
variable {h : Hdr} {w : List Word} {s : State}

/-- Staged commands that wait for no end and commit no model leave nothing behind. -/
theorem discardCmds_plain {l : List Staged} (hl : ∀ x ∈ l, x.cmd = none ∧ x.op ≠ 0x103) (u : State) : discardCmds l u = u := by
  unfold discardCmds unstage
  have hnone : l.filter (fun x => x.op == 0x103) = [] :=
    List.filter_eq_nil_iff.2 (fun x hx => by simpa using (hl x hx).2)
  rw [hnone, each_nil, each_finishOpt_none (fun x hx => (hl x hx).1)]

theorem performStageDiscard_refused {c : Cmd} (u : State) (hg : pf c.w 0 0 1 = 1) (hfn : c.h.fn.val ≠ 0) :
    performStageDiscard c u = finish c.id stSecurity [] u := by
  unfold performStageDiscard
  simp [hg, hfn]

theorem performStageDiscard_own {c : Cmd} (u : State) (hown : pf c.w 0 0 1 = 1 → c.h.fn.val = 0) {n : Nat}
    (hn : n = if pf c.w 0 0 1 = 1 then 8 else c.h.partition.toNat) :
    performStageDiscard c u = finish c.id stOk [w32 (u.openSet n).cmds.length]
      (discardCmds (u.openSet n).cmds (u.modPre (fun x => { x with sets := tdel x.sets n }))) := by
  unfold performStageDiscard
  by_cases hg : pf c.w 0 0 1 = 1
  · simp [hg, hown hg, hn]
  · simp [hg, hn]

theorem completes_stageDiscard (ht : TakenAtOnce 0x005 h w s) (n : Nat) (hn : n = if pf w 0 0 1 = 1 then 8 else h.partition.toNat)
    (hown : pf w 0 0 1 = 1 → h.fn.val = 0) (hl : ∀ x ∈ (s.openSet n).cmds, x.cmd = none ∧ x.op ≠ 0x103) :
    Completes (.stageDiscard h w) s (Replied h 0x005 stOk [w32 (s.openSet n).cmds.length]
        { s with pre := { s.pre with sets := tdel s.pre.sets n } }) := by
  have ⟨_, _, hring, _⟩ := ht
  obtain ⟨x, hx⟩ := entered_noting 0x005 h w s
  have hopen : (entered 0x005 h w s).openSet n = s.openSet n := by rw [hx]; rfl
  have hgo : performAny (taken 0x005 h w s) (entered 0x005 h w s) = finish (taken 0x005 h w s).id stOk [w32 (s.openSet n).cmds.length]
      (State.noting { s with pre := { s.pre with sets := tdel s.pre.sets n } } (s.pre.cmds ++ [taken 0x005 h w s]) (s.pre.nextCmd + 1) x) := by
    refine (performStageDiscard_own _ hown hn).trans ?_
    rw [hopen, discardCmds_plain hl, hx]
    rfl
  refine ⟨_, (exec_packet (i := .stageDiscard h w) s rfl).trans ((submit_taken ht).trans (congrArg _ hgo)), ?_⟩
  exact replied_finish_noting (u := { s with pre := { s.pre with sets := tdel s.pre.sets n } }) ht rfl rfl hring x

end

/-- Settles O45: a COMMIT applies its set or closes it, CMD_CANCEL and STAGE_DISCARD take back what waits. -/
theorem setsAreCommittedCancelledDiscarded : Obligations.SetsAreCommittedCancelledDiscarded := by
  refine ⟨fun h w s p v ht hpart hpend hset hglob hm hctx hplan => completes_commit_now ht hpart hpend hset hglob hm hctx hplan,
    fun h w s p hw hl hr hf hfe hp hc hid hpart hpend hat =>
      completes_commit_later (exec_commit hw hl hr hf hfe hp hc hid) hid hpart hpend hat,
    fun h w s x ht hcmds hfn hqueue hpend hm hwaiting hwait =>
      ⟨fun htag => completes_cmdCancel_none ht hcmds hfn hwait htag,
        fun htag => completes_cmdCancel ht hcmds hfn hqueue hpend hm hwaiting hwait htag⟩,
    fun h w s ht => ?_⟩
  intro global n
  refine ⟨fun hg hfn => ⟨_, (exec_packet (i := .stageDiscard h w) s rfl).trans (submit_taken ht), ?_⟩, fun hg hown hl => ?_⟩
  · rw [show performAny (taken 0x005 h w s) (entered 0x005 h w s) = finish (taken 0x005 h w s).id stSecurity [] (entered 0x005 h w s) from
      performStageDiscard_refused _ hg hfn]
    exact replied_finish_entered ht stSecurity []
  · refine completes_stageDiscard ht n rfl (fun _ => ?_) hl
    exact hown.resolve_right (fun hno => hno hg)

end Sys2Proof.Machine
end

section
/-! PROOF. Pins, coefficients and the Probe under commands (R222, R239, R424, R426). -/

namespace Sys2Proof.Machine

open Sys2Proof.Safety

/-! ## Commands by what their performance makes of the machine that has noted them -/

section
variable {i : Instr} {op st : Nat} {h : Hdr} {w payload : List Word} {s u : State}

/-- The machine that has noted a command, with a trace. -/
def State.noted (s u : State) (op : Nat) (h : Hdr) (w : List Word) (x : Trace) : State :=
  u.noting (s.pre.cmds ++ [taken op h w s]) (s.pre.nextCmd + 1) x

/-- A command that makes u of the machine and ends. -/
theorem completes_replied (hp : packetOf i = some (op, h, w)) (ht : TakenAtOnce op h w s) (hc : u.pre.cmds = s.pre.cmds)
    (hn : u.pre.nextCmd = s.pre.nextCmd) (hhost : u.ringOn h = true)
    (hgo : ∀ x, ∃ y, performAny (taken op h w s) (s.noted s op h w x) = finish (taken op h w s).id st payload (s.noted u op h w y)) :
    ∃ t, exec i s = .next t ∧ Replied h op st payload u t := by
  obtain ⟨x, hx⟩ := entered_noting op h w s
  obtain ⟨y, hy⟩ := hgo x
  refine ⟨_, (exec_packet s hp).trans ((submit_taken ht).trans (congrArg _ ((congrArg _ hx).trans hy))), ?_⟩
  exact replied_finish_noting ht hc hn hhost y

/-- A command that is refused, or ends, with its reply alone. -/
theorem completes_reply (hp : packetOf i = some (op, h, w)) (ht : TakenAtOnce op h w s)
    (hgo : ∀ x, ∃ y, performAny (taken op h w s) (s.noted s op h w x) = finish (taken op h w s).id st payload (s.noted s op h w y)) :
    Completes i s (Replied h op st payload s) :=
  completes_replied hp ht rfl rfl ht.2.2.1 hgo

/-- A command that makes u of the machine and goes on. -/
theorem completes_underWay (hp : packetOf i = some (op, h, w)) (ht : TakenAtOnce op h w s) (hc : u.pre.cmds = s.pre.cmds)
    (hn : u.pre.nextCmd = s.pre.nextCmd)
    (hgo : ∀ x, ∃ y, performAny (taken op h w s) (s.noted s op h w x) = s.noted u op h w y) :
    Completes i s (UnderWay op h w .running s u) := by
  obtain ⟨x, hx⟩ := entered_noting op h w s
  obtain ⟨y, hy⟩ := hgo x
  refine ⟨_, (exec_packet s hp).trans ((submit_taken ht).trans (congrArg _ ((congrArg _ hx).trans hy))), ?_, ?_⟩
  · show ({ u.pre with cmds := _, nextCmd := _ } : Preoft) = _
    rw [hc, hn]
    rfl
  · exact fun k hk => by cases k <;> first | rfl | simp at hk

end

/-! ## TRIG_PULSE -/

theorem mem_insertBy {α : Type} (key : α → Int) (x y : α) (l : List α) : y ∈ insertBy key x l ↔ y = x ∨ y ∈ l := by
  induction l with
  | nil => simp [insertBy]
  | cons a l ih =>
    unfold insertBy
    split
    · simp
    · simp only [List.mem_cons, ih]
      exact or_left_comm

theorem insertBy_length {α : Type} (key : α → Int) (x : α) (l : List α) : (insertBy key x l).length = l.length + 1 := by
  induction l with
  | nil => rfl
  | cons a l ih =>
    unfold insertBy
    split
    · rfl
    · simp [ih]

/-- An assertion in good time joins the schedule of an enabled pin that has room (R239). -/
theorem schedulePin_joins {p tick : Nat} {source : Option (Nat × Nat × Nat)} {s : State} (hen : s.trigOutf p 0 1 ≠ 0)
    (hroom : s.pinFull p = false) (hat : s.instNow + 1600 ≤ s.pinInst tick) :
    schedulePin p tick source s = s.modPin p (fun k => { k with
      schedule := insertBy (fun x => (x.tick : Int)) { tick := tick, at_ := s.pinInst tick, source := source } k.schedule }) := by
  unfold schedulePin
  simp only [if_neg hen, hroom, Bool.false_eq_true, if_false, if_neg (Int.not_lt.2 hat)]

section
variable {h : Hdr} {w : List Word} {s : State}

theorem completes_trigPulse_stopped (ht : TakenAtOnce 0x500 h w s) (htb : s.tb.state ≠ 2) :
    Completes (.trigPulse h w) s (Replied h 0x500 stNoTimebase [] s) := by
  refine completes_reply rfl ht (fun x => ⟨x, ?_⟩)
  show performTrigPulse _ _ = _
  have hrun : State.tbRunning (s.noted s 0x500 h w x) = false := beq_false_of_ne htb
  unfold performTrigPulse
  simp only [hrun, Bool.not_false, if_true]

theorem completes_trigPulse_refused (ht : TakenAtOnce 0x500 h w s) (htb : s.tb.state = 2)
    (hpin : s.trigOutf (pf w 0 0 3) 2 3 ≠ h.partition.toNat ∨ s.trigOutf (pf w 0 0 3) 0 1 = 0) :
    Completes (.trigPulse h w) s (Replied h 0x500 stNoResource [] s) := by
  refine completes_reply rfl ht (fun x => ⟨x, ?_⟩)
  show performTrigPulse (taken 0x500 h w s) _ = _
  have hrun : State.tbRunning (s.noted s 0x500 h w x) = true := beq_iff_eq.2 htb
  have hf (lo n : Nat) : (s.noted s 0x500 h w x).trigOutf (pf w 0 0 3) lo n = s.trigOutf (pf w 0 0 3) lo n := rfl
  unfold performTrigPulse
  simp only [hrun, Bool.not_true, Bool.false_eq_true, if_false, taken_h, taken_w, hf]
  refine if_pos ?_
  simpa using hpin

/-- The machine with a pulse of a command in the schedule of its pin. -/
def State.pulsed (s : State) (w : List Word) : State :=
  s.modPin (pf w 0 0 3) (fun k => { k with
    schedule := insertBy (fun x => (x.tick : Int)) { tick := pq w 1, at_ := s.pinInst (pq w 1), source := none } k.schedule })

theorem completes_trigPulse (ht : TakenAtOnce 0x500 h w s) (htb : s.tb.state = 2)
    (hown : s.trigOutf (pf w 0 0 3) 2 3 = h.partition.toNat) (hen : s.trigOutf (pf w 0 0 3) 0 1 = 1)
    (hroom : (s.pin (pf w 0 0 3)).schedule.length < 64) (hat : s.instNow + 1600 ≤ s.pinInst (pq w 1)) :
    ∃ t, exec (.trigPulse h w) s = .next t ∧ Replied h 0x500 stOk [] (s.pulsed w) t := by
  refine completes_replied rfl ht rfl rfl ht.2.2.1 (fun x => ⟨x, ?_⟩)
  show performTrigPulse (taken 0x500 h w s) _ = _
  have hrun : State.tbRunning (s.noted s 0x500 h w x) = true := beq_iff_eq.2 htb
  have hf (lo n : Nat) : (s.noted s 0x500 h w x).trigOutf (pf w 0 0 3) lo n = s.trigOutf (pf w 0 0 3) lo n := rfl
  have hfull : (s.noted s 0x500 h w x).pinFull (pf w 0 0 3) = false := decide_eq_false (Nat.not_le.2 hroom)
  have hjoin := schedulePin_joins (source := none) (s := s.noted s 0x500 h w x) (p := pf w 0 0 3) (tick := pq w 1)
    (by rw [hf, hen]; decide) hfull hat
  unfold performTrigPulse
  simp only [hrun, Bool.not_true, Bool.false_eq_true, if_false, taken_h, taken_w, hf, hown, hen, hfull, hjoin]
  exact if_neg (by simp)

end

/-! ## IG_COEF_LOAD -/

/-- Entry i of a table that values of two bytes were put in from entry k on. -/
theorem tget_putCoefs (k : Nat) (b : Bytes) (n : Nat) (t : Tbl Int) (i : Nat) :
    tget (putCoefs k b n t) i 0 = if k ≤ i ∧ i < k + n then sx 16 (leAt b (2 * (i - k)) 2) else tget t i 0 := by
  induction n generalizing k b t with
  | zero => rw [putCoefs, if_neg (by omega)]
  | succ m ih =>
    unfold putCoefs
    rw [ih, tget_tset]
    by_cases hik : i = k
    · subst hik
      rw [if_neg (by omega), if_pos rfl, if_pos (by omega), Nat.sub_self]
    · rw [if_neg hik]
      by_cases hr : k + 1 ≤ i ∧ i < k + 1 + m
      · rw [if_pos hr, if_pos (by omega)]
        have hdrop : leAt (b.drop 2) (2 * (i - (k + 1))) 2 = leAt b (2 * (i - k)) 2 := by
          unfold leAt sliceB
          rw [List.drop_drop, show 2 + 2 * (i - (k + 1)) = 2 * (i - k) by omega]
        rw [hdrop]
      · rw [if_neg hr, if_neg (by omega : ¬ (k ≤ i ∧ i < k + (m + 1)))]

section
variable {h : Hdr} {w : List Word} {s : State}

/-- With no channeliser enabled and none staged no coefficient is in use. -/
theorem coefs_free {s : State} (hoff : ∀ k, s.chanOn k = false) (hpend : s.pre.pending = [])
    (hset : ∀ x ∈ (s.openSet 8).cmds, x.op ≠ 0x600) (first n : Nat) :
    ((s :: s.stagedChans).any (fun t => t.coefBusy first n)) = false := by
  have hnone : (s.openSet 8).cmds.filter (fun x => x.op == 0x600) = [] :=
    List.filter_eq_nil_iff.2 (fun x hx => by simpa using hset x hx)
  have hstaged : s.stagedChans = [] := by
    unfold State.stagedChans
    simp only [hpend, List.filterMap_nil, List.flatMap_nil, List.nil_append, hnone, List.map_nil]
  rw [hstaged]
  unfold State.coefBusy
  simp [hoff]

/-- The machine with the coefficients a command carries. -/
def State.coefsLoaded (s : State) (w : List Word) : State :=
  s.modIngest (fun i => { i with coefs := putCoefs (pf w 0 0 17) (s.hostRead (pq w 2) (2 * pf w 1 0 18)) (pf w 1 0 18) i.coefs })

theorem completes_igCoefLoad (ht : TakenAtOnce 0x602 h w s) (hoff : ∀ k, s.chanOn k = false) (hpend : s.pre.pending = [])
    (hset : ∀ x ∈ (s.openSet 8).cmds, x.op ≠ 0x600) :
    ∃ t, exec (.igCoefLoad h w) s = .next t ∧ Replied h 0x602 stOk [] (s.coefsLoaded w) t := by
  refine completes_replied rfl ht rfl rfl ht.2.2.1 (fun x => ⟨x, ?_⟩)
  show performIgCoefLoad (taken 0x602 h w s) _ = _
  have hfree := coefs_free (s := s.noted s 0x602 h w x) hoff hpend hset (pf w 0 0 17) (pf w 1 0 18)
  unfold performIgCoefLoad
  simp only [taken_w, hfree, Bool.false_eq_true, if_false]
  rfl

end

/-! ## HK_SEQ -/

theorem each_zipIdx_succ {α σ : Type} (f : α → Nat → σ → σ) (l : List α) (k : Nat) (s : σ) :
    each (l.zipIdx (k + 1)) (fun x => f x.1 x.2) s = each (l.zipIdx k) (fun x => f x.1 (x.2 + 1)) s := by
  induction l generalizing k s with
  | nil => rfl
  | cons a l ih =>
    rw [List.zipIdx_cons, List.zipIdx_cons, each_cons, each_cons]
    exact ih (k + 1) _

/-- The Probe with entry words put from an entry on. -/
def putEntries (e : Nat) (ws : List Word) (p : Probe) : Probe := each ws.zipIdx (fun x q => putEntry (e + x.2) x.1 q) p

theorem putEntries_cons (e : Nat) (v : Word) (ws : List Word) (p : Probe) :
    putEntries e (v :: ws) p = putEntries (e + 1) ws (putEntry e v p) := by
  unfold putEntries
  rw [List.zipIdx_cons, each_cons]
  refine (each_zipIdx_succ (fun v k => putEntry (e + k) v) ws 0 _).trans ?_
  simp only [Nat.add_zero, Nat.add_assoc, Nat.add_comm 1]

/-- What the words put in the entries leave: those of their range, with results that are not valid, and everything else but the mean
under way. -/
theorem putEntries_spec (e : Nat) (ws : List Word) (p : Probe) : let q := putEntries e ws p
    (∀ i, i < ws.length → tget? q.entries (e + i) = some (ws.getD i 0) ∧ ∃ r, tget? q.results (e + i) = some r ∧ r.valid = false) ∧
    (∀ k, k < e ∨ e + ws.length ≤ k → tget? q.entries k = tget? p.entries k ∧ tget? q.results k = tget? p.results k) ∧
    q.alert = p.alert ∧ q.capture = p.capture ∧ q.zero = p.zero := by
  induction ws generalizing e p with
  | nil => exact ⟨fun i hi => absurd hi (Nat.not_lt_zero i), fun k _ => ⟨rfl, rfl⟩, rfl, rfl, rfl⟩
  | cons v ws ih =>
    rw [putEntries_cons]
    obtain ⟨hin, hout, halert, hcap, hzero⟩ := ih (e + 1) (putEntry e v p)
    refine ⟨fun i hi => ?_, fun k hk => ?_, halert, hcap, hzero⟩
    · cases i with
      | zero =>
        obtain ⟨he, hr⟩ := hout e (Or.inl (Nat.lt_succ_self e))
        refine ⟨he.trans (tget?_tset_same ..), { tget p.results e HkResult.none with valid := false }, ?_, rfl⟩
        exact hr.trans (tget?_tset_same ..)
      | succ j =>
        have := hin j (by simpa using hi)
        rwa [show e + 1 + j = e + (j + 1) by omega] at this
    · simp only [List.length_cons] at hk
      obtain ⟨he, hr⟩ := hout k (by omega)
      have hne : k ≠ e := by omega
      rw [he, hr]
      unfold putEntry
      simp [tget?_tset, hne]

section
variable {h : Hdr} {w : List Word} {s : State}

theorem completes_hkSeq (ht : TakenAtOnce 0x800 h w s) : ∃ t, exec (.hkSeq h w) s = .next t ∧
    Replied h 0x800 stOk [] { s with probe := putEntries (pf w 0 0 4) (w.drop 1) s.probe } t :=
  completes_replied rfl ht rfl rfl ht.2.2.1 (fun x => ⟨x, rfl⟩)

/-! ## Captures -/

/-- The machine with a capture for a command begun. -/
def State.capturing (s : State) (pin : Nat) (full : Bool) (vfs : Nat) : State :=
  { s with probe := { s.probe with
    capture := some { pin := pin, full := full, vfs := vfs, n := 0, sum := 0, spoiled := false, cmd := s.pre.nextCmd } } }

theorem completes_hkCalZero (ht : TakenAtOnce 0x801 h w s) :
    (s.probe.capture ≠ none → Completes (.hkCalZero h w) s (Replied h 0x801 stNoResource [] s)) ∧
    (s.probe.capture = none → Completes (.hkCalZero h w) s (UnderWay 0x801 h w .running s (s.capturing (pf w 0 0 3) false 0))) := by
  have hgo (x : Trace) : performAny (taken 0x801 h w s) (s.noted s 0x801 h w x) =
      if s.probe.capture.isSome then finish (taken 0x801 h w s).id stNoResource [] (s.noted s 0x801 h w x)
      else s.noted (s.capturing (pf w 0 0 3) false 0) 0x801 h w x := rfl
  refine ⟨fun hcap => completes_reply rfl ht (fun x => ⟨x, (hgo x).trans (if_pos (Option.isSome_iff_ne_none.2 hcap))⟩),
    fun hcap => completes_underWay rfl ht rfl rfl (fun x => ⟨x, (hgo x).trans (if_neg ?_)⟩)⟩
  rw [hcap]
  decide

theorem completes_hkCalFull (ht : TakenAtOnce 0x802 h w s) :
    (s.probe.capture ≠ none ∨ tget? s.probe.zero (pf w 0 0 3) = none → Completes (.hkCalFull h w) s (Replied h 0x802 stNoResource [] s)) ∧
    (s.probe.capture = none → tget? s.probe.zero (pf w 0 0 3) ≠ none →
      Completes (.hkCalFull h w) s (UnderWay 0x802 h w .running s (s.capturing (pf w 0 0 3) true (pw w 1).toNat))) := by
  have hgo (x : Trace) : performAny (taken 0x802 h w s) (s.noted s 0x802 h w x) =
      if s.probe.capture.isSome || (tget? s.probe.zero (pf w 0 0 3)).isNone then
        finish (taken 0x802 h w s).id stNoResource [] (s.noted s 0x802 h w x)
      else s.noted (s.capturing (pf w 0 0 3) true (pw w 1).toNat) 0x802 h w x := rfl
  refine ⟨fun hno => completes_reply rfl ht (fun x => ⟨x, (hgo x).trans (if_pos ?_)⟩),
    fun hcap hzero => completes_underWay rfl ht rfl rfl (fun x => ⟨x, (hgo x).trans (if_neg ?_)⟩)⟩
  · rwa [Bool.or_eq_true, Option.isSome_iff_ne_none, Option.isNone_iff_eq_none]
  · rw [Bool.or_eq_true, Option.isSome_iff_ne_none, Option.isNone_iff_eq_none]
    exact fun hor => hor.elim (fun hne => hne hcap) hzero

end

/-- Settles O49: the pulse of a pin, the coefficients, the entries of the Probe and its captures. -/
theorem pinsCoefficientsAndProbeAreCommanded : Obligations.PinsCoefficientsAndProbeAreCommanded := by
  intro h w s
  refine ⟨fun ht => ⟨completes_trigPulse_stopped ht, completes_trigPulse_refused ht, fun htb hown hen hroom hat => ?_⟩,
    fun ht hoff hpend hset => ?_, fun ht => ?_, completes_hkCalZero, completes_hkCalFull⟩
  · obtain ⟨t, hexec, hrep⟩ := completes_trigPulse ht htb hown hen hroom hat
    have htout : t.tb = (s.pulsed w).tb := hrep.2.2.tb (by simp)
    have hpin (q : Nat) : t.pin q = (s.pulsed w).pin q := by
      unfold State.pin
      rw [htout]
    have hsame : t.pin (pf w 0 0 3) = _ := (hpin _).trans ((pin_modPin ..).trans (if_pos rfl))
    refine ⟨t, hexec, ?_, fun a => ?_, ?_, ?_, fun q hq => ?_⟩
    · rw [htout]
      exact hrep
    · rw [hsame]
      exact mem_insertBy ..
    · rw [hsame]
      exact insertBy_length ..
    · rw [hsame]
    · exact (hpin q).trans ((pin_modPin ..).trans (if_neg hq))
  · obtain ⟨t, hexec, hrep⟩ := completes_igCoefLoad ht hoff hpend hset
    have hcoefs : t.ingest = (s.coefsLoaded w).ingest := hrep.2.2.ingest (by simp)
    have hput (i : Nat) : tget t.ingest.coefs i 0 = _ := (congrArg (fun g : Ingest => tget g.coefs i 0) hcoefs).trans (tget_putCoefs ..)
    refine ⟨t, hexec, ?_, fun i hi => ?_, fun i hi => ?_⟩
    · rw [hcoefs]
      exact hrep
    · rw [hput, if_pos (by omega), Nat.add_sub_cancel_left]
    · rw [hput, if_neg (by omega)]
  · obtain ⟨t, hexec, hrep⟩ := completes_hkSeq ht
    have hprobe : t.probe = putEntries (pf w 0 0 4) (w.drop 1) s.probe := hrep.2.2 .probe (by simp)
    obtain ⟨hin, hout, halert, hcap, hzero⟩ := putEntries_spec (pf w 0 0 4) (w.drop 1) s.probe
    rw [← hprobe] at hin hout halert hcap hzero hrep
    have hlen : (w.drop 1).length = w.length - 1 := List.length_drop ..
    refine ⟨t, hexec, hrep, fun i hi => ?_, fun e he => hout e (by rwa [hlen]), halert, hcap, hzero⟩
    have := hin i (by omega)
    rwa [List.getD_eq_getElem?_getD, List.getElem?_drop, Nat.add_comm 1, ← List.getD_eq_getElem?_getD] at this

end Sys2Proof.Machine
end

section
/-! PROOF. Attestation, fault reads and firmware under commands (R284, R384, R412 to R414, R418). -/

namespace Sys2Proof.Machine

open Sys2Proof.Safety

theorem padTo_length (n : Nat) (b : Bytes) : (padTo n b).length = n := by
  unfold padTo
  rw [List.length_append, List.length_take, List.length_replicate]
  omega

section
variable {h : Hdr} {w : List Word} {s : State}

/-- ATTEST writes its report and the signature over it. -/
theorem completes_attest (ht : TakenAtOnce 0x900 h w s) :
    let body := s.report (if h.fn.val = 0 then 0xFF else h.partition.toNat) (wordBytes (w.take 16))
    ∃ t, exec (.attest h w) s = .next t ∧ Replied h 0x900 stOk [w32 (body.length + 512)]
      (s.hostWrite (pq w 16) ((body ++ padTo 512 (Config.identitySign body)).take (pw w 18).toNat)) t := by
  intro body
  refine completes_replied rfl ht rfl rfl ht.2.2.1 (fun x => ⟨x, ?_⟩)
  show performAttest (taken 0x900 h w s) _ = _
  unfold performAttest
  simp only [taken_h, taken_w, List.length_append, padTo_length]
  rfl

/-- The records of the fault history a command asks for, as its issuer may see them (R384). -/
def State.faultsSeen (s : State) (h : Hdr) (w : List Word) : List FaultRec :=
  (s.crock.mirror.faults.filter (fun r => decide ((pw w 0).toNat ≤ r.index) &&
    (h.fn.val == 0 || r.partition == h.partition.toNat))).take (pw w 1).toNat

theorem completes_faultRead (ht : TakenAtOnce 0xA00 h w s) : let fit := (s.faultsSeen h w).take ((pw w 4).toNat / 64)
    Completes (.faultRead h w) s
      (Replied h 0xA00 stOk [w32 fit.length] (s.hostWrite (pq w 2) (fit.flatMap FaultRec.bytes))) :=
  completes_replied rfl ht rfl rfl ht.2.2.1 (fun x => ⟨x, rfl⟩)

theorem completes_faultExport (ht : TakenAtOnce 0xA01 h w s) : let b := s.faultCbor (s.faultsSeen h w)
    Completes (.faultExport h w) s
      (Replied h 0xA01 stOk [w32 b.length] (s.hostWrite (pq w 2) (b.take (pw w 4).toNat))) :=
  completes_replied rfl ht rfl rfl ht.2.2.1 (fun x => ⟨x, rfl⟩)

theorem completes_fwActivate (ht : TakenAtOnce 0x902 h w s) :
    (s.sec.staged = true → Completes (.fwActivate h w) s
      (Replied h 0x902 stOk [] { s with sec := { s.sec with activatePending := true } })) ∧
    (s.sec.staged = false → Completes (.fwActivate h w) s (Replied h 0x902 stNoResource [] s)) := by
  have hgo (x : Trace) : performAny (taken 0x902 h w s) (s.noted s 0x902 h w x) =
      if s.sec.staged then finish (taken 0x902 h w s).id stOk []
        (s.noted { s with sec := { s.sec with activatePending := true } } 0x902 h w x)
      else finish (taken 0x902 h w s).id stNoResource [] (s.noted s 0x902 h w x) := rfl
  exact ⟨fun hs => completes_replied rfl ht rfl rfl ht.2.2.1 (fun x => ⟨x, (hgo x).trans (if_pos hs)⟩),
    fun hs => completes_reply rfl ht (fun x => ⟨x, (hgo x).trans (if_neg (Bool.eq_false_iff.1 hs))⟩)⟩

/-! ## FW_STAGE -/

/-- What filling the spare slot leaves, and what it puts there. -/
theorem putSpare_sec {f : FwSlot} {staged : Bool} : let t := putSpare f staged s
    t = { s with sec := t.sec } ∧ t.sec.active = s.sec.active ∧ t.sec.slot s.sec.active = s.sec.slot s.sec.active ∧
    t.sec.keySlots = s.sec.keySlots ∧ t.sec.svn = s.sec.svn ∧ t.sec.card = s.sec.card ∧ t.sec.staged = staged ∧
    t.sec.activatePending = false ∧ t.sec.stagedVersion = f.version ∧
    (if t.sec.active = 0 then t.sec.slotB else t.sec.slotA) = f := by
  unfold putSpare State.modSec Security.slot
  by_cases h0 : s.sec.active = 0 <;> simp [h0]

/-- An image that is not too long is read whole. -/
theorem performFwStage_short {c : Cmd} (u : State) (hn : (pw c.w 2).toNat ≤ 8388608) : performFwStage c u =
    let n := (pw c.w 2).toNat
    let b := u.hostRead (pq c.w 0) n
    if !fwFormOk u.sec b n then finish c.id stBadParam [] u
    else if fwSound u.sec b n then finish c.id stOk [] (putSpare (fwSlotOf b) true u)
    else finish c.id stSecurity [] (putSpare (FwSlot.blank false) false u) := by
  unfold performFwStage
  simp only [if_pos hn]

/-- FW_STAGE by the two checks of its image. -/
theorem completes_fwStage (ht : TakenAtOnce 0x901 h w s) (hn : (pw w 2).toNat ≤ 8388608) :
    let n := (pw w 2).toNat
    let b := s.hostRead (pq w 0) n
    (fwFormOk s.sec b n = false → Completes (.fwStage h w) s (Replied h 0x901 stBadParam [] s)) ∧
    (fwFormOk s.sec b n = true → fwSound s.sec b n = true →
      Completes (.fwStage h w) s (Replied h 0x901 stOk [] (putSpare (fwSlotOf b) true s))) ∧
    (fwFormOk s.sec b n = true → fwSound s.sec b n = false →
      Completes (.fwStage h w) s (Replied h 0x901 stSecurity [] (putSpare (FwSlot.blank false) false s))) := by
  intro n b
  have hgo (x : Trace) : performAny (taken 0x901 h w s) (s.noted s 0x901 h w x) =
      if !fwFormOk s.sec b n then finish (taken 0x901 h w s).id stBadParam [] (s.noted s 0x901 h w x)
      else if fwSound s.sec b n then finish (taken 0x901 h w s).id stOk [] (s.noted (putSpare (fwSlotOf b) true s) 0x901 h w x)
      else finish (taken 0x901 h w s).id stSecurity [] (s.noted (putSpare (FwSlot.blank false) false s) 0x901 h w x) :=
    performFwStage_short (c := taken 0x901 h w s) _ hn
  refine ⟨fun hform => completes_reply rfl ht (fun x => ⟨x, (hgo x).trans ?_⟩),
    fun hform hsound => completes_replied rfl ht rfl rfl ht.2.2.1 (fun x => ⟨x, (hgo x).trans ?_⟩),
    fun hform hsound => completes_replied rfl ht rfl rfl ht.2.2.1 (fun x => ⟨x, (hgo x).trans ?_⟩)⟩
  · simp only [hform, Bool.not_false, if_true]
  · simp only [hform, hsound, Bool.not_true, Bool.false_eq_true, if_false, if_true]
  · simp only [hform, hsound, Bool.not_true, Bool.false_eq_true, if_false]

end

/-- Settles O50: the report, the records, the image and its activation. -/
theorem reportsFaultsAndFirmwareAreCommanded : Obligations.ReportsFaultsAndFirmwareAreCommanded := by
  intro h w s
  refine ⟨fun ht => ?_, ⟨completes_faultRead, completes_faultExport⟩, fun ht hn => ?_, completes_fwActivate⟩
  · obtain ⟨t, hexec, hrep⟩ := completes_attest ht
    exact ⟨t, hexec, _, padTo_length .., hrep⟩
  · intro n b spare kept hact
    obtain ⟨hbad, hgood, hunsound⟩ := completes_fwStage ht hn
    cases hform : fwFormOk s.sec b n
    · obtain ⟨t, hexec, hrep⟩ := hbad hform
      exact ⟨t, hexec, fun _ => hrep, fun hf => absurd hf (by decide), fun hf => absurd hf (by decide)⟩
    · cases hsound : fwSound s.sec b n
      · obtain ⟨t, hexec, hrep⟩ := hunsound hform hsound
        have hsec : t.sec = _ := hrep.2.2 .sec (by simp)
        obtain ⟨hput, hactive, hslot, hkeys, hsvn, hcard, hstaged, hpend, hver, hspare⟩ :=
          putSpare_sec (s := s) (f := FwSlot.blank false) (staged := false)
        rw [← hsec] at hput hactive hslot hkeys hsvn hcard hstaged hpend hver hspare
        rw [hput] at hrep
        refine ⟨t, hexec, fun hf => absurd hf (by decide), fun _ hs => absurd hs (by decide), fun _ _ =>
          ⟨hrep, ⟨hactive, hslot, hkeys, hsvn, hcard⟩, hstaged, ?_⟩⟩
        exact congrArg FwSlot.bootable hspare
      · obtain ⟨t, hexec, hrep⟩ := hgood hform hsound
        have hsec : t.sec = _ := hrep.2.2 .sec (by simp)
        obtain ⟨hput, hactive, hslot, hkeys, hsvn, hcard, hstaged, hpend, hver, hspare⟩ :=
          putSpare_sec (s := s) (f := fwSlotOf b) (staged := true)
        rw [← hsec] at hput hactive hslot hkeys hsvn hcard hstaged hpend hver hspare
        rw [hput] at hrep
        refine ⟨t, hexec, fun hf => absurd hf (by decide), fun _ _ =>
          ⟨hrep, ⟨hactive, hslot, hkeys, hsvn, hcard⟩, hstaged, hpend, ?_, ?_, hver⟩, fun _ hs => absurd hs (by decide)⟩
        · exact congrArg FwSlot.bootable hspare
        · exact congrArg FwSlot.version hspare

end Sys2Proof.Machine
end

section
/-! PROOF. A kernel whose accumulator slots are in use (R154, R286): KRN_SUBMIT is refused. -/

namespace Sys2Proof.Machine

open Sys2Proof.Safety

/-! ## A machine whose kernel is submitted again while it runs -/

/-- A layer of slot 0, without templates. -/
def slotLayer : Layer :=
  { loopOrder := 0, inSource := 0, outTarget := 0, inFormat := 1, useWork := false, workCounter := 0, golden := false, batch := 1, nBlocks := 1,
    kParts := 1, inStride := 4, outStride := 512, slotBase := 0, slotCount := 1, accShift := 0, homeCore := 0, inBase := 0, claimSize := 1,
    outBase := 64, partTotal := 0, actBits8 := false, zpMode := 0, scaleSource := 2, rerun := false, staticZp := 0, staticScale := 128,
    missSatFrac := 0, underusePeak := 0, satThreshold := 0, marginOrRow := 0, toFunnel := false, chain := [], templates := [] }

/-- Kernel 1 of partition 0: that layer on core 0. -/
def slotKernel : Kernel :=
  { part := 0, id := 1, level1 := false, bytes := [],
    parts := [{ core := 0, entryAtDispatch := true, banked := false, entryCounter := 0, entryValue := 0, counters := 0, actBase := 0,
                actBytes := 131072, maskBase := 0, consts := [], constDest := 0, inboxBase := 0, inboxBytes := 0, queue := none,
                steps := [.layer slotLayer] }] }

/-- Its run from line 0, whose part is resident on queue 0. -/
def slotRun : Run :=
  { ctx := 0, window := none, first256 := 0, last256 := 0, kernel := slotKernel, modelEpoch := 0, configEpoch := 0, check := 0, marks := [],
    sat := 0, left := [], deadline := 0, deadlineTk := false, dispatchClk := 0, openChecks := 0, failCause := none, tiles := [], records := 0,
    status := none, abandoned := false, consumed := false, dropped := false, satOver := false, readDone := [], parked := [] }

/-- A ready machine at level 2 with four lines for partition 0, the first of them the kernel's that runs. -/
def slotsUsed : State :=
  { State.reset with
    power := { Power.start with startup := .none, ready := true }
    host := { HostSide.start with configServed := true, level := [(0, 2)],
                                  lanes := [(0, { Lane.start with enable := true, replyEnable := true })] }
    pre := { State.reset.pre with kernels := [slotKernel], regs := [(0x504, 4)] }
    flows := { Flows.start with ctxs := [(0, { Ctx.blank 0 2 with isCmd := true, kernel := some slotKernel, run := some 1 })],
                                nextRun := 2, runs := [(1, slotRun)] }
    cores := [(0, { Core.start 0 with queues := [(0, { ctx := 0, run := 1, part := 0, step := 0, stall := .none, loop := none, readout := none,
                                                        progressClk := 0, resumptions := 0, entryClk := 0, stallClk := 0 })] })] }

/-- Kernel 1, a deadline of 10 ticks. -/
def slotWords : List Word := [1, 10, 0, 0, 0, 0]

theorem takenAtOnce_slotsUsed : TakenAtOnce 0x300 statusHdr slotWords slotsUsed := by
  unfold TakenAtOnce
  and_intros <;> decide +kernel

/-- The checks that the statement names find nothing; a line is free; the slot is in use. -/
theorem slotsUsed_passes : slotsUsed.kernel? 0 1 = some slotKernel ∧
    inputFits { taken 0x300 statusHdr slotWords slotsUsed with wait := .running } slotKernel = true ∧
    modelCheck slotsUsed false true slotKernel = none ∧ useCheck slotsUsed slotKernel = none ∧
    slotsUsed.contextFits 0 (inboxBytes slotKernel) = true ∧ (slotsUsed.freeLines 0).head? = some 1 ∧
    slotsUsed.slotsClear slotKernel = false := by
  and_intros <;> decide +kernel

/-- The commands under way after a step. -/
def underWayAfter : Answer → Nat
  | .next t => t.pre.cmds.length
  | _ => 0

theorem underWayAfter_slotsUsed : underWayAfter (exec (.krnSubmit statusHdr slotWords) slotsUsed) = 0 := by decide +kernel

/-- Refutes O48: the premises of the KRN_SUBMIT clause leave out that the accumulator slots of the kernel are clear. Where a resident part
on its core has a layer of the same slot, as when the kernel is submitted again while it runs, the command is not under way: it is
refused with NO_RESOURCE. -/
theorem not_flowsKernelsAndCountersAreCommanded : ¬ Obligations.FlowsKernelsAndCountersAreCommanded := by
  intro hall
  obtain ⟨-, -, -, -, -, hsubmit⟩ := hall statusHdr slotWords slotsUsed
  obtain ⟨hk, hinput, hmodel, huse, hfits, hline, -⟩ := slotsUsed_passes
  obtain ⟨t, hexec, c, ⟨hpre, -⟩, -⟩ := hsubmit slotKernel 1 takenAtOnce_slotsUsed rfl hk rfl hinput hmodel huse hfits hline
  have hnone := underWayAfter_slotsUsed
  rw [hexec] at hnone
  have hsome : t.pre.cmds.length ≠ 0 := by rw [hpre]; simp
  exact hsome hnone

end Sys2Proof.Machine
end

section
/-! PROOF. The end of a Closing flow (R253). -/

namespace Sys2Proof.Machine

open Sys2Proof.Safety

section
variable {f : Nat} {s : State} {c : Ctx} {z : Closing}

theorem closingDone_iff (hc : s.ctx? f = some c) (hz : c.closing = some z) (hready : c.ready = []) :
    s.closingDone f = c.run.isNone := by
  unfold State.closingDone
  simp [hc, hz, hready]

/-- A flow that does not drain forms no window. -/
theorem mayForm_undrained (hc : s.ctx? f = some c) (hz : c.closing = some z) (hd : z.drain = false) :
    s.mayForm f = false := by
  have hopen (u : State) : u.openWindows (followGrids s c) = [] := by
    unfold State.openWindows followGrids
    simp [hz, hd]
  have hset : (s.setCtx f (followGrids s c)).ctx? f = some (followGrids s c) := tget?_tset_same ..
  unfold State.mayForm nextWin
  simp only [hc, hopen]
  split
  next s1 hw =>
    split at hw
    · have hs1 : s1 = s := (congrArg Prod.fst hw).symm
      rw [hs1, hc]
      simp [hz, hd]
    · have hs1 : s1 = s.setCtx f (followGrids s c) := (congrArg Prod.fst hw).symm
      rw [hs1, hset]
      simp [followGrids, hz, hd]
  next hw =>
    exfalso
    split at hw
    · exact hw s rfl
    · exact hw _ rfl

/-- The machine without a context: its line, its saves in the Stockpot and the signals that wait there. -/
def State.flowFreed (s : State) (f : Nat) : State :=
  freeSpill f (s.modFlows (fun x => { x with ctxs := tdel x.ctxs f, pot := x.pot.filter (fun q => q.ctx ≠ f) }))

theorem finishClosing_eq (hc : s.ctx? f = some c) (hz : c.closing = some z) :
    finishClosing f s = finishOpt z.cmd stOk [w32 z.cancelled] (s.flowFreed f) := by
  unfold finishClosing
  simp only [hc, hz]
  rfl

theorem ctx?_flowFreed (f g : Nat) (s : State) : (s.flowFreed f).ctx? g = if g = f then none else s.ctx? g := tget?_tdel ..

theorem flowFreed_same (f : Nat) (s : State) : SameBut [.flows] s (s.flowFreed f) :=
  (modFlows_same _ s).trans (modFlows_same _ _)

theorem exec_flowClosed {f : Fin 16384} (hs : Serving s) (hc : s.ctx? f = some c) (hz : c.closing = some z)
    (hd : z.drain = false) (hready : c.ready = []) :
    exec (.flowClosed f) s = .next (if c.run.isNone then finishOpt z.cmd stOk [w32 z.cancelled] (s.flowFreed f) else s) := by
  refine (ifDue_of (f := closeIfDone f.val) hs).trans (congrArg _ ?_)
  unfold closeIfDone
  rw [closingDone_iff hc hz hready, mayForm_undrained hc hz hd, Bool.not_false, Bool.and_true, finishClosing_eq hc hz]

end

/-- Settles O41: a flow without a window in progress is freed, and its FLOW_CLOSE replied to. -/
theorem closingFlowsEnd : Obligations.ClosingFlowsEnd := by
  intro f s c z cmd hs hc _ hz hd hready
  have hgo := exec_flowClosed hs hc hz hd hready
  refine ⟨fun hrun => ?_, fun hrun hcmds hid hring => ?_⟩
  · rwa [if_neg (by rwa [Option.isNone_iff_eq_none])] at hgo
  · rw [hrun, hid] at hgo
    have hfind : (s.flowFreed f).cmd? cmd.id = some cmd := by
      show s.pre.cmds.find? _ = _
      rw [hcmds]
      simp
    obtain ⟨hhost, hpre, hsame⟩ := finish_found (st := stOk) (payload := [w32 z.cancelled]) (u := s.flowFreed f) hfind hring
    have hflows : (finish cmd.id stOk [w32 z.cancelled] (s.flowFreed f)).flows = (s.flowFreed f).flows := hsame.flows (by simp)
    have hctx (g : Nat) : (finish cmd.id stOk [w32 z.cancelled] (s.flowFreed f)).ctx? g = if g = f then none else s.ctx? g :=
      (hsame.ctx? (by simp) g).trans (ctx?_flowFreed ..)
    refine ⟨_, hgo, (hctx f).trans (if_pos rfl), fun g hg => (hctx g).trans (if_neg hg), ?_, hhost, ?_, ?_,
      ((flowFreed_same f s).mono (by simp)).trans (hsame.mono (by simp))⟩
    · refine hpre.trans ?_
      show { s.pre with cmds := s.pre.cmds.filter (fun x => x.id ≠ cmd.id) } = { s.pre with cmds := [] }
      rw [hcmds]
      simp
    · show (finish cmd.id stOk [w32 z.cancelled] (s.flowFreed f)).flows.runs = s.flows.runs
      rw [hflows]
      rfl
    · intro e he
      have he' : e ∈ (s.flowFreed f).flows.spillLines := (congrArg Flows.spillLines hflows) ▸ he
      simpa [State.flowFreed, freeSpill, State.modFlows] using he'

end Sys2Proof.Machine
end

section
/-! PROOF. Lanes that lock and lose lock (R217, R219, R369, R370). -/

namespace Sys2Proof.Machine

open Sys2Proof.Safety

/-! ## Links -/

theorem link_modLink (n m : Nat) (g : Link → Link) (s : State) :
    (s.modLink n g).link m = if m = n then g (s.link n) else s.link m := by
  unfold State.modLink State.link
  exact tget_tset ..

theorem modLink_same (n : Nat) (g : Link → Link) (s : State) : SameBut [.ingest] s (s.modLink n g) := by
  intro p hp; cases p <;> first | rfl | simp at hp

theorem modLink_modLink (n : Nat) (f g : Link → Link) (s : State) :
    (s.modLink n f).modLink n g = s.modLink n (fun l => g (f l)) := by
  have hlink : (s.modLink n f).link n = f (s.link n) := (link_modLink ..).trans (if_pos rfl)
  show { s.modLink n f with ingest := { (s.modLink n f).ingest with
    links := tset (s.modLink n f).ingest.links n (g ((s.modLink n f).link n)) } } = _
  rw [hlink]
  show { s with ingest := { s.ingest with links := tset (tset s.ingest.links n (f (s.link n))) n (g (f (s.link n))) } } = _
  rw [tset_tset]
  rfl

/-- Whether a link may come up does not depend on its state or its lanes' locks. -/
theorem linkOk_modLink {n : Nat} {g : Link → Link} (hchan : ∀ l, (g l).chan = l.chan ∧ (g l).chanMap = l.chanMap) (s : State) (m : Nat) :
    (s.modLink n g).linkOk m = s.linkOk m := by
  have hagree : LinksAgree s (s.modLink n g) := by
    refine ⟨⟨rfl, fun k => ?_⟩, fun _ _ _ _ _ _ => rfl⟩
    rw [link_modLink]
    split
    next hk =>
      subst hk
      exact hchan _
    next => exact ⟨rfl, rfl⟩
  have hrate := rateOk_agree hagree
  unfold State.linkOk
  rw [hrate]
  rfl

theorem link_linkFault (n m : Nat) (s : State) :
    (linkFault n s).link m = if m = n then { s.link n with state := 3, laneLock := 0 } else s.link m := link_modLink ..

theorem linkBad_same (n : Nat) (s : State) : SameBut [.ingest, .trace, .funnels, .power] s (linkBad n s) :=
  ((modLink_same n _ s).mono (by simp)).trans ((raiseDev_same _ _ _).mono (by simp))

theorem SameBut.link {L : List Piece} {s t : State} (h : SameBut L s t) (hp : Piece.ingest ∉ L) (n : Nat) : t.link n = s.link n := by
  unfold State.link
  rw [SameBut.ingest h hp]

theorem linkBad_state (n : Nat) (s : State) : ((linkBad n s).link n).state = 3 := by
  have hsame := SameBut.link (raiseDev_same noUnit (ev 0x10 2 noFault n 0 0 0) (linkFault n s)) (by simp) n
  rw [linkBad, hsame, link_linkFault, if_pos rfl]

/-! ## A lane that locks -/

section
variable {lane : Fin 16} {s : State} {n : Nat}

/-- A link with the lock of one more lane. -/
def laneLocked (lane : Nat) (l : Link) : Link := { l with laneLock := setBit l.laneLock lane }

theorem laneLocked_chan (lane : Nat) (l : Link) : (laneLocked lane l).chan = l.chan ∧ (laneLocked lane l).chanMap = l.chanMap := ⟨rfl, rfl⟩

theorem exec_laneSyncLock (hs : Serving s) (hfatal : s.power.fatal = false) (hclk : s.power.refclkLost = false)
    (hlink : s.laneLink? lane = some n) (hret : s.laneRetired lane = false) (hstate : (s.link n).state = 1) (hprov : s.ingest.provisional = []) :
    exec (.laneSyncLock lane) s = .next (tryUp n (s.modLink n (laneLocked lane))) := by
  have hdue : (s.served && !s.power.fatal && !s.power.refclkLost && (s.link n).state == 1 && !s.laneRetired lane.val) = true := by
    rw [show s.served = true from hs, hfatal, hclk, hstate, hret]
    rfl
  have hproven : laneProven lane.val s = s := by
    unfold laneProven
    rw [hprov]
    rfl
  show execLaneSyncLock lane s = _
  unfold execLaneSyncLock
  simp only [hlink, hdue, ifDue, if_true, hproven]
  rfl

/-- Every lane of the link is locked with this one. -/
def State.lastLane (s : State) (n lane : Nat) : Prop :=
  s.tb.state = 2 ∧ ∀ k ∈ s.linkLanes n, k = lane ∨ bitN (s.link n).laneLock k = true

/-- A link comes up with its last lane, where its parameters stand, and faults where they do not. -/
theorem tryUp_eq {u : State} (hstate : (u.link n).state = 1) : tryUp n u =
    if (u.tbRunning && (u.linkLanes n).all (fun k => bitN (u.link n).laneLock k)) = true then
      (if u.linkOk n = true then u.modLink n (fun l => { l with state := 2 }) else linkBad n u)
    else u := by
  unfold tryUp
  simp only [hstate, decide_true, Bool.true_and]

theorem lastLane_iff : s.lastLane n lane ↔ ((s.modLink n (laneLocked lane)).tbRunning &&
    ((s.modLink n (laneLocked lane)).linkLanes n).all (fun k => bitN ((s.modLink n (laneLocked lane)).link n).laneLock k)) = true := by
  have hlink : (s.modLink n (laneLocked lane)).link n = laneLocked lane (s.link n) := (link_modLink ..).trans (if_pos rfl)
  have hlanes : (s.modLink n (laneLocked lane)).linkLanes n = s.linkLanes n := rfl
  have htb : (s.modLink n (laneLocked lane)).tbRunning = (s.tb.state == 2) := rfl
  rw [hlink, hlanes, htb]
  unfold State.lastLane laneLocked
  simp [bitN_setBit]

/-- Settles the first clause of O37: a lane locks, and the last one brings its link up. -/
theorem completes_laneSyncLock (hs : Serving s) (hfatal : s.power.fatal = false) (hclk : s.power.refclkLost = false)
    (hlink : s.laneLink? lane = some n) (hret : s.laneRetired lane = false) (hstate : (s.link n).state = 1) (hprov : s.ingest.provisional = []) :
    Completes (.laneSyncLock lane) s (fun t =>
      (¬ s.lastLane n lane → t = s.modLink n (laneLocked lane)) ∧
      (s.lastLane n lane → s.linkOk n = true → t.link n = { s.link n with state := 2, laneLock := setBit (s.link n).laneLock lane.val } ∧
        (∀ m, m ≠ n → t.link m = s.link m) ∧ SameBut [.ingest] s t) ∧
      (s.lastLane n lane → s.linkOk n = false → (t.link n).state = 3)) := by
  refine ⟨_, exec_laneSyncLock hs hfatal hclk hlink hret hstate hprov, ?_⟩
  have hok : (s.modLink n (laneLocked lane)).linkOk n = s.linkOk n := 
    linkOk_modLink (g := laneLocked lane) (fun l => laneLocked_chan lane l) s n
  have hlink : (s.modLink n (laneLocked lane)).link n = laneLocked lane (s.link n) := (link_modLink ..).trans (if_pos rfl)
  rw [tryUp_eq (by rw [hlink]; exact hstate), hok]
  refine ⟨fun hno => if_neg (fun hall => hno (lastLane_iff.2 hall)), fun hlast hup => ?_, fun hlast hup => ?_⟩
  · rw [if_pos (lastLane_iff.1 hlast), if_pos hup, modLink_modLink]
    refine ⟨(link_modLink ..).trans (if_pos rfl), fun m hm => (link_modLink ..).trans (if_neg hm), modLink_same _ _ _⟩
  · rw [if_pos (lastLane_iff.1 hlast), hup, if_neg (by decide)]
    exact linkBad_state ..

end

/-! ## Faults of a unit within a day -/

theorem foldl_unrestored {l : List FaultRec} (h : ∀ r ∈ l, r.outcome ≠ 5) (acc : List FaultRec) :
    l.foldl (fun acc r => if r.outcome = 5 then [] else acc ++ [r]) acc = acc ++ l := by
  induction l generalizing acc with
  | nil => simp
  | cons r l ih =>
    obtain ⟨hr, hl⟩ := List.forall_mem_cons.1 h
    rw [List.foldl_cons, if_neg hr, ih hl, List.append_assoc, List.singleton_append]

/-- The attributed faults of a unit within 86,400 s, where none was restored. -/
def State.recent (s : State) (u : Unit) : List FaultRec :=
  s.crock.mirror.faults.filter (fun r => u.of r && decide (r.outcome ≤ 2) && decide (s.powerS ≤ r.powerS + 86400))

theorem count24_unrestored {s : State} (u : Unit) (h : ∀ r ∈ s.crock.mirror.faults, r.outcome ≠ 5) : s.count24 u = (s.recent u).length := by
  unfold State.count24 State.recent
  simp only
  rw [foldl_unrestored (fun r hr => h r (List.mem_filter.1 hr).1), List.nil_append, List.filter_filter]
  refine congrArg List.length (List.filter_congr (fun r _ => ?_))
  cases u.of r <;> simp

/-- The faults of a lane, named by the fields of its unit. -/
theorem recent_uLane (l : Nat) (s : State) : s.recent (uLane l) = s.crock.mirror.faults.filter (fun r =>
    r.unitKind == 5 && r.lane == l && r.core == 0 && r.tile == 63 && r.column == 1023 && decide (r.outcome ≤ 2) &&
      decide (s.powerS ≤ r.powerS + 86400)) := by
  refine List.filter_congr (fun r _ => ?_)
  have hof : (uLane l).of r = (r.unitKind == 5 && r.lane == l && r.core == 0 && r.tile == 63 && r.column == 1023) := by
    show (r.unitKind == 5 && r.core == 0 && r.tile == 63 && r.column == 1023 && r.lane == l) = _
    ac_rfl
  rw [hof]

section
variable (u : Unit) (kind : Nat) {outcome : Nat} (w : Work) (d : Nat) {s : State}

/-- One record more of a unit, of a fault now. -/
theorem count24_added {v : State} {r : FaultRec} (hfaults : v.crock.mirror.faults = s.crock.mirror.faults ++ [r])
    (hpower : v.powerS = s.powerS) (hr : u.of r = true) (hout : r.outcome ≤ 2) (hnow : r.powerS = s.powerS)
    (h : ∀ r ∈ s.crock.mirror.faults, r.outcome ≠ 5) : v.count24 u = (s.recent u).length + 1 := by
  have hnone : ∀ x ∈ v.crock.mirror.faults, x.outcome ≠ 5 := by
    rw [hfaults]
    intro x hx
    obtain hx | hx := List.mem_append.1 hx
    · exact h x hx
    · rw [List.mem_singleton.1 hx]
      omega
  have hlast : (u.of r && decide (r.outcome ≤ 2) && decide (s.powerS ≤ r.powerS + 86400)) = true := by
    simp [hr, hout, hnow]
  rw [count24_unrestored u hnone]
  unfold State.recent
  rw [hfaults, hpower, List.filter_append, List.length_append, List.filter_cons, if_pos hlast]
  rfl

/-- The machine that has recorded and counted a fault. -/
def State.faulted (s : State) (u : Unit) (kind outcome : Nat) (w : Work) (d : Nat) : State :=
  count (devCtr 4) 1 (addRecord u kind outcome (s.unitPart u) w d 0 s).2

theorem faulted_crock (hroom : s.crock.mirror.faults.length < 1024) : (s.faulted u kind outcome w d).crock =
    { s.crock with mirror := { s.crock.mirror with
      faults := s.crock.mirror.faults ++ [recordOf u kind outcome (s.unitPart u) w d 0 s]
      nextFault := s.crock.mirror.nextFault + 1 }, dirty := true } := by
  have hcrock : (s.faulted u kind outcome w d).crock = _ := SameBut.crock (count_same _ _ _) (by simp)
  rw [hcrock, addRecord_room _ _ _ _ _ _ _ hroom]
  rfl

theorem faulted_same : SameBut [.draw, .crock, .trace, .funnels, .power, .counters] s (s.faulted u kind outcome w d) :=
  ((addRecord_same _ _ _ _ _ _ _ s).mono (by simp)).trans ((count_same _ _ _).mono (by simp))

theorem faulted_count24 (houtcome : outcome ≤ 2) (hroom : s.crock.mirror.faults.length < 1024)
    (h : ∀ r ∈ s.crock.mirror.faults, r.outcome ≠ 5) : (s.faulted u kind outcome w d).count24 u = (s.recent u).length + 1 := by
  have hcrock := faulted_crock u kind w d (outcome := outcome) hroom
  refine count24_added u (r := recordOf u kind outcome (s.unitPart u) w d 0 s) (by rw [hcrock]) ?_ ?_ houtcome rfl h
  · unfold State.powerS
    rw [hcrock, (faulted_same u kind w d).clk (by simp)]
  · simp [Unit.of, recordOf]

/-- A fault of a lane is reported, and retires it where it is the third of a day (R369, R370). -/
theorem attribute_lane {l : Nat} (houtcome : outcome ≤ 2) (hroom : s.crock.mirror.faults.length < 1024)
    (h : ∀ r ∈ s.crock.mirror.faults, r.outcome ≠ 5) : attribute_ (uLane l) kind outcome w d false false s =
    if 2 ≤ (s.recent (uLane l)).length then retireLane l kind w d (reported (uLane l) kind outcome w d s)
    else reported (uLane l) kind outcome w d s := by
  have hcount := faulted_count24 (uLane l) kind w d houtcome hroom h
  have hgo : attribute_ (uLane l) kind outcome w d false false s =
      if 3 ≤ (s.faulted (uLane l) kind outcome w d).count24 (uLane l) then
        retireLane l kind w d (reported (uLane l) kind outcome w d s)
      else reported (uLane l) kind outcome w d s := by
    unfold attribute_
    simp only [Bool.false_or, decide_eq_true_eq]
    rfl
  rw [hgo, hcount]
  exact ite_congr (propext (by omega)) (fun _ => rfl) (fun _ => rfl)

end

/-! ## A lane that is retired -/

/-- The last record of the history after one is written, be it full. -/
theorem addRecord_last (u : Unit) (kind outcome part : Nat) (w : Work) (d a : Nat) (s : State) :
    recordOf u kind outcome part w d a s ∈ (addRecord u kind outcome part w d a s).2.crock.mirror.faults ∧
    (addRecord u kind outcome part w d a s).2.crock.mirror.retired = s.crock.mirror.retired := by
  have hlist : (addRecord u kind outcome part w d a s).2.crock = (s.nextDraw.modMirror (fun j =>
      { j with faults := (if 1024 ≤ j.faults.length then j.faults.drop 1 else j.faults) ++ [recordOf u kind outcome part w d a s],
               nextFault := s.crock.mirror.nextFault + 1 })).crock := by
    unfold addRecord
    simp only
    split
    · split
      · exact SameBut.crock (raiseDev_same _ _ _) (by simp)
      · rfl
    · rfl
  rw [hlist]
  exact ⟨by simp [State.modMirror], rfl⟩

/-- The links a list of faults stops. -/
theorem link_each_linkFault (l : List Nat) (n : Nat) (s : State) :
    (each l linkFault s).link n = if n ∈ l then { s.link n with state := 3, laneLock := 0 } else s.link n := by
  induction l generalizing s with
  | nil => simp
  | cons a l ih =>
    rw [each_cons, ih, link_linkFault]
    by_cases hna : n = a
    · subst hna
      simp
    · simp [hna]

section
variable {l kind d : Nat} {w : Work} {s : State}

/-- A lane on the retirement list with its record and event (R377). -/
def State.laneListed (s : State) (l kind : Nat) (w : Work) (d : Nat) : State :=
  raiseRetired (uLane l) kind w d (s.modMirror (fun j =>
    { j with retired := j.retired ++ [{ core := 0, tile := 63, column := 1023, lane := l, kind := 3 }] }))

theorem retireLane_eq (h : s.laneRetired l = false) : retireLane l kind w d s =
    each ((upTo 4).filter (fun n => s.linkOn n && (s.linkLanes n).contains l)) linkFault (s.laneListed l kind w d) := by
  unfold retireLane
  rw [h]
  rfl

theorem laneListed_same (l kind : Nat) (w : Work) (d : Nat) (s : State) :
    SameBut [.draw, .crock, .trace, .funnels, .power] s (s.laneListed l kind w d) :=
  ((modMirror_same _ s).mono (by simp)).trans
    ((addRecord_same _ _ _ _ _ _ _ _).trans ((raiseUnit_same _ _ _ _).mono (by simp)))

theorem laneListed_crock (l kind : Nat) (w : Work) (d : Nat) (s : State) : let t := s.laneListed l kind w d
    t.laneRetired l = true ∧
    ∃ r ∈ t.crock.mirror.faults, r.kind = kind ∧ r.unitKind = 5 ∧ r.lane = l ∧ r.partition = s.unitPart (uLane l) := by
  intro t
  generalize hv : s.modMirror (fun j =>
    { j with retired := j.retired ++ [{ core := 0, tile := 63, column := 1023, lane := l, kind := 3 }] }) = v
  obtain ⟨hmem, hret⟩ := addRecord_last (uLane l) kind 4 (v.unitPart (uLane l)) w d 0 v
  have ht : t = raiseRetired (uLane l) kind w d v := by rw [← hv]; rfl
  have hcrock : t.crock = (addRecord (uLane l) kind 4 (v.unitPart (uLane l)) w d 0 v).2.crock := by
    rw [ht]
    exact SameBut.crock (raiseUnit_same _ _ _ _) (by simp)
  refine ⟨?_, _, by rw [hcrock]; exact hmem, rfl, rfl, rfl, ?_⟩
  · unfold State.laneRetired
    rw [hcrock, hret, ← hv]
    simp [State.modMirror]
  · rw [← hv]
    rfl

theorem each_linkFault_same (ns : List Nat) (s : State) : SameBut [.ingest] s (each ns linkFault s) :=
  SameBut.each ns (fun n u => modLink_same n _ u) s

/-- A lane that was in service is retired with a record, and the links that use it fault (R377). -/
theorem retireLane_spec (h : s.laneRetired l = false) : let t := retireLane l kind w d s
    t.laneRetired l = true ∧
    (∃ r ∈ t.crock.mirror.faults, r.kind = kind ∧ r.unitKind = 5 ∧ r.lane = l ∧ r.partition = s.unitPart (uLane l)) ∧
    (∀ n, n < 4 → s.linkOn n = true → l ∈ s.linkLanes n → (t.link n).state = 3) ∧
    SameBut [.draw, .crock, .trace, .funnels, .power, .ingest] s t := by
  intro t
  have ht : t = _ := retireLane_eq h
  obtain ⟨hret, hrec⟩ := laneListed_crock l kind w d s
  have hsame := laneListed_same l kind w d s
  have hfault := each_linkFault_same ((upTo 4).filter (fun n => s.linkOn n && (s.linkLanes n).contains l)) (s.laneListed l kind w d)
  rw [← ht] at hfault
  have hcrock : t.crock = (s.laneListed l kind w d).crock := hfault.crock (by simp)
  refine ⟨?_, by rw [hcrock]; exact hrec, fun n hn hon hl => ?_, (hsame.mono (by simp)).trans (hfault.mono (by simp))⟩
  · unfold State.laneRetired at hret ⊢
    rw [hcrock]
    exact hret
  · have hmem : n ∈ (upTo 4).filter (fun n => s.linkOn n && (s.linkLanes n).contains l) := by
      rw [List.mem_filter, mem_upTo]
      exact ⟨hn, by simp [hon, hl]⟩
    rw [ht, link_each_linkFault, if_pos hmem]

end

/-! ## A lane that loses lock -/

section
variable {lane : Fin 16} {s : State} {n : Nat}

theorem laneLink?_spec (h : s.laneLink? lane = some n) : n < 4 ∧ s.linkOn n = true ∧ lane.val ∈ s.linkLanes n := by
  have hp := List.find?_some h
  have hm := List.mem_of_find?_eq_some h
  rw [Bool.and_eq_true] at hp
  exact ⟨mem_upTo.1 hm, hp.1, by simpa using hp.2⟩

theorem unitPart_uLane {l : Nat} (h : s.laneLink? l = some n) : s.unitPart (uLane l) = s.linkPart n := by
  have hfind : (upTo 4).find? (fun n => s.linkOn n && (s.linkLanes n).contains l) = some n := h
  unfold State.unitPart
  rw [if_neg (show ¬ (uLane l).kind ≤ 4 from by show ¬ 5 ≤ 4; decide), if_pos (show (uLane l).kind = 5 from rfl)]
  simp only [show (uLane l).lane = l from rfl, hfind]

/-- The machine whose link is without a lane, the loss counted. -/
def State.laneLost (s : State) (n lane : Nat) : State :=
  count (linkCtr n 1) 1 (s.modLink n (fun l => { l with
    state := if (s.link n).state == 2 then 1 else l.state, laneLock := clrBit l.laneLock lane }))

theorem laneLost_same (s : State) (n lane : Nat) : SameBut [.ingest, .counters] s (s.laneLost n lane) :=
  ((modLink_same _ _ s).mono (by simp)).trans ((count_same _ _ _).mono (by simp))

theorem link_laneLost (s : State) (n lane : Nat) : (s.laneLost n lane).link n = { s.link n with
    state := (if (s.link n).state = 2 then 1 else (s.link n).state), laneLock := clrBit (s.link n).laneLock lane } := by
  have h := SameBut.link (count_same (linkCtr n 1) 1 (s.modLink n (fun l => { l with
    state := if (s.link n).state == 2 then 1 else l.state, laneLock := clrBit l.laneLock lane }))) (by simp) n
  rw [State.laneLost, h, link_modLink, if_pos rfl]
  simp only [beq_iff_eq]

theorem exec_laneLockLoss (hs : Serving s) (hfatal : s.power.fatal = false) (hlink : s.laneLink? lane = some n)
    (hlock : bitN (s.link n).laneLock lane.val = true) : exec (.laneLockLoss lane) s = .next (attribute_ (uLane lane) 12 0 noWork
      ((s.laneLost n lane).counter (laneCtr lane) % 2 ^ 32) false false (s.laneLost n lane)) := by
  have hdue : (s.served && !s.power.fatal && bitN (s.link n).laneLock lane.val) = true := by
    rw [show s.served = true from hs, hfatal, hlock]
    rfl
  show execLaneLockLoss lane s = _
  unfold execLaneLockLoss
  simp only [hlink, hdue, ifDue, if_true]
  rfl

end

/-- What a report of a lane's fault leaves: its record, the retirement list as it was, one counter counted. -/
theorem reported_lane {l kind outcome d : Nat} {w : Work} {s : State} (hroom : s.crock.mirror.faults.length < 1024) :
    let t := reported (uLane l) kind outcome w d s
    t.laneRetired l = s.laneRetired l ∧
    (∃ r ∈ t.crock.mirror.faults, r.kind = kind ∧ r.unitKind = 5 ∧ r.lane = l ∧ r.partition = s.unitPart (uLane l)) ∧
    (∀ off, off ≠ devCtr 4 → t.counter off = s.counter off) ∧ t.unitPart (uLane l) = s.unitPart (uLane l) := by
  intro t
  have hcrock : t.crock = _ := reported_crock (uLane l) kind outcome w d
  rw [addRecord_room _ _ _ _ _ _ _ hroom] at hcrock
  have hrep := reported_same (uLane l) kind outcome w d (s := s)
  refine ⟨?_, ⟨recordOf (uLane l) kind outcome (s.unitPart (uLane l)) w d 0 s, ?_, rfl, rfl, rfl, rfl⟩, fun off hoff => ?_, ?_⟩
  · unfold State.laneRetired
    rw [hcrock]
    rfl
  · rw [hcrock]
    simp [State.modMirror]
  · exact (SameBut.counter (raiseUnit_same _ _ _ _) (by simp) off).trans
      ((counter_count_other _ _ _ _ hoff).trans (SameBut.counter (addRecord_same _ _ _ _ _ _ _ s) (by simp) off))
  · have hreg (off lo k : Nat) : t.regf off lo k = s.regf off lo k := hrep.regf (by simp) off lo k
    unfold State.unitPart State.linkPart State.linkOn State.linkLanes State.linkL State.corePartNo State.corePart? State.partOn
      State.partCores State.linkf
    simp only [hreg]

/-- Settles O37: a lane that locks brings its link up with the last one; one that loses lock is attributed, and the third time of a day
retired. -/
theorem linksLockAndLoseLock : Obligations.LinksLockAndLoseLock := by
  intro lane s n hs hfatal hclk hn hlink hret
  refine ⟨fun hstate hprov => ?_, fun hlock hfive hroom => ?_⟩
  · obtain ⟨t, hexec, hno, hup, hbad⟩ := completes_laneSyncLock hs hfatal hclk hlink hret hstate hprov
    exact ⟨t, hexec, hno, hup, hbad⟩
  · have hexec := exec_laneLockLoss hs hfatal hlink hlock
    generalize (s.laneLost n lane).counter (laneCtr lane) % 2 ^ 32 = d at hexec
    have hlost := laneLost_same s n lane
    have hcrock : (s.laneLost n lane).crock = s.crock := hlost.crock (by simp)
    have hpart : (s.laneLost n lane).unitPart (uLane lane) = s.linkPart n := unitPart_uLane hlink
    have hrecent : (s.laneLost n lane).recent (uLane lane) = s.recent (uLane lane) := by
      unfold State.recent State.powerS
      rw [hcrock, hlost.clk (by simp)]
    rw [attribute_lane 12 noWork d (by decide) (by rw [hcrock]; exact hroom) (by rw [hcrock]; exact hfive), hrecent, recent_uLane] at hexec
    have hcount : (s.laneLost n lane).counter (linkCtr n 1) = min (s.counter (linkCtr n 1) + 1) (counterMax (linkCtr n 1)) :=
      counter_count _ _ _ (by decide)
    have hrep := reported_same (uLane lane) 12 0 noWork d (s := s.laneLost n lane)
    obtain ⟨hrret, hrrec, hrcount, hrpart⟩ := reported_lane (l := lane) (kind := 12) (outcome := 0) (d := d) (w := noWork)
      (s := s.laneLost n lane) (by rw [hcrock]; exact hroom)
    have hret' : (reported (uLane lane) 12 0 noWork d (s.laneLost n lane)).laneRetired lane = false := by
      rw [hrret]
      unfold State.laneRetired at hret ⊢
      rwa [hcrock]
    have hcounter : (reported (uLane lane) 12 0 noWork d (s.laneLost n lane)).counter (linkCtr n 1) =
        min (s.counter (linkCtr n 1) + 1) (counterMax (linkCtr n 1)) :=
      (hrcount _ (by unfold linkCtr devCtr; omega)).trans hcount
    have hframe : SameBut [.draw, .power, .crock, .ingest, .funnels, .trace, .counters] s
        (reported (uLane lane) 12 0 noWork d (s.laneLost n lane)) := (hlost.mono (by simp)).trans (hrep.mono (by simp))
    rw [hpart] at hrrec hrpart
    have hrlink : (reported (uLane lane) 12 0 noWork d (s.laneLost n lane)).link n = _ :=
      (SameBut.link hrep (by simp) n).trans (link_laneLost s n lane)
    generalize reported (uLane lane) 12 0 noWork d (s.laneLost n lane) = v at *
    by_cases hmine : 2 ≤ (s.crock.mirror.faults.filter (fun r => r.unitKind == 5 && r.lane == lane.val && r.core == 0 && r.tile == 63 &&
        r.column == 1023 && decide (r.outcome ≤ 2) && decide (s.powerS ≤ r.powerS + 86400))).length
    · rw [if_pos hmine] at hexec
      obtain ⟨hon, hlane⟩ := (laneLink?_spec hlink).2
      obtain ⟨htret, htrec, htstate, htsame⟩ := retireLane_spec (kind := 12) (d := d) (w := noWork) hret'
      refine ⟨_, hexec, ?_, ?_, fun hless => absurd hmine (Nat.not_le.2 hless), fun _ => ⟨?_, htret⟩,
        hframe.trans (htsame.mono (by simp))⟩
      · obtain ⟨r, hr, hkind, hunit, hrlane, hrpartition⟩ := htrec
        exact ⟨r, hr, hkind, hunit, hrlane, hrpartition.trans hrpart⟩
      · exact (htsame.counter (by simp) _).trans hcounter
      · refine htstate n hn ?_ ?_
        · unfold State.linkOn State.linkf at hon ⊢
          rwa [hframe.regf (by simp)]
        · have hreg (off lo k : Nat) : v.regf off lo k = s.regf off lo k := hframe.regf (by simp) off lo k
          unfold State.linkLanes State.linkL State.linkf at hlane ⊢
          simpa only [hreg] using hlane
    · rw [if_neg hmine] at hexec
      refine ⟨v, hexec, hrrec, hcounter, fun _ => ⟨hrlink, hret'⟩, fun h2 => absurd h2 hmine, hframe⟩

end Sys2Proof.Machine
end

section
/-! PROOF. The gap record of a window that cannot come (R231, R246). -/

namespace Sys2Proof.Machine

open Sys2Proof.Safety

section
variable {f : Nat} {u : State} {c : Ctx} {b : Binding} {o : Nat}

/-- A context with one settled binding, its next window named. -/
def Ctx.named (c : Ctx) (b : Binding) : Ctx := { c with nextWindow := (b.firstK + b.formed) % 2 ^ 64 }

theorem followGrids_one (hb : c.bindings = [b]) (ho : b.origin = some o) (u : State) : followGrids u c = c.named b := by
  have hbs : pruneBindings u (c.bindings.map (settleOrigin u)) = c.bindings := by
    rw [hb]
    unfold settleOrigin pruneBindings
    simp [ho]
  unfold followGrids
  simp only [hbs]
  unfold Ctx.named
  rw [hb]
  rfl

theorem settled_getD (v : NextWin) : (([v].find? (·.settled)).getD .wait) = v := by
  cases v <;> rfl

theorem openWindows_one {w : Window} (hcmd : c.isCmd = false) (hstate : c.state = 2) (hclose : c.closing = none) (hb : c.bindings = [b])
    (hw : gridWindow u b b.formed = some w) : u.openWindows c = [(0, w)] := by
  have hnext : nextWindows u 0 [b] = [(0, w)] := by
    unfold nextWindows
    rw [hw]
    rfl
  unfold State.openWindows
  rw [hcmd, hstate, hclose, hb, hnext]
  rfl

/-- The verdict on the next window of a Bound flow with one settled binding. -/
theorem nextWin_one {w : Window} (hc : u.ctx? f = some c) (hcmd : c.isCmd = false) (hstate : c.state = 2) (hclose : c.closing = none)
    (hb : c.bindings = [b]) (ho : b.origin = some o) (hw : gridWindow u b b.formed = some w) :
    nextWin f u = (u.setCtx f (c.named b), judgeWin (u.setCtx f (c.named b)) (0, w)) := by
  have hopen : (u.setCtx f (c.named b)).openWindows (c.named b) = [(0, w)] := openWindows_one hcmd hstate hclose hb hw
  unfold nextWin
  simp only [hc, followGrids_one hb ho, hopen, hcmd, hstate, List.map_cons, List.map_nil, settled_getD]
  rfl

/-- A window that lacks a sample waits for its last tick and is then dropped. -/
theorem judgeWin_lost {w : Window} {i : Nat} (h : u.neverCame w = true) : judgeWin u (i, w) =
    if w.last256 < 256 * u.tick then .drop i w (if u.disabledIn w then 3 else 2) else .wait := by
  unfold judgeWin
  simp only [h, if_true]

/-- The window of a grid from an origin. -/
def windowAt (s : State) (b : Binding) (o j : Nat) : Window :=
  { k := (b.firstK + j) % 2 ^ 64, kernel := b.kernel, sched := b.sched
    first256 := (s.streamStamp (winStream b.window) (o + winHop b.window * j)).toNat
    last256 := (s.streamStamp (winStream b.window) (o + winHop b.window * j + winLen b.window - 1)).toNat
    stream := winStream b.window, start := o + winHop b.window * j, len := winLen b.window, padLead := bits (b.window.getD 2 0) 0 16
    padTo := bits (b.window.getD 2 0) 16 16, iq := s.streamIq (winStream b.window), marks := [], readyClk := s.clk }

theorem gridWindow_settled (ho : b.origin = some o) (s : State) (j : Nat) : gridWindow s b j = some (windowAt s b o j) := by
  unfold gridWindow
  rw [ho]
  rfl

end

/-! ## A gap record -/

/-- A context that has given a sequence number. -/
def Ctx.numbered (c : Ctx) : Ctx := { c with resultSeq := (c.resultSeq + 1) % 2 ^ 64 }

section
variable {f : Nat} {s : State} {c : Ctx} {w : Window}

/-- What a gap record leaves: a packet in its partition's Funnel and the number it took. -/
theorem formGap_spec (hc : s.ctx? f = some c) (cause : Nat) : let t := formGap f w cause s
    (∃ k, (∀ p, t.funnel p = if p = c.part then { s.funnel p with waiting := (s.funnel p).waiting ++ [k] } else s.funnel p) ∧
      k.kind = 2 ∧ k.flow = f ∧ k.seq = c.resultSeq ∧ k.first256 = w.first256 ∧ k.last256 = w.last256 ∧ k.body = [d64 cause]) ∧
    t.flows = (s.setCtx f c.numbered).flows ∧ SameBut [.flows, .funnels, .trace] s t := by
  intro t
  have hseq : takeSeq f s = (c.resultSeq, s.setCtx f c.numbered) := by
    unfold takeSeq
    rw [hc]
    rfl
  generalize hk : ctxPkt f c 2 c.resultSeq w.first256 w.last256 (s.epochsAt c.part (w.first256 / 256))
    (checkAssured (s.checkAt c.part (w.first256 / 256))) [] 0 [d64 cause] (s.setCtx f c.numbered) = k
  have ht : ∃ x, t = { form c.part k (s.setCtx f c.numbered) with trace := x } := by
    obtain ⟨x, hx⟩ := traceOnly_eq 0x103 1 c.part noUnit f cause (w.first256 / 256 % 2 ^ 32) (w.first256 / 256 / 2 ^ 32)
      (form c.part k (s.setCtx f c.numbered))
    refine ⟨x, ?_⟩
    rw [← hx, ← hk]
    show formGap f w cause s = _
    unfold formGap
    rw [hc, hseq]
  obtain ⟨x, ht⟩ := ht
  have hsame : SameBut [.flows, .funnels, .trace] s t := by
    rw [ht]
    exact fun p hp => by cases p <;> first | rfl | simp at hp
  refine ⟨⟨k, fun p => ?_, by rw [← hk]; rfl, by rw [← hk]; rfl, by rw [← hk]; rfl, by rw [← hk]; rfl, by rw [← hk]; rfl,
    by rw [← hk]; rfl⟩, by rw [ht]; rfl, hsame⟩
  rw [ht]
  refine (funnel_form c.part p k _).trans ?_
  split
  next hp =>
    subst hp
    rfl
  next => rfl

end

/-! ## The former's loop -/

section
variable {f : Nat} {s t : State} {c : Ctx} {b : Binding} {o : Nat}

/-- A machine that differs in the flows, the Funnels and the trace alone. -/
theorem eq_of_flows_funnels_trace (h : SameBut [.flows, .funnels, .trace] s t) :
    t = { s with flows := t.flows, funnels := t.funnels, trace := t.trace } := by
  have hp (p : Piece) (hp : p ∉ ([.flows, .funnels, .trace] : List Piece)) : p.same s t := h p hp
  obtain ⟨⟩ := s
  obtain ⟨⟩ := t
  simp only [State.mk.injEq, true_and]
  exact ⟨hp .pending (by simp), hp .clk (by simp), hp .draw (by simp), hp .power (by simp), hp .crock (by simp), hp .sec (by simp),
    hp .host (by simp), hp .pre (by simp), hp .tiles (by simp), hp .cores (by simp), hp .ingest (by simp), hp .tb (by simp),
    hp .running (by simp), hp .waiting (by simp), hp .net (by simp), hp .probe (by simp), hp .counters (by simp), hp .mgmt (by simp),
    hp .pkg (by simp)⟩

/-- The samples' side does not read them. -/
theorem windowAt_same (h : SameBut [.flows, .funnels, .trace] s t) (b : Binding) (o j : Nat) : windowAt t b o j = windowAt s b o j :=
  (congrArg (fun z => windowAt z b o j) (eq_of_flows_funnels_trace h)).trans rfl

theorem neverCame_same (h : SameBut [.flows, .funnels, .trace] s t) (w : Window) : t.neverCame w = s.neverCame w :=
  (congrArg (fun z : State => z.neverCame w) (eq_of_flows_funnels_trace h)).trans rfl

theorem setCtx_same (n : Nat) (c : Ctx) (s : State) : SameBut [.flows] s (s.setCtx n c) := modFlows_same _ s

theorem setCtx_setCtx (n : Nat) (c d : Ctx) (s : State) : (s.setCtx n c).setCtx n d = s.setCtx n d := by
  show { s with flows := { s.flows with ctxs := tset (tset s.flows.ctxs n c) n d } } = _
  rw [tset_tset]
  rfl

/-- Past a window that has been dropped the flow stands at the next one. -/
theorem passWindow_one (hc : s.ctx? f = some c) (hb : c.bindings = [b]) (ho : b.origin = some o) : passWindow f 0 s =
    s.setCtx f ({ c with bindings := [{ b with formed := b.formed + 1 }] }.named { b with formed := b.formed + 1 }) := by
  unfold passWindow State.modCtx
  rw [hc]
  refine congrArg (s.setCtx f) ((followGrids_one (c := { c with bindings := c.bindings.modify 0 (fun b => { b with formed := b.formed + 1 }) })
    (b := { b with formed := b.formed + 1 }) (by rw [hb]; rfl) ho s).trans ?_)
  rw [hb]
  rfl

/-- A window that was never received, its last tick passed. -/
def State.windowLost (s : State) (b : Binding) (o j : Nat) : Prop :=
  s.neverCame (windowAt s b o j) = true ∧ (windowAt s b o j).last256 < 256 * s.tick

/-- The machine with the gap record of a flow's next window, the flow at the one after it. -/
def gapTaken (f : Nat) (s : State) (c : Ctx) (b : Binding) (w : Window) (cause : Nat) : State :=
  (formGap f w cause (s.setCtx f (c.named b))).setCtx f
    ({ (c.named b).numbered with bindings := [{ b with formed := b.formed + 1 }] }.named { b with formed := b.formed + 1 })

theorem formGap_ctx (hc : s.ctx? f = some c) (w : Window) (cause g : Nat) :
    (formGap f w cause s).ctx? g = if g = f then some c.numbered else s.ctx? g := by
  obtain ⟨-, hflows, -⟩ := formGap_spec (w := w) hc cause
  unfold State.ctx?
  rw [hflows]
  exact ctx?_setCtx ..

theorem gapTaken_same (c : Ctx) (w : Window) (cause : Nat) : SameBut [.flows, .funnels, .trace] s (gapTaken f s c b w cause) := by
  obtain ⟨-, -, hsame⟩ := formGap_spec (w := w) (s := s.setCtx f (c.named b)) (c := c.named b)
    ((ctx?_setCtx ..).trans (if_pos rfl)) cause
  exact ((setCtx_same _ _ _).mono (by simp)).trans (hsame.trans ((setCtx_same _ _ _).mono (by simp)))

theorem dropFormed_other {w : Window} {cause : Nat} (h : cause ≠ 1) : dropFormed f w cause s = formGap f w cause s := by
  unfold dropFormed
  rw [if_neg h]

theorem formWindows_drop {k i cause : Nat} {w : Window} {s1 : State} (h : nextWin f s = (s1, .drop i w cause)) :
    formWindows (k + 1) f s = formWindows k f (passWindow f i (dropFormed f w cause s1)) := by
  conv => lhs; unfold formWindows
  rw [h]

theorem formWindows_wait {k : Nat} {s1 : State} (h : nextWin f s = (s1, .wait)) : formWindows (k + 1) f s = s1 := by
  unfold formWindows
  rw [h]

/-- The context past its gap. -/
def Ctx.gapped (c : Ctx) (b : Binding) : Ctx :=
  { (c.named b).numbered with bindings := [{ b with formed := b.formed + 1 }] }.named { b with formed := b.formed + 1 }

/-- Once the window is past the flow waits for the next one. -/
theorem formWindows_gapTaken {k cause : Nat} {w : Window} (hcmd : c.isCmd = false)
    (hstate : c.state = 2) (hclose : c.closing = none) (ho : b.origin = some o)
    (hnext : s.neverCame (windowAt s b o (b.formed + 1)) = true) (hlast : 256 * s.tick ≤ (windowAt s b o (b.formed + 1)).last256) :
    formWindows (k + 1) f (gapTaken f s c b w cause) = gapTaken f s c b w cause := by
  have hctx : (gapTaken f s c b w cause).ctx? f = some (c.gapped b) := (ctx?_setCtx ..).trans (if_pos rfl)
  have hsame := gapTaken_same (f := f) (s := s) (b := b) c w cause
  have hwin : gridWindow (gapTaken f s c b w cause) { b with formed := b.formed + 1 } (b.formed + 1) = some (windowAt s b o (b.formed + 1)) :=
    (gridWindow_settled (b := { b with formed := b.formed + 1 }) ho _ _).trans (congrArg some (windowAt_same hsame b o _))
  have hset : (gapTaken f s c b w cause).setCtx f ((c.gapped b).named { b with formed := b.formed + 1 }) = gapTaken f s c b w cause :=
    setCtx_setCtx ..
  have hwait := nextWin_one (b := { b with formed := b.formed + 1 }) hctx hcmd hstate hclose rfl ho hwin
  rw [hset, judgeWin_lost ((neverCame_same hsame _).trans hnext), if_neg] at hwait
  · exact formWindows_wait hwait
  · have htick : (gapTaken f s c b w cause).tick = s.tick := by unfold State.tick; rw [hsame.tb (by simp)]
    rw [htick]
    exact Nat.not_lt.2 hlast

/-- LINK_DOWN_DROP where the next window cannot come and the one after it is not due: one gap record. -/
theorem exec_linkDownDrop {f : Fin 16384} (hs : Serving s) (hclk : s.power.refclkLost = false) (hc : s.ctx? f = some c) (hcmd : c.isCmd = false)
    (hstate : c.state = 2) (hclose : c.closing = none) (hb : c.bindings = [b]) (ho : b.origin = some o)
    (hlost : s.windowLost b o b.formed) (hnext : s.neverCame (windowAt s b o (b.formed + 1)) = true)
    (hlast : 256 * s.tick ≤ (windowAt s b o (b.formed + 1)).last256) :
    exec (.linkDownDrop f) s = .next (gapTaken f s c b (windowAt s b o b.formed)
      (if s.disabledIn (windowAt s b o b.formed) then 3 else 2)) := by
  have hw := gridWindow_settled ho s b.formed
  have hnever : (s.setCtx f (c.named b)).neverCame (windowAt s b o b.formed) = true := hlost.1
  have hfirst : nextWin f s = (s.setCtx f (c.named b), .drop 0 (windowAt s b o b.formed)
      (if s.disabledIn (windowAt s b o b.formed) then 3 else 2)) := by
    rw [nextWin_one hc hcmd hstate hclose hb ho hw, judgeWin_lost hnever]
    exact congrArg (Prod.mk _) (if_pos hlost.2)
  have hdue : (s.served && !s.power.refclkLost) = true := by rw [show s.served = true from hs, hclk]; rfl
  have hexec : exec (.linkDownDrop f) s = .next (formWindows 64 f.val s) := by
    show execLinkDownDrop f s = _
    unfold execLinkDownDrop
    rw [hfirst]
    simp only [hdue, ifDue, if_true]
  have hdrop : dropFormed f (windowAt s b o b.formed) (if s.disabledIn (windowAt s b o b.formed) then 3 else 2)
      (s.setCtx f (c.named b)) = formGap f (windowAt s b o b.formed) (if s.disabledIn (windowAt s b o b.formed) then 3 else 2)
      (s.setCtx f (c.named b)) := by
    refine dropFormed_other ?_
    split <;> decide
  have hpass := passWindow_one (s := formGap f (windowAt s b o b.formed) (if s.disabledIn (windowAt s b o b.formed) then 3 else 2)
      (s.setCtx f (c.named b))) (c := (c.named b).numbered) (b := b) (o := o) (f := f)
    ((formGap_ctx (c := c.named b) ((ctx?_setCtx ..).trans (if_pos rfl)) ..).trans (if_pos rfl)) hb ho
  rw [hexec, formWindows_drop hfirst, hdrop, hpass]
  exact congrArg _ (formWindows_gapTaken hcmd hstate hclose ho hnext hlast)

end

/-- Settles O39: the window's gap record, and the flow at the next one. -/
theorem unreceivedWindowsLeaveGaps : Obligations.UnreceivedWindowsLeaveGaps := by
  intro f s c b o hs hclk hc hcmd hstate hclose hb ho _ st start last hlink hring hlost hlast
  have hcame (j : Nat) (hj : b.formed ≤ j) : s.neverCame (windowAt s b o j) = true := by
    have hmul : winHop b.window * b.formed ≤ winHop b.window * j := Nat.mul_le_mul_left _ hj
    have hshort : (s.ring st).next < o + winHop b.window * j + winLen b.window := by
      have hstart : start = o + winHop b.window * b.formed := rfl
      omega
    unfold State.neverCame
    rw [Bool.or_eq_true, Bool.and_eq_true]
    exact Or.inr ⟨decide_eq_true hshort, decide_eq_true hlink⟩
  have hexec := exec_linkDownDrop hs hclk hc hcmd hstate hclose hb ho ⟨hcame b.formed (Nat.le_refl _), hlost⟩ (hcame _ (Nat.le_succ _)) hlast
  generalize hw : windowAt s b o b.formed = w at hexec
  obtain ⟨⟨k, hfunnel, hkind, hflow, hseq, hfirst, hlast256, hbody⟩, -, -⟩ := formGap_spec (f := f) (w := w)
    (s := s.setCtx f (c.named b)) (c := c.named b) ((ctx?_setCtx ..).trans (if_pos rfl)) (if s.disabledIn w then 3 else 2)
  have hctx (g : Nat) : (gapTaken f s c b w (if s.disabledIn w then 3 else 2)).ctx? g = if g = f then some (c.gapped b) else s.ctx? g := by
    refine (ctx?_setCtx ..).trans ?_
    split
    next => rfl
    next hg =>
      rw [formGap_ctx (c := c.named b) ((ctx?_setCtx ..).trans (if_pos rfl)), if_neg hg, ctx?_setCtx, if_neg hg]
  refine ⟨_, hexec, ?_⟩
  extract_lets first disabled
  have hdis : s.disabledIn w = true ↔ disabled := by
    rw [← hw]
    unfold State.disabledIn
    rw [List.any_eq_true]
    refine exists_congr (fun e => and_congr_right (fun _ => ?_))
    rw [Bool.and_eq_true, decide_eq_true_eq]
    refine and_congr_right (fun _ => ?_)
    cases e.2 with
    | none => simp
    | some z =>
      simp only [Option.elim_some, decide_eq_true_eq, Option.some.injEq]
      exact ⟨fun h x hx => hx ▸ h, fun h => h z rfl⟩
  refine ⟨⟨k, (congrArg Funnel.waiting ((hfunnel c.part).trans (if_pos rfl))), hkind, hflow, hseq, by rw [hfirst, ← hw]; rfl, by rw [hlast256, ← hw]; rfl, fun hd => ?_, fun hd => ?_⟩,
    ⟨c.gapped b, (hctx f).trans (if_pos rfl), rfl, rfl, rfl, rfl⟩, fun p hp => (hfunnel p).trans (if_neg hp),
    fun g hg => (hctx g).trans (if_neg hg), gapTaken_same c w _⟩
  · rw [hbody, if_pos (hdis.2 hd)]
  · rw [hbody, if_neg (fun h => hd (hdis.1 h))]

end Sys2Proof.Machine
end

section
/-! PROOF. What the end of a run leaves (R209, R257): the record in its place, its flow free, its queues gone. -/

namespace Sys2Proof.Machine

open Sys2Proof.Safety

section
variable {rid n : Nat} {s t : State} {r : Run} {c : Ctx}

/-! ## Runs and contexts after a change -/

theorem run?_setRun (n m : Nat) (v : Run) (s : State) : (s.setRun n v).run? m = if m = n then some v else s.run? m :=
  tget?_tset ..

theorem setRun_same (n : Nat) (v : Run) (s : State) : SameBut [.flows] s (s.setRun n v) := modFlows_same _ s

theorem ctx?_modCtx (hc : s.ctx? n = some c) (g : Ctx → Ctx) (m : Nat) :
    (s.modCtx n g).ctx? m = if m = n then some (g c) else s.ctx? m := by
  unfold State.modCtx
  rw [hc]
  exact ctx?_setCtx ..

/-! ## Queues that end -/

theorem queue?_modCore_queues {f : Core → Core} (hf : ∀ k, (f k).queues = k.queues) (a x q : Nat) (s : State) :
    (s.modCore a f).queue? x q = s.queue? x q := by
  unfold State.queue?
  rw [core_modCore]
  split
  next h => rw [hf, h]
  next => rfl

/-- A queue taken off a core's list. -/
theorem queue?_modCore_tdel {f : Core → Core} {q : Nat} (hf : ∀ k, (f k).queues = tdel k.queues q) (a x y : Nat) (s : State) :
    (s.modCore a f).queue? x y = if x = a ∧ y = q then none else s.queue? x y := by
  unfold State.queue?
  rw [core_modCore]
  by_cases hx : x = a
  · rw [hx, if_pos rfl, hf]
    exact (tget?_tdel ..).trans (by simp)
  · simp [hx]

theorem queue?_dropQueue (core q x y : Nat) (s : State) :
    (dropQueue core q s).queue? x y = if x = core ∧ y = q then none else s.queue? x y := by
  unfold dropQueue
  split
  next v hv =>
    refine (queue?_modCore_tdel (fun _ => rfl) core x y _).trans ?_
    split
    next => rfl
    next =>
      split
      · exact queue?_modCore_queues (f := fun k => { k with arrivals := clrBit k.arrivals _ }) (fun _ => rfl) ..
      · rfl
  next hv =>
    split
    next h => rw [h.1, h.2, hv]
    next => rfl

theorem dropQueue_same (core q : Nat) (s : State) : SameBut [.cores] s (dropQueue core q s) := by
  unfold dropQueue
  split
  · refine SameBut.trans ?_ (modCore_same _ _ _)
    split
    · exact modCore_same _ _ _
    · exact .refl _ s
  · exact .refl _ s

/-- Queues taken off are gone, and none comes back. -/
theorem queue?_each_dropQueue {l : List (Nat × Nat)} {x y : Nat} (h : (x, y) ∈ l ∨ s.queue? x y = none) :
    (each l (fun e t => dropQueue e.1 e.2 t) s).queue? x y = none := by
  induction l generalizing s with
  | nil => exact h.resolve_left List.not_mem_nil
  | cons e l ih =>
    refine ih ?_
    rw [queue?_dropQueue]
    rcases h with h | h
    · rcases List.mem_cons.mp h with rfl | h
      · exact .inr (by simp)
      · exact .inl h
    · exact .inr (by simp [h])

theorem each_dropQueue_same (l : List (Nat × Nat)) (s : State) : SameBut [.cores] s (each l (fun e t => dropQueue e.1 e.2 t) s) :=
  SameBut.each l (fun e u => dropQueue_same e.1 e.2 u) s

theorem mem_of_tget? {α : Type} {l : Tbl α} {k : Nat} {v : α} (h : tget? l k = some v) : (k, v) ∈ l := by
  induction l with
  | nil => cases h
  | cons e l ih =>
    unfold tget? at h
    split at h
    next hk => cases h; cases hk; exact List.mem_cons_self
    next => exact List.mem_cons_of_mem _ (ih h)

/-- A resident part is on one of its run's queues. -/
theorem mem_runQueues {core q : Nat} {v : Queue} (hv : s.queue? core q = some v) (hrun : v.run = rid) : (core, q) ∈ s.runQueues rid := by
  unfold State.queue? State.core at hv
  rw [tget_eq_getD] at hv
  cases hcore : tget? s.cores core with
  | none => rw [hcore] at hv; cases hv
  | some k =>
    rw [hcore] at hv
    exact List.mem_flatMap.mpr ⟨(core, k), mem_of_tget? hcore, List.mem_map.mpr ⟨(q, v), List.mem_filter.mpr
      ⟨mem_of_tget? hv, by simpa using hrun⟩, rfl⟩⟩

theorem tget?_mapVal {α β : Type} (g : α → β) (l : Tbl α) (k : Nat) :
    tget? (l.map (fun e => (e.1, g e.2))) k = (tget? l k).map g := by
  induction l with
  | nil => rfl
  | cons e l ih =>
    rw [List.map_cons]
    unfold tget?
    split
    next => rfl
    next => exact ih

/-- A change of every core that leaves the queues. -/
theorem queue?_mapCores {g : Core → Core} (hg : ∀ k, (g k).queues = k.queues) (x y : Nat) (s : State) :
    ({ s with cores := s.cores.map (fun e => (e.1, g e.2)) } : State).queue? x y = s.queue? x y := by
  unfold State.queue? State.core
  rw [tget_eq_getD, tget_eq_getD, tget?_mapVal]
  cases tget? s.cores x with
  | none => rfl
  | some k => exact congrArg (tget? · y) (hg k)

/-! ## The record in place of a window -/

/-- A run that has formed one more record. -/
def Run.recorded (r : Run) : Run := { r with records := r.records + 1 }

/-- A run that is abandoned with a status. -/
def Run.given (r : Run) (st : Nat) : Run := { r with abandoned := true, status := some (r.status.getD st) }

theorem takeRunSeq_flow (hr : s.run? rid = some r) (hc : s.ctx? r.ctx = some c) (hcmd : c.isCmd = false) :
    takeRunSeq rid s = (c.resultSeq, (s.setCtx r.ctx c.numbered).setRun rid r.recorded) := by
  unfold takeRunSeq takeSeq
  simp only [hr, hc]
  exact if_neg (by simp [hcmd])

/-- The record formed for a run. -/
theorem formRun_spec (hr : s.run? rid = some r) (hc : s.ctx? r.ctx = some c) (hcmd : c.isCmd = false) (kind : Nat) (body : List DWord) :
    ∃ k : Pkt, formRun rid kind body s = form c.part k ((s.setCtx r.ctx c.numbered).setRun rid r.recorded) ∧
      k.kind = kind ∧ k.flow = r.ctx ∧ k.seq = c.resultSeq ∧ k.body = body := by
  unfold formRun runPkt
  simp only [hr, hc, takeRunSeq_flow hr hc hcmd]
  exact ⟨_, rfl, rfl, rfl, rfl, rfl⟩

/-! ## The end of a window -/

/-- Settling a run that is not its context's leaves the contexts. -/
theorem settleRun_same (hr : s.run? rid = some r) (hc : s.ctx? r.ctx = some c) (hcmd : c.isCmd = false) :
    (settleRun rid s).flows.ctxs = s.flows.ctxs ∧ SameBut [.flows] s (settleRun rid s) := by
  unfold settleRun
  simp only [hr, hc, hcmd]
  split
  · exact ⟨rfl, modFlows_same _ s⟩
  · exact ⟨rfl, .refl _ s⟩

/-- The context of a flow whose window has ended. -/
def Ctx.ended (c : Ctx) (rid : Nat) (r : Run) : Ctx :=
  { c with run := if c.run = some rid then none else c.run, saves := endEntries r.kernel c.saves,
           modelEpoch := r.modelEpoch, configEpoch := r.configEpoch }

theorem endWindow_spec (hr : s.run? rid = some r) (hc : s.ctx? r.ctx = some c) (hcmd : c.isCmd = false) :
    (endWindow rid s).ctx? r.ctx = some (c.ended rid r) ∧ SameBut [.flows] s (endWindow rid s) := by
  have hc' : (freeSpill r.ctx s).ctx? r.ctx = some c := hc
  have heq : endWindow rid s = settleRun rid ((freeSpill r.ctx s).setCtx r.ctx (c.ended rid r)) := by
    unfold endWindow
    simp only [hr, hc']
    exact if_neg (by simp [hcmd])
  have hr' : ((freeSpill r.ctx s).setCtx r.ctx (c.ended rid r)).run? rid = some r := hr
  obtain ⟨hctxs, hsame⟩ := settleRun_same hr' ((ctx?_setCtx ..).trans (if_pos rfl)) (c := c.ended rid r) hcmd
  rw [heq]
  refine ⟨(congrArg (fun x => tget? x r.ctx) hctxs).trans ((ctx?_setCtx ..).trans (if_pos rfl)), ?_⟩
  exact ((modFlows_same _ s).trans (setCtx_same _ _ _)).trans hsame

/-! ## An abandoned run -/

/-- A flow's run abandoned: its record stands in the Funnel, its queues are gone, its flow is free. -/
theorem abandonRun_spec (hr : s.run? rid = some r) (hab : r.abandoned = false) (hc : s.ctx? r.ctx = some c) (hcmd : c.isCmd = false)
    (st kind : Nat) (body : List DWord) : let t := abandonRun rid st kind body false s
    (∃ k, (∀ p, t.funnel p = if p = c.part then { s.funnel p with waiting := (s.funnel p).waiting ++ [k] } else s.funnel p) ∧
      k.kind = kind ∧ k.flow = r.ctx ∧ k.seq = c.resultSeq ∧ k.body = body) ∧
    (∃ d, t.ctx? r.ctx = some d ∧ d.run = if c.run = some rid then none else c.run) ∧
    (∀ core q v, s.queue? core q = some v → v.run = rid → t.queue? core q = none) ∧ SameBut [.cores, .flows, .funnels] s t := by
  intro t
  generalize hmark : markAbandoned rid st s = s1
  have hs1 : s1 = s.setRun rid (r.given st) := by
    rw [← hmark]
    unfold markAbandoned State.modRun
    rw [hr]
    rfl
  have hr1 : s1.run? rid = some (r.given st) := by
    rw [hs1]
    exact (run?_setRun ..).trans (if_pos rfl)
  have hc1 : s1.ctx? r.ctx = some c := by
    rw [hs1]
    exact hc
  obtain ⟨k, hform, hkind, hflow, hseq, hbody⟩ := formRun_spec hr1 hc1 hcmd kind body
  generalize hformed : formRun rid kind body s1 = s2 at hform
  generalize hdrop : each (s2.runQueues rid) (fun x t => dropQueue x.1 x.2 t) s2 = s3
  generalize hfree : ({ s3 with cores := s3.cores.map (fun e => (e.1, freeSlots rid e.2)) } : State) = s4
  have ht : t = endWindow rid s4 := by
    show abandonRun rid st kind body false s = _
    unfold abandonRun
    simp only [hr, hab, hc, Option.elim_some, hcmd, hmark, Bool.or_self, Bool.false_eq_true, if_false, hformed]
    rw [← hfree, ← hdrop]
  have hcores : SameBut [.cores] s2 s4 := by
    rw [← hfree]
    refine SameBut.trans (t := s3) ?_ (fun p hp => by cases p <;> first | rfl | simp at hp)
    rw [← hdrop]
    exact each_dropQueue_same _ _
  have hflows : s4.flows = s2.flows := hcores .flows (by simp)
  have hr4 : s4.run? rid = some (r.given st).recorded := by
    unfold State.run?
    rw [hflows, hform]
    exact (run?_setRun ..).trans (if_pos rfl)
  have hc4 : s4.ctx? r.ctx = some c.numbered := by
    unfold State.ctx?
    rw [hflows, hform]
    exact (ctx?_setCtx ..).trans (if_pos rfl)
  obtain ⟨hctx, hend⟩ := endWindow_spec hr4 hc4 hcmd
  rw [← ht] at hctx hend
  have h2 : SameBut [.flows, .funnels] s s2 := by
    rw [hform, hs1]
    exact fun p hp => by cases p <;> first | rfl | simp at hp
  refine ⟨⟨k, fun p => ?_, hkind, hflow, hseq, hbody⟩, ⟨_, hctx, rfl⟩, fun core q v hv hrun => ?_, ?_⟩
  · have hf : t.funnels = s2.funnels := (hend .funnels (by simp)).trans (hcores .funnels (by simp))
    have hf2 : t.funnel p = s2.funnel p := congrArg (fun x => tget x p _) hf
    rw [hf2, hform, hs1]
    refine (funnel_form c.part p k _).trans ?_
    split
    next hp =>
      subst hp
      rfl
    next => rfl
  · rw [hend.queue? (by simp), ← hfree, queue?_mapCores (g := freeSlots rid) (fun _ => rfl), ← hdrop]
    have hv2 : s2.queue? core q = some v := (h2.queue? (by simp) core q).trans hv
    exact queue?_each_dropQueue (.inl (mem_runQueues hv2 hrun))
  · exact (h2.mono (by simp)).trans ((hcores.mono (by simp)).trans (hend.mono (by simp)))

end

end Sys2Proof.Machine
end

section
/-! PROOF. A slicer cycle, the overload bit and the entry watchdog (R257 to R261, R267, R268). -/

namespace Sys2Proof.Machine

open Sys2Proof.Safety

section
variable {s t u : State} {n rid i q : Nat} {c : Ctx} {r : Run} {p : Part}

/-! ## Entering a queue -/

/-- A change of cores that leaves their queues. -/
def LeavesQueues (s t : State) : Prop := (∀ x, (t.core x).queues = (s.core x).queues) ∧ SameBut [.cores] s t

theorem LeavesQueues.refl (s : State) : LeavesQueues s s := ⟨fun _ => rfl, .refl _ s⟩

theorem LeavesQueues.trans (h : LeavesQueues s t) (h' : LeavesQueues t u) : LeavesQueues s u :=
  ⟨fun x => (h'.1 x).trans (h.1 x), h.2.trans h'.2⟩

theorem putAct_leavesQueues (core a : Nat) (b : Bytes) (s : State) : LeavesQueues s (putAct core a b s) := by
  refine ⟨fun x => ?_, modCore_same _ _ _⟩
  unfold putAct
  rw [core_modCore]
  split
  next h => rw [h]
  next => rfl

theorem unparkSlots_none (hr : s.run? rid = some r) (hparked : r.parked = []) (core : Nat) :
    unparkSlots rid core s = s.setRun rid r := by
  unfold unparkSlots
  rw [hr]
  obtain ⟨⟩ := r
  cases hparked
  rfl

/-- A context one of whose parts has entered a queue. -/
def Ctx.enteredOn (c : Ctx) (k : Kernel) (i q : Nat) (p : Part) : Ctx :=
  let v := c.save k i
  { c with saves := tset c.saves i { v with
      core := p.core, queue := q, entered := true, started := true,
      eEntry := if v.started then v.eEntry else (v.eEntry + p.entryValue) % 2 ^ 32 } }

/-- What a flow's part finds in its core's activation buffer: its constants, its inbox and the persistent bytes. -/
def loadBuffers (c : Ctx) (r : Run) (i q : Nat) (p : Part) (s1 : State) : State :=
  let s2 := putAct p.core (p.constDest + p.bank q) p.consts s1
  let s3 := putAct p.core (p.inboxBase + p.bank q) (Memory.readBytes (tget c.inbox i []) 0 p.inboxBytes) s2
  let pe := r.window.elim (0, 0) (fun w => persistOf w.sched)
  if i = 0 && (c.save r.kernel i).step = 0 && pe.1 ≠ 0 then putAct p.core (pe.2 + p.bank q) (padTo pe.1 c.persist) s3 else s3

theorem loadBuffers_leavesQueues (c : Ctx) (r : Run) (i q : Nat) (p : Part) (s : State) : LeavesQueues s (loadBuffers c r i q p s) := by
  unfold loadBuffers
  dsimp only
  have h2 := (putAct_leavesQueues p.core (p.constDest + p.bank q) p.consts s).trans
    (putAct_leavesQueues p.core (p.inboxBase + p.bank q) (Memory.readBytes (tget c.inbox i []) 0 p.inboxBytes) _)
  split
  · exact h2.trans (putAct_leavesQueues ..)
  · exact h2

/-- The resident part of a run that has entered its queue. -/
def Ctx.queueOf (c : Ctx) (s : State) (n rid i : Nat) (k : Kernel) : Queue :=
  { ctx := n, run := rid, part := i, step := (c.save k i).step, stall := .none, loop := none, readout := none,
    progressClk := s.clk - (c.save k i).wdog, resumptions := 0, entryClk := s.clk, stallClk := s.clk }

/-- A flow's part enters a queue. -/
theorem enterPart_flow (hc : s.ctx? n = some c) (hr : s.run? rid = some r) (hp : r.kernel.parts[i]? = some p) (hcmd : c.isCmd = false)
    (hstep : (c.save r.kernel i).step < p.steps.length) : enterPart n rid i q s =
      let hit := s.prefetched p.core n r.kernel
      let s6 := unparkSlots rid p.core (loadBuffers c r i q p (s.setCtx n (c.enteredOn r.kernel i q p)))
      let s8 := traceOnly 0x101 1 c.part (unitCore p.core) n q (b2n hit) 0 (count (partCtr c.part (if hit then 5 else 6)) 1 s6)
      (s8.modCore p.core (fun k => { k with prefetch := k.prefetch.filter (· ≠ n) })).setQueue p.core q
        (c.queueOf s n rid i r.kernel) := by
  unfold enterPart
  rw [hc, hr]
  dsimp only
  rw [hp]
  dsimp only
  rw [if_neg (by omega)]
  simp only [show (c.isCmd && decide (i = 0) && decide ((c.save r.kernel i).step = 0)) = false by simp [hcmd], Bool.false_eq_true,
    if_false]
  rfl

/-- What a flow's part that enters a queue leaves. -/
theorem enterPart_spec (hc : s.ctx? n = some c) (hr : s.run? rid = some r) (hp : r.kernel.parts[i]? = some p) (hcmd : c.isCmd = false)
    (hparked : r.parked = []) (hstep : (c.save r.kernel i).step < p.steps.length) : let t := enterPart n rid i q s
    (t.core p.core).queues = tset (s.core p.core).queues q (c.queueOf s n rid i r.kernel) ∧
    t.ctx? n = some (c.enteredOn r.kernel i q p) ∧ t.run? rid = some r ∧
    (∀ x, x ≠ partCtr c.part 5 → x ≠ partCtr c.part 6 → t.counter x = s.counter x) ∧ SameBut [.flows, .cores, .counters, .trace] s t := by
  intro t
  generalize hload : loadBuffers c r i q p (s.setCtx n (c.enteredOn r.kernel i q p)) = s5
  obtain ⟨hqueues, hbuf⟩ : LeavesQueues (s.setCtx n (c.enteredOn r.kernel i q p)) s5 := hload ▸ loadBuffers_leavesQueues ..
  have hr5 : s5.run? rid = some r := (hbuf.run? (by simp) rid).trans hr
  have hc5 : s5.ctx? n = some (c.enteredOn r.kernel i q p) := (hbuf.ctx? (by simp) n).trans ((ctx?_setCtx ..).trans (if_pos rfl))
  have ht := enterPart_flow (q := q) hc hr hp hcmd hstep
  dsimp only at ht
  rw [hload, unparkSlots_none hr5 hparked] at ht
  generalize s.prefetched p.core n r.kernel = hit at ht
  generalize hs8 : traceOnly 0x101 1 c.part (unitCore p.core) n q (b2n hit) 0 (count (partCtr c.part (if hit then 5 else 6)) 1
    (s5.setRun rid r)) = s8 at ht
  have h8 : SameBut [.counters, .trace] (s5.setRun rid r) s8 := by
    rw [← hs8]
    exact ((count_same _ _ _).mono (by simp)).trans ((traceOnly_same _ _ _ _ _ _ _ _ _).mono (by simp))
  have htail : SameBut [.cores] s8 t := by
    show SameBut [.cores] s8 (enterPart n rid i q s)
    rw [ht]
    exact (modCore_same _ _ _).trans (setQueue_same _ _ _ _)
  refine ⟨?_, ?_, ?_, fun x h5 h6 => ?_, ?_⟩
  · show ((enterPart n rid i q s).core p.core).queues = _
    rw [ht]
    unfold State.setQueue
    rw [core_modCore_same, core_modCore_same]
    dsimp only
    rw [h8.core (by simp)]
    exact congrArg (fun l => tset l q _) (hqueues p.core)
  · exact (htail.ctx? (by simp) n).trans ((h8.ctx? (by simp) n).trans hc5)
  · exact (htail.run? (by simp) rid).trans ((h8.run? (by simp) rid).trans ((run?_setRun ..).trans (if_pos rfl)))
  · rw [htail.counter (by simp), ← hs8]
    refine (SameBut.counter (traceOnly_same _ _ _ _ _ _ _ _ _) (by simp) x).trans ?_
    rw [counter_count_other _ _ _ _ (by cases hit <;> assumption)]
    exact hbuf.counter (by simp) x
  · exact ((setCtx_same _ _ _).mono (by simp)).trans ((hbuf.mono (by simp)).trans (((setRun_same _ _ _).mono (by simp)).trans
      ((h8.mono (by simp)).trans (htail.mono (by simp)))))

/-! ## The dispatch of a flow's oldest window -/

end

section
variable {p : Nat} {s t : State} {n : Nat} {c : Ctx} {w : Window} {rest : List Window} {part : Part}

/-- The candidate of a flow whose window is ready. -/
def windowCand (s : State) (n : Nat) (w : Window) : Cand :=
  { ctx := n, entry := none, deadline := w.deadline, kernel := w.kernel, run := s.flows.nextRun, rank := n }

theorem ctxCands_ready (hcmd : c.isCmd = false) (hstate : c.state = 2) (hrun : c.run = none) (hready : c.ready = w :: rest) :
    s.ctxCands n c = [windowCand s n w] := by
  unfold State.ctxCands Ctx.dispatches
  simp only [hcmd, hstate, hrun, hready]
  rfl

theorem cands_ready (hctxs : s.flows.ctxs = [(n, c)]) (hpart : c.part = p) (hcmd : c.isCmd = false) (hstate : c.state = 2)
    (hrun : c.run = none) (hready : c.ready = w :: rest) : s.cands p = [windowCand s n w] := by
  unfold State.cands
  rw [hctxs]
  simp [hpart, ctxCands_ready hcmd hstate hrun hready, sortBy, insertBy]

theorem parts_windowCand (hparts : w.kernel.parts = [part]) (hat : part.entryAtDispatch = true) :
    (windowCand s n w).parts = [(0, part)] := by
  show (w.kernel.parts.zipIdx.filter _).map _ = _
  simp [hparts, hat]

/-- On an empty core a part takes queue 0. -/
theorem freeQueue_empty (hq : (s.core part.core).queues = []) (hqueue : part.queue = none) (rid : Nat) :
    s.freeQueue? rid part = some 0 := by
  unfold State.freeQueue? State.clearOf State.queue?
  rw [hqueue, hq]
  rfl

theorem candOk_ready (hparts : w.kernel.parts = [part]) (hat : part.entryAtDispatch = true) (hqueue : part.queue = none)
    (hq : (s.core part.core).queues = []) (hopen : s.coreOpen part.core = true)
    (htiles : ∀ t ∈ s.allTiles w.kernel, s.tileUsable t.1 t.2 = true) (hfull : s.funnelFull p = false) :
    s.candOk p (windowCand s n w) = true := by
  unfold State.candOk State.candOpen
  rw [parts_windowCand hparts hat]
  have htiles' : (s.allTiles (windowCand s n w).kernel).all (fun t => s.tileUsable t.1 t.2) = true := List.all_eq_true.mpr htiles
  simp [hopen, htiles', hfull, freeQueue_empty hq hqueue]

/-- A context at the dispatch of its oldest window. -/
def Ctx.dispatched (c : Ctx) (x : Cand) (r : Run) : Ctx :=
  let stale := (r.modelEpoch, r.configEpoch) ≠ c.carryEpochs
  { c with
    run := some x.run, ready := if c.isCmd then c.ready else c.ready.drop 1,
    modelEpoch := r.modelEpoch, configEpoch := r.configEpoch,
    carried := if stale then [] else c.carried, carryValid := c.carryValid && !stale,
    saves := x.kernel.parts.zipIdx.foldl (fun t e =>
      tset t e.2 { c.save x.kernel e.2 with core := e.1.core, queue := 255, entered := false, left := false, step := 0,
                                            wdog := 0, started := false }) c.saves }

theorem partCtr_inj {p i j : Nat} : partCtr p i = partCtr p j ↔ i = j := by
  unfold partCtr
  omega

/-- A flow's dispatch: its run stands, it is counted, and the candidate's parts enter. -/
theorem dispatch_spec {x : Cand} (hc : s.ctx? x.ctx = some c) (hcmd : c.isCmd = false) : ∃ u, dispatch x s = enterAll x u ∧
    u.ctx? x.ctx = some (c.dispatched x (newRun s x.ctx c x)) ∧ u.run? x.run = some (newRun s x.ctx c x) ∧
    u.counter (partCtr c.part 1) = min (s.counter (partCtr c.part 1) + 1) (counterMax (partCtr c.part 1)) ∧
    SameBut [.flows, .counters, .trace] s u := by
  generalize hu : (s.setCtx x.ctx (c.dispatched x (newRun s x.ctx c x))).modFlows
    (fun f => { f with runs := tset f.runs x.run (newRun s x.ctx c x), nextRun := f.nextRun + 1 }) = s1
  have hgo : ∃ k a b d e, dispatch x s = enterAll x (traceOnly 0x100 1 c.part a x.ctx b d e
      (count (partCtr c.part 3) k (count (partCtr c.part 1) 1 s1))) := by
    unfold dispatch
    rw [hc]
    dsimp only
    rw [if_neg (by simp [hcmd]), ← hu]
    exact ⟨_, _, _, _, _, rfl⟩
  obtain ⟨k, a, b, d, e, hgo⟩ := hgo
  have h1 : SameBut [.flows] s s1 := hu ▸ (setCtx_same _ _ _).trans (modFlows_same _ _)
  have htail : SameBut [.counters, .trace] s1 (traceOnly 0x100 1 c.part a x.ctx b d e
      (count (partCtr c.part 3) k (count (partCtr c.part 1) 1 s1))) :=
    (((count_same _ _ _).trans (count_same _ _ _)).mono (by simp)).trans ((traceOnly_same _ _ _ _ _ _ _ _ _).mono (by simp))
  refine ⟨_, hgo, (htail.ctx? (by simp) _).trans ?_, (htail.run? (by simp) _).trans ?_, ?_, (h1.mono (by simp)).trans (htail.mono (by simp))⟩
  · rw [← hu]
    exact (ctx?_setCtx ..).trans (if_pos rfl)
  · rw [← hu]
    exact tget?_tset_same ..
  · refine (SameBut.counter (traceOnly_same _ _ _ _ _ _ _ _ _) (by simp) _).trans ?_
    rw [counter_count_other _ _ _ _ (by simp [partCtr_inj]), counter_count _ _ _ (by simp), h1.counter (by simp)]

/-! ## The cycle -/

theorem prefetch_leavesQueues (p : Nat) (s : State) : LeavesQueues s (prefetch p s) := by
  unfold prefetch
  refine each_keeps (LeavesQueues s) _ (fun x u hu => hu.trans ?_) (.refl s)
  dsimp only
  split
  · exact .refl u
  · refine ⟨fun y => ?_, modCore_same _ _ _⟩
    rw [core_modCore]
    split
    next h => rw [h]
    next => rfl

theorem preempt_off (h : s.regf (partOff p 0x300) 0 1 = 0) : preempt p s = s := by
  unfold preempt
  exact if_pos h

theorem exec_slicerCycle {p : Fin 8} (hrun : s.coresRun = true) (hon : s.partOn p = true) (hpend : s.pre.pending = []) :
    exec (.slicerCycle p) s = .next (slice p s) := by
  refine (ifDue_of (f := fun s => slice p.val (applyDue 4 p.val s)) (by rw [hrun, hon]; rfl)).trans ?_
  rw [applyDue_idle hpend]

/-- A partition without contexts has nothing to do. -/
theorem slice_idle (hctxs : s.flows.ctxs = []) (hpre : ∀ c, (s.core c).prefetch = []) : slice p s = s := by
  have hcands : s.cands p = [] := by
    unfold State.cands
    rw [hctxs]
    rfl
  have hdrop : coreCancels p (lateDrops p s) = s := by
    unfold lateDrops
    rw [hctxs]
    unfold coreCancels
    dsimp only [List.filter_nil, each_nil]
    rw [hctxs]
    rfl
  have hpreempt : preempt p s = s := by
    unfold preempt
    rw [hcands]
    split <;> rfl
  unfold slice
  rw [hdrop]
  dsimp only
  rw [hcands]
  dsimp only [List.find?_nil]
  rw [hpreempt]
  unfold prefetch
  rw [hcands]
  exact each_fixed (fun x _ => if_pos (hpre x))

/-- Where no window of the flow is dropped late and its kernel's core is up, its ready window is dispatched. -/
theorem slice_ready (hctxs : s.flows.ctxs = [(n, c)]) (hpart : c.part = p) (hcmd : c.isCmd = false) (hstate : c.state = 2)
    (hrun : c.run = none) (hready : c.ready = w :: rest) (hlate : ∀ v ∈ c.ready, bit (v.sched.getD 1 0) 4 = false)
    (hparts : w.kernel.parts = [part]) (hopen : s.coreOpen part.core = true) (hok : s.candOk p (windowCand s n w) = true) :
    slice p s = prefetch p (preempt p (dispatch (windowCand s n w) s)) := by
  have hdrops : lateDrops p s = s := by
    unfold lateDrops
    rw [hctxs]
    refine each_fixed (fun e he => if_pos ?_)
    obtain rfl := List.mem_singleton.mp (List.mem_filter.1 he).1
    rw [List.isEmpty_iff, List.filter_eq_nil_iff]
    intro v hv
    show ¬ (bit (v.sched.getD 1 0) 4 && _) = true
    rw [hlate v hv, Bool.false_and]
    exact Bool.false_ne_true
  have hup : s.kernelDown w.kernel = false := by
    unfold State.coreOpen at hopen
    unfold State.kernelDown
    simp [hparts, (Bool.and_eq_true_iff.mp hopen).1]
  have hcancels : coreCancels p s = s := by
    unfold coreCancels
    rw [hctxs]
    refine each_fixed (fun e he => ?_)
    obtain rfl := List.mem_singleton.mp (List.mem_filter.1 he).1
    simp only [hready, hup, Bool.false_eq_true, if_false]
  unfold slice
  rw [hdrops, hcancels]
  dsimp only
  rw [cands_ready hctxs hpart hcmd hstate hrun hready, List.find?_cons_of_pos hok]
  rfl

theorem slicer_dispatches {p : Fin 8} (hrun : s.coresRun = true) (hon : s.partOn p = true) (hpend : s.pre.pending = [])
    (hctxs : s.flows.ctxs = [(n, c)]) (hpart : c.part = p) (hcmd : c.isCmd = false) (hstate : c.state = 2)
    (hcrun : c.run = none) (hready : c.ready = w :: rest) (hlate : ∀ v ∈ c.ready, bit (v.sched.getD 1 0) 4 = false)
    (hparts : w.kernel.parts = [part]) (hat : part.entryAtDispatch = true) (hqueue : part.queue = none) (hsteps : part.steps ≠ [])
    (hq : (s.core part.core).queues = []) (hopen : s.coreOpen part.core = true)
    (htiles : ∀ t ∈ s.allTiles w.kernel, s.tileUsable t.1 t.2 = true) (hfull : s.funnelFull p = false)
    (hoff : s.regf (partOff p 0x300) 0 1 = 0) : Completes (.slicerCycle p) s (fun t =>
    (∃ v, (t.core part.core).queues = [(0, v)] ∧ v.ctx = n ∧ v.run = s.flows.nextRun ∧ v.part = 0 ∧ v.step = 0 ∧ v.entryClk = s.clk) ∧
    (∃ d, t.ctx? n = some d ∧ d.run = some s.flows.nextRun ∧ d.ready = rest ∧ d.bindings = c.bindings) ∧
    (∃ r, t.run? s.flows.nextRun = some r ∧ r.ctx = n ∧ r.window = some w ∧ r.kernel = w.kernel ∧
      r.deadline = w.last256 + 256 * (w.sched.getD 0 0).toNat ∧ r.abandoned = false) ∧
    t.counter (partCtr p 1) = min (s.counter (partCtr p 1) + 1) (counterMax (partCtr p 1)) ∧
    SameBut [.flows, .cores, .counters, .trace] s t) := by
  have hok := candOk_ready (p := p.val) (n := n) hparts hat hqueue hq hopen htiles hfull
  have hgo := exec_slicerCycle hrun hon hpend
  rw [slice_ready hctxs hpart hcmd hstate hcrun hready hlate hparts hopen hok] at hgo
  have hc : s.ctx? n = some c := by
    unfold State.ctx?
    rw [hctxs]
    simp [tget?]
  obtain ⟨u, hdisp, huc, hur, hcount, hu⟩ := dispatch_spec (s := s) (x := windowCand s n w) hc hcmd
  generalize hx : windowCand s n w = x at hgo hdisp huc hur
  generalize hrun' : newRun s x.ctx c x = r at huc hur
  have huq : (u.core part.core).queues = [] := by
    rw [hu.core (by simp)]
    exact hq
  have henter : enterAll x u = enterPart x.ctx x.run 0 0 u := by
    unfold enterAll
    rw [← hx, parts_windowCand hparts hat]
    show (match u.freeQueue? _ part with | some q => _ | none => u) = _
    rw [freeQueue_empty huq hqueue]
  have hpx : r.kernel.parts[0]? = some part := by
    rw [← hrun', ← hx]
    show w.kernel.parts[0]? = some part
    rw [hparts]
    rfl
  have hsave : ((c.dispatched x r).save r.kernel 0).step = 0 := by
    rw [← hrun', ← hx]
    unfold Ctx.save Ctx.dispatched
    simp [windowCand, hparts]
  have hparked : r.parked = [] := by
    rw [← hrun']
    rfl
  obtain ⟨hqueues, hctx, hr, hcounter, hent⟩ := enterPart_spec (q := 0) huc hur hpx hcmd hparked
    (by rw [hsave]; exact List.length_pos_iff.mpr hsteps)
  rw [hdisp, henter, preempt_off ((hent.regf (by simp) _ _ _).trans ((hu.regf (by simp) _ _ _).trans hoff))] at hgo
  obtain ⟨hkept, hpre⟩ := prefetch_leavesQueues p.val (enterPart x.ctx x.run 0 0 u)
  subst hx
  refine ⟨_, hgo, ⟨(c.dispatched (windowCand s n w) r).queueOf u n s.flows.nextRun 0 r.kernel, ?_, rfl, rfl, rfl, hsave, ?_⟩, ⟨_, (hpre.ctx? (by simp) n).trans hctx, rfl, ?_, rfl⟩,
    ⟨r, (hpre.run? (by simp) _).trans hr, ?_⟩, ?_, (hu.mono (by simp)).trans ((hent.mono (by simp)).trans (hpre.mono (by simp)))⟩
  · rw [hkept, hqueues, huq]
    rfl
  · exact hu.clk (by simp)
  · show (if c.isCmd = true then c.ready else c.ready.drop 1) = rest
    rw [if_neg (by simp [hcmd]), hready]
    rfl
  · rw [← hrun']
    unfold newRun
    simp only [hcmd, hready]
    exact ⟨rfl, rfl, rfl, rfl, trivial⟩
  · have hother (i : Nat) (hi : i ≠ 1) : partCtr p.val 1 ≠ partCtr (c.dispatched (windowCand s n w) r).part i := by
      show _ ≠ partCtr c.part i
      rw [hpart]
      simp [partCtr_inj, hi.symm]
    rw [hpre.counter (by simp), hcounter _ (hother 5 (by simp)) (hother 6 (by simp)), ← hpart]
    exact hcount

end

/-! ## The entry watchdog -/

section
variable {s : State} {c : Ctx} {rid n : Nat} {r : Run} {part : Part} {v : SaveRec}

theorem save_of (h : tget? c.saves n = some v) (k : Kernel) : c.save k n = v := by
  unfold Ctx.save
  rw [h]

/-- The first part of a run that has not entered. -/
theorem lateEntry_first (hpart : r.kernel.parts[0]? = some part) (hv : tget? c.saves 0 = some v) (hstart : v.started = false)
    (hleft : v.left = false) : lateEntry c r.kernel = some 0 := by
  have hlen : 0 < r.kernel.parts.length := (List.getElem?_eq_some_iff.mp hpart).1
  obtain ⟨k, hk⟩ := Nat.exists_eq_succ_of_ne_zero (Nat.ne_of_gt hlen)
  unfold lateEntry upTo
  rw [hk, List.range_succ_eq_map, List.find?_cons_of_pos (by simp [save_of hv, hstart, hleft])]

theorem exec_entryWatchdog {p : Fin 8} {n : Fin 16384} (hrun : s.coresRun = true) (hc : s.ctx? n = some c) (hp : c.part = p)
    (hcr : c.run = some rid) (hr : s.run? rid = some r) (hab : r.abandoned = false) (hlate : lateEntry c r.kernel = some 0) :
    exec (.flowEntryWatchdog p n) s =
      if r.dispatchClk + s.timeout p 0 ≤ s.clk then .next (entryWatchdog n rid 0 s) else .next s := by
  show execFlowEntryWatchdog p n s = _
  unfold execFlowEntryWatchdog
  rw [hc]
  dsimp only
  rw [hcr]
  dsimp only
  rw [hr]
  dsimp only
  rw [hlate]
  dsimp only
  rw [hrun, hp, hab]
  split
  next h => exact ifDue_of (by simp [h])
  next h => exact ifDue_not (by simp [h])

/-- A queue watchdog is counted for its core and raised. -/
theorem raiseWatchdog_spec (p core q op counter e : Nat) (s : State) : let t := raiseWatchdog p core q op counter e s
    t.counter (coreCtr core 45) = min (s.counter (coreCtr core 45) + 1) (counterMax (coreCtr core 45)) ∧
    (∀ x, x ≠ coreCtr core 45 → t.counter x = s.counter x) ∧ SameBut [.trace, .funnels, .counters] s t := by
  have hraise := raisePart_same p (unitCore core) (ev 4 2 noFault (core + 32 * q) op counter e) (count (coreCtr core 45) 1 s)
  refine ⟨?_, fun x hx => ?_, ((count_same _ _ _).mono (by simp)).trans (hraise.mono (by simp))⟩
  · exact (hraise.counter (by simp) _).trans (counter_count _ _ _ (by simp))
  · exact (hraise.counter (by simp) _).trans (counter_count_other _ _ _ _ hx)

theorem coreCtr_ne_partCtr {core p i j : Nat} (hc : core < 32) (hi : i < 64) : coreCtr core i ≠ partCtr p j := by
  unfold coreCtr partCtr
  omega

/-- What the entry watchdog of a flow leaves. -/
theorem entryWatchdog_spec (hc : s.ctx? n = some c) (hcmd : c.isCmd = false) (hcr : c.run = some rid) (hr : s.run? rid = some r)
    (hrc : r.ctx = n) (hcore : part.core < 32) (hab : r.abandoned = false) (hst : r.status = none)
    (hpart : r.kernel.parts[0]? = some part) (hv : tget? c.saves 0 = some v) : let t := entryWatchdog n rid 0 s
    (∃ k ∈ (t.funnel c.part).waiting, k.kind = 3 ∧ k.flow = n ∧ k.seq = c.resultSeq ∧
      k.body = [d64 (part.core + 65536 * part.entryCounter + 2 ^ 32 * v.eEntry),
        d64 (tget c.sync (48 * part.core + part.entryCounter) (0, 0)).1.toNat]) ∧
    (∃ d, t.ctx? n = some d ∧ d.run = none) ∧
    t.counter (partCtr c.part 13) = min (s.counter (partCtr c.part 13) + 1) (counterMax (partCtr c.part 13)) ∧
    t.counter (coreCtr part.core 45) = min (s.counter (coreCtr part.core 45) + 1) (counterMax (coreCtr part.core 45)) ∧
    SameBut [.trace, .counters, .cores, .flows, .funnels] s t := by
  intro t
  obtain ⟨hcount, hothers, hraise⟩ := raiseWatchdog_spec c.part part.core 0 0 part.entryCounter v.eEntry s
  generalize hu : raiseWatchdog c.part part.core 0 0 part.entryCounter v.eEntry s = u at hcount hothers hraise
  have hcu := count_same (partCtr c.part 13) 1 u
  have ht : t = abandonRun rid stWatchdog 3 (watchdogBody part.core 0 0 part.entryCounter v.eEntry
      (c.vb part.core part.entryCounter).1.toNat) false (count (partCtr c.part 13) 1 u) := by
    show entryWatchdog n rid 0 s = _
    unfold entryWatchdog
    rw [hc, hr]
    dsimp only
    rw [hpart]
    dsimp only
    rw [save_of hv, hu, hst]
    rfl
  subst hrc
  obtain ⟨⟨k, hfunnel, hkind, hflow, hseq, hbody⟩, ⟨d, hd, hdr⟩, -, hsame⟩ := abandonRun_spec (s := count (partCtr c.part 13) 1 u)
    ((hcu.run? (by simp) _).trans ((hraise.run? (by simp) _).trans hr)) hab
    ((hcu.ctx? (by simp) _).trans ((hraise.ctx? (by simp) _).trans hc)) hcmd stWatchdog 3
    (watchdogBody part.core 0 0 part.entryCounter v.eEntry (c.vb part.core part.entryCounter).1.toNat)
  rw [← ht] at hfunnel hd hsame
  refine ⟨⟨k, ?_, hkind, hflow, hseq, ?_⟩, ⟨d, hd, hdr.trans (if_pos hcr)⟩, ?_, ?_, ?_⟩
  · rw [hfunnel, if_pos rfl]
    exact List.mem_append_right _ List.mem_cons_self
  · rw [hbody]
    rfl
  · rw [hsame.counter (by simp), counter_count _ _ _ (by simp), hothers _ (coreCtr_ne_partCtr hcore (by simp)).symm]
  · rw [hsame.counter (by simp), counter_count_other _ _ _ _ (coreCtr_ne_partCtr hcore (by simp)), hcount]
  · exact (hraise.mono (by simp)).trans ((hcu.mono (by simp)).trans (hsame.mono (by simp)))

end

/-- Settles O42: the four parts of a slicer's work, each by the lemma of its step. -/
theorem slicerCyclesDispatchWindows : Obligations.SlicerCyclesDispatchWindows := by
  refine ⟨fun p s hrun hon hpend hctxs hpre => ?_, ?_, fun p s clk hs hover => ⟨fun hclk => ?_, fun hclk => ?_⟩, ?_⟩
  · rw [exec_slicerCycle hrun hon hpend, slice_idle hctxs hpre]
  · intro p s n c w rest part hrun hon hpend hctxs hp hcmd hstate hcrun hready hlate hrest hparts hat hqueue hsteps hq hopen htiles hfull hoff
    refine slicer_dispatches hrun hon hpend hctxs hp hcmd hstate hcrun hready (fun v hv => ?_) hparts hat hqueue hsteps hq hopen htiles
      hfull hoff
    rw [hready] at hv
    rcases List.mem_cons.mp hv with rfl | hv
    · exact hlate
    · exact hrest v hv
  · show execOverloadClear p s = _
    unfold execOverloadClear
    rw [hover]
    exact ifDue_not (by simp; omega)
  · show execOverloadClear p s = _
    unfold execOverloadClear
    rw [hover]
    exact ifDue_of (by simp [served_of hs, hclk])
  · intro p n s c rid r part v hrun hc hp hcmd hcr hr hrc hcore hab hst hpart hv hstart hleft
    have hgo := exec_entryWatchdog hrun hc hp hcr hr hab (lateEntry_first hpart hv hstart hleft)
    refine ⟨fun hclk => ?_, fun hclk => ⟨_, hgo.trans (if_pos hclk), ?_⟩⟩
    · rw [hgo, if_neg (by omega)]
    · rw [← hp]
      exact entryWatchdog_spec hc hcmd hcr hr hrc hcore hab hst hpart hv

end Sys2Proof.Machine
end

section
/-! PROOF. What queues wait for arrives: lid edges, acknowledgements, signals, claims (R165 to R169, R172, R194 to R203), and the queue
watchdog (R208, R209). -/

namespace Sys2Proof.Machine

open Sys2Proof.Safety

/-! ## Lists of messages -/

section
variable {α : Type} {p : α → Bool} {m : α} {l1 l2 : List α}

theorem find?_append_cons (h1 : ∀ x ∈ l1, p x = false) (hm : p m = true) : (l1 ++ m :: l2).find? p = some m := by
  rw [List.find?_append, List.find?_eq_none.mpr (by simpa using h1), List.find?_cons_of_pos hm]
  rfl

theorem dropFirst_append_cons (h1 : ∀ x ∈ l1, p x = false) (hm : p m = true) : dropFirst p (l1 ++ m :: l2) = l1 ++ l2 := by
  induction l1 with
  | nil => exact if_pos hm
  | cons x l ih =>
    obtain ⟨hx, hl⟩ := List.forall_mem_cons.mp h1
    rw [List.cons_append, List.cons_append]
    unfold dropFirst
    rw [if_neg (by simp [hx]), ih hl]

theorem mapFirst_append_cons (f : α → α) (h1 : ∀ x ∈ l1, p x = false) (hm : p m = true) :
    mapFirst p f (l1 ++ m :: l2) = l1 ++ f m :: l2 := by
  induction l1 with
  | nil => exact if_pos hm
  | cons x l ih =>
    obtain ⟨hx, hl⟩ := List.forall_mem_cons.mp h1
    rw [List.cons_append, List.cons_append]
    unfold mapFirst
    rw [if_neg (by simp [hx]), ih hl]

end

theorem each_append {α σ : Type} (l1 l2 : List α) (f : α → σ → σ) (s : σ) : each (l1 ++ l2) f s = each l2 f (each l1 f s) := by
  induction l1 generalizing s with
  | nil => rfl
  | cons x l ih => exact ih (f x s)

/-! ## Acknowledged fences -/

section
variable {core : Fin 32} {q : Fin 4} {s : State} {h : Head}

theorem exec_fenceAck {n : Nat} (hrun : s.coresRun = true) (hh : s.head? core q = some h) (hstall : h.v.stall = .fence n) :
    exec (.fenceAck core q) s = if s.dataInFlight core q then .next s else
      .next (stepDone core q (traceOnly 0x140 5 h.ctx.part (unitCore core) q n 0 0 (count (coreCtr core 44) 1 s))) := by
  show execFenceAck core q s = _
  unfold execFenceAck
  rw [queue?_of_head? hh]
  dsimp only
  rw [hstall]
  dsimp only
  split
  next hd => exact ifDue_not (by simp [hd])
  next hd =>
    refine (ifDue_of (by simpa [hrun] using hd)).trans ?_
    rw [ctx?_of_head? hh]
    rfl

theorem dataInFlight_iff : s.dataInFlight core q = true ↔
    ∃ m ∈ s.flows.ladle, m.src = core.val ∧ m.queue = q.val ∧ ∀ a b c, m.body ≠ .signal a b c := by
  unfold State.dataInFlight
  rw [List.any_eq_true]
  refine exists_congr fun m => and_congr_right fun _ => ?_
  cases m.body <;> simp

/-- An acknowledged FENCE lets its queue go on. -/
theorem fenceAck_goes {n : Nat} (hrun : s.coresRun = true) (hh : s.head? core q = some h)
    (hlast : h.v.step + 1 < h.part.steps.length) (hstall : h.v.stall = .fence n) (hfree : s.dataInFlight core q = false) :
    Completes (.fenceAck core q) s (fun t => t.queue? core q = some (h.v.next s.clk) ∧ CountedOne core 44 s t ∧
      SameBut [.cores, .counters, .trace] s t) := by
  have hgo := exec_fenceAck hrun hh hstall
  rw [hfree] at hgo
  have htrace := traceOnly_same 0x140 5 h.ctx.part (unitCore core) q n 0 0 (count (coreCtr core 44) 1 s)
  have hu : SameBut [.counters, .trace] s (traceOnly 0x140 5 h.ctx.part (unitCore core) q n 0 0 (count (coreCtr core 44) 1 s)) :=
    ((count_same _ _ _).mono (by simp)).trans (htrace.mono (by simp))
  obtain ⟨hqueue, hdone⟩ := stepDone_after hh hlast hu (by simp) (by simp) (hu.run? (by simp) _)
    ((hu.ctx? (by simp) _).trans (ctx?_of_head? hh))
  refine ⟨_, hgo, hqueue.1, ?_, (hu.mono (by simp)).trans (hdone.mono (by simp))⟩
  exact ((countedOne_count core 44 s).then_kept (htrace.counter (by simp) _)).then_kept (hdone.counter (by simp) _)

end

/-! ## Signals that arrive -/

section
variable {src dst : Fin 32} {core : Nat} {fate : FlitFate} {s t u : State} {l1 l2 : List LadleMsg} {m : LadleMsg} {n counter inc : Nat}

theorem routeHead_of (hl : s.flows.ladle = l1 ++ m :: l2) (h1 : ∀ x ∈ l1, ¬ (x.src = src.val ∧ x.dst = dst.val)) (hsrc : m.src = src.val)
    (hdst : m.dst = dst.val) : s.routeHead src dst = some m := by
  unfold State.routeHead
  rw [hl]
  exact find?_append_cons (fun x hx => by simpa using h1 x hx) (by simp [hsrc, hdst])

theorem popRoute_of (hl : s.flows.ladle = l1 ++ m :: l2) (h1 : ∀ x ∈ l1, ¬ (x.src = src.val ∧ x.dst = dst.val)) (hsrc : m.src = src.val)
    (hdst : m.dst = dst.val) : popRoute src dst s = { s with flows := { s.flows with ladle := l1 ++ l2 } } := by
  unfold popRoute
  show { s with flows := { s.flows with ladle := dropFirst _ s.flows.ladle } } = _
  rw [hl, dropFirst_append_cons (fun x hx => by simpa using h1 x hx) (by simp [hsrc, hdst])]

/-- A count by n, which may be 0. -/
def CountedBy (core i n : Nat) (s t : State) : Prop := t.counter (coreCtr core i) =
  if n = 0 then s.counter (coreCtr core i) else min (s.counter (coreCtr core i) + n) (counterMax (coreCtr core i))

theorem countedBy_count (core i n : Nat) (s : State) : CountedBy core i n s (count (coreCtr core i) n s) := by
  unfold CountedBy
  split
  next h => rw [h]; rfl
  next h => exact counter_count _ _ _ h

theorem CountedBy.after_kept {i : Nat} (h : CountedBy core i n u t) (hk : u.counter (coreCtr core i) = s.counter (coreCtr core i)) :
    CountedBy core i n s t := by
  unfold CountedBy
  rw [← hk]
  exact h

/-- Counters of one core that differ. -/
theorem counter_count_ne {i j : Nat} (core n : Nat) (h : i ≠ j) (s : State) :
    (count (coreCtr core j) n s).counter (coreCtr core i) = s.counter (coreCtr core i) :=
  counter_count_other _ _ _ _ (by simp [coreCtr_inj, h])

/-- Flits that fare well enough are counted, and nothing else comes of them. -/
theorem flitFate_spec (hf : fate.failures < 3) (src core : Nat) (s : State) : let t := flitFate src core fate s
    CountedBy core 27 fate.corrected s t ∧ CountedBy core 28 (min fate.failures 2) s t ∧
    (∀ i, i ≠ 27 → i ≠ 28 → t.counter (coreCtr core i) = s.counter (coreCtr core i)) ∧ SameBut [.counters] s t := by
  have ht : flitFate src core fate s = count (coreCtr core 28) (min fate.failures 2) (count (coreCtr core 27) fate.corrected s) := by
    unfold flitFate
    exact if_neg (by omega)
  intro t
  show CountedBy core 27 _ s (flitFate src core fate s) ∧ CountedBy core 28 _ s (flitFate src core fate s) ∧
    (∀ i, i ≠ 27 → i ≠ 28 → (flitFate src core fate s).counter (coreCtr core i) = s.counter (coreCtr core i)) ∧ SameBut _ s (flitFate src core fate s)
  rw [ht]
  refine ⟨?_, ?_, fun i h27 h28 => ?_, (count_same _ _ _).trans (count_same _ _ _)⟩
  · exact (counter_count_ne core _ (by simp) _).trans (countedBy_count core 27 _ s)
  · exact (countedBy_count core 28 _ _).after_kept (counter_count_ne core _ (by simp) _)
  · rw [counter_count_ne core _ h28, counter_count_ne core _ h27]

theorem exec_signalArrival (hrun : s.coresRun = true) (hl : s.flows.ladle = l1 ++ m :: l2)
    (h1 : ∀ x ∈ l1, ¬ (x.src = src.val ∧ x.dst = dst.val)) (hsrc : m.src = src.val) (hdst : m.dst = dst.val)
    (hb : m.body = .signal n counter inc) : exec (.signalArrival src dst fate) s =
      .next (signalAt dst n counter inc (flitFate src dst fate { s with flows := { s.flows with ladle := l1 ++ l2 } })) := by
  show execSignalArrival src dst fate s = _
  unfold execSignalArrival
  rw [routeHead_of hl h1 hsrc hdst]
  dsimp only
  rw [hb]
  dsimp only
  rw [ifDue_of hrun, popRoute_of hl h1 hsrc hdst]

/-- A signal for a context that is not resident waits in the Stockpot. -/
theorem signalAt_away (h : ∀ e ∈ (s.core core).queues, e.2.ctx ≠ n) (counter inc : Nat) : signalAt core n counter inc s =
    { s with flows := { s.flows with pot := s.flows.pot ++ [{ core := core, ctx := n, counter := counter, inc := inc }] } } := by
  unfold signalAt
  have hno : s.residentOn core n = false := by
    unfold State.residentOn
    rw [List.any_eq_false]
    intro e he
    simpa using h e he
  rw [hno]
  rfl

/-- A signal for a resident context on whose core no queue is stalled is added at once. -/
theorem signalAt_here {c : Ctx} (hres : s.residentOn core n = true) (hfree : ∀ e ∈ (s.core core).queues, e.2.stall = .none)
    (hc : s.ctx? n = some c) (counter inc : Nat) :
    signalAt core n counter inc s = count (coreCtr core 36) 1 (s.setCtx n (c.added core counter inc)) := by
  unfold signalAt
  rw [if_pos hres, addV_eq hc]
  refine releaseAll_unstalled ?_ _ _
  rw [(count_same _ _ _).core (by simp), (setCtx_same _ _ _).core (by simp)]
  exact hfree

end

/-! ## A core's fault -/

section
variable {u : Unit} {kind outcome d : Nat} {s t : State}

theorem addRecord_faults (u : Unit) (kind outcome part : Nat) (w : Work) (d a : Nat) (s : State) :
    (addRecord u kind outcome part w d a s).2.crock.mirror.faults =
      (if 1024 ≤ s.crock.mirror.faults.length then s.crock.mirror.faults.drop 1 else s.crock.mirror.faults) ++
        [recordOf u kind outcome part w d a s] := by
  have hcrock : (addRecord u kind outcome part w d a s).2.crock = (s.nextDraw.modMirror (fun j =>
      { j with faults := (if 1024 ≤ j.faults.length then j.faults.drop 1 else j.faults) ++ [recordOf u kind outcome part w d a s],
               nextFault := s.crock.mirror.nextFault + 1 })).crock := by
    unfold addRecord
    simp only
    split
    · split
      · exact SameBut.crock (raiseDev_same _ _ _) (by simp)
      · rfl
    · rfl
  rw [hcrock]
  rfl

/-- A record is the history's last. -/
def LastRecord (x : FaultRec) (s : State) : Prop := ∃ l, s.crock.mirror.faults = l ++ [x]

variable {x : FaultRec}

theorem LastRecord.mem (h : LastRecord x s) : x ∈ s.crock.mirror.faults := by
  obtain ⟨l, hl⟩ := h
  rw [hl]
  exact List.mem_append_right _ List.mem_cons_self

theorem LastRecord.of_faults (h : LastRecord x s) (hf : t.crock.mirror.faults = s.crock.mirror.faults) : LastRecord x t := by
  unfold LastRecord
  rw [hf]
  exact h

theorem lastRecord_reported (u : Unit) (kind outcome : Nat) (w : Work) (d : Nat) (s : State) :
    LastRecord (recordOf u kind outcome (s.unitPart u) w d 0 s) (reported u kind outcome w d s) := by
  refine LastRecord.of_faults ?_ (congrArg (·.mirror.faults) (reported_crock u kind outcome w d))
  exact ⟨_, addRecord_faults u kind outcome _ w d 0 s⟩

/-- One more record does not displace the last one, even in a full history. -/
theorem LastRecord.mem_addRecord (h : LastRecord x s) (u' : Unit) (k' o' p' : Nat) (w' : Work) (d' a' : Nat) :
    x ∈ (addRecord u' k' o' p' w' d' a' s).2.crock.mirror.faults := by
  obtain ⟨l, hl⟩ := h
  rw [addRecord_faults, hl]
  refine List.mem_append_left _ ?_
  split
  next hfull =>
    cases l with
    | nil => simp at hfull
    | cons y l => simp
  next => simp

theorem SameBut.mem_faults {L : List Piece} (h : SameBut L s t) (hp : Piece.crock ∉ L) (hx : x ∈ s.crock.mirror.faults) :
    x ∈ t.crock.mirror.faults := by
  rw [h.crock hp]
  exact hx

/-- A fault of a core stays in the history through all that comes of it. -/
theorem recordOf_mem_attribute_core (c kind outcome : Nat) (w : Work) (d : Nat) (perm late : Bool) (s : State) :
    recordOf (uCore c) kind outcome (s.unitPart (uCore c)) w d 0 s ∈
      (attribute_ (uCore c) kind outcome w d perm late s).crock.mirror.faults := by
  have hlast := lastRecord_reported (uCore c) kind outcome w d s
  have hgo : attribute_ (uCore c) kind outcome w d perm late s = retireCore c kind w d (reported (uCore c) kind outcome w d s) ∨
      attribute_ (uCore c) kind outcome w d perm late s = suspectCore c kind w d (reported (uCore c) kind outcome w d s) := by
    unfold attribute_
    dsimp only
    split
    · exact .inl rfl
    · exact .inr rfl
  rcases hgo with hgo | hgo <;> rw [hgo]
  case inl =>
    unfold retireCore
    split
    · exact hlast.mem
    · refine SameBut.mem_faults (each_cancelRun_same _ _ _) (by simp) ?_
      unfold raiseRetired
      refine SameBut.mem_faults (raiseUnit_same _ _ _ _) (by simp) (LastRecord.mem_addRecord ?_ _ _ _ _ _ _ _)
      exact hlast.of_faults rfl
  case inr =>
    unfold suspectCore
    dsimp only
    split
    · exact hlast.mem
    · refine SameBut.mem_faults (raiseUnit_same _ _ _ _) (by simp) (LastRecord.mem_addRecord ?_ _ _ _ _ _ _ _)
      exact hlast.of_faults rfl

end

/-! ## The Stockpot's signals -/

section
variable {core : Fin 32} {s : State} {l1 l2 : List PotSignal} {x : PotSignal} {c : Ctx}

/-- The oldest signal for a core's saved copies is added and leaves the Stockpot (R195). -/
theorem stockpot_applies (hrun : s.coresRun = true) (hpot : s.flows.pot = l1 ++ x :: l2) (h1 : ∀ y ∈ l1, y.core ≠ core.val)
    (hx : x.core = core.val) (hc : s.ctx? x.ctx = some c) (hfree : ∀ e ∈ (s.core core).queues, e.2.stall = .none) :
    Completes (.stockpotSignalApply core) s (fun t => t.flows.pot = l1 ++ l2 ∧ CountedOne core 37 s t ∧
      (∃ d, t.ctx? x.ctx = some d ∧ d.vb core x.counter = ((c.vb core x.counter).1 + w32 x.inc, (c.vb core x.counter).2)) ∧
      (∀ n, n ≠ x.ctx → t.ctx? n = s.ctx? n) ∧ SameBut [.flows, .counters, .trace] s t) := by
  generalize hs1 : ({ s with flows := { s.flows with pot := l1 ++ l2 } } : State) = s1
  have hc1 : s1.ctx? x.ctx = some c := hs1 ▸ hc
  have h1same : SameBut [.flows] s s1 := hs1 ▸ modFlows_same (fun f => { f with pot := l1 ++ l2 }) s
  have hcount := count_same (coreCtr core 37) 1 s1
  have hgo : exec (.stockpotSignalApply core) s = .next ((count (coreCtr core 37) 1 s1).setCtx x.ctx (c.added core x.counter x.inc)) := by
    show execStockpotSignalApply core s = _
    unfold execStockpotSignalApply
    rw [hpot, find?_append_cons (fun y hy => by simpa using h1 y hy) (by simp [hx])]
    refine (ifDue_of hrun).trans (congrArg _ ?_)
    have hdrop : s.modFlows (fun f => { f with pot := dropFirst (fun y => y.core == core.val) f.pot }) = s1 := by
      rw [← hs1, ← dropFirst_append_cons (p := fun y : PotSignal => y.core == core.val) (fun y hy => by simpa using h1 y hy)
        (show (x.core == core.val) = true by simp [hx]), ← hpot]
      rfl
    rw [hdrop]
    dsimp only
    rw [hc1]
    dsimp only
    rw [addV_eq ((hcount.ctx? (by simp) _).trans hc1)]
    refine releaseAll_unstalled ?_ _ _
    rw [(setCtx_same _ _ _).core (by simp), hcount.core (by simp), h1same.core (by simp)]
    exact hfree
  have hset := setCtx_same x.ctx (c.added core x.counter x.inc) (count (coreCtr core 37) 1 s1)
  refine ⟨_, hgo, ?_, ?_, ⟨_, (ctx?_setCtx ..).trans (if_pos rfl), vb_added_same ..⟩, fun n hn => ?_, ?_⟩
  · exact (congrArg Flows.pot (hcount.flows (by simp))).trans (hs1 ▸ rfl)
  · exact ((countedOne_count core 37 s1).then_kept (hset.counter (by simp) _)).after_kept (h1same.counter (by simp) _)
  · rw [ctx?_setCtx, if_neg hn, hcount.ctx? (by simp), ← hs1]
    rfl
  · exact (h1same.mono (by simp)).trans ((hcount.mono (by simp)).trans (hset.mono (by simp)))

end

/-! ## Claims at the counter node -/

section
variable {core : Fin 32} {q : Fin 4} {s : State} {l1 l2 : List ClaimMsg} {m : ClaimMsg}

/-- The machine with a claim answered and the node as it then is. -/
def State.answered (s : State) (l1 l2 : List ClaimMsg) (m : ClaimMsg) (v : Nat) (w : WorkNode) : State :=
  { s with flows := { s.flows with claims := l1 ++ { m with reply := some v } :: l2, node := w } }

theorem exec_workClaim (hrun : s.coresRun = true) (hl : s.flows.claims = l1 ++ m :: l2) (hcore : m.core = core.val)
    (hq : m.queue = q.val) (hm : m.reply = none) (h1 : ∀ y ∈ l1, ¬ (y.core = core.val ∧ y.queue = q.val ∧ y.reply = none)) :
    exec (.workClaim core q) s = .next (
      let x := nodeTake m s.flows.node
      (if x.2.1 then count (coreCtr core 35) 1 s else s).answered l1 l2 m x.1 x.2.2) := by
  have h1' : ∀ y ∈ l1, (y.core == core.val && y.queue == q.val && y.reply.isNone) = false := fun y hy => by
    simpa [and_assoc, Option.ne_none_iff_isSome] using h1 y hy
  have hm' : (m.core == core.val && m.queue == q.val && m.reply.isNone) = true := by simp [hcore, hq, hm]
  show execWorkClaim core q s = _
  unfold execWorkClaim
  dsimp only
  rw [hl, find?_append_cons h1' hm']
  refine (ifDue_of hrun).trans (congrArg _ ?_)
  unfold State.answered
  have hclaims : (if (nodeTake m s.flows.node).2.1 then count (coreCtr core 35) 1 s else s).flows = s.flows := by
    split
    · exact SameBut.flows (count_same _ _ _) (by simp)
    · rfl
  show State.modFlows _ _ = _
  unfold State.modFlows
  rw [hclaims]
  dsimp only
  rw [hl, mapFirst_append_cons _ h1' hm']

theorem nodeTake_fresh (w : WorkNode) (hreset : m.reset = none)
    (hnew : ∀ r, tget? w.last (queueNo m.core m.queue) ≠ some (m.seq, r)) :
    let v := tget w.counters m.counter 0
    nodeTake m w = (v, false, { w with
      counters := tset w.counters m.counter (min (v + m.amount) 0xFFFFFFFF), last := tset w.last (queueNo m.core m.queue) (m.seq, v) }) := by
  intro v
  unfold nodeTake
  rw [hreset]
  dsimp only
  split
  next sq r hlast => exact if_neg (fun h : sq = m.seq => hnew r (h ▸ hlast))
  next => rfl

theorem nodeTake_repeated (w : WorkNode) {r : Nat} (hreset : m.reset = none)
    (hlast : tget? w.last (queueNo m.core m.queue) = some (m.seq, r)) : nodeTake m w = (r, true, w) := by
  unfold nodeTake
  rw [hreset]
  dsimp only
  rw [hlast]
  exact if_pos rfl

theorem nodeTake_reset (w : WorkNode) {v : Nat} (hreset : m.reset = some v) :
    nodeTake m w = (0, false, { w with counters := tset w.counters m.counter v }) := by
  unfold nodeTake
  rw [hreset]

theorem answered_same (l1 l2 : List ClaimMsg) (m : ClaimMsg) (v : Nat) (w : WorkNode) (s : State) :
    SameBut [.flows] s (s.answered l1 l2 m v w) := modFlows_same (fun f => { f with claims := l1 ++ { m with reply := some v } :: l2, node := w }) s

end

/-! ## Claims answered -/

section
variable {core : Fin 32} {q : Fin 4} {s : State} {l1 l2 : List ClaimMsg} {m : ClaimMsg} {v : Nat} {h : Head}

/-- The machine without a claim that has reached its queue. -/
def State.withClaims (s : State) (l : List ClaimMsg) : State := { s with flows := { s.flows with claims := l } }

theorem withClaims_same (l : List ClaimMsg) (s : State) : SameBut [.flows] s (s.withClaims l) :=
  modFlows_same (fun f => { f with claims := l }) s

theorem head?_withClaims (hh : s.head? core q = some h) (l : List ClaimMsg) : (s.withClaims l).head? core q = some h := by
  obtain ⟨hv, hr, hc, hp, hx⟩ := head?_eq_some.mp hh
  exact head?_eq_some.mpr ⟨hv, hr, hc, hp, hx⟩

/-- A queue's oldest answered message, and the machine without it. -/
theorem reply_taken (hl : s.flows.claims = l1 ++ m :: l2) (hcore : m.core = core.val) (hq : m.queue = q.val) (hm : m.reply = some v)
    (h1 : ∀ y ∈ l1, ¬ (y.core = core.val ∧ y.queue = q.val ∧ y.reply ≠ none)) :
    let mine := fun (m : ClaimMsg) => m.core == core.val && m.queue == q.val && m.reply.isSome
    s.flows.claims.find? mine = some m ∧
      s.modFlows (fun f => { f with claims := dropFirst mine f.claims }) = s.withClaims (l1 ++ l2) := by
  intro mine
  have h1' : ∀ y ∈ l1, mine y = false := fun y hy => by
    simpa [mine, and_assoc, Option.ne_none_iff_isSome] using h1 y hy
  have hm' : mine m = true := by simp [mine, hcore, hq, hm]
  refine ⟨by rw [hl, find?_append_cons h1' hm'], ?_⟩
  rw [← dropFirst_append_cons h1' hm', ← hl]
  rfl

section
variable (hrun : s.coresRun = true) (hl : s.flows.claims = l1 ++ m :: l2) (hcore : m.core = core.val) (hq : m.queue = q.val)
  (hm : m.reply = some v) (h1 : ∀ y ∈ l1, ¬ (y.core = core.val ∧ y.queue = q.val ∧ y.reply ≠ none)) (hh : s.head? core q = some h)
include hrun hl hcore hq hm h1 hh

/-- The reply to a reset ends its step (R169). -/
theorem exec_resetReply {z : Nat} (hreset : m.reset = some z) (hstall : h.v.stall = .work) :
    exec (.workClaimReply core q) s = .next (stepDone core q (s.withClaims (l1 ++ l2))) := by
  obtain ⟨hfind, hdrop⟩ := reply_taken hl hcore hq hm h1
  show execWorkClaimReply core q s = _
  unfold execWorkClaimReply
  dsimp only
  rw [hfind]
  refine (ifDue_of hrun).trans (congrArg _ ?_)
  rw [hdrop, head?_withClaims hh]
  dsimp only
  rw [hreset, hstall]

/-- The reply to a claim gives the loop its items, or ends it (R166). -/
theorem exec_claimReply {l : Layer} {x : Loop} (hreset : m.reset = none) (hstep : h.step = .layer l) (hloop : h.v.loop = some x)
    (hclaim : x.claiming = true) (hseq : m.seq = (tget s.flows.node.nextSeq (4 * core.val + q.val) 0 + 255) % 256) :
    exec (.workClaimReply core q) s = .next (advance 1 core q (closeCoding core q
      ((s.withClaims (l1 ++ l2)).setQueue core q { h.v with loop := some (takeClaim l v x) }))) := by
  obtain ⟨hfind, hdrop⟩ := reply_taken hl hcore hq hm h1
  show execWorkClaimReply core q s = _
  unfold execWorkClaimReply
  dsimp only
  rw [hfind]
  refine (ifDue_of hrun).trans (congrArg _ ?_)
  rw [hdrop, head?_withClaims hh]
  dsimp only
  rw [hreset, hstep, hloop]
  dsimp only
  rw [if_pos, hm]
  · rfl
  · rw [Bool.and_eq_true, beq_iff_eq]
    exact ⟨hclaim, hseq⟩

end

/-- A loop without items, or with one that has no codes, has not all its codes. -/
theorem closeCoding_open {l : Layer} {x : Loop} (hh : s.head? core q = some h) (hstep : h.step = .layer l) (hloop : h.v.loop = some x)
    (hopen : allCoded l x = false) : closeCoding core q s = s := by
  unfold closeCoding
  rw [hh]
  dsimp only
  rw [hstep, hloop]
  dsimp only
  rw [hopen]
  rfl

/-- With no slot open nothing can be taken out. -/
theorem readyItem_unopened {x : Loop} (hopened : x.opened = []) (c : Nat) (h : Head) (l : Layer) (s : State) :
    s.readyItem c h l x = none := by
  unfold State.readyItem
  rw [hopened]
  rfl

/-- A loop none of whose slots is open ends its step once it is done. -/
theorem advance_unopened {l : Layer} {x : Loop} (hh : s.head? core q = some h) (hstep : h.step = .layer l) (hloop : h.v.loop = some x)
    (hread : h.v.readout = none) (hopened : x.opened = []) (f : Nat) :
    advance (f + 1) core q s = if loopDone l x && !x.held then stepDone core q s else s := by
  conv => lhs; unfold advance
  rw [hh]
  dsimp only
  rw [hstep, hloop, hread]
  dsimp only
  rw [readyItem_unopened hopened]

/-- A window read to its end is noted with its run. -/
theorem windowRead_spec {r : Run} (hr : s.run? h.v.run = some r) (l : Layer) : let t := windowRead h l s
    (∃ r', t.run? h.v.run = some r' ∧ r'.kernel = r.kernel) ∧ t.flows.ctxs = s.flows.ctxs ∧ t.flows.claims = s.flows.claims ∧
    SameBut [.flows] s t := by
  unfold windowRead
  dsimp only
  split
  · exact ⟨⟨r, hr, rfl⟩, rfl, rfl, .refl _ s⟩
  · unfold State.modRun
    rw [hr]
    exact ⟨⟨_, (run?_setRun ..).trans (if_pos rfl), rfl⟩, rfl, rfl, setRun_same _ _ s⟩

theorem head?_setQueue {w : Queue} {r : Run} {c : Ctx} {p : Part} {z : Step} (hr : s.run? w.run = some r) (hc : s.ctx? w.ctx = some c)
    (hp : r.kernel.parts[w.part]? = some p) (hz : p.steps[w.step]? = some z) :
    (s.setQueue core q w).head? core q = some { v := w, run := r, ctx := c, part := p, step := z } :=
  head?_eq_some.mpr ⟨(queueSet_setQueue core q w s).1, hr, hc, hp, hz⟩

/-- The loop that has taken a claim's items goes on with them (R166). -/
theorem claim_gives {l : Layer} {x : Loop} (hh : s.head? core q = some h) (hstep : h.step = .layer l) (hread : h.v.readout = none)
    (hwork : l.useWork = true) (hopened : x.opened = []) (hended : x.ended = false) (hv : v < l.batch) (hsize : 1 ≤ l.claimSize)
    (hnew : ∀ c ∈ x.codes, c.item ≠ v) :
    advance 1 core q (closeCoding core q (s.setQueue core q { h.v with loop := some (takeClaim l v x) })) =
      s.setQueue core q { h.v with loop := some { x with claiming := false, items := claimItems l v, issued := 0 } } := by
  have htake : takeClaim l v x = { x with claiming := false, items := claimItems l v, issued := 0 } := if_neg (by omega)
  obtain ⟨-, hr, hc, hp, hx⟩ := head?_eq_some.mp hh
  have hmem : v ∈ claimItems l v := by
    unfold claimItems
    exact List.mem_filter.mpr ⟨List.mem_map.mpr ⟨0, List.mem_range.mpr hsize, rfl⟩, by simpa using hv⟩
  have hhead := head?_setQueue (core := core) (q := q)
    (w := { h.v with loop := some { x with claiming := false, items := claimItems l v, issued := 0 } }) hr hc hp hx
  rw [htake, closeCoding_open hhead hstep rfl]
  · rw [advance_unopened hhead hstep rfl hread hopened, if_neg]
    simp [loopDone, hwork, hended]
  · have hcoded : (uncoded { x with claiming := false, items := claimItems l v, issued := 0 }).isSome := by
      unfold uncoded
      rw [List.find?_isSome]
      refine ⟨v, hmem, ?_⟩
      rw [Bool.not_eq_true', List.any_eq_false]
      exact fun c hc => by simpa using hnew c hc
    unfold allCoded
    simp [Option.isNone_eq_false_iff.mpr hcoded]

theorem mem_claimItems {l : Layer} {b : Nat} : b ∈ claimItems l v ↔ v ≤ b ∧ b < v + l.claimSize ∧ b < l.batch := by
  unfold claimItems upTo
  simp only [List.mem_filter, List.mem_map, List.mem_range, decide_eq_true_eq]
  constructor
  · rintro ⟨⟨i, hi, rfl⟩, hb⟩
    omega
  · rintro ⟨hv, hs, hb⟩
    exact ⟨⟨b - v, by omega, by omega⟩, hb⟩

/-- A loop that holds no item ends with the claim that gives it none (R166). -/
theorem claim_ends {l : Layer} {x : Loop} (hh : s.head? core q = some h) (hlast : h.v.step + 1 < h.part.steps.length)
    (hstep : h.step = .layer l) (hread : h.v.readout = none) (hwork : l.useWork = true) (hopened : x.opened = []) (hfresh : x.fresh = true)
    (hv : l.batch ≤ v) (hitems : x.items = []) :
    let t := advance 1 core q (closeCoding core q (s.setQueue core q { h.v with loop := some (takeClaim l v x) }))
    t.queue? core q = some (h.v.next s.clk) ∧ t.flows.claims = s.flows.claims ∧ SameBut [.cores, .flows, .counters, .trace] s t := by
  have htake : takeClaim l v x = { x with claiming := false, ended := true } := if_pos hv
  obtain ⟨-, hr, hc, hp, hx⟩ := head?_eq_some.mp hh
  rw [htake]
  generalize hy : ({ x with claiming := false, ended := true } : Loop) = y
  have hhead := head?_setQueue (core := core) (q := q) (w := { h.v with loop := some y }) hr hc hp hx
  have hset := setQueue_same core q { h.v with loop := some y } s
  generalize s.setQueue core q { h.v with loop := some y } = s2 at hhead hset
  have hheld : y.held = false := by
    rw [← hy]
    unfold Loop.held
    simp [hfresh]
  have hcoded : allCoded l y = true := by
    rw [← hy]
    unfold allCoded uncoded
    simp [hitems]
  have hdone : loopDone l y = true := by
    rw [← hy]
    unfold loopDone opCount
    simp [hwork, hopened, hitems]
  have hclose : ∃ u r c, closeCoding core q s2 = u ∧ u.run? h.v.run = some r ∧ r.kernel = h.run.kernel ∧ u.ctx? h.v.ctx = some c ∧
      u.flows.claims = s2.flows.claims ∧ SameBut [.flows] s2 u := by
    unfold closeCoding
    rw [hhead]
    dsimp only
    rw [hstep]
    dsimp only
    rw [hcoded, hheld, Bool.not_true, Bool.not_false, if_neg Bool.false_ne_true, if_pos rfl]
    split
    · obtain ⟨⟨r', hr', hk⟩, hctxs, hclaims, hsame⟩ := windowRead_spec (s := s2.setCtx h.v.ctx { h.ctx with
          carried := tset h.ctx.carried (carryKey h.v.part h.v.step) (nextCarried s2 { h with v := { h.v with loop := some y } } q l y) })
        (h := { h with v := { h.v with loop := some y } }) ((hset.run? (by simp) _).trans hr) l
      exact ⟨_, r', _, rfl, hr', hk, (congrArg (tget? · h.v.ctx) hctxs).trans ((ctx?_setCtx ..).trans (if_pos rfl)), hclaims,
        (setCtx_same _ _ _).trans hsame⟩
    · obtain ⟨⟨r', hr', hk⟩, hctxs, hclaims, hsame⟩ := windowRead_spec (s := s2) (h := { h with v := { h.v with loop := some y } })
        ((hset.run? (by simp) _).trans hr) l
      exact ⟨_, r', _, rfl, hr', hk, (congrArg (tget? · h.v.ctx) hctxs).trans ((hset.ctx? (by simp) _).trans hc), hclaims, hsame⟩
  obtain ⟨u, r', c', hclose, hr', hk, hc', hclaims, hu⟩ := hclose
  have hq2 := queue?_of_head? hhead
  have hheadu : u.head? core q = some { v := { h.v with loop := some y }, run := r', ctx := c', part := h.part, step := h.step } :=
    head?_eq_some.mpr ⟨(hu.queue? (by simp) _ _).trans hq2, hr', hc', by rw [hk]; exact hp, hx⟩
  intro t
  have ht : t = stepDone core q u := by
    show advance 1 core q (closeCoding core q s2) = _
    rw [hclose, advance_unopened hheadu hstep rfl hread (by rw [← hy]; exact hopened), hdone, hheld]
    rfl
  have hq := stepDone_queue hheadu hlast
  have hdonesame := stepDone_same hheadu hlast
  rw [← ht] at hq hdonesame
  refine ⟨?_, ?_, (hset.mono (by simp)).trans ((hu.mono (by simp)).trans (hdonesame.mono (by simp)))⟩
  · rw [hq.1, hu.clk (by simp), hset.clk (by simp)]
    rfl
  · rw [hdonesame.flows (by simp), hclaims, hset.flows (by simp)]

end

/-! ## Lid edges -/

section
variable {line core : Nat} {s t u : State} {q : Nat} {h : Head} {mask : Nat}

/-- The realignment of a context: B takes V for the counters of a list (R203). -/
def Ctx.realigned (c : Ctx) (core : Nat) (l : List Nat) : Ctx :=
  l.foldl (fun y n => y.setVb core n ((y.vb core n).1, (y.vb core n).1)) c

theorem vb_setVb (c : Ctx) (core n m : Nat) (v : Word × Word) :
    (c.setVb core n v).vb core m = if m = n then v else c.vb core m := by
  unfold Ctx.vb Ctx.setVb
  dsimp only
  rw [tget_tset]
  simp

theorem vb_realigned (c : Ctx) (core : Nat) (l : List Nat) (n : Nat) :
    (c.realigned core l).vb core n = ((c.vb core n).1, if n ∈ l then (c.vb core n).1 else (c.vb core n).2) := by
  induction l generalizing c with
  | nil => rfl
  | cons m l ih =>
    refine (ih _).trans ?_
    rw [vb_setVb]
    by_cases hn : n = m
    · simp [hn]
    · simp [hn]

/-- What the edge leaves of a core while it acts on others, none of which holds a part. -/
def LidElsewhere (core : Nat) (s t : State) : Prop :=
  t.core core = s.core core ∧ (∀ c, c ≠ core → (t.core c).queues = (s.core c).queues) ∧
  t.counter (coreCtr core 42) = s.counter (coreCtr core 42) ∧ SameBut [.cores, .counters] s t

theorem LidElsewhere.trans (h : LidElsewhere core s t) (h' : LidElsewhere core t u) : LidElsewhere core s u := by
  obtain ⟨hc, hq, hn, hs⟩ := h
  obtain ⟨hc', hq', hn', hs'⟩ := h'
  exact ⟨hc'.trans hc, fun c hne => (hq' c hne).trans (hq c hne), hn'.trans hn, hs.trans hs'⟩

theorem lidCore_empty {c : Nat} (hq : (s.core c).queues = []) (hc : c ≠ core) : LidElsewhere core s (lidCore line c s) := by
  have hgo : lidCore line c s = dropArrival c line (count (coreCtr c 42) 1 s) := by
    unfold lidCore
    rw [hq]
    rfl
  have hcount := count_same (coreCtr c 42) 1 s
  have hdrop : SameBut [.cores] (count (coreCtr c 42) 1 s) (dropArrival c line (count (coreCtr c 42) 1 s)) := modCore_same _ _ _
  rw [hgo]
  refine ⟨?_, fun d _ => ?_, ?_, (hcount.mono (by simp)).trans (hdrop.mono (by simp))⟩
  · unfold dropArrival
    rw [core_modCore, if_neg hc.symm, hcount.core (by simp)]
  · unfold dropArrival
    rw [core_modCore]
    split
    next h => rw [hcount.core (by simp), h]
    next => rw [hcount.core (by simp)]
  · rw [hdrop.counter (by simp), counter_count_other]
    unfold coreCtr
    omega

theorem each_lidCore_empty {l : List Nat} (hl : core ∉ l) (hq : ∀ c, c ≠ core → (s.core c).queues = []) :
    LidElsewhere core s (each l (lidCore line) s) := by
  induction l generalizing s with
  | nil => exact ⟨rfl, fun _ _ => rfl, rfl, .refl _ s⟩
  | cons c l ih =>
    obtain ⟨hc, hl⟩ := List.ne_and_not_mem_of_not_mem_cons hl
    have hfirst := lidCore_empty (line := line) (hq c hc.symm) hc.symm
    exact hfirst.trans (ih hl (fun d hd => (hfirst.2.1 d hd).trans (hq d hd)))

/-- The edge at a core with one part, which waits for it: realigned, released, its arrival withdrawn (R200, R203). -/
theorem lidCore_waiting (hh : s.head? core q = some h) (hlast : h.v.step + 1 < h.part.steps.length)
    (hqueues : (s.core core).queues = [(q, h.v)]) (hstall : h.v.stall = .lid line true) (hstep : h.step = .lid line mask) :
    let t := lidCore line core s
    t.queue? core q = some (h.v.next s.clk) ∧ CountedOne core 42 s t ∧ t.ctx? h.v.ctx = some (h.ctx.realigned core (bitsSet mask 48)) ∧
    (t.core core).arrivals = clrBit (s.core core).arrivals line ∧ (∀ c, c ≠ core → t.core c = s.core c) ∧
    SameBut [.cores, .flows, .counters, .trace] s t := by
  intro t
  have hcount := count_same (coreCtr core 42) 1 s
  generalize hs1 : (count (coreCtr core 42) 1 s).setCtx h.v.ctx (h.ctx.realigned core (bitsSet mask 48)) = s1
  have h1 : SameBut [.flows, .counters] s s1 := hs1 ▸ (hcount.mono (by simp)).trans ((setCtx_same _ _ _).mono (by simp))
  have hcount' : CountedOne core 42 s s1 := by
    rw [← hs1]
    exact (countedOne_count core 42 s).then_kept ((setCtx_same _ _ _).counter (by simp) _)
  have hctx : s1.ctx? h.v.ctx = some (h.ctx.realigned core (bitsSet mask 48)) := hs1 ▸ (ctx?_setCtx ..).trans (if_pos rfl)
  obtain ⟨hv, hr, hc, hp, hx⟩ := head?_eq_some.mp hh
  have hdrop : SameBut [.cores] s1 (dropArrival core line s1) := modCore_same _ _ _
  have hhead : (dropArrival core line s1).head? core q = some { h with ctx := h.ctx.realigned core (bitsSet mask 48) } := by
    refine head?_eq_some.mpr ⟨?_, ?_, hctx, hp, hx⟩
    · exact (queue?_modCore_queues (f := fun k => { k with arrivals := clrBit k.arrivals line }) (fun _ => rfl) ..).trans
        ((h1.queue? (by simp) core q).trans hv)
    · rw [← hs1]
      exact (hcount.run? (by simp) _).trans hr
  have hgo : t = stepDone core q (dropArrival core line s1) := by
    show lidCore line core s = _
    unfold lidCore
    have hqs : (s.core core).queues.filter (fun e => e.2.stall == .lid line true) = [(q, h.v)] := by
      rw [hqueues]
      simp [hstall]
    have hhead1 : (count (coreCtr core 42) 1 s).head? core q = some h := (hcount.head? (by simp) (by simp) core q).trans hh
    have hone : each [(q, h.v)] (fun e t =>
        match t.head? core e.1 with
        | some h =>
          match h.step with
          | .lid _ m => t.modCtx h.v.ctx (fun x =>
              (bitsSet m 48).foldl (fun y n => y.setVb core n ((y.vb core n).1, (y.vb core n).1)) x)
          | _ => t
        | none => t) (count (coreCtr core 42) 1 s) = s1 := by
      rw [each_cons, each_nil, hhead1]
      dsimp only
      rw [hstep]
      dsimp only
      unfold State.modCtx
      rw [hcount.ctx? (by simp), hc, ← hs1]
      rfl
    dsimp only
    rw [hqs]
    exact congrArg (fun z => each [(q, h.v)] (fun e t => stepDone core e.1 t) (dropArrival core line z)) hone
  have hq := stepDone_queue hhead hlast
  have hdone := stepDone_same hhead hlast
  have hcores (c : Nat) : (stepDone core q (dropArrival core line s1)).core c = if c = core then
      { s.core core with arrivals := clrBit (s.core core).arrivals line, queues := tset (s.core core).queues q (h.v.next s.clk) }
      else s.core c := by
    rw [stepDone_next hhead hlast]
    unfold State.setQueue
    rw [core_modCore, (traceStep_same _ _ _ _ _).core (by simp), (traceStep_same _ _ _ _ _).core (by simp), hdrop.clk (by simp),
      h1.clk (by simp)]
    unfold dropArrival
    rw [core_modCore, core_modCore, if_pos rfl, h1.core (by simp), h1.core (by simp)]
    split <;> rfl
  rw [← hgo] at hq hdone hcores
  refine ⟨?_, ?_, ?_, ?_, fun c hc => (hcores c).trans (if_neg hc),
    (h1.mono (by simp)).trans ((hdrop.mono (by simp)).trans (hdone.mono (by simp)))⟩
  · rw [hq.1, hdrop.clk (by simp), h1.clk (by simp)]
  · exact (hcount'.then_kept (hdrop.counter (by simp) _)).then_kept (hdone.counter (by simp) _)
  · exact (hdone.ctx? (by simp) _).trans ((hdrop.ctx? (by simp) _).trans hctx)
  · rw [hcores, if_pos rfl]

end

section
variable {line : Fin 16} {core : Fin 32} {q : Fin 4} {s : State} {h : Head} {mask : Nat}

theorem exec_lidEdge (hrun : s.coresRun = true) (harr : bitN (s.core core).arrivals line = true) : exec (.lidEdge line) s =
    if s.lidLevel line then .next (each (s.lidMembers line) (lidCore line)
      (traceOnly 0x122 3 (s.regf (0x204 + 8 * line.val) 1 3) noUnit line (s.regf (0x200 + 8 * line.val) 0 32) 0 0 s)) else .next s := by
  have hany : (upTo 32).any (fun c => bitN (s.core c).arrivals line.val) = true :=
    List.any_eq_true.mpr ⟨core, List.mem_range.mpr core.isLt, harr⟩
  show execLidEdge line s = _
  unfold execLidEdge
  split
  next hlevel => exact ifDue_of (by simp [hrun, hlevel, hany])
  next hlevel => exact ifDue_not (by simp [hlevel])

/-- Of the members of a line the core that has arrived is one, once. -/
theorem lidMembers_split (hup : s.coreUp core = true) (harr : bitN (s.core core).arrivals line = true) :
    ∃ l1 l2, s.lidMembers line = l1 ++ core.val :: l2 ∧ core.val ∉ l1 ∧ core.val ∉ l2 := by
  have hmem : core.val ∈ s.lidMembers line := by
    unfold State.coreUp at hup
    obtain ⟨hrq, hret⟩ := Bool.and_eq_true_iff.mp hup
    unfold State.lidMembers
    refine List.mem_filter.mpr ⟨List.mem_range.mpr core.isLt, ?_⟩
    simp only [Bool.and_eq_true] at hrq
    rw [harr, hret, hrq.2]
    simp
  have hnodup : (s.lidMembers line).Nodup := List.Pairwise.filter _ List.nodup_range
  obtain ⟨l1, l2, hl⟩ := List.append_of_mem hmem
  rw [hl] at hnodup
  have hparts := List.nodup_append.mp hnodup
  exact ⟨l1, l2, hl, fun hm => hparts.2.2 _ hm _ List.mem_cons_self rfl, (List.nodup_cons.mp hparts.2.1).1⟩

/-- The edge of a line at which one core waits (R199, R200, R203). -/
theorem lidEdge_releases (hrun : s.coresRun = true) (hh : s.head? core q = some h) (hlast : h.v.step + 1 < h.part.steps.length)
    (hqueues : (s.core core).queues = [(q.val, h.v)]) (hstall : h.v.stall = .lid line true) (hstep : h.step = .lid line mask)
    (harr : bitN (s.core core).arrivals line = true) (hup : s.coreUp core = true) (hothers : ∀ c, c ≠ core.val → (s.core c).queues = [])
    (hlevel : s.lidLevel line = true) : Completes (.lidEdge line) s (fun t =>
      t.queue? core q = some (h.v.next s.clk) ∧ CountedOne core 42 s t ∧
      t.ctx? h.v.ctx = some (h.ctx.realigned core (bitsSet mask 48)) ∧
      (t.core core).arrivals = clrBit (s.core core).arrivals line ∧ SameBut [.cores, .flows, .counters, .trace] s t) := by
  have hgo := exec_lidEdge hrun harr
  rw [if_pos hlevel] at hgo
  obtain ⟨l1, l2, hl, h1, h2⟩ := lidMembers_split hup harr
  have htrace := traceOnly_same 0x122 3 (s.regf (0x204 + 8 * line.val) 1 3) noUnit line (s.regf (0x200 + 8 * line.val) 0 32) 0 0 s
  generalize traceOnly 0x122 3 (s.regf (0x204 + 8 * line.val) 1 3) noUnit line (s.regf (0x200 + 8 * line.val) 0 32) 0 0 s = s0
    at hgo htrace
  obtain ⟨hcore1, hq1, hn1, hs1⟩ := each_lidCore_empty (s := s0) (line := line.val) h1
    (fun c hc => (congrArg Core.queues (htrace.core (by simp) c)).trans (hothers c hc))
  generalize hu : each l1 (lidCore line) s0 = u at hcore1 hq1 hn1 hs1
  have h01 : SameBut [.cores, .counters, .trace] s u := (htrace.mono (by simp)).trans (hs1.mono (by simp))
  have hcoreu : u.core core = s.core core := hcore1.trans (htrace.core (by simp) _)
  have hheadu : u.head? core q = some h := by
    obtain ⟨hv, hr, hc, hp, hx⟩ := head?_eq_some.mp hh
    refine head?_eq_some.mpr ⟨?_, (h01.run? (by simp) _).trans hr, (h01.ctx? (by simp) _).trans hc, hp, hx⟩
    unfold State.queue?
    rw [hcoreu]
    exact hv
  obtain ⟨hqv, hcount, hctx, harrv, hothersv, hsv⟩ := lidCore_waiting (s := u) hheadu hlast (by rw [hcoreu]; exact hqueues) hstall hstep
  generalize hv : lidCore line core u = v at hqv hcount hctx harrv hothersv hsv
  obtain ⟨hcore2, -, hn2, hs2⟩ := each_lidCore_empty (s := v) (line := line.val) h2 (fun c hc => by
    rw [hothersv c hc, hq1 c hc, htrace.core (by simp)]
    exact hothers c hc)
  have ht : each (s.lidMembers line) (lidCore line) s0 = each l2 (lidCore line) v := by
    rw [hl, each_append, each_cons, hu, hv]
  rw [ht] at hgo
  refine ⟨_, hgo, ?_, ?_, (hs2.ctx? (by simp) _).trans hctx, ?_, (h01.mono (by simp)).trans (hsv.trans (hs2.mono (by simp)))⟩
  · unfold State.queue? at hqv ⊢
    rw [hcore2, hqv, h01.clk (by simp)]
  · exact (hcount.then_kept hn2).after_kept (hn1.trans (htrace.counter (by simp) _))
  · rw [hcore2, harrv, hcoreu]

end

/-! ## The queue watchdog -/

section
variable {core q rid i st : Nat} {s : State} {h : Head} {r : Run} {c : Ctx}

theorem endWindow_carried (hc : s.ctx? r.ctx = some c) (hcmd : c.isCmd = false) (rid : Nat) :
    SameBut [.flows] s (endWindow rid ((s.setRun rid r).modCtx r.ctx (carryOn r))) := by
  have hmod := modCtx_same r.ctx (carryOn r) (s.setRun rid r)
  have hrun : ((s.setRun rid r).modCtx r.ctx (carryOn r)).run? rid = some r := by
    unfold State.modCtx
    rw [show (s.setRun rid r).ctx? r.ctx = some c from hc]
    exact (run?_setRun ..).trans (if_pos rfl)
  obtain ⟨-, hend⟩ := endWindow_spec hrun ((ctx?_modCtx (s := s.setRun rid r) hc _ _).trans (if_pos rfl)) hcmd
  exact (setRun_same rid r s).trans (hmod.trans hend)

/-- The end of a flow's part stays with the flows. -/
theorem partOver_flow (hr : s.run? rid = some r) (hc : s.ctx? r.ctx = some c) (hcmd : c.isCmd = false) (i : Nat) :
    SameBut [.flows] s (partOver rid i s) := by
  have h1 := setRun_same rid { r with left := addOnce r.left i } s
  unfold partOver
  rw [hr]
  dsimp only
  split
  · refine h1.trans (endWindow_carried (c := c) ?_ hcmd rid)
    exact hc
  · exact h1

/-- A flow's part abandoned: its queue is gone (R209). -/
theorem abandonPart_flow (hh : s.head? core q = some h) (hcmd : h.ctx.isCmd = false) (hctx : h.run.ctx = h.v.ctx) (st : Nat) :
    let t := abandonPart core q st s
    t.queue? core q = none ∧ CoreCountersKept s t ∧ SameBut [.flows, .cores, .counters, .trace] s t := by
  obtain ⟨hv, hr, hc, -, -⟩ := head?_eq_some.mp hh
  generalize hr1 : ({ h.run with status := some (h.run.status.getD st) } : Run) = r1
  have hrc1 : r1.ctx = h.v.ctx := by
    rw [← hr1]
    exact hctx
  generalize hs2 : (dropQueue core q (s.setRun h.v.run r1)).modCore core (freeSlots h.v.run) = s2
  have h2 : SameBut [.flows, .cores] s s2 := by
    rw [← hs2]
    exact ((setRun_same _ _ _).mono (by simp)).trans (((dropQueue_same _ _ _).trans (modCore_same _ _ _)).mono (by simp))
  have hq2 : s2.queue? core q = none := by
    rw [← hs2, queue?_modCore_queues (f := freeSlots h.v.run) (fun _ => rfl), queue?_dropQueue, if_pos ⟨rfl, rfl⟩]
  have hflows2 : s2.flows = (s.setRun h.v.run r1).flows := by
    rw [← hs2]
    exact (SameBut.flows (modCore_same _ _ _) (by simp)).trans (SameBut.flows (dropQueue_same _ _ _) (by simp))
  have hr2 : s2.run? h.v.run = some r1 := by
    unfold State.run?
    rw [hflows2]
    exact (run?_setRun ..).trans (if_pos rfl)
  have hc2 : s2.ctx? h.v.ctx = some h.ctx := by
    unfold State.ctx?
    rw [hflows2]
    exact hc
  generalize hd : ({ h.ctx with saves := tset h.ctx.saves h.v.part { h.ctx.save h.run.kernel h.v.part with
      queue := 255, entered := false, left := true, step := h.v.step } } : Ctx) = d
  have hdcmd : d.isCmd = false := by
    rw [← hd]
    exact hcmd
  generalize hs4 : traceOnly 0x102 1 h.ctx.part (unitCore core) h.v.ctx q 0 0
    (count (partCtr h.ctx.part 4) (4 * (s.clk - h.v.entryClk)) (s2.setCtx h.v.ctx d)) = s4
  have hcount := count_same (partCtr h.ctx.part 4) (4 * (s.clk - h.v.entryClk)) (s2.setCtx h.v.ctx d)
  have htrace := traceOnly_same 0x102 1 h.ctx.part (unitCore core) h.v.ctx q 0 0
    (count (partCtr h.ctx.part 4) (4 * (s.clk - h.v.entryClk)) (s2.setCtx h.v.ctx d))
  rw [hs4] at htrace
  have h4 : SameBut [.counters, .trace] (s2.setCtx h.v.ctx d) s4 := (hcount.mono (by simp)).trans (htrace.mono (by simp))
  intro t
  have ht : t = partOver h.v.run h.v.part s4 := by
    show abandonPart core q st s = _
    unfold abandonPart
    rw [hh]
    dsimp only
    unfold State.modRun State.modCtx
    rw [hr]
    dsimp only
    rw [hr1, hs2, hc2]
    dsimp only
    rw [hd, hs4]
  have hend := partOver_flow (s := s4) (r := r1) (c := d) ((h4.run? (by simp) _).trans hr2)
    (by rw [hrc1, h4.ctx? (by simp)]; exact (ctx?_setCtx ..).trans (if_pos rfl)) hdcmd h.v.part
  rw [← ht] at hend
  have h24 := setCtx_same h.v.ctx d s2
  refine ⟨?_, ?_, (h2.mono (by simp)).trans ((h24.mono (by simp)).trans ((h4.mono (by simp)).trans (hend.mono (by simp))))⟩
  · rw [hend.queue? (by simp), h4.queue? (by simp), h24.queue? (by simp)]
    exact hq2
  · refine CoreCountersKept.trans (CoreCountersKept.of_same (h2.trans (h24.mono (by simp))) (by simp)) ?_
    refine CoreCountersKept.trans (CoreCountersKept.count (off := partCtr h.ctx.part 4) (4 * (s.clk - h.v.entryClk)) _ (by unfold partCtr; omega)) ?_
    exact CoreCountersKept.trans (CoreCountersKept.of_same htrace (by simp)) (CoreCountersKept.of_same hend (by simp))

/-- A queue's watchdog on a flow whose run has no record yet (R209). -/
theorem queueWatchdog_spec (hh : s.head? core q = some h) (hcore : core < 32) (hcmd : h.ctx.isCmd = false) (hst : h.run.status = none)
    (hctx : h.run.ctx = h.v.ctx) : let t := queueWatchdog core q s
    t.queue? core q = none ∧ CountedOne core 45 s t ∧
    (∃ k ∈ (t.funnel h.ctx.part).waiting, k.kind = 3 ∧ k.flow = h.v.ctx ∧ k.seq = h.ctx.resultSeq ∧
      k.body = watchdogBody core q h.step.op (h.waitWords core q).1 (h.waitWords core q).2.1 (h.waitWords core q).2.2) := by
  obtain ⟨hv, hr, hc, hp, hx⟩ := head?_eq_some.mp hh
  obtain ⟨hone, -, hraise⟩ := raiseWatchdog_spec h.ctx.part core q h.step.op (h.waitWords core q).1 (h.waitWords core q).2.1 s
  generalize hs1 : raiseWatchdog h.ctx.part core q h.step.op (h.waitWords core q).1 (h.waitWords core q).2.1 s = s1 at hone hraise
  obtain ⟨k, hform, hkind, hflow, hseq, hbody⟩ := formRun_spec (s := s1) ((hraise.run? (by simp) _).trans hr)
    (by rw [hctx]; exact (hraise.ctx? (by simp) _).trans hc) hcmd 3
    (watchdogBody core q h.step.op (h.waitWords core q).1 (h.waitWords core q).2.1 (h.waitWords core q).2.2)
  generalize hs2 : formRun h.v.run 3 (watchdogBody core q h.step.op (h.waitWords core q).1 (h.waitWords core q).2.1
    (h.waitWords core q).2.2) s1 = s2 at hform
  have h2 : SameBut [.flows, .funnels] s1 s2 := hs2 ▸ Framed.same (frame_formRun _ _ _ (fun _ h => h))
  have hhead2 : s2.head? core q = some { h with run := h.run.recorded, ctx := h.ctx.numbered } := by
    refine head?_eq_some.mpr ⟨(h2.queue? (by simp) _ _).trans ((hraise.queue? (by simp) _ _).trans hv), ?_, ?_, hp, hx⟩
    · rw [hform]
      exact (run?_setRun ..).trans (if_pos rfl)
    · rw [hform, hctx]
      exact (ctx?_setCtx ..).trans (if_pos rfl)
  obtain ⟨hgone, hkept, hab⟩ := abandonPart_flow hhead2 hcmd hctx stWatchdog
  intro t
  have ht : t = abandonPart core q stWatchdog s2 := by
    show queueWatchdog core q s = _
    unfold queueWatchdog
    rw [hh]
    dsimp only
    rw [hs1, hcmd, hst]
    exact congrArg _ hs2
  rw [← ht] at hgone hkept hab
  refine ⟨hgone, ?_, ⟨k, ?_, hkind, hflow.trans hctx, hseq, hbody⟩⟩
  · have hlow : coreCtr core 45 < 0x4000 := by unfold coreCtr; omega
    exact (CountedOne.then_kept hone (h2.counter (by simp) _)).then_kept (hkept _ hlow)
  · have hwait : (s2.funnel h.ctx.part).waiting = (s1.funnel h.ctx.part).waiting ++ [k] := by
      rw [hform, funnel_form, if_pos rfl]
      rfl
    rw [SameBut.funnel hab (by simp), hwait]
    exact List.mem_append_right _ List.mem_cons_self

end

/-! ## The obligation -/

section
variable {core : Fin 32} {q : Fin 4} {s : State} {l1 l2 : List ClaimMsg} {m : ClaimMsg}

/-- The node's answers to a queue's message (R165, R167, R169). -/
theorem workClaim_answers (hrun : s.coresRun = true) (hl : s.flows.claims = l1 ++ m :: l2) (hcore : m.core = core.val)
    (hq : m.queue = q.val) (hm : m.reply = none) (h1 : ∀ y ∈ l1, ¬ (y.core = core.val ∧ y.queue = q.val ∧ y.reply = none)) :
    let old := tget s.flows.node.counters m.counter 0
    let answers := fun (v : Nat) (t : State) => t.flows.claims = l1 ++ { m with reply := some v } :: l2 ∧
      t.flows.ctxs = s.flows.ctxs ∧ SameBut [.flows, .counters] s t
    Completes (.workClaim core q) s (fun t =>
      (∀ v, m.reset = some v → answers 0 t ∧ tget t.flows.node.counters m.counter 0 = v) ∧
      (∀ r, m.reset = none → tget? s.flows.node.last (4 * core.val + q.val) = some (m.seq, r) →
        answers r t ∧ t.flows.node = s.flows.node ∧ CountedOne core 35 s t) ∧
      (m.reset = none → (∀ r, tget? s.flows.node.last (4 * core.val + q.val) ≠ some (m.seq, r)) → answers old t ∧
        tget t.flows.node.counters m.counter 0 = min (old + m.amount) 0xFFFFFFFF ∧
        (∀ k, k ≠ m.counter → tget t.flows.node.counters k 0 = tget s.flows.node.counters k 0) ∧
        tget? t.flows.node.last (4 * core.val + q.val) = some (m.seq, old))) := by
  intro old answers
  have hno : queueNo m.core m.queue = 4 * core.val + q.val := by rw [hcore, hq]; rfl
  have hgo := exec_workClaim hrun hl hcore hq hm h1
  have hplain (v : Nat) (w : WorkNode) : answers v (s.answered l1 l2 m v w) :=
    ⟨rfl, rfl, (answered_same l1 l2 m v w s).mono (by simp)⟩
  refine ⟨_, hgo, fun v hreset => ?_, fun r hreset hlast => ?_, fun hreset hnew => ?_⟩
  · rw [nodeTake_reset _ hreset]
    exact ⟨hplain _ _, tget_tset_same ..⟩
  · rw [nodeTake_repeated _ hreset (hno ▸ hlast)]
    have hcount := count_same (coreCtr core 35) 1 s
    refine ⟨⟨rfl, rfl,
      (hcount.mono (by simp)).trans ((answered_same l1 l2 m r _ _).mono (by simp))⟩, rfl, ?_⟩
    exact (countedOne_count core 35 s).then_kept ((answered_same l1 l2 m r _ _).counter (by simp) _)
  · rw [nodeTake_fresh _ hreset (fun r => hno ▸ hnew r)]
    refine ⟨hplain _ _, tget_tset_same .., fun k hk => ?_, ?_⟩
    · exact (tget_tset ..).trans (if_neg hk)
    · rw [← hno]
      exact tget?_tset_same ..

end

/-- Settles O53: each arrival by the lemma of its message. -/
theorem synchronisationMessagesArrive : Obligations.SynchronisationMessagesArrive := by
  intro core q s hrun one next goes plain
  refine ⟨?_, ?_, ?_, ?_, ?_, ?_⟩
  · rintro line h mask ⟨hh, hlast⟩ hqueues hstall hstep harr hup hothers
    refine ⟨fun hlevel => ?_, fun hlevel => ?_⟩
    · rw [exec_lidEdge hrun harr, hlevel]
      rfl
    · obtain ⟨t, hgo, hq, hone, hctx, harrt, hsame⟩ :=
        lidEdge_releases hrun hh hlast hqueues hstall hstep harr hup hothers hlevel
      refine ⟨t, hgo, hq, hone, ⟨_, hctx, fun n hn => ?_⟩, ?_, fun j hj => ?_, hsame⟩
      · rw [vb_realigned]
        simp [bitsSet, upTo, hn]
      · rw [harrt, bitN_clrBit]
        simp
      · rw [harrt, bitN_clrBit]
        simp [hj]
  · rintro h n ⟨hh, hlast⟩ hstall
    refine ⟨fun hdata => ?_, fun hnone => ?_⟩
    · rw [exec_fenceAck hrun hh hstall, if_pos (dataInFlight_iff.mpr hdata)]
    · refine fenceAck_goes hrun hh hlast hstall (Bool.eq_false_iff.mpr fun hdata => ?_)
      obtain ⟨m, hm, hsrc, hqueue, hbody⟩ := dataInFlight_iff.mp hdata
      obtain ⟨a, b, c, hsignal⟩ := hnone m hm hsrc hqueue
      exact hbody a b c hsignal
  · intro src fate l1 l2 m n counter inc hl h1 hsrc hdst hb more took
    have hgo := exec_signalArrival (fate := fate) hrun hl h1 hsrc hdst hb
    generalize hs1 : ({ s with flows := { s.flows with ladle := l1 ++ l2 } } : State) = s1 at hgo
    have hpop : SameBut [.flows] s s1 := hs1 ▸ modFlows_same (fun f => { f with ladle := l1 ++ l2 }) s
    have hctr (i : Nat) : s1.counter (coreCtr core i) = s.counter (coreCtr core i) := hpop.counter (by simp) _
    refine ⟨fun hfate haway => ?_, fun v c hfate hqueues hctx hstall hc => ?_, fun hfate hroom => ?_⟩
    · obtain ⟨h27, h28, -, hflits⟩ := flitFate_spec hfate src.val core.val s1
      refine ⟨_, hgo, ?_⟩
      rw [signalAt_away (by rw [hflits.core (by simp), hpop.core (by simp)]; exact haway)]
      refine ⟨?_, ⟨h27.after_kept (hctr 27), h28.after_kept (hctr 28)⟩, ?_⟩
      · show ({ Flows.mk .. with .. } : Flows) = _
        rw [hflits.flows (by simp), ← hs1]
      · exact (hpop.mono (by simp)).trans ((hflits.mono (by simp)).trans ((modFlows_same
          (fun f => { f with pot := f.pot ++ [{ core := core.val, ctx := n, counter := counter, inc := inc }] }) _).mono (by simp)))
    · obtain ⟨h27, h28, hkept, hflits⟩ := flitFate_spec hfate src.val core.val s1
      generalize flitFate src core fate s1 = u at hgo h27 h28 hkept hflits
      have hu : SameBut [.flows, .counters] s u := (hpop.mono (by simp)).trans (hflits.mono (by simp))
      have hq : (u.core core).queues = [(q.val, v)] := (congrArg Core.queues (hu.core (by simp) _)).trans hqueues
      have hcu : u.ctx? n = some c := (hflits.ctx? (by simp) _).trans (hs1 ▸ hc)
      rw [signalAt_here (by unfold State.residentOn; simp [hq, hctx]) (by simp [hq, hstall]) hcu] at hgo
      generalize hs2 : u.setCtx n (c.added core counter inc) = s2 at hgo
      have h2 : SameBut [.flows] u s2 := hs2 ▸ setCtx_same _ _ u
      have hcount := count_same (coreCtr core 36) 1 s2
      have hflows : (count (coreCtr core 36) 1 s2).flows = s2.flows := hcount.flows (by simp)
      have hladle : s2.flows.ladle = l1 ++ l2 ∧ s2.flows.pot = s.flows.pot := by
        rw [← hs2]
        show u.flows.ladle = _ ∧ u.flows.pot = _
        rw [hflits.flows (by simp), ← hs1]
        exact ⟨rfl, rfl⟩
      have hother (i : Nat) (hi : i ≠ 36) : (count (coreCtr core 36) 1 s2).counter (coreCtr core i) = u.counter (coreCtr core i) :=
        (counter_count_ne core 1 hi s2).trans (h2.counter (by simp) _)
      refine ⟨_, hgo, by rw [hflows]; exact hladle.1, by rw [hflows]; exact hladle.2, ⟨_, ?_, vb_added_same ..⟩,
        ⟨(hother 27 (by simp)).trans (h27.after_kept (hctr 27)), (hother 28 (by simp)).trans (h28.after_kept (hctr 28))⟩, ?_,
        (hu.mono (by simp)).trans ((h2.mono (by simp)).trans (hcount.mono (by simp)))⟩
      · rw [hcount.ctx? (by simp), ← hs2]
        exact (ctx?_setCtx ..).trans (if_pos rfl)
      · refine (countedOne_count core 36 s2).after_kept ((h2.counter (by simp) _).trans ?_)
        exact (hkept 36 (by simp) (by simp)).trans (hctr 36)
    · have hsignal : SameBut [.host, .pre, .cores, .flows, .funnels, .trace, .counters] (flitFate src core fate s1)
          (signalAt core n counter inc (flitFate src core fate s1)) := Framed.same (frame_signalAt _ _ _ _ (fun _ h => h))
      obtain ⟨r, hr, hnames⟩ : ∃ r ∈ (flitFate src core fate s1).crock.mirror.faults, r.kind = 11 ∧ r.unitKind = 4 ∧ r.core = core.val := by
        unfold flitFate
        dsimp only
        rw [if_pos hfate]
        exact ⟨_, recordOf_mem_attribute_core .., rfl, rfl, rfl⟩
      exact ⟨_, hgo, r, SameBut.mem_faults hsignal (by simp) hr, hnames⟩
  · intro l1 l2 x c hpot h1 hx hc hfree
    exact stockpot_applies hrun hpot h1 hx hc hfree
  · intro l1 l2 m hl hcore hq
    refine ⟨fun hm h1 => workClaim_answers hrun hl hcore hq hm h1, fun v hm h1 h hgoes => ?_⟩
    obtain ⟨hh, hlast⟩ := hgoes
    have hw := withClaims_same (l1 ++ l2) s
    have hhead := head?_withClaims hh (l1 ++ l2)
    refine ⟨fun z hreset hstall => ?_, fun l x hreset hstep hloop hread hwork hclaim hopened hended hfresh hseq => ⟨?_, ?_⟩⟩
    · have hdone := stepDone_same hhead hlast
      refine ⟨_, exec_resetReply hrun hl hcore hq hm h1 hh hreset hstall, (stepDone_queue hhead hlast).1, hdone.flows (by simp),
        (hw.mono (by simp)).trans (hdone.mono (by simp))⟩
    · intro hv hsize hnew
      have hgo := exec_claimReply hrun hl hcore hq hm h1 hh hreset hstep hloop hclaim hseq
      rw [claim_gives hhead hstep hread hwork hopened hended hv hsize hnew] at hgo
      have hset := setQueue_same core q { h.v with loop := some { x with claiming := false, items := claimItems l v, issued := 0 } }
        (s.withClaims (l1 ++ l2))
      exact ⟨_, hgo, _, (queueSet_setQueue core q _ _).1, rfl, hended, rfl, fun b => mem_claimItems, hset.flows (by simp),
        (hw.mono (by simp)).trans (hset.mono (by simp))⟩
    · intro hv hitems
      have hgo := exec_claimReply hrun hl hcore hq hm h1 hh hreset hstep hloop hclaim hseq
      obtain ⟨hqueue, hclaims, hsame⟩ := claim_ends hhead hlast hstep hread hwork hopened hfresh hv hitems
      exact ⟨_, hgo, hqueue, hclaims, (hw.mono (by simp)).trans hsame⟩
  · intro h hh hrunning hcmd hst hctx _
    have hgo : exec (.queueWatchdog core q) s =
        if h.v.progressClk + s.timeout h.ctx.part q ≤ s.clk then .next (queueWatchdog core q s) else .next s := by
      show execQueueWatchdog core q s = _
      unfold execQueueWatchdog
      rw [hh]
      dsimp only
      split
      next hclk => exact ifDue_of (by simp [hrun, hrunning, hclk])
      next hclk => exact ifDue_not (by simp [hclk])
    refine ⟨fun hclk => by rw [hgo, if_neg (by omega)], fun hclk => ⟨_, hgo.trans (if_pos hclk), ?_⟩⟩
    obtain ⟨hgone, hone, k, hk, hkind, hflow, hseq, hbody⟩ := queueWatchdog_spec hh core.isLt hcmd hst hctx
    refine ⟨hgone, hone, k, hk, hkind, hflow, hseq, fun hno => ?_, fun a e sh hwait => ?_⟩
    · have hwords : h.waitWords core q = (0, 0, 0) := by
        unfold Head.waitWords
        split
        next c e sh hw => exact absurd hw (hno c e sh)
        next => rfl
      rw [hbody, hwords]
      rfl
    · have hwords : h.waitWords core q = (h.part.counterOn q a, e, (h.ctx.vb core a).1.toNat) := by
        unfold Head.waitWords
        rw [hwait]
      rw [hbody, hwords]
      rfl

end Sys2Proof.Machine
end

section
/-! PROOF. Data messages and core SRAM errors (R158, R168, R175, R305, R369). -/

namespace Sys2Proof.Machine

open Sys2Proof.Safety

/-! ## Activations -/

section
variable {s t : State} {core a : Nat} {data : Bytes}

theorem getAct_putAct (hfit : a + data.length ≤ 131072) (hwf : Memory.wf (s.core core).act = true) :
    (putAct core a data s).getAct core a data.length = data := by
  unfold State.getAct putAct
  rw [core_modCore_same, List.take_of_length_le (by omega)]
  exact Memory.readBytes_writeBytes a data hwf

theorem getAct_putAct_other {b : Nat} (hwf : Memory.wf (s.core core).act = true) (hfit : a + data.length ≤ 131072)
    (hb : b < a ∨ a + data.length ≤ b) : (putAct core a data s).getAct core b 1 = s.getAct core b 1 := by
  unfold State.getAct putAct
  rw [core_modCore_same, List.take_of_length_le (by omega)]
  exact congrArg (fun x => [x]) (Memory.read_writeBytes_other a b data hwf hb)

theorem core_putAct_other {c : Nat} (h : c ≠ core) (a : Nat) (data : Bytes) (s : State) : (putAct core a data s).core c = s.core c := by
  unfold putAct
  rw [core_modCore, if_neg h]

end

section
variable {src dst : Fin 32} {fate : FlitFate} {s t u : State} {l1 l2 : List LadleMsg} {m : LadleMsg} {n part off : Nat} {data : Bytes}

/-- The machine once a message has left its route and its flits are counted. -/
def State.received (s : State) (src dst : Nat) (fate : FlitFate) (l : List LadleMsg) : State :=
  flitFate src dst fate { s with flows := { s.flows with ladle := l } }

theorem received_spec (hf : fate.failures < 3) (src dst : Nat) (l : List LadleMsg) (s : State) : let t := s.received src dst fate l
    t.flows = { s.flows with ladle := l } ∧ (∀ i, i ≠ 27 → i ≠ 28 → t.counter (coreCtr dst i) = s.counter (coreCtr dst i)) ∧
    SameBut [.flows, .counters] s t := by
  obtain ⟨-, -, hkept, hflits⟩ := flitFate_spec hf src dst { s with flows := { s.flows with ladle := l } }
  have hpop := modFlows_same (fun f => { f with ladle := l }) s
  exact ⟨hflits.flows (by simp), hkept, (hpop.mono (by simp)).trans (hflits.mono (by simp))⟩

section
variable (hrun : s.coresRun = true) (hl : s.flows.ladle = l1 ++ m :: l2) (h1 : ∀ x ∈ l1, ¬ (x.src = src.val ∧ x.dst = dst.val))
  (hsrc : m.src = src.val) (hdst : m.dst = dst.val)
include hrun hl h1 hsrc hdst

theorem exec_activationArrival (hb : m.body = .act n part off data) :
    exec (.activationArrival src dst fate) s = .next (actTake dst n part off data (s.received src dst fate (l1 ++ l2))) := by
  show execActivationArrival src dst fate s = _
  unfold execActivationArrival
  rw [routeHead_of hl h1 hsrc hdst]
  dsimp only
  rw [hb]
  dsimp only
  rw [ifDue_of hrun, popRoute_of hl h1 hsrc hdst]
  rfl

theorem exec_psumArrival {rid b slot total : Nat} {parts : List Nat} {lanes : Tbl Int} {em sh : Int}
    (hb : m.body = .psum rid b n slot parts lanes em sh total) : exec (.psumArrival src dst fate) s =
      .next (psumTake dst rid b n slot parts lanes em sh total (s.received src dst fate (l1 ++ l2))) := by
  show execPsumArrival src dst fate s = _
  unfold execPsumArrival
  rw [routeHead_of hl h1 hsrc hdst]
  dsimp only
  rw [hb]
  dsimp only
  rw [ifDue_of hrun, popRoute_of hl h1 hsrc hdst]
  rfl

end

/-- Where the part is resident its activations are written to the core's buffer. -/
theorem actTake_resident {core q : Nat} {v : Queue} {r : Run} {p : Part} (hq : (s.core core).queues = [(q, v)]) (hctx : v.ctx = n)
    (hpart : v.part = part) (hr : s.run? v.run = some r) (hp : r.kernel.parts[part]? = some p) :
    actTake core n part off data s = putAct core (off + p.bank q) data s := by
  unfold actTake
  rw [hq, List.find?_cons_of_pos (by simp [hctx, hpart])]
  dsimp only
  rw [hr]
  show putAct core (off + (r.kernel.parts[part]?).elim 0 _) data s = _
  rw [hp]
  rfl

/-- Else they go to the part's inbox. -/
theorem actTake_inbox {core rid : Nat} {c : Ctx} {r : Run} {p : Part} (hq : (s.core core).queues = []) (hc : s.ctx? n = some c)
    (hrun : c.run = some rid) (hr : s.run? rid = some r) (hp : r.kernel.parts[part]? = some p) (hlow : p.inboxBase ≤ off)
    (hhigh : off + data.length ≤ p.inboxBase + p.inboxBytes) : actTake core n part off data s =
      s.setCtx n { c with inbox := tset c.inbox part (Memory.writeBytes (tget c.inbox part []) (off - p.inboxBase) data) } := by
  unfold actTake State.modCtx
  rw [hq, List.find?_nil]
  dsimp only
  rw [hc]
  dsimp only
  rw [hrun, Option.bind_some, hr, Option.elim_some, Option.bind_some, hp]
  dsimp only
  rw [if_pos (by simp [hlow, hhigh])]

end

/-! ## Partial sums -/

theorem tget_addLanes (a b : Tbl Int) (hb : (b.map (·.1)).Nodup) (j : Nat) : tget (addLanes a b) j 0 =
    if j ∈ b.map (·.1) then wrap40 (tget a j 0 + tget b j 0) else tget a j 0 := by
  induction b generalizing a with
  | nil => rfl
  | cons e b ih =>
    obtain ⟨he, hb⟩ := List.nodup_cons.mp hb
    refine (ih _ hb).trans ?_
    rw [tget_tset]
    show _ = if j ∈ e.1 :: b.map (·.1) then wrap40 (tget a j 0 + tget (e :: b) j 0) else tget a j 0
    by_cases hj : j = e.1
    · subst hj
      rw [if_neg he, if_pos rfl, if_pos List.mem_cons_self, show tget (e :: b) e.1 0 = e.2 from if_pos rfl]
    · rw [if_neg hj, show tget (e :: b) j 0 = tget b j 0 from if_neg (Ne.symm hj)]
      exact ite_congr (propext (by rw [List.mem_cons, or_iff_right hj])) (fun _ => rfl) (fun _ => rfl)

section
variable {core q rid i b n slot total st : Nat} {parts : List Nat} {lanes : Tbl Int} {em sh : Int} {s : State} {r : Run} {home : Part}
  {l : Layer} {v : Queue}

theorem slot_modCore {f : Core → Core} (hf : ∀ k, (f k).slots = k.slots) (c d i : Nat) (s : State) : (s.modCore c f).slot d i = s.slot d i := by
  unfold State.slot
  rw [core_modCore]
  split
  next h => rw [hf, h]
  next => rfl

theorem slot_setQueue (c q : Nat) (v : Queue) (d i : Nat) (s : State) : (s.setQueue c q v).slot d i = s.slot d i :=
  slot_modCore (f := fun k => { k with queues := tset k.queues q v }) (fun _ => rfl) c d i s

theorem slot_setCompleted (c rid step b n d i : Nat) (s : State) : (setCompleted c rid step b n s).slot d i = s.slot d i :=
  slot_modCore (f := fun k => { k with runs := tmod k.runs rid [] (fun m => addOnce m (step, 32 * b + n)) }) (fun _ => rfl) c d i s

theorem queue?_setCompleted (c rid step b n d q : Nat) (s : State) : (setCompleted c rid step b n s).queue? d q = s.queue? d q :=
  queue?_modCore_queues (f := fun k => { k with runs := tmod k.runs rid [] (fun m => addOnce m (step, 32 * b + n)) }) (fun _ => rfl) c d q s

theorem slot_modQueue (c q : Nat) (g : Queue → Queue) (d i : Nat) (s : State) : (s.modQueue c q g).slot d i = s.slot d i := by
  unfold State.modQueue
  split
  · exact slot_setQueue ..
  · rfl

theorem modQueue_same (c q : Nat) (g : Queue → Queue) (s : State) : SameBut [.cores] s (s.modQueue c q g) := by
  unfold State.modQueue
  split
  · exact setQueue_same _ _ _ _
  · exact .refl _ s

/-- With no batch loop under way nothing is taken out. -/
theorem advance_unlooped (h : ∀ v, s.queue? core q = some v → v.loop = none) (f : Nat) : advance f core q s = s := by
  cases f with
  | zero => rfl
  | succ f =>
    unfold advance
    split
    next h' hh =>
      have hloop := h h'.v (queue?_of_head? hh)
      split
      next hl _ => rw [hloop] at hl; cases hl
      next => rfl
    next => rfl

/-- The machine with a commit to a slot. -/
def commitPsum (core q rid b n slot st : Nat) (w : Slot) (s : State) : State :=
  let s2 := count (coreCtr core 19) 1 (s.modCore core (fun k => { k with slots := tset k.slots slot w }))
  progress core q (if w.state = 2 then setCompleted core rid st b n s2 else s2)

theorem commitPsum_spec (core q rid b n slot st : Nat) (w : Slot) (s : State) : let t := commitPsum core q rid b n slot st w s
    t.slot core slot = w ∧ CountedOne core 19 s t ∧ SameBut [.cores, .counters] s t ∧
    (∀ v, t.queue? core q = some v → ∃ u, s.queue? core q = some u ∧ v.loop = u.loop) := by
  generalize hs1 : s.modCore core (fun k => { k with slots := tset k.slots slot w }) = s1
  have h1 : SameBut [.cores] s s1 := hs1 ▸ modCore_same core _ s
  have hslot1 : s1.slot core slot = w := by
    rw [← hs1]
    unfold State.slot
    rw [core_modCore_same]
    exact tget_tset_same ..
  have hq1 : s1.queue? core q = s.queue? core q := by
    rw [← hs1]
    exact queue?_modCore_queues (f := fun k => { k with slots := tset k.slots slot w }) (fun _ => rfl) ..
  have hcount := count_same (coreCtr core 19) 1 s1
  generalize hs3 : (if w.state = 2 then setCompleted core rid st b n (count (coreCtr core 19) 1 s1) else count (coreCtr core 19) 1 s1) = s3
  obtain ⟨hslot3, hq3, h3⟩ : s3.slot core slot = s1.slot core slot ∧ s3.queue? core q = s1.queue? core q ∧
      SameBut [.cores] (count (coreCtr core 19) 1 s1) s3 := by
    rw [← hs3]
    have hslot : (count (coreCtr core 19) 1 s1).slot core slot = s1.slot core slot := by
      unfold State.slot
      rw [hcount.core (by simp)]
    split
    · refine ⟨Eq.trans ?_ hslot, Eq.trans ?_ (hcount.queue? (by simp) core q), modCore_same _ _ _⟩
      · exact slot_setCompleted ..
      · exact queue?_setCompleted ..
    · exact ⟨hslot, hcount.queue? (by simp) core q, .refl _ _⟩
  intro t
  have ht : t = progress core q s3 := by
    rw [← hs3, ← hs1]
    rfl
  have hprogress : SameBut [.cores] s3 t := ht ▸ modQueue_same _ _ _ _
  refine ⟨?_, ?_, (h1.mono (by simp)).trans ((hcount.mono (by simp)).trans ((h3.trans hprogress).mono (by simp))), fun v hv => ?_⟩
  · rw [ht]
    exact (slot_modQueue ..).trans (hslot3.trans hslot1)
  · exact (((countedOne_count core 19 s1).then_kept (h3.counter (by simp) _)).then_kept (hprogress.counter (by simp) _)).after_kept
      (h1.counter (by simp) _)
  · rw [ht] at hv
    unfold progress State.modQueue at hv
    split at hv
    next u hu =>
      rw [(queueSet_setQueue core q _ s3).1, Option.some.injEq] at hv
      exact ⟨u, by rw [← hq1, ← hq3, hu], by rw [← hv]⟩
    next hu =>
      rw [hu] at hv
      cases hv

section
variable (hr : s.run? rid = some r) (hab : r.abandoned = false) (hpart : r.partOn core = some (i, home))
  (hrecv : receiverOf home slot = some (st, l)) (hdone : s.completed core rid st b n = false) (hof : (s.slot core slot).isOf rid b n = true)
include hr hab hpart hrecv hdone hof

/-- A partial sum that brings new parts is added to its slot (R158, R175). -/
theorem psumTake_commits (hq : (s.core core).queues = [(q, v)]) (hrun : v.run = rid) (hv : v.part = i) (hloop : v.loop = none)
    (hnew : ∀ x ∈ parts, x ∉ (s.slot core slot).ledger) : psumTake core rid b n slot parts lanes em sh total s =
      commitPsum core q rid b n slot st ((s.slot core slot).take parts lanes true) s := by
  have hat : s.slotAt? core slot rid b n = some (s.slot core slot) := if_pos hof
  have hboth : (parts.filter (s.slot core slot).ledger.contains).isEmpty = true := by
    rw [List.isEmpty_iff, List.filter_eq_nil_iff]
    intro x hx
    simpa using hnew x hx
  have hpq : s.partQueue rid i core = q := by
    unfold State.partQueue
    rw [hq, List.find?_cons_of_pos (by simp [hrun, hv])]
    rfl
  have hres : (s.core core).queues.any (fun e => e.2.run == rid && e.2.part == i) = true := by
    rw [hq]
    simp [hrun, hv]
  have hput (w : Slot) : putSlot core slot rid b n w s = s.modCore core (fun k => { k with slots := tset k.slots slot w }) := if_pos hof
  have hgo : psumTake core rid b n slot parts lanes em sh total s =
      advance 65536 core q (commitPsum core q rid b n slot st ((s.slot core slot).take parts lanes true) s) := by
    unfold psumTake
    rw [hr]
    dsimp only
    rw [hpart]
    dsimp only
    rw [hrecv]
    dsimp only
    rw [hab, hdone, hat]
    dsimp only [Option.isSome_some]
    rw [if_neg (by simp), if_pos rfl, hat]
    dsimp only
    rw [if_pos hboth, hres, if_pos rfl, hpq, hput]
    rfl
  rw [hgo]
  refine advance_unlooped (fun w hw => ?_) _
  obtain ⟨u, hu, hl⟩ := (commitPsum_spec core q rid b n slot st _ s).2.2.2 w hw
  unfold State.queue? at hu
  rw [hq] at hu
  simp [tget?] at hu
  rw [hl, ← hu, hloop]

/-- A repeated one is discarded and counted (R175). -/
theorem psumTake_repeated (hold : ∃ x ∈ parts, x ∈ (s.slot core slot).ledger) :
    let t := psumTake core rid b n slot parts lanes em sh total s
    t.slot core slot = s.slot core slot ∧ CountedOne core 29 s t ∧ SameBut [.funnels, .trace, .counters] s t := by
  have hat : s.slotAt? core slot rid b n = some (s.slot core slot) := if_pos hof
  have hboth : (parts.filter (s.slot core slot).ledger.contains).isEmpty = false := by
    obtain ⟨x, hx, hin⟩ := hold
    rw [Bool.eq_false_iff, Ne, List.isEmpty_iff, List.filter_eq_nil_iff]
    intro hnone
    exact hnone x hx (by simpa using hin)
  generalize hp : (s.ctx? r.ctx).elim 0 (·.part) = p
  have hgo : psumTake core rid b n slot parts lanes em sh total s =
      if (parts.filter (s.slot core slot).ledger.contains).length < parts.length then
        raisePart p (unitCore core) (ev 7 2 noFault core slot rid 0) (dropPsum core p rid b n slot s)
      else dropPsum core p rid b n slot s := by
    unfold psumTake
    rw [hr]
    dsimp only
    rw [hpart, hp]
    dsimp only
    rw [hrecv]
    dsimp only
    rw [hab, hdone, hat]
    dsimp only [Option.isSome_some]
    rw [if_neg (by simp), if_pos rfl, hat]
    dsimp only
    rw [if_neg (by simp [hboth])]
  have htrace := traceOnly_same 0x141 5 p (unitCore core) slot rid b n (count (coreCtr core 29) 1 s)
  have hdrop : SameBut [.funnels, .trace, .counters] s (dropPsum core p rid b n slot s) :=
    ((count_same _ _ _).mono (by simp)).trans (htrace.mono (by simp))
  have hone : CountedOne core 29 s (dropPsum core p rid b n slot s) := (countedOne_count core 29 s).then_kept (htrace.counter (by simp) _)
  have hslot {t : State} (h : SameBut [.funnels, .trace, .counters] s t) : t.slot core slot = s.slot core slot := by
    unfold State.slot
    rw [h.core (by simp)]
  intro t
  have ht : t = _ := hgo
  rw [ht]
  split
  · have hraise := raisePart_same p (unitCore core) (ev 7 2 noFault core slot rid 0) (dropPsum core p rid b n slot s)
    have hsame := hdrop.trans (hraise.mono (by simp))
    exact ⟨hslot hsame, hone.then_kept (hraise.counter (by simp) _), hsame⟩
  · exact ⟨hslot hdrop, hone, hdrop⟩

end

end

/-! ## Core SRAM errors -/

section
variable {core q kind outcome d : Nat} {w : Work} {s : State} {h : Head}

/-- A unit with one fault in the history has at most that one within a day. -/
theorem count24_single {u : Unit} {r : FaultRec} (h : s.crock.mirror.faults.filter u.of = [r]) : s.count24 u ≤ 1 := by
  unfold State.count24
  dsimp only
  rw [h, List.foldl_cons, List.foldl_nil]
  refine Nat.le_trans (List.length_filter_le _ _) ?_
  split <;> simp

/-- A core's first fault, not permanent, puts it under suspicion. -/
theorem attribute_core_unseen (hroom : s.crock.mirror.faults.length < 1024)
    (hnone : ∀ r ∈ s.crock.mirror.faults, ¬ (r.unitKind = 4 ∧ r.core = core)) :
    attribute_ (uCore core) kind outcome w d false false s = suspectCore core kind w d (reported (uCore core) kind outcome w d s) := by
  have hn : (count (devCtr 4) 1 (addRecord (uCore core) kind outcome (s.unitPart (uCore core)) w d 0 s).2).count24 (uCore core) ≤ 1 := by
    refine count24_single (r := recordOf (uCore core) kind outcome (s.unitPart (uCore core)) w d 0 s) ?_
    rw [SameBut.crock (count_same _ _ _) (by simp), addRecord_room _ _ _ _ _ _ _ hroom]
    have hold : s.crock.mirror.faults.filter (uCore core).of = [] := by
      rw [List.filter_eq_nil_iff]
      intro r hr hof
      refine hnone r hr ?_
      simp only [Unit.of, uCore, Bool.and_eq_true, beq_iff_eq] at hof
      exact hof.1.1.1
    show (s.crock.mirror.faults ++ [_]).filter _ = _
    rw [List.filter_append, hold]
    simp [Unit.of, recordOf]
  unfold attribute_ reported
  dsimp only
  rw [if_neg (by simpa using by omega)]
  simp [uCore]

theorem suspectCore_same (c kind : Nat) (w : Work) (d : Nat) (s : State) :
    SameBut [.draw, .power, .crock, .cores, .funnels, .trace] s (suspectCore c kind w d s) :=
  Framed.same (frame_suspectCore _ _ _ _ (fun _ h => h))

/-- The parts on a core that has had its first fault are where they were. -/
theorem head?_suspected (hh : s.head? core q = some h) (kind outcome : Nat) (w : Work) (d : Nat) :
    (suspectCore core kind w d (reported (uCore core) kind outcome w d s)).head? core q = some h := by
  have hrep := reported_same (uCore core) kind outcome w d (s := s)
  have hsus := suspectCore_same core kind w d (reported (uCore core) kind outcome w d s)
  obtain ⟨hv, hr, hc, hp, hx⟩ := head?_eq_some.mp hh
  obtain ⟨m, hcore⟩ := suspectCore_core core kind w d (s := reported (uCore core) kind outcome w d s)
  refine head?_eq_some.mpr ⟨?_, (hsus.run? (by simp) _).trans ((hrep.run? (by simp) _).trans hr),
    (hsus.ctx? (by simp) _).trans ((hrep.ctx? (by simp) _).trans hc), hp, hx⟩
  unfold State.queue? at hv ⊢
  rw [hcore, hrep.core (by simp)]
  exact hv

theorem dropOps_same (c rid q : Nat) (s : State) : SameBut [.tiles, .cores] s (dropOps c rid q s) :=
  Framed.same (frame_dropOps _ _ _ (fun _ h => h))

/-- A queue outside a batch loop that waits for no claim runs its step again (R168). -/
theorem resumeQueue_unlooped (hv : s.queue? core q = some h.v) (hloop : h.v.loop = none) (hstall : h.v.stall ≠ .work) :
    let t := resumeQueue core q h s
    t.queue? core q = some { h.v with resumptions := h.v.resumptions + 1, readout := none, progressClk := s.clk } ∧
    SameBut [.tiles, .cores] s t := by
  have hdrop := dropOps_same core h.v.run q s
  have hqd : (dropOps core h.v.run q s).queue? core q = some h.v := by
    refine Eq.trans ?_ hv
    unfold dropOps
    refine (queue?_modCore_queues ?_ core core q _).trans rfl
    exact fun _ => rfl
  generalize hw : ({ h.v with resumptions := h.v.resumptions + 1, readout := none, progressClk := s.clk } : Queue) = w
  have hmod : (dropOps core h.v.run q s).modQueue core q (fun v => { v with
      resumptions := v.resumptions + 1, readout := none, progressClk := s.clk,
      loop := h.v.loop.map (fun x => { x with issued := 0, attempt := x.attempt + 1 }) }) =
      (dropOps core h.v.run q s).setQueue core q w := by
    unfold State.modQueue
    rw [hqd, ← hw, hloop]
    dsimp only
    rw [Option.map_none, ← hloop]
  have hset := setQueue_same core q w (dropOps core h.v.run q s)
  have hqs := (queueSet_setQueue core q w (dropOps core h.v.run q s)).1
  have hforget (st b : Nat) (l : Layer) (u : State) : (forgetItem core h.v.run st b l u).queue? core q = u.queue? core q ∧
      SameBut [.cores] u (forgetItem core h.v.run st b l u) := by
    unfold forgetItem
    refine ⟨queue?_modCore_queues ?_ core core q u, modCore_same _ _ _⟩
    exact fun _ => rfl
  have howes : (h.v.loop.elim false (·.claiming) || h.v.stall == .work) = false := by
    simp [hloop, hstall]
  intro t
  have ht : t = (dropOps core h.v.run q s).setQueue core q w ∨
      ∃ st b l, t = forgetItem core h.v.run st b l ((dropOps core h.v.run q s).setQueue core q w) := by
    show resumeQueue core q h s = _ ∨ ∃ st b l, resumeQueue core q h s = _
    unfold resumeQueue
    dsimp only
    rw [hmod, howes]
    dsimp only
    split
    next ro l _ _ => exact .inr ⟨_, _, l, rfl⟩
    next => exact .inl rfl
  have hall : SameBut [.tiles, .cores] s ((dropOps core h.v.run q s).setQueue core q w) := hdrop.trans (hset.mono (by simp))
  rcases ht with ht | ⟨st, b, l, ht⟩
  · rw [ht]
    exact ⟨hqs, hall⟩
  · obtain ⟨hq, hsame⟩ := hforget st b l ((dropOps core h.v.run q s).setQueue core q w)
    rw [ht]
    exact ⟨hq.trans hqs, hall.trans (hsame.mono (by simp))⟩

/-- A flow whose part fails for the third time abandons it (R369). -/
theorem giveUp_flow (hh : s.head? core q = some h) (hcmd : h.ctx.isCmd = false) (hctx : h.run.ctx = h.v.ctx) :
    (giveUp core q h s).queue? core q = none ∧ SameBut [.flows, .funnels, .cores, .counters, .trace] s (giveUp core q h s) := by
  obtain ⟨hv, hr, hc, hp, hx⟩ := head?_eq_some.mp hh
  unfold giveUp
  dsimp only
  split
  · obtain ⟨hgone, -, hsame⟩ := abandonPart_flow hh hcmd hctx stCheckFail
    exact ⟨hgone, hsame.mono (by simp)⟩
  · obtain ⟨k, hform, -⟩ := formRun_spec hr (by rw [hctx]; exact hc) hcmd 4 [0]
    have h1 : SameBut [.flows, .funnels] s (formRun h.v.run 4 [0] s) := Framed.same (frame_formRun _ _ _ (fun _ h => h))
    have hhead : (formRun h.v.run 4 [0] s).head? core q = some { h with run := h.run.recorded, ctx := h.ctx.numbered } := by
      refine head?_eq_some.mpr ⟨(h1.queue? (by simp) _ _).trans hv, ?_, ?_, hp, hx⟩
      · rw [hform]
        exact (run?_setRun ..).trans (if_pos rfl)
      · rw [hform, hctx]
        exact (ctx?_setCtx ..).trans (if_pos rfl)
    obtain ⟨hgone, -, hsame⟩ := abandonPart_flow hhead hcmd hctx stCheckFail
    exact ⟨hgone, (h1.mono (by simp)).trans (hsame.mono (by simp))⟩

end

/-- What a flow's work is in a fault record. -/
def flowWork (n : Nat) : Work := { opcode := 0xFFFF, flow := n, tag := 0 }

section
variable {core : Fin 32} {q : Fin 4} {array : BitVec 4} {address : BitVec 24} {s : State} {h : Head}

theorem exec_coreSram {t : State} (hrun : s.coresRun = true) (hh : s.head? core q = some h) (hcmd : h.ctx.isCmd = false)
    (ht : attribute_ (uCore core) 9 (if 2 ≤ h.v.resumptions then 2 else 1) (flowWork h.v.ctx) (address.toNat + 2 ^ 24 * array.toNat)
      false false s = t) (hhead : t.head? core q = some h) : exec (.coreSram core q array address) s =
      .next (if 2 ≤ h.v.resumptions then giveUp core q h t else resumeQueue core q h t) := by
  show execCoreSram core q array address s = _
  unfold execCoreSram
  refine (ifDue_of hrun).trans (congrArg _ ?_)
  rw [queue?_of_head? hh]
  dsimp only [Option.elim_some]
  rw [ctx?_of_head? hh]
  dsimp only
  rw [hcmd]
  simp only [decide_eq_true_eq, Bool.false_eq_true, if_false]
  unfold flowWork at ht
  rw [ht, hhead]

end

/-- Settles O55: each message by the lemma of what it brings, an SRAM error by what its queue then does. -/
theorem dataMessagesArriveOnce : Obligations.DataMessagesArriveOnce := by
  refine ⟨fun src dst fate s l1 l2 m hrun hfate hl h1 hsrc hdst => ⟨?_, fun n part off data hb _ => ⟨?_, ?_⟩⟩, ?_⟩
  · intro rid b n slot parts lanes em sh total r i home st l q v hb hr hab hpart hrecv hdone hof hq hvrun hvpart hloop hkeys old one
    have hgo := exec_psumArrival (fate := fate) hrun hl h1 hsrc hdst hb
    obtain ⟨hflows, hkept, hu⟩ := received_spec hfate src dst (l1 ++ l2) s
    generalize s.received src dst fate (l1 ++ l2) = u at hgo hflows hkept hu
    have hslot (i : Nat) : u.slot dst i = s.slot dst i := by
      unfold State.slot
      rw [hu.core (by simp)]
    have hru : u.run? rid = some r := by
      unfold State.run?
      rw [hflows]
      exact hr
    have hqu : (u.core dst).queues = [(q, v)] := (congrArg Core.queues (hu.core (by simp) _)).trans hq
    have hdoneu : u.completed dst rid st b n = false := by
      unfold State.completed
      rw [hu.core (by simp)]
      exact hdone
    have hofu : (u.slot dst slot).isOf rid b n = true := by rw [hslot]; exact hof
    refine ⟨_, hgo, ?_⟩
    by_cases hnew : ∀ x ∈ parts, x ∉ old.ledger
    · have htake := psumTake_commits (total := total) (em := em) (sh := sh) (lanes := lanes) hru hab hpart hrecv hdoneu hofu hqu hvrun
        hvpart hloop (parts := parts) (by rw [hslot]; exact hnew)
      obtain ⟨hnow, hone, hsame, -⟩ := commitPsum_spec dst.val q rid b n slot st ((u.slot dst slot).take parts lanes true) u
      rw [htake]
      rw [hslot] at hnow hone hsame ⊢
      refine ⟨?_, fun _ => ⟨hone.after_kept (hkept 19 (by simp) (by simp)), ?_, ?_, fun j => ?_⟩, fun hold => ?_, ?_⟩
      · exact (congrArg Flows.ladle (hsame.flows (by simp))).trans (congrArg Flows.ladle hflows)
      · rw [hnow]
        rfl
      · rw [hnow]
        unfold Slot.take
        dsimp only
        rw [List.length_append]
      · rw [hnow]
        exact tget_addLanes _ _ hkeys j
      · obtain ⟨x, hx, hin⟩ := hold
        exact absurd hin (hnew x hx)
      · exact (hu.mono (by simp)).trans (hsame.mono (by simp))
    · simp only [Classical.not_forall, Classical.not_not] at hnew
      obtain ⟨x, hx, hin⟩ := hnew
      obtain ⟨hsl, hone, hsame⟩ := psumTake_repeated (total := total) (em := em) (sh := sh) (lanes := lanes) hru hab hpart hrecv hdoneu hofu
        (parts := parts) ⟨x, hx, by rw [hslot]; exact hin⟩
      refine ⟨(congrArg Flows.ladle (hsame.flows (by simp))).trans (congrArg Flows.ladle hflows), fun hno => absurd hin (hno x hx),
        fun _ => ⟨hsl.trans (hslot slot), hone.after_kept (hkept 29 (by simp) (by simp))⟩, (hu.mono (by simp)).trans (hsame.mono (by simp))⟩
  · intro q v r p hq hctx hpart hr hp hfit hwf
    have hgo := exec_activationArrival (fate := fate) hrun hl h1 hsrc hdst hb
    obtain ⟨hflows, -, hu⟩ := received_spec hfate src dst (l1 ++ l2) s
    generalize s.received src dst fate (l1 ++ l2) = u at hgo hflows hu
    have hcore (c : Nat) : u.core c = s.core c := hu.core (by simp) c
    have hru : u.run? v.run = some r := by
      unfold State.run?
      rw [hflows]
      exact hr
    have hput : SameBut [.cores] u (putAct dst (off + p.bank q) data u) := modCore_same _ _ _
    rw [actTake_resident (by rw [hcore]; exact hq) hctx hpart hru hp] at hgo
    have hwfu : Memory.wf (u.core dst).act = true := by rw [hcore]; exact hwf
    refine ⟨_, hgo, (hput.flows (by simp)).trans hflows, getAct_putAct hfit hwfu, fun b hb => ?_, fun c hc => ?_,
      (hu.mono (by simp)).trans (hput.mono (by simp))⟩
    · rw [getAct_putAct_other hwfu hfit hb]
      unfold State.getAct
      rw [hcore]
    · rw [core_putAct_other hc, hcore]
  · intro c rid r p hq hc hcrun hr hp hwf hlow hhigh
    have hgo := exec_activationArrival (fate := fate) hrun hl h1 hsrc hdst hb
    obtain ⟨hflows, -, hu⟩ := received_spec hfate src dst (l1 ++ l2) s
    generalize s.received src dst fate (l1 ++ l2) = u at hgo hflows hu
    have hcu (k : Nat) : u.ctx? k = s.ctx? k := by
      unfold State.ctx?
      rw [hflows]
    have hru : u.run? rid = some r := by
      unfold State.run?
      rw [hflows]
      exact hr
    rw [actTake_inbox (by rw [hu.core (by simp)]; exact hq) ((hcu n).trans hc) hcrun hru hp hlow hhigh] at hgo
    refine ⟨_, hgo, ⟨_, (ctx?_setCtx ..).trans (if_pos rfl), ?_⟩, fun k hk => ?_, congrArg Flows.ladle hflows, hu.trans
      ((setCtx_same _ _ _).mono (by simp))⟩
    · dsimp only
      rw [tget_tset_same]
      exact Memory.readBytes_writeBytes _ _ hwf
    · rw [ctx?_setCtx, if_neg hk, hcu]
  · intro core q array address s h hrun hh hnone hroom hloop hstall hcmd hctx
    generalize houtcome : (if 2 ≤ h.v.resumptions then 2 else 1) = outcome
    have hroom1 : s.crock.mirror.faults.length < 1024 := by omega
    have hattr := attribute_core_unseen (kind := 9) (outcome := outcome) (w := flowWork h.v.ctx)
      (d := address.toNat + 2 ^ 24 * array.toNat) hroom1 hnone
    have hmem := recordOf_mem_attribute_core core 9 outcome (flowWork h.v.ctx) (address.toNat + 2 ^ 24 * array.toNat) false false s
    have hhead := head?_suspected hh 9 outcome (flowWork h.v.ctx) (address.toNat + 2 ^ 24 * array.toNat)
    rw [← hattr] at hhead
    have hclk : (attribute_ (uCore core) 9 outcome (flowWork h.v.ctx) (address.toNat + 2 ^ 24 * array.toNat) false false s).clk = s.clk :=
      SameBut.clk (Framed.same (frame_attribute_ _ _ _ _ _ _ _ (fun _ h => h))) (by simp)
    have hgo := exec_coreSram (array := array) (address := address) hrun hh hcmd (by rw [houtcome]) hhead
    generalize attribute_ (uCore core) 9 outcome (flowWork h.v.ctx) (address.toNat + 2 ^ 24 * array.toNat) false false s = u
      at hmem hhead hclk hgo
    refine ⟨_, hgo, ?_⟩
    dsimp only
    split
    next hlast =>
      obtain ⟨hgone, hsame⟩ := giveUp_flow hhead hcmd hctx
      exact ⟨⟨_, SameBut.mem_faults hsame (by simp) hmem, rfl, rfl, rfl, rfl, rfl, rfl⟩,
        fun hfew => absurd hlast (by omega), fun _ => hgone⟩
    next hfew =>
      obtain ⟨hq, hsame⟩ := resumeQueue_unlooped (queue?_of_head? hhead) hloop hstall
      rw [hclk] at hq
      exact ⟨⟨_, SameBut.mem_faults hsame (by simp) hmem, rfl, rfl, rfl, rfl, rfl, rfl⟩, fun _ => hq,
        fun hlast => absurd hlast hfew⟩

end Sys2Proof.Machine
end

section
/-! PROOF. The samples of an Up link reach their rings (R219, R220, R225, R227). -/

namespace Sys2Proof.Machine

open Sys2Proof.Safety

section
variable {s t u : State} {st k : Nat} {v : Int × Int} {bad : Bool}

/-! ## One sample of a ring -/

/-- A ring with one more sample, written without marks but the one for its CRC. -/
def Ring.taken (r : Ring) (k : Nat) (v : Int × Int) (bad : Bool) : Ring :=
  { r with data := r.data ++ [(k, v)], next := k + 1, lost := if r.next < k then r.lost ++ [(r.next, k)] else r.lost,
           bad := if bad then r.bad ++ [k] else r.bad }

/-- Where a ring has room a sample overwrites none. -/
theorem writeSample_room (h : (s.ring st).data.length < (s.ring st).cap) (k : Nat) (v : Int × Int) (bad : Bool) :
    writeSample st k v bad false s = s.setRing st ((s.ring st).taken k v bad) := by
  unfold writeSample
  dsimp only
  split
  next e x rest hdata =>
    rw [if_neg (by rw [List.length_append, List.length_singleton]; omega)]
    rfl
  next hdata => simp at hdata

theorem ring_setRing (x y : Nat) (r : Ring) (s : State) : (s.setRing x r).ring y = if y = x then r else s.ring y := tget_tset ..

/-! ## One frame -/

/-- A change of the sample rings alone. -/
def RingsOnly (s t : State) : Prop := t.ingest = { s.ingest with rings := t.ingest.rings } ∧ SameBut [.ingest] s t

theorem RingsOnly.refl (s : State) : RingsOnly s s := ⟨rfl, .refl _ s⟩

theorem RingsOnly.setRing (h : RingsOnly s t) (x : Nat) (r : Ring) : RingsOnly s (t.setRing x r) := by
  refine ⟨?_, h.2.trans (fun p hp => by cases p <;> first | rfl | simp at hp)⟩
  show ({ t.ingest with rings := _ } : Ingest) = _
  rw [h.1]
  rfl

theorem RingsOnly.link (h : RingsOnly s t) (n : Nat) : t.link n = s.link n := by
  unfold State.link
  rw [h.1]

theorem RingsOnly.decOn (h : RingsOnly s t) (n d : Nat) : t.decOn n d = s.decOn n d := by
  unfold State.decOn State.decWord
  rw [h.1]

theorem RingsOnly.chanOn (h : RingsOnly s t) (n : Nat) : t.chanOn n = s.chanOn n := by
  unfold State.chanOn State.chanWord
  rw [h.link]

theorem RingsOnly.linkf (h : RingsOnly s t) (n o lo w : Nat) : t.linkf n o lo w = s.linkf n o lo w := h.2.regf (by simp) _ _ _

/-- A link without channeliser and decimators, whose frames carry no overrange bits. -/
structure PlainLink (n : Nat) (s : State) : Prop where
  noOvr : s.linkf n 0 12 1 = 0
  chan : s.chanOn n = false
  decs : ∀ d, s.decOn n d = false

/-- The value of stream i in a frame. -/
def State.frameValue (s : State) (n : Nat) (frame : List (BitVec 16 × BitVec 3)) (i : Nat) : Int × Int :=
  let value := fun (i : Nat) => sampleValue (s.linkN n) (s.linkNp n) (frame.getD i (0, 0)).1.toNat
  if s.linkIq n then (value (2 * i), value (2 * i + 1)) else (value i, 0)

/-- What a frame of a plain link does to stream i: its sample goes to its ring where the stream is written. -/
def frameStream (s0 : State) (n k : Nat) (bad : Bool) (frame : List (BitVec 16 × BitVec 3)) (i : Nat) (t : State) : State :=
  if bitN (s0.linkf n 0xC 0 32) i then writeSample (streamNo n 0 i) k (s0.frameValue n frame i) bad false t else t

section
variable {n : Nat} {frame : List (BitVec 16 × BitVec 3)}

/-- The directly written streams of a list have room in their rings. -/
def RoomFor (s0 : State) (n : Nat) (l : List Nat) (s : State) : Prop :=
  ∀ i ∈ l, bitN (s0.linkf n 0xC 0 32) i = true → (s.ring (streamNo n 0 i)).data.length < (s.ring (streamNo n 0 i)).cap

theorem streamNo_inj {i j : Nat} : streamNo n 0 i = streamNo n 0 j ↔ i = j := by
  unfold streamNo
  omega

variable {s0 : State} {i : Nat} {l : List Nat}

theorem frameStream_spec (hroom : RoomFor s0 n (i :: l) s) : let t := frameStream s0 n k bad frame i s
    RingsOnly s t ∧ (bitN (s0.linkf n 0xC 0 32) i = true →
      t.ring (streamNo n 0 i) = (s.ring (streamNo n 0 i)).taken k (s0.frameValue n frame i) bad) ∧
    (∀ j, j ≠ i → t.ring (streamNo n 0 j) = s.ring (streamNo n 0 j)) := by
  unfold frameStream
  dsimp only
  split
  next hbit =>
    rw [writeSample_room (hroom i List.mem_cons_self hbit)]
    exact ⟨(RingsOnly.refl s).setRing _ _, fun _ => (ring_setRing ..).trans (if_pos rfl),
      fun j hj => (ring_setRing ..).trans (if_neg (fun h => hj (streamNo_inj.mp h)))⟩
  next hbit => exact ⟨.refl s, fun h => absurd h hbit, fun _ _ => rfl⟩

theorem RoomFor.tail (hroom : RoomFor s0 n (i :: l) s) (hi : i ∉ l) : RoomFor s0 n l (frameStream s0 n k bad frame i s) := by
  intro j hj hbit
  rw [(frameStream_spec hroom).2.2 j (fun h => hi (h ▸ hj))]
  exact hroom j (List.mem_cons_of_mem _ hj) hbit

theorem RingsOnly.trans (h : RingsOnly s t) (h' : RingsOnly t u) : RingsOnly s u := by
  refine ⟨?_, h.2.trans h'.2⟩
  rw [h'.1, h.1]

/-- The streams of a frame, each once. -/
theorem each_frameStream (hl : l.Nodup) (hroom : RoomFor s0 n l s) : let t := each l (frameStream s0 n k bad frame) s
    RingsOnly s t ∧ (∀ i ∈ l, bitN (s0.linkf n 0xC 0 32) i = true →
      t.ring (streamNo n 0 i) = (s.ring (streamNo n 0 i)).taken k (s0.frameValue n frame i) bad) ∧
    (∀ i, i ∉ l → t.ring (streamNo n 0 i) = s.ring (streamNo n 0 i)) := by
  induction l generalizing s with
  | nil => exact ⟨.refl s, fun _ h => absurd h List.not_mem_nil, fun _ _ => rfl⟩
  | cons i l ih =>
    obtain ⟨hi, hl⟩ := List.nodup_cons.mp hl
    obtain ⟨h1, hring, hother⟩ := frameStream_spec (k := k) (bad := bad) (frame := frame) hroom
    obtain ⟨h2, hrings, hothers⟩ := ih hl (hroom.tail (k := k) (bad := bad) (frame := frame) hi)
    refine ⟨h1.trans h2, fun j hj hbit => ?_, fun j hj => ?_⟩
    · rcases List.mem_cons.mp hj with rfl | hj
      · exact (hothers _ hi).trans (hring hbit)
      · exact (hrings j hj hbit).trans (congrArg (fun r => Ring.taken r k _ bad) (hother j (fun h => hi (h ▸ hj))))
    · obtain ⟨hji, hjl⟩ := List.ne_and_not_mem_of_not_mem_cons hj
      exact (hothers j hjl).trans (hother j hji)

/-- Two walks over a list are one where their steps agree along it. -/
theorem each_congr_along {α σ : Type} (P : List α → σ → Prop) {f g : α → σ → σ} (h : ∀ a l s, P (a :: l) s → f a s = g a s ∧ P l (g a s))
    {l : List α} {s : σ} (hs : P l s) : each l f s = each l g s := by
  induction l generalizing s with
  | nil => rfl
  | cons a l ih =>
    obtain ⟨heq, hnext⟩ := h a l s hs
    exact (congrArg (each l f) heq).trans (ih hnext)

/-- A frame of a plain link, its streams one after another. -/
theorem takeFrame_plain (hplain : PlainLink n s) (hroom : RoomFor s n (upTo (s.linkStreams n)) s) :
    takeFrame n k bad frame s = each (upTo (s.linkStreams n)) (frameStream s n k bad frame) s := by
  obtain ⟨hover, hchan, hdecs⟩ := hplain
  have hnone : (s.linkf n 0 12 1 == 1 && decide (1 ≤ s.linkCs n)) = false := by simp [hover]
  unfold takeFrame
  dsimp only
  simp only [hnone, Bool.false_and, Bool.or_self, ite_self]
  rw [List.filter_eq_nil_iff.mpr (by simp), List.length_nil, show count (linkCtr n 2) 0 s = s from rfl]
  refine each_congr_along (fun l u => RingsOnly s u ∧ l.Nodup ∧ RoomFor s n l u) (fun i l u hu => ?_)
    ⟨.refl s, List.nodup_range, hroom⟩
  obtain ⟨honly, hnodup, hroom⟩ := hu
  obtain ⟨hi, hl⟩ := List.nodup_cons.mp hnodup
  have hafter : RingsOnly s (frameStream s n k bad frame i u) := honly.trans (frameStream_spec hroom).1
  have hbody : (if bitN (u.linkf n 0xC 0 32) i then writeSample (streamNo n 0 i) k
      (if u.linkIq n then (sampleValue (s.linkN n) (s.linkNp n) (frame.getD (2 * i) (0, 0)).1.toNat,
        sampleValue (s.linkN n) (s.linkNp n) (frame.getD (2 * i + 1) (0, 0)).1.toNat)
      else (sampleValue (s.linkN n) (s.linkNp n) (frame.getD i (0, 0)).1.toNat, 0)) bad false u else u) =
      frameStream s n k bad frame i u := by
    unfold frameStream State.frameValue State.linkIq
    rw [honly.linkf, honly.linkf]
  refine ⟨?_, hafter, hl, hroom.tail hi⟩
  rw [hbody, hafter.chanOn, hchan, Bool.false_and, if_neg Bool.false_ne_true, List.filter_eq_nil_iff.mpr]
  · rfl
  · intro d _
    rw [hafter.decOn, hdecs]
    simp

/-! ## One arrival -/

/-- The lanes of a link whose CRC failed. -/
def State.badLanes (s : State) (n : Nat) (crc : BitVec 16) : List Nat := (s.linkLanes n).filter (fun l => crc.getLsbD l)

/-- The machine once the errors of a multiblock and one frame are counted. -/
def State.frameCounted (s : State) (n : Nat) (crc : BitVec 16) : State :=
  count (linkCtr n 0) 1 (each (s.badLanes n crc) (fun l t => count (laneCtr l) 1 t) s)

theorem frameCounted_same (s : State) (n : Nat) (crc : BitVec 16) : SameBut [.counters] s (s.frameCounted n crc) :=
  (SameBut.each _ (fun _ u => count_same _ _ u) s).trans (count_same _ _ _)

theorem counter_frameCounted (hn : n < 4) (crc : BitVec 16) (s : State) : (s.frameCounted n crc).counter (linkCtr n 0) =
    min (s.counter (linkCtr n 0) + 1) (counterMax (linkCtr n 0)) := by
  have hlanes : (each (s.badLanes n crc) (fun l t => count (laneCtr l) 1 t) s).counter (linkCtr n 0) = s.counter (linkCtr n 0) :=
    each_same (fun s => s.counter (linkCtr n 0)) _ (fun _ _ => counter_count_other _ _ _ _ (by unfold linkCtr laneCtr; omega)) s
  unfold State.frameCounted
  rw [counter_count _ _ _ (by simp), hlanes]

theorem linkStreams_of (h : ∀ o lo w, u.linkf n o lo w = s.linkf n o lo w) : u.linkStreams n = s.linkStreams n := by
  unfold State.linkStreams State.linkIq State.linkM
  rw [h, h]

theorem frameStream_of (h : ∀ o lo w, u.linkf n o lo w = s.linkf n o lo w) (k : Nat) (bad : Bool) :
    frameStream u n k bad frame = frameStream s n k bad frame := by
  funext i t
  unfold frameStream State.frameValue State.linkIq State.linkN State.linkNp
  rw [h, h, h, h]

theorem exec_sampleArrival {n : Fin 4} {crc : BitVec 16} (hs : Serving s) (hfatal : s.power.fatal = false) (hclk : s.power.refclkLost = false)
    (htb : s.tb.state = 2) (hup : (s.link n).state = 2) (hk : (s.link n).nextK ≤ k) (hctxs : s.flows.ctxs = [])
    (hplain : PlainLink n s) (hroom : RoomFor s n (upTo (s.linkStreams n)) s) : exec (.sampleArrival n k crc [frame]) s =
      .next ((each (upTo (s.linkStreams n)) (frameStream s n k (!(s.badLanes n crc).isEmpty) frame) (s.frameCounted n crc)).modLink n
        (fun l => { l with nextK := k + 1 })) := by
  have hcounted := frameCounted_same s n crc
  generalize hu : s.frameCounted n crc = u at hcounted
  have hlinkf (o lo w : Nat) : u.linkf n o lo w = s.linkf n o lo w := hcounted.regf (by simp) _ _ _
  have hring (x : Nat) : u.ring x = s.ring x := congrArg (fun i : Ingest => tget i.rings x (Ring.empty 0)) (hcounted.ingest (by simp))
  obtain ⟨hover, hchan, hdecs⟩ := hplain
  have hplainu : PlainLink n u := by
    refine ⟨(hlinkf ..).trans hover, Eq.trans ?_ hchan, fun d => Eq.trans ?_ (hdecs d)⟩
    · unfold State.chanOn State.chanWord State.link
      rw [hcounted.ingest (by simp)]
    · unfold State.decOn State.decWord
      rw [hcounted.ingest (by simp)]
  have hroomu : RoomFor u n (upTo (u.linkStreams n)) u := by
    intro i hi hbit
    rw [hring]
    rw [linkStreams_of hlinkf] at hi
    rw [hlinkf] at hbit
    exact hroom i hi hbit
  have hframe := takeFrame_plain (k := k) (bad := !(s.badLanes n crc).isEmpty) (frame := frame) hplainu hroomu
  rw [linkStreams_of hlinkf, frameStream_of hlinkf] at hframe
  have hdue : (s.ingestRuns && (s.link n.val).state == 2 && decide ((s.link n.val).nextK ≤ k)) = true := by
    unfold State.ingestRuns State.tbRunning
    simp [served_of hs, hfatal, hclk, htb, hup, hk]
  refine (ifDue_of hdue).trans (congrArg _ ?_)
  have hgo : sampleArrival n k crc [frame] s = formLink 10 n ((takeFrame n k (!(s.badLanes n crc).isEmpty) frame u).modLink n
      (fun l => { l with nextK := k + 1 })) := by
    rw [← hu]
    rfl
  rw [hgo, hframe]
  have hroomsu : RoomFor s n (upTo (s.linkStreams n)) u := by
    intro i hi hbit
    rw [hring]
    exact hroom i hi hbit
  obtain ⟨honly, -⟩ := each_frameStream (k := k) (bad := !(s.badLanes n crc).isEmpty) (frame := frame)
    (l := upTo (s.linkStreams n)) List.nodup_range hroomsu
  unfold formLink State.linkFlows
  rw [(modLink_same _ _ _).flows (by simp), honly.2.flows (by simp), hcounted.flows (by simp), hctxs]
  rfl

end

end

/-- Settles O38: one frame, stream by stream, on the rings of its link. -/
theorem samplesReachTheirRings : Obligations.SamplesReachTheirRings := by
  intro n k crc frame s hs hfatal hclk htb hup hk hover hchan hdecs hctxs hrings
  have hroom : RoomFor s n (upTo (s.linkStreams n)) s := fun i hi hbit => (hrings i (List.mem_range.mp hi) hbit).2
  have hgo := exec_sampleArrival (frame := frame) (crc := crc) hs hfatal hclk htb hup hk hctxs ⟨hover, hchan, hdecs⟩ hroom
  have hcounted := frameCounted_same s n crc
  have hcount := counter_frameCounted n.isLt crc s
  generalize s.frameCounted n crc = u at hgo hcounted hcount
  have hring (x : Nat) : u.ring x = s.ring x := congrArg (fun i : Ingest => tget i.rings x (Ring.empty 0)) (hcounted.ingest (by simp))
  obtain ⟨⟨hingest, honly⟩, htaken, -⟩ := each_frameStream (s := u) (s0 := s) (n := n.val) (k := k) (bad := !(s.badLanes n crc).isEmpty)
    (frame := frame) (l := upTo (s.linkStreams n)) List.nodup_range (fun i hi hbit => by rw [hring]; exact hroom i hi hbit)
  generalize each (upTo (s.linkStreams n)) (frameStream s n k (!(s.badLanes n crc).isEmpty) frame) u = v at hgo hingest honly htaken
  have hlast := modLink_same n.val (fun l => { l with nextK := k + 1 }) v
  have hingest' : v.ingest = { s.ingest with rings := v.ingest.rings } := by rw [hingest, hcounted.ingest (by simp)]
  refine ⟨_, hgo, fun i hi hbit _ => ?_, ?_, ?_, ?_, ?_, (hcounted.mono (by simp)).trans ((honly.mono (by simp)).trans (hlast.mono (by simp)))⟩
  · have hr : (v.modLink n.val (fun l => { l with nextK := k + 1 })).ring (streamNo n 0 i) =
        (s.ring (streamNo n 0 i)).taken k (s.frameValue n frame i) (!(s.badLanes n crc).isEmpty) := by
      refine Eq.trans ?_ ((htaken i (List.mem_range.mpr hi) hbit).trans (by rw [hring]))
      rfl
    have hbad : (∃ l ∈ s.linkLanes n, crc.getLsbD l = true) ↔ (!(s.badLanes n crc).isEmpty) = true := by
      unfold State.badLanes
      simp [List.filter_eq_nil_iff]
    rw [hr]
    refine ⟨rfl, rfl, rfl, rfl, fun h => if_pos (hbad.mp h), fun h => if_neg (fun hb => h (hbad.mpr hb))⟩
  · rw [link_modLink, if_pos rfl]
  · rw [hlast.counter (by simp), honly.counter (by simp), hcount]
  · show v.ingest.decs = _
    rw [hingest']
  · show v.ingest.coefs = _
    rw [hingest']

end Sys2Proof.Machine
end

section
/-! PROOF. Batches of judged residuals and block scans (R359, R360, R366). -/

namespace Sys2Proof.Machine

open Sys2Proof.Safety

section
variable {L : List Piece} {s t : State} {c n b : Nat} {x : Batch} {a : Activity}

/-- The partition an activity of a core is reported to is read from the registers alone. -/
theorem SameBut.actPart (h : SameBut L s t) (hp : Piece.pre ∉ L) (c : Nat) : t.actPart c = s.actPart c := by
  unfold State.actPart State.corePartNo State.corePart? State.partOn State.partCores
  simp only [h.regf hp]

/-! ## The end of a batch -/

/-- A batch that fails asks Whisk for a scan of its block. -/
theorem batchEnd_fails (hx : tget? (s.tile c n).batches b = some x) (hbad : s.batchFails x = true)
    (hjob : (s.tile c n).job = none) (hrun : s.running = []) (hwait : s.waiting = []) : let t := batchEnd c n b s
    t.tile c n = { s.tile c n with batches := tdel (s.tile c n).batches b, job := some (.scan b x.mean16) } ∧
    t.running = [actTile 3 2 c n (s.actPart c) none] ∧
    t.counter (coreCtr c 49) = min (s.counter (coreCtr c 49) + 1) (counterMax (coreCtr c 49)) ∧
    SameBut [.tiles, .running, .trace, .counters] s t := by
  let s1 := s.modTile c n (fun v => { v with batches := tdel v.batches b })
  let s2 := count (coreCtr c 49) 1 s1
  let s3 := s2.modTile c n (fun v => { v with job := some (.scan b x.mean16) })
  have h2 : SameBut [.tiles, .counters] s s2 := ((modTile_same c n _ s).mono (by simp)).trans ((count_same _ _ s1).mono (by simp))
  have h3 : SameBut [.tiles, .counters] s s3 := h2.trans ((modTile_same c n _ s2).mono (by simp))
  have htile : s2.tile c n = { s.tile c n with batches := tdel (s.tile c n).batches b } :=
    ((count_same (coreCtr c 49) 1 s1).tile (by simp) c n).trans (tile_modTile_same s c n _)
  have ht : batchEnd c n b s = beginAct (actTile 3 2 c n (s.actPart c) none) s3 := by
    unfold batchEnd askScan
    dsimp only
    rw [show tget (s.tile c n).batches b { count := 0, sum16 := 0, var := 0 } = x by rw [tget_eq_getD, hx]; rfl, if_pos hbad,
      if_neg (show ¬ (s2.tile c n).job.isSome = true by simp [htile, hjob]), ← SameBut.actPart h2 (by simp) c]
    exact askAuto_idle _ ((h3 .running (by simp)).trans hrun) ((h3 .waiting (by simp)).trans hwait)
  have hsame := beginAct_same (actTile 3 2 c n (s.actPart c) none) s3
  rw [ht]
  refine ⟨(hsame.tile (by simp) c n).trans ?_, ?_, ?_, (h3.mono (by simp)).trans (hsame.mono (by simp))⟩
  · rw [show s3.tile c n = _ from tile_modTile_same s2 c n _, htile]
  · rw [beginAct_running, show s3.running = [] from (h3 .running (by simp)).trans hrun]; rfl
  · rw [hsame.counter (by simp), SameBut.counter (modTile_same c n _ s2) (by simp), counter_count _ _ _ (by decide),
      SameBut.counter (modTile_same c n _ s) (by simp)]

/-- A clean batch is forgotten, and no entry of the retract list waits for its block. -/
theorem batchEnd_clean (hx : tget? (s.tile c n).batches b = some x) (hgood : s.batchFails x = false) : let t := batchEnd c n b s
    tget? (t.tile c n).batches b = none ∧ b ∉ (t.tile c n).retractLost ∧
    (∀ e ∈ (t.tile c n).retractList, b ∉ e.waiting ∧ e.waiting ≠ []) ∧ SameBut [.tiles] s t := by
  have ht : batchEnd c n b s = cleanBlock c n b (s.modTile c n (fun v => { v with batches := tdel v.batches b })) := by
    unfold batchEnd
    dsimp only
    rw [show tget (s.tile c n).batches b { count := 0, sum16 := 0, var := 0 } = x by rw [tget_eq_getD, hx]; rfl,
      if_neg (by simp [hgood])]
  rw [ht]
  refine ⟨?_, ?_, ?_, (modTile_same c n _ s).trans (modTile_same c n _ _)⟩ <;> unfold cleanBlock <;> rw [tile_modTile_same, tile_modTile_same]
  · simp [tget?_tdel]
  · simp
  · intro e he
    obtain ⟨he, hne⟩ := List.mem_filter.1 he
    obtain ⟨y, -, rfl⟩ := List.mem_map.1 he
    exact ⟨by simp, by simpa using hne⟩

theorem exec_sieveBatchEnd {core : Fin 32} {tile : Fin 33} {block : Fin 16} (hrun : s.coresRun = true)
    (hx : tget? (s.tile core tile).batches block = some x) :
    exec (.sieveBatchEnd core tile block) s = .next (if 256 ≤ x.count then batchEnd core tile block s else s) := by
  show execSieveBatchEnd core tile block s = _
  unfold execSieveBatchEnd
  rw [hx]
  simp only [ifDue, hrun, Bool.true_and, decide_eq_true_eq]

/-! ## A scan that finds nothing -/

/-- What is asked for is running or waits. -/
theorem mem_askAuto (a : Activity) (s : State) : a ∈ (askAuto a s).running ++ (askAuto a s).waiting := by
  unfold askAuto
  split
  next h => simpa using h
  · split
    · rw [(count_same _ _ _) .running (by simp), (count_same _ _ _) .waiting (by simp)]
      simp
    · simp

theorem askAuto_same (a : Activity) (s : State) : SameBut [.running, .waiting, .trace, .counters] s (askAuto a s) :=
  Framed.same (frame_askAuto a (fun _ h => h))

/-- A scan that finds no stored fault: the mean is a fault of the tile, whose calibration is due (R360). -/
theorem scanDone_nothing (m : Int) (hfaults : s.crock.mirror.faults = []) : let t := scanDone c n b m [] s
    (t.tile c n).job = none ∧ (t.tile c n).calDue = true ∧ Noted (uTile c n) 2 0 (b + 16 * field 32 m) t ∧
    actTile 4 0 c n (s.actPart c) none ∈ t.running ++ t.waiting := by
  let s1 := s.modTile c n (fun v => { v with job := none })
  let s2 := attribute_ (uTile c n) 2 0 noWork (b + 16 * field 32 m) false false s1
  let s3 := s2.modTile c n (fun v => { v with calDue := true })
  have ht : scanDone c n b m [] s = askAuto (actTile 4 0 c n (s.actPart c) none) s3 := rfl
  obtain ⟨hnote, st, k, htile⟩ := attribute_first_tile_spec (uTile c n) 2 0 noWork (b + 16 * field 32 m) false (s := s1)
    hfaults (Nat.le_refl 3)
  have hsame := askAuto_same (actTile 4 0 c n (s.actPart c) none) s3
  have htile3 : (askAuto (actTile 4 0 c n (s.actPart c) none) s3).tile c n = { s2.tile c n with calDue := true } :=
    (hsame.tile (by simp) c n).trans (tile_modTile_same s2 c n _)
  have hjob : (s2.tile c n).job = none := by
    rw [show s2.tile c n = _ from htile]
    show (s1.tile c n).job = none
    rw [show s1.tile c n = _ from tile_modTile_same s c n _]
  rw [ht]
  refine ⟨?_, ?_, ?_, mem_askAuto _ s3⟩
  · rw [htile3]; exact hjob
  · rw [htile3]
  · exact (hnote.same (modTile_same c n _ s2) (by simp)).same hsame (by simp)

theorem exec_blockScan {core : Fin 32} {tile : Fin 33} {m : Int} (hrun : s.coresRun = true)
    (ha : s.act? 3 2 core tile = some a) (hjob : (s.tile core tile).job = some (.scan b m))
    (hgap : (s.tile core tile).running = none) :
    exec (.blockScan core tile []) s = .next (scanDone core tile b m [] (endAct a s)) := by
  show execBlockScan core tile [] s = _
  unfold execBlockScan
  rw [if_pos (show WellFormed.scan [] = true from rfl), ha, hjob]
  simp [ifDue, hrun, State.gap, hgap]

end

end Sys2Proof.Machine
end

section
/-! PROOF. Records whose checks have finished are confirmed or retracted (R365, R367). -/

namespace Sys2Proof.Machine

open Sys2Proof.Safety

section
variable {s t u : State} {p rid : Nat} {o : Outstanding} {r : Run}

/-! ## What settling leaves of the funnels -/

/-- The funnels keep every packet waiting and every verdict, and the partitions' counters stay. -/
structure RecordsKept (s t : State) : Prop where
  waiting : ∀ q, ∀ k ∈ (s.funnel q).waiting, k ∈ (t.funnel q).waiting
  outstanding : ∀ q, (t.funnel q).outstanding = (s.funnel q).outstanding
  counters : ∀ q i, q < 8 → i < 32 → t.counter (partCtr q i) = s.counter (partCtr q i)

theorem RecordsKept.refl (s : State) : RecordsKept s s := ⟨fun _ _ hk => hk, fun _ => rfl, fun _ _ _ _ => rfl⟩

theorem RecordsKept.trans (h1 : RecordsKept s t) (h2 : RecordsKept t u) : RecordsKept s u :=
  ⟨fun q k hk => h2.waiting q k (h1.waiting q k hk), fun q => (h2.outstanding q).trans (h1.outstanding q),
   fun q i hq hi => (h2.counters q i hq hi).trans (h1.counters q i hq hi)⟩

theorem RecordsKept.of_same {L : List Piece} (h : SameBut L s t) (hf : Piece.funnels ∉ L) (hc : Piece.counters ∉ L) :
    RecordsKept s t :=
  ⟨fun q k hk => by rwa [SameBut.funnel h hf], fun q => by rw [SameBut.funnel h hf], fun q i _ _ => h.counter hc _⟩

theorem RecordsKept.each {α : Type} (l : List α) (f : α → State → State) (h : ∀ x t, RecordsKept t (f x t)) (s : State) :
    RecordsKept s (each l f s) :=
  each_keeps (RecordsKept s) l (fun x t ht => ht.trans (h x t)) (.refl s)

/-- A counter beyond the partitions' moves none of theirs. -/
theorem RecordsKept.count {off : Nat} (h : 0x4A00 ≤ off) (n : Nat) (s : State) : RecordsKept s (count off n s) :=
  ⟨fun q k hk => by rwa [(count_same off n s).funnel (by simp)], fun q => by rw [(count_same off n s).funnel (by simp)],
   fun q i hq hi => counter_count_other _ _ _ _ (by unfold partCtr; omega)⟩

theorem RecordsKept.form (p : Nat) (k : Pkt) (s : State) : RecordsKept s (form p k s) := by
  refine ⟨fun q x hx => ?_, fun q => ?_, fun q i _ _ => (form_same _ _ s).counter (by simp) _⟩ <;> rw [funnel_form] <;> split
  next h => subst h; exact List.mem_append_left _ hx
  · exact hx
  next h => subst h; rfl
  · rfl

theorem RecordsKept.formStamped (p kind t256 : Nat) (body : List DWord) (s : State) :
    RecordsKept s (formStamped p kind t256 body s) := by
  refine ⟨fun q x hx => ?_, fun q => ?_, fun q i _ _ => (formStamped_same _ _ _ _ s).counter (by simp) _⟩ <;>
    rw [funnel_formStamped] <;> split
  next h => subst h; exact List.mem_append_left _ hx
  · exact hx
  next h => subst h; rfl
  · rfl

theorem RecordsKept.raiseTo (ps : List Nat) (tp unit : Nat) (e : EventRec) (s : State) : RecordsKept s (raiseTo ps tp unit e s) := by
  unfold Machine.raiseTo
  refine RecordsKept.trans (t := _) ?_ (.each ps _ (fun p t => .formStamped _ _ _ _ t) _)
  exact .of_same (trace_same _ s) (by simp) (by simp)

theorem RecordsKept.noRing (h : Hdr) (s : State) : RecordsKept s (noRing h s) := by
  have h1 : RecordsKept s (Machine.count (devCtr 7) 1 s) := .count (by decide) 1 s
  unfold Machine.noRing
  simp only
  split
  · exact h1.trans (.raiseTo _ _ _ _ _)
  · exact h1.trans (.of_same (traceOnly_same _ _ _ _ _ _ _ _ _) (by simp) (by simp))

theorem RecordsKept.reply (h : Hdr) (op st : Nat) (final : Bool) (w : List Word) (s : State) :
    RecordsKept s (reply h op st final w s) := by
  unfold Machine.reply
  split
  · refine .of_same (L := [.host, .trace]) ?_ (by simp) (by simp)
    exact ((modLane_same _ _ _ s).mono (by simp)).trans ((traceOnly_same _ _ _ _ _ _ _ _ _).mono (by simp))
  · exact .noRing h s

/-- A command that ends replies, or the loss of its reply is reported. -/
theorem RecordsKept.finishOpt (id : Option Nat) (st : Nat) (w : List Word) (s : State) :
    RecordsKept s (finishOpt id st w s) := by
  cases id with
  | none => exact .refl s
  | some i =>
    show RecordsKept s (finish i st w s)
    unfold finish
    split
    next c _ =>
      have h1 : RecordsKept s (dropCmd i s) := .of_same (dropCmd_same i s) (by simp) (by simp)
      exact h1.trans (.reply _ _ _ _ _ _)
    · exact .refl s

/-- A run that is settled leaves the records as they are. -/
theorem RecordsKept.settleRun (rid : Nat) (s : State) : RecordsKept s (settleRun rid s) := by
  unfold Machine.settleRun
  split
  · split
    · have h1 : RecordsKept s (s.modFlows (fun f => { f with runs := tdel f.runs rid })) :=
        .of_same (modFlows_same _ s) (by simp) (by simp)
      dsimp only
      split
      · split
        · exact (h1.trans (.of_same (modFlows_same _ _) (by simp) (by simp))).trans (.finishOpt _ _ _ _)
        · exact h1
      · exact h1
    · exact .refl s
  · exact .refl s

/-- An assertion put in a pin's schedule. -/
theorem RecordsKept.schedulePin (q tick : Nat) (src : Option (Nat × Nat × Nat)) (s : State) :
    RecordsKept s (schedulePin q tick src s) := by
  have hcount (i : Nat) (v : State) : RecordsKept v (Machine.count (trigOutCtr q i) 1 v) :=
    .count (by unfold trigOutCtr; omega) 1 v
  have hdrive (a : Assertion) (at_ : Int) (v : State) : RecordsKept v (drivePin q a at_ v) := by
    unfold drivePin
    dsimp only
    have h1 (f : TrigOut → TrigOut) : RecordsKept v (v.modPin q f) := .of_same (modPin_same _ _ v) (by simp) (by simp)
    split <;> split
    all_goals first
      | exact ((h1 _).trans (hcount 0 _)).trans (hcount 3 _)
      | exact ((h1 _).trans (hcount 0 _)).trans (.of_same (emit_same _ _) (by simp) (by simp))
  unfold Machine.schedulePin
  dsimp only
  split
  · exact hcount 2 s
  · split
    · exact hcount 4 s
    · split
      · split
        · exact (hcount 1 s).trans (hcount 2 _)
        · exact (hcount 1 s).trans (hdrive _ _ _)
      · exact .of_same (modPin_same _ _ s) (by simp) (by simp)

theorem RecordsKept.fireRules (k : Pkt) (hits : List (Nat × Nat)) (s : State) : RecordsKept s (fireRules k hits s) :=
  .each hits (fun x t => Machine.schedulePin x.1 x.2 (some k.src) t) (fun x t => .schedulePin x.1 x.2 _ t) s

theorem noteConfirmed_same (k : Pkt) (s : State) : SameBut [.tiles] s (noteConfirmed k s) :=
  Framed.same (frame_noteConfirmed k (fun _ h => h))

/-! ## Verdicts -/

/-- A verdict's packet waits, the record has it, and it is counted. -/
theorem verdict_spec (k x : Pkt) (v i : Nat) (s : State) :
    let t := setVerdict k v (count (partCtr k.part i) 1 (form k.part x s))
    x ∈ (t.funnel k.part).waiting ∧
    (t.funnel k.part).outstanding = (s.funnel k.part).outstanding.map (fun o =>
      if o.pkt.src = k.src then { o with verdict := some v } else o) ∧
    t.counter (partCtr k.part i) = min (s.counter (partCtr k.part i) + 1) (counterMax (partCtr k.part i)) ∧
    SameBut [.funnels, .counters] s t := by
  let s1 := form k.part x s
  let s2 := count (partCtr k.part i) 1 s1
  have hf : s2.funnel k.part = { s.funnel k.part with waiting := (s.funnel k.part).waiting ++ [x] } := by
    rw [(count_same (partCtr k.part i) 1 s1).funnel (by simp), funnel_form, if_pos rfl]
  have ht : (setVerdict k v s2).funnel k.part = { s2.funnel k.part with
      outstanding := (s2.funnel k.part).outstanding.map (fun o =>
        if o.pkt.src = k.src then { o with verdict := some v } else o) } := by
    unfold setVerdict
    rw [funnel_modFunnel, if_pos rfl]
  refine ⟨by rw [ht, hf]; simp, by rw [ht, hf], ?_, ?_⟩
  · refine (SameBut.counter (modFunnel_same _ _ s2) (by simp) _).trans ?_
    rw [counter_count _ _ _ (by decide), (form_same _ _ s).counter (by simp)]
  · exact (((form_same _ _ s).mono (by simp)).trans ((count_same _ _ s1).mono (by simp))).trans
      ((modFunnel_same _ _ s2).mono (by simp))

/-- No pin's schedule holds an assertion that a retracted record fired. -/
theorem retractPins_schedule (src : Nat × Nat × Nat) (s : State) {q : Nat} (hq : q < 8) :
    ∀ x ∈ ((retractPins src s).1.pin q).schedule, x.source ≠ some src := by
  let f : Nat → State → State := fun p t => t.modPin p (fun k =>
    { k with schedule := k.schedule.filter (fun a => a.source ≠ some src) })
  have key (l : List Nat) (u : State) (h : q ∈ l ∨ ∀ x ∈ (u.pin q).schedule, x.source ≠ some src) :
      ∀ x ∈ ((each l f u).pin q).schedule, x.source ≠ some src := by
    induction l generalizing u with
    | nil => simpa using h
    | cons a l ih =>
      refine ih (f a u) ?_
      by_cases haq : q = a
      · refine .inr fun x hx => ?_
        simp only [f, pin_modPin, if_pos haq] at hx
        simpa using (List.mem_filter.1 hx).2
      · refine h.imp (fun hm => (List.mem_cons.1 hm).resolve_left haq) fun hu => ?_
        simpa only [f, pin_modPin, if_neg haq] using hu
  exact key _ _ (.inl (List.mem_range.2 hq))

theorem retractPins_same (src : Nat × Nat × Nat) (s : State) : SameBut [.tb] s (retractPins src s).1 :=
  Framed.same (frame_retractPins src (fun _ h => h))

/-! ## The records of a partition -/

theorem exec_checksDone {part : Fin 8} (hrun : s.coresRun = true) (hout : (s.funnel part).outstanding = [o])
    (hv : o.verdict = none) (hrid : o.pkt.run = some rid) :
    exec (.checksDone part) s = .next (settleRun rid (settleRecord o s)) := by
  show execChecksDone part s = _
  unfold execChecksDone ifDue
  rw [hrun]
  simp only [if_true, hout]
  rw [List.filter_cons_of_pos (by simp [hv])]
  simp only [List.filter_nil, List.filterMap_cons, hrid, List.filterMap_nil]
  rfl

/-- While a check of its run is open a record waits. -/
theorem settleRecord_open (hrid : o.pkt.run = some rid) (hr : s.run? rid = some r) (h : 0 < r.openChecks) :
    settleRun rid (settleRecord o s) = s := by
  have h1 : settleRecord o s = s := by
    unfold settleRecord
    rw [hrid]
    simp [hr, h]
  rw [h1]
  unfold settleRun
  rw [hr]
  simp [Nat.pos_iff_ne_zero.1 h]

/-- With every check passed a record is confirmed. -/
theorem settleRecord_confirms (hrid : o.pkt.run = some rid) (hr : s.run? rid = some r) (hopen : r.openChecks = 0)
    (hgood : r.failCause = none) (hp : o.pkt.part < 8) (hout : (s.funnel o.pkt.part).outstanding = [o]) :
    let t := settleRun rid (settleRecord o s)
    verdictPkt o.pkt 5 [0] ∈ (t.funnel o.pkt.part).waiting ∧
    t.counter (partCtr o.pkt.part 19) = min (s.counter (partCtr o.pkt.part 19) + 1) (counterMax (partCtr o.pkt.part 19)) ∧
    (t.funnel o.pkt.part).outstanding = [{ o with verdict := some 5 }] := by
  have h1 : settleRecord o s = fireRules o.pkt (s.ruleHits o.pkt [0]) (noteConfirmed o.pkt (confirmRec o.pkt s)) := by
    unfold settleRecord
    rw [hrid]
    simp [hr, hopen, hgood]
  obtain ⟨hwait, houts, hcount, -⟩ := verdict_spec o.pkt (verdictPkt o.pkt 5 [0]) 5 19 s
  have hkept : RecordsKept (confirmRec o.pkt s) (settleRun rid (settleRecord o s)) := by
    rw [h1]
    exact ((RecordsKept.of_same (noteConfirmed_same _ _) (by simp) (by simp)).trans (.fireRules _ _ _)).trans (.settleRun _ _)
  refine ⟨hkept.waiting _ _ hwait, (hkept.counters _ _ hp (by decide)).trans hcount, (hkept.outstanding _).trans (houts.trans ?_)⟩
  simp [hout]

/-- With a check failed it is retracted, and its assertions that are still to come leave the pins. -/
theorem settleRecord_retracts {cause : Nat} (hrid : o.pkt.run = some rid) (hr : s.run? rid = some r) (hopen : r.openChecks = 0)
    (hbad : r.failCause = some cause) (hp : o.pkt.part < 8) : let t := settleRun rid (settleRecord o s)
    (∃ body, verdictPkt o.pkt 6 body ∈ (t.funnel o.pkt.part).waiting) ∧
    t.counter (partCtr o.pkt.part 20) = min (s.counter (partCtr o.pkt.part 20) + 1) (counterMax (partCtr o.pkt.part 20)) ∧
    (∀ q, q < 8 → ∀ x ∈ (t.pin q).schedule, x.source ≠ some o.pkt.src) := by
  let s1 := (retractPins o.pkt.src s).1
  have h1 : settleRecord o s = retractRec o.pkt cause s := by
    unfold settleRecord
    rw [hrid]
    simp [hr, hopen, hbad]
  let body := [d64 ((retractPins o.pkt.src s).2 + 256 * cause)]
  obtain ⟨hwait, -, hcount, hsame⟩ := verdict_spec o.pkt (verdictPkt o.pkt 6 body) (6 + 256 * cause) 20 s1
  rw [h1]
  have hkept := RecordsKept.settleRun rid (retractRec o.pkt cause s)
  refine ⟨⟨body, hkept.waiting _ _ hwait⟩, ?_, fun q hq x hx => retractPins_schedule o.pkt.src s hq x ?_⟩
  · rw [hkept.counters _ _ hp (by decide)]
    exact hcount.trans (by rw [(retractPins_same o.pkt.src s).counter (by simp)])
  · have hpin : SameBut [.host, .pre, .flows, .funnels, .trace, .counters] s1 (settleRun rid (retractRec o.pkt cause s)) :=
      SameBut.trans (SameBut.mono hsame (by simp)) (Framed.same (frame_settleRun rid (fun _ h => h)))
    rwa [SameBut.pin hpin (by simp)] at hx

end

end Sys2Proof.Machine
end

section
/-! PROOF. Records leave through the FIFO (R326, R328). -/

namespace Sys2Proof.Machine

open Sys2Proof.Safety

section
variable {L : List Piece} {s t s0 : State} {p i w : Nat} {k : Pkt} {rest : List Pkt}

/-! ## Reservation -/

/-- The room a packet may use. -/
theorem tailKind_room {n : Nat} (h : n ≤ 8) :
    (if tailKind n then 262144 else 245760) = if 2 ≤ n then 262144 else 245760 := by
  simp [tailKind, h]

theorem reserve_none (h : (s.funnel p).waiting = []) : reserve p s = s := by
  unfold reserve
  dsimp only
  rw [h]

/-- A packet that fits moves to the end of the FIFO. -/
theorem reserve_fits (h : (s.funnel p).waiting = k :: rest) (hk : k.kind ≤ 8)
    (hfit : (s.funnel p).used + 8 * (8 + k.body.length) ≤ if 2 ≤ k.kind then 262144 else 245760) :
    reserve p s = s.modFunnel p (fun f =>
      { f with waiting := rest, lost := false, fifo := f.fifo ++ [FifoPkt.mk { k with lost := (s.funnel p).lost } 0 0 0] }) := by
  unfold reserve
  dsimp only
  rw [h]
  dsimp only [Pkt.words]
  rw [tailKind_room hk]
  refine (if_pos hfit).trans ?_
  simp only [State.modFunnel, show k.kind ≠ 9 by omega, if_false]

/-- One that does not waits, or is dropped where its kind may be. -/
theorem reserve_full (h : (s.funnel p).waiting = k :: rest) (hk : k.kind ≤ 8)
    (hfull : (if 2 ≤ k.kind then 262144 else 245760) < (s.funnel p).used + 8 * (8 + k.body.length)) :
    reserve p s = if dropKind k.kind then
      count (partCtr p 16) 1 (s.modFunnel p (fun f => { f with waiting := rest, lost := true })) else s := by
  unfold reserve
  dsimp only
  rw [h]
  dsimp only [Pkt.words]
  rw [tailKind_room hk]
  exact if_neg (by omega)

theorem dropKind_iff (n : Nat) : dropKind n = true ↔ n = 2 ∨ n = 7 ∨ n = 8 := by
  simp [dropKind, or_assoc]

/-! ## One line to the host ring -/

theorem dwordBytes_append (a b : List DWord) : dwordBytes (a ++ b) = dwordBytes a ++ dwordBytes b :=
  List.flatMap_append

theorem dwordBytes_length (l : List DWord) : (dwordBytes l).length = 8 * l.length := by
  induction l with
  | nil => rfl
  | cons x l ih =>
    rw [dwordBytes, List.flatMap_cons, List.length_append, ← dwordBytes, ih, leBytes_length, List.length_cons]
    omega

theorem Pkt.dwords_length (k : Pkt) (level1 : Bool) : (k.dwords level1).length = k.words := by
  simp [Pkt.dwords, Pkt.words]
  omega

theorem writeBytes_append (m : List Host.Cell) (a : Nat) (x y : Bytes) :
    Memory.writeBytes m a (x ++ y) = Memory.writeBytes (Memory.writeBytes m a x) (a + x.length) y := by
  induction x generalizing m a with
  | nil => rfl
  | cons b x ih =>
    show Memory.writeBytes (Memory.write m a b) (a + 1) (x ++ y) = _
    rw [ih, List.length_cons, show a + (x.length + 1) = a + 1 + x.length by omega]
    rfl

theorem readBytes_add (m : List Host.Cell) (a i j : Nat) :
    Memory.readBytes m a (i + j) = Memory.readBytes m a i ++ Memory.readBytes m (a + i) j := by
  induction i generalizing a with
  | zero => simp [Memory.readBytes]
  | succ i ih =>
    rw [show i + 1 + j = i + j + 1 by omega]
    simp only [Memory.readBytes, List.cons_append, ih (a + 1)]
    rw [show a + 1 + i = a + (i + 1) by omega]

/-- What a longer write begins with is read at its place. -/
theorem readBytes_writeBytes_front {m : List Host.Cell} (a : Nat) (x y : Bytes) (h : Memory.wf m = true) :
    Memory.readBytes (Memory.writeBytes m a (x ++ y)) a x.length = x := by
  have hall := Memory.readBytes_writeBytes a (x ++ y) h
  rw [List.length_append, readBytes_add] at hall
  exact (List.append_inj hall (by simp)).1

theorem readBytes_writeBytes_other {m : List Host.Cell} (a b n : Nat) (x : Bytes) (h : Memory.wf m = true)
    (hx : b + n ≤ a ∨ a + x.length ≤ b) :
    Memory.readBytes (Memory.writeBytes m a x) b n = Memory.readBytes m b n := by
  induction n generalizing b with
  | zero => rfl
  | succ n ih =>
    simp only [Memory.readBytes]
    rw [ih (b + 1) (by omega), Memory.read_writeBytes_other a b x h (by omega)]

/-- What one destination reads of the one packet in the FIFO. -/
theorem readFifo_single {e : FifoPkt} {n : Nat} (hr : s.routeOf p e = 1) (hn : 0 < n) :
    readFifo s p 1 n [e] = (((e.pkt.dwords false).drop e.hostRead).take n,
      [e.advance 1 (((e.pkt.dwords false).drop e.hostRead).take n).length 1]) := by
  unfold readFifo
  rw [hr]
  have hon : onRoute 1 1 = true := by decide
  simp only [hon, if_true, FifoPkt.read]
  rw [if_neg (by simp; omega)]
  split <;> simp [readFifo]

/-- The words of the packet read after i lines. -/
def FifoPkt.afterLines (k : Pkt) (i : Nat) : FifoPkt := { pkt := k, route := if i = 0 then 0 else 1, hostRead := 8 * i, netRead := 0 }

/-- A burst of one packet after i lines of it. -/
structure Bursting (p : Nat) (k : Pkt) (w i : Nat) (s0 s : State) : Prop where
  fifo : (s.funnel p).fifo = [FifoPkt.afterLines k i]
  writeOff : (s.funnel p).writeOff = w + 64 * i
  mem : s.host.mem = Memory.writeBytes s0.host.mem (s0.ringBase p + w) (dwordBytes ((k.dwords false).take (8 * i)))
  counter : s.counter (partCtr p 14) =
    if i = 0 then s0.counter (partCtr p 14) else min (s0.counter (partCtr p 14) + 1) (counterMax (partCtr p 14))
  same : SameBut [.host, .funnels, .counters] s0 s

/-- Where the burst's packet goes: to the host alone. -/
theorem routeOf_afterLines (hfirst : i = 0 → s.fnCtrl p 0 1 = 1 ∧ s.fnCtrl p 2 1 = 0) (hk : k.kind ≤ 4) :
    s.routeOf p (FifoPkt.afterLines k i) = 1 := by
  unfold State.routeOf FifoPkt.afterLines
  by_cases hi : i = 0
  · obtain ⟨h0, h2⟩ := hfirst hi
    simp [hi, h0, h2, show k.kind ≠ 5 by omega, show k.kind ≠ 6 by omega]
  · simp [hi]

/-- The words of line i of a packet. -/
def lineWords (k : Pkt) (i : Nat) : List DWord := ((k.dwords false).drop (8 * i)).take 8

/-- The FIFO's packet once line i is read. -/
def afterLine (k : Pkt) (i : Nat) : FifoPkt :=
  { pkt := k, route := 1, hostRead := 8 * i + (lineWords k i).length, netRead := 0 }

/-- Putting back the one packet of a FIFO: it is counted when it is first taken, and leaves when it is read. -/
theorem putFifo_single {e e' : FifoPkt} (hfifo : (s.funnel p).fifo = [e]) (he' : e'.route ≠ 0) : let t := putFifo p [e'] s
    (t.funnel p).fifo = [e'].filter (fun x => !x.done) ∧ (t.funnel p).writeOff = (s.funnel p).writeOff ∧
    t.counter (partCtr p 14) = (if e.route = 0 then min (s.counter (partCtr p 14) + 1) (counterMax (partCtr p 14))
      else s.counter (partCtr p 14)) ∧
    SameBut [.funnels, .counters] s t := by
  let fresh := ((s.funnel p).fifo.zip [e']).filter (fun x => decide (x.1.route = 0) && decide (x.2.route ≠ 0))
  let s1 := count (partCtr p 14) fresh.length s
  let n := fresh.foldl (fun a x => a + 8 * x.2.pkt.words) 0
  let s2 := count (partCtr p 15) n s1
  have hlen : fresh.length = if e.route = 0 then 1 else 0 := by
    show (((s.funnel p).fifo.zip [e']).filter _).length = _
    rw [hfifo]
    by_cases he : e.route = 0 <;> simp [he, he']
  have h2 : SameBut [.counters] s s2 := (count_same _ _ s).trans (count_same _ _ s1)
  have hput : ∃ g : List Outstanding, putFifo p [e'] s = s2.modFunnel p (fun f => { f with
      fifo := [e'].filter (fun x => !x.done), outstanding := g }) := by
    refine ⟨(s2.funnel p).outstanding.map (fun o => [e'].foldl (fun x e => if e.route = 0 then x else noteTaken e x) o), ?_⟩
    unfold putFifo State.modFunnel
    simp [s2, n, s1, fresh]
  obtain ⟨g, hg⟩ := hput
  rw [hg]
  refine ⟨?_, ?_, ?_, ((h2.mono (by simp)).trans ((modFunnel_same _ _ s2).mono (by simp)))⟩
  · rw [funnel_modFunnel, if_pos rfl]
  · rw [funnel_modFunnel, if_pos rfl, SameBut.funnel h2 (by simp)]
  · refine (SameBut.counter (modFunnel_same _ _ s2) (by simp) _).trans ?_
    rw [counter_count_other _ _ _ _ (by simp [partCtr_inj])]
    show (count (partCtr p 14) fresh.length s).counter _ = _
    rw [hlen]
    split
    · exact counter_count _ _ _ (by decide)
    · rfl

/-- One line of the only packet of a FIFO: it is counted with its first line, and taken with its last. -/
theorem dmaLine_spec (hfifo : (s.funnel p).fifo = [FifoPkt.afterLines k i]) (hroute : s.routeOf p (FifoPkt.afterLines k i) = 1) :
    let t := dmaLine p s
    (t.funnel p).fifo = [afterLine k i].filter (fun e => !e.done) ∧
    (t.funnel p).writeOff = ((s.funnel p).writeOff + 64) % s.ringSize p ∧
    t.host.mem = Memory.writeBytes s.host.mem (s.ringBase p + (s.funnel p).writeOff) (dwordBytes (line512 (lineWords k i))) ∧
    t.counter (partCtr p 14) = (if i = 0 then min (s.counter (partCtr p 14) + 1) (counterMax (partCtr p 14))
      else s.counter (partCtr p 14)) ∧
    SameBut [.host, .funnels, .counters] s t := by
  have hread : readFifo s p 1 8 [FifoPkt.afterLines k i] = (lineWords k i, [afterLine k i]) :=
    readFifo_single hroute (by decide)
  obtain ⟨hf, hw, hc, hsame⟩ := putFifo_single (p := p) (e' := afterLine k i) hfifo (Nat.one_ne_zero)
  let s1 := putFifo p [afterLine k i] s
  let s2 := s1.hostWrite (s.ringBase p + (s.funnel p).writeOff) (dwordBytes (line512 (lineWords k i)))
  have h1 : SameBut [.host, .funnels, .counters] s s2 := by
    refine (SameBut.mono hsame (by simp)).trans (u := s2) ?_
    intro q hq; cases q <;> first | rfl | simp at hq
  have ht : dmaLine p s = s2.modFunnel p (fun f => { f with writeOff := ((s.funnel p).writeOff + 64) % s.ringSize p }) := by
    unfold dmaLine readLine
    dsimp only
    rw [hfifo, hread]
  rw [ht]
  refine ⟨?_, ?_, ?_, ?_, h1.trans ((modFunnel_same _ _ s2).mono (by simp))⟩
  · rw [funnel_modFunnel, if_pos rfl]; exact hf
  · rw [funnel_modFunnel, if_pos rfl]
  · show Memory.writeBytes s1.host.mem _ _ = _
    rw [SameBut.host hsame (by simp)]
  · refine (SameBut.counter (modFunnel_same _ _ s2) (by simp) _).trans (hc.trans ?_)
    by_cases hi : i = 0 <;> simp [FifoPkt.afterLines, hi]

/-! ## A burst of one packet -/

theorem Bursting.ringBase (h : Bursting p k w i s0 s) : s.ringBase p = s0.ringBase p := by
  unfold State.ringBase State.reg
  rw [SameBut.pre h.same (by simp)]

theorem Bursting.ringSize (h : Bursting p k w i s0 s) : s.ringSize p = s0.ringSize p := by
  unfold State.ringSize
  rw [h.same.regf (by simp)]

theorem Bursting.route (h : Bursting p k w i s0 s) (h0 : s0.fnCtrl p 0 1 = 1) (h2 : s0.fnCtrl p 2 1 = 0) (hk : k.kind ≤ 4) :
    s.routeOf p (FifoPkt.afterLines k i) = 1 := by
  refine routeOf_afterLines (fun _ => ?_) hk
  unfold State.fnCtrl at *
  rw [h.same.regf (by simp), h.same.regf (by simp)]
  exact ⟨h0, h2⟩

/-- What the lines before line i have written, with that line. -/
theorem take_lineWords (k : Pkt) (i : Nat) :
    (k.dwords false).take (8 * i) ++ lineWords k i = (k.dwords false).take (8 * (i + 1)) :=
  (List.take_add ..).symm

theorem lineWords_length (k : Pkt) (i : Nat) : (lineWords k i).length = min 8 (k.words - 8 * i) := by
  simp [lineWords, Pkt.dwords_length]

/-- What a line of a burst leaves, whichever it is: its words and then padding follow those of the lines before. -/
theorem Bursting.line (h : Bursting p k w i s0 s) (h0 : s0.fnCtrl p 0 1 = 1) (h2 : s0.fnCtrl p 2 1 = 0) (hk : k.kind ≤ 4)
    (hi : 8 * i < k.words) : let t := dmaLine p s
    (t.funnel p).fifo = [afterLine k i].filter (fun e => !e.done) ∧
    (t.funnel p).writeOff = (w + 64 * (i + 1)) % s0.ringSize p ∧
    (∃ pad, pad.length = 64 - 8 * (lineWords k i).length ∧ t.host.mem = Memory.writeBytes s0.host.mem (s0.ringBase p + w)
      (dwordBytes ((k.dwords false).take (8 * (i + 1))) ++ pad)) ∧
    t.counter (partCtr p 14) = min (s0.counter (partCtr p 14) + 1) (counterMax (partCtr p 14)) ∧
    SameBut [.host, .funnels, .counters] s0 t := by
  obtain ⟨hf, hw, hm, hc, hsame⟩ := dmaLine_spec h.fifo (h.route h0 h2 hk)
  have hlen := lineWords_length k i
  have hne : (lineWords k i).isEmpty = false := by
    rw [List.isEmpty_eq_false_iff, ← List.length_pos_iff]
    omega
  refine ⟨hf, ?_, ⟨dwordBytes (List.replicate (8 - (lineWords k i).length) (padWord (8 * (lineWords k i).length))), ?_, ?_⟩,
    ?_, h.same.trans hsame⟩
  · rw [hw, h.writeOff, h.ringSize, Nat.add_assoc]
    rfl
  · rw [dwordBytes_length, List.length_replicate]
    omega
  · have hbefore : (dwordBytes ((k.dwords false).take (8 * i))).length = 64 * i := by
      rw [dwordBytes_length, List.length_take, Pkt.dwords_length]
      omega
    rw [hm, h.mem, h.ringBase, h.writeOff, ← take_lineWords, dwordBytes_append, List.append_assoc, writeBytes_append, hbefore,
      Nat.add_assoc, ← dwordBytes_append]
    simp [line512, hne]
  · rw [hc, h.counter]
    split <;> rfl

/-- Before the last line of its packet a burst goes on. -/
theorem Bursting.next (h : Bursting p k w i s0 s) (h0 : s0.fnCtrl p 0 1 = 1) (h2 : s0.fnCtrl p 2 1 = 0) (hk : k.kind ≤ 4)
    (hi : 8 * (i + 1) < k.words) (hw : w + 64 * (i + 1) < s0.ringSize p) : Bursting p k w (i + 1) s0 (dmaLine p s) := by
  obtain ⟨hf, hoff, ⟨pad, hpad, hm⟩, hc, hsame⟩ := h.line h0 h2 hk (by omega)
  have hlen : (lineWords k i).length = 8 := by rw [lineWords_length]; omega
  have hnil : pad = [] := List.eq_nil_of_length_eq_zero (by omega)
  refine ⟨hf.trans ?_, hoff.trans (Nat.mod_eq_of_lt hw), by rw [hm, hnil, List.append_nil], hc.trans ?_, hsame⟩
  · have hgo : (afterLine k i).done = false := by
      have hon : onRoute 1 1 = true := by decide
      simp [FifoPkt.done, afterLine, hlen, hon]
      omega
    simp [hgo, FifoPkt.afterLines]
    simp [afterLine, hlen, Nat.mul_add]
  · simp

/-- All lines of a packet but the last. -/
theorem bursting_each (h0 : s0.fnCtrl p 0 1 = 1) (h2 : s0.fnCtrl p 2 1 = 0) (hk : k.kind ≤ 4) (n : Nat)
    (hfifo : (s0.funnel p).fifo = [FifoPkt.mk k 0 0 0]) (hw : (s0.funnel p).writeOff = w)
    (hn : 8 * n < k.words) (hroom : w + 64 * n < s0.ringSize p) :
    Bursting p k w n s0 (each (upTo n) (fun _ t => dmaLine p t) s0) := by
  induction n with
  | zero => exact ⟨hfifo, hw, rfl, rfl, .refl _ s0⟩
  | succ n ih =>
    rw [upTo, List.range_succ, each_append]
    exact (ih (by omega) (by omega)).next h0 h2 hk hn hroom

/-- The last line of a packet empties the FIFO. -/
theorem bursting_last {lines : Nat} (h0 : s0.fnCtrl p 0 1 = 1) (h2 : s0.fnCtrl p 2 1 = 0) (hk : k.kind ≤ 4)
    (hfifo : (s0.funnel p).fifo = [FifoPkt.mk k 0 0 0]) (hw : (s0.funnel p).writeOff = w) (hlines : lines = (k.words + 7) / 8)
    (hroom : w + 64 * lines ≤ s0.ringSize p) : let t := each (upTo lines) (fun _ t => dmaLine p t) s0
    (t.funnel p).fifo = [] ∧ (t.funnel p).writeOff = (w + 64 * lines) % s0.ringSize p ∧
    (∃ pad, 8 * k.words + pad.length = 64 * lines ∧ t.host.mem =
      Memory.writeBytes s0.host.mem (s0.ringBase p + w) (dwordBytes (k.dwords false) ++ pad)) ∧
    t.counter (partCtr p 14) = min (s0.counter (partCtr p 14) + 1) (counterMax (partCtr p 14)) ∧
    SameBut [.host, .funnels, .counters] s0 t := by
  have hwords : 8 ≤ k.words := Nat.le_add_right 8 _
  obtain ⟨n, rfl⟩ : ∃ n, lines = n + 1 := ⟨lines - 1, by omega⟩
  obtain ⟨hf, hoff, ⟨pad, hpad, hm⟩, hc, hsame⟩ :=
    (bursting_each (w := w) h0 h2 hk n hfifo hw (by omega) (by omega)).line h0 h2 hk (by omega)
  have hlen := lineWords_length k n
  rw [upTo, List.range_succ, each_append]
  refine ⟨hf.trans ?_, hoff, ⟨pad, by omega, hm.trans ?_⟩, hc, hsame⟩
  · have hdone : (afterLine k n).done = true := by
      have hon : onRoute 1 1 = true := by decide
      have hoff2 : onRoute 1 2 = false := by decide
      simp [FifoPkt.done, afterLine, hon, hoff2]
      exact decide_eq_true (by omega)
    simp [hdone]
  · rw [List.take_of_length_le (by rw [Pkt.dwords_length]; omega)]

/-- With one line of the ring kept free an empty ring of 4,096 bytes takes 63. -/
theorem freeRing_empty (h : w < 4096) : freeRing 4096 w w = 63 := by
  unfold freeRing
  rw [Nat.mod_eq_of_lt h]
  omega

/-- A burst of one packet: the ring holds it, and its write offset follows. -/
theorem dmaHost_spec {lines widx : Nat} (h0 : s.fnCtrl p 0 1 = 1) (h1 : s.fnCtrl p 1 1 = 0) (h2 : s.fnCtrl p 2 1 = 0)
    (hm : s.master (s.partFn p) = true) (hon : s.partOn p = true) (hk : k.kind ≤ 4)
    (hfifo : (s.funnel p).fifo = [FifoPkt.mk k 0 0 0]) (hwf : Memory.wf s.host.mem = true)
    (hw : (s.funnel p).writeOff = w) (hlines : lines = (k.words + 7) / 8) (hsize : s.ringSize p = 4096)
    (hread : (s.reg (partOff p 0x418)).toNat = w) (hroom : w + 64 * lines ≤ 4096) (hfree : lines ≤ 63)
    (hwidx : widx = (s.reg (partOff p 0x410)).toNat + 2 ^ 32 * (s.reg (partOff p 0x414)).toNat)
    (hapart : widx + 8 ≤ s.ringBase p ∨ s.ringBase p + 4096 ≤ widx) : let t := dmaHost p s
    (t.funnel p).fifo = [] ∧ (t.funnel p).writeOff = (w + 64 * lines) % 4096 ∧
    t.hostRead widx 8 = leBytes 8 ((w + 64 * lines) % 4096) ∧
    t.hostRead (s.ringBase p + w) (8 * k.words) = dwordBytes (k.dwords false) ∧
    t.counter (partCtr p 14) = min (s.counter (partCtr p 14) + 1) (counterMax (partCtr p 14)) := by
  have hwords : 8 ≤ k.words := Nat.le_add_right 8 _
  let s1 := each (upTo lines) (fun _ t => dmaLine p t) s
  obtain ⟨hf, hoff, ⟨pad, hpad, hmem⟩, hc, -⟩ := bursting_last h0 h2 hk hfifo hw hlines (by rw [hsize]; exact hroom)
  rw [hsize] at hoff
  let s2 := s1.hostWrite widx (leBytes 8 (s1.funnel p).writeOff)
  let s3 := raiseHeld (s.partFn p) (s.fnCtrl p 16 6) (s.fnCtrl p 24 8) s2
  have h3 := raiseHeld_same (s.partFn p) (s.fnCtrl p 16 6) (s.fnCtrl p 24 8) s2
  have hwant : ceilDiv (s.waitWords p 1) 8 = lines := by
    have hbody : k.words ≤ 504 := by omega
    have hroute : s.routeOf p (FifoPkt.mk k 0 0 0) = 1 := routeOf_afterLines (i := 0) (fun _ => ⟨h0, h2⟩) hk
    unfold State.waitWords
    rw [hfifo, readFifo_single hroute (by decide), List.length_take, List.length_drop, Pkt.dwords_length, hlines, ceilDiv]
    show (min 40000 (k.words - 0) + 8 - 1) / 8 = _
    omega
  obtain ⟨c, n, ht⟩ : ∃ c n, dmaHost p s = count (partCtr p 18) n (s3.modFunnel p (fun f => { f with stallClk := c })) := by
    have hn : min (freeRing (s.ringSize p) (s.funnel p).writeOff (s.reg (partOff p 0x418)).toNat)
        (ceilDiv (s.waitWords p 1) 8) = lines := by
      rw [hwant, hsize, hw, hread, freeRing_empty (by omega)]
      omega
    unfold dmaHost
    dsimp only
    rw [if_neg (by simp [h1, hm, hon]), hn, ← hwidx]
    simp only [show lines ≠ 0 by omega, if_false]
    exact ⟨_, _, rfl⟩
  have hlast := count_same (partCtr p 18) n (s3.modFunnel p (fun f => { f with stallClk := c }))
  have hhost : (dmaHost p s).host.mem = Memory.writeBytes s1.host.mem widx (leBytes 8 ((w + 64 * lines) % 4096)) := by
    rw [ht, SameBut.host hlast (by simp)]
    show s3.host.mem = _
    rw [(raiseHeld_rest _ _ _ s2).1]
    show Memory.writeBytes s1.host.mem widx (leBytes 8 (s1.funnel p).writeOff) = _
    rw [hoff]
  have hfun : (dmaHost p s).funnel p = { s1.funnel p with stallClk := c } := by
    rw [ht, SameBut.funnel hlast (by simp), funnel_modFunnel, if_pos rfl, SameBut.funnel h3 (by simp)]
    rfl
  have hwf1 : Memory.wf s1.host.mem = true := by rw [hmem]; exact Memory.wf_writeBytes _ _ hwf
  refine ⟨by rw [hfun]; exact hf, by rw [hfun]; exact hoff, ?_, ?_, ?_⟩
  · unfold State.hostRead
    rw [hhost]
    simpa using Memory.readBytes_writeBytes widx (leBytes 8 ((w + 64 * lines) % 4096)) hwf1
  · unfold State.hostRead
    rw [hhost, readBytes_writeBytes_other _ _ _ _ hwf1 (by rw [leBytes_length]; omega), hmem]
    have hlen : 8 * k.words = (dwordBytes (k.dwords false)).length := by rw [dwordBytes_length, Pkt.dwords_length]
    rw [hlen]
    exact readBytes_writeBytes_front _ _ _ hwf
  · rw [ht, counter_count_other _ _ _ _ (by simp [partCtr_inj])]
    refine (SameBut.counter (modFunnel_same _ _ s3) (by simp) _).trans ?_
    rw [SameBut.counter h3 (by simp)]
    exact hc

/-- With its peer not up nothing goes to the network. -/
theorem toNet_down (h : s.peerUp p (s.fnCtrl p 3 6) = false) : toNet p s = s := by
  unfold toNet
  simp [h]

theorem SameBut.peerUp (h : SameBut L s t) (hn : Piece.net ∉ L) (hc : Piece.clk ∉ L) (p n : Nat) : t.peerUp p n = s.peerUp p n := by
  unfold State.peerUp State.peer State.portPaused State.port
  rw [SameBut.net h hn, h.clk hc]

theorem exec_funnelDmaBurst {part : Fin 8} (hs : Serving s) (h : s.peerUp part (s.fnCtrl part 3 6) = false) :
    exec (.funnelDmaBurst part) s = .next (dmaHost part s) := by
  have hsame : SameBut [.host, .funnels, .counters] s (dmaHost part s) := Framed.same (frame_dmaHost part (fun _ h => h))
  have hdown : (dmaHost part s).peerUp part ((dmaHost part s).fnCtrl part 3 6) = false := by
    rw [SameBut.peerUp hsame (by simp) (by simp), State.fnCtrl, hsame.regf (by simp)]
    exact h
  show execFunnelDmaBurst part s = _
  unfold execFunnelDmaBurst ifDue
  rw [show s.served = true from hs]
  exact congrArg Host.Outcome.next (toNet_down hdown)

end

/-- Settles O56: each clause is the lemma about what its command does. -/
theorem checksSettleAndRecordsLeave : Obligations.ChecksSettleAndRecordsLeave := by
  unfold Obligations.ChecksSettleAndRecordsLeave
  refine ⟨?_, ?_, ?_, ?_, ?_⟩
  · intro core tile block s x hrun hx v
    have hexec := exec_sieveBatchEnd hrun hx
    refine ⟨fun h => ?_, fun h hbad hjob hr hw => ?_, fun h hgood => ?_⟩
    · rw [hexec, if_neg (by omega)]
    · exact ⟨_, hexec.trans (by rw [if_pos h]), batchEnd_fails hx hbad hjob hr hw⟩
    · exact ⟨_, hexec.trans (by rw [if_pos h]), batchEnd_clean hx hgood⟩
  · intro core tile s b m a hrun ha hjob hgap hfaults hr hw _
    have hend := endAct_same a s
    obtain ⟨hj, hcal, hnote, hmem⟩ := scanDone_nothing (c := core) (n := tile) (b := b) m
      (show (endAct a s).crock.mirror.faults = [] by rw [hend.crock (by simp)]; exact hfaults)
    rw [SameBut.actPart hend (by simp)] at hmem
    obtain ⟨r, hrm, hk, -, hu, hc, ht, hd⟩ := hnote
    exact ⟨_, exec_blockScan hrun ha hjob hgap, hj, hcal, ⟨r, hrm, hk, hu, hc, ht, hd⟩, hmem⟩
  · intro p s o rid r hrun hout hv hp hrid hr one follows
    have hexec := exec_checksDone hrun hout hv hrid
    have hp8 : o.pkt.part < 8 := hp ▸ p.isLt
    refine ⟨fun h => ?_, fun h hgood => ?_, fun cause h hbad => ?_⟩
    · rw [hexec, settleRecord_open hrid hr h]
    · obtain ⟨hw, hc, ho⟩ := settleRecord_confirms hrid hr h hgood hp8 (hp ▸ hout)
      rw [hp] at hw hc ho
      exact ⟨_, hexec, ⟨_, hw, rfl, rfl, rfl, rfl, rfl⟩, hc, ho⟩
    · obtain ⟨⟨body, hw⟩, hc, hpins⟩ := settleRecord_retracts hrid hr h hbad hp8
      rw [hp] at hw hc
      exact ⟨_, hexec, ⟨_, hw, rfl, rfl, rfl, rfl, rfl⟩, hc, hpins⟩
  · intro p s hs f
    have hexec : exec (.funnelReserve p) s = .next (reserve p s) := by
      show execFunnelReserve p s = _
      unfold execFunnelReserve ifDue
      rw [show s.served = true from hs]
      rfl
    refine ⟨fun h => by rw [hexec, reserve_none h], fun k rest h hk => ⟨fun hfit => ?_, fun hfull hdrop => ?_, fun hfull hkeep => ?_⟩⟩
    · refine ⟨_, hexec.trans (by rw [reserve_fits h hk hfit]), ?_, fun r hr => ?_, modFunnel_same _ _ s⟩
      · rw [funnel_modFunnel, if_pos rfl]
      · rw [funnel_modFunnel, if_neg hr]
    · have hsame := modFunnel_same p (fun f => { f with waiting := rest, lost := true }) s
      refine ⟨_, hexec.trans (by rw [reserve_full h hk hfull, if_pos ((dropKind_iff _).2 hdrop)]), ?_, ?_,
        (hsame.mono (by simp)).trans ((count_same _ _ _).mono (by simp))⟩
      · rw [(count_same _ _ _).funnel (by simp), funnel_modFunnel, if_pos rfl]
      · rw [counter_count _ _ _ (by decide), SameBut.counter hsame (by simp)]
    · rw [hexec, reserve_full h hk hfull, if_neg (fun hd => hkeep ((dropKind_iff _).1 hd))]
  · intro p s k hs h0 h1 h2 hpeer hm hon hk hfifo hwf w size base widx lines hroom _ hfree hsize hread hapart
    have hfree' : lines ≤ 63 := by omega
    obtain ⟨hf, hw, hidx, hdata, hc⟩ := dmaHost_spec (w := w) (lines := lines) h0 h1 h2 hm hon hk hfifo hwf rfl rfl hsize hread
      (by omega) hfree' rfl (by rw [hsize] at hapart; exact hapart)
    refine ⟨_, exec_funnelDmaBurst hs hpeer, hf, ?_, ?_, hdata, hc⟩
    · rw [hw, hsize]
    · rw [hidx, hsize]

end Sys2Proof.Machine
end

section
/-! PROOF. A tile programmed with weights that put latched cells of a column over its budget (R135, R136): the column is retired. -/

namespace Sys2Proof.Machine

open Sys2Proof.Safety

/-! ## A machine that programs a tile with latched cells -/

/-- A compute tile's record, whose weights in rows 0 and 1 of column 0 are 7. -/
def heavyRecord : TileRecord := { core := 0, tile := 0, role := 0, pair := 255, config := [], weights := [⟨0, 7⟩, ⟨256, 7⟩], digest := [] }

/-- TILE_PROGRAM under way from lane 0. -/
def heavyCmd : Cmd := { id := 0, h := statusHdr, op := 0x101, w := [], wait := .running, takenTick := 0 }

def heavyJob : Activity := actTile 3 0 0 0 0 (some 0)

/-- A ready machine that programs core 0's tile 0, whose cells in rows 0 and 1 of column 0 are latched. -/
def heavyWeight : State :=
  { State.reset with
    power := { Power.start with startup := .none, ready := true }
    crock := { Crock.shipped with mirror := { Crock.shipped.mirror with
      stuck := [{ core := 0, tile := 0, row := 0, column := 0, cause := 0 }, { core := 0, tile := 0, row := 1, column := 0, cause := 0 }] } }
    host := { HostSide.start with configServed := true, level := [(0, 2)],
                                  lanes := [(0, { Lane.start with enable := true, replyEnable := true })] }
    pre := { Preoft.start with cmds := [heavyCmd], nextCmd := 1 }
    tiles := [(0, { Tile.empty .programming with job := some (.program heavyRecord 0 0 (some 0)) })]
    running := [heavyJob] }

def noCal : CalReading := { offsets := [], gains := [], baselines := [] }

def noRef : RefReading := { m528 := 0, m529 := 0, m530 := 0, m531 := 0, m535 := 0, temp := 0 }

/-- The replies that wait in lane 0 after a step. -/
def heldAfter : Answer → List Reply
  | .next t => (t.lane 0 0).held
  | _ => []

/-- What the statement asks of the machine holds. -/
theorem heavyWeight_programs : heavyWeight.coresRun = true ∧ heavyWeight.act? 3 0 0 0 = some heavyJob ∧
    (heavyWeight.tile 0 0).state = .programming ∧ (heavyWeight.tile 0 0).job = some (.program heavyRecord 0 0 (some 0)) ∧
    heavyWeight.ringOn heavyCmd.h = true ∧ WellFormed.kats [] = true ∧ WellFormed.cal noCal = true ∧ calFails noCal = [] ∧
    (heavyWeight.tileStuck 0 0).length ≤ 64 := by
  and_intros <;> decide +kernel

/-- Its reply is CHECK_FAIL. -/
theorem heldAfter_heavyWeight : heldAfter (exec (.programmingDone 0 0 [] [] noCal noRef) heavyWeight) =
    [replyOf heavyCmd.h heavyCmd.op stCheckFail [0] heavyWeight] := by
  decide +kernel

theorem checkFail_ne_ok :
    replyOf heavyCmd.h heavyCmd.op stCheckFail [0] heavyWeight ≠ replyOf heavyCmd.h heavyCmd.op stOk [0] heavyWeight := by
  decide +kernel

/-- Refutes O58: the premises of the PROGRAMMING_DONE clause leave out that the latched cells of every column are within its budget under the
new weights. Two latched cells of one column whose weights of magnitude 7 exceed it retire the column, and TILE_PROGRAM ends with
CHECK_FAIL, not OK (R135, R136). -/
theorem not_programmingAndMemoryErrorsAct : ¬ Obligations.ProgrammingAndMemoryErrorsAct := by
  intro hall
  obtain ⟨hrun, hact, hstate, hjob, hring, hkats, hcal, hfails, hstuck⟩ := heavyWeight_programs
  obtain ⟨-, hdone, -⟩ := hall.1 0 0 heavyWeight heavyJob hrun
  obtain ⟨t, hexec, -, -, -, -, -, -, -, -, -, -, -, -, hhost⟩ := hdone [] noCal noRef heavyRecord 0 0 0 heavyCmd hact hstate hjob rfl rfl rfl
    hring hkats hcal hfails hstuck rfl rfl rfl
  have hheld : (t.lane 0 0).held = [replyOf heavyCmd.h heavyCmd.op stOk [0] heavyWeight] := by
    rw [lane_of_host (congrArg HostSide.lanes hhost)]
    exact congrArg Lane.held (lane_modLane_same 0 0 _ heavyWeight)
  have hfail := heldAfter_heavyWeight
  rw [hexec] at hfail
  exact checkFail_ne_ok (List.singleton_inj.1 (hfail.symm.trans hheld))

end Sys2Proof.Machine
end

section
/-! PROOF. Network ports (R332, R333, R339). -/

namespace Sys2Proof.Machine

open Sys2Proof.Safety

section
variable {L : List Piece} {s t : State} {p n k : Nat}

/-! ## Records of ports and peers -/

theorem modNet_same (f : Net → Net) (s : State) : SameBut [.net] s (s.modNet f) := by
  intro q hq; cases q <;> first | rfl | simp at hq

theorem modPort_same (n : Nat) (g : Port → Port) (s : State) : SameBut [.net] s (s.modPort n g) := modNet_same _ s

theorem modPeer_same (p n : Nat) (g : Peer → Peer) (s : State) : SameBut [.net] s (s.modPeer p n g) := modNet_same _ s

theorem port_modPort (n k : Nat) (g : Port → Port) (s : State) :
    (s.modPort n g).port k = if k = n then g (s.port n) else s.port k := by
  unfold State.modPort State.port
  exact tget_tset ..

@[simp] theorem port_modPort_same (n : Nat) (g : Port → Port) (s : State) : (s.modPort n g).port n = g (s.port n) := by
  rw [port_modPort, if_pos rfl]

@[simp] theorem peer_modPort (m : Nat) (g : Port → Port) (s : State) (p n : Nat) : (s.modPort m g).peer p n = s.peer p n := rfl

@[simp] theorem peer_modPeer_same (p n : Nat) (g : Peer → Peer) (s : State) : (s.modPeer p n g).peer p n = g (s.peer p n) := by
  unfold State.modPeer State.peer
  exact (tget_tset ..).trans (if_pos rfl)

@[simp] theorem port_modPeer (p n : Nat) (g : Peer → Peer) (s : State) (k : Nat) : (s.modPeer p n g).port k = s.port k := rfl

theorem SameBut.peer (h : SameBut L s t) (hp : Piece.net ∉ L) (p n : Nat) : t.peer p n = s.peer p n := by
  unfold State.peer
  rw [SameBut.net h hp]

theorem SameBut.port (h : SameBut L s t) (hp : Piece.net ∉ L) (n : Nat) : t.port n = s.port n := by
  unfold State.port
  rw [SameBut.net h hp]

/-! ## Frames that leave -/

/-- A frame that is counted as it leaves. -/
theorem countEmit_spec (off : Nat) (o : Out) (s : State) : let t := (count off 1 s).emit o
    t.host = { s.host with out := s.host.out ++ [o] } ∧ t.counter off = min (s.counter off + 1) (counterMax off) ∧
    SameBut [.host, .counters] s t := by
  have hc := count_same off 1 s
  have he := emit_same o (count off 1 s)
  refine ⟨?_, ?_, (hc.mono (by simp)).trans (he.mono (by simp))⟩
  · show { (count off 1 s).host with out := (count off 1 s).host.out ++ [o] } = _
    rw [SameBut.host hc (by simp)]
  · rw [SameBut.counter he (by simp), counter_count _ _ _ (by decide)]

theorem portCtr_inj {q i j : Nat} : portCtr q i = portCtr q j ↔ i = j := by
  unfold portCtr
  omega

/-- What a HELLO to a peer sends. -/
theorem sendHello_eq (hk : (s.peer p n).port = k) : ∃ b,
    sendHello p n s = (count (portCtr k 0) 1 s).emit (.frame k 1 (64 * p + n) b) := by
  subst hk
  exact ⟨_, rfl⟩

theorem sendHello_spec (hk : (s.peer p n).port = k) : let t := sendHello p n s
    (∃ b, t.host = { s.host with out := s.host.out ++ [.frame k 1 (64 * p + n) b] }) ∧
    t.counter (portCtr k 0) = min (s.counter (portCtr k 0) + 1) (counterMax (portCtr k 0)) ∧ SameBut [.host, .counters] s t := by
  obtain ⟨b, hb⟩ := sendHello_eq hk
  obtain ⟨hh, hc, hsame⟩ := countEmit_spec (portCtr k 0) (.frame k 1 (64 * p + n) b) s
  rw [hb]
  exact ⟨⟨b, hh⟩, hc, hsame⟩

/-! ## Ports -/

theorem served_of_netRuns (h : s.netRuns = true) : s.served = true := by
  unfold State.netRuns at h
  simp only [Bool.and_eq_true] at h
  exact h.1.1

theorem portUp_of (h : s.netRuns = true) (hk : (s.port k).link = 2) : s.portUp k = true := by
  simp [State.portUp, h, hk]

theorem exec_portLinkUp {port : Fin 2} (h : s.netRuns = true) (hmode : bits ((s.port port).w 0) 0 2 ≠ 0)
    (hlink : (s.port port).link ≠ 2) : exec (.portLinkUp port) s = .next (each (s.nodePeers port)
      (fun e t => sendHello e.1 e.2 t) (s.modPort port (fun v => { v with link := 2 }))) := by
  show execPortLinkUp port s = _
  unfold execPortLinkUp
  exact ifDue_of (by simp [h, hmode, hlink])

/-- A port that comes up greets its one node peer. -/
theorem linkUp_greets {port : Nat} (hport : (s.peer p n).port = port) :
    let t := each [(p, n)] (fun e t => sendHello e.1 e.2 t) (s.modPort port (fun v => { v with link := 2 }))
    t.port port = { s.port port with link := 2 } ∧
    (∃ b, t.host = { s.host with out := s.host.out ++ [.frame port 1 (64 * p + n) b] }) ∧
    t.counter (portCtr port 0) = min (s.counter (portCtr port 0) + 1) (counterMax (portCtr port 0)) ∧
    t.net.peers = s.net.peers ∧ SameBut [.net, .host, .counters] s t := by
  let s1 := s.modPort port (fun v => { v with link := 2 })
  let t1 := sendHello p n s1
  have h1 := modPort_same port (fun v => { v with link := 2 }) s
  obtain ⟨hh, hc, hsame⟩ := sendHello_spec (s := s1) (p := p) (n := n) hport
  refine ⟨?_, hh, ?_, ?_, (h1.mono (by simp)).trans (SameBut.mono hsame (by simp))⟩
  · exact (SameBut.port hsame (by simp) port).trans (port_modPort_same port _ s)
  · exact hc.trans (by rw [SameBut.counter h1 (by simp)])
  · have hnet : t1.net = s1.net := SameBut.net hsame (by simp)
    show t1.net.peers = s1.net.peers
    rw [hnet]

theorem exec_portLinkDown {port : Fin 2} (h : s.netRuns = true) :
    exec (.portLinkDown port) s = .next (s.modPort port (fun v => { v with link := 0 })) := by
  show execPortLinkDown port s = _
  exact ifDue_of (served_of_netRuns h)

/-- The ports that are up, where only one is. -/
theorem up_ports {port : Fin 2} (hup : s.portUp port = true) (hother : ∀ k, k < 2 → k ≠ port.val → (s.port k).link ≠ 2) :
    (upTo 2).filter s.portUp = [port.val] := by
  have hdown (k : Nat) (hk : k < 2) (hne : k ≠ port.val) : s.portUp k = false := by
    simp [State.portUp, hother k hk hne]
  match port with
  | 0 => simp [upTo, List.range_succ, show s.portUp 0 = true from hup, hdown 1 (by decide) (by decide)]
  | 1 => simp [upTo, List.range_succ, show s.portUp 1 = true from hup, hdown 0 (by decide) (by decide)]

theorem exec_helloTimer {port : Fin 2} (h : s.netRuns = true) (hup : s.portUp port = true)
    (hother : ∀ k, k < 2 → k ≠ port.val → (s.port k).link ≠ 2) (hpeers : s.nodePeers port = [(p, n)]) :
    exec .helloTimer s = .next (sendHello p n s) := by
  refine (ifDue_of h).trans ?_
  rw [up_ports hup hother]
  show Host.Outcome.next (each (s.nodePeers port.val) _ s) = _
  rw [hpeers]
  rfl

theorem exec_netRxDrop {port : Fin 2} (hup : s.portUp port = true) :
    exec (.netRxDrop port) s = .next (count (portCtr port 3) 1 s) := ifDue_of hup

theorem exec_arpRequest {port : Fin 2} {target : Word} (hup : s.portUp port = true) : exec (.arpRequest port target) s =
    .next (answerAddr port 18 (target == (s.port port).w 3) (leBytes 4 target.toNat) s) := ifDue_of hup

theorem exec_neighbourSolicitation {port : Fin 2} {target : BitVec 128} (hup : s.portUp port = true) :
    exec (.neighbourSolicitation port target) s =
    .next (answerAddr port 19 (target.toNat == (s.port port).ipv6) (leBytes 16 target.toNat) s) := ifDue_of hup

/-- A frame dropped is counted. -/
theorem dropped_spec (off : Nat) (s : State) : let t := count off 1 s
    t.counter off = min (s.counter off + 1) (counterMax off) ∧ SameBut [.counters] s t :=
  ⟨counter_count _ _ _ (by decide), count_same _ _ s⟩

theorem exec_pfc_held {port : Fin 2} {prio : Fin 8} {quanta : BitVec 16} (hup : s.portUp port = true)
    (hon : bit ((s.port port).w 0) 3 = true) (hprio : bits ((s.port port).w 0) 4 3 = prio.val) :
    exec (.pfc port prio quanta) s =
    .next (s.modPort port (fun v => { v with paused := s.clk + (512 * quanta.toNat + 399) / 400 })) := by
  show execPfc port prio quanta s = _
  unfold execPfc
  exact ifDue_of (by simp [hup, hon, hprio])

theorem exec_pfc_other {port : Fin 2} {prio : Fin 8} {quanta : BitVec 16}
    (h : bit ((s.port port).w 0) 3 = false ∨ bits ((s.port port).w 0) 4 3 ≠ prio.val) :
    exec (.pfc port prio quanta) s = .next s := by
  show execPfc port prio quanta s = _
  unfold execPfc
  refine ifDue_not ?_
  rcases h with h | h <;> simp [h]

end

/-- An address the port answers for, and one it does not. -/
theorem answerAddr_spec (port kind : Nat) (addr : Bytes) (s : State) :
    (let t := answerAddr port kind true addr s
     SameBut [.host] s t ∧ t.host = { s.host with out := s.host.out ++ [.frame port kind 0 (leBytes 6 (s.port port).mac ++ addr)] }) ∧
    (let t := answerAddr port kind false addr s
     t.counter (portCtr port 3) = min (s.counter (portCtr port 3) + 1) (counterMax (portCtr port 3)) ∧ SameBut [.counters] s t) :=
  ⟨⟨emit_same _ s, rfl⟩, dropped_spec _ s⟩

/-- A port comes up and greets its node peer, and loses its link. -/
theorem port_links (port : Fin 2) (s : State) (hruns : s.netRuns = true) :
    let v := s.port port
    let one := fun (i : Nat) (t : State) => t.counter (portCtr port i) = min (s.counter (portCtr port i) + 1) (counterMax (portCtr port i))
    let sent := fun (kind dest : Nat) (t : State) => ∃ b, t.host = { s.host with out := s.host.out ++ [.frame port kind dest b] }
    (bits (v.w 0) 0 2 ≠ 0 → v.link ≠ 2 →
      (s.nodePeers port = [] → Completes (.portLinkUp port) s (fun t => t.port port = { v with link := 2 } ∧ SameBut [.net] s t)) ∧
      (∀ p n, s.nodePeers port = [(p, n)] → (s.peer p n).port = port.val → Completes (.portLinkUp port) s (fun t =>
        t.port port = { v with link := 2 } ∧ sent 1 (64 * p + n) t ∧ one 0 t ∧ t.net.peers = s.net.peers ∧
        SameBut [.net, .host, .counters] s t))) ∧
    Completes (.portLinkDown port) s (fun t => t.port port = { v with link := 0 } ∧ (∀ k, k ≠ port.val → t.port k = s.port k) ∧
      SameBut [.net] s t) := by
  intro v one sent
  refine ⟨fun hmode hlink => ⟨fun hnone => ?_, fun p n hpeers hport => ?_⟩, ?_⟩
  · refine ⟨_, exec_portLinkUp hruns hmode hlink, ?_⟩
    rw [hnone]
    exact ⟨port_modPort_same _ _ s, modPort_same _ _ s⟩
  · refine ⟨_, exec_portLinkUp hruns hmode hlink, ?_⟩
    rw [hpeers]
    exact linkUp_greets hport
  · refine ⟨_, exec_portLinkDown hruns, port_modPort_same _ _ s, fun k hk => ?_, modPort_same _ _ s⟩
    rw [port_modPort, if_neg hk]

/-- A port that is up greets its node peer each second, drops what it does not receive, answers for its own addresses, and is held back
by PFC of its own priority. -/
theorem port_serves (port : Fin 2) (s : State) (hruns : s.netRuns = true) (hlink : (s.port port).link = 2) :
    let v := s.port port
    let one := fun (i : Nat) (t : State) => t.counter (portCtr port i) = min (s.counter (portCtr port i) + 1) (counterMax (portCtr port i))
    let sent := fun (kind dest : Nat) (t : State) => ∃ b, t.host = { s.host with out := s.host.out ++ [.frame port kind dest b] }
    (∀ p n, (∀ k, k < 2 → k ≠ port.val → (s.port k).link ≠ 2) → s.nodePeers port = [(p, n)] → (s.peer p n).port = port.val →
      Completes .helloTimer s (fun t => sent 1 (64 * p + n) t ∧ one 0 t ∧ SameBut [.host, .counters] s t)) ∧
    Completes (.netRxDrop port) s (fun t => one 3 t ∧ SameBut [.counters] s t) ∧
    (∀ target, (target = v.w 3 → Completes (.arpRequest port target) s (fun t => SameBut [.host] s t ∧ t.host =
        { s.host with out := s.host.out ++ [.frame port 18 0 (leBytes 6 v.mac ++ leBytes 4 target.toNat)] })) ∧
      (target ≠ v.w 3 → Completes (.arpRequest port target) s (fun t => one 3 t ∧ SameBut [.counters] s t))) ∧
    (∀ target : BitVec 128, (target.toNat = v.ipv6 → Completes (.neighbourSolicitation port target) s (fun t => SameBut [.host] s t ∧
        t.host = { s.host with out := s.host.out ++ [.frame port 19 0 (leBytes 6 v.mac ++ leBytes 16 target.toNat)] })) ∧
      (target.toNat ≠ v.ipv6 → Completes (.neighbourSolicitation port target) s (fun t => one 3 t ∧ SameBut [.counters] s t))) ∧
    (∀ (prio : Fin 8) (quanta : BitVec 16), bit (v.w 0) 3 = true → bits (v.w 0) 4 3 = prio.val → Completes (.pfc port prio quanta) s
      (fun t => t.port port = { v with paused := s.clk + (512 * quanta.toNat + 399) / 400 } ∧ SameBut [.net] s t)) ∧
    (∀ (prio : Fin 8) quanta, bit (v.w 0) 3 = false ∨ bits (v.w 0) 4 3 ≠ prio.val → exec (.pfc port prio quanta) s = .next s) := by
  intro v one sent
  have hup := portUp_of hruns hlink
  have harp (kind : Nat) (addr : Bytes) := answerAddr_spec port kind addr s
  refine ⟨fun p n hother hpeers hport => ⟨_, exec_helloTimer hruns hup hother hpeers, sendHello_spec hport⟩,
    ⟨_, exec_netRxDrop hup, dropped_spec _ s⟩, fun target => ⟨fun h => ?_, fun h => ?_⟩, fun target => ⟨fun h => ?_, fun h => ?_⟩,
    fun prio quanta hon hprio => ⟨_, exec_pfc_held hup hon hprio, port_modPort_same _ _ s, modPort_same _ _ s⟩,
    fun prio quanta h => exec_pfc_other h⟩
  · exact ⟨_, (exec_arpRequest hup).trans (by rw [beq_iff_eq.2 h]), (harp 18 _).1⟩
  · exact ⟨_, (exec_arpRequest hup).trans (by rw [beq_eq_false_iff_ne.2 h]), (harp 18 (leBytes 4 target.toNat)).2⟩
  · exact ⟨_, (exec_neighbourSolicitation hup).trans (by rw [beq_iff_eq.2 h]), (harp 19 _).1⟩
  · exact ⟨_, (exec_neighbourSolicitation hup).trans (by rw [beq_eq_false_iff_ne.2 h]), (harp 19 (leBytes 16 target.toNat)).2⟩

end Sys2Proof.Machine
end

section
/-! PROOF. Node messages (R336 to R339, R344). -/

namespace Sys2Proof.Machine

open Sys2Proof.Safety

section
variable {L : List Piece} {s t : State} {m : MsgHdr} {p n k : Nat} {f : State → State}

theorem SameBut.peerOf? (h : SameBut L s t) (hp : Piece.net ∉ L) (m : MsgHdr) (kind : Nat) : t.peerOf? m kind = s.peerOf? m kind := by
  unfold State.peerOf?
  rw [SameBut.net h hp]

/-! ## Whether a message is taken -/

theorem msgType_self {k : Nat} (h : m.type.toNat = k) : WellFormed.msgType m k = true := by
  simp [WellFormed.msgType, h]

/-- The machine once a message is counted as received. -/
def State.gotMessage (s : State) (m : MsgHdr) : State := count (portCtr m.port 1) 1 s

theorem gotMessage_same (m : MsgHdr) (s : State) : SameBut [.counters] s (s.gotMessage m) := count_same _ _ s

theorem gotMessage_counter (m : MsgHdr) (s : State) : (s.gotMessage m).counter (portCtr m.port 1) =
    min (s.counter (portCtr m.port 1) + 1) (counterMax (portCtr m.port 1)) := counter_count _ _ _ (by decide)

theorem receive_foreign (hmagic : m.magic ≠ 0x4B54) : receive m f s = count (portCtr m.port 3) 1 s := by
  unfold receive
  rw [if_pos hmagic]

theorem receive_ok (hmagic : m.magic = 0x4B54) (hok : msgOk m = true) : receive m f s = f (s.gotMessage m) := by
  unfold receive
  rw [if_neg (by simp [hmagic])]
  dsimp only
  rw [if_pos hok]
  rfl

theorem receive_level (hmagic : m.magic = 0x4B54) (hok : msgOk m = false) : receive m f s = levelDrop m (s.gotMessage m) := by
  unfold receive
  rw [if_neg (by simp [hmagic])]
  dsimp only
  rw [if_neg (by simp [hok])]
  rfl

/-- Level 1 has the first three types, level 2 six. -/
theorem msgOk_low (hlevel : m.level.toNat = 1 ∨ m.level.toNat = 2) (htype : 1 ≤ m.type.toNat ∧ m.type.toNat ≤ 3) : msgOk m = true := by
  unfold msgOk
  obtain ⟨h1, h3⟩ := htype
  rcases hlevel with h | h <;> simp [h, h1, h3]
  omega

theorem msgOk_high (hlevel : m.level.toNat = 2) (htype : 1 ≤ m.type.toNat ∧ m.type.toNat ≤ 6) : msgOk m = true := by
  unfold msgOk
  obtain ⟨h1, h6⟩ := htype
  simp [hlevel, h1, h6]

theorem msgOk_unknown (h1 : m.level.toNat ≠ 1) (h2 : m.level.toNat ≠ 2) : msgOk m = false := by
  simp [msgOk, h1, h2]

/-- A message of a level the device does not know, from no peer: it is counted and answered with HELLO. -/
theorem levelDrop_stranger (hpeer : s.peerOf? m 1 = none) : let t := levelDrop m (s.gotMessage m)
    t.counter (portCtr m.port 4) = min (s.counter (portCtr m.port 4) + 1) (counterMax (portCtr m.port 4)) ∧
    (∃ b, t.host = { s.host with out := s.host.out ++ [.frame m.port 1 (65536 + m.srcNode.toNat) b] }) ∧
    SameBut [.host, .counters] s t := by
  let s1 := s.gotMessage m
  let s2 := count (portCtr m.port 4) 1 s1
  have h1 := gotMessage_same m s
  have h2 : SameBut [.counters] s s2 := h1.trans (count_same _ _ s1)
  have ht : levelDrop m s1 = answerHello m.port m.srcNode.toNat s2 := by
    unfold levelDrop
    dsimp only
    rw [show s1.peerOf? m 1 = none from (SameBut.peerOf? h1 (by simp) m 1).trans hpeer]
  obtain ⟨hh, -, hsame⟩ := countEmit_spec (portCtr m.port 0) (.frame m.port 1 (65536 + m.srcNode.toNat)
    (message (s2.port m.port) 1 1 0 0 0 (s2.helloBytes m.port))) s2
  rw [ht]
  refine ⟨?_, ⟨_, hh.trans (by rw [SameBut.host h2 (by simp)])⟩, (h2.mono (by simp)).trans hsame⟩
  refine (SameBut.counter (emit_same _ _) (by simp) _).trans ?_
  rw [counter_count_other _ _ _ _ (by simp [portCtr_inj]), counter_count _ _ _ (by decide),
    show s1.counter (portCtr m.port 4) = _ from counter_count_other _ _ _ _ (by simp [portCtr_inj])]

/-! ## HELLO, RECORD, ACK, RING_CREDIT -/

/-- An acknowledgement leaves from the peer's port. -/
theorem sendAck_spec (hk : (s.peer p n).port = k) : let t := sendAck p n s
    (∃ b, t.host = { s.host with out := s.host.out ++ [.frame k 3 (64 * p + n) b] }) ∧
    (∀ i, i ≠ 0 → t.counter (portCtr k i) = s.counter (portCtr k i)) ∧ SameBut [.host, .counters] s t := by
  subst hk
  obtain ⟨hh, -, hsame⟩ := countEmit_spec (portCtr (s.peer p n).port 0) (.frame (s.peer p n).port 3 (64 * p + n)
    (message (s.port (s.peer p n).port) (s.peer p n).level 3 (s.peer p n).seqOut (s.peer p n).seqIn p [])) s
  refine ⟨⟨_, hh⟩, fun i hi => ?_, hsame⟩
  refine (SameBut.counter (emit_same _ _) (by simp) _).trans ?_
  exact counter_count_other _ _ _ _ (by simp [portCtr_inj, hi])

/-- The messages of a peer that an acknowledgement leaves. -/
def Peer.acked (v : Peer) (ack : Nat) : Peer := { v with unacked := v.unacked.filter (fun u => decide (ack < u.seq)) }

/-- HELLO settles the level and frees what it acknowledges. -/
theorem takeHello_spec {highest : Nat} (hpeer : s.peerOf? m 1 = some (p, n)) (hup : (s.peer p n).down = false) :
    let t := takeHello m highest (s.gotMessage m)
    t.counter (portCtr m.port 1) = min (s.counter (portCtr m.port 1) + 1) (counterMax (portCtr m.port 1)) ∧
    t.peer p n = { (s.peer p n).acked m.ack.toNat with level := clampN highest 1 2 } ∧ SameBut [.net, .counters] s t := by
  let s1 := s.gotMessage m
  let s2 := s1.modPeer p n (fun v => { v with level := clampN highest 1 2 })
  let s3 := s2.modPeer p n (fun v => v.acked m.ack.toNat)
  have h1 := gotMessage_same m s
  have h3 : SameBut [.net] s1 s3 := (modPeer_same p n _ s1).trans (modPeer_same p n _ s2)
  have hp3 : s3.peer p n = { (s.peer p n).acked m.ack.toNat with level := clampN highest 1 2 } := by
    rw [show s3.peer p n = _ from peer_modPeer_same p n _ s2, show s2.peer p n = _ from peer_modPeer_same p n _ s1,
      SameBut.peer h1 (by simp)]
    rfl
  have ht : takeHello m highest s1 = s3 := by
    have hp1 : s1.peerOf? m 1 = some (p, n) := (SameBut.peerOf? h1 (by simp) m 1).trans hpeer
    have hdown : (s3.peer p n).down = false := by rw [hp3]; exact hup
    unfold takeHello
    rw [hp1]
    show bringBack p n s3 = s3
    unfold bringBack
    rw [if_neg (by simp [hdown])]
  rw [ht]
  exact ⟨(SameBut.counter h3 (by simp) _).trans (gotMessage_counter m s), hp3, (h1.mono (by simp)).trans (h3.mono (by simp))⟩

/-- ACK frees what it covers. -/
theorem takeAck_spec (p n ack : Nat) (m : MsgHdr) (s : State) : let t := takeAck p n ack (s.gotMessage m)
    t.counter (portCtr m.port 1) = min (s.counter (portCtr m.port 1) + 1) (counterMax (portCtr m.port 1)) ∧
    t.peer p n = (s.peer p n).acked ack ∧ SameBut [.net, .counters] s t := by
  have h1 := gotMessage_same m s
  have h2 := modPeer_same p n (fun v => v.acked ack) (s.gotMessage m)
  refine ⟨(SameBut.counter h2 (by simp) _).trans (gotMessage_counter m s), ?_, (h1.mono (by simp)).trans (h2.mono (by simp))⟩
  rw [show (takeAck p n ack (s.gotMessage m)).peer p n = _ from peer_modPeer_same p n _ _, SameBut.peer h1 (by simp)]
  rfl

/-- The words a peer's inbox keeps once a RECORD's have come. -/
def Peer.inboxWith (v : Peer) (data : Bytes) : List DWord :=
  dropWhole (v.inbox ++ toDwords (data.length / 8) data).length (v.inbox ++ toDwords (data.length / 8) data)

/-- A peer once a RECORD has come: it is taken where it is the next. -/
def Peer.recorded (v : Peer) (m : MsgHdr) (data : Bytes) : Peer :=
  if m.seq.toNat = v.seqIn + 1 then { v.acked m.ack.toNat with seqIn := m.seq.toNat, inbox := v.inboxWith data }
  else v.acked m.ack.toNat

theorem Peer.recorded_rest (v : Peer) (m : MsgHdr) (data : Bytes) : (v.recorded m data).port = v.port ∧
    (v.recorded m data).unacked = (v.acked m.ack.toNat).unacked ∧ (v.recorded m data).level = v.level ∧
    (v.recorded m data).seqIn = (if m.seq.toNat = v.seqIn + 1 then m.seq.toNat else v.seqIn) ∧
    (m.seq.toNat ≠ v.seqIn + 1 → (v.recorded m data).inbox = v.inbox) := by
  unfold Peer.recorded
  split
  next h => exact ⟨rfl, rfl, rfl, rfl, fun hne => absurd h hne⟩
  · exact ⟨rfl, rfl, rfl, rfl, fun _ => rfl⟩

/-- A RECORD in order is taken, and every one is acknowledged. -/
theorem takeRecord_spec (data : Bytes) (hpeer : s.peerOf? m 1 = some (p, n)) (hport : (s.peer p n).port = m.port.val) :
    let t := takeRecord_ m data (s.gotMessage m)
    t.counter (portCtr m.port 1) = min (s.counter (portCtr m.port 1) + 1) (counterMax (portCtr m.port 1)) ∧
    (∃ b, t.host = { s.host with out := s.host.out ++ [.frame m.port 3 (64 * p + n) b] }) ∧
    t.peer p n = (s.peer p n).recorded m data ∧ SameBut [.net, .host, .counters] s t := by
  let s1 := s.gotMessage m
  let s2 := takeAck p n m.ack.toNat s1
  have h1 := gotMessage_same m s
  have hp1 : s1.peer p n = s.peer p n := SameBut.peer h1 (by simp) p n
  have h2 : SameBut [.net] s1 s2 := modPeer_same p n _ s1
  obtain ⟨hc2, hp2, -⟩ := takeAck_spec p n m.ack.toNat m s
  have hone : s1.peerOf? m 1 = some (p, n) := (SameBut.peerOf? h1 (by simp) m 1).trans hpeer
  obtain ⟨s3, hrec, hp3, h3⟩ : ∃ s3, takeRecord_ m data s1 = sendAck p n s3 ∧
      s3.peer p n = (s.peer p n).recorded m data ∧ SameBut [.net] s2 s3 := by
    unfold takeRecord_ Peer.recorded
    rw [hone]
    dsimp only
    rw [hp1]
    split
    · refine ⟨s2.modPeer p n (fun v => { v with seqIn := m.seq.toNat, inbox := v.inboxWith data }), rfl, ?_, modPeer_same _ _ _ s2⟩
      refine (peer_modPeer_same p n _ s2).trans ?_
      rw [show s2.peer p n = _ from hp2]
      rfl
    · exact ⟨s2, rfl, hp2, .refl _ s2⟩
  have h13 : SameBut [.net] s1 s3 := h2.trans h3
  obtain ⟨⟨b, hh⟩, hc, hsame⟩ := sendAck_spec (s := s3) (p := p) (n := n) (k := m.port)
    (by rw [hp3, (Peer.recorded_rest _ m data).1]; exact hport)
  rw [show takeRecord_ m data (s.gotMessage m) = _ from hrec]
  refine ⟨?_, ⟨b, hh.trans ?_⟩, (SameBut.peer hsame (by simp) p n).trans hp3, ?_⟩
  · rw [hc 1 (by decide), SameBut.counter h13 (by simp)]
    exact gotMessage_counter m s
  · rw [SameBut.host h13 (by simp), SameBut.host h1 (by simp)]
  · exact ((h1.mono (by simp)).trans (h13.mono (by simp))).trans (SameBut.mono hsame (by simp))

/-- A RoCEv2 peer once RING_CREDIT has come: one that is newer than the last sets the read offset. -/
def Peer.credited (v : Peer) (m : MsgHdr) (offset : Nat) : Peer :=
  if m.seq.toNat ≤ v.seqIn then v
  else { v with seqIn := m.seq.toNat, readOff := offset % 2 ^ clampN (bits (v.w 12) 0 5) 12 30 / 64 * 64 }

/-- RING_CREDIT is acknowledged, and sets the read offset where it is new. -/
theorem takeCredit_spec (offset : Nat) (hpeer : s.peerOf? m 2 = some (p, n)) (hport : (s.peer p n).port = m.port.val) :
    let t := takeCredit m offset (s.gotMessage m)
    t.counter (portCtr m.port 1) = min (s.counter (portCtr m.port 1) + 1) (counterMax (portCtr m.port 1)) ∧
    (∃ b, t.host = { s.host with out := s.host.out ++ [.frame m.port 3 (64 * p + n) b] }) ∧
    t.peer p n = (s.peer p n).credited m offset ∧ SameBut [.net, .host, .counters] s t := by
  let s1 := s.gotMessage m
  have h1 := gotMessage_same m s
  have hp1 : s1.peer p n = s.peer p n := SameBut.peer h1 (by simp) p n
  have htwo : s1.peerOf? m 2 = some (p, n) := (SameBut.peerOf? h1 (by simp) m 2).trans hpeer
  obtain ⟨s3, hrec, hp3, h3⟩ : ∃ s3, takeCredit m offset s1 = sendAck p n s3 ∧
      s3.peer p n = (s.peer p n).credited m offset ∧ SameBut [.net] s1 s3 := by
    unfold takeCredit Peer.credited
    rw [htwo]
    dsimp only
    rw [hp1]
    split
    · exact ⟨s1, rfl, hp1, .refl _ s1⟩
    · refine ⟨_, rfl, ?_, modPeer_same _ _ _ s1⟩
      rw [peer_modPeer_same, hp1]
  have hport3 : (s3.peer p n).port = m.port.val := by
    rw [hp3, ← hport, Peer.credited]
    split <;> rfl
  obtain ⟨⟨b, hh⟩, hc, hsame⟩ := sendAck_spec hport3
  rw [show takeCredit m offset (s.gotMessage m) = _ from hrec]
  refine ⟨?_, ⟨b, hh.trans ?_⟩, (SameBut.peer hsame (by simp) p n).trans hp3, ?_⟩
  · rw [hc 1 (by decide), SameBut.counter h3 (by simp)]
    exact gotMessage_counter m s
  · rw [SameBut.host h3 (by simp), SameBut.host h1 (by simp)]
  · exact ((h1.mono (by simp)).trans (h3.mono (by simp))).trans (SameBut.mono hsame (by simp))

/-! ## The commands -/

/-- A message of its form on a port that is up is looked at. -/
theorem checked_up {wf : Bool} (hwf : wf = true) (hup : s.portUp k = true) :
    checked wf (fun s => if s.portUp k then f s else s) s = .next (f s) := by
  unfold checked
  rw [if_pos hwf]
  exact congrArg _ (if_pos hup)

theorem exec_hello {levels highest : BitVec 8} {fw : Word} {fmt : BitVec 16} {serial : BitVec 64} (htype : m.type = 1)
    (hup : s.portUp m.port = true) :
    exec (.hello m levels highest fw fmt serial) s = .next (receive m (takeHello m highest.toNat) s) := by
  show execHello m levels highest fw fmt serial s = _
  exact checked_up (msgType_self (by rw [htype]; rfl)) hup

theorem exec_record {data : Bytes} (htype : m.type = 2) (hform : WellFormed.message data = true) (hup : s.portUp m.port = true) :
    exec (.record m data) s = .next (receive m (takeRecord_ m data) s) := by
  show execRecord m data s = _
  exact checked_up (by rw [hform, msgType_self (by rw [htype]; rfl)]; rfl) hup

theorem exec_ack (htype : m.type = 3) (hup : s.portUp m.port = true) (hmagic : m.magic = 0x4B54) (hok : msgOk m = true)
    (hpeer : s.peerOf? m 1 = some (p, n)) : exec (.ack m) s = .next (takeAck p n m.ack.toNat (s.gotMessage m)) := by
  show execAck m s = _
  refine (checked_up (msgType_self (by rw [htype]; rfl)) hup).trans ?_
  rw [receive_ok hmagic hok,
    show (s.gotMessage m).peerOf? m 1 = some (p, n) from (SameBut.peerOf? (gotMessage_same m s) (by simp) m 1).trans hpeer]

theorem exec_ringCredit {offset : BitVec 64} (htype : m.type = 4) (hup : s.portUp m.port = true) :
    exec (.ringCredit m offset) s = .next (receive m (takeCredit m offset.toNat) s) := by
  show execRingCredit m offset s = _
  exact checked_up (msgType_self (by rw [htype]; rfl)) hup

/-- TRACE_READ is answered where the port serves management. -/
theorem exec_traceRead {offset len : Word} (htype : m.type = 5) (hup : s.portUp m.port = true) (hmagic : m.magic = 0x4B54)
    (hok : msgOk m = true) (hmgmt : bit ((s.port m.port).w 9) 11 = true) : ∃ b,
    exec (.traceRead m offset len) s = .next (s.emit (.frame m.port 6 (65536 + m.srcNode.toNat) b)) := by
  show ∃ b, execTraceRead m offset len s = _
  unfold execTraceRead checked
  dsimp only
  rw [if_pos (msgType_self (by rw [htype]; rfl)), if_pos (by simp [hup, hmagic, hmgmt]), if_pos hok]
  exact ⟨_, rfl⟩

theorem exec_traceRead_off {offset len : Word} (htype : m.type = 5) (hmgmt : bit ((s.port m.port).w 9) 11 = false) :
    exec (.traceRead m offset len) s = .next s := by
  show execTraceRead m offset len s = _
  unfold execTraceRead checked
  dsimp only
  rw [if_pos (msgType_self (by rw [htype]; rfl)), if_neg (by simp [hmgmt])]

end

end Sys2Proof.Machine
end

section
/-! PROOF. Resends, RoCEv2 and PTP (R338, R341 to R343). -/

namespace Sys2Proof.Machine

open Sys2Proof.Safety

section
variable {s t : State} {part : Fin 8} {peer : Fin 64}

/-! ## Going back and resending -/

/-- A peer that is down is reported to its partition. -/
theorem peerDown_spec (p n : Nat) (s : State) : let t := peerDown p n s
    t.peer p n = { s.peer p n with down := true } ∧ SameBut [.net, .funnels, .trace] s t := by
  let s1 := s.modPeer p n (fun v => { v with down := true })
  have h1 := modPeer_same p n (fun v => { v with down := true }) s
  have h2 := raisePart_same p noUnit (ev 0x16 1 noFault (s.peer p n).port n 0 0) s1
  exact ⟨(SameBut.peer h2 (by simp) p n).trans (peer_modPeer_same p n _ s), (h1.mono (by simp)).trans (h2.mono (by simp))⟩

/-- Frames that leave one after another. -/
theorem each_emit {α : Type} (l : List α) (g : α → Out) (s : State) :
    each l (fun e t => t.emit (g e)) s = { s with host := { s.host with out := s.host.out ++ l.map g } } := by
  induction l generalizing s with
  | nil => simp [each]
  | cons x l ih =>
    show each l _ (s.emit (g x)) = _
    rw [ih]
    simp [State.emit]

/-- The frames of the packets a RoCEv2 peer has not acknowledged. -/
def resent (v : Peer) (p n : Nat) : List Out :=
  v.sent.map (fun e => .frame v.port (e.2.headD 0).toNat (64 * p + n) (e.2.drop 1))

/-- Going back sends every packet again, counts it, and tries at most seven times in a row. -/
theorem goBack_again {p n : Nat} (hsent : (s.peer p n).sent ≠ []) (hmore : (s.peer p n).retries < 7) : let t := goBack p n s
    t.peer p n = { s.peer p n with retries := (s.peer p n).retries + 1 } ∧
    t.host = { s.host with out := s.host.out ++ resent (s.peer p n) p n } ∧
    t.counter (portCtr (s.peer p n).port 5) =
      min (s.counter (portCtr (s.peer p n).port 5) + 1) (counterMax (portCtr (s.peer p n).port 5)) ∧
    SameBut [.net, .host, .counters] s t := by
  let s1 := s.modPeer p n (fun v => { v with retries := v.retries + 1 })
  let s2 := count (portCtr (s.peer p n).port 5) 1 s1
  have h1 : SameBut [.net] s s1 := modPeer_same p n _ s
  have h2 : SameBut [.counters] s1 s2 := count_same _ _ s1
  have ht : goBack p n s = { s2 with host := { s2.host with out := s2.host.out ++ resent (s.peer p n) p n } } := by
    unfold goBack
    dsimp only
    rw [if_neg (by simpa using hsent), if_neg (by omega)]
    exact each_emit _ _ s2
  have h3 : SameBut [.host] s2 (goBack p n s) := by
    rw [ht]
    intro q hq; cases q <;> first | rfl | simp at hq
  refine ⟨?_, ?_, ?_, ((h1.mono (by simp)).trans (SameBut.mono h2 (by simp))).trans (SameBut.mono h3 (by simp))⟩
  · rw [SameBut.peer h3 (by simp), SameBut.peer h2 (by simp)]
    exact peer_modPeer_same p n _ s
  · rw [ht]
    dsimp only
    rw [SameBut.host h2 (by simp), SameBut.host h1 (by simp)]
  · rw [SameBut.counter h3 (by simp), counter_count _ _ _ (by decide), SameBut.counter h1 (by simp)]

theorem goBack_nothing {p n : Nat} (hsent : (s.peer p n).sent = []) : goBack p n s = s := by
  unfold goBack
  dsimp only
  rw [if_pos (by simp [hsent])]

theorem goBack_gives_up {p n : Nat} (hsent : (s.peer p n).sent ≠ []) (hmore : 7 ≤ (s.peer p n).retries) :
    goBack p n s = peerDown p n s := by
  unfold goBack
  dsimp only
  rw [if_neg (by simpa using hsent), if_pos hmore]

/-! ## Node peers -/

theorem exec_recordResend (hup : s.portUp (s.peer part peer).port = true) (hkind : (s.peer part peer).kind = 1)
    (hdown : (s.peer part peer).down = false) : exec (.recordResend part peer) s = .next (recordResend part peer s) := by
  show execRecordResend part peer s = _
  unfold execRecordResend
  exact ifDue_of (by simp [hup, hkind, hdown])

/-- The oldest message unacknowledged is sent again. -/
theorem recordResend_again {p n : Nat} {u : Unacked} {rest : List Unacked} (hun : (s.peer p n).unacked = u :: rest)
    (hmore : u.resends < 8) : let t := recordResend p n s
    t.counter (portCtr (s.peer p n).port 2) =
      min (s.counter (portCtr (s.peer p n).port 2) + 1) (counterMax (portCtr (s.peer p n).port 2)) ∧
    t.peer p n = { s.peer p n with unacked := { u with resends := u.resends + 1 } :: rest } ∧
    t.host = { s.host with out := s.host.out ++ [.frame (s.peer p n).port 2 (64 * p + n) u.data] } ∧
    SameBut [.net, .host, .counters] s t := by
  let s1 := s.modPeer p n (fun v => { v with unacked := { u with resends := u.resends + 1 } :: rest })
  have h1 := modPeer_same p n (fun v => { v with unacked := { u with resends := u.resends + 1 } :: rest }) s
  have hp1 : s1.peer p n = { s.peer p n with unacked := { u with resends := u.resends + 1 } :: rest } := peer_modPeer_same p n _ s
  have ht : recordResend p n s = (count (portCtr (s.peer p n).port 2) 1 s1).emit (.frame (s.peer p n).port 2 (64 * p + n) u.data) := by
    unfold recordResend
    rw [hun]
    dsimp only
    rw [if_neg (by omega)]
    show resend p n u s1 = _
    unfold resend
    rw [hp1]
    rfl
  obtain ⟨hh, hc, hsame⟩ := countEmit_spec (portCtr (s.peer p n).port 2) (.frame (s.peer p n).port 2 (64 * p + n) u.data) s1
  rw [ht]
  exact ⟨hc.trans (by rw [SameBut.counter h1 (by simp)]), (SameBut.peer hsame (by simp) p n).trans hp1,
    hh.trans (by rw [SameBut.host h1 (by simp)]), (h1.mono (by simp)).trans (SameBut.mono hsame (by simp))⟩

theorem recordResend_gives_up {p n : Nat} {u : Unacked} {rest : List Unacked} (hun : (s.peer p n).unacked = u :: rest)
    (hmore : 8 ≤ u.resends) : recordResend p n s = peerDown p n s := by
  unfold recordResend
  rw [hun]
  exact if_pos hmore

/-! ## RoCEv2 peers -/

theorem rocePair_of {p n : Nat} (hup : s.portUp (s.peer p n).port = true) (hkind : (s.peer p n).kind = 2)
    (hdown : (s.peer p n).down = false) : s.rocePair p n = true := by
  simp [State.rocePair, hup, hkind, hdown]

theorem exec_roceTimeout (h : s.rocePair part peer = true) : exec (.roceTimeout part peer) s = .next (goBack part peer s) :=
  ifDue_of h

/-- A NAK goes back from the packet it names. -/
theorem exec_roceNak {psn : BitVec 24} (nak : Bool) (h : s.rocePair part peer = true)
    (hany : (s.peer part peer).sent.any (fun e => e.1 = psn.toNat) = true) : ∃ s1,
    exec (.roceNak part peer psn nak) s = .next (goBack part peer s1) ∧
    s1.peer part peer = { s.peer part peer with sent := (s.peer part peer).sent.dropWhile (fun e => e.1 ≠ psn.toNat) } ∧
    SameBut [.net] s s1 := by
  refine ⟨s.modPeer part peer (fun v => { v with sent := fromPsn psn.toNat v.sent }), ?_, ?_, modPeer_same _ _ _ s⟩
  · show execRoceNak part peer psn nak s = _
    unfold execRoceNak
    exact ifDue_of h
  · rw [peer_modPeer_same, fromPsn, if_pos hany]

/-- An acknowledgement frees the packets up to the one it names. -/
theorem exec_roceAck {psn : BitVec 24} (h : s.rocePair part peer = true) : exec (.roceAck part peer psn) s =
    .next (s.modPeer part peer (fun v => { v with sent := afterPsn psn.toNat v.sent,
                                                  retries := if v.sent.any (fun e => e.1 = psn.toNat) then 0 else v.retries })) := by
  show execRoceAck part peer psn s = _
  exact ifDue_of h

theorem exec_roceCnp (h : s.rocePair part peer = true) : exec (.roceCnp part peer) s =
    .next (count (portCtr (s.peer part peer).port 6) 1 (s.modPeer part peer (fun v => { v with rate := v.rate / 2 }))) := by
  show execRoceCnp part peer s = _
  exact ifDue_of h

theorem exec_roceRateRecover (h : s.rocePair part peer = true) : exec (.roceRateRecover part peer) s =
    .next (s.modPeer part peer (fun v => { v with rate := min 1000 (v.rate + 50) })) := by
  show execRoceRateRecover part peer s = _
  exact ifDue_of h

/-! ## PTP -/

theorem exec_ptpSync {port : Fin 2} {domain : BitVec 8} {two : Bool} {raw : Int} (h : s.ptpTakes port domain.toNat = true)
    (hslave : s.ptpSlave port = true) : exec (.ptpSync port domain two raw) s =
    .next (if two then s.modNet (fun n => { n with ptpHeld := some raw }) else syncInterval raw s) := by
  show execPtpSync port domain two raw s = _
  unfold execPtpSync
  exact ifDue_of (by simp [h, hslave])

theorem exec_followUp {port : Fin 2} {domain : BitVec 8} {raw : Int} (h : s.ptpTakes port domain.toNat = true)
    (hslave : s.ptpSlave port = true) : exec (.followUp port domain raw) s =
    .next (if s.net.ptpHeld.isSome then syncInterval raw s else s) := by
  show execFollowUp port domain raw s = _
  unfold execFollowUp ifDue
  rw [h, hslave]
  simp

theorem exec_delayResp {port : Fin 2} {domain : BitVec 8} {delay : Int} (h : s.ptpTakes port domain.toNat = true)
    (hslave : s.ptpSlave port = true) :
    exec (.delayResp port domain delay) s = .next (s.modNet (fun n => { n with ptpDelay := delay })) := by
  show execDelayResp port domain delay s = _
  unfold execDelayResp
  exact ifDue_of (by simp [h, hslave])

/-- An interval's offset decides the lock and steers the clock. -/
theorem syncInterval_spec (raw : Int) (s : State) : let off := raw - s.net.ptpDelay
    let t := syncInterval raw s
    t.net.ptpOffset = off ∧ t.net.ptpHeld = none ∧
    t.net.ptpGood = (if off.natAbs < 100 then min (s.net.ptpGood + 1) 16 else 0) ∧
    (1000 < off.natAbs → t.net.ptpLocked = false) ∧
    (off.natAbs ≤ 1000 → (t.net.ptpLocked = true ↔ s.net.ptpLocked = true ∨ t.net.ptpGood = 16)) ∧
    t.net.master = s.net.master ∧ t.net.peers = s.net.peers ∧ t.tb.tick = s.tb.tick ∧ t.tb.state = s.tb.state ∧
    SameBut [.net, .tb] s t := by
  intro off t
  have hlock : t.net.ptpLocked = if 1000 < off.natAbs then false else s.net.ptpLocked || t.net.ptpGood == 16 := rfl
  refine ⟨rfl, rfl, rfl, fun h => ?_, fun h => ?_, rfl, rfl, rfl, rfl, ?_⟩
  · rw [hlock, if_pos h]
  · rw [hlock, if_neg (by omega)]
    simp
  · intro q hq; cases q <;> first | rfl | simp at hq

/-- The first master announced is taken. -/
theorem exec_announce_first {port : Fin 2} {domain : BitVec 8} {rank : Nat} {master : BitVec 64}
    (h : s.ptpTakes port domain.toNat = true) (hnone : s.net.master = none) : exec (.announce port domain rank master) s =
    .next { s with net := { s.net with master := some (port.val, rank, master.toNat) } } := by
  show execAnnounce port domain rank master s = _
  refine (ifDue_of h).trans ?_
  unfold State.modNet
  dsimp only
  rw [hnone]

/-- Of two masters the better one is kept. -/
theorem exec_announce_next {port : Fin 2} {domain : BitVec 8} {rank r i : Nat} {master : BitVec 64}
    (h : s.ptpTakes port domain.toNat = true) (hsome : s.net.master = some (port.val, r, i)) :
    exec (.announce port domain rank master) s = .next (
      if i = master.toNat ∨ rank < r ∨ rank = r ∧ master.toNat < i
      then { s with net := { s.net with master := some (port.val, rank, master.toNat) } } else s) := by
  show execAnnounce port domain rank master s = _
  refine (ifDue_of h).trans ?_
  unfold State.modNet
  dsimp only
  rw [hsome]
  dsimp only
  by_cases hc : i = master.toNat ∨ rank < r ∨ rank = r ∧ master.toNat < i
  · rw [if_pos hc, if_pos (by simpa [or_assoc] using hc)]
  · rw [if_neg hc, if_neg (by simpa [or_assoc] using hc), ← hsome]

end

/-- Messages on a port that is up. -/
theorem messages_serve (m : MsgHdr) (s : State) (hruns : s.netRuns = true) (hlink : (s.port m.port).link = 2) :
    let one := fun (i : Nat) (t : State) =>
      t.counter (portCtr m.port i) = min (s.counter (portCtr m.port i) + 1) (counterMax (portCtr m.port i))
    let sent := fun (kind dest : Nat) (t : State) => ∃ b, t.host = { s.host with out := s.host.out ++ [.frame m.port kind dest b] }
    (∀ a b c d e, m.type = 1 → m.magic ≠ 0x4B54 → Completes (.hello m a b c d e) s (fun t => one 3 t ∧ SameBut [.counters] s t)) ∧
    (∀ a b c d e, m.magic = 0x4B54 → m.level.toNat ≠ 1 → m.level.toNat ≠ 2 → m.type = 1 → s.peerOf? m 1 = none →
      Completes (.hello m a b c d e) s (fun t => one 4 t ∧ sent 1 (65536 + m.srcNode.toNat) t ∧ SameBut [.host, .counters] s t)) ∧
    (∀ p n, m.magic = 0x4B54 → m.level.toNat = 1 ∨ m.level.toNat = 2 →
      let v := s.peer p n
      let kept := v.unacked.filter (fun u => decide (m.ack.toNat < u.seq))
      (s.peerOf? m 1 = some (p, n) →
        (∀ a highest c d e, m.type = 1 → v.down = false → Completes (.hello m a highest c d e) s (fun t => one 1 t ∧
          t.peer p n = { v with level := clampN highest.toNat 1 2, unacked := kept } ∧ SameBut [.net, .counters] s t)) ∧
        (∀ data, m.type = 2 → WellFormed.message data = true → v.port = m.port.val → Completes (.record m data) s (fun t => one 1 t ∧
          sent 3 (64 * p + n) t ∧ (t.peer p n).unacked = kept ∧ (t.peer p n).level = v.level ∧
          (t.peer p n).seqIn = (if m.seq.toNat = v.seqIn + 1 then m.seq.toNat else v.seqIn) ∧
          (m.seq.toNat ≠ v.seqIn + 1 → (t.peer p n).inbox = v.inbox) ∧ SameBut [.net, .host, .counters] s t)) ∧
        (m.type = 3 → Completes (.ack m) s (fun t => one 1 t ∧ t.peer p n = { v with unacked := kept } ∧
          SameBut [.net, .counters] s t))) ∧
      (s.peerOf? m 2 = some (p, n) → m.level.toNat = 2 → m.type = 4 → v.port = m.port.val → ∀ offset : BitVec 64,
        Completes (.ringCredit m offset) s (fun t => one 1 t ∧ sent 3 (64 * p + n) t ∧ (t.peer p n).sent = v.sent ∧
          (m.seq.toNat ≤ v.seqIn → t.peer p n = v) ∧
          (v.seqIn < m.seq.toNat → (t.peer p n).seqIn = m.seq.toNat ∧
            (t.peer p n).readOff = offset.toNat % 2 ^ clampN (bits (v.w 12) 0 5) 12 30 / 64 * 64) ∧
          SameBut [.net, .host, .counters] s t))) ∧
    (∀ offset n, m.type = 5 → m.magic = 0x4B54 → m.level.toNat = 2 →
      (bit ((s.port m.port).w 9) 11 = true → Completes (.traceRead m offset n) s (fun t =>
        sent 6 (65536 + m.srcNode.toNat) t ∧ SameBut [.host] s t)) ∧
      (bit ((s.port m.port).w 9) 11 = false → exec (.traceRead m offset n) s = .next s)) := by
  intro one sent
  have hup := portUp_of hruns hlink
  have htypeNat {k : Nat} (hk : k < 256) (h : m.type = BitVec.ofNat 8 k) : m.type.toNat = k := by
    rw [h, BitVec.toNat_ofNat, Nat.mod_eq_of_lt hk]
  refine ⟨fun a b c d e htype hmagic => ?_, fun a b c d e hmagic h1 h2 htype hpeer => ?_,
    fun p n hmagic hlevel => ⟨fun hpeer => ⟨fun a highest c d e htype hdown => ?_, fun data htype hform hport => ?_, fun htype => ?_⟩,
      fun hpeer hlevel2 htype hport offset => ?_⟩, fun offset n htype hmagic hlevel2 => ⟨fun hmgmt => ?_, fun hmgmt => ?_⟩⟩
  · exact ⟨_, (exec_hello htype hup).trans (by rw [receive_foreign hmagic]), dropped_spec _ s⟩
  · exact ⟨_, (exec_hello htype hup).trans (by rw [receive_level hmagic (msgOk_unknown h1 h2)]), levelDrop_stranger hpeer⟩
  · have hok := msgOk_low hlevel (by rw [htypeNat (k := 1) (by decide) htype]; decide)
    exact ⟨_, (exec_hello htype hup).trans (by rw [receive_ok hmagic hok]), takeHello_spec hpeer hdown⟩
  · have hok := msgOk_low hlevel (by rw [htypeNat (k := 2) (by decide) htype]; decide)
    obtain ⟨hc, hh, hp, hsame⟩ := takeRecord_spec data hpeer hport
    obtain ⟨-, hun, hlev, hseq, hin⟩ := Peer.recorded_rest (s.peer p n) m data
    refine ⟨_, (exec_record htype hform hup).trans (by rw [receive_ok hmagic hok]), hc, hh, ?_⟩
    rw [hp]
    exact ⟨hun, hlev, hseq, hin, hsame⟩
  · have hok := msgOk_low hlevel (by rw [htypeNat (k := 3) (by decide) htype]; decide)
    exact ⟨_, exec_ack htype hup hmagic hok hpeer, takeAck_spec p n _ m s⟩
  · have hok := msgOk_high hlevel2 (by rw [htypeNat (k := 4) (by decide) htype]; decide)
    obtain ⟨hc, hh, hp, hsame⟩ := takeCredit_spec offset.toNat hpeer hport
    refine ⟨_, (exec_ringCredit htype hup).trans (by rw [receive_ok hmagic hok]), hc, hh, ?_⟩
    rw [hp, Peer.credited]
    refine ⟨?_, fun h => if_pos h, fun h => ?_, hsame⟩
    · split <;> rfl
    · rw [if_neg (by omega)]
      exact ⟨rfl, rfl⟩
  · have hok := msgOk_high hlevel2 (by rw [htypeNat (k := 5) (by decide) htype]; decide)
    obtain ⟨b, hexec⟩ := exec_traceRead (offset := offset) (len := n) htype hup hmagic hok hmgmt
    exact ⟨_, hexec, ⟨b, rfl⟩, emit_same _ s⟩
  · exact exec_traceRead_off htype hmgmt

/-- What going back to a peer's record leaves, by what is unacknowledged and how often it was tried. -/
theorem goBack_completes {c : Instr} {s s1 : State} {p n : Nat} {w : Peer} (hexec : exec c s = .next (goBack p n s1))
    (hw : s1.peer p n = w) (hport : w.port = (s.peer p n).port) (h1 : SameBut [.net] s s1) :
    let v := s.peer p n
    (w.sent = [] → Completes c s (fun t => t.peer p n = w ∧ SameBut [.net] s t)) ∧
    (w.sent ≠ [] → w.retries < 7 → Completes c s (fun t => t.peer p n = { w with retries := w.retries + 1 } ∧
      t.host = { s.host with out := s.host.out ++ w.sent.map (fun e => .frame v.port (e.2.headD 0).toNat (64 * p + n) (e.2.drop 1)) } ∧
      t.counter (portCtr v.port 5) = min (s.counter (portCtr v.port 5) + 1) (counterMax (portCtr v.port 5)) ∧
      SameBut [.net, .host, .counters] s t)) ∧
    (w.sent ≠ [] → 7 ≤ w.retries → Completes c s (fun t => t.peer p n = { w with down := true } ∧
      SameBut [.net, .funnels, .trace] s t)) := by
  intro v
  subst hw
  refine ⟨fun hsent => ⟨_, hexec, ?_⟩, fun hsent hmore => ⟨_, hexec, ?_⟩, fun hsent hmore => ⟨_, hexec, ?_⟩⟩
  · rw [goBack_nothing hsent]
    exact ⟨rfl, h1⟩
  · obtain ⟨hp, hh, hc, hsame⟩ := goBack_again hsent hmore
    refine ⟨hp, ?_, ?_, (h1.mono (by simp)).trans hsame⟩
    · rw [hh, SameBut.host h1 (by simp), resent, hport]
    · rw [hport] at hc
      rw [hc, SameBut.counter h1 (by simp)]
  · rw [goBack_gives_up hsent hmore]
    obtain ⟨hp, hsame⟩ := peerDown_spec p n s1
    exact ⟨hp, (h1.mono (by simp)).trans hsame⟩

/-- Settles O59: each clause is the lemma about what its message or timer does. -/
theorem theNetworkServesItsPeers : Obligations.TheNetworkServesItsPeers := by
  unfold Obligations.TheNetworkServesItsPeers
  refine ⟨?_, messages_serve, ?_, ?_, ?_⟩
  · intro port s hruns v one sent
    obtain ⟨hlinks, hdown⟩ := port_links port s hruns
    exact ⟨hlinks, hdown, fun hlink => port_serves port s hruns hlink⟩
  · intro p n s hruns hlink hdown v one again back
    have hup := portUp_of hruns hlink
    refine ⟨fun u rest hkind hun => ⟨fun hmore => ?_, fun hmore => ?_⟩, fun hkind => ?_⟩
    · exact ⟨_, exec_recordResend hup hkind hdown, recordResend_again hun hmore⟩
    · refine ⟨_, exec_recordResend hup hkind hdown, ?_⟩
      rw [recordResend_gives_up hun hmore]
      exact peerDown_spec p n s
    · have hpair := rocePair_of hup hkind hdown
      refine ⟨goBack_completes (exec_roceTimeout hpair) rfl rfl (.refl _ s), fun psn nak hany => ?_, fun psn hany => ?_,
        fun psn hany => ?_, ?_, ⟨_, exec_roceRateRecover hpair, peer_modPeer_same _ _ _ s, modPeer_same _ _ _ s⟩⟩
      · obtain ⟨s1, hexec, hp, hsame⟩ := exec_roceNak nak hpair hany
        exact goBack_completes hexec hp rfl hsame
      · refine ⟨_, exec_roceAck hpair, ?_, modPeer_same _ _ _ s⟩
        rw [peer_modPeer_same, afterPsn, if_pos hany, if_pos hany]
      · refine ⟨_, exec_roceAck hpair, ?_, modPeer_same _ _ _ s⟩
        have hnone := ne_true_of_eq_false hany
        rw [peer_modPeer_same, afterPsn, if_neg hnone, if_neg hnone]
      · have h1 := modPeer_same p n (fun v => { v with rate := v.rate / 2 }) s
        have h2 := count_same (portCtr v.port 6) 1 (s.modPeer p n (fun v => { v with rate := v.rate / 2 }))
        refine ⟨_, exec_roceCnp hpair, ?_, ?_, (h1.mono (by simp)).trans (h2.mono (by simp))⟩
        · exact (SameBut.peer h2 (by simp) p n).trans (peer_modPeer_same p n _ s)
        · refine (counter_count _ _ _ (by decide)).trans ?_
          rw [SameBut.counter h1 (by simp)]
  · intro port domain s htakes off taken
    refine ⟨fun hslave => ⟨fun raw => ?_, fun raw => ?_, fun raw hheld => ?_, fun raw hheld => ?_, fun delay => ?_⟩,
      fun rank master => ⟨fun hbest => ?_, fun r i hm hi hr => ?_⟩⟩
    · exact ⟨_, exec_ptpSync htakes hslave, syncInterval_spec raw s⟩
    · exact ⟨_, exec_ptpSync htakes hslave, rfl⟩
    · refine ⟨_, (exec_followUp htakes hslave).trans (by rw [if_pos (Option.isSome_iff_ne_none.2 hheld)]), syncInterval_spec raw s⟩
    · rw [exec_followUp htakes hslave, if_neg (by simp [hheld])]
    · exact ⟨_, exec_delayResp htakes hslave, rfl⟩
    · rcases hbest with hnone | ⟨r, i, hm, hlt⟩
      · exact ⟨_, exec_announce_first htakes hnone, rfl⟩
      · exact ⟨_, (exec_announce_next htakes hm).trans (by rw [if_pos (.inr hlt)]), rfl⟩
    · exact ⟨_, (exec_announce_next htakes hm).trans (by rw [if_neg (by omega)]), rfl⟩
  · intro s hs
    refine ⟨s.modNet (fun n => { n with ptpLocked := false, ptpGood := 0, ptpHeld := none }), ?_, rfl⟩
    show execPtpSyncTimeout s = _
    exact ifDue_of (served_of hs)

end Sys2Proof.Machine
end

section
/-! PROOF. Saturations of one layer that reach the threshold of another layer of the kernel (R105, R106). -/

namespace Sys2Proof.Machine

open Sys2Proof.Safety

/-! ## A machine whose window saturates -/

/-- A layer without SAT_THRESHOLD that reads two one-row items from the window, with a static scale. -/
def saturatingLayer : Layer :=
  { slotLayer with
    batch := 2
    templates := [{ tile := 0, pair := false, rowMask := false, colMask := false, part := 0, rowFirst := 0, rowCount := 1, inOffset := 0,
                    maskIndex := 0, colFirst := 0, colCount := 1 }] }

/-- A kernel of that layer and of one after it whose SAT_THRESHOLD is 1. -/
def saturatingPart : Part :=
  { core := 0, entryAtDispatch := true, banked := false, entryCounter := 0, entryValue := 0, counters := 0, actBase := 0, actBytes := 131072,
    maskBase := 0, consts := [], constDest := 0, inboxBase := 0, inboxBytes := 0, queue := none,
    steps := [.layer saturatingLayer, .layer { slotLayer with satThreshold := 1 }] }

def saturatingKernel : Kernel := { slotKernel with parts := [saturatingPart] }

/-- A window of one sample. -/
def saturatingWindow : Window :=
  { k := 0, kernel := saturatingKernel, sched := [], first256 := 0, last256 := 0, stream := 0, start := 0, len := 1, padLead := 0, padTo := 0,
    iq := false, marks := [], readyClk := 0 }

def saturatingRun : Run := { slotRun with kernel := saturatingKernel, window := some saturatingWindow }

def saturatingLoop : Loop := Loop.start saturatingLayer true

def saturatingQueue : Queue :=
  { ctx := 0, run := 1, part := 0, step := 0, stall := .none, loop := some saturatingLoop, readout := none, progressClk := 0, resumptions := 0,
    entryClk := 0, stallClk := 0 }

def saturatingCtx : Ctx := { Ctx.blank 0 2 with run := some 1, kernel := some saturatingKernel }

/-- A ready machine whose flow's window holds a sample beyond the layer's scale. -/
def saturating : State :=
  { State.reset with
    power := { Power.start with startup := .none, ready := true }
    ingest := { State.reset.ingest with rings := [(0, { Ring.empty 1024 with data := [(0, (1048576, 0))], next := 1 })] }
    flows := { Flows.start with ctxs := [(0, saturatingCtx)], nextRun := 2, runs := [(1, saturatingRun)] }
    cores := [(0, { Core.start 0 with queues := [(0, saturatingQueue)] })] }

/-- The layer's queue. -/
def saturatingHead : Head :=
  { v := saturatingQueue, run := saturatingRun, ctx := saturatingCtx, part := saturatingPart, step := .layer saturatingLayer }

theorem head_saturating : saturating.head? 0 0 = some saturatingHead := by
  rw [head?_eq_some]
  and_intros <;> rfl

/-- The events that wait for partition 0 after a step. -/
def waitingAfter : Answer → Nat
  | .next t => (t.funnel 0).waiting.length
  | _ => 0

/-- What the statement asks of the machine holds; the window has saturated nowhere yet. -/
theorem saturating_codes : saturating.coresRun = true ∧ saturating.coreUp 0 = true ∧ uncoded saturatingLoop = some 0 ∧
    1 ∈ saturatingLoop.items ∧ (scaleOf saturatingLayer.staticScale).mant ≠ 0 ∧ saturatingLoop.out.length < saturatingLayer.batch := by
  and_intros <;> decide +kernel

/-- QUANT_SAT is raised to the partition. -/
theorem waitingAfter_saturating : waitingAfter (exec (.scoopCodes 0 0) saturating) = 1 := by decide +kernel

/-- Refutes O54: the premises of the SCOOP_CODES clause ask for SAT_THRESHOLD 0 of the layer at hand only. Its saturations count for the
whole window, so where they reach the threshold of another layer of the kernel QUANT_SAT is raised, which enters the trace and the
partition's funnel (R105, R106); the clause has only cores, flows and counters change. -/
theorem not_layersAreComputed : ¬ Obligations.LayersAreComputed := by
  intro hall
  obtain ⟨hrun, hup, hcode, hitem, hmant, hout⟩ := saturating_codes
  obtain ⟨hscoop, -⟩ := hall.1 0 0 saturating saturatingHead saturatingLayer saturatingLoop head_saturating rfl rfl hrun
  obtain ⟨t, hexec, -, -, -, -, -, -, -, hsame⟩ := hscoop saturatingWindow 0 1 hup hcode hitem (by decide) (by intro c hc; cases hc) rfl rfl rfl
    hmant (by decide) rfl rfl rfl rfl hout rfl
  have hone := waitingAfter_saturating
  rw [hexec] at hone
  have hnone : (t.funnel 0).waiting.length = 0 := by
    rw [SameBut.funnel hsame (by simp)]
    rfl
  exact Nat.zero_ne_one (hnone.symm.trans hone)

end Sys2Proof.Machine
end
